-- ==== Sys2Proof/Word.lean ====
section
/-! DEFINITION. The words of the ZG9160: bytes and 32-bit register words. -/

namespace Sys2Proof

/-- A byte of a payload, a window or a wire (R4). -/
abbrev Byte := BitVec 8

/-- A 32-bit register word (R62). -/
abbrev Word := BitVec 32

end Sys2Proof
end

