-- ==== Sys2Proof/Syntax.lean ====
section
/-! DEFINITION. The commands of the ZG9160, one constructor per row of spec/opcode_table.json.
Every constructor's first operand `t` is the instant of the command in ns (log entry 4).
The row and the rule stand in each constructor's docstring. -/

namespace Sys2Proof

/-- A frame on a control bus, as far as a controller has received it (R122). -/
structure BusFrame where
  /-- 0 classical, 1 FD, 2 XL. -/
  kind : Nat := 0
  /-- Extended format. -/
  xtd : Bool := false
  /-- Remote frame. -/
  remote : Bool := false
  /-- Bit-rate switch. -/
  brs : Bool := false
  /-- Error state indicator. -/
  esi : Bool := false
  /-- Identifier, 11 or 29 bits. -/
  id : Nat := 0
  /-- Data field. -/
  data : List Byte := []
  /-- XL SDT. -/
  sdt : Nat := 0
  /-- XL VCID. -/
  vcid : Nat := 0
  /-- XL SEC. -/
  sec : Bool := false
  /-- XL acceptance field. -/
  af : Nat := 0
  deriving DecidableEq, Repr

/-- The kinds of bus error that R148 counts. -/
inductive BusErr where
  | bit | stuff | crc | form | ack
  deriving DecidableEq, Repr

/-- What a step of the error counters of ISO 11898-1 answers to (R127). -/
inductive BusStep where
  /-- An error in a frame: whether a transmitter that saw no acknowledge saw a dominant bit during its passive error flag,
  and whether the error lies in an XL data phase. -/
  | frame (dominant xlData : Bool)
  /-- A stuff error of a transmitter in arbitration, at a stuff bit sent recessive and seen dominant. -/
  | arbStuff
  /-- A bit error in an active error flag or in an overload flag. -/
  | flagBit
  /-- A receiver sees a dominant bit right after its error flag. -/
  | firstDominant
  /-- A further run of dominant bits after a flag: 14 or 8 bits, then each 8 more. -/
  | dominantRun
  deriving DecidableEq, Repr

/-- How the other device that a commit spans answers it (R92, R93, R216, R334). -/
inductive Partner where
  /-- It prepares, and switches at the commit point. -/
  | ready
  /-- It fails to prepare, with a status and its `DETAIL`. -/
  | refused (status detail : Nat)
  /-- It has not answered yet. -/
  | silent
  /-- A unit of it faults while switching, and is back. -/
  | faulted (island unit fs : Nat)
  deriving DecidableEq, Repr

/-- How a two-phase commit of rules or of the signal map goes beyond its own firmware (R92, R93). -/
structure CommitFate where
  /-- The units, as island * 64 + unit, that do not switch at the commit point. -/
  stuck : List Nat := []
  /-- What the device that the commit spans answers. -/
  partner : Partner := .ready
  deriving DecidableEq, Repr

/-- A PCIe read whose completion does not come (R64, R419). -/
structure TimedRead where
  /-- It reads packet data, not a descriptor. -/
  data : Bool
  /-- The descriptors of the transmit frame whose data it reads. -/
  descs : List Byte := []
  deriving DecidableEq, Repr

/-- What a transmit frame meets on its way from a ring (R418, R248). -/
structure TxRead where
  /-- A read fails: of the data where descriptors were read, else of a descriptor. -/
  fail : Bool := false
  /-- The table entries whose parity check fails. -/
  parity : List (Nat × Nat) := []
  deriving DecidableEq, Repr

/-- A PAUSE frame (R166). -/
structure PauseFrame where
  dst : List Byte
  quanta : Nat
  deriving DecidableEq, Repr

/-- A channel of the strait fabric, seen from the island that waits (R20). -/
structure Channel where
  near : Fin 7
  far : Fin 7
  deriving DecidableEq, Repr

/-- The regeneration of the PUF (R454, R586). -/
structure PufResult where
  ok : Bool
  /-- Which settings sets check. -/
  sets : Nat
  deriving DecidableEq, Repr

/-- What a host unmasks in the MSI-X capability or table (R63). -/
inductive MsixUnmask where
  | vector (v : Fin 32)
  | function
  | enable
  deriving DecidableEq, Repr

/-- The JTAG instructions (R616). -/
inductive JtagInstr where
  | bypass | idcode | sample | extest | clamp | highz
  deriving DecidableEq, Repr

/-- What the partner's lease pair is seen to say (R487). -/
inductive LeasePair where
  | held | notHeld | broken
  deriving DecidableEq, Repr

/-- What a wake detector sees (R542 to R544, R175, R176). -/
inductive WakeStim where
  /-- A correct frame on a bus, with its DLC. -/
  | busFrame (b : Fin 32) (f : BusFrame) (dlc : Nat)
  /-- An error that the detector of a bus finds. -/
  | busError (b : Fin 32)
  /-- The basic wake-up pattern on a bus. -/
  | busWakeUp (b : Fin 32)
  /-- A frame on a port whose FCS checks, with the instant of its first byte. -/
  | ethFrame (p : Fin 24) (bytes : List Byte) (began : Nat)
  /-- Signal energy on a 10BASE-T1S segment, with its length in ns. -/
  | segment (p : Fin 24) (ns : Nat)
  /-- `SPI_CS_N` low, with its length in ns. -/
  | spiSelect (ns : Nat)
  /-- The wake alarm of the real-time counter. -/
  | alarm
  /-- A change on the lease inputs, with its length in ns. -/
  | leaseChange (ns : Nat)
  deriving DecidableEq, Repr

/-- How a frame enters the Forwarding Island (R18, R28). -/
inductive Entry where
  /-- Its packet goes to the Forwarding Island and waits its turn in the parser input queue of its port. -/
  | queued
  /-- The parser input queue of its port is full. -/
  | full
  /-- Its packet carries `ISLAND` 7 in its strait header. -/
  | stray
  deriving DecidableEq, Repr

/-- What a frame meets on its way into the Forwarding Island. -/
structure Arrival where
  entry : Entry := .queued
  /-- The table entries whose parity check fails (R248). -/
  parity : List (Nat × Nat) := []
  deriving DecidableEq, Repr

/-- The commands: every row of spec/opcode_table.json. -/
inductive Instr where
  /-- `DEV_IDENTIFY` (R98). Command dev.identify returns the device identity, firmware release and cascade strap. -/
  | devIdentify (t : Nat) (m : Fin 8)
  /-- `DEV_STATE` (R98). Command dev.state returns STATE, the island states and a first-fault summary. -/
  | devState (t : Nat) (m : Fin 8)
  /-- `DEV_CONFIG` (R15). Command dev.config sets the island power holds and the strait timeouts per island. -/
  | devConfig (t : Nat) (m : Fin 8)
  /-- `DEV_SNAP` (R101). Command dev.snap takes a counter snapshot at one instant, or returns a page of the held snapshot. -/
  | devSnap (t : Nat) (m : Fin 8)
  /-- `DEV_SNAP_CLEAR` (R101). Command dev.snap.clear snapshots the counters in scope and clears them and their saturation flags at that instant. -/
  | devSnapClear (t : Nat) (m : Fin 8)
  /-- `DEV_RESTART` (R98). Command dev.restart restarts a named island or unit. -/
  | devRestart (t : Nat) (m : Fin 8)
  /-- `DEV_SAFE` (R471). Command dev.safe responds and then puts the device into the safe state. -/
  | devSafe (t : Nat) (m : Fin 8)
  /-- `ETH_CONFIG` (R185). Command eth.config sets the port mode, speed, filters, tag mode and cut-through eligibility. -/
  | ethConfig (t : Nat) (m : Fin 8)
  /-- `ETH_ENABLE` (R152). Command eth.enable brings the port up. -/
  | ethEnable (t : Nat) (m : Fin 8)
  /-- `ETH_DISABLE` (R153). Command eth.disable stops the port, completes its frame in flight and flushes its queues. -/
  | ethDisable (t : Nat) (m : Fin 8)
  /-- `ETH_STATUS` (R190). Command eth.status returns the link, rate and pause state. -/
  | ethStatus (t : Nat) (m : Fin 8)
  /-- `ETH_PAUSE_CONFIG` (R187). Command eth.pause.config sets the watermarks and quanta and judges the present ingress share at once. -/
  | ethPauseConfig (t : Nat) (m : Fin 8)
  /-- `ETH_WAKE_PATTERN` (R188). Command eth.wake.pattern loads the magic packet setting or one wake pattern. -/
  | ethWakePattern (t : Nat) (m : Fin 8)
  /-- `ETH_STEPDOWN_CONFIG` (R189). Command eth.stepdown.config enables or disables causeway speed step-down. -/
  | ethStepdownConfig (t : Nat) (m : Fin 8)
  /-- `BUS_CONFIG` (R144). Command bus.config sets the bit timing, frame kinds and options of a controller. -/
  | busConfig (t : Nat) (m : Fin 8)
  /-- `BUS_ENABLE` (R138). Command bus.enable starts bus integration, or resumes a kept bus-off recovery. -/
  | busEnable (t : Nat) (m : Fin 8)
  /-- `BUS_DISABLE` (R139). Command bus.disable stops refill, drains the buffers up to DRAIN_LIMIT and leaves the bus. -/
  | busDisable (t : Nat) (m : Fin 8)
  /-- `BUS_FILTER_LOAD` (R145). Command bus.filter.load replaces the receive filter list as a whole. -/
  | busFilterLoad (t : Nat) (m : Fin 8)
  /-- `BUS_RECOVER` (R128). Command bus.recover starts the bus-off recovery count. -/
  | busRecover (t : Nat) (m : Fin 8)
  /-- `BUS_MODE` (R140). Command bus.mode orders a change between normal and restricted operation. -/
  | busMode (t : Nat) (m : Fin 8)
  /-- `BUS_STATUS` (R146). Command bus.status returns the error state, TEC, REC and buffer contents. -/
  | busStatus (t : Nat) (m : Fin 8)
  /-- `PARSE_GRAPH_LOAD` (R220). Command parse.graph.load stages a chunk of a parse graph image and checks the image at its last chunk. -/
  | parseGraphLoad (t : Nat) (m : Fin 8)
  /-- `PARSE_SELECT` (R193). Command parse.select selects the graph parser or the groundsheet parser. -/
  | parseSelect (t : Nat) (m : Fin 8)
  /-- `RULE_STAGE` (R221). Command rule.stage stages rule additions and deletions. -/
  | ruleStage (t : Nat) (m : Fin 8)
  /-- `RULE_COMMIT` (R216). Command rule.commit writes the inactive bank and switches to a new rule version as a two-phase command. -/
  | ruleCommit (t : Nat) (m : Fin 8) (fate : CommitFate)
  /-- `RULE_STATUS` (R222). Command rule.status returns the live versions and the staging state. -/
  | ruleStatus (t : Nat) (m : Fin 8)
  /-- `POLICER_CONFIG` (R223). Command policer.config sets a two-rate policer and fills both of its buckets. -/
  | policerConfig (t : Nat) (m : Fin 8)
  /-- `TBL_ROUTE_ADD` (R233). Command tbl.route.add makes prefixes visible one by one in record order. -/
  | tblRouteAdd (t : Nat) (m : Fin 8)
  /-- `TBL_ROUTE_DEL` (R250). Command tbl.route.del removes prefixes. -/
  | tblRouteDel (t : Nat) (m : Fin 8)
  /-- `TBL_L2_CONFIG` (R251). Command tbl.l2.config sets the learning limits, excess action, flap settings and router addresses. -/
  | tblL2Config (t : Nat) (m : Fin 8)
  /-- `TBL_L2_FLUSH` (R242). Command tbl.l2.flush removes the matching L2 entries at its flush instant. -/
  | tblL2Flush (t : Nat) (m : Fin 8)
  /-- `TBL_DIRECT_WRITE` (R253). Command tbl.direct.write writes VLAN or stream-handle entries, or stages bus identifier entries. -/
  | tblDirectWrite (t : Nat) (m : Fin 8)
  /-- `TBL_READ` (R254). Command tbl.read returns table entries from the shadow copy. -/
  | tblRead (t : Nat) (m : Fin 8)
  /-- `SW_POOL_CONFIG` (R260). Command sw.pool.config sets the pool sizes and the pool assignment without evicting anything. -/
  | swPoolConfig (t : Nat) (m : Fin 8)
  /-- `SW_CLASS_CONFIG` (R270). Command sw.class.config sets the age limit of each class. -/
  | swClassConfig (t : Nat) (m : Fin 8)
  /-- `SW_PORT_CONFIG` (R290). Command sw.port.config sets cut-through, PCP trust, the default class and the port-hold window. -/
  | swPortConfig (t : Nat) (m : Fin 8)
  /-- `SW_SCHED_CONFIG` (R291). Command sw.sched.config sets DRR_TOP, the idle slopes and the quanta. -/
  | swSchedConfig (t : Nat) (m : Fin 8)
  /-- `SW_STATUS` (R292). Command sw.status returns the pool or port queue occupancy. -/
  | swStatus (t : Nat) (m : Fin 8)
  /-- `SIG_MAP_LOAD` (R331). Command sig.map.load stages a chunk of an Ikisil image and checks the image at its last chunk. -/
  | sigMapLoad (t : Nat) (m : Fin 8)
  /-- `SIG_MAP_COMMIT` (R334). Command sig.map.commit commits the staged image as a new map version as a two-phase command. -/
  | sigMapCommit (t : Nat) (m : Fin 8) (fate : CommitFate)
  /-- `SIG_READ` (R328). Command sig.read returns committed slots in one pass. -/
  | sigRead (t : Nat) (m : Fin 8)
  /-- `SIG_WRITE` (R329). Command sig.write commits host values to the writable slots as confirmed values. -/
  | sigWrite (t : Nat) (m : Fin 8)
  /-- `SIG_TRIGGER_FIRE` (R317). Command sig.trigger.fire fires the named on-request triggers at one instant. -/
  | sigTriggerFire (t : Nat) (m : Fin 8)
  /-- `SIG_STATUS` (R338). Command sig.status returns the map version and the engine load. -/
  | sigStatus (t : Nat) (m : Fin 8)
  /-- `TIME_DOMAIN_CONFIG` (R369). Command time.domain.config sets a domain, the port latencies or the capture pins. -/
  | timeDomainConfig (t : Nat) (m : Fin 8)
  /-- `TIME_SERVO_CONFIG` (R371). Command time.servo.config sets the servo gains or the slew limits. -/
  | timeServoConfig (t : Nat) (m : Fin 8)
  /-- `TIME_TRIGGER_SET` (R360). Command time.trigger.set arms a time trigger against the horizon. -/
  | timeTriggerSet (t : Nat) (m : Fin 8)
  /-- `TIME_TRIGGER_CLEAR` (R362). Command time.trigger.clear disarms a time trigger. -/
  | timeTriggerClear (t : Nat) (m : Fin 8)
  /-- `TIME_CAPTURE_READ` (R373). Command time.capture.read returns and removes the TIME_IN captures of a pin. -/
  | timeCaptureRead (t : Nat) (m : Fin 8)
  /-- `TIME_STATUS` (R374). Command time.status returns the active time and the domain states. -/
  | timeStatus (t : Nat) (m : Fin 8)
  /-- `AUD_PORT_CONFIG` (R379). Command aud.port.config configures a TDM port. -/
  | audPortConfig (t : Nat) (m : Fin 8)
  /-- `AUD_STREAM_CONFIG` (R392). Command aud.stream.config configures an AAF talker or listener. -/
  | audStreamConfig (t : Nat) (m : Fin 8)
  /-- `AUD_ROUTE_SET` (R384). Command aud.route.set sets crosspoints and their gains. -/
  | audRouteSet (t : Nat) (m : Fin 8)
  /-- `AUD_ZONE_CONFIG` (R386). Command aud.zone.config sets a zone's outputs, ducking and ramps. -/
  | audZoneConfig (t : Nat) (m : Fin 8)
  /-- `AUD_ANNOUNCE_START` (R387). Command aud.announce.start starts an announcement at a level in its zones. -/
  | audAnnounceStart (t : Nat) (m : Fin 8)
  /-- `AUD_ANNOUNCE_STOP` (R389). Command aud.announce.stop ends an announcement. -/
  | audAnnounceStop (t : Nat) (m : Fin 8)
  /-- `AUD_LIBRARY_LOAD` (R390). Command aud.library.load writes a chunk of a library message. -/
  | audLibraryLoad (t : Nat) (m : Fin 8)
  /-- `TIDE_QUEUE_CONFIG` (R422). Command tide.queue.config sets the queue size, spill and level. -/
  | tideQueueConfig (t : Nat) (m : Fin 8)
  /-- `TIDE_QUEUE_RESET` (R421). Command tide.queue.reset empties a queue and counts the packets discarded. -/
  | tideQueueReset (t : Nat) (m : Fin 8)
  /-- `DMA_RING_CONFIG` (R423). Command dma.ring.config sets a ring's base, size and binding and resets its head and tail. -/
  | dmaRingConfig (t : Nat) (m : Fin 8)
  /-- `DMA_RING_ENABLE` (R421). Command dma.ring.enable starts a ring. -/
  | dmaRingEnable (t : Nat) (m : Fin 8)
  /-- `DMA_RING_DISABLE` (R421). Command dma.ring.disable stops a ring. -/
  | dmaRingDisable (t : Nat) (m : Fin 8)
  /-- `KEY_DERIVE` (R442). Command key.derive derives a child slot, or installs a key into one. -/
  | keyDerive (t : Nat) (m : Fin 8)
  /-- `KEY_REVOKE` (R447). Command key.revoke empties a slot and all its descendants at one instant. -/
  | keyRevoke (t : Nat) (m : Fin 8)
  /-- `KEY_ATTR_SET` (R459). Command key.attr.set changes a slot's engines, use limit or EXPIRE. -/
  | keyAttrSet (t : Nat) (m : Fin 8)
  /-- `KEY_INFO` (R459). Command key.info returns slot attributes, the tamper record or the enrolment state. -/
  | keyInfo (t : Nat) (m : Fin 8)
  /-- `KEY_ENROL` (R456). Command key.enrol enrols the PUF once and writes the helper data to OTP. -/
  | keyEnrol (t : Nat) (m : Fin 8) (verified : Bool)
  /-- `KEY_TAMPER_CONFIG` (R460). Command key.tamper.config sets the tamper enables, polarities and wipe options. -/
  | keyTamperConfig (t : Nat) (m : Fin 8)
  /-- `FAULT_CONFIG` (R481). Command fault.config sets the severity, budget and quiet period of a range of sources. -/
  | faultConfig (t : Nat) (m : Fin 8)
  /-- `FAULT_FORCE` (R477). Command fault.force sets or releases the force value of a source. -/
  | faultForce (t : Nat) (m : Fin 8)
  /-- `FAULT_READ` (R483). Command fault.read returns the first-fault record and the source states. -/
  | faultRead (t : Nat) (m : Fin 8)
  /-- `FAULT_CLEAR` (R476). Command fault.clear returns latched sources to evaluation and clears the first-fault record or budgets. -/
  | faultClear (t : Nat) (m : Fin 8)
  /-- `TWIN_CONFIG` (R504). Command twin.config sets the side, mirror selection, lease and guard. -/
  | twinConfig (t : Nat) (m : Fin 8)
  /-- `TWIN_ENABLE` (R494). Command twin.enable puts the device into JOINING. -/
  | twinEnable (t : Nat) (m : Fin 8)
  /-- `TWIN_DISABLE` (R503). Command twin.disable leaves the twin pair, to SOLO or OUT. -/
  | twinDisable (t : Nat) (m : Fin 8)
  /-- `TWIN_HANDOVER` (R502). Command twin.handover hands the token to a fit partner. -/
  | twinHandover (t : Nat) (m : Fin 8)
  /-- `TWIN_STATUS` (R505). Command twin.status returns the role, lease state and last health report. -/
  | twinStatus (t : Nat) (m : Fin 8)
  /-- `CW_CONFIG` (R534). Command cw.config sets the cascade kind and the causeway port bundles and encryption. -/
  | cwConfig (t : Nat) (m : Fin 8)
  /-- `CW_ID_SET` (R533). Command cw.id.set sets the causeway device ID. -/
  | cwIdSet (t : Nat) (m : Fin 8)
  /-- `CW_TOPOLOGY` (R535). Command cw.topology returns the chain map. -/
  | cwTopology (t : Nat) (m : Fin 8)
  /-- `CW_REMOTE_READ` (R527). Command cw.remote.read reads a register, slot or table entry of a far device. -/
  | cwRemoteRead (t : Nat) (m : Fin 8)
  /-- `CW_REMOTE_WRITE` (R528). Command cw.remote.write sends a non-posted write to a far device. -/
  | cwRemoteWrite (t : Nat) (m : Fin 8)
  /-- `CW_REMOTE_LOCK` (R529). Command cw.remote.lock runs a locked read-modify-write sequence on a far resource. -/
  | cwRemoteLock (t : Nat) (m : Fin 8)
  /-- `WAKE_FILTER_SET` (R562). Command wake.filter.set replaces the selective-wake filters of a bus. -/
  | wakeFilterSet (t : Nat) (m : Fin 8)
  /-- `SLEEP_CONFIG` (R563). Command sleep.config sets the ring participation, timing and awake cap. -/
  | sleepConfig (t : Nat) (m : Fin 8)
  /-- `SLEEP_REQUEST` (R547). Command sleep.request gives or withdraws the host's consent. -/
  | sleepRequest (t : Nat) (m : Fin 8)
  /-- `SLEEP_STATUS` (R564). Command sleep.status returns the ring state, refusal log and last wake record. -/
  | sleepStatus (t : Nat) (m : Fin 8)
  /-- `UPDATE_BEGIN` (R576). Command update.begin opens the staging area on the members. -/
  | updateBegin (t : Nat) (m : Fin 8)
  /-- `UPDATE_WRITE` (R576). Command update.write programs a package chunk on every member. -/
  | updateWrite (t : Nat) (m : Fin 8)
  /-- `UPDATE_FINISH` (R576). Command update.finish checks the transport CRC on every member. -/
  | updateFinish (t : Nat) (m : Fin 8)
  /-- `UPDATE_ACTIVATE` (R577). Command update.activate orders installation across the members as a two-phase command. -/
  | updateActivate (t : Nat) (m : Fin 8)
  /-- `UPDATE_CONFIRM` (R589). Command update.confirm confirms the trial image on every member. -/
  | updateConfirm (t : Nat) (m : Fin 8)
  /-- `UPDATE_REVERT` (R590). Command update.revert orders a swap back across the members. -/
  | updateRevert (t : Nat) (m : Fin 8)
  /-- `UPDATE_STATUS` (R592). Command update.status returns the staging, swap and confirmation state. -/
  | updateStatus (t : Nat) (m : Fin 8)
  /-- `MBX_RING` (R87). A host write of RING makes a doorbell pending, or drops it and sets DROPPED. -/
  | mbxRing (t : Nat) (m : Fin 8) (value : Word)
  /-- `MBX_ACCEPT` (R86). The mailbox unit accepts a pending command and latches its envelope and payload. -/
  | mbxAccept (t : Nat) (m : Fin 8)
  /-- `COMMAND_START` (R90). A command queued on a function starts to execute when the command ahead of it completes. -/
  | commandStart (t : Nat) (m : Fin 8)
  /-- `LONGEST_TIME_EXPIRY` (R97). A command's longest time expires: TIMEOUT before the commit point, otherwise an interim PARTIAL and unit restarts. -/
  | longestTimeExpiry (t : Nat) (m : Fin 8)
  /-- `MBX_DONE_CLEAR` (R86). A host write of 1 to DONE returns the mailbox to MSTATE 0. -/
  | mbxDoneClear (t : Nat) (m : Fin 8) (value : Word)
  /-- `MBX_ABORT` (R95). A write to MBX_ABORT_n aborts the command outstanding on the mailbox. -/
  | mbxAbort (t : Nat) (m : Fin 8) (value : Word) (firmware : Bool)
  /-- `ABORT_WATCHDOG` (R95). The abort watchdog fires at 1.5 ms, resets the mailbox and the involved units and completes ABORTED. -/
  | abortWatchdog (t : Nat) (m : Fin 8)
  /-- `COMMAND_FIRMWARE_WAIT_TIMEOUT` (R568). A command accepted before firmware started completes with TIMEOUT after 2 s. -/
  | commandFirmwareWaitTimeout (t : Nat) (m : Fin 8)
  /-- `EVT_LOG_RELEASE` (R77). A host write of EVT_LOG_RD releases event log records. -/
  | evtLogRelease (t : Nat) (value : Word)
  /-- `EVT_MASK_WRITE` (R78). A write of EVT_MASK that unmasks a source whose status bit is 1 sends its vector. -/
  | evtMaskWrite (t : Nat) (k : Fin 4) (value : Word)
  /-- `MSIX_VECTOR_UNMASK` (R63). Unmasking an MSI-X vector or the function sends a pending message and clears its pending bit. -/
  | msixVectorUnmask (t : Nat) (what : MsixUnmask)
  /-- `REGISTER_WRITE` (R6). A host write to a register that has no behaviour of its own applies under its access type. -/
  | registerWrite (t : Nat) (bar : Nat) (off : Nat) (data : List Byte) (be : Nat)
  /-- `SPI_WRITE_TRANSACTION` (R68). An SPI write transaction is applied only when its CRC, address and length are valid. -/
  | spiWriteTransaction (t : Nat) (mosi : List Byte) (spare : Bool)
  /-- `SPI_READ_TRANSACTION` (R69). An SPI read transaction returns data, or 0xE0 on a CRC failure or late data. -/
  | spiReadTransaction (t : Nat) (mosi : List Byte) (late : Bool)
  /-- `SPI_STATUS_READ` (R70). An SPI status read returns SPI_STATUS and changes nothing. -/
  | spiStatusRead (t : Nat)
  /-- `SPI_TRANSACTION_TIMEOUT` (R71). An SPI transaction with no clock edge for 1 ms is abandoned with LEN_ERR. -/
  | spiTransactionTimeout (t : Nat)
  /-- `PCIE_COMPLETION_TIMEOUT` (R64). A completion for a device read times out, the DMA request fails and FS014 is raised. -/
  | pcieCompletionTimeout (t : Nat) (r : Fin 48) (read : TimedRead)
  /-- `PERST_N` (R606). PERST_N resets the PCIe endpoint and stops every DMA ring. -/
  | perstN (t : Nat) (level : Bool)
  /-- `TQ_CUR_WRITE` (R401). A write of TQ_CUR moves the consumer's cursor within RD to WR. -/
  | tqCurWrite (t : Nat) (q : Fin 64) (value : Word)
  /-- `TQ_MARK_WRITE` (R401). A write of TQ_MARK saves a mark position. -/
  | tqMarkWrite (t : Nat) (q : Fin 64) (value : Word)
  /-- `TQ_RELEASE_WRITE` (R401). A write of TQ_RELEASE frees every word before a packet boundary. -/
  | tqReleaseWrite (t : Nat) (q : Fin 64) (value : Word)
  /-- `TQ_CLEAR_MARK` (R399). A write of CLEAR_MARK clears the mark. -/
  | tqClearMark (t : Nat) (q : Fin 64)
  /-- `TQ_REWIND` (R401). A write of REWIND sets CUR to MARK. -/
  | tqRewind (t : Nat) (q : Fin 64)
  /-- `RING_TAIL_WRITE` (R413). A write of RING_TAIL hands descriptors over to the device. -/
  | ringTailWrite (t : Nat) (r : Fin 48) (value : Word)
  /-- `CIPH_LOCK_WRITE` (R428). A host write of CIPH_n_LOCK claims or releases an engine lock. -/
  | ciphLockWrite (t : Nat) (e : Fin 8) (value : Word)
  /-- `CIPH_START` (R433). A write of START checks and starts a host direct cipher job. -/
  | ciphStart (t : Nat) (e : Fin 8)
  /-- `CIPH_CANCEL` (R432). A write of CANCEL cancels the running job with JERR CANCELLED. -/
  | ciphCancel (t : Nat) (e : Fin 8)
  /-- `CIPH_IN_WRITE` (R434). A write to CIPH_n_IN appends 4 input bytes to the job. -/
  | ciphInWrite (t : Nat) (e : Fin 8) (value : Word)
  /-- `CIPH_OUT_REL_WRITE` (R435). A write of OUT_REL frees output before an offset. -/
  | ciphOutRelWrite (t : Nat) (e : Fin 8) (value : Word)
  /-- `CIPH_JOB_DONE` (R434). A job ends after its last input word, with the tag compared or written. -/
  | ciphJobDone (t : Nat) (e : Fin 8)
  /-- `LOCK_IDLE_RELEASE` (R431). An engine lock unused for IDLE_MS is released. -/
  | lockIdleRelease (t : Nat) (e : Fin 8)
  /-- `INTERNAL_ENGINE_CLAIM` (R429). A waiting internal client takes an engine at the instant the engine becomes free. -/
  | internalEngineClaim (t : Nat) (e : Fin 8)
  /-- `INGRESS_FRAME_START` (R35). A frame head arrives at an ingress and is parsed, looked up and classified speculatively. -/
  | ingressFrameStart (t : Nat) (p : Fin 24) (frame : List Byte) (arrival : Arrival)
  /-- `GRAPH_REWRITE_DONE` (R195). The rewrite of the parse graph completes and the graph parser returns to service. -/
  | graphRewriteDone (t : Nat)
  /-- `TABLE_REWRITE_DONE` (R248). The table repair unit completes the rewrite of a bad entry. -/
  | tableRewriteDone (t : Nat) (table : Fin 8) (index : Nat)
  /-- `FRAME_ADMISSION` (R263). A frame is admitted into its queues when its classification result is fixed, or refused. -/
  | frameAdmission (t : Nat) (f : Nat)
  /-- `VERSION_EXPIRY` (R215). A frame whose classification is not fixed 40 µs after its stamp is discarded. -/
  | versionExpiry (t : Nat) (f : Nat)
  /-- `INGRESS_VERDICT` (R36). The confirmed or spoiled verdict of a frame reaches each sink. -/
  | ingressVerdict (t : Nat) (f : Nat) (cut : Bool)
  /-- `LEARN_EVENT_PROCESS` (R241). The learning unit processes a learn event: learn, move, refuse or flap. -/
  | learnEventProcess (t : Nat)
  /-- `L2_MOVE_WINDOW_END` (R241). An entry's move window or freeze ends when its TIMER passes. -/
  | l2MoveWindowEnd (t : Nat) (entry : Fin 65536)
  /-- `L2_AGEING_SCAN` (R237). Every AGE_S an ageing scan removes unused entries and clears HIT. -/
  | l2AgeingScan (t : Nat)
  /-- `EGRESS_DEQUEUE` (R282). At a frame boundary the scheduler picks the next eligible reference to send. -/
  | egressDequeue (t : Nat) (p : Fin 24)
  /-- `CUT_THROUGH_FCS_DUE` (R41). The first FCS byte of a cut-through frame falls due and the correct or stomped FCS is sent. -/
  | cutThroughFcsDue (t : Nat) (p : Fin 24) (bodyShort : Bool)
  /-- `EGRESS_TRANSMIT_END` (R274). A transmission completes and its reference is released. -/
  | egressTransmitEnd (t : Nat) (p : Fin 24)
  /-- `AGEING_HEAD_CHECK` (R269). The periodic head check discards aged references of queues that cannot send. -/
  | ageingHeadCheck (t : Nat) (egress : Fin 56)
  /-- `LINK_DOWN` (R279). A port's link goes down, a transmission in progress is cut off and the hold window starts. -/
  | linkDown (t : Nat) (p : Fin 24)
  /-- `LINK_UP` (R280). A port's link comes up and dequeue resumes. -/
  | linkUp (t : Nat) (p : Fin 24)
  /-- `HOLD_WINDOW_END` (R280). The hold window ends with the link down and every reference of the port is flushed. -/
  | holdWindowEnd (t : Nat) (p : Fin 24)
  /-- `SPEED_CHANGED` (R191). Auto-negotiation or SGMII in-band status changes the rate or duplex. -/
  | speedChanged (t : Nat) (p : Fin 24) (rateMb : Nat) (half : Bool)
  /-- `REMOTE_FAULT` (R191). The 10GBASE-R link signals remote fault, or the 10BASE-T1S PHY reports a fault. -/
  | remoteFault (t : Nat) (p : Fin 24) (on : Bool)
  /-- `PAUSE_RECEIVED` (R166). A confirmed PAUSE starts, replaces or ends the pause timer. -/
  | pauseReceived (t : Nat) (p : Fin 24) (pause : PauseFrame)
  /-- `PAUSE_EXPIRY` (R166). The partner pause timer expires and frames may start again. -/
  | pauseExpiry (t : Nat) (p : Fin 24)
  /-- `PAUSED_LONG` (R191). A partner pause in force exceeds 10 ms without interruption. -/
  | pausedLong (t : Nat) (p : Fin 24)
  /-- `PAUSE_REFRESH` (R164). Half the pause time passes with the share still at or above LOW_WM, and PAUSE is sent again. -/
  | pauseRefresh (t : Nat) (p : Fin 24)
  /-- `COLLISION` (R159). A collision under CSMA/CD schedules a back-off, or discards the frame. -/
  | collision (t : Nat) (p : Fin 24) (late : Bool)
  /-- `BACKOFF_EXPIRY` (R159). A collision back-off ends and the stored frame is retried. -/
  | backoffExpiry (t : Nat) (p : Fin 24)
  /-- `PLCA_STATUS_CHANGE` (R158). PLCA status changes and the port falls back to CSMA/CD or returns to PLCA. -/
  | plcaStatusChange (t : Nat) (p : Fin 24) (up : Bool)
  /-- `STEP_DECISION` (R178). The measured load of a causeway link calls for a step-down or step-up request. -/
  | stepDecision (t : Nat) (p : Fin 24) (sentBytes : Nat) (peerBytes : Nat)
  /-- `STEP_MESSAGE_RECEIVED` (R180). A confirmed step message is acted on: acknowledge, reject, switch now or fail. -/
  | stepMessageReceived (t : Nat) (p : Fin 24) (body : List Byte)
  /-- `STEP_REQUEST_TIMEOUT` (R181). A step request with no acknowledge or reject within 1 ms is abandoned. -/
  | stepRequestTimeout (t : Nat) (p : Fin 24)
  /-- `STEP_RELOCK_DONE` (R180). Both directions lock at the new rate and the step is counted. -/
  | stepRelockDone (t : Nat) (p : Fin 24)
  /-- `STEP_RELOCK_FAIL` (R182). No block lock 100 µs after switch now returns the link to the previous rate. -/
  | stepRelockFail (t : Nat) (p : Fin 24)
  /-- `STEP_LINK_LOSS` (R182). A link with no block lock at either rate for 1 ms is declared down. -/
  | stepLinkLoss (t : Nat) (p : Fin 24)
  /-- `BUS_FRAME_EVALUATION` (R622). A received bus frame reaches its evaluation instant and the filter list decides its destination. -/
  | busFrameEvaluation (t : Nat) (b : Fin 32) (frame : BusFrame) (exception : Bool) (parity : List (Nat × Nat))
  /-- `BUS_FRAME_VALID` (R105). A received bus frame becomes valid and its confirmed verdict is sent. -/
  | busFrameValid (t : Nat) (b : Fin 32)
  /-- `BUS_ERROR` (R127). A controller detects a bus error and updates TEC, REC and its error state. `acked` says that its frame was acknowledged before the error; `step` says which step of the counters ISO 11898-1 takes. -/
  | busError (t : Nat) (b : Fin 32) (kind : BusErr) (asTransmitter acked : Bool) (step : BusStep)
  /-- `BUS_ARBITRATION_START` (R112). At an arbitration start the controller offers the buffer of highest transmit priority. -/
  | busArbitrationStart (t : Nat) (b : Fin 32) (lost : Bool)
  /-- `BUS_TX_VALID` (R116). A transmitted bus frame becomes valid and its message leaves its buffer. -/
  | busTxValid (t : Nat) (b : Fin 32)
  /-- `BUS_RECOVERY_OCCURRENCE` (R128). An occurrence of 11 recessive bits advances the bus-off recovery count toward bus-on. -/
  | busRecoveryOccurrence (t : Nat) (b : Fin 32)
  /-- `STUCK_DOMINANT` (R130). RXD stays dominant for the longer of 1 ms and 128 bit times. -/
  | stuckDominant (t : Nat) (b : Fin 32)
  /-- `BUS_INTEGRATION_DONE` (R138). Bus integration completes after 11 recessive bits and the controller takes part. -/
  | busIntegrationDone (t : Nat) (b : Fin 32)
  /-- `BUS_MODE_EFFECT` (R140). A mode change takes effect at the end of the engaged attempt or after 11 recessive bits. -/
  | busModeEffect (t : Nat) (b : Fin 32)
  /-- `DRAIN_LIMIT_EXPIRY` (R139). DRAIN_LIMIT expires and the unengaged buffers go back to the deep queue. -/
  | drainLimitExpiry (t : Nat) (b : Fin 32)
  /-- `SOURCE_FRAME_COMMIT` (R298). The signal engine commits a confirmed source frame's values to the signal store. -/
  | sourceFrameCommit (t : Nat)
  /-- `SIGNAL_OVERRUN` (R309). A frame not committed 1 ms after its verdict is discarded from signal processing. -/
  | signalOverrun (t : Nat)
  /-- `FRESHNESS_EXPIRY` (R310). A slot's freshness timer expires and the slot goes stale or takes its substitute. -/
  | freshnessExpiry (t : Nat) (slot : Nat)
  /-- `TRIGGER_GAP_END` (R317). A pending change firing fires at the end of MIN_GAP. -/
  | triggerGapEnd (t : Nat) (trig : Nat)
  /-- `SEC_WAIT_EXPIRY` (R324). A secured frame or message finds no allowed engine within SEC_WAIT. -/
  | secWaitExpiry (t : Nat) (b : Fin 32)
  /-- `MAP_VERSION_EXPIRY` (R334). The older map version stops being live and its waiting frames are discarded. -/
  | mapVersionExpiry (t : Nat)
  /-- `TIME_MESSAGE_RECEIVED` (R353). A confirmed time message feeds the servo, path-delay measurement or grandmaster selection. -/
  | timeMessageReceived (t : Nat) (p : Fin 24) (message : List Byte) (stamp : Nat)
  /-- `DOMAIN_TIMEOUT` (R355). No Sync or Announce for the timeout intervals puts a domain into holdover. -/
  | domainTimeout (t : Nat) (d : Fin 2) (announce : Bool)
  /-- `REFERENCE_LOST` (R355). The 25 MHz reference is lost and both domains enter fault. -/
  | referenceLost (t : Nat)
  /-- `REFERENCE_RETURN` (R355). The reference returns and the domains go to listening. -/
  | referenceReturn (t : Nat)
  /-- `FOLLOW_UP_TABLE_EXPIRY` (R350). A two-step Sync's residence entry expires after 1 s without its Follow_Up. -/
  | followUpTableExpiry (t : Nat) (p : Fin 24)
  /-- `TIME_TRIGGER_FIRE` (R359). A time trigger fires at its compare value and drives its targets. -/
  | timeTriggerFire (t : Nat) (n : Fin 32)
  /-- `TIME_OUT_PULSE_END` (R364). A TIME_OUT pulse returns to its inactive level after PULSE_W. -/
  | timeOutPulseEnd (t : Nat) (pin : Fin 8)
  /-- `TIME_IN_CAPTURE` (R365). An edge on a TIME_IN pin captures active time. -/
  | timeInCapture (t : Nat) (pin : Fin 8) (rising : Bool)
  /-- `TDM_NO_FRAME` (R379). An enabled TDM port has had no frame start for two trigger periods. -/
  | tdmNoFrame (t : Nat) (a : Fin 8)
  /-- `AUDIO_BLOCK_COMPUTE` (R378). Each millisecond the mixer computes the block presented 2 ms later. -/
  | audioBlockCompute (t : Nat)
  /-- `AAF_STREAM_LOST` (R381). A listener stream receives no confirmed frame for 10 ms and goes silent. -/
  | aafStreamLost (t : Nat) (stream : Fin 128)
  /-- `DMA_RX_TRANSFER` (R415). The DMA engine moves the committed packet at CUR into owned receive descriptors. `descs` are the descriptors from RING_HEAD on as it reads them; `fail` says that reading the next one fails. -/
  | dmaRxTransfer (t : Nat) (r : Fin 32) (descs : List Byte) (fail : Bool)
  /-- `RX_STARVE_TIMEOUT` (R416). The starvation timer of a paused receive ring expires and the packet is dropped. -/
  | rxStarveTimeout (t : Nat) (r : Fin 32)
  /-- `RX_EVENT_TIMER` (R415). EVT_US passes after the first unannounced packet and RX_DONE is raised. -/
  | rxEventTimer (t : Nat) (r : Fin 48)
  /-- `DMA_TX_FRAME` (R418). The DMA engine reads a transmit frame and passes it to the Forwarding Island. `descs` and `data` are what it reads. -/
  | dmaTxFrame (t : Nat) (r : Fin 16) (descs : List Byte) (data : List Byte) (read : TxRead)
  /-- `TIDE_ECC_SCRUB` (R411). The scrub corrects single-bit errors of a queue, or reports the uncorrectable words at the positions given. -/
  | tideEccScrub (t : Nat) (q : Fin 64) (corrected : Nat) (bad : List Nat)
  /-- `ENTROPY_HEALTH_FAIL` (R439). The entropy source fails a health test and the engines run with fixed countermeasures. -/
  | entropyHealthFail (t : Nat)
  /-- `TAMPER_ALARM` (R450). A tamper monitor enters fault and the device aborts, clears, wipes, seals or wakes. -/
  | tamperAlarm (t : Nat) (monitor : Fin 7)
  /-- `FAULT_SOURCE_ENTRY` (R468). A fault source enters fault and its severity's action is taken. -/
  | faultSourceEntry (t : Nat) (src : Fin 256) (target : Nat) (spec : Bool)
  /-- `FAULT_SOURCE_QUIET` (R474). A source in fault reads quiet and its quiet period starts. -/
  | faultSourceQuiet (t : Nat) (src : Fin 256)
  /-- `BROKEN_PAIR` (R464). A source pair reads 00 or 11 for 1 µs and the broken-wire source enters fault. -/
  | brokenPair (t : Nat) (src : Fin 256) (high : Bool)
  /-- `ARBITRATION_WINDOW_CLOSE` (R472). The 200 ns arbitration window closes and the first fault is recorded. -/
  | arbitrationWindowClose (t : Nat)
  /-- `QUIET_PERIOD_END` (R474). A source's quiet period ends and the source recovers. -/
  | quietPeriodEnd (t : Nat) (src : Fin 256)
  /-- `BUDGET_WINDOW_END` (R475). A source's 3600 s budget window closes. -/
  | budgetWindowEnd (t : Nat) (src : Fin 256)
  /-- `UNIT_RESTART_ESCALATION` (R469). A unit not back 50 ms after its restart is restarted with its island. -/
  | unitRestartEscalation (t : Nat) (island : Fin 7) (unit : Fin 64)
  /-- `FAULT_PERSIST_LATCH` (R469). A source still in fault 1 s after its unit or island returned latches. -/
  | faultPersistLatch (t : Nat) (src : Fin 256)
  /-- `UNIT_RESTART_DONE` (R468). A restarted unit completes its reload and returns to service. -/
  | unitRestartDone (t : Nat) (island : Fin 7) (unit : Fin 64)
  /-- `ISLAND_RESTART_DONE` (R23). A restarted island completes its reload and leaves isolation. -/
  | islandRestartDone (t : Nat) (island : Fin 7)
  /-- `HANDSHAKE_TIMEOUT` (R20). A strait handshake times out, the packet is spoiled and the channel is reset. -/
  | handshakeTimeout (t : Nat) (near : Fin 7) (far : Fin 7)
  /-- `CHANNEL_RESET_TIMEOUT` (R20). The reset handshake of a channel times out and the channel stays closed. -/
  | channelResetTimeout (t : Nat) (channel : Channel)
  /-- `GLITCH_STORM` (R478). A pin group removes more than 100 pulses in 1 ms, or a storm ends after 1 ms without one. -/
  | glitchStorm (t : Nat) (group : Fin 10) (on : Bool)
  /-- `TIMER_RECALIBRATION` (R21). The ring-oscillator timers are recalibrated against the time unit at least every 1 ms. -/
  | timerRecalibration (t : Nat) (ok : Bool)
  /-- `MDIO_TIMEOUT` (R479). An MDIO transaction times out after 1 ms. -/
  | mdioTimeout (t : Nat) (island : Fin 2)
  /-- `LPDDR_TRAINING_TIMEOUT` (R479). LPDDR4X training does not complete within 100 ms. -/
  | lpddrTrainingTimeout (t : Nat)
  /-- `SUPPLY_WARNING` (R602). A supply below its warning level for 10 µs drives its source into fault. -/
  | supplyWarning (t : Nat) (supply : Nat)
  /-- `BROWN_OUT` (R603). VDD_CORE below the brown-out threshold for 2 µs resets every island but the Always-On Island. -/
  | brownOut (t : Nat)
  /-- `POWER_ON` (R604). VDD_AON enters its range and power-up sequencing begins. -/
  | powerOn (t : Nat)
  /-- `RESET_N` (R606). RESET_N low resets the device, and its rising edge starts a boot. -/
  | resetN (t : Nat) (level : Bool) (straps : Nat)
  /-- `PWR_EN_RETRY` (R604). The core supplies are not in range 10 ms after PWR_EN rises, so PWR_EN is cycled. -/
  | pwrEnRetry (t : Nat)
  /-- `VDD_AON_LOSS` (R466). The loss of VDD_AON clears the kept state and the tamper record. -/
  | vddAonLoss (t : Nat)
  /-- `JTAG_INSTRUCTION` (R616). A JTAG instruction is loaded, and EXTEST, CLAMP or HIGHZ isolates the islands. -/
  | jtagInstruction (t : Nat) (load : JtagInstr)
  /-- `PUF_REGENERATION` (R454). The Security Island regenerates the PUF root, or seals the device on failure. -/
  | pufRegeneration (t : Nat) (result : PufResult)
  /-- `LOADER_IMAGE_CHECK` (R578). The loader checks an image and installs, reverts, swaps back or seals. -/
  | loaderImageCheck (t : Nat) (running : Bool) (staging : Bool)
  /-- `SWAP_PAGE_STEP` (R581). One step of a page swap completes and its journal record is programmed. -/
  | swapPageStep (t : Nat)
  /-- `FIRMWARE_START` (R567). The loader starts firmware, which installs the configuration. -/
  | firmwareStart (t : Nat)
  /-- `FIRMWARE_READY` (R567). The installation completes and STATE becomes 1 or 5. -/
  | firmwareReady (t : Nat)
  /-- `FIRMWARE_HEARTBEAT` (R489). Firmware writes its heartbeat to the lease logic. -/
  | firmwareHeartbeat (t : Nat)
  /-- `ACTIVATE_REBOOT` (R577). A member resets itself 100 ms after an activation with REBOOT completes. -/
  | activateReboot (t : Nat)
  /-- `UPDATE_CHUNK_RECEIVED` (R576). A target receives a relayed update chunk, programs it and completes. -/
  | updateChunkReceived (t : Nat) (body : List Byte)
  /-- `ACTIVATION_REPORT_SEND` (R583). A member sends its activation report, and again every 1 s until answered. -/
  | activationReportSend (t : Nat)
  /-- `ACTIVATION_REPORT_RECEIVED` (R583). The master takes a member's report and orders commit or swap back. -/
  | activationReportReceived (t : Nat) (dev : Nat) (body : List Byte)
  /-- `ACT_WAIT_EXPIRY` (R583). ACT_WAIT passes without every report and the master orders a swap back. -/
  | actWaitExpiry (t : Nat)
  /-- `ACTIVATION_ORDER_RECEIVED` (R584). A member applies a confirmed commit or swap-back order. -/
  | activationOrderReceived (t : Nat) (body : List Byte)
  /-- `SELF_SWAPBACK_TIMEOUT` (R584). A member without a commit within 2 × ACT_WAIT swaps itself back. -/
  | selfSwapbackTimeout (t : Nat)
  /-- `LEASE_RENEWAL` (R489). The lease logic renews the token every quarter LEASE_US while its conditions hold. -/
  | leaseRenewal (t : Nat)
  /-- `LEASE_LAPSE` (R490). An active device's lease expires without renewal and it freezes. -/
  | leaseLapse (t : Nat)
  /-- `TOKEN_CLAIM` (R491). A standby claims the token when its claim timer and lease condition allow. -/
  | tokenClaim (t : Nat)
  /-- `LEASE_IN_CHANGE` (R493). The partner's lease pair changes to held, not held or broken. -/
  | leaseInChange (t : Nat) (reading : LeasePair)
  /-- `TWIN_HELLO_SEND` (R488). A twin HELLO is sent every 1 ms. -/
  | twinHelloSend (t : Nat)
  /-- `TWIN_HELLO_RECEIVED` (R494). A twin HELLO is received and compared with the local settings. -/
  | twinHelloReceived (t : Nat) (body : List Byte)
  /-- `TWIN_RENEW_RECEIVED` (R491). A standby restarts its claim timer on RENEW. -/
  | twinRenewReceived (t : Nat) (body : List Byte)
  /-- `TWIN_MIRROR_RECEIVED` (R496). A standby applies a mirrored change. -/
  | twinMirrorReceived (t : Nat) (body : List Byte)
  /-- `TWIN_HEALTH_SEND` (R500). A standby sends its health report every 100 ms. -/
  | twinHealthSend (t : Nat)
  /-- `TWIN_HEALTH_RECEIVED` (R500). A health report is received and its FIT status is judged. -/
  | twinHealthReceived (t : Nat) (body : List Byte)
  /-- `HEALTH_REPORT_TIMEOUT` (R500). An active device receives no report for 300 ms. -/
  | healthReportTimeout (t : Nat)
  /-- `TWIN_HANDOVER_RECEIVED` (R502). The partner claims at once on HANDOVER with LEASE_IN not held. -/
  | twinHandoverReceived (t : Nat)
  /-- `HANDOVER_BUSES_IDLE` (R502). The shared buses are idle or 100 ms pass, and the active device releases the token. -/
  | handoverBusesIdle (t : Nat)
  /-- `TWIN_RESYNC_RECEIVED` (R501). A resyncing device applies bulk state sent by RESYNC. -/
  | twinResyncReceived (t : Nat) (body : List Byte)
  /-- `TWIN_TSYNC_SEND` (R488). A TSYNC message is sent every 31.25 ms. -/
  | twinTsyncSend (t : Nat)
  /-- `TWIN_TSYNC_RECEIVED` (R497). A standby steers its active time from TSYNC stamps. -/
  | twinTsyncReceived (t : Nat) (body : List Byte)
  /-- `TWIN_LINK_DOWN` (R488). The twin link loses block lock or has no answered HELLO for 10 ms. -/
  | twinLinkDown (t : Nat)
  /-- `SHADOW_TIMEOUT` (R498). A queued message not matched within SHADOW_MS is removed. -/
  | shadowTimeout (t : Nat) (b : Fin 32)
  /-- `BIST_SLICE` (R500). A standby completes a BIST slice of an idle region. -/
  | bistSlice (t : Nat) (pass : Bool)
  /-- `CAUSEWAY_FRAME_RECEIVE` (R511). A causeway frame is delivered, forwarded or parsed according to its scope and target. -/
  | causewayFrameReceive (t : Nat) (p : Fin 24) (frame : List Byte) (arrival : Arrival)
  /-- `CW_HELLO_SEND` (R520). Each causeway port sends HELLO every 10 ms and at link-up. -/
  | cwHelloSend (t : Nat) (p : Fin 24)
  /-- `CW_HELLO_RECEIVED` (R520). A causeway HELLO updates the neighbour state and may start a new session. -/
  | cwHelloReceived (t : Nat) (p : Fin 24) (body : List Byte)
  /-- `CW_ENGINE_CLAIM` (R526). An encrypting port obtains its two engines and its session comes up. -/
  | cwEngineClaim (t : Nat) (p : Fin 24)
  /-- `NEIGHBOUR_LOST` (R520). A neighbour is lost after 30 ms without HELLO. -/
  | neighbourLost (t : Nat) (p : Fin 24)
  /-- `TOPOLOGY_SEND` (R521). A device broadcasts its topology message every 100 ms. -/
  | topologySend (t : Nat)
  /-- `TOPOLOGY_RECEIVED` (R521). A topology message updates the chain map, master and ring break. -/
  | topologyReceived (t : Nat) (p : Fin 24) (body : List Byte)
  /-- `DEVICE_UNHEARD` (R521). A device unheard for 300 ms is removed from the chain map. -/
  | deviceUnheard (t : Nat) (id : Fin 256)
  /-- `REMOTE_REQUEST_RECEIVED` (R528). A far device applies a remote access and sends its completion. -/
  | remoteRequestReceived (t : Nat) (dev : Nat) (body : List Byte)
  /-- `REMOTE_COMPLETION_RECEIVED` (R528). A remote completion completes the initiating command. -/
  | remoteCompletionReceived (t : Nat) (dev : Nat) (body : List Byte)
  /-- `REMOTE_TIMEOUT` (R528). No completion within 5 ms plus 100 µs per hop completes the command with TIMEOUT. -/
  | remoteTimeout (t : Nat) (m : Fin 8)
  /-- `REMOTE_CACHE_EXPIRY` (R528). A stored completion is dropped 1 s after it was kept. -/
  | remoteCacheExpiry (t : Nat)
  /-- `LOCK_REQUEST_RECEIVED` (R530). A far device grants, queues or refuses a lock request. -/
  | lockRequestReceived (t : Nat) (dev : Nat) (body : List Byte)
  /-- `LOCK_GRANT_RECEIVED` (R529). The initiator receives a grant and sends write-and-unlock. -/
  | lockGrantReceived (t : Nat) (dev : Nat) (body : List Byte)
  /-- `WRITE_AND_UNLOCK_RECEIVED` (R529). A far device writes if unchanged, unlocks and completes with a result. -/
  | writeAndUnlockReceived (t : Nat) (dev : Nat) (body : List Byte)
  /-- `LOCK_RETRY_RECEIVED` (R530). A sequence receiving RETRY releases its locks and backs off. -/
  | lockRetryReceived (t : Nat) (dev : Nat) (body : List Byte)
  /-- `LOCK_BACKOFF_EXPIRY` (R530). The random back-off ends and the locked sequence tries again. -/
  | lockBackoffExpiry (t : Nat) (m : Fin 8)
  /-- `FAR_LOCK_EXPIRY` (R529). A far lock not ended within its limit is released. -/
  | farLockExpiry (t : Nat)
  /-- `CW_EVENT_RECEIVED` (R531). A forwarded event reaches the master and raises EV116 after its data. -/
  | cwEventReceived (t : Nat) (dev : Nat) (body : List Byte)
  /-- `PEER_COMMAND_RECEIVED` (R516). The peer of a widened pair executes a forwarded command and returns its response. -/
  | peerCommandReceived (t : Nat) (body : List Byte)
  /-- `CONSENT_LAP_START` (R551). The leader starts a consent lap every LAP_INTERVAL while its consent holds. -/
  | consentLapStart (t : Nat)
  /-- `BUS_LAP_MESSAGE_RECEIVED` (R548). A bus lap message is received and the lap advances or completes. -/
  | busLapMessageReceived (t : Nat) (b : Fin 32) (body : List Byte)
  /-- `NODE_SLOT_TIMEOUT` (R549). Node 0 sends in place of an absent node after NODE_SLOT_MS. -/
  | nodeSlotTimeout (t : Nat) (b : Fin 32)
  /-- `DEVICE_LAP_RECEIVED` (R551). A device receives a consent or commit lap, runs its bus laps and forwards it. -/
  | deviceLapReceived (t : Nat) (dev : Nat) (body : List Byte)
  /-- `LAP_TIMEOUT` (R551). A consent lap not returned within LAP_TIMEOUT fails. -/
  | lapTimeout (t : Nat)
  /-- `SLEEP_CANCEL_RECEIVED` (R554). A cancel reaches the leader before or after its commit. -/
  | sleepCancelReceived (t : Nat) (dev : Nat) (body : List Byte)
  /-- `WAKE_REQUEST` (R554). A wake request arrives during the agreement and clears, cancels or is latched. -/
  | wakeRequest (t : Nat) (stim : WakeStim)
  /-- `SLEEP_SETTLE` (R552). Bus commit laps return or SETTLE_MS expires, and queues are discarded and links go down. -/
  | sleepSettle (t : Nat)
  /-- `SLEEP_POWER_OFF` (R552). Wake sources are armed and the islands other than the Always-On Island are powered off. -/
  | sleepPowerOff (t : Nat)
  /-- `WAKE_SOURCE` (R542). A wake cause in sleep writes the wake record and starts waking. -/
  | wakeSource (t : Nat) (stims : List WakeStim)
  /-- `RING_LOST` (R556). No commit or new lap within 2 × LAP_TIMEOUT makes the device wake with cause 11. -/
  | ringLost (t : Nat)
  /-- `FALSE_WAKE_CHECK` (R560). 200 ms after STATE 1 without valid communication the wake is counted as false. -/
  | falseWakeCheck (t : Nat)
  /-- `PCIE_LINK_STATE_CHANGE` (R76). The PCIe link trains up into L0 or L1, or goes down, and PCIE_UP, PCIE_WIDTH and PCIE_SPEED change. -/
  | pcieLinkStateChange (t : Nat) (width : Nat) (speed : Nat) (up : Bool)
  /-- `PATH_DELAY_REQUEST_SEND` (R345). A domain sends its periodic Pdelay_Req on each gPTP port, or its Delay_Req as a 1588 slave, to measure the path delay used by the servo. -/
  | pathDelayRequestSend (t : Nat) (d : Fin 2)
  /-- `SLEW_END` (R358). A slew brings the gap to zero, active time equals the domain clock and ASTATE leaves slewing. -/
  | slewEnd (t : Nat)
  /-- `BROKEN_PAIR_RESTORED` (R464). A broken source pair reads 01 for 1 µs and the source leaves the broken state for quiet. -/
  | brokenPairRestored (t : Nat) (src : Fin 256)
  /-- `CORE_SUPPLY_IN_RANGE` (R603). VDD_CORE and VDD_SRAM come within range after PWR_EN rises, or VDD_CORE stays above 0.68 V for 1 ms after a brown-out, and start-up runs from step 2 of R567. -/
  | coreSupplyInRange (t : Nat)
  /-- `SAFE_STATE_OUTPUT_RELEASE` (R471). In the safe state of a twin-configured device, the lease plus its guard runs out and An_SDO and TIME_OUT drive their inactive levels. -/
  | safeStateOutputRelease (t : Nat)
  /-- `TWIN_SLEEP_COMMIT_RECEIVED` (R557). A standby receives the sleep commit that the active device passes over the twin link and enters sleep entry under R552. -/
  | twinSleepCommitReceived (t : Nat) (body : List Byte)
  deriving DecidableEq, Repr

end Sys2Proof
end

