-- ==== Sys2Proof/Decode.lean ====
section
/-! DEFINITION. Words of commands. spec/opcode_table.json gives no row any bits: the commands of this block are no words
of an instruction memory, so no word spells one. -/

namespace Sys2Proof

/-- The command that a word spells by the bits of spec/opcode_table.json: no row has bits, so none. -/
def decodeTableWord (_nbits _w : Nat) : Option Instr := none

end Sys2Proof
end

