-- ==== Sys2Proof/Machine/Names.lean ====
section
/-! DEFINITION. The named modes of the device, each a closed type. -/

namespace Sys2Proof.Machine

/-- Power state of an island (R15). -/
inductive Power where
  | on | isolated | off
  deriving DecidableEq, Repr

/-- State of a fault source; masked is computed from its severity (R483). -/
inductive FState where
  | quiet | fault | latched | broken
  deriving DecidableEq, Repr

/-- Twin role (R486). -/
inductive Role where
  | solo | joining | standby | active | frozen | resyncing | out
  deriving DecidableEq, Repr

/-- State of a time domain (R355). -/
inductive DState where
  | disabled | listening | acquiring | locked | holdover | fault
  deriving DecidableEq, Repr

/-- Power state of the device (R539). -/
inductive PowerState where
  | service | entry | sleep | waking
  deriving DecidableEq, Repr

/-- How far a start has come (R567). -/
inductive BootPhase where
  | off | core | loader | ready | firmware | done
  deriving DecidableEq, Repr

end Sys2Proof.Machine
end

