-- ==== Sys2Proof/Machine/Operands.lean ====
section
/-! DEFINITION. Operand forms: byte fields of payloads and wire formats, and the CRCs. -/

namespace Sys2Proof.Machine

open Sys2Proof

/-- A list padded with zero bytes to `n` bytes, or cut to them. -/
def fitBytes (n : Nat) (bs : List Byte) : List Byte :=
  (bs ++ List.replicate n 0).take n

/-- `n` bytes from an offset; bytes past the end read 0. -/
def field (bs : List Byte) (off n : Nat) : List Byte := fitBytes n (bs.drop off)

/-- A little-endian number (R4). -/
def leNum : List Byte → Nat
  | [] => 0
  | b :: r => b.toNat + 256 * leNum r

/-- A big-endian number (R4). -/
def beNum (bs : List Byte) : Nat := bs.foldl (fun a b => a * 256 + b.toNat) 0

/-- Little-endian field of `n` bytes at an offset. -/
def le (bs : List Byte) (off n : Nat) : Nat := leNum (field bs off n)

/-- Big-endian field of `n` bytes at an offset. -/
def be (bs : List Byte) (off n : Nat) : Nat := beNum (field bs off n)

/-- A number as `n` little-endian bytes, modulo their range. -/
def leBytes : Nat → Nat → List Byte
  | 0, _ => []
  | n + 1, v => BitVec.ofNat 8 v :: leBytes n (v / 256)

/-- A number as `n` big-endian bytes, modulo their range. -/
def beBytes (n v : Nat) : List Byte := (leBytes n v).reverse

/-- Bits `[lo + w - 1 : lo]` of a number. -/
def bits (v lo w : Nat) : Nat := v / 2 ^ lo % 2 ^ w

/-- One bit of a number. -/
def bit (v i : Nat) : Bool := v / 2 ^ i % 2 = 1

/-- A Boolean as a bit at a position. -/
def flag (b : Bool) (i : Nat := 0) : Nat := if b then 2 ^ i else 0

/-- Set or clear a bit of a number. -/
def setBit (v i : Nat) (b : Bool) : Nat := v - flag (bit v i) i + flag b i

/-- A two's complement number of `w` bits. -/
def toSigned (w v : Nat) : Int :=
  if v % 2 ^ w < 2 ^ (w - 1) then (v % 2 ^ w : Nat) else ((v % 2 ^ w : Nat) : Int) - 2 ^ w

/-- A number in two's complement of `w` bits. -/
def ofSigned (w : Nat) (i : Int) : Nat := (i % (2 ^ w : Int)).toNat

/-- Saturate into the signed range of `w` bits. -/
def satSigned (w : Nat) (i : Int) : Int :=
  max (-(2 ^ (w - 1) : Int)) (min (2 ^ (w - 1) - 1 : Int) i)

/-- The `n` bytes at an offset are all 0. -/
def zeros (bs : List Byte) (off n : Nat) : Bool := (field bs off n).all (· == 0)

/-- The byte offset of the first nonzero byte among `n` bytes at an offset. -/
def firstNonzero (bs : List Byte) (off : Nat) : Nat → Option Nat
  | 0 => none
  | n + 1 => if le bs off 1 ≠ 0 then some off else firstNonzero bs (off + 1) n

/-- Cut a list into pieces of `k` bytes, at most `n` of them. -/
def chunks (bs : List Byte) (k : Nat) : Nat → List (List Byte)
  | 0 => []
  | n + 1 => if bs.isEmpty then [] else bs.take k :: chunks (bs.drop k) k n

/-- One step of the reflected CRC-32 over a bit. -/
def crc32Bit (c : Nat) : Nat := if c % 2 = 1 then (c / 2) ^^^ 0xEDB88320 else c / 2

/-- CRC-32 over one byte. -/
def crc32Byte (c : Nat) (b : Byte) : Nat :=
  crc32Bit (crc32Bit (crc32Bit (crc32Bit (crc32Bit (crc32Bit (crc32Bit (crc32Bit (c ^^^ b.toNat))))))))

/-- The CRC-32 of R83: the IEEE 802.3 FCS computation. -/
def crc32 (bs : List Byte) : Nat := bs.foldl crc32Byte 0xFFFFFFFF ^^^ 0xFFFFFFFF

/-- One step of CRC-8 with polynomial 0x07. -/
def crc8Bit (c : Nat) : Nat := if c ≥ 128 then (c * 2 % 256) ^^^ 0x07 else c * 2

/-- The CRC-8 of R67: initial value 0xFF, no reflection, no final XOR. -/
def crc8 (bs : List Byte) : Nat :=
  bs.foldl (fun c b => crc8Bit (crc8Bit (crc8Bit (crc8Bit (crc8Bit (crc8Bit (crc8Bit (crc8Bit
    (c ^^^ b.toNat))))))))) 0xFF

/-- The FCS bytes of a frame as they are sent: the CRC-32 low byte first (R40). -/
def fcsBytes (bs : List Byte) : List Byte := leBytes 4 (crc32 bs)

/-- The stomped FCS of a frame (R40). -/
def stompBytes (bs : List Byte) : List Byte := leBytes 4 (crc32 bs ^^^ 0xFFFFFFFF)

/-- Bytes joined under a mask: where the mask bit is 1 the new byte, else the old. -/
def maskByte (old new mask : Byte) : Byte := (old &&& ~~~mask) ||| (new &&& mask)

/-- The elements `from lo, n of them`. -/
def range (lo n : Nat) : List Nat := (List.range n).map (· + lo)

/-- Replace `bs.length` bytes of a list from an offset on. -/
def patch (old : List Byte) (off : Nat) (bs : List Byte) : List Byte :=
  old.take off ++ bs ++ old.drop (off + bs.length)

/-- Put an element into a list ordered by a test. -/
def insertBy {α : Type} (before : α → α → Bool) (x : α) : List α → List α
  | [] => [x]
  | y :: r => if before y x then y :: insertBy before x r else x :: y :: r

/-- Order a list by a test; equal elements keep their order. -/
def sortBy {α : Type} (before : α → α → Bool) (l : List α) : List α :=
  l.foldr (fun x r => insertBy (fun a b => before a b) x r) []

/-- The positions of the 1 bits of a number below `n`, ascending. -/
def bitList (v n : Nat) : List Nat := (List.range n).filter fun i => bit v i

/-- A number with the given bits set. -/
def ofBits (l : List Nat) : Nat := l.foldl (fun a i => a ||| 2 ^ i) 0

/-- The `n` highest bits of the CRC-32 before inversion (R161): bit 31 is bit 0 of the reflected register. -/
def crcTop (n : Nat) (bs : List Byte) : Nat :=
  let c := bs.foldl crc32Byte 0xFFFFFFFF
  (List.range n).foldl (fun a i => a * 2 + flag (bit c i)) 0

end Sys2Proof.Machine
end

