-- ==== Sys2Proof/Machine/Crypto.lean ====
section
/-! DEFINITION. AES, AES-GCM and AES-CMAC as the cipher engines compute them (R426, R442): FIPS 197,
SP 800-38D and SP 800-38B, which chapter 13 names. -/

namespace Sys2Proof.Machine

open Sys2Proof

/-- Part 0 of the S-box. -/
def aesSbox0 : List Nat := [
  99, 124, 119, 123, 242, 107, 111, 197, 48, 1, 103, 43, 254, 215, 171, 118,
  202, 130, 201, 125, 250, 89, 71, 240, 173, 212, 162, 175, 156, 164, 114, 192,
  183, 253, 147, 38, 54, 63, 247, 204, 52, 165, 229, 241, 113, 216, 49, 21,
  4, 199, 35, 195, 24, 150, 5, 154, 7, 18, 128, 226, 235, 39, 178, 117]

/-- Part 1 of the S-box. -/
def aesSbox1 : List Nat := [
  9, 131, 44, 26, 27, 110, 90, 160, 82, 59, 214, 179, 41, 227, 47, 132,
  83, 209, 0, 237, 32, 252, 177, 91, 106, 203, 190, 57, 74, 76, 88, 207,
  208, 239, 170, 251, 67, 77, 51, 133, 69, 249, 2, 127, 80, 60, 159, 168,
  81, 163, 64, 143, 146, 157, 56, 245, 188, 182, 218, 33, 16, 255, 243, 210]

/-- Part 2 of the S-box. -/
def aesSbox2 : List Nat := [
  205, 12, 19, 236, 95, 151, 68, 23, 196, 167, 126, 61, 100, 93, 25, 115,
  96, 129, 79, 220, 34, 42, 144, 136, 70, 238, 184, 20, 222, 94, 11, 219,
  224, 50, 58, 10, 73, 6, 36, 92, 194, 211, 172, 98, 145, 149, 228, 121,
  231, 200, 55, 109, 141, 213, 78, 169, 108, 86, 244, 234, 101, 122, 174, 8]

/-- Part 3 of the S-box. -/
def aesSbox3 : List Nat := [
  186, 120, 37, 46, 28, 166, 180, 198, 232, 221, 116, 31, 75, 189, 139, 138,
  112, 62, 181, 102, 72, 3, 246, 14, 97, 53, 87, 185, 134, 193, 29, 158,
  225, 248, 152, 17, 105, 217, 142, 148, 155, 30, 135, 233, 206, 85, 40, 223,
  140, 161, 137, 13, 191, 230, 66, 104, 65, 153, 45, 15, 176, 84, 187, 22]

/-- The S-box. -/
def aesSbox (x : Nat) : Nat := (aesSbox0 ++ aesSbox1 ++ aesSbox2 ++ aesSbox3).getD x 0

/-- Multiplication by x in the AES field. -/
def aesXtime (x : Nat) : Nat := if x ≥ 128 then ((x * 2) % 256) ^^^ 0x1B else x * 2

/-- Exclusive or of two lists of bytes. -/
def xorBytes (a b : List Nat) : List Nat := List.zipWith (· ^^^ ·) a b

/-- The round key words of a key: `n` more words from those so far, newest first. -/
def aesExpand (nk : Nat) : Nat → Nat → Nat → List (List Nat) → List (List Nat)
  | 0, _, _, ws => ws
  | n + 1, i, rcon, ws =>
    let prev := ws.headD []
    let old := ws.getD (nk - 1) []
    if i % nk = 0 then
      let r := (prev.drop 1 ++ prev.take 1).map aesSbox
      let r := (r.headD 0 ^^^ rcon) :: r.drop 1
      aesExpand nk n (i + 1) (aesXtime rcon) (xorBytes old r :: ws)
    else if nk = 8 && i % 8 = 4 then
      aesExpand nk n (i + 1) rcon (xorBytes old (prev.map aesSbox) :: ws)
    else aesExpand nk n (i + 1) rcon (xorBytes old prev :: ws)

/-- Cut a list into words of four bytes. -/
def quads : Nat → List Nat → List (List Nat)
  | 0, _ => []
  | n + 1, l => l.take 4 :: quads n (l.drop 4)

/-- The words of the key schedule of a 16- or 32-byte key, in order. -/
def aesSchedule (key : List Nat) : List (List Nat) :=
  let nk := key.length / 4
  (aesExpand nk (4 * (nk + 7) - nk) nk 1 (quads nk key).reverse).reverse

/-- MixColumns of one column. -/
def aesMix (c : List Nat) : List Nat :=
  match c with
  | [a, b, d, e] =>
    let t := a ^^^ b ^^^ d ^^^ e
    [a ^^^ t ^^^ aesXtime (a ^^^ b), b ^^^ t ^^^ aesXtime (b ^^^ d),
     d ^^^ t ^^^ aesXtime (d ^^^ e), e ^^^ t ^^^ aesXtime (e ^^^ a)]
  | l => l

/-- ShiftRows of a state of 16 bytes, column by column. -/
def aesShift (b : List Nat) : List Nat :=
  [0, 5, 10, 15, 4, 9, 14, 3, 8, 13, 2, 7, 12, 1, 6, 11].map fun i => b.getD i 0

/-- The rounds after the first key addition; the last has no MixColumns. -/
def aesRounds : Nat → List (List Nat) → List Nat → List Nat
  | 0, _, b => b
  | n + 1, ks, b =>
    let b := aesShift (b.map aesSbox)
    let b := if n = 0 then b else (quads 4 b).flatMap aesMix
    aesRounds n (ks.drop 4) (xorBytes b (ks.take 4).flatten)

/-- AES of one block under a key schedule. -/
def aesBlock (ks : List (List Nat)) (b : List Nat) : List Nat :=
  aesRounds (ks.length / 4 - 1) (ks.drop 4) (xorBytes b (ks.take 4).flatten)

/-- Bytes as numbers. -/
def toNats (bs : List Byte) : List Nat := bs.map BitVec.toNat

/-- Numbers as bytes. -/
def ofNats (l : List Nat) : List Byte := l.map (BitVec.ofNat 8)

/-- A big-endian number of byte values. -/
def natOf (l : List Nat) : Nat := l.foldl (fun a b => a * 256 + b) 0

/-- A number as 16 big-endian byte values. -/
def blockOf (v : Nat) : List Nat := toNats (beBytes 16 v)

/-- One step of the GHASH product. -/
def gfStep (x : Nat) (a : Nat × Nat) (i : Nat) : Nat × Nat :=
  (if bit x (127 - i) then a.1 ^^^ a.2 else a.1,
   if a.2 % 2 = 1 then (a.2 / 2) ^^^ (0xE1 * 2 ^ 120) else a.2 / 2)

/-- The product of GHASH. -/
def gfMul (x y : Nat) : Nat := ((List.range 128).foldl (gfStep x) (0, y)).1

/-- Byte values in zero-padded blocks of 16, as numbers. -/
def blocks16 : Nat → List Nat → List Nat
  | 0, _ => []
  | n + 1, l => natOf ((l ++ List.replicate 16 0).take 16) :: blocks16 n (l.drop 16)

/-- GHASH of additional data and ciphertext (SP 800-38D). -/
def ghash (h : Nat) (aad text : List Nat) : Nat :=
  let bl := blocks16 ((aad.length + 15) / 16) aad ++ blocks16 ((text.length + 15) / 16) text ++
    [aad.length * 8 * 2 ^ 64 + text.length * 8]
  bl.foldl (fun y b => gfMul (y ^^^ b) h) 0

/-- The key stream applied to text, from a counter block on. -/
def gctr (ks : List (List Nat)) (pre : List Nat) : Nat → Nat → List Nat → List Nat
  | 0, _, _ => []
  | n + 1, c, l =>
    xorBytes (l.take 16) (aesBlock ks (pre ++ toNats (beBytes 4 c))) ++ gctr ks pre n (c + 1) (l.drop 16)

/-- AES-GCM with a 96-bit IV: the text out and the full tag. -/
def gcm (key iv : List Byte) (aad text : List Byte) (decrypt : Bool) : List Byte × List Byte :=
  let ks := aesSchedule (toNats key)
  let h := natOf (aesBlock ks (List.replicate 16 0))
  let t := toNats text
  let out := gctr ks (toNats iv) ((t.length + 15) / 16) 2 t
  let s := ghash h (toNats aad) (if decrypt then t else out)
  let tag := xorBytes (blockOf s) (aesBlock ks (toNats iv ++ [0, 0, 0, 1]))
  (ofNats out, ofNats tag)

/-- Doubling in the field of CMAC. -/
def cmacDbl (x : Nat) : Nat :=
  if bit x 127 then (x * 2 % 2 ^ 128) ^^^ 0x87 else x * 2

/-- AES-CMAC (SP 800-38B). -/
def cmac (key msg : List Byte) : List Byte :=
  let ks := aesSchedule (toNats key)
  let k1 := cmacDbl (natOf (aesBlock ks (List.replicate 16 0)))
  let n := max 1 ((msg.length + 15) / 16)
  let bl := blocks16 n (toNats msg)
  let lastFull := msg.length ≠ 0 && msg.length % 16 == 0
  let last := if lastFull then bl.getLastD 0 ^^^ k1
    else natOf ((toNats (msg.drop (16 * (n - 1))) ++ 0x80 :: List.replicate 16 0).take 16) ^^^ cmacDbl k1
  let x := (bl.dropLast).foldl (fun y b => natOf (aesBlock ks (blockOf (y ^^^ b)))) 0
  ofNats (aesBlock ks (blockOf (x ^^^ last)))

end Sys2Proof.Machine
end

