-- ==== Sys2Proof/Config.lean ====
section
/-! DEFINITION. What the device has from its maker, and the free values.
The constants without a body are free: no proof can rest on a value of theirs. -/

namespace Sys2Proof

/-- A value that the spec leaves open (a random draw, a nonce, an unstated result).
The argument is the number of values drawn before it. Log entry 3. -/
opaque Config.freeValue : Nat → Nat

/-- The root key that the SRAM PUF of this device yields, 32 bytes (R441, R454). Log entry 3. -/
opaque Config.pufRoot : Nat → Nat

/-- Varbolo's key-encryption key material from which firmware and loader work, 32 bytes
(R575, R585). Log entry 3. -/
opaque Config.storageKey : Nat → Nat

/-- The parse-graph part of a Crava package, by its version: Varbolo ships it encrypted (R567, R573, R574). Log entry 3. -/
opaque Config.packageGraph : Nat → Nat

/-- `DEV_ID` of R2 and R76. -/
def Config.devId : Nat := 0x9160

/-- `SI_REV` of R76. -/
def Config.siRev : Nat := 0xB0

/-- Major number of firmware ZGF 3.2 (R1, R76). -/
def Config.fwMajor : Nat := 3

/-- Minor number of firmware ZGF 3.2 (R1, R76). -/
def Config.fwMinor : Nat := 2

/-- The clock identity of the time unit in PTP messages, 8 bytes; the spec does not state it. Log entry 3. -/
opaque Config.clockIdentity : Nat → Nat

/-- Build number of the firmware that the device left the factory with (R76, R572); the spec gives none. Log entry 3. -/
opaque Config.fwBuild : Nat → Nat

end Sys2Proof
end

