-- ==== Sys2Proof/Machine/Tab.lean ====
section
/-! DEFINITION. Sparse tables: lists of key and value pairs, keys strictly rising. -/

namespace Sys2Proof.Machine

/-- A sparse table; an unlisted key holds the default of its reader. -/
structure Tab (α : Type) where
  /-- The listed entries, keys strictly rising. -/
  cells : List (Nat × α) := []
  deriving DecidableEq, Repr

/-- Look a key up in a list of pairs. -/
def assocFind {α : Type} (k : Nat) : List (Nat × α) → Option α
  | [] => none
  | (j, v) :: r => if j = k then some v else assocFind k r

/-- Put a pair in its place in a list with rising keys. -/
def assocSet {α : Type} (k : Nat) (v : α) : List (Nat × α) → List (Nat × α)
  | [] => [(k, v)]
  | (j, w) :: r =>
    if k < j then (k, v) :: (j, w) :: r
    else if k = j then (k, v) :: r
    else (j, w) :: assocSet k v r

/-- Take a key out. -/
def assocErase {α : Type} (k : Nat) : List (Nat × α) → List (Nat × α)
  | [] => []
  | (j, w) :: r => if j = k then r else (j, w) :: assocErase k r

/-- The entry of a key, if it is listed. -/
def Tab.find {α : Type} (t : Tab α) (k : Nat) : Option α := assocFind k t.cells

/-- The entry of a key, or the default. -/
def Tab.get {α : Type} (d : α) (t : Tab α) (k : Nat) : α := (t.find k).getD d

/-- Write an entry. -/
def Tab.set {α : Type} (t : Tab α) (k : Nat) (v : α) : Tab α := { cells := assocSet k v t.cells }

/-- Remove an entry. -/
def Tab.erase {α : Type} (t : Tab α) (k : Nat) : Tab α := { cells := assocErase k t.cells }

/-- Change an entry, starting from the default where it is not listed. -/
def Tab.modify {α : Type} (d : α) (t : Tab α) (k : Nat) (f : α → α) : Tab α :=
  t.set k (f (t.get d k))

/-- Change every listed entry. -/
def Tab.map {α : Type} (t : Tab α) (f : Nat → α → α) : Tab α :=
  { cells := t.cells.map fun c => (c.1, f c.1 c.2) }

/-- Keep the listed entries that satisfy a test. -/
def Tab.filter {α : Type} (t : Tab α) (p : Nat → α → Bool) : Tab α :=
  { cells := t.cells.filter fun c => p c.1 c.2 }

/-- The keys of a table rise strictly. -/
def Tab.wf {α : Type} (t : Tab α) : Bool :=
  match t.cells with
  | [] => true
  | c :: r => (r.foldl (fun (a : Bool × Nat) d => (a.1 && decide (a.2 < d.1), d.1)) (true, c.1)).1

end Sys2Proof.Machine
end

