-- ==== Sys2Proof/Machine/RecBus.lean ====
section
/-! DEFINITION. Plain data records of the bus controller records (chapters 04 and 17).
Each field cites the chapter and rule of spec/ that names it. A field default is its value at reset. -/

namespace Sys2Proof.Machine

/-- A message bound for or received from a bus (R122). -/
structure BusMsg where
  /-- 0 classical, 1 FD, 2 XL (2 bits) (04 R122). -/
  kind : Nat := 0
  /-- Extended format (04 R122). -/
  xtd : Bool := false
  /-- Remote frame (04 R122). -/
  remote : Bool := false
  /-- Bit-rate switch (04 R122). -/
  brs : Bool := false
  /-- ESI (04 R122). -/
  esi : Bool := false
  /-- Identifier, 11 or 29 bits (04 R122). -/
  id : Nat := 0
  /-- Data field, up to 2048 bytes (04 R122). -/
  data : List Byte := []
  /-- XL SDT, 8 bits (04 R122). -/
  sdt : Nat := 0
  /-- XL VCID, 8 bits (04 R122). -/
  vcid : Nat := 0
  /-- XL SEC (04 R122). -/
  sec : Bool := false
  /-- XL AF, 32 bits (04 R122). -/
  af : Nat := 0
  /-- Traffic class 0 to 7 (04 R111). -/
  cls : Nat := 0
  /-- Arrival order in the deep queue (04 R111). -/
  seq : Nat := 0
  /-- Layout of a composed message (09 R320). -/
  layout : Option Nat := none
  /-- DIV_LAYOUT of the layout (09 R326). -/
  divLayout : Option Nat := none
  /-- A diverted copy (04 R134). -/
  diverted : Bool := false
  /-- Stored frame the message is a reference of (08 R274). -/
  frame : Nat := 0
  deriving DecidableEq, Repr

/-- A hardware transmit buffer TB0 to TB2 (R111). -/
structure TxBuf where
  /-- The message held (04 R111). -/
  msg : Option BusMsg := none
  /-- An attempt is in progress (04 R115). -/
  engaged : Bool := false
  deriving DecidableEq, Repr

/-- A receive filter entry (R117). -/
structure Filter where
  /-- TYPE, 2 bits (04 R117). -/
  typ : Nat := 0
  /-- XTD (04 R117). -/
  xtd : Bool := false
  /-- KINDS, 5 bits (04 R117). -/
  kinds : Nat := 0
  /-- DEST, 2 bits (04 R117). -/
  dest : Nat := 0
  /-- QUEUE, 6 bits (04 R117). -/
  queue : Nat := 0
  /-- ID1, 29 bits (04 R117). -/
  id1 : Nat := 0
  /-- ID2, 29 bits (04 R117). -/
  id2 : Nat := 0
  deriving DecidableEq, Repr

/-- The frame a controller is receiving after its evaluation instant (R622). -/
structure BusRx where
  /-- The frame (04 R122). -/
  msg : BusMsg := {}
  /-- Destination 0 to 3 (04 R121). -/
  dest : Nat := 0
  /-- Tide queue (04 R121). -/
  queue : Nat := 0
  /-- Index of the matching entry or 0xFF (04 R122). -/
  filter : Nat := 0xFF
  /-- R123 word of a mapped identifier (04 R123). -/
  entry : Option Nat := none
  /-- The identifier lookup met a bad entry (04 R124). -/
  missed : Bool := false
  /-- The bad entry that the identifier lookup was the first to find (02 R47). -/
  badSeen : Option (Nat × Nat) := none
  /-- Map version stamped (09 R332). -/
  mapVer : Nat := 0
  /-- Holds a speculative copy set (09 R308). -/
  specSet : Bool := false
  /-- Cipher engine claimed (09 R324). -/
  engine : Option Nat := none
  /-- Instant the wait for an engine began (09 R324). -/
  waitEngine : Option Nat := none
  /-- 0 none, 3 key, 4 no engine within SEC_WAIT, 5 tamper alarm (09 R324). -/
  secFail : Nat := 0
  /-- Number of the frame (09 R308). -/
  fid : Nat := 0
  deriving DecidableEq, Repr

/-- A committed bus.config (R144). -/
structure BusCfg where
  /-- FRAMES, 8 bits (04 R144). -/
  frames : Nat := 0
  /-- ARB_MODE (04 R144). -/
  arbMode : Bool := false
  /-- AUTO_RECOVER (04 R144). -/
  autoRecover : Bool := true
  /-- NOACK_SINGLE_SHOT (04 R144). -/
  noackSingle : Bool := false
  /-- DIVERT_EN (04 R144). -/
  divertEn : Bool := false
  /-- TMODE_FN (04 R144). -/
  tmodeFn : Bool := false
  /-- TMODE_LEVEL (04 R144). -/
  tmodeLevel : Bool := false
  /-- DIVERT_BUS, 8 bits (04 R144). -/
  divertBus : Nat := 0
  /-- Bytes 4 to 23 of the layout: the bit timing, TDC and PWM fields (04 R144). -/
  timing : List Byte := []
  /-- DEEP_LIMIT (04 R113). -/
  deepLimit : Nat := 256
  /-- DRAIN_LIMIT, units of 100 us (04 R139). -/
  drainLimit : Nat := 50
  deriving DecidableEq, Repr

/-- Transmit side of a controller (R111 to R116, R131 to R136). -/
structure BusTx where
  /-- Consecutive unacknowledged attempts (04 R135). -/
  noack : Nat := 0
  /-- The count reached 16 and has not returned to 0 (04 R135). -/
  noackEpisode : Bool := false
  /-- Single-shot in force (04 R136). -/
  singleShot : Bool := false
  /-- TB0 (04 R111). -/
  tb0 : TxBuf := {}
  /-- TB1 (04 R111). -/
  tb1 : TxBuf := {}
  /-- TB2 (04 R111). -/
  tb2 : TxBuf := {}
  /-- Frame number of the held message (04 R131). -/
  held : Option Nat := none
  /-- Only the held message is offered after recovery (04 R132). -/
  heldOnly : Bool := false
  /-- Deep transmit queue in priority order (04 R113). -/
  deep : List BusMsg := []
  /-- Next arrival number (04 R111). -/
  seq : Nat := 0
  /-- EV043 was raised in this bus-off episode (04 R133). -/
  divertSeen : Bool := false
  /-- Instant the drain of a bus.disable began (04 R139). -/
  draining : Option Nat := none
  /-- Buffers the drain returned (04 R139). -/
  drainBack : Nat := 0
  /-- The controller stops after an abort as its attempt ends (04 R141). -/
  aborting : Bool := false
  /-- DEF_CLASS of sw.port.config (08 R290). -/
  defClass : Nat := 0
  /-- BUS_POOL (08 R258). -/
  pool : Nat := 2
  deriving DecidableEq, Repr

/-- A selective-wake filter (R562). -/
structure WakeFilter where
  /-- XTD (17 R562). -/
  xtd : Bool := false
  /-- DLC_CHK (17 R562). -/
  dlcChk : Bool := false
  /-- DLC (17 R562). -/
  dlc : Nat := 0
  /-- ID (17 R562). -/
  id : Nat := 0
  /-- ID_MASK (17 R562). -/
  idMask : Nat := 0
  /-- DATA_MASK, 8 bytes (17 R562). -/
  dataMask : List Byte := []
  deriving DecidableEq, Repr

/-- A bus lap in progress (R548). -/
structure BusLap where
  /-- OP (17 R548). -/
  op : Nat := 1
  /-- LAP_SEQ (17 R548). -/
  seq : Nat := 0
  /-- Node that sends next (17 R548). -/
  next : Nat := 0
  /-- CONSENT (17 R548). -/
  consent : BitVec 64 := 1
  /-- Instant the previous message became valid (17 R549). -/
  atNs : Nat := 0
  /-- Nodes found absent in this lap (17 R549). -/
  absent : List Nat := []
  /-- Node 0 could send the opening message (17 R548). -/
  opened : Bool := true
  deriving DecidableEq, Repr

/-- Wake and sleep-ring side of a controller (R543, R547 to R563). -/
structure BusWake where
  /-- Selective-wake filters (17 R562). -/
  wakeFilters : List WakeFilter := []
  /-- WUP_EN (17 R562). -/
  wupEn : Bool := false
  /-- Frame error counter of the wake detector (17 R543). -/
  wakeErr : Nat := 0
  /-- Participates in the ring (17 R563). -/
  ringOn : Bool := false
  /-- RING_ID, 11 bits (17 R563). -/
  ringId : Nat := 0
  /-- NODE_SLOT_MS (17 R549). -/
  nodeSlotMs : Nat := 10
  /-- BUS_NODES (17 R563). -/
  ringNodes : BitVec 64 := 1
  /-- Bus lap in progress (17 R548). -/
  lap : Option BusLap := none
  /-- The last bus lap returned with every member's bit set (17 R547). -/
  lapFull : Bool := false
  deriving DecidableEq, Repr

/-- One bus controller (R103 to R148). -/
structure Bus where
  /-- The committed configuration (04 R138). -/
  cfg : Option BusCfg := none
  /-- The controller is enabled (04 R138). -/
  enabled : Bool := false
  /-- Waiting for 11 recessive bits (04 R138). -/
  integrating : Bool := false
  /-- Bus-off (04 R127). -/
  busOff : Bool := false
  /-- A bus-off episode runs, from bus-off entry to EV042 (04 R133). -/
  episode : Bool := false
  /-- Error-passive (the state as last evaluated) (04 R127). -/
  passive : Bool := false
  /-- Restricted operation in force (04 R125). -/
  restricted : Bool := false
  /-- A mode change ordered and not yet in effect (true restricted) (04 R140). -/
  wantMode : Option Bool := none
  /-- TEC, 0 to 256 (04 R127). -/
  tec : Nat := 0
  /-- REC, 0 to 255 (04 R127). -/
  recCount : Nat := 0
  /-- The recovery count runs (04 R128). -/
  recovering : Bool := false
  /-- Occurrences counted, 0 to 128 (04 R128). -/
  recovery : Nat := 0
  /-- Transmit side (04 R111). -/
  tx : BusTx := {}
  /-- Receive filter list (04 R622). -/
  filters : List Filter := []
  /-- Default destination, byte 3 of R145 (04 R622). -/
  defDest : Nat := 0
  /-- Frame being received (04 R622). -/
  rx : Option BusRx := none
  /-- EV039 was raised since the last clear (04 R124). -/
  unmappedSeen : Bool := false
  /-- Stuck-dominant until 11 recessive bits (04 R130). -/
  stuck : Bool := false
  /-- Waiting for bus integration after a protocol exception or error (04 R129). -/
  errWait : Bool := false
  /-- Level of Bnn_TXD (recessive is high) (04 R107). -/
  txd : Bool := true
  /-- Level of Bnn_TMODE (04 R107). -/
  tmode : Bool := false
  /-- Wake and ring side (17 R548). -/
  wk : BusWake := {}
  deriving DecidableEq, Repr

end Sys2Proof.Machine
end

