-- ==== Sys2Proof/Machine/RecEth.lean ====
section
/-! DEFINITION. Plain data records of the Ethernet port records (chapters 05, 08 and 16).
Each field cites the chapter and rule of spec/ that names it. A field default is its value at reset. -/

namespace Sys2Proof.Machine

/-- A committed eth.config (R185). -/
structure EthCfg where
  /-- MODE 1 to 5, 0 while never configured (05 R149). -/
  mode : Nat := 0
  /-- SPEED, 8 bits (05 R185). -/
  speed : Nat := 0
  /-- PROMISC (05 R160). -/
  promisc : Bool := true
  /-- ALL_MULTI (05 R160). -/
  allMulti : Bool := true
  /-- CT_ALLOW (05 R185). -/
  ctAllow : Bool := true
  /-- TAG_MODE (05 R185). -/
  tagMode : Bool := false
  /-- CAUSEWAY (05 R185). -/
  causeway : Bool := false
  /-- PAUSE_RX_EN (05 R185). -/
  pauseRxEn : Bool := true
  /-- PAUSE_TX_EN (05 R185). -/
  pauseTxEn : Bool := false
  /-- WAKE_RX_KEEP as configured (05 R174). -/
  wakeRxKeep : Bool := false
  /-- MAC_ADDR (05 R185). -/
  mac : List Byte := List.replicate 6 0
  /-- MAX_FRAME (05 R155). -/
  maxFrame : Nat := 1522
  /-- PLCA_NODE_ID (05 R185). -/
  plcaNode : Nat := 0xFF
  /-- PLCA_NODE_COUNT (05 R157). -/
  plcaCount : Nat := 8
  /-- PLCA_TO_TIMER (05 R157). -/
  plcaTo : Nat := 32
  /-- PLCA_BURST_COUNT (05 R157). -/
  plcaBurst : Nat := 0
  /-- PLCA_BURST_TIMER (05 R157). -/
  plcaBurstTimer : Nat := 128
  /-- T1S_WAKE_MIN in us (05 R176). -/
  t1sWakeMin : Nat := 2
  /-- PVID, 16 bits (05 R185). -/
  pvid : Nat := 1
  /-- UNTAG_VID (05 R185). -/
  untagVid : Nat := 1
  /-- Exact entries, up to 16 addresses (05 R160). -/
  exact : List (List Byte) := []
  /-- 512-bit hash table (05 R161). -/
  hash : List Byte := List.replicate 64 0
  deriving DecidableEq, Repr

/-- One Ethernet wake pattern (R188). -/
structure WakePat where
  /-- ENABLE (05 R188). -/
  enable : Bool := false
  /-- MASK, 16 bytes (05 R188). -/
  mask : List Byte := []
  /-- PATTERN, 128 bytes (05 R188). -/
  pattern : List Byte := []
  deriving DecidableEq, Repr

/-- Causeway speed step-down of a port (R178 to R182). -/
structure StepSt where
  /-- Enabled by eth.stepdown.config (05 R189). -/
  enable : Bool := false
  /-- STEP_WINDOW in ms (05 R178). -/
  windowMs : Nat := 100
  /-- DOWN_PCT (05 R178). -/
  downPct : Nat := 15
  /-- UP_BYTES in KiB (05 R178). -/
  upKiB : Nat := 64
  /-- The transmit side runs at quarter rate (05 R180). -/
  stepped : Bool := false
  /-- The receive side runs at quarter rate (05 R180). -/
  rxStepped : Bool := false
  /-- 0 none, 1 request sent, 2 acknowledged, 3 switching and relocking (05 R180). -/
  phase : Nat := 0
  /-- TARGET of the step in progress (05 R179). -/
  target : Nat := 0
  /-- SEQ of the step in progress (05 R179). -/
  seq : Nat := 0
  /-- Instant of the request (05 R181). -/
  since : Nat := 0
  /-- Instant of the last switch now sent (05 R180). -/
  swTxAt : Option Nat := none
  /-- Instant of the last switch now received (05 R180). -/
  swRxAt : Option Nat := none
  /-- Instant from which the receiver has had no block lock (05 R182). -/
  lockLost : Option Nat := none
  /-- Target and sequence of a request acknowledged while a step was in progress (05 R180). -/
  asked : Option (Nat × Nat) := none
  /-- The transmit side has switched (05 R180). -/
  txDone : Bool := false
  /-- The receive side has locked at the new rate (05 R180). -/
  rxDone : Bool := false
  /-- No further request for full rate before this instant (05 R181). -/
  holdFull : Nat := 0
  /-- No further request for quarter rate before this instant (05 R181). -/
  holdQuarter : Nat := 0
  /-- The step in progress returns to the previous rate after a fail (05 R182). -/
  returning : Bool := false
  /-- Step messages that wait for a frame boundary: operation, target, sequence (05 R180). -/
  outbox : List (Nat × Nat × Nat) := []
  /-- Disable once the step-up has completed (05 R189). -/
  stepUpThenOff : Bool := false
  deriving DecidableEq, Repr

/-- The transmission in progress on an Ethernet egress. -/
structure TxNow where
  /-- Stored frame (08 R274). -/
  frame : Nat := 0
  /-- Instant the first preamble byte left (08 R265). -/
  atNs : Nat := 0
  /-- The edited frame, without FCS (08 R277). -/
  bytes : List Byte := []
  /-- Sent by cut-through before the verdict (02 R41). -/
  ct : Bool := false
  /-- Counted in spec_ct_started (02 R54). -/
  started : Bool := false
  /-- The FCS has been decided (02 R41). -/
  fcsSent : Bool := false
  /-- The FCS sent is stomped (02 R41). -/
  stomp : Bool := false
  /-- A mirror reference (08 R272). -/
  mirror : Bool := false
  /-- Class of the reference (08 R282). -/
  cls : Nat := 0
  /-- Bytes charged to the deficit (08 R285). -/
  charged : Nat := 0
  /-- Collisions of this frame so far (05 R159). -/
  attempts : Nat := 0
  /-- End of the collision back-off (05 R159). -/
  backoffUntil : Option Nat := none
  deriving DecidableEq, Repr

/-- PAUSE generation and reception of a port (R163 to R167). -/
structure EthPause where
  /-- HIGH_WM in KiB (05 R164). -/
  highWm : Nat := 192
  /-- LOW_WM in KiB (05 R164). -/
  lowWm : Nat := 128
  /-- QUANTA (05 R164). -/
  quanta : Nat := 0xFFFF
  /-- Quanta of the PAUSE waiting for a frame boundary (05 R165). -/
  pauseWant : Option Nat := none
  /-- The share has risen to HIGH_WM and not fallen below LOW_WM (05 R164). -/
  pauseHigh : Bool := false
  /-- The waiting PAUSE is the first since the share rose (05 R191). -/
  pauseFresh : Bool := false
  /-- Instant of the last PAUSE sent (05 R164). -/
  pauseSentAt : Nat := 0
  /-- Pause time of the last PAUSE sent, ns; 0 after a zero-quanta PAUSE (05 R164). -/
  pauseSentNs : Nat := 0
  /-- Instant the partner pause in force began (05 R166). -/
  pausedAt : Nat := 0
  /-- Instant from which no frame has started for the partner pause (05 R167). -/
  pausedFrom : Nat := 0
  /-- End of the partner pause in force (05 R166). -/
  pausedUntil : Option Nat := none
  /-- EV052 raised for this pause (05 R191). -/
  pausedLong : Bool := false
  /-- Paused nanoseconds not yet counted in paused_time_us (05 R167). -/
  pausedNs : Nat := 0
  deriving DecidableEq, Repr

/-- A reference in a class queue. -/
structure QRef where
  /-- Stored frame (08 R272). -/
  frame : Nat := 0
  /-- Granted cut-through (08 R275). -/
  ct : Bool := false
  /-- A mirror reference (08 R272). -/
  mirror : Bool := false
  deriving DecidableEq, Repr

/-- Egress side of a port: class queues, scheduler, hold window (R261, R279 to R292). -/
structure EthEg where
  /-- CT_EN (08 R290). -/
  ctEn : Bool := true
  /-- PCP_TRUST (08 R290). -/
  pcpTrust : Bool := true
  /-- DEF_CLASS (08 R290). -/
  defClass : Nat := 0
  /-- PORT_HOLD in 100 us (08 R279). -/
  portHold : Nat := 50
  /-- PCP_MAP, 24 bits (08 R290). -/
  pcpMap : Nat := 0x00FAC688
  /-- PORT_POOL (the ports E00 to E03 reset to 0) (08 R258). -/
  pool : Nat := 1
  /-- DRR_TOP (08 R282). -/
  drrTop : Nat := 4
  /-- IDLE_SLOPE5 in kb/s (08 R291). -/
  slope5 : Nat := 0
  /-- IDLE_SLOPE6 in kb/s (08 R291). -/
  slope6 : Nat := 0
  /-- QUANTUM per class, an unlisted class holds 1536 (08 R285). -/
  quantum : Tab Nat := {}
  /-- Deficit per class in bytes (08 R285). -/
  deficit : Tab Nat := {}
  /-- Class whose round-robin turn it is (08 R285). -/
  turn : Nat := 0
  /-- The class in turn has already added its quantum (08 R285). -/
  turnOpen : Bool := false
  /-- Credit of class 5 in 10^-6 bits (08 R284). -/
  credit5 : Int := 0
  /-- Credit of class 6 in 10^-6 bits (08 R284). -/
  credit6 : Int := 0
  /-- Instant the credits were last brought up to date (08 R284). -/
  creditAt : Nat := 0
  /-- The eight class queues, oldest first (08 R261). -/
  queues : Tab (List QRef) := {}
  /-- End of the hold window (08 R279). -/
  holdUntil : Option Nat := none
  /-- Flushed and awaiting link (08 R280). -/
  flushed : Bool := false
  deriving DecidableEq, Repr

/-- A causeway header (R510). -/
structure CwHead where
  /-- Kind (16 R510). -/
  kind : Nat := 0
  /-- SRC_ID (16 R510). -/
  srcId : Nat := 0
  /-- DST_ID (16 R510). -/
  dstId : Nat := 0
  /-- HOPS (16 R510). -/
  hops : Nat := 0
  /-- RULE_VER (16 R510). -/
  ruleVer : Nat := 0xFFFF
  /-- CLASS (16 R510). -/
  cls : Nat := 0
  /-- ENC (16 R510). -/
  enc : Bool := false
  /-- TIME_OK (16 R510). -/
  timeOk : Bool := false
  /-- TARGET (16 R510). -/
  target : Nat := 0
  /-- TIME_SNIP (16 R510). -/
  snip : Nat := 0
  /-- SEQ (16 R510). -/
  seq : Nat := 0
  deriving DecidableEq, Repr

/-- Causeway side of a port: neighbour and encryption (R520 to R526, R534). -/
structure CwPort where
  /-- BUNDLE (16 R534). -/
  bundle : Nat := 0
  /-- ENC (16 R534). -/
  enc : Bool := false
  /-- KEY_TX handle (16 R534). -/
  keyTx : Nat := 0
  /-- KEY_RX handle (16 R534). -/
  keyRx : Nat := 0
  /-- Engine of the transmit direction (16 R525). -/
  engTx : Option Nat := none
  /-- Engine of the receive direction (16 R525). -/
  engRx : Option Nat := none
  /-- Own NONCE (16 R520). -/
  nonce : List Byte := []
  /-- NONCE of the neighbour (16 R520). -/
  peerNonce : List Byte := []
  /-- Transmit session key (16 R525). -/
  sessTx : Option (List Byte) := none
  /-- Receive session key (16 R525). -/
  sessRx : Option (List Byte) := none
  /-- 64-bit link counter of the last frame sent (16 R525). -/
  linkTx : Nat := 0
  /-- Last accepted link counter (16 R525). -/
  linkRx : Nat := 0
  /-- The encrypting port lacks a session or an engine (16 R526). -/
  encWait : Bool := false
  /-- A neighbour is present (16 R520). -/
  nbUp : Bool := false
  /-- Instant of the last HELLO of the neighbour (16 R520). -/
  nbHeard : Nat := 0
  /-- ID of the neighbour (16 R521). -/
  nbId : Nat := 0
  /-- STRAP of the neighbour (16 R520). -/
  nbStrap : Nat := 0
  /-- BUNDLE of the neighbour (16 R520). -/
  nbBundle : Nat := 0
  /-- MAC_ADDR of the neighbour (17 R555). -/
  nbMac : List Byte := []
  /-- Messages of this device that wait for a frame boundary: header, body, HELLO (05 R166). -/
  waiting : List (CwHead × List Byte × Bool) := []
  /-- A magic packet for the neighbour waits for a frame boundary (17 R555). -/
  magicDue : Bool := false
  deriving DecidableEq, Repr

/-- Learning settings of a port (R239, R242). -/
structure L2Port where
  /-- EXCESS of the port (07 R239). -/
  l2Excess : Bool := false
  /-- FLUSH_ON_DOWN (07 R242). -/
  l2FlushDown : Bool := true
  /-- LIMIT (07 R239). -/
  l2Limit : Nat := 4096
  /-- The count has reached LIMIT since it was last below (07 R239). -/
  l2AtLimit : Bool := false
  deriving DecidableEq, Repr

/-- One entry of the Follow_Up table (R350). -/
structure FuEntry where
  /-- Domain number (10 R350). -/
  dom : Nat := 0
  /-- Sequence identifier (10 R350). -/
  seqId : Nat := 0
  /-- Instant the Sync left (10 R350). -/
  atNs : Nat := 0
  /-- Residence time in 2^-16 ns (10 R350). -/
  residence : Int := 0
  deriving DecidableEq, Repr

/-- One Ethernet port (R149 to R192, R279 to R292). -/
structure Eth where
  /-- Configuration (05 R185). -/
  cfg : EthCfg := {}
  /-- The port is enabled (05 R152). -/
  enabled : Bool := false
  /-- An eth.disable is completing its frame in flight (05 R153). -/
  disabling : Bool := false
  /-- Link is up (05 R152). -/
  linkUp : Bool := false
  /-- Port sleep (05 R174). -/
  portSleep : Bool := false
  /-- Negotiated or fixed rate in Mb/s before step-down (05 R151). -/
  rateMb : Nat := 0
  /-- Half duplex (05 R149). -/
  half : Bool := false
  /-- PLCA status (05 R158). -/
  plcaActive : Bool := false
  /-- Remote fault or PHY fault (05 R191). -/
  remoteFault : Bool := false
  /-- PAUSE (05 R163). -/
  pz : EthPause := {}
  /-- Wake patterns 0 to 7 (05 R175). -/
  patterns : Tab WakePat := {}
  /-- Magic packet enabled (05 R175). -/
  magic : Bool := false
  /-- Step-down (05 R178). -/
  step : StepSt := {}
  /-- Transmission in progress (08 R274). -/
  tx : Option TxNow := none
  /-- Stored or passing frame being received (05 R155). -/
  rx : Option Nat := none
  /-- Egress (08 R282). -/
  eg : EthEg := {}
  /-- Wake patterns and magic packet setting in force until an instant, newest first (05 R177). -/
  wakeSets : List (Nat × Tab WakePat × Bool) := []
  /-- Causeway (16 R520). -/
  cw : CwPort := {}
  /-- RX_LAT in 0.25 ns (10 R370). -/
  rxLat : Nat := 0
  /-- TX_LAT in 0.25 ns (10 R370). -/
  txLat : Nat := 0
  /-- Residence times of two-step Syncs that left on this egress (10 R350). -/
  followUp : List FuEntry := []
  /-- Learning settings (07 R239). -/
  l2 : L2Port := {}
  /-- IPv6 frames dropped because the parser input queue of the port was full (01 R28). -/
  v6Lost : Nat := 0
  deriving DecidableEq, Repr

end Sys2Proof.Machine
end

