-- ==== Sys2Proof/Machine/RecHost.lean ====
section
/-! DEFINITION. Plain data records of the host interface, mailbox, island and counter records (chapters 01 and 03).
Each field cites the chapter and rule of spec/ that names it. A field default is its value at reset. -/

namespace Sys2Proof.Machine

/-- One 16-byte event log record (R79). -/
structure EvtRec where
  /-- Source number, 8 bits (03 R79). -/
  evt : Nat := 0
  /-- Mailbox concerned or 0xFF, 8 bits (03 R79). -/
  mbx : Nat := 0xFF
  /-- UNIT field, 16 bits (03 R79). -/
  unit : Nat := 0xFFFF
  /-- DETAIL, 32 bits (03 R79). -/
  detail : Nat := 0
  /-- Active time ns, 64 bits (03 R79). -/
  time : Nat := 0
  deriving DecidableEq, Repr

/-- A request latched by the mailbox unit (R83, R86 step 3). -/
structure Req where
  /-- TAG, 8 bits (03 R83). -/
  tag : Nat := 0
  /-- CODE, group*256+operation, 16 bits (03 R83). -/
  code : Nat := 0
  /-- LENGTH, 16 bits (03 R83). -/
  len : Nat := 0
  /-- FLAGS, 16 bits (03 R83). -/
  flags : Nat := 0
  /-- Request payload, LENGTH bytes (03 R86). -/
  payload : List Byte := []
  deriving DecidableEq, Repr

/-- One entry of the PARTIAL list (R93). -/
structure UnitResult where
  /-- Device of a partner or member, none for this device (03 R93). -/
  dev : Option Nat := none
  /-- Island 0 to 6 (03 R93). -/
  island : Nat := 0
  /-- Unit 0 to 62 (03 R93). -/
  unit : Nat := 0
  /-- The unit was restarted (03 R93). -/
  faulted : Bool := false
  /-- Fault source raised or 0xFFFF (03 R93). -/
  fs : Nat := 0xFFFF
  deriving DecidableEq, Repr

/-- One mailbox MBXn with its control registers (R82) and the command it holds (R86). -/
structure Mbx where
  /-- MBX_CMD, 16 bytes (03 R82). -/
  cmd : List Byte := List.replicate 16 0
  /-- A doorbell is pending (R87) (03 R87). -/
  ringing : Bool := false
  /-- DROPPED, 1 bit (03 R82). -/
  dropped : Bool := false
  /-- INTERIM, 1 bit (03 R82). -/
  interim : Bool := false
  /-- DONE, 1 bit (03 R82). -/
  done : Bool := false
  /-- TAG, 8 bits (03 R82). -/
  tag : Nat := 0
  /-- MSTATE, 3 bits (03 R82). -/
  mstate : Nat := 0
  /-- MBX_RESP, 16 bytes (03 R82). -/
  resp : List Byte := List.replicate 16 0
  /-- The outstanding command (03 R86). -/
  req : Option Req := none
  /-- Instant of the doorbell (03 R13). -/
  rungAt : Nat := 0
  /-- Instant of acceptance (03 R86). -/
  acceptedAt : Nat := 0
  /-- Instant from which the longest time runs (00 R13). -/
  startedAt : Nat := 0
  /-- Acceptance order among the mailboxes (03 R90). -/
  order : Nat := 0
  /-- The command answered DEFERRED and waits or runs after its disable (03 R90). -/
  deferred : Bool := false
  /-- The command's effect has started and ends at a later step (03 R86). -/
  running : Bool := false
  /-- The command passed its commit point (03 R92). -/
  committed : Bool := false
  /-- A two-phase command has begun and waits for its commit point (03 R92). -/
  prepared : Bool := false
  /-- The units that a committed command involves (03 R97). -/
  waiting : List UnitResult := []
  /-- Instant of the abort doorbell while MSTATE is 3 (03 R95). -/
  abortAt : Option Nat := none
  /-- The abort waits for the port or controller of the command to stop (03 R94). -/
  stopping : Bool := false
  /-- Instant at which each status bit was last set (00 R8). -/
  setAt : Tab Nat := {}
  /-- Figures a running command keeps until its last step; of a committed one, the units (island*64+unit) not yet switched or back (03 R86). -/
  aux : List Nat := []
  deriving DecidableEq, Repr

/-- MSI-X state of the endpoint (R63). -/
structure Msix where
  /-- MSI-X Enable (03 R63). -/
  enable : Bool := false
  /-- Function Mask (03 R63). -/
  fmask : Bool := false
  /-- Mask bit per vector (03 R63). -/
  vmask : BitVec 32 := BitVec.allOnes 32
  /-- Pending Bit Array (03 R63). -/
  pend : BitVec 32 := 0
  /-- The address and data words of the table entries, 32 bits each (03 R63). -/
  table : Tab Nat := {}
  deriving DecidableEq, Repr

/-- Configuration registers of the PCIe endpoint that the host writes (R60, R61, R64). -/
structure Pcie where
  /-- Memory Space Enable (03 R60). -/
  memEn : Bool := false
  /-- Base address of BAR0, 32 bits (03 R61). -/
  bar0 : Nat := 0
  /-- Base address of BAR2, 64 bits (03 R61). -/
  bar2 : Nat := 0
  /-- Max_Payload_Size: 0 128 bytes, 1 256 bytes (03 R60). -/
  maxPayload : Nat := 0
  /-- Max_Read_Request_Size: 0 128, 1 256, 2 512 bytes (03 R60). -/
  maxRead : Nat := 2
  /-- ASPM L1 enabled (03 R60). -/
  aspmL1 : Bool := false
  /-- Completion Timeout Value, 4 bits; 0 is the default of 10 ms (03 R64). -/
  cplTimeout : Nat := 0
  /-- AER Uncorrectable Error Status (03 R60). -/
  uncStatus : Nat := 0
  /-- AER Uncorrectable Error Mask (03 R60). -/
  uncMask : Nat := 0
  /-- AER Uncorrectable Error Severity (03 R60). -/
  uncSev : Nat := 0x00462030
  /-- AER Correctable Error Status (03 R60). -/
  corStatus : Nat := 0
  /-- AER Correctable Error Mask (03 R60). -/
  corMask : Nat := 0x00002000
  deriving DecidableEq, Repr

/-- A counter with its saturation flag (R31). -/
structure Ctr where
  /-- Value, 32 or 16 bits (01 R31). -/
  val : Nat := 0
  /-- At least one update was lost at all ones (01 R31). -/
  sat : Bool := false
  /-- Instant of the last update (02 R56). -/
  atNs : Nat := 0
  /-- Value before the updates of that instant (02 R56). -/
  was : Nat := 0
  /-- Saturation flag before the updates of that instant (02 R56). -/
  wasSat : Bool := false
  /-- Sum of the updates of that instant (02 R56). -/
  part : Nat := 0
  deriving DecidableEq, Repr

/-- The held counter snapshot (R101). -/
structure Snapshot where
  /-- SNAP_ID, 32 bits, 0 while none is held (03 R101). -/
  id : Nat := 0
  /-- GROUP of the scope (03 R101). -/
  group : Nat := 0
  /-- ALL of the scope (03 R101). -/
  all : Bool := false
  /-- FUNCTION of the scope (03 R101). -/
  fn : Nat := 0
  /-- Active time of the snapshot instant (03 R101). -/
  time : Nat := 0
  /-- The counters copied at the snapshot instant (03 R55). -/
  ctrs : Tab Ctr := {}
  deriving DecidableEq, Repr

/-- The SPI slave (R65 to R71). -/
structure Spi where
  /-- SPI_STATUS, 8 bits (03 R70). -/
  status : BitVec 8 := 0
  /-- SPI_SEEN, 1 bit (03 R76). -/
  seen : Bool := false
  deriving DecidableEq, Repr

/-- Host interface registers (R76, R77). -/
structure HostIf where
  /-- SCRATCH (03 R76). -/
  scratch : BitVec 32 := 0
  /-- PART, 8 bits (1 ZG9160-E) (03 R76). -/
  part : Nat := 1
  /-- PCIE_UP (03 R76). -/
  pcieUp : Bool := false
  /-- PCIE_WIDTH, 4 bits (03 R76). -/
  pcieWidth : Nat := 0
  /-- PCIE_SPEED, 2 bits (03 R76). -/
  pcieSpeed : Nat := 0
  /-- Bus mastering enabled in the configuration space (12 R421). -/
  busMaster : Bool := false
  /-- PERST_N is low (19 R606). -/
  perst : Bool := false
  /-- EVT_STATUS0-3 (03 R77). -/
  evtStatus : BitVec 128 := 0
  /-- Per source, the instant of its last occurrence and whether its vector was sent then (00 R8). -/
  evtSetAt : Tab (Nat × Bool) := {}
  /-- EVT_MASK0-3 (03 R77). -/
  evtMask : BitVec 128 := BitVec.allOnes 128
  /-- EVT_LOG_WR, 8 bits (03 R77). -/
  evtLogWr : Nat := 0
  /-- EVT_LOG_RD, 8 bits (03 R77). -/
  evtLogRd : Nat := 0
  /-- The 256 records between RD and WR are all unreleased (03 R79). -/
  evtLogFull : Bool := false
  /-- EVT_LOG_LOST, 32 bits (03 R77). -/
  evtLogLost : Nat := 0
  /-- INT_PIN_EN (03 R77). -/
  intPinEn : Bool := true
  /-- EVT_VEC per source, 5 bits (03 R77). -/
  evtVec : Tab Nat := {}
  /-- The 256 records of the event log (03 R75). -/
  log : Tab EvtRec := {}
  /-- MSI-X (03 R63). -/
  msix : Msix := {}
  /-- Configuration registers of the endpoint (03 R60). -/
  pcie : Pcie := {}
  /-- SPI slave (03 R70). -/
  spi : Spi := {}
  /-- Held snapshot (03 R101). -/
  snap : Snapshot := {}
  deriving DecidableEq, Repr

/-- One island (R14, R15, R23). -/
structure Island where
  /-- On, isolated or off (01 R15). -/
  power : Power := .on
  /-- ISLAND_STATE reads 11 (03 R76). -/
  restarting : Bool := false
  /-- Held off by dev.config (01 R15). -/
  hold : Bool := false
  /-- Fault source that ordered the restart, or 0xFF (14 R468). -/
  cause : Nat := 0xFF
  /-- Latched source that holds the island isolated (14 R475). -/
  latchedBy : Option Nat := none
  /-- Instant the restart began (01 R23). -/
  since : Nat := 0
  /-- Instant the island last returned to on (14 R465). -/
  backAt : Nat := 0
  /-- Strait handshake timeout in ns (01 R20). -/
  straitNs : Nat := 10000
  deriving DecidableEq, Repr

/-- One unit under a severity 2 action (R468). -/
structure UnitSt where
  /-- The unit is being restarted (14 R468). -/
  restarting : Bool := false
  /-- Source that ordered the restart (14 R468). -/
  cause : Nat := 0xFF
  /-- Latched source that holds the unit (14 R475). -/
  latchedBy : Option Nat := none
  /-- Instant the restart began (14 R469). -/
  since : Nat := 0
  /-- Instant the unit last returned (14 R469). -/
  backAt : Nat := 0
  deriving DecidableEq, Repr

/-- A channel of the strait fabric from one island to another (R18, R20). -/
structure Chan where
  /-- Instant at which its reset handshake began (01 R20). -/
  resetAt : Option Nat := none
  /-- The channel stays closed (01 R20). -/
  closed : Bool := false
  deriving DecidableEq, Repr

end Sys2Proof.Machine
end

