-- ==== Sys2Proof/Machine/RecSignal.lean ====
section
/-! DEFINITION. Plain data records of the signal engine records (chapter 09).
Each field cites the chapter and rule of spec/ that names it. A field default is its value at reset. -/

namespace Sys2Proof.Machine

/-- A signal slot (R295) with its run state. -/
structure Slot where
  /-- VALUE, signed 64-bit (09 R295). -/
  value : Int := 0
  /-- STATUS.VALID (09 R296). -/
  valid : Bool := false
  /-- STATUS.FRESH (09 R296). -/
  fresh : Bool := false
  /-- STATUS.SUBST (09 R296). -/
  subst : Bool := false
  /-- STATUS.RAW_ERR (09 R296). -/
  rawErr : Bool := false
  /-- STATUS.PHYS_ERR (09 R296). -/
  physErr : Bool := false
  /-- STATUS.SECURED (09 R296). -/
  secured : Bool := false
  /-- STATUS.SRC, 6 bits (09 R296). -/
  src : Nat := 63
  /-- STAMP, 32 bits (09 R295). -/
  stamp : Nat := 0
  /-- Local time at which the freshness timer expires (09 R310). -/
  expiry : Option Nat := none
  /-- SUBST_MODE 01 of the descriptor that wrote it (09 R310). -/
  substMode : Bool := false
  /-- SUBST of the descriptor that wrote it (09 R310). -/
  substVal : Int := 0
  /-- Counted among the stale slots (09 R310). -/
  stale : Bool := false
  deriving DecidableEq, Repr

/-- A slot definition of the live map (R329). -/
structure SlotDef where
  /-- HOST_WR (09 R329). -/
  hostWr : Bool := false
  /-- RESET (09 R329). -/
  reset : Bool := false
  /-- HOST_FRESH in 100 us (09 R329). -/
  hostFresh : Nat := 0
  /-- INIT (09 R329). -/
  init : Int := 0
  deriving DecidableEq, Repr

/-- A descriptor with its extension entries (R300, R301). -/
structure Desc where
  /-- SLOT, 17 bits (09 R300). -/
  slot : Nat := 0
  /-- BIT_OFF, 14 bits (09 R300). -/
  bitOff : Nat := 0
  /-- Field length 1 to 64 (09 R300). -/
  len : Nat := 1
  /-- MSB_FIRST (09 R300). -/
  msbFirst : Bool := false
  /-- SIGNED (09 R300). -/
  signed : Bool := false
  /-- SUBST_MODE (09 R300). -/
  substMode : Nat := 0
  /-- RANGE_ACT (09 R300). -/
  rangeAct : Nat := 0
  /-- SHIFT (09 R300). -/
  shift : Nat := 0
  /-- MULT, signed 36-bit (09 R300). -/
  mult : Int := 0
  /-- FRESH in 100 us (09 R300). -/
  fresh : Nat := 0
  /-- DIR (09 R300). -/
  pack : Bool := false
  /-- WATCH (09 R300). -/
  watch : Bool := false
  /-- OFFSET (09 R301). -/
  offset : Int := 0
  /-- SUBST (09 R301). -/
  subst : Int := 0
  /-- RAW_LO or the field's least value (09 R301). -/
  rawLo : Int := 0
  /-- RAW_HI or the field's greatest value (09 R301). -/
  rawHi : Int := 0
  /-- EXT_RAW (09 R300). -/
  extRaw : Bool := false
  /-- PHYS_LO (09 R301). -/
  physLo : Int := -9223372036854775808
  /-- PHYS_HI (09 R301). -/
  physHi : Int := 9223372036854775807
  deriving DecidableEq, Repr

/-- A layout record (R313). -/
structure Layout where
  /-- FIRST_ENTRY (09 R313). -/
  first : Nat := 0
  /-- ENTRY_COUNT (09 R313). -/
  count : Nat := 0
  /-- LKIND (09 R313). -/
  kind : Nat := 0
  /-- REPLACE (09 R313). -/
  replace : Bool := false
  /-- SECURED (09 R313). -/
  secured : Bool := false
  /-- CLASS (09 R313). -/
  cls : Nat := 0
  /-- FILL (09 R313). -/
  fill : Nat := 0
  /-- SEC_PROFILE (09 R313). -/
  profile : Nat := 0
  /-- MLEN (09 R313). -/
  mlen : Nat := 0
  /-- FV_SLOT (09 R313). -/
  fvSlot : Nat := 0
  /-- TARGET, 32 bits (09 R313). -/
  target : Nat := 0
  /-- ID (09 R313). -/
  id : Nat := 0
  /-- AF (09 R313). -/
  af : Nat := 0
  /-- SDT (09 R313). -/
  sdt : Nat := 0
  /-- VCID (09 R313). -/
  vcid : Nat := 0
  /-- DIV_LAYOUT (09 R313). -/
  divLayout : Nat := 0xFFFF
  /-- The descriptors of its entries (09 R313). -/
  descs : List Desc := []
  deriving DecidableEq, Repr

/-- A composition trigger record (R316). -/
structure Trig where
  /-- TLAYOUT (09 R316). -/
  layout : Nat := 0
  /-- CHANGE (09 R316). -/
  change : Bool := false
  /-- PERIODIC (09 R316). -/
  periodic : Bool := false
  /-- REQUEST (09 R316). -/
  request : Bool := false
  /-- ON_STATUS (09 R316). -/
  onStatus : Bool := false
  /-- TIME_TRIG (09 R316). -/
  timeTrig : Nat := 0
  /-- DIVIDER (09 R316). -/
  divider : Nat := 1
  /-- PHASE (09 R316). -/
  phase : Nat := 0
  /-- MIN_GAP in 100 us (09 R316). -/
  minGap : Nat := 0
  deriving DecidableEq, Repr

/-- Run state of a composition trigger (R317). -/
structure TrigRun where
  /-- Local time of its last firing (09 R317). -/
  fired : Option Nat := none
  /-- A pending firing (09 R317). -/
  pending : Bool := false
  /-- Periodic index (09 R317). -/
  index : Nat := 0
  deriving DecidableEq, Repr

/-- A secured-message profile (R321). -/
structure Profile where
  /-- KEY_HANDLE (09 R321). -/
  handle : Nat := 0
  /-- TAG_LEN (09 R321). -/
  tagLen : Nat := 4
  /-- FV_LEN (09 R321). -/
  fvLen : Nat := 1
  /-- WINDOW (09 R321). -/
  window : Nat := 1
  /-- ENGINES (09 R321). -/
  engines : Nat := 0
  deriving DecidableEq, Repr

/-- An Ethernet template (R314). -/
structure Template where
  /-- TFLAGS (09 R314). -/
  flags : Nat := 0
  /-- HEADER, HLEN bytes (09 R314). -/
  header : List Byte := []
  deriving DecidableEq, Repr

/-- A signal map version (R332, R333). -/
structure SigMap where
  /-- Version, 16 bits (09 R332). -/
  ver : Nat := 0
  /-- MAP_ID (09 R330). -/
  mapId : Nat := 0
  /-- SEC_WAIT in us (09 R324). -/
  secWaitUs : Nat := 50
  /-- Descriptor entries used (09 R338). -/
  entries : Nat := 0
  /-- Layouts (09 R313). -/
  layouts : Tab Layout := {}
  /-- Composition triggers (09 R316). -/
  triggers : Tab Trig := {}
  /-- Bus direct identifier entries, key bus*2048+id, R123 words (09 R330). -/
  direct : Tab Nat := {}
  /-- Hashed identifier entries, key bus*2^29+id, R123 words (09 R330). -/
  hashed : Tab Nat := {}
  /-- Ethernet bindings: layout and PAYLOAD_OFF per handle (09 R306). -/
  binds : Tab (Nat × Nat) := {}
  /-- Templates (09 R314). -/
  templates : Tab Template := {}
  /-- Profiles (09 R321). -/
  profiles : Tab Profile := {}
  /-- Slot definitions (09 R329). -/
  slots : Tab SlotDef := {}
  /-- Slots its descriptors use (09 R335). -/
  used : List Nat := []
  /-- The Ikisil image it came from (09 R330). -/
  image : List Byte := []
  /-- Identifier entries committed since: table, bus, identifier, word (07 R246). -/
  overlay : List (Nat × Nat × Nat × Nat) := []
  deriving DecidableEq, Repr

/-- A speculative composition (R319). -/
structure SpecComp where
  /-- Layout composed (09 R319). -/
  layout : Nat := 0
  /-- Trigger that would fire (09 R319). -/
  trig : Nat := 0
  /-- Source 0 to 31 bus, 32 to 55 port (09 R319). -/
  bus : Nat := 0
  /-- Number of the source frame (09 R319). -/
  fid : Nat := 0
  /-- Slots read and their committed values then (09 R319). -/
  reads : List (Nat × Int) := []
  /-- Map version (09 R319). -/
  ver : Nat := 0
  deriving DecidableEq, Repr

/-- A confirmed source frame waiting for its commit (R309). -/
structure CommitWait where
  /-- Number of the frame (09 R308). -/
  fid : Nat := 0
  /-- Holds a speculative copy set (09 R308). -/
  specSet : Bool := false
  /-- 0 classical, 1 FD, 2 XL (09 R322). -/
  kind : Nat := 0
  /-- SRC, 0 to 55 (09 R296). -/
  src : Nat := 0
  /-- Instant of the verdict (09 R309). -/
  atNs : Nat := 0
  /-- Active-time ns of the validity instant (09 R297). -/
  valid : Nat := 0
  /-- Receive layout (09 R306). -/
  layout : Nat := 0
  /-- Map version stamped (09 R332). -/
  ver : Nat := 0
  /-- Data field (09 R307). -/
  data : List Byte := []
  /-- Remote frame (09 R307). -/
  remote : Bool := false
  /-- Identifier of a bus frame (09 R322). -/
  ident : Nat := 0
  /-- FORMAT byte of a bus frame (09 R322). -/
  fmt : Nat := 0
  /-- Engine that verifies a secured frame (09 R324). -/
  engine : Option Nat := none
  /-- 0 none, 3 key, 4 no engine within SEC_WAIT, 5 tamper alarm (09 R323). -/
  fail : Nat := 0
  /-- Instant a wait for an engine began that still runs (09 R324). -/
  engWaitFrom : Option Nat := none
  /-- A secured message (09 R323). -/
  secured : Bool := false
  deriving DecidableEq, Repr

/-- A secured message waiting for an engine at release (R325). -/
structure SecOut where
  /-- Layout (09 R325). -/
  layout : Nat := 0
  /-- The message without trailer (09 R325). -/
  msg : BusMsg := {}
  /-- Instant the wait began (09 R325). -/
  since : Nat := 0
  /-- Destination controller (09 R325). -/
  bus : Nat := 0
  deriving DecidableEq, Repr

/-- The signal engine and store (R295 to R340). -/
structure Sig where
  /-- 131072 slots (09 R295). -/
  slots : Tab Slot := {}
  /-- Current map version (09 R332). -/
  cur : SigMap := {}
  /-- Older live version (09 R334). -/
  old : Option SigMap := none
  /-- Commit point of the current version (09 R334). -/
  commitAt : Nat := 0
  /-- Staged image bytes (09 R331). -/
  image : List Byte := []
  /-- ISTATE (09 R338). -/
  iState : Nat := 0
  /-- The checked image (09 R331). -/
  staged : Option SigMap := none
  /-- Identifier entries staged by tbl.direct.write: table, bus, index, word (07 R246). -/
  stagedDirect : List (Nat × Nat × Nat × Nat) := []
  /-- Trigger run state (09 R317). -/
  runs : Tab TrigRun := {}
  /-- Speculative compositions (09 R319). -/
  specs : List SpecComp := []
  /-- Speculative copy sets in use (09 R308). -/
  specSets : Nat := 0
  /-- Confirmed frames waiting for their commit, in verdict order (09 R298). -/
  wait : List CommitWait := []
  /-- Secured messages waiting for an engine (09 R325). -/
  secOut : List SecOut := []
  /-- Stale slots (09 R310). -/
  staleCount : Nat := 0
  /-- EV070 was raised since the last clear (09 R339). -/
  rangeSeen : Bool := false
  /-- EV076 was raised since the last clear (09 R320). -/
  dropSeen : Bool := false
  /-- Triggers that fire at this instant and have not composed (09 R317). -/
  due : List Nat := []
  /-- Slots whose freshness timer expires at this instant and is not judged yet (09 R311). -/
  lapse : List Nat := []
  /-- Signal operations in the last full second, in thousands (09 R338). -/
  ops : Nat := 0
  /-- Signal operations of the running second (09 R338). -/
  opsNow : Nat := 0
  /-- Start of the running second (09 R338). -/
  opsFrom : Nat := 0
  deriving DecidableEq, Repr

end Sys2Proof.Machine
end

