-- ==== Sys2Proof/Machine/RecSwitch.lean ====
section
/-! DEFINITION. Plain data records of the parser, lookup and switch records (chapters 06 to 08).
Each field cites the chapter and rule of spec/ that names it. A field default is its value at reset. -/

namespace Sys2Proof.Machine

/-- The action of a rule (R210). -/
structure Action where
  /-- NO_CT (06 R210). -/
  noCt : Bool := false
  /-- FWD_BUS (06 R210). -/
  fwdBus : Bool := false
  /-- FWD_PORT (06 R210). -/
  fwdPort : Bool := false
  /-- SET_CLASS (06 R210). -/
  setClass : Bool := false
  /-- MIRROR (06 R210). -/
  mirror : Bool := false
  /-- COPY (06 R210). -/
  copy : Bool := false
  /-- DROP (06 R210). -/
  drop : Bool := false
  /-- CLASS (06 R210). -/
  cls : Nat := 0
  /-- COPY_QUEUE (06 R210). -/
  copyQueue : Nat := 0
  /-- MIRROR_PORT (06 R210). -/
  mirrorPort : Nat := 0
  /-- FWD_MASK, 24 bits (06 R210). -/
  fwdMask : Nat := 0
  /-- POLICER (06 R210). -/
  policer : Nat := 0xFFFF
  /-- YELLOW_ACT (06 R210). -/
  yellowAct : Nat := 0
  /-- YELLOW_CLASS (06 R210). -/
  yellowClass : Nat := 0
  /-- RED_ACT (06 R210). -/
  redAct : Nat := 0
  /-- TAG_OP (06 R210). -/
  tagOp : Nat := 0
  /-- TAG_VAL (06 R210). -/
  tagVal : Nat := 0
  /-- STREAM (06 R210). -/
  stream : Nat := 0xFFFF
  /-- BUS (06 R210). -/
  bus : Nat := 0
  deriving DecidableEq, Repr

/-- A classifier rule (R208). -/
structure Rule where
  /-- RULE_ID (06 R208). -/
  id : Nat := 0
  /-- PRIO (06 R208). -/
  prio : Nat := 0
  /-- VALUE, 64 bytes (06 R208). -/
  value : List Byte := []
  /-- MASK, 64 bytes (06 R208). -/
  mask : List Byte := []
  /-- ACTION (06 R210). -/
  action : Action := {}
  /-- Instant of the commit that brought in the RULE_ID (06 R218). -/
  born : Nat := 0
  deriving DecidableEq, Repr

/-- One physical bank of rules and parse graph (R214). -/
structure Bank where
  /-- Version, 16 bits (06 R214). -/
  ver : Nat := 0
  /-- Rules sorted under R209 (06 R216). -/
  rules : List Rule := []
  /-- Parse graph image, empty for none (06 R216). -/
  graph : List Byte := []
  deriving DecidableEq, Repr

/-- A two-rate policer (R212). -/
structure Policer where
  /-- CIR in kb/s (06 R213). -/
  cir : Nat := 0
  /-- PIR in kb/s (06 R213). -/
  pir : Nat := 0
  /-- CBS in bytes (06 R213). -/
  cbs : Nat := 1518
  /-- PBS in bytes (06 R213). -/
  pbs : Nat := 1518
  /-- Committed level in 10^-6 bits (06 R212). -/
  cLevel : Int := 12144000000
  /-- Peak level in 10^-6 bits (06 R212). -/
  pLevel : Int := 12144000000
  /-- Instant of the last refill (06 R212). -/
  atNs : Nat := 0
  deriving DecidableEq, Repr

/-- The parser and classifier (R193 to R225). -/
structure Parse where
  /-- The graph parser is in service (06 R193). -/
  graphInService : Bool := false
  /-- Parse.select has chosen the groundsheet parser (06 R193). -/
  select : Bool := false
  /-- Graph memory fault until the rewrite completes (06 R193). -/
  graphFault : Bool := false
  /-- Bank of the current version (06 R214). -/
  cur : Bank := {}
  /-- Bank of the older version (06 R214). -/
  old : Bank := {}
  /-- Commit point of the current version (06 R215). -/
  commitAt : Option Nat := none
  /-- Staged rule set, none while nothing is staged (06 R221). -/
  staged : Option (List Rule) := none
  /-- Graph chunks staged so far (06 R220). -/
  gBytes : List Byte := []
  /-- GSTATE 0 none, 1 partial, 2 complete and checked (06 R222). -/
  gState : Nat := 0
  /-- 1024 policers (06 R213). -/
  policers : Tab Policer := {}
  deriving DecidableEq, Repr

/-- A next-hop record (R231). -/
structure NextHop where
  /-- Egress port, 0xFE discard, 0xFF firmware (07 R231). -/
  port : Nat := 0
  /-- VID of the routed frame (07 R231). -/
  vid : Nat := 0
  /-- Destination MAC address (07 R231). -/
  mac : List Byte := []
  /-- Routes that use the record (07 R231). -/
  uses : Nat := 0
  deriving DecidableEq, Repr

/-- A prefix (R250). -/
structure Route where
  /-- FAMILY IPv6 (07 R250). -/
  v6 : Bool := false
  /-- PLEN (07 R250). -/
  plen : Nat := 0
  /-- Prefix as a 32- or 128-bit number (07 R250). -/
  pfx : Nat := 0
  /-- Next-hop index (07 R231). -/
  hop : Nat := 0
  deriving DecidableEq, Repr

/-- A node of the LPM trie with its place (R228, R230). -/
structure LpmNode where
  /-- Address bits before the node (07 R229). -/
  len : Nat := 16
  /-- Those bits (07 R229). -/
  pfx : Nat := 0
  /-- Pipeline position 1 to 14 (07 R229). -/
  pos : Nat := 0
  /-- Word address of the node in its stage memory (07 R227). -/
  word : Nat := 0
  /-- BASE, word address of its run array (07 R228). -/
  base : Nat := 0
  /-- RUNS (07 R228). -/
  runs : Nat := 1
  deriving DecidableEq, Repr

/-- Words of a stage memory that have become unreachable (R233). -/
structure LpmFreed where
  /-- Stage memory 1 to 7 (07 R233). -/
  mem : Nat := 0
  /-- First word (07 R233). -/
  word : Nat := 0
  /-- Number of words (07 R233). -/
  words : Nat := 0
  /-- Instant at which they became unreachable (07 R233). -/
  atNs : Nat := 0
  deriving DecidableEq, Repr

/-- An L2 table entry (R235). -/
structure L2Ent where
  /-- MAC (07 R235). -/
  mac : List Byte := []
  /-- VID (07 R235). -/
  vid : Nat := 0
  /-- PORT (07 R235). -/
  port : Nat := 0
  /-- HIT (07 R235). -/
  hit : Bool := false
  /-- FROZEN (07 R235). -/
  frozen : Bool := false
  /-- A move window or freeze is open (07 R241). -/
  window : Bool := false
  /-- HOME (07 R235). -/
  home : Nat := 0
  /-- MOVES (07 R235). -/
  moves : Nat := 0
  /-- TIMER in ms of the real-time counter (07 R235). -/
  timer : Nat := 0
  deriving DecidableEq, Repr

/-- A VLAN table entry (R244). -/
structure VlanEnt where
  /-- VALID (07 R244). -/
  valid : Bool := false
  /-- MEMBER, 24 bits (07 R244). -/
  member : Nat := 0
  /-- UNTAG, 24 bits (07 R244). -/
  untag : Nat := 0
  /-- FLOOD, 24 bits (07 R244). -/
  flood : Nat := 0
  /-- LEARN (07 R244). -/
  learn : Bool := false
  /-- ROUTE (07 R244). -/
  route : Bool := false
  deriving DecidableEq, Repr

/-- A stream-handle entry (R245). -/
structure StreamEnt where
  /-- VALID (07 R245). -/
  valid : Bool := false
  /-- SPORTS, 24 bits (07 R245). -/
  ports : Nat := 0
  /-- SCLASS (07 R245). -/
  cls : Nat := 0
  /-- MAX_SDU (07 R245). -/
  maxSdu : Nat := 0
  deriving DecidableEq, Repr

/-- A learn event (R238). -/
structure LearnEv where
  /-- Ingress port (07 R238). -/
  port : Nat := 0
  /-- VID (07 R238). -/
  vid : Nat := 0
  /-- KSA (07 R238). -/
  mac : List Byte := []
  /-- Mirrored from the twin partner (R243) (07 R243). -/
  mirrored : Bool := false
  /-- Instant of arrival in the learning unit (07 R238). -/
  atNs : Nat := 0
  deriving DecidableEq, Repr

/-- Lookup tables and learning (R226 to R256). -/
structure Tables where
  /-- The nodes in the seven stage memories (R226 to R230); the root entries, bitmaps and run entries follow from them and the routes (07 R228). -/
  nodes : List LpmNode := []
  /-- Words of the stage memories that wait 40 us before they are used again (07 R233). -/
  freed : List LpmFreed := []
  /-- The committed routes (the shadow copy), in the order in which each was last added (07 R231). -/
  routes : List Route := []
  /-- 4096 next-hop records (07 R231). -/
  hops : Tab NextHop := {}
  /-- EV063 was raised (07 R234). -/
  spaceLow : Bool := false
  /-- 65536 L2 entries, index bucket*4+way (07 R235). -/
  l2 : Tab L2Ent := {}
  /-- AGE_S (07 R237). -/
  ageS : Nat := 300
  /-- Instant of the last ageing scan (07 R237). -/
  ageAt : Nat := 0
  /-- MOVE_LIMIT (07 R241). -/
  moveLimit : Nat := 4
  /-- HOLD_MS (07 R241). -/
  holdMs : Nat := 1000
  /-- ROUTER_MAC (07 R251). -/
  routers : List (List Byte) := []
  /-- Learning unit queue, 1024 events (07 R238). -/
  learnQ : List LearnEv := []
  /-- VLAN table (07 R244). -/
  vlans : Tab VlanEnt := {}
  /-- Stream-handle table (07 R245). -/
  streams : Tab StreamEnt := {}
  /-- Bad entries found and under rewrite: table 0 to 7 as FS104 to FS111, index (07 R248). -/
  bad : List (Nat × Nat) := []
  /-- Bad entries whose finding lookup has just been discarded, to be reported with the speculative flag (02 R47). -/
  told : List (Nat × Nat) := []
  /-- VLANs for which EV060 was raised since the last clear (07 R240). -/
  bucketFullSeen : List Nat := []
  deriving DecidableEq, Repr

/-- A frame in the Forwarding Island. -/
structure Frame where
  /-- Ingress source: KPORT of R202, 256 firmware, 257 signal engine, 258 audio router (06 R202). -/
  src : Nat := 0
  /-- Bytes from the destination address on, without FCS; or a bus frame record (08 R257). -/
  bytes : List Byte := []
  /-- The FCS as received: 0 correct, 1 wrong, 2 stomped; or of an encrypted frame 3 tag failed, 4 counter refused, 5 key refused (02 R43). -/
  fcsState : Nat := 0
  /-- Instant of the stamp (06 R214). -/
  atNs : Nat := 0
  /-- Ingress time stamp in local ns (10 R347). -/
  rxTime : Nat := 0
  /-- Rule version stamped (06 R214). -/
  ver : Nat := 0
  /-- Parsed by the groundsheet parser (06 R194). -/
  gsheet : Bool := false
  /-- 0 accepted, 1 truncated, 2 rejected (06 R200). -/
  outcome : Nat := 0
  /-- SHORT (06 R199). -/
  short : Bool := false
  /-- 64-byte lookup key (06 R202). -/
  key : List Byte := []
  /-- Reason the frame is discarded: 0 none, 1 filtered, 2 undersize, 3 oversize, 4 tag error, 5 MAC control, 6 rejected by the walk (R200), 7 over MAX_SDU (R245) (05 R160). -/
  dropRx : Nat := 0
  /-- RULE_ID applied (06 R209). -/
  rule : Option Nat := none
  /-- Action of the rule applied (06 R210). -/
  action : Action := {}
  /-- 0 green, 1 yellow, 2 red, 3 not policed (06 R212). -/
  colour : Nat := 3
  /-- Final class (08 R261). -/
  cls : Nat := 0
  /-- Egress set of Ethernet ports, 24 bits (08 R263). -/
  egress : Nat := 0
  /-- Destination controller (06 R211). -/
  busDst : Option Nat := none
  /-- Copies to tide queues: queue and REASON (06 R211). -/
  tides : List (Nat × Nat) := []
  /-- Next hop of a routed frame (07 R231). -/
  routedHop : Option Nat := none
  /-- Counters to raise at a confirmed verdict: group, function, index (08 R294). -/
  drops : List (Nat × Nat × Nat) := []
  /-- Tables with a lookup not yet confirmed (02 R46). -/
  lookups : List Nat := []
  /-- May produce a learn event (07 R238). -/
  learn : Bool := false
  /-- Causeway header received with the frame (16 R510). -/
  cw : Option CwHead := none
  /-- The classification result is fixed (06 R214). -/
  fixed : Bool := false
  /-- Admitted (08 R263). -/
  admitted : Bool := false
  /-- The last byte is stored (08 R263). -/
  whole : Bool := false
  /-- 0 awaited, 1 confirmed, 2 spoiled (02 R33). -/
  verdict : Nat := 0
  /-- Pool charged (08 R258). -/
  pool : Nat := 0
  /-- Cells charged (08 R263). -/
  cells : Nat := 0
  /-- References not yet released (08 R272). -/
  refs : Nat := 0
  /-- Some reference has started (08 R265). -/
  started : Bool := false
  /-- Local time of admission (08 R269). -/
  admitAt : Nat := 0
  /-- Order of admission (08 R266). -/
  order : Nat := 0
  /-- Checksum marks: bit 0 IPv4 header, bit 1 L4 (05 R169). -/
  csum : Nat := 0
  /-- IP_OK 0 not checked, 1 good, 2 bad (05 R168). -/
  ipOk : Nat := 0
  /-- L4_OK (05 R168). -/
  l4Ok : Nat := 0
  /-- Layout of a composed message (09 R320). -/
  layout : Option Nat := none
  /-- Link counter of an encrypted frame, reconstructed (16 R525). -/
  linkCtr : Nat := 0
  /-- Receive layout bound by its stream handle (09 R306). -/
  bind : Option Nat := none
  /-- Map version stamped (09 R332). -/
  mapVer : Nat := 0
  /-- The frame never learns (16 R524). -/
  noLearn : Bool := false
  /-- The frame is a bus frame record (04 R122). -/
  busRec : Bool := false
  /-- Frame length of R155, or the length of the record (05 R155). -/
  wire : Nat := 0
  /-- A causeway frame in transit or broadcast, forwarded with its own header (16 R511). -/
  transit : Bool := false
  /-- Mirror port (06 R211). -/
  mirrorTo : Option Nat := none
  /-- PCP that the MAC or the tag gives (05 R172). -/
  prio : Nat := 0
  /-- The delivered copy of a broadcast frame that is forwarded too; it shares the verdict (16 R511). -/
  also : Option Nat := none
  /-- The bound frame holds a speculative copy set (09 R308). -/
  specSet : Bool := false
  /-- Instant of the commit that brought in the RULE_ID applied (06 R218). -/
  ruleBorn : Nat := 0
  /-- The classifier never sees the frame: it is not parsed by the graph parser (06 R194). -/
  placed : Bool := false
  /-- The confirmed verdict of the ingress has come (06 R215). -/
  portOk : Bool := false
  /-- The frame has debited its policer (06 R212). -/
  debited : Bool := false
  /-- Bad table entries that its lookups found first: table and index (02 R47). -/
  badSeen : List (Nat × Nat) := []
  /-- The packet toward the signal engine has ended spoiled (02 R39). -/
  sigCut : Bool := false
  /-- Controller whose deep queue the stored frame enters at its confirmed verdict (04 R113). -/
  busPend : Option Nat := none
  deriving DecidableEq, Repr

/-- One packet-buffer pool (R258). -/
structure Pool where
  /-- POOL_SIZE in 64 KiB (96, 80, 48, 32) (08 R288). -/
  size : Nat := 0
  /-- LOW_FREE in percent (08 R259). -/
  lowFree : Nat := 10
  /-- Occupancy in cells (08 R259). -/
  used : Nat := 0
  /-- PEAK in cells (08 R292). -/
  peak : Nat := 0
  /-- EV067 was raised and has not armed again (08 R259). -/
  lowRaised : Bool := false
  deriving DecidableEq, Repr

/-- The switch core (R257 to R294). -/
structure Switch where
  /-- Frames in flight or stored (08 R257). -/
  frames : Tab Frame := {}
  /-- Next frame number; 0 names no frame (08 R257). -/
  nextId : Nat := 1
  /-- Admissions so far (08 R266). -/
  admitCount : Nat := 0
  /-- The four pools (08 R258). -/
  pools : Tab Pool := { cells := [(0, { size := 96 }), (1, { size := 80 }), (2, { size := 48 }), (3, { size := 32 })] }
  /-- AGE_LIMIT per class in us, an unlisted class holds 100000 (08 R270). -/
  ageLimit : Tab Nat := {}
  /-- DEF_CLASS of the host transmit rings (08 R290). -/
  ringClass : Tab Nat := {}
  deriving DecidableEq, Repr

end Sys2Proof.Machine
end

