-- ==== Sys2Proof/Machine/RecTime.lean ====
section
/-! DEFINITION. Plain data records of the time unit and audio records (chapters 10 and 11).
Each field cites the chapter and rule of spec/ that names it. A field default is its value at reset. -/

namespace Sys2Proof.Machine

/-- A clock as a line through an instant: value = val + elapsed * (1 + ppb/10^9), in 2^-16 ns (R341). -/
structure Clock where
  /-- Local instant in ns (10 R341). -/
  atNs : Nat := 0
  /-- Value then, in 2^-16 ns (10 R341). -/
  val : Int := 0
  /-- Frequency adjustment in 2^-40 ppb (10 R354). -/
  ppb : Int := 0
  deriving DecidableEq, Repr

/-- A slew of active time (R358). -/
structure Slew where
  /-- Local instant it began (10 R358). -/
  atNs : Nat := 0
  /-- Gap then, Y - A, in 2^-16 ns (10 R358). -/
  gap : Int := 0
  /-- Excess rate then, in 10^-9 ppb (10 R358). -/
  e0 : Int := 0
  deriving DecidableEq, Repr

/-- One time domain (R353 to R371). -/
structure Domain where
  /-- ENABLE (10 R355). -/
  enable : Bool := false
  /-- PROFILE (10 R369). -/
  profile : Nat := 1
  /-- DOMAIN_NUM (10 R369). -/
  num : Nat := 0
  /-- PORTS, 24 bits (10 R369). -/
  ports : Nat := 0
  /-- TRANSPORT (10 R369). -/
  transport : Nat := 0
  /-- SYNC_TIMEOUT (10 R369). -/
  syncTimeout : Nat := 3
  /-- ANNOUNCE_TIMEOUT (10 R369). -/
  annTimeout : Nat := 3
  /-- KP_SHIFT (10 R371). -/
  kp : Nat := 2
  /-- KI_SHIFT (10 R371). -/
  ki : Nat := 6
  /-- LOCK_COUNT (10 R371). -/
  lockCount : Nat := 8
  /-- LOCK_NS (10 R371). -/
  lockNs : Nat := 100
  /-- FMAX_PPM (10 R371). -/
  fmaxPpm : Nat := 200
  /-- STEP_NS (10 R371). -/
  stepNs : Nat := 100000
  /-- Domain state (10 R355). -/
  dstate : DState := .disabled
  /-- Domain clock (10 R343). -/
  clock : Clock := {}
  /-- S, the sum of the samples since the last step (10 R354). -/
  sum : Int := 0
  /-- Consecutive samples below LOCK_NS (10 R355). -/
  goodRun : Nat := 0
  /-- GrandmasterIdentity selected (10 R355). -/
  gm : Option Nat := none
  /-- SLAVE_PORT (10 R374). -/
  slavePort : Nat := 0xFF
  /-- STEPS_REMOVED (10 R374). -/
  steps : Nat := 0
  /-- Last sample in ns (10 R374). -/
  offset : Int := 0
  /-- Mean link or path delay per port, in 2^-16 ns (10 R353). -/
  paths : Tab Int := {}
  /-- T2 - t1 - c of the last Sync, in 2^-16 ns (10 R353). -/
  lastDiff : Int := 0
  /-- Data set of the selected grandmaster as the BMCA compares it, as one number (10 R345). -/
  rank : Nat := 0
  /-- Sync interval the grandmaster announces (10 R355). -/
  syncNs : Nat := 125000000
  /-- Announce interval the grandmaster announces (10 R355). -/
  annNs : Nat := 1000000000
  /-- Instant of the last Sync (10 R355). -/
  lastSync : Nat := 0
  /-- Instant of the last Announce (10 R355). -/
  lastAnn : Nat := 0
  /-- Two-step Sync awaiting its Follow_Up: sequence, ingress stamp, correction (10 R353). -/
  pendSync : Option (Nat × Int × Int) := none
  /-- Path delay request awaiting its answer per port: sequence, egress stamp (10 R353). -/
  reqSent : Tab (Nat × Int) := {}
  /-- Pdelay_Resp awaiting its Follow_Up per port: sequence, request receipt, ingress stamp, correction (10 R353). -/
  pdResp : Tab (Nat × Int × Int × Int) := {}
  /-- Sequence of the last path delay request (10 R345). -/
  reqSeq : Nat := 0
  deriving DecidableEq, Repr

/-- A time trigger (R359 to R364). -/
structure TimeTrig where
  /-- Armed (10 R359). -/
  armed : Bool := false
  /-- START as set, for a trigger armed while active time is unset (10 R361). -/
  start : Nat := 0
  /-- C is in force (active time was set when it was judged) (10 R361). -/
  judged : Bool := false
  /-- C, the low 40 bits of ns (10 R359). -/
  c : Nat := 0
  /-- 32-bit fraction of C (10 R359). -/
  cFrac : Nat := 0
  /-- PERIOD in ns, 0 one-shot (10 R360). -/
  period : Nat := 0
  /-- PERIOD_FRAC, 32 bits (10 R372). -/
  periodFrac : Nat := 0
  /-- OUT_POL (10 R364). -/
  pol : Bool := false
  /-- PULSE_W (10 R364). -/
  pulseUs : Nat := 0
  /-- TARGETS, 18 bits (10 R372). -/
  targets : Nat := 0
  /-- Index of the next event (10 R359). -/
  index : Nat := 0
  deriving DecidableEq, Repr

/-- One TIME_OUT pin (R364). -/
structure TimeOut where
  /-- Level of the pin (10 R364). -/
  level : Bool := false
  /-- OUT_POL of the trigger that last targeted it (10 R364). -/
  pol : Bool := false
  /-- The toggle pin has fired since its set (10 R364). -/
  toggled : Bool := false
  /-- End of the pulse in active time ns (10 R364). -/
  pulseEnd : Option Nat := none
  /-- Trigger that targets the pin, or targeted it last (10 R364). -/
  owner : Option Nat := none
  deriving DecidableEq, Repr

/-- A TIME_IN capture (R373). -/
structure Capture where
  /-- NS (10 R373). -/
  ns : Nat := 0
  /-- FRAC (10 R373). -/
  frac : Nat := 0
  /-- EDGE (10 R373). -/
  edge : Nat := 0
  /-- CFLAGS bit 0 (10 R373). -/
  unset : Bool := false
  deriving DecidableEq, Repr

/-- One TIME_IN pin (R365). -/
structure TimeIn where
  /-- Edges selected, 2 bits (10 R370). -/
  edges : Nat := 0
  /-- Captures, oldest first, up to 16 (10 R365). -/
  caps : List Capture := []
  /-- Captures lost since the last read (10 R373). -/
  lost : Nat := 0
  /-- EV087 was raised since the last read (10 R365). -/
  overflow : Bool := false
  deriving DecidableEq, Repr

/-- The time unit (R341 to R376). -/
structure Time where
  /-- Instant the time unit started (10 R342). -/
  startAt : Nat := 0
  /-- The two domains (10 R343). -/
  doms : Tab Domain := {}
  /-- Active domain, none while active time is unset (10 R344). -/
  active : Option Nat := none
  /-- Slew in progress (10 R358). -/
  slew : Option Slew := none
  /-- ASTATE 3 (10 R356). -/
  holdover : Bool := false
  /-- SLEW_PPM (10 R358). -/
  slewPpm : Nat := 50
  /-- FSLEW (10 R358). -/
  fslew : Nat := 5000
  /-- The 25 MHz reference is present (10 R355). -/
  refOk : Bool := true
  /-- The 32 time triggers (10 R359). -/
  trigs : Tab TimeTrig := {}
  /-- TIME_OUT0 to TIME_OUT7 (10 R364). -/
  outs : Tab TimeOut := {}
  /-- TIME_IN0 to TIME_IN7 (10 R365). -/
  ins : Tab TimeIn := {}
  /-- Instant of the last recalibration of the timers (01 R21). -/
  recalAt : Nat := 0
  /-- Instant at which the real-time counter read 0 (07 R235). -/
  rtcBase : Nat := 0
  deriving DecidableEq, Repr

/-- A TDM port (R379). -/
structure TdmPort where
  /-- PENABLE (11 R392). -/
  enable : Bool := false
  /-- RATE 16 kHz (11 R392). -/
  rate16 : Bool := false
  /-- SLOTS (11 R392). -/
  slots : Nat := 8
  /-- TRIG (11 R392). -/
  trig : Nat := 0
  /-- IN_BASE (11 R392). -/
  inBase : Nat := 0
  /-- OUT_BASE (11 R392). -/
  outBase : Nat := 0
  /-- IN_DELAY in 0.1 ms (11 R392). -/
  inDelay : Nat := 30
  /-- Instant of the last frame start or of the enable (11 R379). -/
  lastFrame : Nat := 0
  /-- Frames start at the firings of its trigger (11 R379). -/
  running : Bool := false
  /-- EV088 was raised for the present gap (11 R379). -/
  noFrame : Bool := false
  /-- Samples of the last output frame (11 R379). -/
  sdo : List Int := []
  deriving DecidableEq, Repr

/-- An AAF talker (0 to 63) or listener (64 to 127) (R380 to R382). -/
structure AafStream where
  /-- Enable (11 R392). -/
  enable : Bool := false
  /-- Talker channels from outputs (11 R392). -/
  fromOut : Bool := false
  /-- Format (11 R392). -/
  fmt : Nat := 0
  /-- 16 kHz (11 R392). -/
  rate16 : Bool := false
  /-- CHANNELS (11 R392). -/
  channels : Nat := 1
  /-- SPF (11 R392). -/
  spf : Nat := 1
  /-- STREAM_ID (11 R392). -/
  streamId : Nat := 0
  /-- CH_BASE (11 R392). -/
  chBase : Nat := 0
  /-- HANDLE or VID and PCP (11 R392). -/
  handle : Nat := 0
  /-- LISTEN_ADJ (11 R392). -/
  adj : Int := 0
  /-- PORTS (11 R392). -/
  ports : Nat := 0
  /-- CLASS (11 R392). -/
  cls : Nat := 0
  /-- TALK_ADD in ms (11 R392). -/
  talkAdd : Nat := 0
  /-- Copied template (11 R392). -/
  template : Option Template := none
  /-- Last sequence_num (11 R381). -/
  seq : Option Nat := none
  /-- Presentation time that follows the samples of the last frame (11 R380). -/
  lastPt : Option Int := none
  /-- Instant of the last confirmed frame (11 R381). -/
  lastAt : Nat := 0
  /-- The stream is lost (11 R381). -/
  lost : Bool := false
  /-- Next sequence_num of a talker (11 R392). -/
  outSeq : Nat := 0
  /-- Presentation time from which the next talker frame takes samples (11 R382). -/
  outNext : Int := 0
  deriving DecidableEq, Repr

/-- An input sample in the audio buffers (R377, R378). -/
structure Sample where
  /-- Input channel (11 R377). -/
  chan : Nat := 0
  /-- Presentation time in active ns (11 R377). -/
  pt : Int := 0
  /-- 24-bit value (11 R383). -/
  val : Int := 0
  /-- Instant it became available (11 R377). -/
  avail : Nat := 0
  /-- 0 TDM, 1 AAF, 2 library (11 R377). -/
  src : Nat := 0
  /-- Stream of an AAF sample (11 R378). -/
  sidx : Nat := 0
  deriving DecidableEq, Repr

/-- A crosspoint (R384). -/
structure XPoint where
  /-- Gain code (11 R384). -/
  gain : Nat := 0
  /-- Level (11 R384). -/
  level : Nat := 0
  /-- Coefficient in force in the last block (11 R384). -/
  coef : Nat := 0
  deriving DecidableEq, Repr

/-- A zone (R385, R386). -/
structure Zone where
  /-- DUCK_MASK (11 R392). -/
  duckMask : Nat := 0x80
  /-- DUCK_DB (11 R392). -/
  duckDb : Nat := 20
  /-- RAMP_UP_MS (11 R392). -/
  upMs : Nat := 5
  /-- RAMP_DOWN_MS (11 R392). -/
  downMs : Nat := 20
  /-- OUTPUTS, 256 bits (11 R392). -/
  outputs : Nat := 0
  /-- Level in force in the last block (11 R385). -/
  level : Option Nat := none
  /-- Zone factor per level of the crosspoints: from, target, both in 2^-24, and the block at which the ramp starts; an unlisted level holds 1 (11 R386). -/
  ramps : Tab (Nat × Nat × Int) := {}
  deriving DecidableEq, Repr

/-- An announcement (R387 to R389). -/
structure Announce where
  /-- SOURCE library (11 R392). -/
  lib : Bool := false
  /-- LEVEL (11 R392). -/
  level : Nat := 0
  /-- GAIN (11 R392). -/
  gain : Nat := 0
  /-- ON_PREEMPT (11 R392). -/
  onPreempt : Nat := 0
  /-- SRC_NUM (11 R392). -/
  src : Nat := 0
  /-- REPEAT (11 R392). -/
  repeats : Nat := 0
  /-- ZONES still in play, 32 bits (11 R392). -/
  zones : Nat := 0
  /-- Zones in which it plays, 32 bits (11 R387). -/
  playing : Nat := 0
  /-- PRESENT_AT (11 R392). -/
  presentAt : Nat := 0
  /-- Order of acceptance (11 R389). -/
  seq : Nat := 0
  /-- Taken into a computed block (11 R389). -/
  applied : Bool := false
  /-- A stop has been applied and takes effect in the next block (11 R389). -/
  stopping : Bool := false
  /-- EV091 was raised (11 R389). -/
  started : Bool := false
  /-- EV093 was raised (11 R389). -/
  preempted : Bool := false
  /-- Next sample of the library message (11 R387). -/
  pos : Nat := 0
  /-- Presentation time of its first sample (11 R388). -/
  startPt : Option Int := none
  /-- Counted in ann_late_start (11 R388). -/
  late : Bool := false
  /-- EV095 was raised (11 R390). -/
  under : Bool := false
  /-- Zone factor per zone in which it plays: from, target, both in 2^-24, and the block at which the ramp starts (11 R386). -/
  ramps : Tab (Nat × Nat × Int) := {}
  deriving DecidableEq, Repr

/-- A computed block (R378). -/
structure AudBlock where
  /-- Active ns of its first instant (11 R378). -/
  start : Int := 0
  /-- 48 samples per output, an unlisted output is silent (11 R378). -/
  outs : Tab (List Int) := {}
  deriving DecidableEq, Repr

/-- A library message (R390). -/
structure LibMsg where
  /-- 16 kHz (11 R392). -/
  rate16 : Bool := false
  /-- PCM loaded so far (11 R390). -/
  bytes : List Byte := []
  /-- LAST has passed its check (11 R392). -/
  whole : Bool := false
  deriving DecidableEq, Repr

/-- The audio router and mixer (R377 to R394). -/
structure Audio where
  /-- A0 to A7 (11 R379). -/
  ports : Tab TdmPort := {}
  /-- 128 streams (11 R392). -/
  streams : Tab AafStream := {}
  /-- Buffered input samples (11 R378). -/
  inputs : List Sample := []
  /-- Crosspoints, key input*256+output (11 R384). -/
  xpoints : Tab XPoint := {}
  /-- 32 zones (11 R385). -/
  zones : Tab Zone := {}
  /-- Announcements by ANN_ID (11 R391). -/
  anns : Tab Announce := {}
  /-- Starts accepted (11 R389). -/
  annSeq : Nat := 0
  /-- Library messages (11 R390). -/
  lib : Tab LibMsg := {}
  /-- The computed blocks that are not yet played, newest first (11 R378). -/
  blocks : List AudBlock := []
  /-- Start of the last computed block in active ns, -1 none (11 R378). -/
  block : Int := -1
  /-- EV094 was raised since the last clear (11 R383). -/
  clipSeen : Bool := false
  deriving DecidableEq, Repr

end Sys2Proof.Machine
end

