-- ==== Sys2Proof/Machine/RecSystem.lean ====
section
/-! DEFINITION. Plain data records of the fault, twin, causeway, sleep and start-up records (chapters 14 to 19).
Each field cites the chapter and rule of spec/ that names it. A field default is its value at reset. -/

namespace Sys2Proof.Machine

/-- A fault source (R463 to R477). -/
structure Src where
  /-- Quiet, fault, latched, broken (masked is computed) (14 R483). -/
  st : FState := .quiet
  /-- Configured severity, none for the default of R467 (14 R467). -/
  sevSet : Option Nat := none
  /-- BUDGET (14 R475). -/
  budget : Nat := 8
  /-- Quiet period in ms (14 R474). -/
  quietMs : Nat := 10
  /-- The pair as driven: 1 is 01, 2 is 10, 0 is 00, 3 is 11 (14 R463). -/
  pair : Nat := 1
  /-- Instant of the last change of the pair (14 R463). -/
  pairAt : Nat := 0
  /-- Force value 0 to 3 (14 R477). -/
  force : Nat := 0
  /-- DRY (14 R477). -/
  dry : Bool := false
  /-- Instant the quiet period began (14 R474). -/
  quietFrom : Option Nat := none
  /-- Instant the budget window opened (14 R475). -/
  windowAt : Option Nat := none
  /-- Recoveries in the open window (14 R475). -/
  inWindow : Nat := 0
  /-- Unit its severity 2 action names, for sources with several units (14 R467). -/
  target : Nat := 0
  /-- Speculative flag of the last entry (02 R47). -/
  spec : Bool := false
  /-- Severity that the last entry took (14 R481). -/
  entrySev : Nat := 0
  /-- Its latch was cleared and what it held has not returned (14 R476). -/
  wait : Bool := false
  /-- Instant the unit or island it restarted came back (14 R469). -/
  returnedAt : Option Nat := none
  deriving DecidableEq, Repr

/-- The first-fault record (R473). -/
structure FirstFault where
  /-- FSOURCE (14 R473). -/
  source : Nat := 0
  /-- FSEV (14 R473). -/
  sev : Nat := 0
  /-- VALID (14 R473). -/
  valid : Bool := false
  /-- FORCED (14 R473). -/
  forced : Bool := false
  /-- Broken pair (14 R473). -/
  broken : Bool := false
  /-- Speculative (14 R473). -/
  spec : Bool := false
  /-- OTHERS (14 R473). -/
  others : Nat := 0
  /-- SECOND (14 R473). -/
  second : Nat := 0xFFFF
  /-- FTIME (14 R473). -/
  time : Nat := 0
  deriving DecidableEq, Repr

/-- A source in the arbitration window (R472). -/
structure WinEntry where
  /-- Source (14 R472). -/
  src : Nat := 0
  /-- Severity at entry (14 R472). -/
  sev : Nat := 0
  /-- FORCED (14 R473). -/
  forced : Bool := false
  /-- Broken pair (14 R472). -/
  broken : Bool := false
  /-- Speculative flag (14 R473). -/
  spec : Bool := false
  deriving DecidableEq, Repr

/-- The fault collector (R463 to R485). -/
structure Faults where
  /-- FS000 to FS255 (14 R467). -/
  srcs : Tab Src := {}
  /-- First-fault record, kept in the Always-On Island (14 R473). -/
  first : FirstFault := {}
  /-- Entries of the open arbitration window (14 R472). -/
  window : List WinEntry := []
  /-- Instant the window opened (14 R472). -/
  windowOpen : Option Nat := none
  /-- Active time at its opening (14 R472). -/
  windowTime : Nat := 0
  /-- Pin groups in a glitch storm, 10 bits (14 R478). -/
  storm : Nat := 0
  /-- MDIO masters that have retried once, 2 bits (14 R479). -/
  mdioRetry : Nat := 0
  deriving DecidableEq, Repr

/-- A health report (R500). -/
structure Health where
  /-- SEQ (15 R500). -/
  seq : Nat := 0
  /-- HROLE (15 R500). -/
  role : Nat := 0
  /-- HFLAGS (15 R500). -/
  flags : Nat := 0
  /-- BIST_SLICES (15 R500). -/
  slices : Nat := 0
  /-- BIST_FAILS (15 R500). -/
  fails : Nat := 0
  /-- SH_MATCH (15 R500). -/
  shMatch : Nat := 0
  /-- SH_EXTRA (15 R500). -/
  shExtra : Nat := 0
  /-- SH_MISSING (15 R500). -/
  shMissing : Nat := 0
  /-- MIRROR_LAG (15 R500). -/
  lag : Nat := 0
  /-- BACKLOG (15 R500). -/
  backlog : Nat := 0
  /-- FIRST_FAULT (15 R500). -/
  firstFault : Nat := 0xFFFF
  /-- LATCHED (15 R500). -/
  latched : Nat := 0
  /-- TIME (15 R500). -/
  time : Nat := 0
  deriving DecidableEq, Repr

/-- The twin role (R486 to R507). -/
structure Twin where
  /-- TROLE (15 R486). -/
  role : Role := .solo
  /-- SIDE (15 R504). -/
  sideB : Bool := false
  /-- MIRROR, 5 bits (15 R504). -/
  mirror : Nat := 0x1F
  /-- TAKEOVER_BLIND (15 R504). -/
  blind : Bool := false
  /-- CRIT_ISLANDS (15 R504). -/
  crit : Nat := 0x2F
  /-- LEASE_US (15 R489). -/
  leaseUs : Nat := 4000
  /-- GUARD_US (15 R489). -/
  guardUs : Nat := 200
  /-- SHADOW_MS (15 R498). -/
  shadowMs : Nat := 20
  /-- MISMATCH_LIMIT (15 R499). -/
  mismatch : Nat := 8
  /-- A twin pair is configured (twin.enable since reset) (14 R471). -/
  everEnabled : Bool := false
  /-- Instant of the last renewal (15 R489). -/
  renewedAt : Nat := 0
  /-- Instant the claim timer was restarted (15 R491). -/
  claimFrom : Option Nat := none
  /-- Instant of firmware's last heartbeat (15 R489). -/
  heartbeat : Option Nat := none
  /-- LEASE_IN as read (15 R487). -/
  leaseIn : LeasePair := .notHeld
  /-- Instant LEASE_IN took that reading (15 R491). -/
  leaseInAt : Nat := 0
  /-- Twin link is up (15 R488). -/
  linkUp : Bool := false
  /-- The partner's last reported role (15 R505). -/
  partner : Option Role := none
  /-- The partner's settings agree (15 R494). -/
  partnerOk : Bool := false
  /-- Host consent of the partner's last HELLO (17 R557). -/
  partnerConsent : Bool := false
  /-- Lease sequence number (15 R488). -/
  seq : Nat := 0
  /-- Last health report sent or received (15 R505). -/
  report : Option Health := none
  /-- Instant of the last report received (15 R500). -/
  reportAt : Option Nat := none
  /-- EV115 with cause 0 was raised for the present gap (15 R500). -/
  reportMissed : Bool := false
  /-- FIT of the last report (15 R500). -/
  fit : Bool := false
  /-- Mirrored state is stale (15 R496). -/
  stale : Bool := false
  /-- Mirror messages waiting (15 R496). -/
  backlog : Nat := 0
  /-- Greatest mirror lag of the period in us (15 R500). -/
  lag : Nat := 0
  /-- Shadow_match in the period (15 R500). -/
  matched : Nat := 0
  /-- Shadow_extra in the period (15 R500). -/
  extra : Nat := 0
  /-- Shadow_missing in the period (15 R500). -/
  missing : Nat := 0
  /-- Mismatches in the period per controller (15 R506). -/
  perBus : Tab Nat := {}
  /-- Mismatch limit exceeded in the last period (15 R500). -/
  mismatchFlag : Bool := false
  /-- Slices completed in the period (15 R500). -/
  slices : Nat := 0
  /-- Failed slices since enable (15 R500). -/
  bistFails : Nat := 0
  /-- Report sequence number (15 R500). -/
  repSeq : Nat := 0
  /-- The copy of a resynchronisation has been applied (15 R501). -/
  resyncDone : Bool := false
  /-- Instant twin.handover was accepted (15 R502). -/
  handover : Option Nat := none
  /-- HANDOVER has been received (15 R502). -/
  handoverIn : Bool := false
  /-- Instant at which the device gave up its outputs (15 R492). -/
  frozenAt : Option Nat := none
  /-- Instant the present role was taken (15 R494). -/
  roleAt : Nat := 0
  /-- The partner, RESYNCING, has been sent the copy (15 R501). -/
  copied : Bool := false
  /-- Bulk state was sent for the partner's present wish (15 R501). -/
  resyncSent : Bool := false
  /-- Active time as steered to the partner's (15 R497). -/
  steer : Option Clock := none
  deriving DecidableEq, Repr

/-- One device of the chain map (R521). -/
structure Peer where
  /-- STRAP (16 R521). -/
  strap : Nat := 0
  /-- Lowest causeway MAC_ADDR (16 R521). -/
  mac : Nat := 0
  /-- Neighbour ID on each causeway port (16 R521). -/
  nbs : List Nat := []
  /-- CASCADE (16 R535). -/
  cascade : Nat := 0
  /-- Instant of its last topology message (16 R521). -/
  heard : Nat := 0
  deriving DecidableEq, Repr

/-- An entry of the lock table (R529). -/
structure FarLock where
  /-- 0 register, 1 slot (16 R529). -/
  space : Nat := 0
  /-- BAR0 offset or slot (16 R529). -/
  addr : Nat := 0
  /-- Device ID of the holder (16 R529). -/
  owner : Nat := 0
  /-- Attempt number (16 R529). -/
  attempt : Nat := 0
  /-- Value returned in the grant (16 R529). -/
  old : Nat := 0
  /-- Instant of the grant (16 R529). -/
  granted : Nat := 0
  /-- Hops to the holder (16 R529). -/
  hops : Nat := 0
  /-- Waiting requests: device, attempt, hops (16 R529). -/
  queue : List (Nat × Nat × Nat) := []
  deriving DecidableEq, Repr

/-- A remote access of this device in progress (R528, R529). -/
structure RemoteRun where
  /-- Mailbox of the command (16 R528). -/
  mbx : Nat := 0
  /-- Far device (16 R528). -/
  dev : Nat := 0
  /-- SPACE (16 R527). -/
  space : Nat := 0
  /-- ADDR (16 R536). -/
  addr : Nat := 0
  /-- REQ_ID (16 R536). -/
  reqId : Nat := 0
  /-- 0 read, 1 write, 2 lock (16 R536). -/
  kind : Nat := 0
  /-- Instant of the request (16 R528). -/
  sentAt : Nat := 0
  /-- Hops when it was sent (16 R528). -/
  hops : Nat := 0
  /-- Attempt number of a lock (16 R529). -/
  attempt : Nat := 0
  /-- Retries so far (16 R530). -/
  retries : Nat := 0
  /-- 0 request sent, 1 granted and write-and-unlock sent, 2 backing off, 3 waiting for its local slot (16 R529). -/
  phase : Nat := 0
  /-- End of the back-off (16 R530). -/
  backoffUntil : Nat := 0
  /-- Old value granted (16 R529). -/
  old : Nat := 0
  /-- CMP, CMP_MASK, VALUE, MASK, LOCAL_SLOT, LOP (16 R536). -/
  fields : List Nat := []
  /-- A write has been sent (16 R528). -/
  sent : Bool := false
  deriving DecidableEq, Repr

/-- A stored completion (R528). -/
structure Stored where
  /-- Initiating device (16 R528). -/
  dev : Nat := 0
  /-- REQ_ID (16 R528). -/
  reqId : Nat := 0
  /-- The request (16 R528). -/
  content : List Byte := []
  /-- The completion (16 R528). -/
  reply : List Byte := []
  /-- Instant it was kept (16 R528). -/
  atNs : Nat := 0
  deriving DecidableEq, Repr

/-- Causeway (R508 to R538). -/
structure Cw where
  /-- Device ID (CW_DEV_ID) (16 R519). -/
  id : Nat := 0
  /-- CASCADE (16 R515). -/
  cascade : Nat := 0
  /-- HOP_LIMIT (16 R512). -/
  hopLimit : Nat := 64
  /-- PEER_MBX (16 R534). -/
  peerMbx : Nat := 0
  /-- CW_ETYPE (16 R508). -/
  etype : Nat := 0x88B5
  /-- CW_AGE_LIMIT in 100 us (16 R514). -/
  ageLimit : Nat := 100
  /-- EVT_FWD, 128 bits (16 R534). -/
  evtFwd : Nat := 0
  /-- Chain map by device ID (16 R521). -/
  peers : Tab Peer := {}
  /-- Master ID, 0 none (16 R517). -/
  master : Nat := 0
  /-- 0 chain, 1 ring with its break here, 2 elsewhere (16 R535). -/
  ring : Nat := 0
  /-- Port barred as the ring break (16 R523). -/
  breakPort : Option Nat := none
  /-- Instant of the last topology message sent (16 R521). -/
  topoAt : Nat := 0
  /-- Lock table, up to 32 resources (16 R529). -/
  locks : List FarLock := []
  /-- Remote accesses in progress (16 R528). -/
  runs : List RemoteRun := []
  /-- Stored completions (16 R528). -/
  stored : List Stored := []
  /-- Mailboxes whose command is forwarded to the peer (16 R516). -/
  fwdMbx : List Nat := []
  /-- Mailboxes that run a command forwarded by the master (16 R516). -/
  peerIn : List Nat := []
  deriving DecidableEq, Repr

/-- An entry of the refusal log (R558). -/
structure RefusalEnt where
  /-- LBUS (17 R558). -/
  bus : Nat := 0
  /-- LNODE (17 R558). -/
  node : Nat := 0
  /-- REASON (17 R558). -/
  reason : Nat := 0
  /-- LAPS (17 R558). -/
  laps : Nat := 0
  /-- DUR_S (17 R558). -/
  durS : Nat := 0
  /-- Instant the refusal began (17 R558). -/
  since : Nat := 0
  /-- Instant of its last refused lap (LAST_S) (17 R558). -/
  lastAt : Nat := 0
  /-- The member is refusing (17 R558). -/
  refusing : Bool := true
  /-- The awake cap overrides it (17 R559). -/
  capped : Bool := false
  deriving DecidableEq, Repr

/-- The wake record (R545). -/
structure WakeRec where
  /-- WCAUSE (17 R545). -/
  cause : Nat := 0
  /-- LATCHED (17 R545). -/
  latched : Bool := false
  /-- WSRC (17 R545). -/
  src : Nat := 0xFF
  /-- WSUB (17 R545). -/
  sub : Nat := 0xFF
  /-- WID (17 R545). -/
  wid : Nat := 0
  /-- SLEPT_MS (17 R545). -/
  sleptMs : Nat := 0
  /-- RTC_S (17 R545). -/
  rtcS : Nat := 0
  deriving DecidableEq, Repr

/-- The sleep manager (R539 to R566). -/
structure Sleep where
  /-- Power state of R539 (17 R539). -/
  ps : PowerState := .service
  /-- RING_EN (17 R563). -/
  ringEn : Bool := false
  /-- AUTO_CONSENT (17 R563). -/
  autoConsent : Bool := false
  /-- WAKE_PROPAGATE (17 R555). -/
  propagate : Bool := true
  /-- LAP_INTERVAL in 100 ms (17 R551). -/
  lapInterval : Nat := 10
  /-- LAP_TIMEOUT in 10 ms (17 R551). -/
  lapTimeout : Nat := 50
  /-- SETTLE_MS (17 R552). -/
  settleMs : Nat := 5
  /-- AWAKE_CAP_S (17 R559). -/
  awakeCap : Nat := 0
  /-- WAKE_ALARM_S (17 R563). -/
  alarmS : Nat := 0
  /-- Host consent (17 R547). -/
  hostConsent : Bool := false
  /-- LAP_SEQ of the last device lap (17 R564). -/
  lapSeq : Nat := 0
  /-- This device, as leader, runs a consent lap (17 R551). -/
  lapRunning : Bool := false
  /-- Instant the lap began or was joined (17 R551). -/
  lapAt : Nat := 0
  /-- This device has joined the current consent lap (17 R561). -/
  joined : Bool := false
  /-- This device holds the lap while its bus laps run (17 R551). -/
  lapHeld : Bool := false
  /-- CONSENT of the device lap held while the bus laps run (17 R550). -/
  lapBits : BitVec 256 := 0
  /-- This device's bit is set in the current lap (17 R554). -/
  bitSet : Bool := false
  /-- A cancel was sent (17 R554). -/
  cancelSent : Bool := false
  /-- This device, as leader, has sent the commit of its last lap (17 R554). -/
  committed : Bool := false
  /-- Instant of the last wake request (17 R547). -/
  wakeReqAt : Option Nat := none
  /-- Request held pending after a cancel (17 R554). -/
  pendWake : Option WakeRec := none
  /-- Request latched during sleep entry (17 R554). -/
  latchedWake : Option WakeRec := none
  /-- The device's commit instant (17 R551). -/
  commitAt : Option Nat := none
  /-- Step 2 of R552 has been taken (17 R552). -/
  settled : Bool := false
  /-- Instant of power-off (17 R552). -/
  sleptAt : Nat := 0
  /-- Wake record, kept in the Always-On Island (17 R545). -/
  record : WakeRec := {}
  /-- Instant STATE became 1 after the last wake, until the check of R560 (17 R560). -/
  wokeAt : Option Nat := none
  /-- Valid communication was seen since (17 R560). -/
  valid : Bool := false
  /-- Refusal log, up to 64 entries (17 R558). -/
  log : List RefusalEnt := []
  deriving DecidableEq, Repr

/-- A swap in progress (R581). -/
structure Swap where
  /-- 0 install, 1 swap back, 2 wrap of the running image (18 R581). -/
  dir : Nat := 0
  /-- Page k of the next step (18 R582). -/
  page : Nat := 0
  /-- Next step 1 to 3 (18 R582). -/
  step : Nat := 1
  /-- Pages of the swap (18 R581). -/
  total : Nat := 0
  /-- Swap scratch page (18 R571). -/
  scratch : List Byte := []
  deriving DecidableEq, Repr

/-- The plaintext header of the active settings set (R585) and what this model keeps of its body. -/
structure Settings where
  /-- A valid set exists (18 R586). -/
  valid : Bool := false
  /-- SFORMAT (18 R585). -/
  format : Nat := 1
  /-- SSEQ (18 R585). -/
  seq : Nat := 0
  /-- CW_ID (18 R585). -/
  cwId : Nat := 0
  /-- TRANSIT (06 R206). -/
  transit : Nat := 1
  /-- MGMT_MAC (06 R206). -/
  mgmtMac : List Byte := List.replicate 6 0
  /-- MGMT_VID (18 R585). -/
  mgmtVid : Nat := 1
  /-- PROG_MS (18 R585). -/
  progMs : Nat := 5
  /-- ERASE_MS (18 R585). -/
  eraseMs : Nat := 2000
  /-- Old format also written until update.confirm (18 R587). -/
  dual : Option Nat := none
  deriving DecidableEq, Repr

/-- The boot descriptor (R572). -/
structure BootDesc where
  /-- IMG_STATE (18 R572). -/
  imgState : Nat := 0
  /-- STG_STATE (18 R572). -/
  stgState : Nat := 0
  /-- TRIAL_BOOTS (18 R572). -/
  trialBoots : Nat := 0
  /-- DFLAGS (18 R572). -/
  dflags : Nat := 0
  /-- SEQ of the boot descriptor (18 R572). -/
  dSeq : Nat := 0
  /-- RUN_VER, bytes 8 to 11 little-endian (18 R572). -/
  runVer : Nat := Config.fwMajor + Config.fwMinor * 256 + Config.fwBuild 0 % 65536 * 65536
  /-- STG_VER (18 R572). -/
  stgVer : Nat := 0
  /-- RUN_WRAP (18 R572). -/
  runWrap : Nat := 0
  /-- STG_WRAP (18 R572). -/
  stgWrap : Nat := 0
  /-- RUN_LEN (18 R572). -/
  runLen : Nat := 0
  /-- STG_LEN (18 R572). -/
  stgLen : Nat := 0
  /-- ACT_ID (18 R572). -/
  actId : Nat := 0
  /-- SWAP_ID (18 R572). -/
  swapId : Nat := 0
  /-- MEMBERS (18 R572). -/
  members : List Nat := []
  deriving DecidableEq, Repr

/-- Strap, supply and test pins (R601 to R616). -/
structure Pins where
  /-- PWR_EN (19 R604). -/
  pwrEn : Bool := true
  /-- Instant PWR_EN last changed (19 R604). -/
  pwrSince : Nat := 0
  /-- VDD_CORE and VDD_SRAM are in range (19 R603). -/
  coreOk : Bool := true
  /-- A brown-out is waiting for VDD_CORE (19 R603). -/
  brown : Bool := false
  /-- First start-up, PWR_EN has not yet risen (19 R607). -/
  firstStart : Bool := false
  /-- VDD_AON is in range (19 R604). -/
  aonOn : Bool := true
  /-- RESET_N is low (19 R606). -/
  resetLow : Bool := false
  /-- CASCADE_ROLE strap (19 R601). -/
  strap : Nat := 0
  /-- FLASH_MODE strap (19 R601). -/
  flashMode : Bool := false
  /-- TEST_EN strap (19 R601). -/
  testEn : Bool := false
  /-- JTAG instruction loaded (19 R616). -/
  jtag : JtagInstr := .idcode
  /-- The islands stay isolated after EXTEST, CLAMP or HIGHZ until RESET_N (19 R616). -/
  jtagHeld : Bool := false
  /-- In the safe state, instant at which held outputs are released (14 R471). -/
  outputsHeld : Option Nat := none
  deriving DecidableEq, Repr

/-- Start-up, flash and update (R567 to R594). -/
structure Boot where
  /-- STATE, 4 bits (03 R76). -/
  state : Nat := 0
  /-- STATE before a Control Island restart (03 R76). -/
  before : Nat := 1
  /-- Step of R567 the start has reached (18 R567). -/
  phase : BootPhase := .core
  /-- SEAL_CAUSE (18 R570). -/
  sealCause : Nat := 0
  /-- Firmware has started (18 R567). -/
  fwRunning : Bool := false
  /-- The start is a wake from sleep (18 R569). -/
  wakeStart : Bool := false
  /-- The flash answers (18 R570). -/
  flashOk : Bool := true
  /-- Flash size F in MiB (18 R571). -/
  flashMiB : Nat := 64
  /-- Boot descriptor (18 R572). -/
  d : BootDesc := {}
  /-- Swap in progress (18 R581). -/
  swap : Option Swap := none
  /-- SWAP_DONE (18 R592). -/
  swapDone : Nat := 0
  /-- SWAP_TOTAL (18 R592). -/
  swapTotal : Nat := 0
  /-- LAST_RESULT (18 R592). -/
  lastResult : Nat := 0
  /-- Cause of EV126 of the swap back ordered or under way (18 R593). -/
  fallCause : Nat := 0
  /-- Running image area by page, as pages of the transit form, as far as its contents are known (18 R571). -/
  running : Tab (List Byte) := {}
  /-- Staging area by page, as pages of the transit form (18 R571). -/
  staging : Tab (List Byte) := {}
  /-- PKG_LEN of update.begin (18 R576). -/
  pkgLen : Nat := 0
  /-- PKG_CRC of update.begin (18 R576). -/
  pkgCrc : Nat := 0
  /-- NEXT_OFFSET (18 R592). -/
  nextOff : Nat := 0
  /-- Members that have not yet answered the relayed step (18 R576). -/
  relayWait : List Nat := []
  /-- Members whose relayed step failed (18 R576). -/
  relayFail : List Nat := []
  /-- ACT_WAIT in s (18 R583). -/
  actWait : Nat := 60
  /-- Instant of entry into STATE 5 (18 R583). -/
  trialAt : Option Nat := none
  /-- Result code reported by each member (18 R583). -/
  reports : Tab Nat := {}
  /-- Instant of the last report sent (18 R583). -/
  reportAt : Option Nat := none
  /-- A report is owed to the master and not yet answered (18 R583). -/
  reportOwed : Bool := false
  /-- The master has ordered commit for ACT_ID (18 R583). -/
  actCommitted : Bool := false
  /-- Instant of the reset an activation ordered (18 R577). -/
  rebootAt : Option Nat := none
  /-- Update events to raise when firmware starts (18 R593). -/
  pendEvents : List (Nat × Nat) := []
  /-- Active settings set (18 R585). -/
  settings : Settings := {}
  /-- The settings set that is not active (18 R586). -/
  setOther : Settings := {}
  /-- LPDDR4X is fitted and trained (12 R412). -/
  lpddr : Bool := false
  /-- Strap, supply and test pins (19 R601). -/
  pins : Pins := {}
  deriving DecidableEq, Repr

end Sys2Proof.Machine
end

