-- ==== Sys2Proof/Machine/RecTide.lean ====
section
/-! DEFINITION. Plain data records of the tide queue, ring, cipher and key records (chapters 12 and 13).
Each field cites the chapter and rule of spec/ that names it. A field default is its value at reset. -/

namespace Sys2Proof.Machine

/-- A committed packet of a tide queue (R395). -/
structure TqPacket where
  /-- Position of its first word (12 R398). -/
  pos : Nat := 0
  /-- Payload (12 R395). -/
  bytes : List Byte := []
  /-- Words with an uncorrectable error (12 R411). -/
  bad : List Nat := []
  deriving DecidableEq, Repr

/-- An open packet (R403). -/
structure TqOpen where
  /-- Producer: frame number, or 2^32 + bus, or 2^33 + layout (12 R403). -/
  key : Nat := 0
  /-- Payload stored so far (12 R403). -/
  bytes : List Byte := []
  deriving DecidableEq, Repr

/-- What the consumer's register writes of one instant change of a tide queue, as it was before them (R409). -/
structure TqBase where
  /-- RD (12 R409). -/
  rd : Nat := 0
  /-- CUR (12 R409). -/
  cur : Nat := 0
  /-- MARK (12 R409). -/
  mark : Nat := 0
  /-- MARK_SET (12 R409). -/
  markSet : Bool := false
  /-- Committed packets (12 R409). -/
  packets : List TqPacket := []
  /-- POS_ERR (12 R409). -/
  posErr : Bool := false
  /-- Instants of the status bits (12 R409). -/
  setAt : Tab Nat := {}
  /-- The level is armed (12 R409). -/
  armed : Bool := true
  deriving DecidableEq, Repr

/-- A tide queue (R395 to R412). -/
structure TideQ where
  /-- WR, 32 bits (12 R399). -/
  wr : Nat := 0
  /-- RD, 32 bits (12 R399). -/
  rd : Nat := 0
  /-- CUR, 32 bits (12 R399). -/
  cur : Nat := 0
  /-- MARK, 32 bits (12 R399). -/
  mark : Nat := 0
  /-- MARK_SET (12 R399). -/
  markSet : Bool := false
  /-- ECC_BAD (12 R399). -/
  eccBad : Bool := false
  /-- LEVEL_HIT (12 R399). -/
  levelHit : Bool := false
  /-- MARK_LOST (12 R399). -/
  markLost : Bool := false
  /-- CUR_MOVED (12 R399). -/
  curMoved : Bool := false
  /-- OVERWRITTEN (12 R399). -/
  overwritten : Bool := false
  /-- POS_ERR (12 R399). -/
  posErr : Bool := false
  /-- Committed packets not released, oldest first (12 R395). -/
  packets : List TqPacket := []
  /-- Open packets (12 R403). -/
  opened : List TqOpen := []
  /-- SIZE_KIB (12 R412). -/
  sizeKiB : Nat := 32
  /-- SPILL_MIB (12 R412). -/
  spillMiB : Nat := 0
  /-- LEVEL (12 R410). -/
  level : Nat := 0
  /-- Instant at which each status bit was last set (00 R8). -/
  setAt : Tab Nat := {}
  /-- The level is armed (12 R410). -/
  armed : Bool := true
  /-- Instant of the consumer's last register writes (12 R409). -/
  wroteAt : Option Nat := none
  /-- The consumer's register writes of that instant (12 R409). -/
  writes : List (Nat × Nat) := []
  /-- The positions before those writes (12 R409). -/
  base : TqBase := {}
  /-- Instant of the last overwrite (12 R409). -/
  lostAt : Option Nat := none
  /-- RD before the overwrites of that instant (12 R409). -/
  lostFrom : Nat := 0
  deriving DecidableEq, Repr

/-- A DMA ring (R413 to R423). -/
structure Ring where
  /-- RING_TAIL, 16 bits (12 R413). -/
  tail : Nat := 0
  /-- RING_HEAD, 16 bits (12 R413). -/
  head : Nat := 0
  /-- ERR_CAUSE (12 R413). -/
  errCause : Nat := 0
  /-- TAIL_ERR (12 R413). -/
  tailErr : Bool := false
  /-- STARVE_DROP (12 R413). -/
  starveDrop : Bool := false
  /-- ERROR (12 R413). -/
  error : Bool := false
  /-- RSTATE (12 R413). -/
  rstate : Nat := 0
  /-- Instant at which each status bit was last set (00 R8). -/
  setAt : Tab Nat := {}
  /-- SIZE (12 R413). -/
  size : Nat := 0
  /-- QUEUE (12 R423). -/
  queue : Nat := 0
  /-- EVT_PKTS (12 R423). -/
  evtPkts : Nat := 1
  /-- BASE, 64 bits (12 R423). -/
  base : Nat := 0
  /-- STARVE_US (12 R416). -/
  starveUs : Nat := 1000
  /-- EVT_US (12 R423). -/
  evtUs : Nat := 0
  /-- Packets handed over since the last event (12 R415). -/
  unannounced : Nat := 0
  /-- Instant of the first packet not yet announced (12 R415). -/
  firstAt : Nat := 0
  /-- Instant the starvation timer started (12 R416). -/
  paused : Option Nat := none
  /-- Position of the packet in transfer (12 R416). -/
  xferPos : Option Nat := none
  /-- Bytes of it already written (12 R416). -/
  xferBytes : Nat := 0
  /-- Descriptors filled by the packet in transfer and not yet returned (12 R416). -/
  xferUsed : Nat := 0
  deriving DecidableEq, Repr

/-- Tide queues and rings. -/
structure Tide where
  /-- 64 queues (12 R399). -/
  qs : Tab TideQ := {}
  /-- 48 rings (12 R413). -/
  rings : Tab Ring := {}
  deriving DecidableEq, Repr

/-- A cipher engine (R426 to R437). -/
structure Engine where
  /-- CIPH_n_LOCK, 8 bits (13 R432). -/
  lock : Nat := 0
  /-- IDLE_MS (13 R432). -/
  idleMs : Nat := 10
  /-- TAG_LEN (13 R432). -/
  tagLen : Nat := 16
  /-- UNVERIFIED_OK (13 R432). -/
  unverifiedOk : Bool := false
  /-- KEY_SRC (13 R432). -/
  keySrc : Bool := false
  /-- KEY_256 (13 R432). -/
  key256 : Bool := false
  /-- DECRYPT (13 R432). -/
  decrypt : Bool := false
  /-- HANDLE, 16 bits (13 R432). -/
  handle : Nat := 0
  /-- AAD_LEN, 16 bits (13 R432). -/
  aadLen : Nat := 0
  /-- TEXT_LEN, 32 bits (13 R432). -/
  textLen : Nat := 0
  /-- JERR (13 R432). -/
  jerr : Nat := 0
  /-- TAMPER_ABORT (13 R432). -/
  tamperAbort : Bool := false
  /-- IDLE_RELEASED (13 R432). -/
  idleReleased : Bool := false
  /-- REG_ERR (13 R432). -/
  regErr : Bool := false
  /-- PARENT_REVOKED (13 R432). -/
  parentRevoked : Bool := false
  /-- TAG_FAIL (13 R432). -/
  tagFail : Bool := false
  /-- DONE (13 R432). -/
  done : Bool := false
  /-- Instant at which each status bit was last set (00 R8). -/
  setAt : Tab Nat := {}
  /-- JSTATE (13 R432). -/
  jstate : Nat := 0
  /-- OUT_BASE, 32 bits (13 R432). -/
  outBase : Nat := 0
  /-- Last OUT_REL offset (13 R435). -/
  outRel : Nat := 0
  /-- CIPH_n_IV words (13 R432). -/
  iv : Tab Nat := {}
  /-- CIPH_n_TAG_IN words (13 R432). -/
  tagIn : Tab Nat := {}
  /-- CIPH_n_TAG_OUT, empty reads 0 (13 R432). -/
  tagOut : List Byte := []
  /-- CIPH_n_KEY words written since the claim (13 R432). -/
  keyRegs : Tab Nat := {}
  /-- Key loaded for the job (13 R434). -/
  key : List Byte := []
  /-- Key store slot of the key loaded (13 R448). -/
  keySlot : Option Nat := none
  /-- Additional data taken, with padding (13 R434). -/
  aadIn : List Byte := []
  /-- Text bytes taken (13 R434). -/
  textIn : List Byte := []
  /-- Output produced, from message byte 0 (13 R435). -/
  out : List Byte := []
  /-- OUT_AVAIL (13 R432). -/
  outAvail : Nat := 0
  /-- Instant of the last write to the block or end of a job (13 R431). -/
  lastUse : Nat := 0
  /-- Direction of the job as started (13 R433). -/
  jobDecrypt : Bool := false
  /-- UNVERIFIED_OK of the job as started (13 R433). -/
  jobUnverified : Bool := false
  /-- TAG_LEN of the job as started (13 R433). -/
  jobTagLen : Nat := 16
  /-- AAD_LEN of the job as started (13 R433). -/
  jobAad : Nat := 0
  /-- TEXT_LEN of the job as started (13 R433). -/
  jobText : Nat := 0
  /-- The key loaded, or an ancestor of it, was revoked during the operation (13 R448). -/
  revoked : Bool := false
  deriving DecidableEq, Repr

/-- A key recipe of the active settings set (R444). -/
structure Recipe where
  /-- Purpose (13 R444). -/
  purpose : Nat := 0
  /-- ENGINES (13 R444). -/
  engines : Nat := 0
  /-- USE_LIMIT (13 R444). -/
  useLimit : Nat := 0
  /-- Parent slot (13 R444). -/
  parent : Nat := 0
  /-- Depth (13 R444). -/
  depth : Nat := 0
  /-- Installed key (13 R444). -/
  installed : Bool := false
  /-- Label (13 R442). -/
  label : List Byte := []
  /-- Context (13 R442). -/
  context : List Byte := []
  /-- KLEN (13 R442). -/
  k256 : Bool := false
  /-- An installed key, kept encrypted under the storage key (13 R444). -/
  key : List Byte := []
  deriving DecidableEq, Repr

/-- A key store slot (R441). -/
structure KeySlot where
  /-- The slot holds a key (13 R441). -/
  valid : Bool := false
  /-- The key bytes, readable by no command (13 R441). -/
  key : List Byte := []
  /-- Purpose 1 to 5 (13 R441). -/
  purpose : Nat := 0
  /-- ENGINES (13 R441). -/
  engines : Nat := 0
  /-- Use counter, 32 bits (13 R441). -/
  uses : Nat := 0
  /-- USE_LIMIT (13 R441). -/
  useLimit : Nat := 0
  /-- EXPIRE (13 R441). -/
  expire : Bool := false
  /-- Generation 1 to 255 (13 R441). -/
  gen : Nat := 1
  /-- Parent slot (13 R441). -/
  parent : Nat := 0
  /-- Depth below the root (13 R441). -/
  depth : Nat := 0
  /-- Installed under R443 (13 R459). -/
  installed : Bool := false
  /-- EV111 was raised since the last clear (13 R445). -/
  failSeen : Bool := false
  /-- The stored recipe (13 R444). -/
  recipe : Option Recipe := none
  deriving DecidableEq, Repr

/-- The tamper record (R453). -/
structure TamperRec where
  /-- TSOURCE (13 R453). -/
  source : Nat := 0
  /-- TWHEN (13 R453). -/
  twhen : Nat := 0
  /-- VALID (13 R453). -/
  valid : Bool := false
  /-- An operation was aborted (13 R453). -/
  aborted : Bool := false
  /-- Host slots were emptied (13 R453). -/
  wiped : Bool := false
  /-- TCOUNT (13 R453). -/
  count : Nat := 0
  /-- RTC_S (13 R453). -/
  rtcS : Nat := 0
  /-- TIME (13 R453). -/
  time : Nat := 0
  deriving DecidableEq, Repr

/-- The Security Island (R426 to R462). -/
structure Sec where
  /-- Cipher engines 0 to 7 (13 R426). -/
  engines : Tab Engine := {}
  /-- 256 key slots (13 R441). -/
  slots : Tab KeySlot := {}
  /-- OTP holds completed helper data (13 R455). -/
  enrolled : Bool := false
  /-- An OTP write was begun (13 R456). -/
  otpWritten : Bool := false
  /-- Unstable cells per 10 000 found at enrolment (13 R459). -/
  unstable : Nat := 0
  /-- Root regenerations since enrolment, 32 bits (13 R459). -/
  regens : Nat := 0
  /-- The entropy source passes its tests (13 R439). -/
  entropyOk : Bool := true
  /-- TEN (13 R449). -/
  ten : Nat := 0xF
  /-- TPOL (13 R449). -/
  tpol : Nat := 0xF
  /-- WIPE (13 R451). -/
  wipe : Nat := 0
  /-- Levels of TAMPER0 to TAMPER3 (13 R449). -/
  tampIn : Nat := 0
  /-- Monitors now in alarm, bit 0 FS147 to bit 6 FS153 (13 R449). -/
  alarms : Nat := 0
  /-- Tamper record, kept in the Always-On Island (13 R453). -/
  record : TamperRec := {}
  /-- EV109 details to raise when firmware starts (13 R453). -/
  pendTamper : List Nat := []
  /-- The key store is marked for clearing at the next start (13 R452). -/
  clearMark : Bool := false
  /-- Tamper configuration of the active settings set (13 R460). -/
  savedTen : Option (Nat × Nat × Nat) := none
  /-- Internal clients waiting for an engine: client ID, allowed engines, the source or layout that waits (13 R429). -/
  engWait : List (Nat × Nat × Nat) := []
  deriving DecidableEq, Repr

end Sys2Proof.Machine
end

