-- ==== Sys2Proof/Machine/State.lean ====
section
/-! DEFINITION. The whole device as plain data, and the device right after reset. -/

namespace Sys2Proof.Machine

/-- Why a step faults. -/
inductive Fault where
  /-- Raised by `execRegisterWrite` for a BAR or an offset that R61, R74 and R75 say does not exist.
  Safe: the spec gives such an access no effect. -/
  | noSuchAddress
  deriving DecidableEq, Repr

/-- Why a step is refused. -/
inductive Refusal where
  /-- Raised by `exec` for a command that has no meaning in this model. Safe. -/
  | notModelled (mnemonic : String)
  deriving DecidableEq, Repr

/-- What the device sends out at its pins, kept as a journal (log entry 2). -/
inductive Sent where
  /-- A bus frame on Bnn. -/
  | bus (b : Nat) (m : BusMsg)
  /-- An Ethernet frame that left a port whole, with a correct or a stomped FCS. -/
  | eth (p : Nat) (bytes : List Byte) (good : Bool)
  /-- A frame cut off by link loss (R154). -/
  | ethCut (p : Nat)
  /-- PAUSE with its quanta: the whole frame (R163). -/
  | pause (p : Nat) (quanta : Nat) (bytes : List Byte)
  /-- The BEACON of a PLCA coordinator (R157). -/
  | beacon (p : Nat)
  /-- A causeway control message: port, kind, body. -/
  | causeway (p : Nat) (bytes : List Byte)
  /-- A twin link message. -/
  | twin (kind : Nat) (bytes : List Byte)
  /-- An MSI-X message of a vector. -/
  | msix (v : Nat)
  /-- Bytes on SPI_MISO. -/
  | spi (bytes : List Byte)
  /-- A DMA write to host memory. -/
  | dma (addr : Nat) (bytes : List Byte)
  /-- An activity burst on a 10BASE-T1S port, with its length in µs (R176). -/
  | burst (p : Nat) (us : Nat)
  /-- `LEASE_OUT` and `LEASE_OUT_N` both high for 10 µs (R557). -/
  | leaseBoth
  deriving DecidableEq, Repr

/-- The whole device. -/
structure State where
  /-- Commands waiting, first in first out ((prompt)). -/
  pending : List Instr := []
  /-- Instant of the last command in ns ((log)). -/
  now : Nat := 0
  /-- Free values drawn so far ((log)). -/
  draws : Nat := 0
  /-- The payload windows of the mailboxes, 4096 bytes each from BAR2 offset 0x1000 n, in canonical form, an unlisted byte reads 0 (03 R75). -/
  windows : List Host.Cell := []
  /-- What the device has sent out at its pins, newest first ((log)). -/
  sent : List Sent := []
  /-- Host interfaces (03). -/
  host : HostIf := {}
  /-- MBX0 to MBX7 (03 R82). -/
  mbx : Tab Mbx := {}
  /-- Acceptances so far (03 R90). -/
  mbxOrder : Nat := 0
  /-- Every counter of R101, key group*2^48+function*2^16+index (03 R101). -/
  ctrs : Tab Ctr := {}
  /-- The seven islands (01 R14). -/
  islands : Tab Island := {}
  /-- The channels of the strait fabric, key sender * 8 + receiver (01 R18). -/
  chans : Tab Chan := {}
  /-- Units under restart or held, key island*64+unit (01 R619). -/
  units : Tab UnitSt := {}
  /-- B00 to B31 (04). -/
  buses : Tab Bus := {}
  /-- E00 to E23 (05). -/
  eth : Tab Eth := { cells := [(0, { eg := { pool := 0 } }), (1, { eg := { pool := 0 } }), (2, { eg := { pool := 0 } }), (3, { eg := { pool := 0 } })] }
  /-- Parser and classifier (06). -/
  parse : Parse := {}
  /-- Lookup tables (07). -/
  tbl : Tables := {}
  /-- Switch core (08). -/
  sw : Switch := {}
  /-- Signal engine (09). -/
  sig : Sig := {}
  /-- Time unit (10). -/
  time : Time := {}
  /-- Audio router (11). -/
  aud : Audio := {}
  /-- Tide queues and rings (12). -/
  tide : Tide := {}
  /-- Security Island (13). -/
  sec : Sec := {}
  /-- Fault collector (14). -/
  flt : Faults := {}
  /-- Twin (15). -/
  twin : Twin := {}
  /-- Causeway (16). -/
  cw : Cw := {}
  /-- Sleep manager (17). -/
  slp : Sleep := {}
  /-- Start-up and update (18). -/
  boot : Boot := {}
  deriving DecidableEq, Repr

/-- The device right after RESET_N rises with its supplies in range (R606, R567). Log entries 1 and 2. -/
def State.reset : State := {}

end Sys2Proof.Machine
end

