-- ==== Sys2Proof/Machine/Ops.lean ====
section
/-! DEFINITION. The named operations over the state: access to each unit's record, time, free values,
the journal of outputs, the payload windows. -/

namespace Sys2Proof.Machine

open Sys2Proof

/-- A command at instant `t` moves the present to `t`, never back (log entry 4). -/
def State.tick (s : State) (t : Nat) : State := { s with now := max s.now t }

/-- A free value: the next one of `Config.freeValue` (log entry 3). -/
def State.draw (s : State) : Nat × State :=
  (Config.freeValue s.draws, { s with draws := s.draws + 1 })

/-- A free value below a bound. -/
def State.drawBelow (s : State) (n : Nat) : Nat × State :=
  (Config.freeValue s.draws % n, { s with draws := s.draws + 1 })

/-- `n` free bytes. -/
def State.drawBytes (s : State) (n : Nat) : List Byte × State :=
  (leBytes n (Config.freeValue s.draws), { s with draws := s.draws + 1 })

/-- Send something out at the pins (log entry 2). -/
def State.send (s : State) (x : Sent) : State := { s with sent := x :: s.sent }

/-- The signal map in force. -/
def State.map (s : State) : SigMap := s.sig.cur

/-- Mailbox `m` (R82). -/
def State.mb (s : State) (m : Nat) : Mbx := s.mbx.get {} m

/-- Change mailbox `m` (R82). -/
def State.modMb (s : State) (m : Nat) (f : Mbx → Mbx) : State :=
  { s with mbx := s.mbx.modify {} m f }

/-- Island `i` (R14). -/
def State.isl (s : State) (i : Nat) : Island := s.islands.get {} i

/-- Change island `i` (R14). -/
def State.modIsl (s : State) (i : Nat) (f : Island → Island) : State :=
  { s with islands := s.islands.modify {} i f }

/-- The channel from island `i` to island `j` (R18). -/
def State.chan (s : State) (i j : Nat) : Chan := s.chans.get {} (i * 8 + j)

/-- Change the channel from island `i` to island `j` (R18). -/
def State.modChan (s : State) (i j : Nat) (f : Chan → Chan) : State :=
  { s with chans := s.chans.modify {} (i * 8 + j) f }

/-- The channel from island `i` to island `j` carries packets: it is not closed (R20). -/
def State.chanOpen (s : State) (i j : Nat) : Bool := !(s.chan i j).closed

/-- A packet crosses the channel from island `i` to island `j`: the next one after a reset shows that the far end has
completed the reset handshake (R20, log entry 74). -/
def State.cross (s : State) (i j : Nat) : State :=
  if (s.chan i j).resetAt.isSome then s.modChan i j fun c => { c with resetAt := none } else s

/-- The channels toward an island open again when the island or a unit of it has been restarted (R20). -/
def State.chansBack (s : State) (j : Nat) : State :=
  { s with chans := s.chans.map fun k c => if k % 8 = j then {} else c }

/-- A W1C write clears a status bit: it writes 1, and the device has not set the bit at the same instant (R6, R8). -/
def w1c (setAt : Tab Nat) (now v k : Nat) : Bool := bit v k && setAt.find k != some now

/-- Unit `u` of island `i` (R619). -/
def State.unitSt (s : State) (i u : Nat) : UnitSt := s.units.get {} (i * 64 + u)

/-- Change unit `u` of island `i` (R619). -/
def State.modUnitSt (s : State) (i u : Nat) (f : UnitSt → UnitSt) : State :=
  { s with units := s.units.modify {} (i * 64 + u) f }

/-- Controller `b` (R103). -/
def State.bus (s : State) (b : Nat) : Bus := s.buses.get {} b

/-- Change controller `b` (R103). -/
def State.modBus (s : State) (b : Nat) (f : Bus → Bus) : State :=
  { s with buses := s.buses.modify {} b f }

/-- Ethernet port `p` (R149). -/
def State.port (s : State) (p : Nat) : Eth := s.eth.get {} p

/-- Change ethernet port `p` (R149). -/
def State.modPort (s : State) (p : Nat) (f : Eth → Eth) : State :=
  { s with eth := s.eth.modify {} p f }

/-- Policer `n` (R212). -/
def State.policer (s : State) (n : Nat) : Policer := s.parse.policers.get {} n

/-- Change policer `n` (R212). -/
def State.modPolicer (s : State) (n : Nat) (g : Policer → Policer) : State :=
  { s with parse := { s.parse with policers := s.parse.policers.modify {} n g } }

/-- L2 entry `i`, index bucket * 4 + way (R235). -/
def State.l2e (s : State) (i : Nat) : L2Ent := s.tbl.l2.get {} i

/-- Change l2 entry `i`, index bucket * 4 + way (R235). -/
def State.modL2e (s : State) (i : Nat) (g : L2Ent → L2Ent) : State :=
  { s with tbl := { s.tbl with l2 := s.tbl.l2.modify {} i g } }

/-- VLAN entry `v` (R244). -/
def State.vlan (s : State) (v : Nat) : VlanEnt := s.tbl.vlans.get {} v

/-- Change vLAN entry `v` (R244). -/
def State.modVlan (s : State) (v : Nat) (g : VlanEnt → VlanEnt) : State :=
  { s with tbl := { s.tbl with vlans := s.tbl.vlans.modify {} v g } }

/-- Stream-handle entry `h` (R245). -/
def State.stream (s : State) (h : Nat) : StreamEnt := s.tbl.streams.get {} h

/-- Change stream-handle entry `h` (R245). -/
def State.modStream (s : State) (h : Nat) (g : StreamEnt → StreamEnt) : State :=
  { s with tbl := { s.tbl with streams := s.tbl.streams.modify {} h g } }

/-- Next-hop record `n` (R231). -/
def State.hop (s : State) (n : Nat) : NextHop := s.tbl.hops.get {} n

/-- Change next-hop record `n` (R231). -/
def State.modHop (s : State) (n : Nat) (g : NextHop → NextHop) : State :=
  { s with tbl := { s.tbl with hops := s.tbl.hops.modify {} n g } }

/-- Stored or passing frame `f` (R257). -/
def State.frame (s : State) (f : Nat) : Frame := s.sw.frames.get {} f

/-- Change stored or passing frame `f` (R257). -/
def State.modFrame (s : State) (f : Nat) (g : Frame → Frame) : State :=
  { s with sw := { s.sw with frames := s.sw.frames.modify {} f g } }

/-- Pool `n` (R258). -/
def State.pool (s : State) (n : Nat) : Pool := s.sw.pools.get {} n

/-- Change pool `n` (R258). -/
def State.modPool (s : State) (n : Nat) (g : Pool → Pool) : State :=
  { s with sw := { s.sw with pools := s.sw.pools.modify {} n g } }

/-- Signal slot `n` (R295). -/
def State.slot (s : State) (n : Nat) : Slot := s.sig.slots.get {} n

/-- Change signal slot `n` (R295). -/
def State.modSlot (s : State) (n : Nat) (g : Slot → Slot) : State :=
  { s with sig := { s.sig with slots := s.sig.slots.modify {} n g } }

/-- Run state of composition trigger `n` (R317). -/
def State.run (s : State) (n : Nat) : TrigRun := s.sig.runs.get {} n

/-- Change run state of composition trigger `n` (R317). -/
def State.modRun (s : State) (n : Nat) (g : TrigRun → TrigRun) : State :=
  { s with sig := { s.sig with runs := s.sig.runs.modify {} n g } }

/-- Time domain `d` (R343). -/
def State.dom (s : State) (d : Nat) : Domain := s.time.doms.get {} d

/-- Change time domain `d` (R343). -/
def State.modDom (s : State) (d : Nat) (g : Domain → Domain) : State :=
  { s with time := { s.time with doms := s.time.doms.modify {} d g } }

/-- Time trigger `n` (R359). -/
def State.trig (s : State) (n : Nat) : TimeTrig := s.time.trigs.get {} n

/-- Change time trigger `n` (R359). -/
def State.modTrig (s : State) (n : Nat) (g : TimeTrig → TimeTrig) : State :=
  { s with time := { s.time with trigs := s.time.trigs.modify {} n g } }

/-- Pin TIME_OUT `n` (R364). -/
def State.timeOut (s : State) (n : Nat) : TimeOut := s.time.outs.get {} n

/-- Change pin TIME_OUT `n` (R364). -/
def State.modTimeOut (s : State) (n : Nat) (g : TimeOut → TimeOut) : State :=
  { s with time := { s.time with outs := s.time.outs.modify {} n g } }

/-- Pin TIME_IN `n` (R365). -/
def State.timeIn (s : State) (n : Nat) : TimeIn := s.time.ins.get {} n

/-- Change pin TIME_IN `n` (R365). -/
def State.modTimeIn (s : State) (n : Nat) (g : TimeIn → TimeIn) : State :=
  { s with time := { s.time with ins := s.time.ins.modify {} n g } }

/-- TDM port `a` (R379). -/
def State.tdm (s : State) (a : Nat) : TdmPort := s.aud.ports.get {} a

/-- Change tDM port `a` (R379). -/
def State.modTdm (s : State) (a : Nat) (g : TdmPort → TdmPort) : State :=
  { s with aud := { s.aud with ports := s.aud.ports.modify {} a g } }

/-- AAF stream `n` (R380). -/
def State.aaf (s : State) (n : Nat) : AafStream := s.aud.streams.get {} n

/-- Change aAF stream `n` (R380). -/
def State.modAaf (s : State) (n : Nat) (g : AafStream → AafStream) : State :=
  { s with aud := { s.aud with streams := s.aud.streams.modify {} n g } }

/-- Crosspoint `n` (R384). -/
def State.xpoint (s : State) (n : Nat) : XPoint := s.aud.xpoints.get {} n

/-- Change crosspoint `n` (R384). -/
def State.modXpoint (s : State) (n : Nat) (g : XPoint → XPoint) : State :=
  { s with aud := { s.aud with xpoints := s.aud.xpoints.modify {} n g } }

/-- Zone `z` (R385). -/
def State.zone (s : State) (z : Nat) : Zone := s.aud.zones.get {} z

/-- Change zone `z` (R385). -/
def State.modZone (s : State) (z : Nat) (g : Zone → Zone) : State :=
  { s with aud := { s.aud with zones := s.aud.zones.modify {} z g } }

/-- Announcement `n` (R387). -/
def State.ann (s : State) (n : Nat) : Announce := s.aud.anns.get {} n

/-- Change announcement `n` (R387). -/
def State.modAnn (s : State) (n : Nat) (g : Announce → Announce) : State :=
  { s with aud := { s.aud with anns := s.aud.anns.modify {} n g } }

/-- Library message `n` (R390). -/
def State.libMsg (s : State) (n : Nat) : LibMsg := s.aud.lib.get {} n

/-- Change library message `n` (R390). -/
def State.modLibMsg (s : State) (n : Nat) (g : LibMsg → LibMsg) : State :=
  { s with aud := { s.aud with lib := s.aud.lib.modify {} n g } }

/-- Tide queue `q` (R399). -/
def State.tq (s : State) (q : Nat) : TideQ := s.tide.qs.get {} q

/-- Change tide queue `q` (R399). -/
def State.modTq (s : State) (q : Nat) (g : TideQ → TideQ) : State :=
  { s with tide := { s.tide with qs := s.tide.qs.modify {} q g } }

/-- DMA ring `r` (R413). -/
def State.ring (s : State) (r : Nat) : Ring := s.tide.rings.get {} r

/-- Change dMA ring `r` (R413). -/
def State.modRing (s : State) (r : Nat) (g : Ring → Ring) : State :=
  { s with tide := { s.tide with rings := s.tide.rings.modify {} r g } }

/-- Cipher engine `e` (R426). -/
def State.engine (s : State) (e : Nat) : Engine := s.sec.engines.get {} e

/-- Change cipher engine `e` (R426). -/
def State.modEngine (s : State) (e : Nat) (g : Engine → Engine) : State :=
  { s with sec := { s.sec with engines := s.sec.engines.modify {} e g } }

/-- Key slot `k` (R441). -/
def State.keySlot (s : State) (k : Nat) : KeySlot := s.sec.slots.get {} k

/-- Change key slot `k` (R441). -/
def State.modKeySlot (s : State) (k : Nat) (g : KeySlot → KeySlot) : State :=
  { s with sec := { s.sec with slots := s.sec.slots.modify {} k g } }

/-- Fault source `n` (R467). -/
def State.src (s : State) (n : Nat) : Src := s.flt.srcs.get {} n

/-- Change fault source `n` (R467). -/
def State.modSrc (s : State) (n : Nat) (g : Src → Src) : State :=
  { s with flt := { s.flt with srcs := s.flt.srcs.modify {} n g } }

/-- Device `d` of the chain map (R521). -/
def State.peer (s : State) (d : Nat) : Peer := s.cw.peers.get {} d

/-- Change device `d` of the chain map (R521). -/
def State.modPeer (s : State) (d : Nat) (g : Peer → Peer) : State :=
  { s with cw := { s.cw with peers := s.cw.peers.modify {} d g } }

/-- Change the host part of the device. -/
def State.modHost (s : State) (f : HostIf → HostIf) : State := { s with host := f s.host }

/-- Change the parse part of the device. -/
def State.modParse (s : State) (f : Parse → Parse) : State := { s with parse := f s.parse }

/-- Change the tbl part of the device. -/
def State.modTbl (s : State) (f : Tables → Tables) : State := { s with tbl := f s.tbl }

/-- Change the sw part of the device. -/
def State.modSw (s : State) (f : Switch → Switch) : State := { s with sw := f s.sw }

/-- Change the sig part of the device. -/
def State.modSig (s : State) (f : Sig → Sig) : State := { s with sig := f s.sig }

/-- Change the time part of the device. -/
def State.modTime (s : State) (f : Time → Time) : State := { s with time := f s.time }

/-- Change the aud part of the device. -/
def State.modAud (s : State) (f : Audio → Audio) : State := { s with aud := f s.aud }

/-- Change the tide part of the device. -/
def State.modTide (s : State) (f : Tide → Tide) : State := { s with tide := f s.tide }

/-- Change the sec part of the device. -/
def State.modSec (s : State) (f : Sec → Sec) : State := { s with sec := f s.sec }

/-- Change the flt part of the device. -/
def State.modFlt (s : State) (f : Faults → Faults) : State := { s with flt := f s.flt }

/-- Change the twin part of the device. -/
def State.modTwin (s : State) (f : Twin → Twin) : State := { s with twin := f s.twin }

/-- Change the cw part of the device. -/
def State.modCw (s : State) (f : Cw → Cw) : State := { s with cw := f s.cw }

/-- Change the slp part of the device. -/
def State.modSlp (s : State) (f : Sleep → Sleep) : State := { s with slp := f s.slp }

/-- Change the boot part of the device. -/
def State.modBoot (s : State) (f : Boot → Boot) : State := { s with boot := f s.boot }

/-- Find the byte of an address in a list of cells; an unlisted byte reads 0 (R75, log entry 5). -/
def cellByte (a : Nat) : List Host.Cell → Byte
  | [] => 0
  | (k, v) :: r => if k = a then v else cellByte a r

/-- Write a byte into a list of cells with rising addresses and no entry 0. -/
def cellWrite (a : Nat) (v : Byte) : List Host.Cell → List Host.Cell
  | [] => if v = 0 then [] else [(a, v)]
  | (k, w) :: r =>
    if a < k then (if v = 0 then (k, w) :: r else (a, v) :: (k, w) :: r)
    else if a = k then (if v = 0 then r else (a, v) :: r)
    else (k, w) :: cellWrite a v r

/-- The canonical form of the windows: addresses above a bound, strictly rising, no entry 0. -/
def cellsFrom (lo : Nat) : List Host.Cell → Bool
  | [] => true
  | (k, v) :: r => decide (lo ≤ k) && decide (v ≠ 0) && cellsFrom (k + 1) r

/-- The canonical form of the payload windows (log entry 5). -/
def Memory.wf (m : List Host.Cell) : Bool := cellsFrom 0 m

/-- Read a byte of the payload windows at a BAR2 offset. -/
def State.windowByte (s : State) (a : Nat) : Byte := cellByte a s.windows

/-- Write a byte of the payload windows. -/
def State.setWindowByte (s : State) (a : Nat) (v : Byte) : State :=
  { s with windows := cellWrite a v s.windows }

/-- Write bytes into a list of cells from an address on. -/
def cellsWrite (a : Nat) : List Byte → List Host.Cell → List Host.Cell
  | [], m => m
  | b :: r, m => cellsWrite (a + 1) r (cellWrite a b m)

/-- Write bytes of the payload windows from a BAR2 offset on. -/
def State.setWindow (s : State) (a : Nat) (bs : List Byte) : State :=
  { s with windows := cellsWrite a bs s.windows }

/-- Read `n` bytes of the payload windows. -/
def State.window (s : State) (a n : Nat) : List Byte := (range a n).map s.windowByte

/-- Fold an update over a list of numbers. -/
def State.each {α : Type} (s : State) (l : List α) (f : State → α → State) : State := l.foldl f s

/-! Time (R341 to R344, R358). Instants are ns; clock values are in 2^-16 ns. -/

/-- Local time in ns: it starts at 0 when the time unit starts (R342). -/
def State.localNs (s : State) : Nat := s.now - s.time.startAt

/-- The value of a clock at an instant (R341, R343). -/
def Clock.value (c : Clock) (t : Nat) : Int :=
  c.val + ((t - c.atNs : Nat) : Int) * 65536 + ((t - c.atNs : Nat) : Int) * c.ppb / (10 ^ 9 * 2 ^ 24)

/-- The same clock with another frequency adjustment from an instant on. -/
def Clock.adjust (c : Clock) (t : Nat) (ppb : Int) : Clock := { atNs := t, val := c.value t, ppb := ppb }

/-- The same clock stepped by a difference at an instant. -/
def Clock.step (c : Clock) (t : Nat) (d : Int) : Clock :=
  { atNs := t, val := c.value t + d, ppb := c.ppb }

/-- The integer square root of a number below 2^256, bit by bit from the top. -/
def isqrt (n : Nat) : Nat :=
  (List.range 128).foldl (fun r i => if (r + 2 ^ (127 - i)) * (r + 2 ^ (127 - i)) ≤ n then r + 2 ^ (127 - i) else r) 0

/-- The time-optimal profile of a slew (R358): an excess rate that starts at `v`, changes by `f` per ns,
stays within `m` and ends at 0 when the gap is 0. Rates are in 10^-18, gaps in 10^-18 ns.
It answers the three durations in ns and the peak rate. -/
def slewPlan (gap v f m : Int) : Int × Int × Int × Int :=
  let d := gap - v * (v.natAbs : Int) / (2 * f)
  let sg : Int := if d < 0 then -1 else 1
  let w := sg * v
  let x := sg * gap
  let free : Int := isqrt ((f * x + w * w / 2).toNat)
  let peak := if m < free then m else free
  let t1 := ((peak - w).natAbs : Int) / f
  let t3 := peak / f
  let covered := (if w ≤ peak then peak * peak - w * w else w * w - peak * peak) / (2 * f)
    + peak * peak / (2 * f)
  let tc := if peak = 0 then 0 else max 0 ((x - covered) / peak)
  (t1, tc, t3, sg * peak)

/-- The gap of a slew, in 10^-18 ns, some ns after its start (R358). -/
def slewGap (gap v f m : Int) (n : Int) : Int :=
  let (t1, tc, t3, peak) := slewPlan gap v f m
  let a := if v ≤ peak then f else -f
  let g1 := gap - (v * t1 + a * t1 * t1 / 2)
  if n < t1 then gap - (v * n + a * n * n / 2)
  else if n < t1 + tc then g1 - peak * (n - t1)
  else if n < t1 + tc + t3 then
    (if peak < 0 then -1 else 1) * (f * (t1 + tc + t3 - n) * (t1 + tc + t3 - n) / 2)
  else 0

/-- The excess rate of a slew, in 10^-18, some ns after its start (R358). -/
def slewRate (gap v f m : Int) (n : Int) : Int :=
  let (t1, tc, t3, peak) := slewPlan gap v f m
  if n < t1 then (if v ≤ peak then v + f * n else v - f * n)
  else if n < t1 + tc then peak
  else if n < t1 + tc + t3 then (if peak < 0 then -1 else 1) * f * (t1 + tc + t3 - n)
  else 0

/-- The length of a slew in ns. -/
def slewLength (gap v f m : Int) : Nat :=
  let (t1, tc, t3, _) := slewPlan gap v f m
  (t1 + tc + t3).toNat

/-- The numbers of the slew in progress: gap, starting rate, rate of change, limit. -/
def State.slewNumbers (s : State) (w : Slew) : Int × Int × Int × Int :=
  (w.gap * 10 ^ 18 / 65536, w.e0, (s.time.fslew : Int), (s.time.slewPpm : Int) * 10 ^ 12)

/-- The remaining gap Y − A of a slew at an instant, in 2^-16 ns. -/
def State.gapAt (s : State) (w : Slew) (t : Nat) : Int :=
  let (g, v, f, m) := s.slewNumbers w
  slewGap g v f m ((t - w.atNs : Nat) : Int) * 65536 / 10 ^ 18

/-- The instant at which a slew ends (R358). -/
def State.slewEndNs (s : State) (w : Slew) : Nat :=
  let (g, v, f, m) := s.slewNumbers w
  w.atNs + slewLength g v f m

/-- Active time at an instant, in 2^-16 ns: local time while unset, else the active domain's clock less the
gap of a slew in progress (R344, R358); a twin standby is steered to its partner (R497). -/
def State.activeAt (s : State) (t : Nat) : Int :=
  match s.twin.steer with
  | some c => c.value t
  | none => match s.time.active with
    | none => ((t - s.time.startAt : Nat) : Int) * 65536
    | some d =>
      let y := (s.dom d).clock.value t
      match s.time.slew with
      | none => y
      | some w => y - s.gapAt w t

/-- Active time now in ns (R344). -/
def State.activeNs (s : State) : Nat := (s.activeAt s.now / 65536).toNat

/-- The real-time counter in ms. -/
def State.rtcMs (s : State) : Nat := (s.now - s.time.rtcBase) / 1000000

/-- The functions that R90 serialises commands on. -/
inductive Func where
  | device | port (p : Nat) | bus (b : Nat) | parser | lpm | l2 | direct (t : Nat) | switchCore
  | ringSource (r : Nat) | signal | domain (d : Nat) | timeTrig (n : Nat) | latencies | capPins | tdm (a : Nat)
  | audio | zone (z : Nat) | tideQ (q : Nat) | ring (r : Nat) | keyStore | tamper | collector | twinRole
  | causeway | remote (d : Nat) | sleepMgr | update
  deriving DecidableEq, Repr

/-- Where a unit stands: its island and its number (R619). -/
structure UnitId where
  /-- Island 0 to 6. -/
  island : Nat
  /-- Unit 0 to 62, 63 for the whole island. -/
  unit : Nat
  deriving DecidableEq, Repr

/-- The `UNIT` field of an event record (R79). -/
def UnitId.code (u : UnitId) : Nat := u.island * 8192 + u.unit * 128

/-- `UNIT` of no unit (R79). -/
def noUnit : Nat := 0xFFFF

/-- The unit of a bus controller (R619). -/
def busUnit (b : Nat) : UnitId := { island := if b < 16 then 0 else 1, unit := b % 16 }

/-- The unit of an Ethernet port (R619). -/
def portUnit (p : Nat) : UnitId :=
  if p < 2 then { island := 0, unit := 16 + p }
  else if p < 4 then { island := 1, unit := 14 + p }
  else if p < 10 then { island := 0, unit := 14 + p }
  else if p < 16 then { island := 1, unit := 8 + p }
  else if p < 20 then { island := 0, unit := 8 + p }
  else { island := 1, unit := 4 + p }

/-- The unit of a TDM port (R619). -/
def tdmUnit (a : Nat) : UnitId := { island := if a < 4 then 0 else 1, unit := 32 + a % 4 }

/-- The units that own a function (R619); a port or controller that does not exist has none. -/
def Func.owners : Func → List UnitId
  | .port p => if p < 24 then [portUnit p] else []
  | .bus b => if b < 32 then [busUnit b] else []
  | .parser => [⟨2, 0⟩, ⟨2, 2⟩, ⟨2, 3⟩]
  | .lpm => [⟨2, 4⟩]
  | .l2 => [⟨2, 5⟩, ⟨2, 7⟩]
  | .direct _ => [⟨2, 6⟩]
  | .switchCore => [⟨2, 9⟩]
  | .ringSource _ => [⟨5, 6⟩]
  | .signal => [⟨3, 0⟩]
  | .domain _ => [⟨5, 7⟩]
  | .timeTrig _ => [⟨5, 7⟩]
  | .latencies => [⟨5, 7⟩]
  | .capPins => [⟨5, 7⟩]
  | .tdm a => [tdmUnit a]
  | .audio => [⟨3, 1⟩]
  | .zone _ => [⟨3, 1⟩]
  | .tideQ _ => [⟨5, 5⟩]
  | .ring _ => [⟨5, 6⟩]
  | .keyStore => [⟨4, 8⟩]
  | .tamper => [⟨4, 10⟩]
  | .collector => [⟨5, 8⟩]
  | .sleepMgr => [⟨6, 1⟩]
  | .device => []
  | .twinRole => []
  | .causeway => []
  | .remote _ => []
  | .update => []

/-- An island is in service: on and not restarting (R15, R23). -/
def State.islandUp (s : State) (i : Nat) : Bool :=
  (s.isl i).power == .on && !(s.isl i).restarting

/-- A unit is in service (R85). -/
def State.unitUp (s : State) (u : UnitId) : Bool :=
  s.islandUp u.island && !(s.unitSt u.island u.unit).restarting &&
    (s.unitSt u.island u.unit).latchedBy.isNone

/-- Sleep entry or sleep: only ring, wake and twin messages leave (R539). -/
def State.lightsOut (s : State) : Bool := s.slp.ps == .entry || s.slp.ps == .sleep

/-- The lease timers run: not in sleep, and not in a waking device before `STATE` 1 (R557). -/
def State.leaseRuns (s : State) : Bool := s.slp.ps == .service || s.slp.ps == .entry

/-- Valid communication after a wake (R560). -/
def State.heard (s : State) : State := s.modSlp fun z => { z with valid := z.valid || z.wokeAt.isSome }

/-- BAR0, BAR2 and the mailboxes can be reached: not held in reset, supplied, not asleep (R539, R606). -/
def State.hostReach (s : State) : Bool :=
  let p := s.boot.pins
  p.aonOn && !p.resetLow && p.coreOk && s.slp.ps != .sleep

/-- A host write to a register: it has its effect only while the host reaches the device. -/
def State.hostWrites (s : State) (t : Nat) (f : State → State) : State :=
  let s := s.tick t
  if s.hostReach then f s else s

/-- Firmware runs: it has started and the Control Island is in service (R88, R568). -/
def State.fwUp (s : State) : Bool := s.boot.fwRunning && s.islandUp 5

/-! Counters (R31, R101). -/

/-- The key of a counter: group, function, index in the function (R101). -/
def ctrKey (group fn idx : Nat) : Nat := group * 2 ^ 48 + fn * 2 ^ 16 + idx

/-- Add to a counter at an instant, saturating with its flag (R31); it has 32 bits unless `top` says otherwise. What it held before the updates of that instant
stays known (R56). -/
def Ctr.add (c : Ctr) (now n : Nat) (top : Nat := 0xFFFFFFFF) : Ctr :=
  let d := if c.atNs = now then c else { c with atNs := now, was := c.val, wasSat := c.sat, part := 0 }
  if c.val + n ≤ top then { d with val := c.val + n, part := d.part + n }
  else { d with val := top, sat := true, part := d.part + n }

/-- A counter as a snapshot-and-clear at an instant copies it: without the updates of that instant (R56). -/
def Ctr.before (c : Ctr) (now : Nat) : Ctr :=
  if c.atNs = now then { c with val := c.was, sat := c.wasSat } else c

/-- A counter after a snapshot-and-clear at an instant: the updates of that instant are counted from then on (R56). -/
def Ctr.after (c : Ctr) (now : Nat) : Ctr :=
  if c.atNs = now && c.part != 0 then ({ atNs := now } : Ctr).add now c.part else {}

/-- Count an event. -/
def State.count (s : State) (group fn idx : Nat) (n : Nat := 1) : State :=
  { s with ctrs := s.ctrs.modify {} (ctrKey group fn idx) (·.add s.now n) }

/-- A counter. -/
def State.ctr (s : State) (group fn idx : Nat) : Ctr := s.ctrs.get {} (ctrKey group fn idx)

end Sys2Proof.Machine
end

