-- ==== Sys2Proof/Machine/Chain.lean ====
section
/-! DEFINITION. Causeway frames on the way out: header, chain map, bundles, sealing, the messages that a device
sends along its chain (R508 to R531). -/

namespace Sys2Proof.Machine

open Sys2Proof

/-! Headers (R508, R510). -/

/-- The destination address of a causeway frame (R508). -/
def cwAddr : List Byte := [0x03, 0x5A, 0x00, 0x91, 0x60, 0x00]

/-- A frame is a causeway frame (R508). -/
def State.isCw (s : State) (f : List Byte) : Bool := f.take 6 == cwAddr && be f 12 2 == s.cw.etype

/-- The causeway header in 16 bytes (R510). -/
def cwHead (b : List Byte) : CwHead :=
  { kind := bits (le b 0 1) 0 4, srcId := le b 1 1, dstId := le b 2 1, hops := le b 3 1, ruleVer := be b 4 2
    cls := bits (le b 6 1) 5 3, enc := bit (le b 6 1) 4, timeOk := bit (le b 6 1) 3, target := le b 7 1
    snip := be b 8 4, seq := be b 12 4 }

/-- A causeway header is in order: version 1, no reserved kind, reserved bits 0 (R510). -/
def cwHeadOk (b : List Byte) : Bool :=
  bits (le b 0 1) 4 4 == 1 && decide (bits (le b 0 1) 0 4 ≤ 4) && bits (le b 6 1) 0 3 == 0

/-- The 16 bytes of a causeway header (R510). -/
def CwHead.bytes (h : CwHead) : List Byte :=
  leBytes 1 (16 + h.kind) ++ leBytes 1 h.srcId ++ leBytes 1 h.dstId ++ leBytes 1 h.hops ++ beBytes 2 h.ruleVer ++
    leBytes 1 (h.cls * 32 + flag h.enc 4 + flag h.timeOk 3) ++ leBytes 1 h.target ++ beBytes 4 h.snip ++ beBytes 4 h.seq

/-! Ports and bundles (R518, R526). -/

/-- A port forwards: its link is up, and an encrypting port has its session and engines (R526). -/
def Eth.fwdUp (x : Eth) : Bool := x.linkUp && !x.cw.encWait

/-- The causeway ports. -/
def State.cwPorts (s : State) : List Nat := [0, 1, 2, 3].filter fun p => (s.port p).cfg.causeway

/-- The members of the bundle of a causeway port with link up, in ascending order (R518). -/
def State.bundleOf (s : State) (p : Nat) : List Nat :=
  let c := (s.port p).cw
  [0, 1, 2, 3].filter fun q =>
    let y := s.port q
    y.cfg.causeway && y.fwdUp && y.cw.nbUp && y.cw.nbId == c.nbId && y.cw.bundle == c.bundle

/-- A causeway port stands in a bundle: it has a number and another port shares it (R518). -/
def State.bundled (s : State) (p : Nat) : Bool :=
  let x := s.port p
  x.cfg.causeway && x.cw.bundle != 0 && ((s.bundleOf p).filter (· != p)).length != 0

/-- The member of its bundle that a frame takes (R518). -/
def State.bundlePick (s : State) (p src dst cls : Nat) (head : List Byte) : Nat :=
  let l := s.bundleOf p
  let h := crcTop 8 (leBytes 1 src ++ leBytes 1 dst ++ leBytes 1 cls ++ head)
  (l[h % l.length]?).getD p

/-- Ports with each bundle replaced by the member that a frame takes. -/
def State.bundlePorts (s : State) (src dst cls : Nat) (head : List Byte) (ports : List Nat) : List Nat :=
  (ports.map fun p => if s.bundled p then s.bundlePick p src dst cls head else p).dedup

/-! The chain map (R517, R521, R523). -/

/-- The neighbours of this device, by port in ascending order. -/
def State.neighbours (s : State) : List (Nat × Nat) :=
  (s.cwPorts.filter fun p => (s.port p).cw.nbUp && (s.port p).linkUp).map fun p => (p, (s.port p).cw.nbId)

/-- Grow a list of reached devices, each with hops and first port, by one level: a device already reached keeps its
shorter path, and of equal paths the lower port stays (R521). -/
def State.chainGrow (s : State) (h : Nat) (l : List (Nat × Nat × Nat)) : List (Nat × Nat × Nat) :=
  let edge := sortBy (fun (a b : Nat × Nat × Nat) => decide (a.2.2 < b.2.2)) (l.filter fun e => e.2.1 == h)
  (edge.flatMap fun e => (s.peer e.1).nbs.map fun n => (n, e.2.2)).foldl (fun l n =>
    if n.1 == 0 || n.1 == s.cw.id || l.any (fun e => e.1 == n.1) || (s.cw.peers.find n.1).isNone then l
    else l ++ [(n.1, h + 1, n.2)]) l

/-- Levels of the chain map from one on. -/
def State.chainLevels (s : State) (h : Nat) (l : List (Nat × Nat × Nat)) : Nat → List (Nat × Nat × Nat)
  | 0 => l
  | n + 1 =>
    let l' := s.chainGrow h l
    if l'.length = l.length then l else s.chainLevels (h + 1) l' n

/-- The chain map: each reachable device with its hops and the local port toward it (R521). -/
def State.chain (s : State) : List (Nat × Nat × Nat) :=
  let l := s.neighbours.foldl (fun l n =>
    if n.2 == 0 || n.2 == s.cw.id || l.any (fun (e : Nat × Nat × Nat) => e.1 == n.2) ||
      (s.cw.peers.find n.2).isNone then l
    else l ++ [(n.2, 1, n.1)]) ([] : List (Nat × Nat × Nat))
  s.chainLevels 1 l 254

/-- Hops to a device, if the chain map holds it. -/
def State.hopsTo (s : State) (d : Nat) : Option Nat :=
  (s.chain.find? fun e => e.1 == d).map fun e => e.2.1

/-- The chain-map port toward a device. -/
def State.viaTo (s : State) (d : Nat) : Option Nat :=
  (s.chain.find? fun e => e.1 == d).map fun e => e.2.2

/-- The master among this device and those it reaches (R517): the lowest master strap, or the lowest that is not
never-master; 0 for none. -/
def State.chooseMaster (s : State) : Nat :=
  let own := if s.cw.id = 0 then [] else [(s.cw.id, s.boot.pins.strap)]
  let all := own ++ s.chain.map fun e => (e.1, (s.peer e.1).strap)
  match ((all.filter fun e => e.2 == 1).map fun e => e.1).min? with
  | some d => d
  | none => (((all.filter fun e => e.2 != 2).map fun e => e.1).min?).getD 0

/-- The chain map shows a closed ring: this device and every device it reaches have two neighbours (R523). -/
def State.ringClosed (s : State) : Bool :=
  let two (l : List Nat) : Bool := ((l.filter (· != 0)).dedup).length == 2
  s.cw.id != 0 && two (s.neighbours.map fun n => n.2) && s.chain.all fun e => two (s.peer e.1).nbs

/-- The port that the ring break bars on this device (R523). -/
def State.breakHere (s : State) : Option Nat :=
  if s.ringClosed && s.chooseMaster == s.cw.id then (s.neighbours.map fun n => n.1).getLast? else none

/-- A causeway port is barred to neighbour-scope frames by the ring break, with every link beside it to the same
neighbour (R523). -/
def State.barred (s : State) (p : Nat) : Bool :=
  match s.cw.breakPort with
  | some q => p == q || ((s.port p).cfg.causeway && (s.port p).cw.nbUp && (s.port p).cw.nbId == (s.port q).cw.nbId)
  | none => false

/-! Sealing (R510, R525). -/

/-- The header of a frame that this device originates (R510, R512, R514). -/
def State.cwOwn (s : State) (kind dst target cls : Nat) : CwHead :=
  { kind := kind, srcId := s.cw.id, dstId := dst, hops := s.cw.hopLimit, cls := cls, target := target
    timeOk := s.time.active.isSome, snip := s.activeNs % 2 ^ 32 }

/-- Header and body as they leave a port: plain, or encrypted with the next link counter (R525). -/
def State.cwSeal (s : State) (p : Nat) (h : CwHead) (body : List Byte) (plain : Bool) : State × List Byte :=
  let x := (s.port p).cw
  if plain || !x.enc then (s, ({ h with enc := false, seq := 0 } : CwHead).bytes ++ body)
  else
    let c := x.linkTx + 1
    let hb := ({ h with enc := true, seq := c % 2 ^ 32 } : CwHead).bytes
    let r := gcm (x.sessTx.getD []) (x.nonce.take 4 ++ beBytes 8 c) hb body false
    (s.modPort p fun y => { y with cw := { y.cw with linkTx := c } }, hb ++ r.1 ++ r.2)

/-- The outer frame, without FCS, that carries a header and a body on a port (R508). -/
def State.cwOuter (s : State) (p : Nat) (h : CwHead) (body : List Byte) (plain : Bool) : State × List Byte :=
  let (s, b) := s.cwSeal p h body plain
  (s, cwAddr ++ (s.port p).cfg.mac ++ beBytes 2 s.cw.etype ++ b)

/-- The partner pause of a port is in force (R166). -/
def Eth.paused (x : Eth) (now : Nat) : Bool := match x.pz.pausedUntil with
  | some u => decide (now < u)
  | none => false

/-- A port is at a frame boundary at which a frame may start (R153, R166): nothing in transmission, no disable, no pause. -/
def Eth.atBoundary (x : Eth) (now : Nat) : Bool := x.tx.isNone && !x.disabling && !x.paused now

/-- A port may start a message of its own: also no switch now is due or relocking (R180). -/
def Eth.msgFree (x : Eth) (now : Nat) : Bool :=
  x.atBoundary now && x.step.phase != 3 && !(x.step.outbox.any fun o => o.1 == 4)

/-- A message of this device leaves a causeway port; it counts in `tx_ok` (12) and `tx_octets` (13) of the port (R192). -/
def State.cwPut (s : State) (p : Nat) (h : CwHead) (body : List Byte) (hello : Bool) : State :=
  let (s, b) := s.cwOuter p h body hello
  ((s.send (.causeway p b)).count 2 p 12).count 2 p 13 (max 60 b.length + 4)

/-- A message that may start now: during sleep entry and in sleep only the messages of the ring do (R539, R550). -/
def State.msgStarts (s : State) (h : CwHead) (body : List Byte) : Bool :=
  !s.lightsOut || (h.kind == 2 && le body 0 1 == 5)

/-- The bytes of a magic packet for a neighbour (R175, R555). The EtherType is the customary one (log entry 24). -/
def magicPacket (dst src : List Byte) : List Byte :=
  dst ++ src ++ beBytes 2 0x0842 ++ List.replicate 6 0xFF ++ (List.replicate 16 dst).flatten

/-- The magic packet that waits at a causeway port leaves it (R555). A neighbour asleep keeps its receive lane and does not
transmit (R540), so the port needs no link up for it. -/
def State.magicSend (s : State) (p : Nat) : State :=
  let x := s.port p
  if !x.cw.magicDue || s.lightsOut then s
  else
    let f := magicPacket x.cw.nbMac x.cfg.mac
    let s := s.modPort p fun y => { y with cw := { y.cw with magicDue := false } }
    ((s.send (.eth p (f ++ fcsBytes f) true)).count 2 p 12).count 2 p 13 (f.length + 4)

/-- A message of this device waits at its port for a frame boundary. -/
def State.cwWait (s : State) (p : Nat) (h : CwHead) (body : List Byte) (hello : Bool) : State :=
  s.modPort p fun y => { y with cw := { y.cw with waiting := y.cw.waiting ++ [(h, body, hello)] } }

/-- Send a message of this device on a causeway port. An encrypting port that waits for its session sends only
HELLO (R526). Messages do not pass the class queues (log entry 15); they wait for a frame boundary (R153, R166). -/
def State.cwSend (s : State) (p : Nat) (h : CwHead) (body : List Byte) (hello : Bool := false) : State :=
  let x := s.port p
  if !x.cfg.causeway || !x.linkUp || (x.cw.encWait && !hello) then s
  else if x.msgFree s.now && s.msgStarts h body then s.cwPut p h body hello
  else s.cwWait p h body hello

/-- The messages that wait at a port leave it at a frame boundary, in their order. -/
def State.cwFlush (s : State) (p : Nat) : State :=
  if !(s.port p).msgFree s.now then s
  else
    let l := (s.port p).cw.waiting.partition fun m => s.msgStarts m.1 m.2.1
    (l.1.foldl (fun s m => if (s.port p).cw.encWait && !m.2.2 then s else s.cwPut p m.1 m.2.1 m.2.2)
      (s.modPort p fun y => { y with cw := { y.cw with waiting := l.2 } })).magicSend p

/-- Send a link message: to the neighbour of one port only (R512). -/
def State.cwLink (s : State) (p : Nat) (body : List Byte) (hello : Bool := false) : State :=
  s.cwSend p { s.cwOwn 2 255 0xFF 7 with hops := 1 } body hello

/-- Send a message to a device of the chain map, on the member of its bundle (R518, R521). A device at ID 0
originates none (R519). -/
def State.cwTo (s : State) (d kind : Nat) (body : List Byte) : State :=
  if s.cw.id = 0 then s
  else match s.viaTo d with
    | none => s
    | some p => s.cwSend (s.bundlePick p s.cw.id d 7 []) (s.cwOwn kind d 0xFF 7) body

/-- Send a broadcast control message on every causeway port, one member of each bundle (R513). A device at ID 0
originates none (R519). -/
def State.cwBroadcast (s : State) (body : List Byte) : State :=
  if s.cw.id = 0 then s
  else (s.bundlePorts s.cw.id 255 7 [] (s.cwPorts.filter fun p => (s.port p).cw.nbUp)).foldl
    (fun s p => s.cwSend p (s.cwOwn 2 255 0xFF 7) body) s

/-! Events (R531). -/

/-- An event record as 16 bytes (R79). -/
def EvtRec.bytes (r : EvtRec) : List Byte :=
  leBytes 1 r.evt ++ leBytes 1 r.mbx ++ leBytes 2 r.unit ++ leBytes 4 r.detail ++ leBytes 8 r.time

/-- An event record as it travels in an event message: the record of R79, its fields in network byte order (R4). -/
def EvtRec.wire (r : EvtRec) : List Byte :=
  leBytes 1 r.evt ++ leBytes 1 r.mbx ++ beBytes 2 r.unit ++ beBytes 4 r.detail ++ beBytes 8 r.time

/-- An event is forwarded to the master: those of `EVT_FWD`, and every event of a widened pair's peer (R531). -/
def State.forwards (s : State) (ev : Nat) : Bool :=
  s.cw.cascade != 0 && s.cw.master != 0 && s.cw.master != s.cw.id && (s.cw.cascade == 1 || bit s.cw.evtFwd ev)

end Sys2Proof.Machine
end

