-- ==== Sys2Proof/Machine/Flags.lean ====
section
/-! DEFINITION. Status bits, the event log, and interrupt vectors (R63, R72, R77 to R79). -/

namespace Sys2Proof.Machine

open Sys2Proof

/-! Vectors and the interrupt pin. -/

/-- `EVT_STATUS` bit of a source. -/
def State.evtBit (s : State) (ev : Nat) : Bool := s.host.evtStatus.getLsbD ev

/-- A source is unmasked (R77). -/
def State.evtUnmasked (s : State) (ev : Nat) : Bool := !s.host.evtMask.getLsbD ev

/-- Request the MSI-X message of a vector (R63): it leaves, waits as pending, or is not sent. -/
def State.msixRequest (s : State) (v : Nat) : State :=
  let x := s.host.msix
  if !x.enable then s
  else if x.fmask || x.vmask.getLsbD v then
    { s with host := { s.host with msix := { x with pend := x.pend ||| BitVec.ofNat 32 (2 ^ v) } } }
  else s.send (.msix v)

/-- Send the vector of a source (R78). -/
def State.sendVector (s : State) (ev : Nat) : State := s.msixRequest (s.host.evtVec.get 0 ev)

/-- Send each pending vector that is no longer masked, clearing its pending bit (R63). -/
def State.msixFlush (s : State) : State :=
  (List.range 32).foldl (fun s v =>
    let x := s.host.msix
    if x.enable && !x.fmask && !x.vmask.getLsbD v && x.pend.getLsbD v then
      ({ s with host := { s.host with msix :=
        { x with pend := x.pend &&& ~~~(BitVec.ofNat 32 (2 ^ v)) } } }).send (.msix v)
    else s) s

/-- `HOST_INT_N` is low: an unmasked status bit is 1 and `INT_PIN_EN` is 1 (R72). -/
def State.hostIntLow (s : State) : Bool :=
  s.host.intPinEn && (s.host.evtStatus &&& ~~~s.host.evtMask) != 0

/-! The event log. -/

/-- Write a record at `EVT_LOG_WR`; the Boolean says that it overwrote an unreleased record (R79). -/
def State.logWrite (s : State) (r : EvtRec) : State × Bool :=
  let h := s.host
  let wr := (h.evtLogWr + 1) % 256
  let h' := { h with
    log := h.log.set h.evtLogWr r
    evtLogWr := wr
    evtLogFull := h.evtLogFull || decide (wr = h.evtLogRd)
    evtLogLost := if h.evtLogFull then min 0xFFFFFFFF (h.evtLogLost + 1) else h.evtLogLost }
  let s' := { s with host := h' }
  (if h.evtLogFull then s'.count 1 0 9 else s', h.evtLogFull)

/-- Set the status bit of a source; its vector is sent when the bit rises and the source is unmasked (R78). -/
def State.evtSet (s : State) (ev : Nat) : State :=
  let rose := !s.evtBit ev
  let sent := rose || s.host.evtSetAt.find ev == some (s.now, true)
  let s' := { s with host := { s.host with
    evtStatus := s.host.evtStatus ||| BitVec.ofNat 128 (2 ^ ev), evtSetAt := s.host.evtSetAt.set ev (s.now, sent) } }
  if rose && s.evtUnmasked ev then s'.sendVector ev else s'

/-- An occurrence without the consequence of an overwrite (R78). -/
def State.occur (s : State) (r : EvtRec) : State × Bool :=
  let (s, lost) := s.logWrite r
  let s := s.evtSet r.evt
  (if s.forwards r.evt then (s.cwTo s.cw.master 4 r.wire).count 14 0 3 else s, lost)

/-- An event occurrence: record, status bit, vector; an overwrite raises EV018 in its turn (R78, R79). -/
def State.raise (s : State) (ev : Nat) (mbx : Nat := 0xFF) (unit : Nat := noUnit) (detail : Nat := 0) : State :=
  let (s, lost) := s.occur
    { evt := ev, mbx := mbx, unit := unit, detail := detail % 2 ^ 32, time := s.activeNs }
  if lost && ev != 18 then
    (s.occur { evt := 18, mbx := 0xFF, unit := noUnit, detail := s.host.evtLogLost, time := s.activeNs }).1
  else s

/-- An event of a unit. -/
def State.raiseOf (s : State) (ev : Nat) (u : UnitId) (detail : Nat := 0) : State :=
  s.raise ev 0xFF u.code detail

/-- `STATE` takes a value; a change raises EV016 (R81). -/
def State.setDevState (s : State) (v : Nat) : State :=
  if s.boot.state = v then s
  else ({ s with boot := { s.boot with state := v } }).raise 16 0xFF noUnit v

/-- Clear status bits by a W1C write (R6, R77). A bit whose source occurs at the same instant stays 1, and its vector is sent
if that occurrence has not sent it (R8, R78). -/
def State.evtClear (s : State) (k : Nat) (v : Word) : State :=
  let names := (range (32 * k) 32).filter fun e => bit v.toNat (e - 32 * k)
  let same := names.filter fun e => match s.host.evtSetAt.find e with
    | some x => x.1 == s.now && s.evtBit e
    | none => false
  let gone := ofBits (names.filter fun e => !same.contains e)
  let due := same.filter fun e => s.host.evtSetAt.find e == some (s.now, false)
  let s' := { s with host := { s.host with
    evtStatus := s.host.evtStatus &&& ~~~(BitVec.ofNat 128 gone)
    evtSetAt := due.foldl (fun t e => t.set e (s.now, true)) s.host.evtSetAt } }
  (due.filter s.evtUnmasked).foldl State.sendVector s'

/-- Write one `EVT_MASK` register; each source it unmasks whose status bit is 1 sends its vector (R78). -/
def State.evtMaskWrite (s : State) (k : Nat) (v : Word) : State :=
  let old := s.host.evtMask
  let new := (old &&& ~~~(BitVec.ofNat 128 (0xFFFFFFFF * 2 ^ (32 * k)))) |||
    BitVec.ofNat 128 (v.toNat * 2 ^ (32 * k))
  let s' := { s with host := { s.host with evtMask := new } }
  ((range (32 * k) 32).filter fun e => old.getLsbD e && !new.getLsbD e && s.evtBit e).foldl
    State.sendVector s'

/-- A host write of `EVT_LOG_RD` releases the records before it (R77, log entry 7). -/
def State.evtRelease (s : State) (v : Nat) : State :=
  { s with host := { s.host with evtLogRd := v % 256, evtLogFull := false } }

end Sys2Proof.Machine
end

