-- ==== Sys2Proof/Machine/Counters.lean ====
section
/-! DEFINITION. The counters of every group: each name with its place in its function, and the scopes
that a snapshot covers (R101). Generated order: the rows of each chapter's counter table. -/

namespace Sys2Proof.Machine

/-- `host_bad_access`, group 0x01 (03 R102). -/
def ctrDevHostBadAccess : Nat := 0

/-- `spi_crc_err`, group 0x01 (03 R102). -/
def ctrDevSpiCrcErr : Nat := 1

/-- `spi_len_err`, group 0x01 (03 R102). -/
def ctrDevSpiLenErr : Nat := 2

/-- `spi_opc_err`, group 0x01 (03 R102). -/
def ctrDevSpiOpcErr : Nat := 3

/-- `spi_addr_err`, group 0x01 (03 R102). -/
def ctrDevSpiAddrErr : Nat := 4

/-- `spi_rd_late`, group 0x01 (03 R102). -/
def ctrDevSpiRdLate : Nat := 5

/-- `mbx_dropped`, group 0x01 (03 R102). -/
def ctrDevMbxDropped : Nat := 6

/-- `mbx_hw_aborts`, group 0x01 (03 R102). -/
def ctrDevMbxHwAborts : Nat := 7

/-- `strait_errors`, group 0x01 (03 R102). -/
def ctrDevStraitErrors : Nat := 8

/-- `evt_log_lost`, group 0x01 (03 R102). -/
def ctrDevEvtLogLost : Nat := 9

/-- `rx_ok`, group 0x02 (05 R192). -/
def ctrEthRxOk : Nat := 0

/-- `rx_octets`, group 0x02 (05 R192). -/
def ctrEthRxOctets : Nat := 1

/-- `rx_fcs_err`, group 0x02 (05 R192). -/
def ctrEthRxFcsErr : Nat := 2

/-- `rx_stomped`, group 0x02 (05 R192). -/
def ctrEthRxStomped : Nat := 3

/-- `rx_undersize`, group 0x02 (05 R192). -/
def ctrEthRxUndersize : Nat := 4

/-- `rx_oversize`, group 0x02 (05 R192). -/
def ctrEthRxOversize : Nat := 5

/-- `rx_filtered`, group 0x02 (05 R192). -/
def ctrEthRxFiltered : Nat := 6

/-- `rx_tag_err`, group 0x02 (05 R192). -/
def ctrEthRxTagErr : Nat := 7

/-- `rx_ipv4_hdr_err`, group 0x02 (05 R192). -/
def ctrEthRxIpv4HdrErr : Nat := 8

/-- `rx_l4_err`, group 0x02 (05 R192). -/
def ctrEthRxL4Err : Nat := 9

/-- `rx_pause`, group 0x02 (05 R192). -/
def ctrEthRxPause : Nat := 10

/-- `paused_time_us`, group 0x02 (05 R192). -/
def ctrEthPausedTimeUs : Nat := 11

/-- `tx_ok`, group 0x02 (05 R192). -/
def ctrEthTxOk : Nat := 12

/-- `tx_octets`, group 0x02 (05 R192). -/
def ctrEthTxOctets : Nat := 13

/-- `tx_stomped`, group 0x02 (05 R192). -/
def ctrEthTxStomped : Nat := 14

/-- `tx_link_abort`, group 0x02 (05 R192). -/
def ctrEthTxLinkAbort : Nat := 15

/-- `tx_csum_skipped`, group 0x02 (05 R192). -/
def ctrEthTxCsumSkipped : Nat := 16

/-- `tx_pause`, group 0x02 (05 R192). -/
def ctrEthTxPause : Nat := 17

/-- `tx_pause_zero`, group 0x02 (05 R192). -/
def ctrEthTxPauseZero : Nat := 18

/-- `collisions`, group 0x02 (05 R192). -/
def ctrEthCollisions : Nat := 19

/-- `late_collisions`, group 0x02 (05 R192). -/
def ctrEthLateCollisions : Nat := 20

/-- `excess_collisions`, group 0x02 (05 R192). -/
def ctrEthExcessCollisions : Nat := 21

/-- `plca_fallbacks`, group 0x02 (05 R192). -/
def ctrEthPlcaFallbacks : Nat := 22

/-- `step_down`, group 0x02 (05 R192). -/
def ctrEthStepDown : Nat := 23

/-- `step_up`, group 0x02 (05 R192). -/
def ctrEthStepUp : Nat := 24

/-- `step_fail`, group 0x02 (05 R192). -/
def ctrEthStepFail : Nat := 25

/-- `step_timeout`, group 0x02 (05 R192). -/
def ctrEthStepTimeout : Nat := 26

/-- `step_rejected`, group 0x02 (05 R192). -/
def ctrEthStepRejected : Nat := 27

/-- `spec_ct_started`, group 0x02, speculative (05 R192). -/
def ctrEthSpecCtStarted : Nat := 28

/-- `spec_ct_stomped`, group 0x02, speculative (05 R192). -/
def ctrEthSpecCtStomped : Nat := 29

/-- `spec_ct_underrun`, group 0x02, speculative (05 R192). -/
def ctrEthSpecCtUnderrun : Nat := 30

/-- `rx_ok_classic`, group 0x03 (04 R148). -/
def ctrBusRxOkClassic : Nat := 0

/-- `rx_ok_fd`, group 0x03 (04 R148). -/
def ctrBusRxOkFd : Nat := 1

/-- `rx_ok_xl`, group 0x03 (04 R148). -/
def ctrBusRxOkXl : Nat := 2

/-- `rx_rejected`, group 0x03 (04 R148). -/
def ctrBusRxRejected : Nat := 3

/-- `rx_no_match`, group 0x03 (04 R148). -/
def ctrBusRxNoMatch : Nat := 4

/-- `rx_unmapped`, group 0x03 (04 R148). -/
def ctrBusRxUnmapped : Nat := 5

/-- `rx_drop`, group 0x03 (04 R148). -/
def ctrBusRxDrop : Nat := 6

/-- `tx_ok`, group 0x03 (04 R148). -/
def ctrBusTxOk : Nat := 7

/-- `tx_arb_lost`, group 0x03 (04 R148). -/
def ctrBusTxArbLost : Nat := 8

/-- `tx_aged`, group 0x03 (04 R148). -/
def ctrBusTxAged : Nat := 9

/-- `tx_queue_evicted`, group 0x03 (04 R148). -/
def ctrBusTxQueueEvicted : Nat := 10

/-- `tx_queue_refused`, group 0x03 (04 R148). -/
def ctrBusTxQueueRefused : Nat := 11

/-- `tx_noack_drop`, group 0x03 (04 R148). -/
def ctrBusTxNoackDrop : Nat := 12

/-- `no_ack_episodes`, group 0x03 (04 R148). -/
def ctrBusNoAckEpisodes : Nat := 13

/-- `tx_diverted`, group 0x03 (04 R148). -/
def ctrBusTxDiverted : Nat := 14

/-- `tx_divert_lost`, group 0x03 (04 R148). -/
def ctrBusTxDivertLost : Nat := 15

/-- `err_bit`, group 0x03 (04 R148). -/
def ctrBusErrBit : Nat := 16

/-- `err_stuff`, group 0x03 (04 R148). -/
def ctrBusErrStuff : Nat := 17

/-- `err_crc`, group 0x03 (04 R148). -/
def ctrBusErrCrc : Nat := 18

/-- `err_form`, group 0x03 (04 R148). -/
def ctrBusErrForm : Nat := 19

/-- `err_ack`, group 0x03 (04 R148). -/
def ctrBusErrAck : Nat := 20

/-- `bus_off_entries`, group 0x03 (04 R148). -/
def ctrBusBusOffEntries : Nat := 21

/-- `protocol_exception`, group 0x03 (04 R148). -/
def ctrBusProtocolException : Nat := 22

/-- `stuck_dominant`, group 0x03 (04 R148). -/
def ctrBusStuckDominant : Nat := 23

/-- `spec_unpack_discarded`, group 0x03, speculative (04 R148). -/
def ctrBusSpecUnpackDiscarded : Nat := 24

/-- `parse_frames`, group 0x04 (06 R225). -/
def ctrParseParseFrames : Nat := 0

/-- `parse_trunc`, group 0x04 (06 R225). -/
def ctrParseParseTrunc : Nat := 1

/-- `parse_reject`, group 0x04 (06 R225). -/
def ctrParseParseReject : Nat := 2

/-- `parse_short`, group 0x04 (06 R225). -/
def ctrParseParseShort : Nat := 3

/-- `ver_expired`, group 0x04 (06 R225). -/
def ctrParseVerExpired : Nat := 4

/-- `cls_no_match`, group 0x04 (06 R225). -/
def ctrParseClsNoMatch : Nat := 5

/-- `cls_drop`, group 0x04 (06 R225). -/
def ctrParseClsDrop : Nat := 6

/-- `cls_copy`, group 0x04 (06 R225). -/
def ctrParseClsCopy : Nat := 7

/-- `cls_mirror`, group 0x04 (06 R225). -/
def ctrParseClsMirror : Nat := 8

/-- `cls_bad_target`, group 0x04 (06 R225). -/
def ctrParseClsBadTarget : Nat := 9

/-- `rule_hits_retired`, group 0x04 (06 R225). -/
def ctrParseRuleHitsRetired : Nat := 10

/-- `gs_route` 0 to 5, group 0x04 (06 R225). -/
def ctrParseGsRoute : Nat := 11

/-- `rule_hits`, group 0x04 (06 R225). -/
def ctrRuleRuleHits : Nat := 0

/-- `pol_green`, group 0x04 (06 R225). -/
def ctrPolPolGreen : Nat := 0

/-- `pol_yellow`, group 0x04 (06 R225). -/
def ctrPolPolYellow : Nat := 1

/-- `pol_red`, group 0x04 (06 R225). -/
def ctrPolPolRed : Nat := 2

/-- `pol_green_octets`, group 0x04 (06 R225). -/
def ctrPolPolGreenOctets : Nat := 3

/-- `pol_yellow_octets`, group 0x04 (06 R225). -/
def ctrPolPolYellowOctets : Nat := 4

/-- `pol_red_octets`, group 0x04 (06 R225). -/
def ctrPolPolRedOctets : Nat := 5

/-- `lpm_miss`, group 0x05 (07 R256). -/
def ctrTblLpmMiss : Nat := 0

/-- `l2_same_port`, group 0x05 (07 R256). -/
def ctrTblL2SamePort : Nat := 1

/-- `l2_no_vlan`, group 0x05 (07 R256). -/
def ctrTblL2NoVlan : Nat := 2

/-- `l2_aged`, group 0x05 (07 R256). -/
def ctrTblL2Aged : Nat := 3

/-- `l2_moves`, group 0x05 (07 R256). -/
def ctrTblL2Moves : Nat := 4

/-- `l2_flap_blocked`, group 0x05 (07 R256). -/
def ctrTblL2FlapBlocked : Nat := 5

/-- `l2_flushed`, group 0x05 (07 R256). -/
def ctrTblL2Flushed : Nat := 6

/-- `learn_overrun`, group 0x05 (07 R256). -/
def ctrTblLearnOverrun : Nat := 7

/-- `table_parity` 0 to 7, group 0x05 (07 R256). -/
def ctrTblTableParity : Nat := 8

/-- `table_miss` 0 to 7, group 0x05 (07 R256). -/
def ctrTblTableMiss : Nat := 16

/-- `spec_lookup_discarded` 0 to 7, group 0x05, speculative (07 R256). -/
def ctrTblSpecLookupDiscarded : Nat := 24

/-- `l2_bucket_full`, group 0x05 (07 R256). -/
def ctrVidL2BucketFull : Nat := 0

/-- `vlan_invalid`, group 0x05 (07 R256). -/
def ctrVidVlanInvalid : Nat := 1

/-- `vlan_ingress_drop`, group 0x05 (07 R256). -/
def ctrVidVlanIngressDrop : Nat := 2

/-- `learn_excess_drop`, group 0x05 (07 R256). -/
def ctrLearnLearnExcessDrop : Nat := 0

/-- `learn_excess_flood`, group 0x05 (07 R256). -/
def ctrLearnLearnExcessFlood : Nat := 1

/-- `learned`, group 0x05 (07 R256). -/
def ctrLearnLearned : Nat := 2

/-- `stream_frames`, group 0x05 (07 R256). -/
def ctrStreamStreamFrames : Nat := 0

/-- `stream_oversize`, group 0x05 (07 R256). -/
def ctrStreamStreamOversize : Nat := 1

/-- `stream_invalid`, group 0x05 (07 R256). -/
def ctrStreamStreamInvalid : Nat := 2

/-- `admitted`, group 0x06 (08 R294). -/
def ctrPoolAdmitted : Nat := 0

/-- `drop_pool_full`, group 0x06 (08 R294). -/
def ctrPoolDropPoolFull : Nat := 1

/-- `pushout_victims`, group 0x06 (08 R294). -/
def ctrPoolPushoutVictims : Nat := 2

/-- `bus_pushout`, group 0x06 (08 R294). -/
def ctrPoolBusPushout : Nat := 3

/-- `restart_flushed`, group 0x06 (08 R294). -/
def ctrPoolRestartFlushed : Nat := 4

/-- `tx_frames` 0 to 7, group 0x06 (08 R294). -/
def ctrSwTxFrames : Nat := 0

/-- `drop_pushout` 0 to 7, group 0x06 (08 R294). -/
def ctrSwDropPushout : Nat := 8

/-- `drop_aged` 0 to 7, group 0x06 (08 R294). -/
def ctrSwDropAged : Nat := 16

/-- `drop_port_down` 0 to 7, group 0x06 (08 R294). -/
def ctrSwDropPortDown : Nat := 24

/-- `ct_granted`, group 0x06 (08 R294). -/
def ctrSwCtGranted : Nat := 32

/-- `hold_entered`, group 0x06 (08 R294). -/
def ctrSwHoldEntered : Nat := 33

/-- `hold_resumed`, group 0x06 (08 R294). -/
def ctrSwHoldResumed : Nat := 34

/-- `hold_flushed`, group 0x06 (08 R294). -/
def ctrSwHoldFlushed : Nat := 35

/-- `tx_oversize_drop`, group 0x06 (08 R294). -/
def ctrSwTxOversizeDrop : Nat := 36

/-- `route_ttl_expired`, group 0x06 (08 R294). -/
def ctrRouteRouteTtlExpired : Nat := 0

/-- `frames_committed`, group 0x07 (09 R340). -/
def ctrSigFramesCommitted : Nat := 0

/-- `unpack_ops`, group 0x07 (09 R340). -/
def ctrSigUnpackOps : Nat := 1

/-- `pack_ops`, group 0x07 (09 R340). -/
def ctrSigPackOps : Nat := 2

/-- `unpack_short`, group 0x07 (09 R340). -/
def ctrSigUnpackShort : Nat := 3

/-- `eth_csum_drop`, group 0x07 (09 R340). -/
def ctrSigEthCsumDrop : Nat := 4

/-- `raw_range_err`, group 0x07 (09 R340). -/
def ctrSigRawRangeErr : Nat := 5

/-- `phys_range_err`, group 0x07 (09 R340). -/
def ctrSigPhysRangeErr : Nat := 6

/-- `pack_range`, group 0x07 (09 R340). -/
def ctrSigPackRange : Nat := 7

/-- `stale_events`, group 0x07 (09 R340). -/
def ctrSigStaleEvents : Nat := 8

/-- `compose_ok`, group 0x07 (09 R340). -/
def ctrSigComposeOk : Nat := 9

/-- `compose_replaced`, group 0x07 (09 R340). -/
def ctrSigComposeReplaced : Nat := 10

/-- `compose_drop`, group 0x07 (09 R340). -/
def ctrSigComposeDrop : Nat := 11

/-- `divert_none`, group 0x07 (09 R340). -/
def ctrSigDivertNone : Nat := 12

/-- `sec_ok`, group 0x07 (09 R340). -/
def ctrSigSecOk : Nat := 13

/-- `sec_tag_fail`, group 0x07 (09 R340). -/
def ctrSigSecTagFail : Nat := 14

/-- `sec_fresh_fail`, group 0x07 (09 R340). -/
def ctrSigSecFreshFail : Nat := 15

/-- `sec_key_fail`, group 0x07 (09 R340). -/
def ctrSigSecKeyFail : Nat := 16

/-- `sec_no_engine`, group 0x07 (09 R340). -/
def ctrSigSecNoEngine : Nat := 17

/-- `map_ver_expired`, group 0x07 (09 R340). -/
def ctrSigMapVerExpired : Nat := 18

/-- `unpack_overrun`, group 0x07 (09 R340). -/
def ctrSigUnpackOverrun : Nat := 19

/-- `spec_deferred`, group 0x07 (09 R340). -/
def ctrSigSpecDeferred : Nat := 20

/-- `spec_compose_discarded`, group 0x07, speculative (09 R340). -/
def ctrSigSpecComposeDiscarded : Nat := 21

/-- `spec_compose_redone`, group 0x07, speculative (09 R340). -/
def ctrSigSpecComposeRedone : Nat := 22

/-- `layout_fired`, group 0x07 (09 R340). -/
def ctrLayoutLayoutFired : Nat := 0

/-- `layout_sec_fail`, group 0x07 (09 R340). -/
def ctrLayoutLayoutSecFail : Nat := 1

/-- `tc_corrected`, group 0x08 (10 R376). -/
def ctrTimeTcCorrected : Nat := 0

/-- `tc_followup_lost`, group 0x08 (10 R376). -/
def ctrTimeTcFollowupLost : Nat := 1

/-- `tc_v6_uncorrectable`, group 0x08 (10 R376). -/
def ctrTimeTcV6Uncorrectable : Nat := 2

/-- `active_switches`, group 0x08 (10 R376). -/
def ctrTimeActiveSwitches : Nat := 3

/-- `sync_rx`, group 0x08 (10 R376). -/
def ctrDomSyncRx : Nat := 0

/-- `sync_tx`, group 0x08 (10 R376). -/
def ctrDomSyncTx : Nat := 1

/-- `followup_rx`, group 0x08 (10 R376). -/
def ctrDomFollowupRx : Nat := 2

/-- `announce_rx`, group 0x08 (10 R376). -/
def ctrDomAnnounceRx : Nat := 3

/-- `delay_req_tx`, group 0x08 (10 R376). -/
def ctrDomDelayReqTx : Nat := 4

/-- `pdelay_tx`, group 0x08 (10 R376). -/
def ctrDomPdelayTx : Nat := 5

/-- `samples`, group 0x08 (10 R376). -/
def ctrDomSamples : Nat := 6

/-- `dom_steps`, group 0x08 (10 R376). -/
def ctrDomDomSteps : Nat := 7

/-- `sync_timeouts`, group 0x08 (10 R376). -/
def ctrDomSyncTimeouts : Nat := 8

/-- `announce_timeouts`, group 0x08 (10 R376). -/
def ctrDomAnnounceTimeouts : Nat := 9

/-- `gm_changes`, group 0x08 (10 R376). -/
def ctrDomGmChanges : Nat := 10

/-- `trig_fired`, group 0x08 (10 R376). -/
def ctrTrigTrigFired : Nat := 0

/-- `trig_late`, group 0x08 (10 R376). -/
def ctrTrigTrigLate : Nat := 1

/-- `trig_skipped`, group 0x08 (10 R376). -/
def ctrTrigTrigSkipped : Nat := 2

/-- `trig_dropped`, group 0x08 (10 R376). -/
def ctrTrigTrigDropped : Nat := 3

/-- `captures`, group 0x08 (10 R376). -/
def ctrCapCaptures : Nat := 0

/-- `capture_lost`, group 0x08 (10 R376). -/
def ctrCapCaptureLost : Nat := 1

/-- `ann_started`, group 0x09 (11 R394). -/
def ctrAudAnnStarted : Nat := 0

/-- `ann_late_start`, group 0x09 (11 R394). -/
def ctrAudAnnLateStart : Nat := 1

/-- `lib_underrun`, group 0x09 (11 R394). -/
def ctrAudLibUnderrun : Nat := 2

/-- `tdm_frames`, group 0x09 (11 R394). -/
def ctrTdmTdmFrames : Nat := 0

/-- `tdm_missed`, group 0x09 (11 R394). -/
def ctrTdmTdmMissed : Nat := 1

/-- `aaf_frames`, group 0x09 (11 R394). -/
def ctrAafAafFrames : Nat := 0

/-- `aaf_late`, group 0x09 (11 R394). -/
def ctrAafAafLate : Nat := 1

/-- `aaf_early`, group 0x09 (11 R394). -/
def ctrAafAafEarly : Nat := 2

/-- `aaf_gap`, group 0x09 (11 R394). -/
def ctrAafAafGap : Nat := 3

/-- `aaf_slip`, group 0x09 (11 R394). -/
def ctrAafAafSlip : Nat := 4

/-- `aaf_seq_err`, group 0x09 (11 R394). -/
def ctrAafAafSeqErr : Nat := 5

/-- `aaf_id_mismatch`, group 0x09 (11 R394). -/
def ctrAafAafIdMismatch : Nat := 6

/-- `mix_clip`, group 0x09 (11 R394). -/
def ctrMixMixClip : Nat := 0

/-- `tq_packets`, group 0x0A (12 R425). -/
def ctrTqTqPackets : Nat := 0

/-- `tq_words`, group 0x0A (12 R425). -/
def ctrTqTqWords : Nat := 1

/-- `tq_lost`, group 0x0A (12 R425). -/
def ctrTqTqLost : Nat := 2

/-- `tq_too_long`, group 0x0A (12 R425). -/
def ctrTqTqTooLong : Nat := 3

/-- `tq_flushed`, group 0x0A (12 R425). -/
def ctrTqTqFlushed : Nat := 4

/-- `tq_ecc_corrected`, group 0x0A (12 R425). -/
def ctrTqTqEccCorrected : Nat := 5

/-- `tq_ecc_uncorrected`, group 0x0A (12 R425). -/
def ctrTqTqEccUncorrected : Nat := 6

/-- `tq_open_refused`, group 0x0A (12 R425). -/
def ctrTqTqOpenRefused : Nat := 7

/-- `spec_rewound`, group 0x0A, speculative (12 R425). -/
def ctrTqSpecRewound : Nat := 8

/-- `rx_packets`, group 0x0A (12 R425). -/
def ctrRxRxPackets : Nat := 0

/-- `rx_bytes`, group 0x0A (12 R425). -/
def ctrRxRxBytes : Nat := 1

/-- `rx_starve_drop`, group 0x0A (12 R425). -/
def ctrRxRxStarveDrop : Nat := 2

/-- `rx_abandoned`, group 0x0A (12 R425). -/
def ctrRxRxAbandoned : Nat := 3

/-- `tx_frames`, group 0x0A (12 R425). -/
def ctrTxTxFrames : Nat := 0

/-- `tx_bytes`, group 0x0A (12 R425). -/
def ctrTxTxBytes : Nat := 1

/-- `tx_too_long`, group 0x0A (12 R425). -/
def ctrTxTxTooLong : Nat := 2

/-- `tx_desc_err`, group 0x0A (12 R425). -/
def ctrTxTxDescErr : Nat := 3

/-- `tx_read_err`, group 0x0A (12 R425). -/
def ctrTxTxReadErr : Nat := 4

/-- `jobs`, group 0x0B (13 R462). -/
def ctrCiphJobs : Nat := 0

/-- `bytes_in`, group 0x0B (13 R462). -/
def ctrCiphBytesIn : Nat := 1

/-- `bytes_out`, group 0x0B (13 R462). -/
def ctrCiphBytesOut : Nat := 2

/-- `key_loads`, group 0x0B (13 R462). -/
def ctrCiphKeyLoads : Nat := 3

/-- `tag_fail`, group 0x0B (13 R462). -/
def ctrCiphTagFail : Nat := 4

/-- `lock_idle_releases`, group 0x0B (13 R462). -/
def ctrCiphLockIdleReleases : Nat := 5

/-- `tamper_aborts`, group 0x0B (13 R462). -/
def ctrCiphTamperAborts : Nat := 6

/-- `spec_plain_rewound`, group 0x0B, speculative (13 R462). -/
def ctrCiphSpecPlainRewound : Nat := 7

/-- `key_fail`, group 0x0B (13 R462). -/
def ctrKeyKeyFail : Nat := 0

/-- `parent_revoked_results`, group 0x0B (13 R462). -/
def ctrKeyParentRevokedResults : Nat := 1

/-- `derivations`, group 0x0B (13 R462). -/
def ctrKeyDerivations : Nat := 2

/-- `installs`, group 0x0B (13 R462). -/
def ctrKeyInstalls : Nat := 3

/-- `revocations`, group 0x0B (13 R462). -/
def ctrKeyRevocations : Nat := 4

/-- `exhausted`, group 0x0B (13 R462). -/
def ctrKeyExhausted : Nat := 5

/-- `tamper_alarms`, group 0x0B (13 R462). -/
def ctrKeyTamperAlarms : Nat := 6

/-- `tamper_wipes`, group 0x0B (13 R462). -/
def ctrKeyTamperWipes : Nat := 7

/-- `windows`, group 0x0C (14 R485). -/
def ctrFltWindows : Nat := 0

/-- `window_multi`, group 0x0C (14 R485). -/
def ctrFltWindowMulti : Nat := 1

/-- `unit_restarts`, group 0x0C (14 R485). -/
def ctrFltUnitRestarts : Nat := 2

/-- `island_restarts`, group 0x0C (14 R485). -/
def ctrFltIslandRestarts : Nat := 3

/-- `entries`, group 0x0C (14 R485). -/
def ctrSrcEntries : Nat := 0

/-- `forced_entries`, group 0x0C (14 R485). -/
def ctrSrcForcedEntries : Nat := 1

/-- `broken_entries`, group 0x0C (14 R485). -/
def ctrSrcBrokenEntries : Nat := 2

/-- `recoveries`, group 0x0C (14 R485). -/
def ctrSrcRecoveries : Nat := 3

/-- `latches`, group 0x0C (14 R485). -/
def ctrSrcLatches : Nat := 4

/-- `escalations`, group 0x0C (14 R485). -/
def ctrSrcEscalations : Nat := 5

/-- `glitches_removed`, group 0x0C (14 R485). -/
def ctrPinGlitchesRemoved : Nat := 0

/-- `renewals`, group 0x0D (15 R507). -/
def ctrTwinRenewals : Nat := 0

/-- `lapses`, group 0x0D (15 R507). -/
def ctrTwinLapses : Nat := 1

/-- `claims`, group 0x0D (15 R507). -/
def ctrTwinClaims : Nat := 2

/-- `claims_stale`, group 0x0D (15 R507). -/
def ctrTwinClaimsStale : Nat := 3

/-- `handovers`, group 0x0D (15 R507). -/
def ctrTwinHandovers : Nat := 4

/-- `resyncs`, group 0x0D (15 R507). -/
def ctrTwinResyncs : Nat := 5

/-- `standby_suppressed`, group 0x0D (15 R507). -/
def ctrTwinStandbySuppressed : Nat := 6

/-- `mirror_applied`, group 0x0D (15 R507). -/
def ctrTwinMirrorApplied : Nat := 7

/-- `mirror_stale_events`, group 0x0D (15 R507). -/
def ctrTwinMirrorStaleEvents : Nat := 8

/-- `reports_sent`, group 0x0D (15 R507). -/
def ctrTwinReportsSent : Nat := 9

/-- `reports_lost`, group 0x0D (15 R507). -/
def ctrTwinReportsLost : Nat := 10

/-- `bist_slices`, group 0x0D (15 R507). -/
def ctrTwinBistSlices : Nat := 11

/-- `bist_fails`, group 0x0D (15 R507). -/
def ctrTwinBistFails : Nat := 12

/-- `shadow_match`, group 0x0D (15 R507). -/
def ctrShadowShadowMatch : Nat := 0

/-- `shadow_extra`, group 0x0D (15 R507). -/
def ctrShadowShadowExtra : Nat := 1

/-- `shadow_missing`, group 0x0D (15 R507). -/
def ctrShadowShadowMissing : Nat := 2

/-- `cw_unreachable`, group 0x0E (16 R538). -/
def ctrCwCwUnreachable : Nat := 0

/-- `cw_retries`, group 0x0E (16 R538). -/
def ctrCwCwRetries : Nat := 1

/-- `cw_lock_expired`, group 0x0E (16 R538). -/
def ctrCwCwLockExpired : Nat := 2

/-- `cw_events_fwd`, group 0x0E (16 R538). -/
def ctrCwCwEventsFwd : Nat := 3

/-- `remote_ok`, group 0x0E (16 R538). -/
def ctrCwRemoteOk : Nat := 4

/-- `remote_timeout`, group 0x0E (16 R538). -/
def ctrCwRemoteTimeout : Nat := 5

/-- `cw_foreign`, group 0x0E (16 R538). -/
def ctrCwPortCwForeign : Nat := 0

/-- `cw_bad_header`, group 0x0E (16 R538). -/
def ctrCwPortCwBadHeader : Nat := 1

/-- `cw_bad_target`, group 0x0E (16 R538). -/
def ctrCwPortCwBadTarget : Nat := 2

/-- `cw_too_long`, group 0x0E (16 R538). -/
def ctrCwPortCwTooLong : Nat := 3

/-- `cw_hops_expired`, group 0x0E (16 R538). -/
def ctrCwPortCwHopsExpired : Nat := 4

/-- `cw_rpf_drop`, group 0x0E (16 R538). -/
def ctrCwPortCwRpfDrop : Nat := 5

/-- `cw_aged`, group 0x0E (16 R538). -/
def ctrCwPortCwAged : Nat := 6

/-- `cw_replay`, group 0x0E (16 R538). -/
def ctrCwPortCwReplay : Nat := 7

/-- `cw_enc_mismatch`, group 0x0E (16 R538). -/
def ctrCwPortCwEncMismatch : Nat := 8

/-- `cw_enc_wait`, group 0x0E (16 R538). -/
def ctrCwPortCwEncWait : Nat := 9

/-- `cw_transit`, group 0x0E (16 R538). -/
def ctrCwPortCwTransit : Nat := 10

/-- `laps_started`, group 0x0F (17 R566). -/
def ctrSlpLapsStarted : Nat := 0

/-- `laps_full`, group 0x0F (17 R566). -/
def ctrSlpLapsFull : Nat := 1

/-- `laps_refused`, group 0x0F (17 R566). -/
def ctrSlpLapsRefused : Nat := 2

/-- `laps_timeout`, group 0x0F (17 R566). -/
def ctrSlpLapsTimeout : Nat := 3

/-- `cancels`, group 0x0F (17 R566). -/
def ctrSlpCancels : Nat := 4

/-- `cancel_late`, group 0x0F (17 R566). -/
def ctrSlpCancelLate : Nat := 5

/-- `sleeps`, group 0x0F (17 R566). -/
def ctrSlpSleeps : Nat := 6

/-- `latched_wakes`, group 0x0F (17 R566). -/
def ctrSlpLatchedWakes : Nat := 7

/-- `wake_coincident`, group 0x0F (17 R566). -/
def ctrSlpWakeCoincident : Nat := 8

/-- `sleep_discarded`, group 0x0F (17 R566). -/
def ctrSlpSleepDiscarded : Nat := 9

/-- `wakes`, group 0x0F (17 R566). -/
def ctrWakeWakes : Nat := 0

/-- `false_wakes`, group 0x0F (17 R566). -/
def ctrWakeFalseWakes : Nat := 1

/-- `bus_laps`, group 0x0F (17 R566). -/
def ctrRingBusLaps : Nat := 0

/-- `nodes_absent`, group 0x0F (17 R566). -/
def ctrRingNodesAbsent : Nat := 1

/-- `wake_frame_errors`, group 0x0F (17 R566). -/
def ctrRingWakeFrameErrors : Nat := 2

/-- `boots`, group 0x10 (18 R594). -/
def ctrBootBoots : Nat := 0

/-- `seals`, group 0x10 (18 R594). -/
def ctrBootSeals : Nat := 1

/-- `installs`, group 0x10 (18 R594). -/
def ctrBootInstalls : Nat := 2

/-- `swaps_resumed`, group 0x10 (18 R594). -/
def ctrBootSwapsResumed : Nat := 3

/-- `fallbacks`, group 0x10 (18 R594). -/
def ctrBootFallbacks : Nat := 4

/-- `check_fail`, group 0x10 (18 R594). -/
def ctrBootCheckFail : Nat := 5

/-- `settings_invalid`, group 0x10 (18 R594). -/
def ctrBootSettingsInvalid : Nat := 6

/-- `chain_swapbacks`, group 0x10 (18 R594). -/
def ctrBootChainSwapbacks : Nat := 7

/-- `brownouts`, group 0x10 (18 R594). -/
def ctrBootBrownouts : Nat := 8

/-- `pwr_retries`, group 0x10 (18 R594). -/
def ctrBootPwrRetries : Nat := 9

/-- A range of functions with the same counters: group, first function, number of functions,
committed counters, all counters. -/
structure CtrScope where
  /-- Group 0x01 to 0x10. -/
  group : Nat
  /-- First function number. -/
  base : Nat
  /-- Number of functions. -/
  fns : Nat
  /-- Committed counters of each function. -/
  committed : Nat
  /-- Counters of each function, the speculative ones last. -/
  total : Nat
  deriving DecidableEq, Repr

/-- Every scope, in ascending group and function (R101). -/
def ctrScopes : List CtrScope :=
  [⟨1, 0x0, 1, 10, 10⟩,
   ⟨2, 0x0, 24, 28, 31⟩,
   ⟨3, 0x0, 32, 24, 25⟩,
   ⟨4, 0x0, 1, 17, 17⟩,
   ⟨4, 0x10000, 65536, 1, 1⟩,
   ⟨4, 0x20000, 1024, 6, 6⟩,
   ⟨5, 0x0, 1, 24, 32⟩,
   ⟨5, 0x10000, 4096, 3, 3⟩,
   ⟨5, 0x20000, 24, 3, 3⟩,
   ⟨5, 0x30000, 4096, 3, 3⟩,
   ⟨6, 0x0, 4, 5, 5⟩,
   ⟨6, 0x10000, 24, 37, 37⟩,
   ⟨6, 0x20000, 1, 1, 1⟩,
   ⟨7, 0x0, 1, 21, 23⟩,
   ⟨7, 0x10000, 16384, 2, 2⟩,
   ⟨8, 0x0, 1, 4, 4⟩,
   ⟨8, 0x10000, 2, 11, 11⟩,
   ⟨8, 0x20000, 32, 4, 4⟩,
   ⟨8, 0x30000, 8, 2, 2⟩,
   ⟨9, 0x0, 1, 3, 3⟩] ++
  [⟨9, 0x10000, 8, 2, 2⟩,
   ⟨9, 0x20000, 128, 7, 7⟩,
   ⟨9, 0x30000, 256, 1, 1⟩,
   ⟨10, 0x0, 64, 8, 9⟩,
   ⟨10, 0x10000, 32, 4, 4⟩,
   ⟨10, 0x10020, 16, 5, 5⟩,
   ⟨11, 0x0, 8, 7, 8⟩,
   ⟨11, 0x10000, 1, 8, 8⟩,
   ⟨12, 0x0, 1, 4, 4⟩,
   ⟨12, 0x10000, 256, 6, 6⟩,
   ⟨12, 0x20000, 10, 1, 1⟩,
   ⟨13, 0x0, 1, 13, 13⟩,
   ⟨13, 0x10000, 32, 3, 3⟩,
   ⟨14, 0x0, 1, 6, 6⟩,
   ⟨14, 0x10000, 4, 11, 11⟩,
   ⟨15, 0x0, 1, 10, 10⟩,
   ⟨15, 0x10001, 11, 2, 2⟩,
   ⟨15, 0x20000, 32, 3, 3⟩,
   ⟨16, 0x0, 1, 10, 10⟩]

end Sys2Proof.Machine
end

