-- ==== Sys2Proof/Machine/Mailbox.lean ====
section
/-! DEFINITION. The mailbox unit: envelopes, the command index, completion, and the frame that every
mailbox command runs in (R82 to R100, R568, R570, R620). -/

namespace Sys2Proof.Machine

open Sys2Proof

/-! Status codes of R85. -/

/-- `OK`. -/
def stOk : Nat := 0
/-- `DEFERRED`. -/
def stDeferred : Nat := 1
/-- `BUSY`. -/
def stBusy : Nat := 2
/-- `INVALID`. -/
def stInvalid : Nat := 3
/-- `NO_SPACE`. -/
def stNoSpace : Nat := 4
/-- `DENIED`. -/
def stDenied : Nat := 5
/-- `PARTIAL`. -/
def stPartial : Nat := 6
/-- `ABORTED`. -/
def stAborted : Nat := 7
/-- `TIMEOUT`. -/
def stTimeout : Nat := 8
/-- `FAULT`. -/
def stFault : Nat := 9

/-- What a command answers: status, `DETAIL`, the `RFLAGS` bits beside `INTERIM`, response payload (R84). -/
structure Reply where
  /-- Status code of R85. -/
  status : Nat := 0
  /-- `DETAIL`. -/
  detail : Nat := 0
  /-- `RFLAGS` bits 1 to 3. -/
  rflags : Nat := 0
  /-- Response payload. -/
  payload : List Byte := []
  deriving DecidableEq, Repr

/-- `OK` with a response payload. -/
def Reply.ok (payload : List Byte := []) (detail : Nat := 0) : Reply :=
  { payload := payload, detail := detail }

/-- `INVALID` with the offset of the first offending field (R84). -/
def Reply.invalid (off : Nat) : Reply := { status := stInvalid, detail := off }

/-- `DENIED`. -/
def Reply.denied (detail : Nat := 0) : Reply := { status := stDenied, detail := detail }

/-- `NO_SPACE`. -/
def Reply.noSpace (detail : Nat := 0) : Reply := { status := stNoSpace, detail := detail }

/-- `BUSY`. -/
def Reply.busy : Reply := { status := stBusy }

/-- `FAULT` with the fault source number (R84). -/
def Reply.fault (src : Nat) : Reply := { status := stFault, detail := src }

/-- A check of a request: its failing answer, or none where it passes. -/
abbrev Check := Option Reply

/-- The first failing check decides (R620). -/
def firstFail : List Check → Check
  | [] => none
  | some r :: _ => some r
  | none :: l => firstFail l

/-- A field check: `INVALID` with the field's offset unless the condition holds. -/
def need (ok : Bool) (off : Nat) : Check := if ok then none else some (.invalid off)

/-- A capacity check: `NO_SPACE` unless the condition holds (R31). -/
def needRoom (ok : Bool) : Check := if ok then none else some .noSpace

/-- A condition whose failure completes with `DENIED`. -/
def needLeave (ok : Bool) (detail : Nat := 0) : Check := if ok then none else some (.denied detail)

/-- A field lies within a range (R5). -/
def inRange (v lo hi : Nat) : Bool := decide (lo ≤ v) && decide (v ≤ hi)

/-- A little-endian field within a range. -/
def needField (p : List Byte) (off n lo hi : Nat) : Check := need (inRange (le p off n) lo hi) off

/-- A reserved field of `n` bytes is 0; its offset is reported (R84, R620). -/
def needZeros (p : List Byte) (off n : Nat) : Check := need (zeros p off n) off

/-- The payload has a length that the layout takes; a failing length is reported at the envelope's
`LENGTH` (R620 step 3, log entry 8). -/
def needLen (ok : Bool) : Check := if ok then none else some (.invalid 0x80000003)

/-! The command index. -/

/-- A row of the command index: code, longest time in ns, its part per causeway hop (R98, R99). -/
structure CmdRow where
  /-- Group and operation. -/
  code : Nat
  /-- Longest time in ns without hops. -/
  ns : Nat
  /-- Longest time per hop in ns. -/
  hopNs : Nat
  deriving DecidableEq, Repr

/-- The command index of R98 and R99, groups 0x01 to 0x06. -/
def cmdIndexLow : List CmdRow := [
  ⟨0x0101, 100000, 0⟩,
  ⟨0x0102, 100000, 0⟩,
  ⟨0x0103, 20000000, 0⟩,
  ⟨0x0104, 2000000, 0⟩,
  ⟨0x0105, 2000000, 0⟩,
  ⟨0x0106, 200000000, 0⟩,
  ⟨0x0107, 1000000, 0⟩,
  ⟨0x0201, 10000000, 0⟩,
  ⟨0x0202, 50000000, 0⟩,
  ⟨0x0203, 10000000, 0⟩,
  ⟨0x0204, 100000, 0⟩,
  ⟨0x0205, 1000000, 0⟩,
  ⟨0x0206, 2000000, 0⟩,
  ⟨0x0207, 1000000, 0⟩,
  ⟨0x0301, 10000000, 0⟩,
  ⟨0x0302, 5000000, 0⟩,
  ⟨0x0303, 10000000, 0⟩,
  ⟨0x0304, 5000000, 0⟩,
  ⟨0x0305, 1000000, 0⟩,
  ⟨0x0306, 1000000, 0⟩,
  ⟨0x0307, 100000, 0⟩,
  ⟨0x0401, 100000000, 0⟩,
  ⟨0x0402, 10000000, 0⟩,
  ⟨0x0403, 50000000, 0⟩,
  ⟨0x0404, 50000000, 0⟩,
  ⟨0x0405, 100000, 0⟩,
  ⟨0x0406, 1000000, 0⟩,
  ⟨0x0501, 2000000, 0⟩,
  ⟨0x0502, 2000000, 0⟩,
  ⟨0x0503, 1000000, 0⟩,
  ⟨0x0504, 10000000, 0⟩,
  ⟨0x0505, 2000000, 0⟩,
  ⟨0x0506, 1000000, 0⟩,
  ⟨0x0601, 5000000, 0⟩,
  ⟨0x0602, 1000000, 0⟩,
  ⟨0x0603, 1000000, 0⟩,
  ⟨0x0604, 1000000, 0⟩,
  ⟨0x0605, 100000, 0⟩]

/-- The command index, groups 0x07 to 0x0B. -/
def cmdIndexMid : List CmdRow := [
  ⟨0x0701, 200000000, 0⟩,
  ⟨0x0702, 100000000, 0⟩,
  ⟨0x0703, 1000000, 0⟩,
  ⟨0x0704, 1000000, 0⟩,
  ⟨0x0705, 1000000, 0⟩,
  ⟨0x0706, 100000, 0⟩,
  ⟨0x0801, 5000000, 0⟩,
  ⟨0x0802, 1000000, 0⟩,
  ⟨0x0803, 1000000, 0⟩,
  ⟨0x0804, 1000000, 0⟩,
  ⟨0x0805, 100000, 0⟩,
  ⟨0x0806, 100000, 0⟩,
  ⟨0x0901, 5000000, 0⟩,
  ⟨0x0902, 5000000, 0⟩,
  ⟨0x0903, 2000000, 0⟩,
  ⟨0x0904, 2000000, 0⟩,
  ⟨0x0905, 2000000, 0⟩,
  ⟨0x0906, 2000000, 0⟩,
  ⟨0x0907, 500000000, 0⟩,
  ⟨0x0A01, 2000000, 0⟩,
  ⟨0x0A02, 2000000, 0⟩,
  ⟨0x0A03, 2000000, 0⟩,
  ⟨0x0A04, 1000000, 0⟩,
  ⟨0x0A05, 5000000, 0⟩,
  ⟨0x0B01, 2000000, 0⟩,
  ⟨0x0B02, 2000000, 0⟩,
  ⟨0x0B03, 1000000, 0⟩,
  ⟨0x0B04, 100000, 0⟩,
  ⟨0x0B05, 500000000, 0⟩,
  ⟨0x0B06, 1000000, 0⟩]

/-- The command index, groups 0x0C to 0x10. -/
def cmdIndexHigh : List CmdRow := [
  ⟨0x0C01, 1000000, 0⟩,
  ⟨0x0C02, 1000000, 0⟩,
  ⟨0x0C03, 100000, 0⟩,
  ⟨0x0C04, 1000000, 0⟩,
  ⟨0x0D01, 5000000, 0⟩,
  ⟨0x0D02, 50000000, 0⟩,
  ⟨0x0D03, 10000000, 0⟩,
  ⟨0x0D04, 120000000, 0⟩,
  ⟨0x0D05, 100000, 0⟩,
  ⟨0x0E01, 10000000, 0⟩,
  ⟨0x0E02, 10000000, 0⟩,
  ⟨0x0E03, 6000000, 100000⟩,
  ⟨0x0E04, 6000000, 100000⟩,
  ⟨0x0E05, 6000000, 100000⟩,
  ⟨0x0E06, 6000000, 100000⟩,
  ⟨0x0F01, 2000000, 0⟩,
  ⟨0x0F02, 2000000, 0⟩,
  ⟨0x0F03, 5000000, 0⟩,
  ⟨0x0F04, 100000, 0⟩,
  ⟨0x1001, 50000000, 0⟩,
  ⟨0x1002, 200000000, 0⟩,
  ⟨0x1003, 2000000000, 0⟩,
  ⟨0x1004, 10000000, 1000000⟩,
  ⟨0x1005, 50000000, 1000000⟩,
  ⟨0x1006, 10000000, 1000000⟩,
  ⟨0x1007, 100000, 0⟩]

/-- The row of a code. -/
def cmdRow (code : Nat) : Option CmdRow :=
  (cmdIndexLow ++ cmdIndexMid ++ cmdIndexHigh).find? fun r => r.code == code

/-- The functions that a request addresses (R90); none where the payload is too short to name one. -/
def reqFuncs (r : Req) : List Func :=
  let b0 := le r.payload 0 1
  let g := r.code / 256
  let o := r.code % 256
  if g = 1 then [.device]
  else if g = 2 then (if r.len = 0 then [] else [.port b0])
  else if g = 3 then (if r.len = 0 then [] else [.bus b0])
  else if g = 4 then [.parser]
  else if g = 5 then
    (if o = 1 || o = 2 then [.lpm] else if o = 3 || o = 4 then [.l2]
     else if r.len = 0 then [] else if b0 ≤ 2 then [.lpm] else if b0 = 3 then [.l2]
     else if b0 ≤ 7 then [.direct b0] else [])
  else if g = 6 then
    (if o = 1 || o = 2 then [.switchCore] else if r.len = 0 then []
     else if o = 3 then (if b0 < 24 then [.port b0] else if 32 ≤ b0 && b0 < 64 then [.bus (b0 - 32)]
       else if 64 ≤ b0 && b0 < 80 then [.ringSource (b0 - 64)] else [])
     else if o = 4 then [.port b0] else if b0 < 24 then [.port b0] else [.switchCore])
  else if g = 7 then [.signal]
  else if g = 8 then
    (if o = 6 then [.domain 0, .domain 1] else if r.len = 0 then []
     else if o = 1 then (if b0 < 2 then [.domain b0] else if b0 = 0x80 then [.latencies]
       else if b0 = 0x81 then [.capPins] else [])
     else if o = 2 then (if b0 < 2 then [.domain b0] else if b0 = 0xFF then [.domain 0, .domain 1] else [])
     else if o = 3 then (if b0 = 0xFF then (List.range 32).map .timeTrig else if b0 < 32 then [.timeTrig b0] else [])
     else if o = 4 then (if b0 < 32 then [.timeTrig b0] else [])
     else [.capPins])
  else if g = 9 then (if o = 1 && r.len ≠ 0 && b0 < 8 then [.tdm b0, .audio] else [.audio])
  else if g = 10 then (if r.len = 0 then [] else if o ≤ 2 then [.tideQ b0] else [.ring b0])
  else if g = 11 then (if o = 6 then [.tamper] else [.keyStore])
  else if g = 12 then [.collector]
  else if g = 13 then [.twinRole]
  else if g = 14 then
    (if o ≤ 3 then [.causeway] else if r.len < 2 then [] else [.remote b0])
  else if g = 15 then [.sleepMgr]
  else if g = 16 then [.update]
  else []

/-- The command is an enable of its function: `eth.enable`, `bus.enable`, `dma.ring.enable`, `twin.enable`. -/
def isEnable (code : Nat) : Bool := code == 0x0202 || code == 0x0302 || code == 0x0A04 || code == 0x0D02

/-- The command is a disable of its function. -/
def isDisable (code : Nat) : Bool := code == 0x0203 || code == 0x0303 || code == 0x0A05 || code == 0x0D03

/-- A mailbox holds an outstanding command: accepted and without its final response. -/
def Mbx.outstanding (b : Mbx) : Bool := b.mstate == 1 || b.mstate == 2 || b.mstate == 3 || b.mstate == 5

/-- The command of mailbox `k` was accepted before that of mailbox `m`; of two accepted at the same instant the lower
mailbox goes first, unless the other already runs (R90). -/
def Mbx.goesBefore (b : Mbx) (k : Nat) (c : Mbx) (m : Nat) : Bool :=
  if b.acceptedAt = c.acceptedAt && !b.running && !c.running && !b.prepared && !c.prepared then decide (k < m) else decide (b.order < c.order)

/-- The outstanding mailboxes accepted before mailbox `m` that share a function with a request (R90). -/
def State.ahead (s : State) (m : Nat) (r : Req) : List Nat :=
  (List.range 8).filter fun k =>
    let b := s.mb k
    k != m && b.outstanding && b.goesBefore k (s.mb m) m &&
      (match b.req with
       | some q => (reqFuncs q).any fun f => (reqFuncs r).contains f
       | none => false)

/-! Responses. -/

/-- The 16 bytes of a response envelope (R84). -/
def respBytes (tag code : Nat) (r : Reply) (interim : Bool) : List Byte :=
  let h := leBytes 1 tag ++ leBytes 2 code ++ leBytes 2 r.payload.length ++ leBytes 1 r.status ++
    leBytes 1 (r.rflags + flag interim) ++ leBytes 4 r.detail ++ [0]
  h ++ leBytes 4 (crc32 (h ++ r.payload))

/-- Tag and code of the command a mailbox holds. -/
def Mbx.tagCode (b : Mbx) : Nat × Nat :=
  match b.req with
  | some r => (r.tag, r.code)
  | none => (b.tag, 0)

/-- `QUIET` of the command a mailbox holds (R83). -/
def Mbx.quiet (b : Mbx) : Bool :=
  match b.req with
  | some r => bit r.flags 0
  | none => false

/-- The peer of a widened pair answers a forwarded command to the master: mailbox, envelope, payload (R516). The
body is the model's own (log entry 15). -/
def State.peerAnswer (s : State) (m : Nat) (env payload : List Byte) : State :=
  s.cwTo s.cw.master 3 (leBytes 1 8 ++ leBytes 1 m ++ env ++ payload)

/-- An interim response: `MBX_RESP`, `MSTATE` 2, `INTERIM`, EV(8 + n) (R86 step 5). The spec states no
`DETAIL` of the event, so it is a free value (log entry 3). -/
def State.interim (s : State) (m : Nat) (r : Reply) : State :=
  let b := s.mb m
  if s.cw.peerIn.contains m then
    (s.modMb m fun _ => { b with mstate := 2 }).peerAnswer m (respBytes b.tagCode.1 b.tagCode.2 r true) []
  else
  let (x, s) := s.draw
  (s.modMb m fun _ => { b with
    resp := respBytes b.tagCode.1 b.tagCode.2 r true, interim := true, mstate := 2, setAt := b.setAt.set 1 s.now }).raise (8 + m) m noUnit x

/-- The 100 ms after which an activation with `REBOOT` resets this device count from the completion of
`update.activate` (R577). -/
def State.rebootClock (s : State) (q : Option Req) : State :=
  if (q.map fun q => q.code) = some 0x1004 then
    s.modBoot fun b => { b with rebootAt := b.rebootAt.map fun _ => s.now + 100000000 }
  else s

/-- The final response (R86 step 6): payload into the window, `MBX_RESP`, `MSTATE` 4, `DONE`, EVn unless
`QUIET`; an enable that was deferred and completes with `OK` raises EV017 (R90). The spec states no `DETAIL`
of these events, so each is a free value (log entry 3). -/
def State.complete (s : State) (m : Nat) (r : Reply) : State :=
  let b := s.mb m
  let s := if b.committed then s.rebootClock b.req else s
  let funcs := match b.req with
    | some q => reqFuncs q
    | none => []
  if s.cw.peerIn.contains m then
    let s := s.modMb m fun _ => { b with
      mstate := 0, running := false, deferred := false, committed := false, prepared := false, waiting := [], abortAt := none
      stopping := false, req := none, aux := [] }
    (s.peerAnswer m (respBytes b.tagCode.1 b.tagCode.2 r false) r.payload).modCw fun c => { c with
      peerIn := c.peerIn.filter (· != m) }
  else
  let s := s.setWindow (4096 * m) r.payload
  let s := s.modMb m fun _ => { b with
    resp := respBytes b.tagCode.1 b.tagCode.2 r false, done := true, mstate := 4, setAt := b.setAt.set 0 s.now, running := false,
    deferred := false, committed := false, prepared := false, waiting := [], abortAt := none, stopping := false, req := none, aux := [] }
  let s := if b.quiet then s else
    let (x, s) := s.draw
    s.raise m m noUnit x
  if b.deferred && r.status == stOk then
    let (x, s) := s.draw
    s.raise 17 m (match funcs.flatMap Func.owners with
      | u :: _ => u.code
      | [] => noUnit) x
  else s

/-! Checks before a command runs. -/

/-- The envelope checks of R620 step 1 on the 16 bytes of `MBX_CMD` and the payload they name. -/
def envelopeCheck (cmd : List Byte) (payload : List Byte) : Check :=
  firstFail [
    need (decide (le cmd 3 2 ≤ 4096)) 0x80000003,
    need (le cmd 12 4 == crc32 (fitBytes 12 cmd ++ payload)) 0x8000000C,
    need (cmdRow (le cmd 1 2)).isSome 0x80000001,
    need (decide (le cmd 5 2 < 4)) 0x80000005,
    need (zeros cmd 7 5) 0x80000007]

/-- An enable is deferred behind a disable of its function (R90). -/
def State.deferCommand (s : State) (m : Nat) : State :=
  (s.modMb m fun b => { b with deferred := true }).interim m { status := stDeferred }

/-- A command whose function is taken waits behind the commands ahead of it; an enable behind a disable in progress is
deferred (R90). -/
def State.waitBehind (s : State) (m : Nat) (r : Req) : State :=
  let a := s.ahead m r
  if a.isEmpty then s
  else if isEnable r.code && a.any fun k => !((s.mb k).mstate == 5) && (match (s.mb k).req with
      | some q => isDisable q.code
      | none => false) then s.deferCommand m
  else s.modMb m fun b => { b with mstate := 5 }

/-- A command that was accepted takes its place: it waits behind those ahead of it, and those accepted at the same instant
by a higher mailbox that have not begun wait behind it (R90). -/
def State.queueJudge (s : State) (m : Nat) (r : Req) : State :=
  (List.range 8).foldl (fun s k =>
    let b := s.mb k
    if decide (m < k) && b.mstate == 1 && b.acceptedAt == (s.mb m).acceptedAt then
      match b.req with
      | some q => s.waitBehind k q
      | none => s
    else s) (s.waitBehind m r)

/-- Firmware checks the envelope of a command that was accepted; then the command starts or waits (R86 step 4, R90). -/
def State.envelopeJudge (s : State) (m : Nat) : State :=
  match (s.mb m).req with
  | none => s
  | some r =>
    if (s.mb m).mstate != 1 || (s.mb m).running then s
    else match envelopeCheck (s.mb m).cmd r.payload with
      | some x => s.complete m x
      | none => s.queueJudge m r

/-- Firmware has started and takes up a command that waited for it (R568). -/
def State.firmwareTakes (s : State) (m : Nat) : State :=
  (s.modMb m fun b => { b with startedAt := s.now }).envelopeJudge m

/-- A unit that a function needs is not in service: held off, restarting, or held by a latch (R15, R85). -/
def State.unitCheck (s : State) (u : UnitId) : Check :=
  let i := s.isl u.island
  let w := s.unitSt u.island u.unit
  if i.hold then some .denied
  else match i.latchedBy, w.latchedBy with
    | some f, _ => some (.fault f)
    | none, some f => some (.fault f)
    | none, none =>
      if i.restarting || w.restarting || i.power != .on then some .busy else none

/-- What the device state as a whole allows: start-up, SEALED, safe state (R568, R570, R85). -/
def State.stateCheck (s : State) (code : Nat) : Check :=
  let always := code / 256 == 1 || code == 0x1007
  if s.boot.state = 4 || s.boot.state = 5 then some .busy
  else if always then none
  else if s.boot.state = 0 then some .busy
  else if s.boot.state = 2 then some .denied
  else none

/-- The function check of R620 step 2. -/
def State.functionCheck (s : State) (r : Req) : Check :=
  firstFail (s.stateCheck r.code ::
    ((reqFuncs r).flatMap fun f => f.owners.map fun u => s.unitCheck u))

/-- The frame of a mailbox command: it runs only while its mailbox executes a request of its code and
firmware runs; the function check comes before it (R86 step 4, R620). -/
def State.command (s : State) (t m code : Nat) (run : State → Req → State) : State :=
  let s := s.tick t
  match (s.mb m).req with
  | none => s
  | some r =>
    if (s.mb m).mstate == 1 && !(s.mb m).running && r.code == code && s.fwUp then
      match s.functionCheck r with
      | some x => s.complete m x
      | none => run s r
    else s

/-- A command that is checked and then takes effect and answers at once. -/
def State.simple (s : State) (t m code : Nat) (check : State → List Byte → Check)
    (effect : State → List Byte → State × Reply) : State :=
  s.command t m code fun s r =>
    match check s r.payload with
    | some x => s.complete m x
    | none =>
      let (s, x) := effect s r.payload
      s.complete m x

/-- A command that only reads. -/
def State.query (s : State) (t m code : Nat) (check : State → List Byte → Check)
    (answer : State → List Byte → Reply) : State :=
  s.simple t m code check fun s p => (s, answer s p)

/-- A command that is checked, starts its effect and is completed by a later event. -/
def State.begins (s : State) (t m code : Nat) (check : State → List Byte → Check)
    (start : State → List Byte → State) : State :=
  s.command t m code fun s r =>
    match check s r.payload with
    | some x => s.complete m x
    | none => start (s.modMb m fun b => { b with running := true }) r.payload

/-! Two-phase commands (R92). -/

/-- A two-phase command waits for its commit point. -/
def State.prepares (s : State) (m : Nat) : State := s.modMb m fun b => { b with prepared := true }

/-! Two-phase commands after their commit point (R92, R93, R97). -/

/-- An entry of the list of R93; `own` is this device's ID. -/
def UnitResult.bytes (own : Nat) (u : UnitResult) : List Byte :=
  leBytes 1 (u.dev.getD own) ++ leBytes 1 u.island ++ leBytes 1 u.unit ++ leBytes 1 (if u.faulted then stFault else stOk) ++
    leBytes 2 u.fs ++ leBytes 2 0

/-- A committed command ends when every unit has switched or is back (R93, R97); `payload` is its response where all have
switched. -/
def State.commitEnd (s : State) (m : Nat) (payload : List Byte := []) : State :=
  let b := s.mb m
  if b.mstate == 2 || b.waiting.any (·.faulted) then
    s.complete m { status := stPartial
                   payload := leBytes 2 b.waiting.length ++ leBytes 2 0 ++ b.waiting.flatMap (UnitResult.bytes s.cw.id) }
  else s.complete m (.ok payload)

/-- A committed command waits for units, given as island * 64 + unit, that have not switched or are not back. -/
def State.commitWaits (s : State) (m : Nat) (units : List UnitResult) (pending : List Nat) : State :=
  s.modMb m fun b => { b with
    running := true, committed := true, aux := pending
    waiting := units }

/-- A committed update command still waits for the answers of other members (R577, R589, R590). -/
def State.relayOpen (s : State) (m : Nat) : Bool :=
  (match (s.mb m).req with
    | some r => r.code / 256 == 16
    | none => false) && !s.boot.relayWait.isEmpty

/-- Units have returned to service: committed commands that waited for nothing else end. -/
def State.commitReturn (s : State) (hit : Nat → Bool) : State :=
  (List.range 8).foldl (fun s m =>
    let b := s.mb m
    if b.running && b.committed && b.aux.any hit then
      let left := b.aux.filter fun k => !hit k
      let s := s.modMb m fun b => { b with aux := left }
      if left.isEmpty && b.mstate != 3 && !s.relayOpen m then s.commitEnd m else s
    else s) s

/-- Units that a committed command involves are restarted by a source (R93). -/
def State.commitFault (s : State) (m : Nat) (hit : UnitId → Bool) (cause : Nat) : State :=
  s.modMb m fun b =>
    let here (u : UnitResult) : Bool := u.dev.isNone && hit ⟨u.island, u.unit⟩
    let new := (b.waiting.filter here).map fun u => u.island * 64 + u.unit
    { b with
      aux := (b.aux ++ new).dedup
      waiting := b.waiting.map fun u =>
        if here u then { u with faulted := true, fs := if cause = 0xFF then 0xFFFF else cause } else u }

/-- The mailboxes that run a command of a code and satisfy a test on its payload. A command under abort runs no more: it
ends with `ABORTED` (R95, R96). -/
def State.runningOf (s : State) (code : Nat) (p : List Byte → Bool) : List Nat :=
  (List.range 8).filter fun m =>
    (s.mb m).running && (s.mb m).mstate != 3 && (match (s.mb m).req with
      | some r => r.code == code && p r.payload
      | none => false)

/-- Complete every running command of a code that satisfies a test on its payload. -/
def State.completeOf (s : State) (code : Nat) (p : List Byte → Bool) (r : Reply) : State :=
  (s.runningOf code p).foldl (fun s m => s.complete m r) s

/-- A port or controller has stopped: the aborts that waited for that are answered (R94, R95 step 3). -/
def State.abortedOf (s : State) (f : Func) : State :=
  (List.range 8).foldl (fun s m =>
    if (s.mb m).stopping && (s.mb m).mstate == 3 && (match (s.mb m).req with
        | some r => (reqFuncs r).contains f
        | none => false) then s.complete m { status := stAborted }
    else s) s

end Sys2Proof.Machine
end

