-- ==== Sys2Proof/Machine/Buffer.lean ====
section
/-! DEFINITION. Buffer management of the switch core: cells and pools, PAUSE generation, references,
the deep transmit queues and hardware buffers of the bus controllers, admission, push-out, ageing
(R111 to R115, R163 to R165, R257 to R274). -/

namespace Sys2Proof.Machine

open Sys2Proof

/-! Roles (R486). -/

/-- The role owns the shared outputs (R486). -/
def Role.holder (r : Role) : Bool := r == .solo || r == .active

/-! Port modes and rates (R149, R151). -/

/-- Nominal line rate of a port in kb/s: a stepped-down transmit side runs at a quarter (R151, R180). -/
def Eth.txKbps (x : Eth) : Nat := (if x.step.stepped then 2500 else x.rateMb) * 1000

/-- Receive rate in kb/s (R180). -/
def Eth.rxKbps (x : Eth) : Nat := (if x.step.rxStepped then 2500 else x.rateMb) * 1000

/-- Nanoseconds that a number of bits take at a rate in kb/s; no time where the rate is 0. -/
def bitNs (n kbps : Nat) : Nat := if kbps = 0 then 0 else n * 1000000 / kbps

/-- Cells of a stored frame of `n` bytes (R257). -/
def cellsOf (n : Nat) : Nat := (n + 32 + 255) / 256

/-- Cells of a pool: 64 KiB are 256 cells (R257, R288). -/
def Pool.total (p : Pool) : Nat := p.size * 256

/-- Room of a pool, negative above its size (R266). -/
def Pool.room (p : Pool) : Int := (p.total : Int) - p.used

/-- Free space of a pool (R259). -/
def Pool.free (p : Pool) : Nat := p.total - p.used

/-- Judge `POOL_LOW` of a pool (R259). The event concerns the switch core. -/
def State.poolJudge (s : State) (p : Nat) : State :=
  let x := s.pool p
  if !x.lowRaised && decide (x.free * 100 < x.lowFree * x.total) then
    (s.modPool p fun x => { x with lowRaised := true }).raiseOf 67 ⟨2, 9⟩ (p + x.free * 256)
  else if x.lowRaised && decide (min (2 * x.lowFree) 100 * x.total ≤ x.free * 100) then
    s.modPool p fun x => { x with lowRaised := false }
  else s

/-- Cells that frames of an ingress hold in all pools (R259). -/
def State.shareCells (s : State) (src : Nat) : Nat :=
  s.sw.frames.cells.foldl (fun a c => if c.2.src = src then a + c.2.cells else a) 0

/-- The PAUSE frame of a port without FCS (R163). -/
def pauseFrame (mac : List Byte) (quanta : Nat) : List Byte :=
  [0x01, 0x80, 0xC2, 0x00, 0x00, 0x01] ++ fitBytes 6 mac ++ [0x88, 0x08, 0x00, 0x01] ++ beBytes 2 quanta ++
    List.replicate 42 0

/-- The PAUSE that waits at a port starts, unless a transmission is in progress; a port that may send none any more
drops it (R153, R163, R165). It counts among the frames sent (R192). -/
def State.pauseSend (s : State) (p : Nat) : State :=
  let x := s.port p
  match x.pz.pauseWant with
  | none => s
  | some q =>
    if !x.cfg.pauseTxEn || x.half then s.modPort p fun x => { x with pz := { x.pz with pauseWant := none } }
    else if x.tx.isSome || !x.linkUp || !x.enabled || x.disabling || s.lightsOut then s
    else
      let s := s.modPort p fun x => { x with pz := { x.pz with
        pauseWant := none, pauseFresh := false, pauseSentAt := s.now,
        pauseSentNs := bitNs (q * 512) x.txKbps } }
      let f := pauseFrame x.cfg.mac q
      let s := (s.send (.pause p q (f ++ fcsBytes f))).count 2 p (if q = 0 then ctrEthTxPauseZero else ctrEthTxPause)
      let s := (s.count 2 p ctrEthTxOk).count 2 p ctrEthTxOctets 64
      if x.pz.pauseFresh then s.raiseOf 51 (portUnit p) p else s

/-- Judge the ingress share of a port against its watermarks (R164, R165). -/
def State.pauseJudge (s : State) (p : Nat) : State :=
  let x := s.port p
  let share := s.shareCells p * 256
  if !x.pz.pauseHigh && decide (x.pz.highWm * 1024 ≤ share) then
    (s.modPort p fun x => { x with pz := { x.pz with
      pauseHigh := true
      pauseWant := if x.cfg.pauseTxEn && !x.half then some x.pz.quanta else none
      pauseFresh := true } }).pauseSend p
  else if x.pz.pauseHigh && decide (share < x.pz.lowWm * 1024) then
    (s.modPort p fun x => { x with pz := { x.pz with
      pauseHigh := false
      pauseFresh := false
      pauseWant := if x.cfg.pauseTxEn && !x.half && decide (s.now < x.pz.pauseSentAt + x.pz.pauseSentNs)
        then some 0 else none } }).pauseSend p
  else s

/-- A frame is charged with a number of cells (R259, R263); the pool and the ingress share are judged. -/
def State.setCells (s : State) (f n : Nat) : State :=
  let x := s.frame f
  let s := s.modFrame f fun x => { x with cells := n }
  let s := s.modPool x.pool fun p =>
    { p with used := p.used - x.cells + n, peak := max p.peak (p.used - x.cells + n) }
  let s := s.poolJudge x.pool
  if x.src < 24 then s.pauseJudge x.src else s

/-! Frames and references. -/

/-- Count for a frame at the later of now and its verdict, if that is confirmed (R53, R294). -/
def State.countAt (s : State) (f group fn idx : Nat) : State :=
  let x := s.frame f
  if x.verdict = 1 then s.count group fn idx
  else if x.verdict = 0 then s.modFrame f fun x => { x with drops := (group, fn, idx) :: x.drops }
  else s

/-- A frame with no reference left leaves the switch core: after a spoiled verdict, or confirmed and with its
classification result fixed. -/
def State.retire (s : State) (f : Nat) : State :=
  let x := s.frame f
  if x.refs = 0 && (x.verdict = 2 || (x.verdict = 1 && x.fixed)) then s.modSw fun w => { w with frames := w.frames.erase f } else s

/-- One reference of a frame is released; at the last one its cells return (R274). -/
def State.releaseRef (s : State) (f : Nat) : State :=
  let x := s.frame f
  let s := s.modFrame f fun x => { x with refs := x.refs - 1 }
  if x.refs ≤ 1 then (s.setCells f 0).retire f else s

/-- Age limit of a class in ns (R270). -/
def State.ageNs (s : State) (cls : Nat) : Nat := s.sw.ageLimit.get 100000 cls * 1000

/-- A frame is past its age limit: its age exceeds it (R269). -/
def State.aged (s : State) (f : Nat) : Bool :=
  decide (s.ageNs (s.frame f).cls < s.localNs - (s.frame f).admitAt)

/-! Bus messages. -/

/-- The bits that ISO 11898-1 arbitration compares, up to the last format bit (R111): a lower number wins. -/
def BusMsg.arbitration (m : BusMsg) : Nat :=
  let fdf := flag (m.kind ≠ 0)
  let xlf := flag (m.kind == 2)
  if m.xtd then
    (bits m.id 18 11 * 4 + 3) * 2 ^ 21 + bits m.id 0 18 * 8 + flag m.remote * 4 + fdf * 2 + xlf
  else (bits m.id 0 11 * 4 + flag m.remote * 2) * 2 ^ 21 + fdf * 2 + xlf

/-- The transmit priority of a message: a lower number ranks higher (R111). -/
def BusMsg.rank (m : BusMsg) (arbMode : Bool) : Nat := if arbMode then 7 - m.cls else m.arbitration

/-- A message goes before another: higher transmit priority, or equal and earlier (R111). -/
def BusMsg.before (arbMode : Bool) (a b : BusMsg) : Bool :=
  decide (a.rank arbMode < b.rank arbMode) ||
    (decide (a.rank arbMode = b.rank arbMode) && decide (a.seq < b.seq))

/-- Put a message into a queue in transmit priority order. -/
def deepInsert (arbMode : Bool) (m : BusMsg) : List BusMsg → List BusMsg
  | [] => [m]
  | x :: r => if m.before arbMode x then m :: x :: r else x :: deepInsert arbMode m r

/-- `ARB_MODE` of a controller. -/
def Bus.arb (b : Bus) : Bool := (b.cfg.getD {}).arbMode

/-- `DEEP_LIMIT` of a controller. -/
def Bus.deepLimit (b : Bus) : Nat := (b.cfg.getD {}).deepLimit

/-- The hardware buffer of a number (R111). -/
def BusTx.buf (t : BusTx) (n : Nat) : TxBuf := if n = 0 then t.tb0 else if n = 1 then t.tb1 else t.tb2

/-- Write a hardware buffer. -/
def BusTx.setBuf (t : BusTx) (n : Nat) (x : TxBuf) : BusTx :=
  if n = 0 then { t with tb0 := x } else if n = 1 then { t with tb1 := x } else { t with tb2 := x }

/-- The messages in the hardware buffers with their numbers. -/
def BusTx.held3 (t : BusTx) : List (Nat × BusMsg) :=
  [0, 1, 2].filterMap fun n => (t.buf n).msg.map fun m => (n, m)

/-- The buffer in which an attempt is in progress (R115). -/
def BusTx.engagedBuf (t : BusTx) : Option Nat := [0, 1, 2].find? fun n => (t.buf n).engaged

/-- The numbered message of highest transmit priority, the first of several (R112). -/
def bestMsg (arbMode : Bool) : List (Nat × BusMsg) → Option (Nat × BusMsg)
  | [] => none
  | x :: r => match bestMsg arbMode r with
    | none => some x
    | some y => if y.2.rank arbMode < x.2.rank arbMode then some y else some x

/-- The worst of some numbered messages. -/
def worstMsg (arbMode : Bool) : List (Nat × BusMsg) → Option (Nat × BusMsg)
  | [] => none
  | x :: r => match worstMsg arbMode r with
    | none => some x
    | some y => if x.2.before arbMode y.2 then some y else some x

/-- The event detail of an identifier (R147). -/
def BusMsg.detail (m : BusMsg) : Nat := m.id + flag m.xtd 29 + 2 ^ 30

/-- Change the transmit side of a controller. -/
def State.modTx (s : State) (b : Nat) (g : BusTx → BusTx) : State :=
  s.modBus b fun x => { x with tx := g x.tx }

/-- A message of controller `b` is discarded for age (R114). -/
def State.busAged (s : State) (b : Nat) (m : BusMsg) : State :=
  ((s.releaseRef m.frame).count 3 b ctrBusTxAged).raiseOf 45 (busUnit b) m.detail

/-- A deep-queue entry is eligible once its frame is confirmed (R36, R113). -/
def State.msgReady (s : State) (m : BusMsg) : Bool := (s.frame m.frame).verdict == 1

/-- The twin standby, whose buffers are filled and never offered (R126, R495). -/
def State.standby (s : State) : Bool := s.twin.role == .standby

/-- The refill engine of a controller runs (R126, R131, R132, R139). -/
def State.refills (s : State) (b : Nat) : Bool :=
  let x := s.bus b
  x.enabled && s.unitUp (busUnit b) && s.chanOpen 2 (busUnit b).island && !x.busOff && !x.tx.heldOnly && x.tx.draining.isNone &&
    s.twin.handover.isNone && !s.lightsOut &&
    (!(x.restricted || x.wantMode == some true) || s.standby)

/-- Take a message of the deep queue of a controller out, by its frame and number. -/
def State.deepTake (s : State) (b : Nat) (m : BusMsg) : State :=
  s.modTx b fun t => { t with deep := t.deep.filter fun x => !(x.frame == m.frame && x.seq == m.seq) }

/-- Put a message that was already queued back into the deep queue in priority order (R115, R139). -/
def State.deepReturn (s : State) (b : Nat) (m : BusMsg) : State :=
  s.modBus b fun x => { x with tx := { x.tx with deep := deepInsert x.arb m x.tx.deep } }

/-- Empty a hardware buffer back into the deep queue. -/
def State.bufReturn (s : State) (b n : Nat) : State :=
  match ((s.bus b).tx.buf n).msg with
  | none => s
  | some m => (s.modTx b fun t => t.setBuf n {}).deepReturn b m

/-- One action of the refill engine (R114, R115): an aged head goes, an empty buffer is filled, or a
message of the deep queue changes places with the lowest buffer that is not engaged. -/
def State.refillStep (s : State) (b : Nat) : Option State :=
  let x := s.bus b
  match x.tx.deep.find? s.msgReady with
  | none => none
  | some m =>
    let empty := [0, 1, 2].find? fun n => (x.tx.buf n).msg.isNone
    let worst := worstMsg x.arb (x.tx.held3.filter fun k => !(x.tx.buf k.1).engaged)
    let target := match empty, worst with
      | some n, _ => some n
      | none, some (n, w) => if m.before x.arb w then some n else none
      | none, none => none
    match target with
    | none => none
    | some n =>
      if s.aged m.frame then some ((s.deepTake b m).busAged b m)
      else some ((((s.cross 2 (busUnit b).island).deepTake b m).bufReturn b n).modTx b fun t => t.setBuf n { msg := some m })

/-- The refill engine until nothing is left to do, at most `n` actions. -/
def State.refillLoop (s : State) (b : Nat) : Nat → State
  | 0 => s
  | n + 1 => match s.refillStep b with
    | none => s
    | some s => s.refillLoop b n

/-- The messages that are not engaged stand in priority order in the buffers (R111): `ARB_MODE` 1 asks for it, and with
`ARB_MODE` 0 messages of equal priority keep their arrival order that way (R111, R112, log entry 12). -/
def State.refillOrder (s : State) (b : Nat) : State :=
  let x := s.bus b
  let free := [0, 1, 2].filter fun n => !(x.tx.buf n).engaged
  let msgs := (free.filterMap fun n => (x.tx.buf n).msg).foldl (fun l m => deepInsert x.arb m l) []
  let slots := msgs.map some ++ List.replicate (free.length - msgs.length) none
  (free.zip slots).foldl (fun s k => s.modTx b fun t => t.setBuf k.1 { msg := k.2 }) s

/-- The refill engine acts (R115, log entry 12). -/
def State.refill (s : State) (b : Nat) : State :=
  if s.refills b then (s.refillLoop b ((s.bus b).tx.deep.length + 4)).refillOrder b else s

/-- A bus message of a frame stands in a hardware buffer of some controller, so its frame has started (R265). -/
def State.inBuffer (s : State) (f : Nat) : Bool :=
  s.buses.cells.any fun c => c.2.tx.held3.any fun k => k.2.frame == f

/-! Push-out. -/

/-- The candidates of a push-out for a class in a pool (R266), lowest class first, the latest first within
a class. -/
def State.candidates (s : State) (pool cls : Nat) : List (Nat × Frame) :=
  let l := s.sw.frames.cells.filter fun c =>
    c.2.admitted && decide (0 < c.2.refs) && c.2.pool == pool && decide (c.2.cls < cls) &&
      !c.2.started && !s.inBuffer c.1
  (List.range cls).flatMap fun k =>
    sortBy (fun a b => decide (b.2.order < a.2.order)) (l.filter fun c => c.2.cls == k)

/-- Take every reference of a frame out of the class queues of a port, counting each with a function. -/
def State.portTake (s : State) (p f : Nat) (tally : State → Nat → State) : State :=
  (List.range 8).foldl (fun s c =>
    let q := (s.port p).eg.queues.get [] c
    let n := (q.filter fun r => r.frame == f).length
    if n = 0 then s
    else
      let s := s.modPort p fun x => { x with eg := { x.eg with
        queues := x.eg.queues.set c (q.filter fun r => r.frame != f) } }
      (List.range n).foldl (fun s _ => tally s c) s) s

/-- Take the entry of a frame out of every deep queue, or its wait for one, counting it with a function. -/
def State.busTake (s : State) (f : Nat) (tally : State → State) : State :=
  let s := if (s.frame f).busPend.isSome then tally (s.modFrame f fun x => { x with busPend := none }) else s
  s.buses.cells.foldl (fun s c =>
    if c.2.tx.deep.any fun m => m.frame == f then
      tally (s.modTx c.1 fun t => { t with deep := t.deep.filter fun m => m.frame != f })
    else s) s

/-- Evict a frame (R267). -/
def State.evict (s : State) (f : Nat) : State :=
  let x := s.frame f
  let s := (List.range 24).foldl (fun s p =>
    s.portTake p f fun s c => s.countAt f 6 (0x10000 + p) (ctrSwDropPushout + c)) s
  let s := s.busTake f fun s => s.countAt f 6 x.pool ctrPoolBusPushout
  let s := s.countAt f 6 x.pool ctrPoolPushoutVictims
  let s := (s.modFrame f fun x => { x with refs := 0 }).setCells f 0
  s.retire f

/-- Evict candidates one at a time until the room reaches a reservation (R266). -/
def State.evictFor (s : State) (pool need : Nat) : List (Nat × Frame) → State
  | [] => s
  | c :: r =>
    if (need : Int) ≤ (s.pool pool).room then s else (s.evict c.1).evictFor pool need r

/-- Cells that the message which R113 would evict frees in a pool: those of its frame, where it is the last reference. -/
def State.victimCells (s : State) (pool : Nat) (victim : Option BusMsg) : Nat :=
  match victim with
  | some l => if (s.frame l.frame).pool = pool && (s.frame l.frame).refs = 1 then (s.frame l.frame).cells else 0
  | none => 0

/-- Whether a pool takes a reservation of a class, with the cells of the message that R113 would evict counted as free;
that message is then no candidate besides (R113, R264, R266). -/
def State.canAdmit (s : State) (pool cls need : Nat) (victim : Option BusMsg) : Bool :=
  let room := (s.pool pool).room + s.victimCells pool victim
  let others := (s.candidates pool cls).filter fun c => match victim with
    | some l => c.1 != l.frame
    | none => true
  decide ((need : Int) ≤ room) ||
    decide ((need : Int) ≤ room + ((others.map fun c => c.2.cells).foldl (· + ·) 0 : Nat))

/-! Admission. -/

/-- `KVLAN` of a frame. -/
def Frame.kvlan (x : Frame) : Nat := be x.key 4 2

/-- `SRC` of the values of a frame: an Ethernet port, or the host for a frame of its rings (R296). -/
def Frame.sigSrc (x : Frame) : Nat := if x.src < 24 then 32 + x.src else 62

/-- The VID of a frame. -/
def Frame.vid (x : Frame) : Nat := x.kvlan % 4096

/-- An EtherType of an 802.1Q or 802.1ad tag. -/
def isTag (e : Nat) : Bool := e == 0x8100 || e == 0x88A8

/-- The VLAN of a frame as it leaves: that of its next hop for a routed frame. -/
def State.outVid (s : State) (x : Frame) : Nat :=
  match x.routedHop with
  | some h => (s.hop h).vid
  | none => x.vid

/-- Bytes that the egress edits may add to a frame on a port outside ZG5100 tag mode (R275, R277): an untagged frame with a
VLAN that the port does not send untagged gets a tag, and `TAG_OP` 1 pushes one. -/
def State.tagGrowth (s : State) (x : Frame) (p : Nat) : Nat :=
  let vid := s.outVid x
  if (s.port p).cfg.tagMode || x.busRec then 0
  else 4 * (flag (x.action.tagOp == 1) +
    flag (vid != 0 && !bit (s.vlan vid).untag p && !isTag (be x.bytes 12 2)))

/-- An egress port is granted cut-through for a frame (R151, R170, R275). -/
def State.cutGrant (s : State) (x : Frame) (p : Nat) : Bool :=
  let e := s.port p
  let i := s.port x.src
  decide (x.src < 24) && e.cfg.ctAllow && e.eg.ctEn && !e.half && e.cfg.mode != 5 &&
    e.eg.holdUntil.isNone && e.fwdUp && decide (e.txKbps ≤ i.rxKbps) && !x.action.noCt &&
    !bit x.csum 1 &&
    decide (i.cfg.maxFrame + s.tagGrowth x p ≤ e.cfg.maxFrame + (if e.cfg.tagMode then 4 else 0))

/-- What becomes of the credit of a shaped class in some nanoseconds (R284), in 10^-6 bits: `own` and `other` say
that a frame of the class or of another is being sent, `wait` that a frame of the class waits. -/
def creditAfter (slope kbps : Nat) (own other wait : Bool) (dt : Nat) (c : Int) : Int :=
  let up : Int := (slope * dt : Nat)
  if slope = 0 then 0
  else if own then c + up - (kbps * dt : Nat)
  else if wait then (if other then c + up else if c < 0 then min 0 (c + up) else c)
  else if 0 < c then 0
  else min 0 (c + up)

/-- The shaper of a port is frozen: paused by its partner, in a hold window, or link down (R284). -/
def Eth.frozen (x : Eth) : Bool := x.pz.pausedUntil.isSome || x.eg.holdUntil.isSome || !x.fwdUp

/-- A frame of the port is on the wire: one that waits for its retry under R159 is not. -/
def Eth.onWire (x : Eth) : Bool := match x.tx with
  | some y => y.backoffUntil.isNone
  | none => false

/-- Bring the credits of a port up to an instant (R284). -/
def State.creditRun (s : State) (p t : Nat) : State :=
  s.modPort p fun x =>
    let dt := t - x.eg.creditAt
    let own (c : Nat) : Bool := x.onWire && (match x.tx with | some y => y.cls == c | none => false)
    let run (c slope : Nat) (v : Int) : Int :=
      if x.frozen then v
      else creditAfter slope x.txKbps (own c) (x.onWire && !own c) (x.eg.queues.get [] c != []) dt v
    { x with
      eg := { x.eg with
        credit5 := run 5 x.eg.slope5 x.eg.credit5
        credit6 := run 6 x.eg.slope6 x.eg.credit6
        creditAt := max t x.eg.creditAt } }

/-- Put a reference at the tail of a class queue of a port (R263). -/
def State.enqueue (s : State) (p cls : Nat) (r : QRef) : State :=
  (s.creditRun p s.now).modPort p fun x => { x with eg := { x.eg with
    queues := x.eg.queues.set cls (x.eg.queues.get [] cls ++ [r]) } }

/-- Cells that a frame occupies (R257). -/
def Frame.size (x : Frame) : Nat := cellsOf (x.bytes.length + (if x.busRec then 0 else 4))

/-- Cells that a frame reserves at admission, by its source (R263): the greatest frame of an Ethernet or causeway ingress
and the greatest record of a controller, whatever has been stored; else its known length. -/
def State.reservation (s : State) (x : Frame) : Nat :=
  if x.src < 24 then cellsOf (s.port x.src).cfg.maxFrame
  else if x.src < 64 then 9
  else x.size

/-- A message enters the deep queue of a controller (R113). -/
def State.deepArrive (s : State) (b : Nat) (m : BusMsg) : State :=
  s.modBus b fun x => { x with tx := { x.tx with
    seq := x.tx.seq + 1
    deep := deepInsert x.arb { m with seq := x.tx.seq } x.tx.deep } }

/-- The message of a deep queue that ranks lowest. -/
def Bus.lowest (x : Bus) : Option BusMsg := x.tx.deep.getLast?

/-- What the deep queue of a controller says to an arriving message (R113): take it, take it and evict the
lowest, or refuse it. -/
def Bus.deepVerdict (x : Bus) (m : BusMsg) : Bool × Option BusMsg :=
  if x.tx.deep.length < x.deepLimit then (true, none)
  else match x.lowest with
    | none => (false, none)
    | some l => if m.rank x.arb < l.rank x.arb then (true, some l) else (false, none)

/-- Evict the lowest message of a deep queue (R113). -/
def State.deepEvict (s : State) (b : Nat) (l : BusMsg) : State :=
  ((s.deepTake b l).releaseRef l.frame).count 3 b ctrBusTxQueueEvicted

/-- A deep queue took a message only by evicting another, or refused it: EV036 with the arriving identifier (R113). -/
def State.queueFull (s : State) (b : Nat) (m : BusMsg) : State := s.raiseOf 36 (busUnit b) m.detail

/-- A committed message enters the deep queue of a controller, evicts the lowest one, or is refused (R113). The Boolean says
that it has entered. -/
def State.deepEnter (s : State) (b : Nat) (m : BusMsg) : State × Bool :=
  match (s.bus b).deepVerdict m with
  | (false, _) => ((s.count 3 b ctrBusTxQueueRefused).queueFull b m, false)
  | (true, some l) => ((((s.deepEvict b l).queueFull b m).deepArrive b m).refill b, true)
  | (true, none) => ((s.deepArrive b m).refill b, true)

/-- Admit frame `f`, or refuse it (R113, R258, R263 to R268, R272, R280, R486). `ports` are its Ethernet
egresses, `mirror` its mirror port, `bus` its controller with the message. Flushed ports and the closed
egresses of a role without the token have been taken out. A message that is not confirmed yet is stored and charged, and
meets its deep queue at its confirmed verdict (R36, R113, log entry 40). -/
def State.admitTo (s : State) (f : Nat) (ports : List Nat) (mirror : Option Nat)
    (bus : Option (Nat × BusMsg)) : State :=
  let x := s.frame f
  let n := ports.length + mirror.toList.length + bus.toList.length
  if n = 0 then s
  else
    let pool := if 2 ≤ n then 3
      else match ports, mirror, bus with
        | p :: _, _, _ => (s.port p).eg.pool
        | _, some p, _ => (s.port p).eg.pool
        | _, _, some (b, _) => (s.bus b).tx.pool
        | _, _, _ => 3
    let need := s.reservation x
    let committed := x.verdict = 1 || x.portOk
    let verdict := match bus with
      | none => (true, none)
      | some (b, m) => if committed then (s.bus b).deepVerdict m else (true, none)
    match bus, verdict with
    | some (b, m), (false, _) => (s.deepEnter b m).1
    | _, (_, victim) =>
      if !s.canAdmit pool x.cls need victim then s.countAt f 6 pool ctrPoolDropPoolFull
      else
        let s := match bus, victim with
          | some (b, m), some l => (s.deepEvict b l).queueFull b m
          | _, _ => s
        let s := s.evictFor pool need (s.candidates pool x.cls)
        let s := s.modFrame f fun x => { x with
          admitted := true, pool := pool, refs := n, admitAt := s.localNs, order := s.sw.admitCount }
        let s := s.modSw fun w => { w with admitCount := w.admitCount + 1 }
        let s := (s.setCells f need).countAt f 6 pool ctrPoolAdmitted
        let s := if x.whole then s.setCells f (min need x.size) else s
        let s := ports.foldl (fun s p =>
          let ct := s.cutGrant x p
          let s := s.enqueue p x.cls { frame := f, ct := ct }
          if ct then s.countAt f 6 (0x10000 + p) ctrSwCtGranted else s) s
        let s := match mirror with
          | some p => s.enqueue p x.cls { frame := f, ct := s.cutGrant x p, mirror := true }
          | none => s
        match bus with
        | some (b, m) =>
          if committed then (s.deepArrive b { m with frame := f, cls := x.cls }).refill b
          else s.modFrame f fun x => { x with busPend := some b }
        | none => s

/-- A port takes new references: its link is up or its hold window runs (R280). -/
def Eth.takes (x : Eth) : Bool := x.fwdUp || x.eg.holdUntil.isSome

/-! Causeway egresses (R508, R518, R523). -/

/-- Bytes that a causeway port adds to a frame without its FCS (R508). -/
def Eth.cwGrowth (x : Eth) : Nat := if x.cfg.causeway then (if x.cw.enc then 46 else 30) else 0

/-- The egress set of a frame on causeway ports in neighbour scope: the ring break is barred, a frame too long
is taken out and counted, one member of each bundle stays (R508, R518, R523). -/
def State.neighbourPorts (s : State) (f : Nat) (ports : List Nat) : State × List Nat :=
  let x := s.frame f
  if x.transit then (s, ports)
  else
    let ports := ports.filter fun p => !s.barred p
    let fits (p : Nat) : Bool :=
      let e := s.port p
      !e.cfg.causeway || decide (x.bytes.length + 4 + e.cwGrowth ≤ e.cfg.maxFrame)
    let s := (ports.filter fun p => !fits p).foldl
      (fun s p => s.countAt f 14 (0x10000 + p) ctrCwPortCwTooLong) s
    let head := if x.busRec then [] else field x.bytes 0 12
    (s, s.bundlePorts s.cw.id 0 x.cls head (ports.filter fits))

/-- Admission of a frame: a role without the token closes its egresses, except for exempt frames, and takes
composed messages for its buses; causeway ports take what their rules let them; a port flushed and without link
leaves the egress set (R280, R486, R495, R508). While the switch core is isolated a frame for it is discarded (R16). -/
def State.admitRef (s : State) (f : Nat) (ports : List Nat) (mirror : Option Nat)
    (bus : Option (Nat × BusMsg)) (exempt : Bool := false) : State :=
  if !s.unitUp ⟨2, 9⟩ then s else
  let x := s.frame f
  let closed := !s.twin.role.holder && !exempt
  let drop := x.src ≠ 257 && closed
  let cut := (if closed then ports.length + mirror.toList.length else 0) + (if drop then bus.toList.length else 0)
  let s := (List.range cut).foldl (fun s _ => s.countAt f 13 0 ctrTwinStandbySuppressed) s
  let ports := if closed then [] else ports
  let mirror := if closed then none else mirror
  let bus := if drop then none else bus
  let (s, ports) := s.neighbourPorts f ports
  let (s, mirrors) := s.neighbourPorts f mirror.toList
  let mirror := mirrors.head?
  let s := ((ports ++ mirror.toList).filter fun p => !(s.port p).takes).foldl
    (fun s p => s.countAt f 6 (0x10000 + p) (ctrSwDropPortDown + x.cls)) s
  s.admitTo f (ports.filter fun p => (s.port p).takes) (mirror.filter fun p => (s.port p).takes) bus

/-- The last byte of a frame is stored: the unused reserved cells return (R263). -/
def State.frameWhole (s : State) (f : Nat) : State :=
  let x := s.frame f
  let s := s.modFrame f fun x => { x with whole := true }
  if 0 < x.refs then
    s.setCells f (min x.cells x.size)
  else s

/-- A confirmed verdict at the switch core: the counts that waited are made (R294). -/
def State.frameConfirm (s : State) (f : Nat) : State :=
  let x := s.frame f
  let s := s.modFrame f fun x => { x with verdict := 1, drops := [] }
  let s := x.drops.foldl (fun s d => s.count d.1 d.2.1 d.2.2) s
  s.retire f

/-- A spoiled verdict at the switch core: every reference that has not started is released (R274). -/
def State.frameSpoil (s : State) (f : Nat) : State :=
  let s := s.modFrame f fun x => { x with verdict := 2, drops := [] }
  let s := (List.range 24).foldl (fun s p => s.portTake p f fun s _ => s.releaseRef f) s
  (s.busTake f fun s => s.releaseRef f).retire f

/-- Make a frame that is whole and confirmed from the start: a composed message, a talker frame, a frame of
firmware or of a host ring (R37, R263). The number of the new frame comes with the state. -/
def State.newFrame (s : State) (x : Frame) : State × Nat :=
  let n := s.sw.nextId
  (s.modSw fun w => { w with nextId := n + 1, frames := w.frames.set n x }, n)

/-! Ageing (R269). -/

/-- Remove the aged heads of one class queue of a port, at most `n` of them. -/
def State.ageQueue (s : State) (p c : Nat) : Nat → State
  | 0 => s
  | n + 1 =>
    match (s.port p).eg.queues.get [] c with
    | [] => s
    | r :: l =>
      if s.aged r.frame then
        let s := s.modPort p fun x => { x with eg := { x.eg with queues := x.eg.queues.set c l } }
        ((s.countAt r.frame 6 (0x10000 + p) (ctrSwDropAged + c)).releaseRef r.frame).ageQueue p c n
      else s

/-- Remove aged heads of the deep queue of a controller, one after another (R114, R269). -/
def State.ageDeep (s : State) (b : Nat) : Nat → State
  | 0 => s
  | n + 1 =>
    match (s.bus b).tx.deep with
    | [] => s
    | m :: _ =>
      if s.aged m.frame then ((s.deepTake b m).busAged b m).ageDeep b n else s

/-- Flush every reference of a port, counting each in `drop_port_down` of its class; the number flushed
comes with the state (R280, R153). -/
def State.flushPort (s : State) (p : Nat) : State × Nat :=
  (List.range 8).foldl (fun (a : State × Nat) c =>
    let q := (a.1.port p).eg.queues.get [] c
    let s := a.1.modPort p fun x => { x with eg := { x.eg with queues := x.eg.queues.set c [] } }
    (q.foldl (fun s r => (s.countAt r.frame 6 (0x10000 + p) (ctrSwDropPortDown + c)).releaseRef r.frame) s,
      a.2 + q.length)) (s, 0)

end Sys2Proof.Machine
end

