-- ==== Sys2Proof/Machine/Tide.lean ====
section
/-! DEFINITION. Tide queues: positions, open packets, commit, rewind, overwrite, level, and the read window
(R395 to R412, R420). -/

namespace Sys2Proof.Machine

open Sys2Proof

/-- Words that some payload bytes occupy (R395). -/
def wordsOf (n : Nat) : Nat := (n + 7) / 8

/-- Positions are 32 bits wide and wrap (R398). -/
def posAdd (a n : Nat) : Nat := (a + n) % 2 ^ 32

/-- Words from one position to another, modulo 2^32 (R398). -/
def posDiff (a b : Nat) : Nat := (b + (2 ^ 32 - a % 2 ^ 32)) % 2 ^ 32

/-- `p` lies from `a` to `b`, both included (R398). -/
def posWithin (a p b : Nat) : Bool := decide (posDiff a p ≤ posDiff a b)

/-- The fill: words committed and not released (R398). -/
def TideQ.fill (q : TideQ) : Nat := posDiff q.rd q.wr

/-- The capacity `TQ_CAP` in words (R412). -/
def TideQ.cap (q : TideQ) : Nat := 128 * q.sizeKiB + 65536 * q.spillMiB

/-- Words of the open packets (R403). -/
def TideQ.openWords (q : TideQ) : Nat := (q.opened.map fun o => wordsOf o.bytes.length).sum

/-- Words of a packet. -/
def TqPacket.words (p : TqPacket) : Nat := wordsOf p.bytes.length

/-- An enabled receive ring is bound to queue `q` (`DMA_OWNED`, R399). -/
def State.dmaOwned (s : State) (q : Nat) : Bool :=
  (List.range 32).any fun r => (s.ring r).queue == q && (s.ring r).rstate != 0

/-- Open packets in the device (R403). -/
def State.openPackets (s : State) : Nat :=
  ((List.range 64).map fun q => (s.tq q).opened.length).sum

/-- A release of this instant waits in the queue of commands (R409, log entry 75). -/
def State.tqMore (s : State) (q : Nat) : Bool :=
  s.pending.any fun c => match c with
    | .tqReleaseWrite u p _ => decide (u ≤ s.now) && p.val == q
    | _ => false

/-- Judge the level on the fill, once every change of the instant is there: arm below `LEVEL`, set `LEVEL_HIT` and raise
EV096 on a rise to it (R409, R410). -/
def State.tqLevel (s : State) (q : Nat) : State :=
  let x := s.tq q
  if x.level = 0 || s.tqMore q then s
  else if x.fill < x.level then s.modTq q fun x => { x with armed := true }
  else if x.armed then
    (s.modTq q fun x => { x with armed := false, levelHit := true, setAt := x.setAt.set 4 s.now }).raiseOf 96 ⟨5, 5⟩ q
  else s

/-- Abandon the transfer of a ring whose packet has been overwritten (R416). -/
def State.ringAbandon (s : State) (q pos : Nat) : State :=
  (List.range 32).foldl (fun s r =>
    let x := s.ring r
    if x.queue == q && x.xferPos == some pos then
      (s.modRing r fun x => { x with
        xferPos := none, xferBytes := 0, xferUsed := 0, paused := none
        rstate := if x.rstate = 2 then 1 else x.rstate }).count 10 (0x10000 + r) ctrRxRxAbandoned
    else s) s

/-- Overwrite the oldest whole committed packet (R406, R407): RD passes it, CUR and MARK follow. -/
def State.tqOverwrite (s : State) (q : Nat) : State :=
  let x := s.tq q
  match x.packets with
  | [] => s
  | p :: rest =>
    let rd := posAdd p.pos p.words
    let passCur := decide (posDiff x.rd x.cur < posDiff x.rd rd)
    let passMark := x.markSet && decide (posDiff x.rd x.mark < posDiff x.rd rd)
    let s := s.modTq q fun x => { x with
      rd := rd, packets := rest, overwritten := true, lostAt := some s.now
      lostFrom := if x.lostAt = some s.now then x.lostFrom else x.rd
      setAt := ([1] ++ (if passCur then [2] else []) ++ (if passMark then [3] else [])).foldl (fun t k => t.set k s.now) x.setAt
      cur := if passCur then rd else x.cur
      curMoved := x.curMoved || passCur
      markSet := x.markSet && !passMark
      markLost := x.markLost || passMark }
    let s := s.count 10 q ctrTqTqLost
    let s := if x.overwritten then s else s.raiseOf 97 ⟨5, 5⟩ q
    s.ringAbandon q p.pos

/-- Overwrite until a packet of `n` words has room, at most `fuel` packets. -/
def State.tqMakeRoom (s : State) (q n : Nat) : Nat → State
  | 0 => s
  | fuel + 1 =>
    let x := s.tq q
    if n + x.fill + x.openWords ≤ x.cap then s
    else if x.packets.isEmpty then s
    else (s.tqOverwrite q).tqMakeRoom q n fuel

/-- The tide queue unit takes packets (R16, R85). -/
def State.tideUp (s : State) : Bool := s.unitUp ⟨5, 5⟩

/-- What happens to an arriving packet. -/
inductive TqTake where
  /-- It is open in the queue. -/
  | taken
  /-- It was refused at an open limit, or the unit is behind its barrier. -/
  | refused
  /-- It exceeds the capacity of the queue (R408). -/
  | tooLong
  deriving DecidableEq, Repr

/-- Release every word before a position (R401). -/
def State.tqReleaseTo (s : State) (q p : Nat) : State :=
  let x := s.tq q
  let gone := decide (posDiff x.rd x.mark < posDiff x.rd p)
  (s.modTq q fun x => { x with
    rd := p
    packets := x.packets.filter fun k => decide (posDiff x.rd p ≤ posDiff x.rd k.pos)
    markSet := x.markSet && !gone }).tqLevel q

/-- A position write is refused: it sets `POS_ERR` (R399). -/
def State.tqPosErr (s : State) (q : Nat) : State := s.modTq q fun x => { x with posErr := true, setAt := x.setAt.set 0 s.now }

/-- A move of CUR behind MARK clears the mark, so that MARK lies from RD to CUR while it is set (R398, log entry 67). -/
def State.tqMoveCur (s : State) (q v : Nat) : State :=
  if posWithin (s.tq q).rd v (s.tq q).wr then
    s.modTq q fun x => { x with cur := v, markSet := x.markSet && decide (posDiff x.rd x.mark ≤ posDiff x.rd v) }
  else s.tqPosErr q

/-- A new mark (R399, R401). -/
def State.tqMoveMark (s : State) (q v : Nat) : State :=
  if posWithin (s.tq q).rd v (s.tq q).cur then s.modTq q fun x => { x with mark := v, markSet := true } else s.tqPosErr q

/-- A release (R401). One at or before the RD that an overwrite of the same instant has left does nothing (R409). -/
def State.tqRelease (s : State) (q v : Nat) : State :=
  let x := s.tq q
  if x.lostAt = some s.now && posWithin x.lostFrom v x.rd then s
  else if posWithin x.rd v x.cur && (v == x.wr || x.packets.any fun p => p.pos == v) then s.tqReleaseTo q v
  else s.tqPosErr q

/-- `REWIND` (R399, R401): CUR goes to MARK. -/
def State.tqToMark (s : State) (q : Nat) : State :=
  if (s.tq q).markSet then s.modTq q fun x => { x with cur := x.mark } else s.tqPosErr q

/-- One register write of the consumer: 0 `TQ_CUR`, 1 `TQ_MARK`, 2 `TQ_RELEASE`, 3 `REWIND`, else `CLEAR_MARK` (R401). -/
def State.tqPosition (s : State) (q kind v : Nat) : State :=
  if kind = 0 then s.tqMoveCur q v
  else if kind = 1 then s.tqMoveMark q v
  else if kind = 2 then s.tqRelease q v
  else if kind = 3 then s.tqToMark q
  else s.modTq q fun x => { x with markSet := false }

/-- What a register write of the consumer may change. -/
def TideQ.toBase (x : TideQ) : TqBase :=
  { rd := x.rd, cur := x.cur, mark := x.mark, markSet := x.markSet, packets := x.packets, posErr := x.posErr
    setAt := x.setAt, armed := x.armed }

/-- A register write of the consumer is kept, with the positions before it, while its instant lasts (R409). -/
def TideQ.note (x : TideQ) (now kind v : Nat) : TideQ :=
  if x.wroteAt = some now then { x with writes := x.writes ++ [(kind, v)] }
  else { x with wroteAt := some now, writes := [(kind, v)], base := x.toBase }

/-- The queue as it was before the consumer's register writes of this instant. -/
def TideQ.unwritten (x : TideQ) (now : Nat) : TideQ :=
  if x.wroteAt = some now then
    { x with
      rd := x.base.rd, cur := x.base.cur, mark := x.base.mark, markSet := x.base.markSet, packets := x.base.packets
      posErr := x.base.posErr, setAt := x.base.setAt, armed := x.base.armed, wroteAt := none, writes := [] }
  else x

/-- The consumer's register writes of this instant (R409). -/
def State.tqLate (s : State) (q : Nat) : List (Nat × Nat) :=
  if (s.tq q).wroteAt = some s.now then (s.tq q).writes else []

/-- A register write of the consumer takes effect and is kept for R409. -/
def State.tqWrite (s : State) (q kind v : Nat) : State :=
  (s.modTq q fun x => x.note s.now kind v).tqPosition q kind v

/-- The end of a change that a producer makes: the consumer's register writes of the same instant act on what it left
(R409). -/
def State.tqRedo (s : State) (q : Nat) (l : List (Nat × Nat)) : State :=
  (l.foldl (fun s w => s.tqWrite q w.1 w.2) s).tqLevel q

/-- A packet arrives with its whole payload: it is opened, overwriting as its words need, or refused
(R403, R406, R408). Log entry 9 where other open packets leave no room. -/
def State.tqTake (s : State) (q key : Nat) (bytes : List Byte) : State × TqTake :=
  if !s.tideUp then (s, .refused)
  else if (s.tq q).opened.length ≥ 64 || s.openPackets ≥ 512 then
    (s.count 10 q ctrTqTqOpenRefused, .refused)
  else
    let n := wordsOf bytes.length
    let cap := (s.tq q).cap
    if n > cap then
      let s := s.tqMakeRoom q cap (s.tq q).packets.length
      (s.count 10 q ctrTqTqTooLong, .tooLong)
    else
      let s := s.tqMakeRoom q n (s.tq q).packets.length
      if n + (s.tq q).fill + (s.tq q).openWords ≤ cap then
        (s.modTq q fun x => { x with opened := x.opened ++ [{ key := key, bytes := bytes }] }, .taken)
      else (s.count 10 q ctrTqTqOpenRefused, .refused)

/-- The open packet of a producer takes its positions from WR, which advances past it (R404). The payload is the one given,
whose time fields are now known. -/
def State.tqAppend (s : State) (q key : Nat) (bytes : List Byte) : State :=
  let x := s.tq q
  if x.opened.any fun o => o.key == key then
    let n := wordsOf bytes.length
    let s := s.modTq q fun x => { x with
      opened := x.opened.filter fun o => o.key != key
      packets := x.packets ++ [{ pos := x.wr, bytes := bytes }]
      wr := posAdd x.wr n }
    (s.count 10 q ctrTqTqPackets).count 10 q ctrTqTqWords n
  else s

/-- A packet arrives (R403). -/
def State.tqOpen (s : State) (q key : Nat) (bytes : List Byte) : State × TqTake :=
  let l := s.tqLate q
  let (s, r) := (s.modTq q fun x => x.unwritten s.now).tqTake q key bytes
  (s.tqRedo q l, r)

/-- The open packet of a producer commits (R404). -/
def State.tqCommit (s : State) (q key : Nat) (bytes : List Byte) : State :=
  let l := s.tqLate q
  ((s.modTq q fun x => x.unwritten s.now).tqAppend q key bytes).tqRedo q l

/-- The open packet of a producer is rewound on a spoiled verdict (R405): no position and no level changes. -/
def State.tqRewind (s : State) (q key : Nat) : State :=
  if (s.tq q).opened.any fun o => o.key == key then
    (s.modTq q fun x => { x with opened := x.opened.filter fun o => o.key != key }).count 10 q ctrTqSpecRewound
  else s

/-- A packet with `SPEC` 0 arrives and commits at once (R404). -/
def State.tqPut (s : State) (q key : Nat) (bytes : List Byte) : State × TqTake :=
  let l := s.tqLate q
  match (s.modTq q fun x => x.unwritten s.now).tqTake q key bytes with
  | (s, .taken) => ((s.tqAppend q key bytes).tqRedo q l, .taken)
  | (s, r) => (s.tqRedo q l, r)

/-- A queue's registers take writes: not queue 0 (R402); a queue a ring owns sets `POS_ERR` (R399). -/
def State.tqGuard (s : State) (q : Nat) (f : State → State) : State :=
  if q = 0 || !s.tideUp then s
  else if s.dmaOwned q then s.tqPosErr q
  else f s

/-- A write of `TQ_CUR` (R399, R401). -/
def State.tqWriteCur (s : State) (q v : Nat) : State := s.tqGuard q fun s => s.tqWrite q 0 v

/-- A write of `TQ_MARK` (R399, R401). -/
def State.tqWriteMark (s : State) (q v : Nat) : State := s.tqGuard q fun s => s.tqWrite q 1 v

/-- A write of `TQ_RELEASE` (R401, R409). -/
def State.tqWriteRelease (s : State) (q v : Nat) : State := s.tqGuard q fun s => (s.tqWrite q 2 v).tqLevel q

/-- `REWIND` (R399). -/
def State.tqRewindCur (s : State) (q : Nat) : State := s.tqGuard q fun s => s.tqWrite q 3 0

/-- `CLEAR_MARK` (R399). -/
def State.tqClearMark (s : State) (q : Nat) : State := s.tqGuard q fun s => s.tqWrite q 4 0

/-- A write of the W1C bits of the queue's status register (R399). -/
def State.tqWriteStatus (s : State) (q v : Nat) : State :=
  if q = 0 || !s.tideUp then s
  else s.modTq q fun x =>
    let gone (k : Nat) : Bool := w1c x.setAt s.now v k
    { x with
      eccBad := x.eccBad && !gone 5
      levelHit := x.levelHit && !gone 4
      markLost := x.markLost && !gone 3
      curMoved := x.curMoved && !gone 2
      overwritten := x.overwritten && !gone 1
      posErr := x.posErr && !gone 0 }

/-- A register of the control block of a queue as it reads (R399); queue 0 reads its own fields (log entry 10). -/
def State.tqRegister (s : State) (q off : Nat) : Nat :=
  let x := s.tq q
  if off = 0 then x.wr else if off = 4 then x.rd else if off = 8 then x.cur else if off = 0xC then x.mark
  else if off = 0x18 then
    flag (s.dmaOwned q) 7 + flag x.markSet 6 + flag x.eccBad 5 + flag x.levelHit 4 + flag x.markLost 3 +
      flag x.curMoved 2 + flag x.overwritten 1 + flag x.posErr 0
  else if off = 0x1C then x.fill else if off = 0x20 then x.cap
  else 0

/-- The 16 bytes of the slot that presents word `w` of a packet (R395, R396). -/
def slotBytes (p : TqPacket) (w : Nat) (marked : Bool) : List Byte :=
  let n := p.words
  let valid := if w + 1 = n then p.bytes.length - 8 * (n - 1) else 8
  let tag := flag (p.bad.contains w) 7 + flag marked 6 + flag (decide (w + 1 = n)) 5 + flag (decide (w = 0)) 4 + valid
  field p.bytes (8 * w) 8 ++ leBytes 1 tag ++ List.replicate 7 0

/-- Slot `k` of the read window of a queue (R400); queue 0 reads zero slots (R402). -/
def State.tqSlot (s : State) (q k : Nat) : List Byte :=
  let x := s.tq q
  let pos := posAdd x.cur ((k + 4096 - x.cur % 4096) % 4096)
  let none16 := List.replicate 16 (0 : Byte)
  if q = 0 then none16
  else if posDiff x.cur pos < posDiff x.cur x.wr then
    match x.packets.find? fun p => decide (posDiff p.pos pos < p.words) with
    | some p => slotBytes p (posDiff p.pos pos) (x.markSet && x.mark == pos)
    | none => none16
  else none16

/-- Empty a queue as `tide.queue.reset` does; it answers the packets discarded (R421). -/
def State.tqReset (s : State) (q : Nat) : State × Nat :=
  let n := (s.tq q).packets.length
  let s := s.modTq q fun x => { x with
    rd := x.wr, cur := x.wr, packets := [], opened := [], markSet := false, wroteAt := none, writes := [] }
  ((s.count 10 q ctrTqTqFlushed n).tqLevel q, n)

/-- The tide queue unit restarts: every queue is empty, its positions are 0, its configuration stays (R420). Its open packets
end spoiled at the barrier (R39, R54). -/
def State.tideQueuesRestart (s : State) : State :=
  (List.range 64).foldl (fun s q =>
    ((s.count 10 q ctrTqTqFlushed (s.tq q).packets.length).count 10 q ctrTqSpecRewound (s.tq q).opened.length).modTq q fun x =>
      { sizeKiB := x.sizeKiB, spillMiB := x.spillMiB, level := x.level }) s

/-- The DMA engine restarts: every ring is disabled, its configuration stays (R420). -/
def State.ringsRestart (s : State) : State :=
  (List.range 48).foldl (fun s r => s.modRing r fun x =>
    { size := x.size, queue := x.queue, evtPkts := x.evtPkts, base := x.base, starveUs := x.starveUs,
      evtUs := x.evtUs }) s

/-- An access finds words with errors: corrected ones are counted, uncorrectable ones set `ECC_BAD` and raise
EV098 (R411). The caller raises the tide memory fault source FS160. -/
def State.tqEcc (s : State) (q : Nat) (corrected bad : Nat) : State :=
  let s := if corrected = 0 then s else s.count 10 q ctrTqTqEccCorrected corrected
  if bad = 0 then s
  else ((s.count 10 q ctrTqTqEccUncorrected bad).modTq q fun x => { x with eccBad := true, setAt := x.setAt.set 5 s.now }).raiseOf 98 ⟨5, 5⟩ q

/-! The register writes. -/

/-- `TQ_CUR_WRITE` (R401). -/
def execTqCurWrite (t : Nat) (q : Fin 64) (value : Word) (s : State) : Host.Outcome State Fault Refusal :=
  .next (s.hostWrites t (·.tqWriteCur q value.toNat))

/-- `TQ_MARK_WRITE` (R401). -/
def execTqMarkWrite (t : Nat) (q : Fin 64) (value : Word) (s : State) : Host.Outcome State Fault Refusal :=
  .next (s.hostWrites t (·.tqWriteMark q value.toNat))

/-- `TQ_RELEASE_WRITE` (R401). -/
def execTqReleaseWrite (t : Nat) (q : Fin 64) (value : Word) (s : State) : Host.Outcome State Fault Refusal :=
  .next (s.hostWrites t (·.tqWriteRelease q value.toNat))

/-- `TQ_CLEAR_MARK` (R399). -/
def execTqClearMark (t : Nat) (q : Fin 64) (s : State) : Host.Outcome State Fault Refusal :=
  .next (s.hostWrites t (·.tqClearMark q))

/-- `TQ_REWIND` (R401). -/
def execTqRewind (t : Nat) (q : Fin 64) (s : State) : Host.Outcome State Fault Refusal :=
  .next (s.hostWrites t (·.tqRewindCur q))

/-! The queue commands. -/

/-- Checks of `tide.queue.config` (R402, R412, R422). -/
def checkTideQueueConfig (s : State) (p : List Byte) : Check :=
  let q := le p 0 1
  let size := le p 2 2
  let spill := le p 4 2
  let x := s.tq q
  firstFail [needLeave (p.isEmpty || q != 0), needLen (decide (p.length = 12)), needField p 0 1 1 63, needZeros p 1 1,
    need (inRange size 0 2048 && size % 4 == 0) 2,
    need (size == x.sizeKiB || (x.fill == 0 && x.opened.isEmpty && !s.dmaOwned q)) 2,
    needField p 4 2 0 1024,
    need (spill == x.spillMiB || (x.fill == 0 && x.opened.isEmpty && !s.dmaOwned q)) 4,
    needZeros p 6 2, need (decide (le p 8 4 ≤ 128 * size + 65536 * spill)) 8,
    needRoom (decide (((List.range 64).map fun k => if k = q then size else (s.tq k).sizeKiB).sum ≤ 2048)),
    needRoom (decide (((List.range 64).map fun k => if k = q then spill else (s.tq k).spillMiB).sum ≤ 1024)),
    needRoom (spill == 0 || s.boot.lpddr)]

/-- Effect of `tide.queue.config` (R410, R422, log entry 11): a new level at or below the fill raises nothing. -/
def effectTideQueueConfig (s : State) (p : List Byte) : State × Reply :=
  (s.modTq (le p 0 1) fun x =>
    { x with sizeKiB := le p 2 2, spillMiB := le p 4 2, level := le p 8 4, armed := decide (x.fill < le p 8 4) },
   .ok (fitBytes 12 p))

/-- `TIDE_QUEUE_CONFIG` (R422). -/
def execTideQueueConfig (t : Nat) (m : Fin 8) (s : State) : Host.Outcome State Fault Refusal :=
  .next (s.simple t m 0x0A01 checkTideQueueConfig effectTideQueueConfig)

/-- Checks of `tide.queue.reset` (R402, R421). -/
def checkTideQueueReset (s : State) (p : List Byte) : Check :=
  firstFail [needLeave (p.isEmpty || le p 0 1 != 0), needLen (decide (p.length = 1)), needField p 0 1 1 63,
    needLeave (!s.dmaOwned (le p 0 1))]

/-- Effect of `tide.queue.reset` (R421). -/
def effectTideQueueReset (s : State) (p : List Byte) : State × Reply :=
  let (s, n) := s.tqReset (le p 0 1)
  (s, .ok (leBytes 4 n))

/-- `TIDE_QUEUE_RESET` (R421). -/
def execTideQueueReset (t : Nat) (m : Fin 8) (s : State) : Host.Outcome State Fault Refusal :=
  .next (s.simple t m 0x0A02 checkTideQueueReset effectTideQueueReset)

end Sys2Proof.Machine
end

