-- ==== Sys2Proof/Machine/Cipher.lean ====
section
/-! DEFINITION. Cipher engines and their host direct jobs, the key store and its commands (R426 to R459). -/

namespace Sys2Proof.Machine

open Sys2Proof

/-! Locks. -/

/-- The engine is held by a host client (R427). -/
def Engine.hostHeld (e : Engine) : Bool := decide (1 ≤ e.lock) && decide (e.lock ≤ 0x7F)

/-- The engine is held by an internal client (R427). -/
def Engine.internalHeld (e : Engine) : Bool := decide (0x80 ≤ e.lock)

/-- `DETAIL` of the events of an engine: engine and client (R461). -/
def engDetail (e client : Nat) : Nat := e + 256 * client

/-- A job ends: `JSTATE`, `JERR`, `DONE`, and its counts (R434, R437). -/
def State.jobEnd (s : State) (e jstate jerr : Nat) : State :=
  let x := s.engine e
  let s := s.modEngine e fun x => { x with
    jstate := jstate, jerr := jerr, done := true, setAt := x.setAt.set 4 s.now, lastUse := s.now }
  ((s.count 11 e ctrCiphJobs).count 11 e ctrCiphBytesIn (min x.jobAad x.aadIn.length + x.textIn.length)).count
    11 e ctrCiphBytesOut x.outAvail

/-- Clear key registers, IV, expected tag and buffers of an engine (R430, R451). -/
def Engine.cleared (x : Engine) : Engine :=
  { x with
    keyRegs := {}, iv := {}, tagIn := {}, key := [], keySlot := none, aadIn := [], textIn := [], out := []
    outAvail := 0, outRel := 0, tagOut := [], revoked := false }

/-- Release the lock of an engine: cancel its job, clear its registers, free it (R430). -/
def State.engineRelease (s : State) (e : Nat) : State :=
  let s := if (s.engine e).jstate = 1 then s.jobEnd e 3 5 else s
  s.modEngine e fun x => { x.cleared with lock := 0 }

/-- The highest-numbered free engine of a mask (R429, causeway directions). -/
def State.engineHigh (s : State) (mask : Nat) : Option Nat :=
  ((List.range 8).filter fun e => bit mask e && (s.engine e).lock == 0 && s.unitUp ⟨4, e⟩).getLast?

/-- The lowest-numbered free engine of a mask (R429, signal engine). -/
def State.engineLow (s : State) (mask : Nat) : Option Nat :=
  (List.range 8).find? fun e => bit mask e && (s.engine e).lock == 0 && s.unitUp ⟨4, e⟩

/-- An internal client takes a free engine. -/
def State.engineTake (s : State) (e client : Nat) : State :=
  s.modEngine e fun x => { x with lock := client, lastUse := s.now }

/-- The rank of a waiting internal client: causeway, then signal engine, then firmware (R429). -/
def clientRank (c : Nat) : Nat := if 0x90 ≤ c then 0 else if c = 0x81 then 1 else 2

/-- The internal client that engine `e` goes to: the first of the best rank whose allowed engines name it. -/
def State.engineNext (s : State) (e : Nat) : Option (Nat × Nat × Nat) :=
  let w := s.sec.engWait.filter fun x => bit x.2.1 e
  match w.find? fun x => clientRank x.1 == 0 with
  | some x => some x
  | none => match w.find? fun x => clientRank x.1 == 1 with
    | some x => some x
    | none => w.head?

/-- A host write of `CIPH_n_LOCK` (R428); a free engine that an internal client waits for is not taken (R429). -/
def State.ciphLock (s : State) (e v : Nat) : State :=
  if !s.unitUp ⟨4, e⟩ then s
  else
    let x := s.engine e
    let id := v % 256
    let s := s.modEngine e fun x => { x with lastUse := s.now }
    if x.lock = 0 then
      if inRange id 1 0x7F && (s.engineNext e).isNone then
        s.modEngine e fun x => { x with
          lock := id, jerr := 0, jstate := 0, tamperAbort := false, idleReleased := false, regErr := false
          parentRevoked := false, tagFail := false, done := false }
      else s
    else if x.hostHeld then
      if id = 0 then s.engineRelease e
      else if id ≤ 0x7F then s
      else s.modEngine e fun x => { x with regErr := true, setAt := x.setAt.set 7 s.now }
    else s

/-! Keys. -/

/-- Key slot of a handle. -/
def handleSlot (h : Nat) : Nat := h / 256 % 256

/-- Generation of a handle. -/
def handleGen (h : Nat) : Nat := h % 256

/-- The handle of a slot (R432). -/
def State.handleOf (s : State) (k : Nat) : Nat := k * 256 + (s.keySlot k).gen

/-- A handle is usable for a purpose on some engine of a mask (R445); a mask of 0 asks for no engine. -/
def State.keyUsable (s : State) (h purpose engines : Nat) : Bool :=
  let k := s.keySlot (handleSlot h)
  k.valid && k.gen == handleGen h && k.purpose == purpose &&
    (engines == 0 || k.engines &&& engines != 0) && (k.useLimit == 0 || decide (k.uses < k.useLimit))

/-- A failed key check: `key_fail`, and for clients other than the signal engine EV111 once per slot (R445). -/
def State.keyFail (s : State) (h client : Nat) : State :=
  let s := s.count 11 0x10000 ctrKeyKeyFail
  let k := handleSlot h
  if client = 0x81 || (s.keySlot k).failSeen then s
  else (s.modKeySlot k fun x => { x with failSeen := true }).raiseOf 111 ⟨4, 8⟩ (k + 256 * client)

/-- One use of a slot's key (R446): the counter rises, and reaching `USE_LIMIT` raises EV108. -/
def State.keyUse (s : State) (k : Nat) : State :=
  let s := s.modKeySlot k fun x => { x with uses := min 0xFFFFFFFF (x.uses + 1) }
  let x := s.keySlot k
  if x.useLimit ≠ 0 && x.uses == x.useLimit then
    (s.count 11 0x10000 ctrKeyExhausted).raiseOf 108 ⟨4, 8⟩ k
  else s

/-- Load a slot's key into an engine for an operation (R446). -/
def State.keyLoad (s : State) (e k : Nat) : State :=
  let s := s.keyUse k
  (s.modEngine e fun x => { x with key := (s.keySlot k).key, keySlot := some k, revoked := false }).count
    11 e ctrCiphKeyLoads

/-- The generation after a revocation: 255 is followed by 1 (R447). -/
def nextGen (g : Nat) : Nat := if g ≥ 255 then 1 else g + 1

/-- Slot `k` lies below slot `a`, at most `fuel` steps (R447). -/
def State.keyBelow (s : State) (a : Nat) : Nat → Nat → Bool
  | 0, _ => false
  | fuel + 1, k =>
    let x := s.keySlot k
    k != 0 && (x.parent == a || s.keyBelow a fuel x.parent)

/-- The valid slots below a slot. -/
def State.keyDescendants (s : State) (a : Nat) : List Nat :=
  (List.range 256).filter fun k => (s.keySlot k).valid && s.keyBelow a 8 k

/-- Empty slots: key and recipe go, the generation rises; an engine that has such a key loaded marks its
operation (R447, R448). -/
def State.keyEmpty (s : State) (l : List Nat) : State :=
  let s := l.foldl (fun s k => s.modKeySlot k fun x =>
    { gen := nextGen x.gen, failSeen := x.failSeen }) s
  (List.range 8).foldl (fun s e =>
    match (s.engine e).keySlot with
    | some k => if l.contains k then s.modEngine e fun x => { x with revoked := true } else s
    | none => s) s

/-- Revoke a slot and all its descendants at one instant (R447). It answers the slots emptied. -/
def State.keyRevoke (s : State) (k : Nat) : State × Nat :=
  let l := k :: s.keyDescendants k
  let s := (s.keyEmpty l).count 11 0x10000 ctrKeyRevocations
  (s.raiseOf 107 ⟨4, 8⟩ (k + 256 * min 255 l.length), l.length)

/-- Empty every host slot as one revocation (R451, R452). -/
def State.keyWipeHost (s : State) : State :=
  let n := ((range 16 240).filter fun k => (s.keySlot k).valid).length
  let s := (s.keyEmpty (range 16 240)).count 11 0x10000 ctrKeyRevocations
  s.raiseOf 107 ⟨4, 8⟩ (0xFF + 256 * min 255 n)

/-- The child key of the KDF of R442. -/
def kdf (parent : List Byte) (label context : List Byte) (purpose : Nat) (k256 : Bool) : List Byte :=
  let bits := if k256 then 256 else 128
  let tail := label ++ [0] ++ context ++ leBytes 1 purpose ++ beBytes 2 bits
  cmac parent (leBytes 1 1 ++ tail) ++ (if k256 then cmac parent (leBytes 1 2 ++ tail) else [])

/-- The root key that the PUF yields (R454, log entry 3). -/
def rootKey : List Byte := leBytes 32 (Config.pufRoot 0)

/-- The root is in slot 0, and the storage key in slot 1 (R441, R454). The label and context of the storage
key are firmware's own and free (log entry 3). -/
def State.keyRoot (s : State) : State :=
  let s := s.modKeySlot 0 fun x => { valid := true, key := rootKey, purpose := 1, failSeen := x.failSeen }
  s.modKeySlot 1 fun x =>
    { valid := true, purpose := 5, engines := 0xFF, gen := x.gen, parent := 0, depth := 1
      key := kdf rootKey (leBytes 16 (Config.storageKey 0)) [] 5 true, failSeen := x.failSeen }

/-- Re-create one slot from its recipe, with its use counter at 0 (R444). -/
def State.keyRecreateOne (s : State) (k : Nat) : State :=
  let x := s.keySlot k
  match x.recipe with
  | none => s.modKeySlot k fun x => { gen := x.gen, failSeen := x.failSeen }
  | some r =>
    let key := if r.installed then r.key
      else kdf (s.keySlot r.parent).key r.label r.context r.purpose r.k256
    s.modKeySlot k fun x =>
      { valid := true, key := key, purpose := r.purpose, engines := r.engines, uses := 0
        useLimit := r.useLimit, gen := x.gen, parent := r.parent, depth := r.depth
        installed := r.installed, failSeen := x.failSeen, recipe := some r }

/-- Re-create every slot from 2 on in ascending depth (R444); after a tamper alarm in sleep the host slots
are emptied instead (R452). -/
def State.keyRecreate (s : State) : State :=
  let s := if s.sec.clearMark then
      ((s.keyWipeHost).count 11 0x10000 ctrKeyTamperWipes).modSec fun x => { x with
        clearMark := false, record := { x.record with wiped := true } }
    else s
  (range 1 8).foldl (fun s d =>
    (range 2 254).foldl (fun s k =>
      match (s.keySlot k).recipe with
      | some r => if r.depth = d then s.keyRecreateOne k else s
      | none => if d = 1 then s.keyRecreateOne k else s) s) s

/-- A restart of the Security Island: every lock and key register goes, every key goes until it is
re-created (R23, R430, R444). -/
def State.securityReset (s : State) : State :=
  let s := (List.range 8).foldl (fun s e => s.engineRelease e) s
  let s := (List.range 8).foldl (fun s e => s.modEngine e fun x => { idleMs := x.idleMs }) s
  (List.range 256).foldl (fun s k => s.modKeySlot k fun x =>
    { gen := x.gen, failSeen := x.failSeen, recipe := x.recipe }) s

/-! Host direct jobs. -/

/-- The little-endian bytes of register words (R432). -/
def wordBytes (t : Tab Nat) (n : Nat) : List Byte :=
  (List.range n).flatMap fun i => leBytes 4 (t.get 0 i)

/-- Padded length of the additional data (R434). -/
def Engine.aadPadded (x : Engine) : Nat := (x.jobAad + 3) / 4 * 4

/-- Every input byte of the running job has been taken (R434). -/
def Engine.inputDone (x : Engine) : Bool :=
  decide (x.aadPadded ≤ x.aadIn.length) && decide (x.jobText ≤ x.textIn.length)

/-- `IN_FREE` (R434, R435): 0 with no job, and while 16 384 bytes of output wait for release. -/
def Engine.inFree (x : Engine) : Nat :=
  if x.jstate = 1 then (if x.outAvail - x.outRel ≥ 16384 then 0 else 4096) else 0

/-- `START` (R433): the checks in their order, then the job runs. -/
def State.ciphStart (s : State) (e : Nat) : State :=
  let x := s.engine e
  if !s.unitUp ⟨4, e⟩ || !x.hostHeld then s
  else
    let s := s.modEngine e fun x => { x with lastUse := s.now }
    if x.jstate = 1 then s.modEngine e fun x => { x with regErr := true, setAt := x.setAt.set 7 s.now }
    else
      let s := s.modEngine e fun x => { x with
        aadIn := [], textIn := [], out := [], outAvail := 0, outRel := 0, tagOut := [], jerr := 0
        jobDecrypt := x.decrypt, jobUnverified := x.unverifiedOk, jobTagLen := x.tagLen
        jobAad := x.aadLen, jobText := x.textLen, revoked := false }
      let k := handleSlot x.handle
      if !inRange x.tagLen 4 16 then s.jobEnd e 3 1
      else if x.decrypt && !x.unverifiedOk && decide (x.textLen > 16384) then s.jobEnd e 3 1
      else if !x.keySrc then
        if (List.range (if x.key256 then 8 else 4)).all fun i => (x.keyRegs.find i).isSome then
          s.modEngine e fun x => { x with
            jstate := 1, key := wordBytes x.keyRegs (if x.key256 then 8 else 4), keySlot := none }
        else s.jobEnd e 3 2
      else if s.keyUsable x.handle 2 (2 ^ e) then
        (s.keyLoad e k).modEngine e fun x => { x with jstate := 1 }
      else (s.keyFail x.handle x.lock).jobEnd e 3 2

/-- `CANCEL` (R432): the job ends with `JERR` `CANCELLED`. -/
def State.ciphCancel (s : State) (e : Nat) : State :=
  let x := s.engine e
  if !s.unitUp ⟨4, e⟩ || !x.hostHeld then s
  else if x.jstate = 1 then
    (s.jobEnd e 3 5).modEngine e fun x => { x with
      out := [], outAvail := x.outRel, key := [], keySlot := none }
  else s.modEngine e fun x => { x with lastUse := s.now }

/-- The output of the text taken so far (R436): ciphertext, or plaintext. -/
def Engine.stream (x : Engine) : List Byte :=
  (gcm x.key (wordBytes x.iv 3) [] x.textIn x.jobDecrypt).1

/-- A write to `CIPH_n_IN` appends 4 bytes (R434, R435). -/
def State.ciphIn (s : State) (e : Nat) (v : Nat) : State :=
  let x := s.engine e
  if !s.unitUp ⟨4, e⟩ || !x.hostHeld then s
  else
    let s := s.modEngine e fun x => { x with lastUse := s.now }
    let w := leBytes 4 v
    if x.jstate ≠ 1 then s.modEngine e fun x => { x with regErr := true, setAt := x.setAt.set 7 s.now }
    else if x.inputDone then s.modEngine e fun x => { x with regErr := true, setAt := x.setAt.set 7 s.now }
    else if x.inFree < 4 then
      (s.jobEnd e 3 3).modEngine e fun x => { x with key := [], keySlot := none }
    else if x.aadIn.length < x.aadPadded then
      s.modEngine e fun x => { x with aadIn := x.aadIn ++ w }
    else
      s.modEngine e fun x =>
        let y := { x with textIn := x.textIn ++ w.take (x.jobText - x.textIn.length) }
        { y with
          out := y.stream
          outAvail := if y.jobDecrypt && !y.jobUnverified then 0 else y.textIn.length }

/-- A write of `OUT_REL` frees output before an offset (R435). -/
def State.ciphOutRel (s : State) (e v : Nat) : State :=
  let x := s.engine e
  if !s.unitUp ⟨4, e⟩ || !x.hostHeld then s
  else
    let s := s.modEngine e fun x => { x with lastUse := s.now }
    if inRange v x.outRel x.outAvail then s.modEngine e fun x => { x with outRel := v }
    else s.modEngine e fun x => { x with regErr := true, setAt := x.setAt.set 7 s.now }

/-- The job of an engine ends after its last input word: tag compared or written, counts, events
(R434, R436, R440, R448). -/
def State.ciphDone (s : State) (e : Nat) : State :=
  let x := s.engine e
  if x.jstate = 1 && x.inputDone then
    let (out, tag) := gcm x.key (wordBytes x.iv 3) (x.aadIn.take x.jobAad) x.textIn x.jobDecrypt
    let good := !x.jobDecrypt || tag.take x.jobTagLen == (wordBytes x.tagIn 4).take x.jobTagLen
    let s := s.modEngine e fun x => { x with
      out := if good then out else []
      outAvail := if good then out.length else x.outRel
      tagOut := if x.jobDecrypt then [] else tag.take x.jobTagLen
      tagFail := x.tagFail || !good
      parentRevoked := x.parentRevoked || x.revoked
      setAt := ((if good then [] else [5]) ++ (if x.revoked then [6] else [])).foldl (fun t k => t.set k s.now) x.setAt }
    let s := s.jobEnd e (if good then 2 else 3) (if good then 0 else 6)
    let s := if x.revoked then s.count 11 0x10000 ctrKeyParentRevokedResults else s
    let s := if good then s else
      let s := s.count 11 e ctrCiphTagFail
      if x.textIn.isEmpty then s else s.count 11 e ctrCiphSpecPlainRewound
    let s := s.modEngine e fun x => { x with key := [], keySlot := none, revoked := false }
    let s := s.raiseOf 104 ⟨4, e⟩ (engDetail e x.lock)
    if good then s else s.raiseOf 105 ⟨4, e⟩ (engDetail e x.lock)
  else s

/-- A register of the block of an engine as it reads (R432). -/
def State.ciphRegister (s : State) (e off : Nat) : Nat :=
  let x := s.engine e
  if off = 0 then x.lock
  else if off = 4 then
    x.idleMs * 65536 + x.tagLen * 256 + flag x.unverifiedOk 4 + flag x.keySrc 3 + flag x.key256 2 + flag x.decrypt 1
  else if off = 8 then x.handle
  else if off = 0xC then x.aadLen
  else if off = 0x10 then x.textLen
  else if off = 0x18 then
    x.jerr * 4096 + flag x.tamperAbort 9 + flag x.idleReleased 8 + flag x.regErr 7 + flag x.parentRevoked 6 +
      flag x.tagFail 5 + flag x.done 4 + x.jstate
  else if off = 0x1C then x.inFree
  else if off = 0x20 then x.outAvail
  else if off = 0x24 then x.outBase
  else if inRange off 0x50 0x5F then le x.tagOut (off - 0x50) 4
  else if inRange off 0x200 0x2FF then
    if x.internalHeld then 0
    else leNum ((range (off - 0x200) 4).map fun k =>
      let o := x.outBase / 256 * 256 + k
      if x.outRel ≤ o && o < x.outAvail then x.out.getD o 0 else 0)
  else 0

/-- A host write to the block of an engine (R428, R432). -/
def State.ciphWrite (s : State) (e off v : Nat) : State :=
  let x := s.engine e
  if off = 0 then s.ciphLock e v
  else if !s.unitUp ⟨4, e⟩ then s
  else
    let s := s.modEngine e fun x => { x with lastUse := s.now }
    if x.internalHeld then s
    else if x.lock = 0 then
      if off = 4 && inRange (bits v 16 8) 1 100 then s.modEngine e fun x => { x with idleMs := bits v 16 8 } else s
    else if off = 4 then s.modEngine e fun x => { x with
        tagLen := bits v 8 5, unverifiedOk := bit v 4, keySrc := bit v 3, key256 := bit v 2, decrypt := bit v 1 }
    else if off = 8 then s.modEngine e fun x => { x with handle := v % 65536 }
    else if off = 0xC then s.modEngine e fun x => { x with aadLen := v % 65536 }
    else if off = 0x10 then s.modEngine e fun x => { x with textLen := v }
    else if off = 0x14 then
      let s := if bit v 1 then s.ciphCancel e else s
      if bit v 0 then s.ciphStart e else s
    else if off = 0x18 then s.modEngine e fun x =>
        let gone (k : Nat) : Bool := w1c x.setAt s.now v k
        { x with
          tamperAbort := x.tamperAbort && !gone 9, idleReleased := x.idleReleased && !gone 8
          regErr := x.regErr && !gone 7, parentRevoked := x.parentRevoked && !gone 6
          tagFail := x.tagFail && !gone 5, done := x.done && !gone 4 }
    else if off = 0x24 then s.modEngine e fun x => { x with outBase := v }
    else if off = 0x28 then s.ciphOutRel e v
    else if inRange off 0x30 0x3B then s.modEngine e fun x => { x with iv := x.iv.set ((off - 0x30) / 4) v }
    else if inRange off 0x40 0x4F then s.modEngine e fun x => { x with tagIn := x.tagIn.set ((off - 0x40) / 4) v }
    else if inRange off 0x60 0x7F then
      s.modEngine e fun x => { x with keyRegs := x.keyRegs.set ((off - 0x60) / 4) v }
    else if inRange off 0x100 0x1FF then s.ciphIn e v
    else s

/-- `CIPH_LOCK_WRITE` (R428). -/
def execCiphLockWrite (t : Nat) (e : Fin 8) (value : Word) (s : State) : Host.Outcome State Fault Refusal :=
  .next (s.hostWrites t (·.ciphLock e value.toNat))

/-- `CIPH_START` (R433). -/
def execCiphStart (t : Nat) (e : Fin 8) (s : State) : Host.Outcome State Fault Refusal :=
  .next (s.hostWrites t (·.ciphStart e))

/-- `CIPH_CANCEL` (R432). -/
def execCiphCancel (t : Nat) (e : Fin 8) (s : State) : Host.Outcome State Fault Refusal :=
  .next (s.hostWrites t (·.ciphCancel e))

/-- `CIPH_IN_WRITE` (R434). -/
def execCiphInWrite (t : Nat) (e : Fin 8) (value : Word) (s : State) : Host.Outcome State Fault Refusal :=
  .next (s.hostWrites t (·.ciphIn e value.toNat))

/-- `CIPH_OUT_REL_WRITE` (R435). -/
def execCiphOutRelWrite (t : Nat) (e : Fin 8) (value : Word) (s : State) : Host.Outcome State Fault Refusal :=
  .next (s.hostWrites t (·.ciphOutRel e value.toNat))

/-- `CIPH_JOB_DONE` (R434). -/
def execCiphJobDone (t : Nat) (e : Fin 8) (s : State) : Host.Outcome State Fault Refusal :=
  .next ((s.tick t).ciphDone e)

/-- The lock is due for its idle release (R431). -/
def State.lockIdle (s : State) (e : Nat) : Bool :=
  let x := s.engine e
  (x.hostHeld || x.lock == 0x80) && decide (x.lastUse + x.idleMs * 1000000 ≤ s.now)

/-- `LOCK_IDLE_RELEASE` (R431). -/
def execLockIdleRelease (t : Nat) (e : Fin 8) (s : State) : Host.Outcome State Fault Refusal :=
  let s := s.tick t
  let x := s.engine e
  .next (if s.lockIdle e then
    ((((s.engineRelease e).modEngine e fun x => { x with idleReleased := true, setAt := x.setAt.set 8 s.now }).count 11 e
      ctrCiphLockIdleReleases).raiseOf 106 ⟨4, e⟩ (engDetail e x.lock))
  else s)

/-! The key commands. -/

/-- Host slots and their parents are the host's to change: enrolled device only (R455). -/
def State.keyGate (s : State) : Check := needLeave s.sec.enrolled

/-- The slot that a derivation fills: the named one, or the lowest empty slot from 16 (R458). -/
def State.deriveSlot (s : State) (p : List Byte) : Option Nat :=
  if le p 1 1 = 0 then (range 16 240).find? fun k => !(s.keySlot k).valid else some (le p 1 1)

/-- Checks of `key.derive` (R441, R443, R455, R458). -/
def checkKeyDerive (s : State) (p : List Byte) : Check :=
  let slot := le p 1 1
  let par := s.keySlot (le p 5 1)
  let klen := if le p 3 1 = 0 then 16 else 32
  firstFail [s.keyGate, needLen (decide (p.length = 144)), needField p 0 1 0 1,
    needLeave (!inRange slot 1 15) 1, need (slot == 0 || !(s.keySlot slot).valid) 1,
    needLeave (decide (le p 2 1 ≠ 5)) 2, needField p 2 1 1 4, needField p 3 1 0 1,
    need (s.keyUsable (le p 4 2) 1 0) 4, need (decide (par.depth < 8)) 4,
    need (decide (le p 2 1 ≠ 1) || le p 6 1 == 0) 6, needField p 7 1 0 1,
    needField p 12 1 0 32, needField p 13 1 0 64, needZeros p 14 2,
    need (zeros p (16 + le p 12 1) (32 - le p 12 1)) 16, need (zeros p (48 + le p 13 1) (64 - le p 13 1)) 48,
    need (if le p 0 1 = 0 then zeros p 112 32 else zeros p (112 + klen) (32 - klen)) 112,
    needRoom (s.deriveSlot p).isSome]

/-- Effect of `key.derive` (R442, R443, R446, R458). -/
def effectKeyDerive (s : State) (p : List Byte) : State × Reply :=
  match s.deriveSlot p with
  | none => (s, .noSpace)
  | some k =>
    let parent := le p 5 1
    let par := s.keySlot parent
    let k256 := le p 3 1 == 1
    let install := le p 0 1 == 1
    let label := field p 16 (le p 12 1)
    let context := field p 48 (le p 13 1)
    let key := if install then field p 112 (if k256 then 32 else 16)
      else kdf par.key label context (le p 2 1) k256
    let expire := le p 7 1 == 1 || par.expire
    let r : Recipe := { purpose := le p 2 1, engines := le p 6 1, useLimit := le p 8 4, parent := parent,
                        depth := par.depth + 1, installed := install, label := label, context := context,
                        k256 := k256, key := if install then key else [] }
    let s := if install then s.count 11 0x10000 ctrKeyInstalls
      else (s.keyUse parent).count 11 0x10000 ctrKeyDerivations
    let s := s.modKeySlot k fun x =>
      { valid := true, key := key, purpose := le p 2 1, engines := le p 6 1, useLimit := le p 8 4
        expire := expire, gen := x.gen, parent := parent, depth := par.depth + 1, installed := install
        failSeen := x.failSeen, recipe := if expire then none else some r }
    (s, .ok (leBytes 2 (s.handleOf k)))

/-- `KEY_DERIVE` (R442, R443). -/
def execKeyDerive (t : Nat) (m : Fin 8) (s : State) : Host.Outcome State Fault Refusal :=
  .next (s.simple t m 0x0B01 checkKeyDerive effectKeyDerive)

/-- Checks of `key.revoke` (R455, R457). -/
def checkKeyRevoke (s : State) (p : List Byte) : Check :=
  firstFail [s.keyGate, needLen (decide (p.length = 4)), needLeave (decide (16 ≤ le p 1 1)), needZeros p 2 2]

/-- Effect of `key.revoke` (R447, R457). -/
def effectKeyRevoke (s : State) (p : List Byte) : State × Reply :=
  let k := le p 1 1
  if (s.keySlot k).valid && (s.keySlot k).gen == le p 0 1 then
    let (s, n) := s.keyRevoke k
    (s, .ok (leBytes 2 n))
  else (s, .ok (leBytes 2 0) 1)

/-- `KEY_REVOKE` (R447). -/
def execKeyRevoke (t : Nat) (m : Fin 8) (s : State) : Host.Outcome State Fault Refusal :=
  .next (s.simple t m 0x0B02 checkKeyRevoke effectKeyRevoke)

/-- Checks of `key.attr.set` (R455, R459). -/
def checkKeyAttrSet (s : State) (p : List Byte) : Check :=
  let x := s.keySlot (le p 1 1)
  firstFail [s.keyGate, needLen (decide (p.length = 8)), needLeave (decide (16 ≤ le p 1 1)),
    need (x.valid && x.gen == le p 0 1) 0, need (decide (x.purpose ≠ 1) || le p 2 1 == 0) 2,
    needField p 3 1 0 1, need (!x.expire || le p 3 1 == 1) 3]

/-- Effect of `key.attr.set` (R446, R459). -/
def effectKeyAttrSet (s : State) (p : List Byte) : State × Reply :=
  let k := le p 1 1
  let old := s.keySlot k
  let below := if le p 3 1 = 1 && !old.expire then s.keyDescendants k else []
  let s := s.modKeySlot k fun x => { x with
    engines := le p 2 1, useLimit := le p 4 4, expire := le p 3 1 == 1
    recipe := if le p 3 1 = 1 then none
      else x.recipe.map fun r => { r with engines := le p 2 1, useLimit := le p 4 4 } }
  let s := below.foldl (fun s d => s.modKeySlot d fun x => { x with expire := true, recipe := none }) s
  let done := fun (x : KeySlot) => x.useLimit != 0 && decide (x.useLimit ≤ x.uses)
  let s := if done (s.keySlot k) && !done old then
      (s.count 11 0x10000 ctrKeyExhausted).raiseOf 108 ⟨4, 8⟩ k
    else s
  (s, .ok)

/-- `KEY_ATTR_SET` (R459). -/
def execKeyAttrSet (t : Nat) (m : Fin 8) (s : State) : Host.Outcome State Fault Refusal :=
  .next (s.simple t m 0x0B03 checkKeyAttrSet effectKeyAttrSet)

/-- The tamper record as 16 bytes (R453). -/
def TamperRec.bytes (r : TamperRec) : List Byte :=
  leBytes 1 r.source ++ leBytes 1 r.twhen ++ leBytes 1 (flag r.valid 0 + flag r.aborted 1 + flag r.wiped 2) ++
    leBytes 1 r.count ++ leBytes 4 r.rtcS ++ leBytes 8 r.time

/-- Checks of `key.info` (R459). -/
def checkKeyInfo (_ : State) (p : List Byte) : Check :=
  firstFail [needLen (decide (p.length = 4)), needField p 0 1 0 2, needZeros p 2 2]

/-- The answer of `key.info` (R459). -/
def answerKeyInfo (s : State) (p : List Byte) : Reply :=
  let k := le p 1 1
  let x := s.keySlot k
  if le p 0 1 = 1 then .ok s.sec.record.bytes
  else if le p 0 1 = 2 then
    .ok (leBytes 1 (flag s.sec.enrolled) ++ [0] ++ leBytes 2 s.sec.unstable ++ leBytes 4 s.sec.regens)
  else
    .ok (leBytes 1 k ++ leBytes 1 x.gen ++ leBytes 1 (flag x.valid) ++ leBytes 1 x.purpose ++
      leBytes 1 (flag (decide (x.key.length = 32))) ++ leBytes 1 x.parent ++ leBytes 1 x.depth ++
      leBytes 1 x.engines ++
      leBytes 1 (flag x.expire 0 + flag (x.useLimit != 0 && decide (x.useLimit ≤ x.uses)) 1 +
        flag x.installed 2 + flag x.recipe.isSome 3) ++ [0, 0, 0] ++ leBytes 4 x.uses ++ leBytes 4 x.useLimit ++
      leBytes 2 (s.keyDescendants k).length ++ [0, 0])

/-- `KEY_INFO` (R459). -/
def execKeyInfo (t : Nat) (m : Fin 8) (s : State) : Host.Outcome State Fault Refusal :=
  .next (s.query t m 0x0B04 checkKeyInfo answerKeyInfo)

end Sys2Proof.Machine
end

