-- ==== Sys2Proof/Machine/Signal.lean ====
section
/-! DEFINITION. The signal engine: descriptors, the store, commits, triggers, composition, secured messages,
diversion, freshness (R295 to R329). -/

namespace Sys2Proof.Machine

open Sys2Proof

/-! Operations and range events. -/

/-- Count signal operations of the running second (R338). -/
def State.sigOps (s : State) (n : Nat) : State :=
  s.modSig fun g =>
    if s.now < g.opsFrom + 1000000000 then { g with opsNow := g.opsNow + n }
    else { g with
      ops := if s.now < g.opsFrom + 2000000000 then g.opsNow / 1000 else 0
      opsNow := n
      opsFrom := s.now / 1000000000 * 1000000000 }

/-- EV070 for the first range error since the last clear (R339). -/
def State.rangeEvent (s : State) (slot : Nat) : State :=
  if s.sig.rangeSeen then s
  else (s.modSig fun g => { g with rangeSeen := true }).raiseOf 70 ⟨3, 0⟩ slot

/-- Change the number of stale slots; EV069 when it rises from 0 (R310). -/
def State.staleUp (s : State) (slot : Nat) : State :=
  let s' := s.modSig fun g => { g with staleCount := g.staleCount + 1 }
  if s.sig.staleCount = 0 then s'.raiseOf 69 ⟨3, 0⟩ slot else s'

/-! Bit fields (R302). -/

/-- The next less significant bit position of a big-endian field. -/
def nextMsbPos (p : Nat) : Nat := if p % 8 = 0 then p + 15 else p - 1

/-- The bit positions of a big-endian field, most significant first. -/
def msbPositions (p : Nat) : Nat → List Nat
  | 0 => []
  | n + 1 => p :: msbPositions (nextMsbPos p) n

/-- The bit positions of a descriptor's field, least significant first (R302). -/
def Desc.positions (d : Desc) : List Nat :=
  if d.msbFirst then (msbPositions d.bitOff d.len).reverse else range d.bitOff d.len

/-- A bit of a data field. -/
def dataBit (data : List Byte) (p : Nat) : Bool := bit (le data (p / 8) 1) (p % 8)

/-- Set a bit of a data field. -/
def setDataBit (data : List Byte) (p : Nat) (v : Bool) : List Byte :=
  if p / 8 < data.length then data.set (p / 8) (BitVec.ofNat 8 (setBit (le data (p / 8) 1) (p % 8) v)) else data

/-- A field read at its positions. -/
def readField (data : List Byte) (ps : List Nat) : Nat :=
  ps.foldr (fun p a => flag (dataBit data p) + 2 * a) 0

/-- A field written at its positions. -/
def writeField (data : List Byte) (ps : List Nat) (v : Nat) : List Byte :=
  (ps.foldl (fun (a : List Byte × Nat) p => (setDataBit a.1 p (bit a.2 0), a.2 / 2)) (data, v)).1

/-! Conversion (R303 to R305). -/

/-- The rounding shift of R303. -/
def rshift (x : Int) (n : Nat) : Int := if n = 0 then x else (x + 2 ^ (n - 1)) / 2 ^ n

/-- A value held within bounds. -/
def clampInt (x lo hi : Int) : Int := if x < lo then lo else if hi < x then hi else x

/-- What one unpack descriptor writes (R303, R305). -/
structure Unpacked where
  /-- The value, or none where the slot keeps its own. -/
  value : Option Int := none
  /-- The value is the substitute. -/
  subst : Bool := false
  /-- `RAW_ERR`. -/
  rawErr : Bool := false
  /-- `PHYS_ERR`. -/
  physErr : Bool := false
  deriving DecidableEq, Repr

/-- The least value of 64 bits. -/
def minInt64 : Int := -(2 ^ 63)

/-- The greatest value of 64 bits. -/
def maxInt64 : Int := 2 ^ 63 - 1

/-- The second half of R303, from a raw value on. -/
def Desc.convert (d : Desc) (r : Int) (rawErr : Bool) : Unpacked :=
  let p := rshift (r * d.mult) d.shift + d.offset
  let q := clampInt p minInt64 maxInt64
  let out := decide (q < d.physLo) || decide (d.physHi < q)
  let err := out || decide (p ≠ q)
  if !out then { value := some q, rawErr := rawErr, physErr := err }
  else if d.rangeAct = 0 then { value := some (clampInt q d.physLo d.physHi), rawErr := rawErr, physErr := true }
  else if d.rangeAct = 1 then { rawErr := rawErr, physErr := true }
  else { value := some d.subst, subst := true, rawErr := rawErr, physErr := true }

/-- Unpack one field (R303). -/
def Desc.unpack (d : Desc) (data : List Byte) : Unpacked :=
  let v := readField data d.positions
  let r : Int := if d.signed then toSigned d.len v else v
  if d.extRaw && (decide (r < d.rawLo) || decide (d.rawHi < r)) then
    if d.rangeAct = 0 then d.convert (clampInt r d.rawLo d.rawHi) true
    else if d.rangeAct = 1 then { rawErr := true }
    else { value := some d.subst, subst := true, rawErr := true }
  else d.convert r false

/-- The field of a descriptor lies within received data (R307). -/
def Desc.fits (d : Desc) (n : Nat) : Bool := d.positions.all fun p => decide (p < 8 * n)

/-- The raw value that a descriptor packs, and whether the value left its range (R304). -/
def Desc.packRaw (d : Desc) (x : Slot) : Int × Bool :=
  if (!x.fresh && d.substMode = 1) || !x.valid then (d.subst, false)
  else
    let r := rshift ((x.value - d.offset) * d.mult) d.shift
    if decide (r < d.rawLo) || decide (d.rawHi < r) then
      (if d.rangeAct = 0 then clampInt r d.rawLo d.rawHi else d.subst, true)
    else (r, false)

/-! Messages. -/

/-- The data field lengths that an FD frame codes. -/
def fdLengths : List Nat := [0, 1, 2, 3, 4, 5, 6, 7, 8, 12, 16, 20, 24, 32, 48, 64]

/-- The shortest data field of a format that holds `n` bytes (R313). -/
def dataLength (kind n : Nat) : Nat := if kind = 1 then (fdLengths.find? fun k => decide (n ≤ k)).getD n else n

/-- Byte 0 of a bus frame record (R122). -/
def BusMsg.format (m : BusMsg) : Nat :=
  m.kind * 64 + flag m.xtd 5 + flag m.remote 4 + flag m.brs 3 + flag m.esi 2

/-- A bus frame record (R122). -/
def BusMsg.record (m : BusMsg) (bus filter time : Nat) : List Byte :=
  leBytes 1 m.format ++ leBytes 1 bus ++ leBytes 2 m.data.length ++ leBytes 4 m.id ++ leBytes 1 m.sdt ++
    leBytes 1 m.vcid ++ leBytes 1 (flag m.sec) ++ leBytes 1 filter ++ leBytes 4 m.af ++ leBytes 8 time ++ m.data

/-- A message read from a bus frame record (R122). -/
def recordMsg (p : List Byte) : BusMsg :=
  let f := le p 0 1
  { kind := bits f 6 2, xtd := bit f 5, remote := bit f 4, brs := bit f 3, esi := bit f 2, id := le p 4 4,
    sdt := le p 8 1, vcid := le p 9 1, sec := bit (le p 10 1) 0, af := le p 12 4,
    data := field p 24 (le p 2 2) }

/-- The signal map of a version, if it is live (R332). -/
def State.mapOf (s : State) (ver : Nat) : Option SigMap :=
  if s.sig.cur.ver = ver then some s.sig.cur
  else match s.sig.old with
    | some m => if m.ver = ver then some m else none
    | none => none

/-! Composition (R318). -/

/-- Apply pack descriptors to a data field, counting (R304, R318). -/
def State.packAll (s : State) (data : List Byte) : List Desc → State × List Byte
  | [] => (s, data)
  | d :: r =>
    let (v, out) := d.packRaw (s.slot d.slot)
    let s := (s.count 7 0 ctrSigPackOps).sigOps 1
    let s := if out then (s.count 7 0 ctrSigPackRange).rangeEvent d.slot else s
    s.packAll (writeField data d.positions (ofSigned d.len v)) r

/-- The refusal of a composition is counted; EV076 for the first since the last clear (R320). -/
def State.composeDrop (s : State) (n : Nat) : State :=
  let s := s.count 7 0 ctrSigComposeDrop
  if s.sig.dropSeen then s
  else (s.modSig fun g => { g with dropSeen := true }).raiseOf 76 ⟨3, 0⟩ n

/-- Queued frames of a layout that have not started (R320). -/
def State.replaceable (s : State) (n : Nat) : List Nat :=
  (s.sw.frames.cells.filter fun c => c.2.layout == some n && c.2.admitted && decide (0 < c.2.refs) && !c.2.started &&
    !s.inBuffer c.1).map fun c => c.1

/-- Take every reference of a frame out of its queues (R320). -/
def State.withdraw (s : State) (f : Nat) : State :=
  let s := (List.range 24).foldl (fun s p => s.portTake p f fun s _ => s) s
  let s := s.busTake f fun s => s
  ((s.modFrame f fun x => { x with refs := 0 }).setCells f 0).retire f

/-- Queue the frame of a composed message with `REPLACE` and the refusal counts (R318, R320). While the switch core is
isolated the message is discarded (R16). -/
def State.queueComposed (s : State) (n : Nat) (l : Layout) (x : Frame) (ports : List Nat)
    (bus : Option (Nat × BusMsg)) : State :=
  if !s.unitUp ⟨2, 9⟩ || !s.chanOpen 3 2 then s else
  let s := s.cross 3 2
  let olds := if l.replace then s.replaceable n else []
  let s := olds.foldl (fun s f => (s.withdraw f).count 7 0 ctrSigComposeReplaced) s
  let (s, f) := s.newFrame { x with
    src := 257, layout := some n, cls := l.cls, verdict := 1, whole := true, fixed := true, atNs := s.now,
    wire := x.bytes.length + (if x.busRec then 0 else 4) }
  let s := s.admitRef f ports none bus
  if (s.frame f).admitted then s.count 7 0 ctrSigComposeOk
  else if ports.isEmpty || ports.any fun p => (s.port p).takes then (s.composeDrop n).retire f
  else s.retire f

/-- The message of a bus transmit layout (R313). -/
def Layout.busMsg (l : Layout) (n : Nat) (data : List Byte) (diverted : Bool) : BusMsg :=
  let f := bits l.target 8 8
  { kind := bits f 6 2, xtd := bit f 5, brs := bit f 3, id := l.id, data := data, sdt := l.sdt, vcid := l.vcid,
    af := l.af, cls := l.cls, layout := some n, divLayout := if l.divLayout = 0xFFFF then none else some l.divLayout,
    diverted := diverted }

/-- A message goes to the deep queue of a controller (R318 step 4). -/
def State.queueMsg (s : State) (n : Nat) (l : Layout) (b : Nat) (m : BusMsg) : State :=
  s.queueComposed n l { bytes := m.record b 0xFF s.activeNs, busRec := true, busDst := some b } [] (some (b, m))

/-! Secured messages (R321 to R325). -/

/-- The IV and the AAD of a secured message (R322). -/
def BusMsg.secureInput (m : BusMsg) (b counter : Nat) (payload : List Byte) : List Byte × List Byte :=
  (leBytes 1 b ++ beBytes 4 m.id ++ beBytes 7 counter,
    leBytes 1 m.format ++ leBytes 1 b ++ beBytes 2 m.data.length ++ beBytes 4 m.id ++ payload ++ beBytes 8 counter)

/-- The profile of a secured layout. -/
def SigMap.profile (g : SigMap) (l : Layout) : Profile := g.profiles.get {} l.profile

/-- `DETAIL` of a secured failure (R323). -/
def secDetail (layout b : Nat) : Nat := layout + b * 65536

/-- Discard for want of an engine (R324, R325). -/
def State.secNoEngine (s : State) (layout : Nat) : State :=
  ((s.count 7 0 ctrSigSecNoEngine).count 7 (0x10000 + layout) ctrLayoutLayoutSecFail).raiseOf 73 ⟨3, 0⟩ layout

/-- A failed key of a secured message (R323, R445). -/
def State.secKeyFail (s : State) (handle layout b : Nat) : State :=
  (((s.keyFail handle 0x81).count 7 0 ctrSigSecKeyFail).count 7 (0x10000 + layout) ctrLayoutLayoutSecFail).raiseOf
    77 ⟨3, 0⟩ (secDetail layout b)

/-- One use of a key in engine `e`, which keeps nothing of it afterwards (R446). -/
def State.secUse (s : State) (e k : Nat) : State :=
  (s.keyLoad e k).modEngine e fun x => { x with key := [], keySlot := none }

/-- Tag a secured message in engine `e` and queue it (R325). -/
def State.secSend (s : State) (e n : Nat) (l : Layout) (b : Nat) (m : BusMsg) : State :=
  let p := s.map.profile l
  if !s.keyUsable p.handle 4 (2 ^ e) then s.secKeyFail p.handle n b
  else
    let k := handleSlot p.handle
    let s := s.secUse e k
    let c := (((s.slot l.fvSlot).value + 1) % 2 ^ 64).toNat
    let s := s.modSlot l.fvSlot fun x => { x with value := toSigned 64 c }
    let payload := m.data.take (m.data.length - p.fvLen - p.tagLen)
    let (iv, aad) := m.secureInput b c payload
    let tag := (gcm (s.keySlot k).key iv aad [] false).2
    s.queueMsg n l b { m with data := payload ++ beBytes p.fvLen c ++ tag.take p.tagLen }

/-- A secured message at release: it is tagged in an engine, or waits for one (R325). -/
def State.secRelease (s : State) (n : Nat) (l : Layout) (b : Nat) (m : BusMsg) : State :=
  let p := s.map.profile l
  match s.engineLow p.engines with
  | some e => s.secSend e n l b m
  | none =>
    (s.modSig fun g => { g with secOut := g.secOut ++ [{ layout := n, msg := m, since := s.now, bus := b }] }).modSec
      fun x => { x with engWait := x.engWait ++ [(0x81, p.engines, 256 + n)] }

/-- Compose a bus layout for a controller (R318, R326). -/
def State.composeBus (s : State) (n : Nat) (l : Layout) (b : Nat) (diverted : Bool) : State :=
  let kind := bits l.target 14 2
  let (s, data) := s.packAll (List.replicate (dataLength kind l.mlen) (BitVec.ofNat 8 l.fill)) l.descs
  let m := l.busMsg n data diverted
  if l.secured then s.secRelease n l b m else s.queueMsg n l b m

/-! Diversion (R133, R134, R326, R327). -/

/-- Divert one composed message of controller `b` (R133, R134, R326). -/
def State.divert (s : State) (b layout : Nat) (m : BusMsg) : State :=
  let x := s.bus b
  let d := (x.cfg.getD {}).divertBus
  let y := s.bus d
  match s.map.layouts.find layout with
  | none => s.count 7 0 ctrSigDivertNone
  | some l =>
    if l.divLayout = 0xFFFF then s.count 7 0 ctrSigDivertNone
    else if y.busOff || !y.enabled || y.restricted then s.count 3 b ctrBusTxDivertLost
    else match s.map.layouts.find l.divLayout with
      | none => s.count 7 0 ctrSigDivertNone
      | some dl =>
        let s := (s.composeBus l.divLayout dl d true).count 3 b ctrBusTxDiverted
        if x.tx.divertSeen then s
        else (s.modTx b fun t => { t with divertSeen := true }).raiseOf 43 (busUnit b) m.detail

/-- A bus-off episode of a controller diverts (R133, R327). -/
def Bus.diverting (x : Bus) : Bool := x.episode && (x.cfg.getD {}).divertEn

/-- EV042 of a controller falls at this instant, by a command that waits in the queue (R327, log entry 75). -/
def State.busOnNow (s : State) (b : Nat) : Bool :=
  decide (127 ≤ (s.bus b).recovery) && s.pending.any fun c => match c with
    | .busRecoveryOccurrence u d => decide (u ≤ s.now) && d.val == b
    | _ => false

/-- Compose a layout from the committed store and queue the message (R318). -/
def State.compose (s : State) (n : Nat) : State :=
  match s.map.layouts.find n with
  | none => s
  | some l =>
    let s := s.count 7 (0x10000 + n) ctrLayoutLayoutFired
    if l.kind = 1 then
      let b := bits l.target 0 8
      let s := s.composeBus n l b false
      if (s.bus b).diverting && !s.busOnNow b then s.divert b n (l.busMsg n [] false) else s
    else
      let (s, data) := s.packAll (List.replicate l.mlen (BitVec.ofNat 8 l.fill)) l.descs
      if l.kind = 2 then
        let t := s.map.templates.get {} (bits l.id 0 10)
        let raw := t.header ++ data
        s.queueComposed n l {
          bytes := fitBytes (max 60 raw.length) raw, csum := t.flags % 4 + flag (!bit t.flags 1) 2, egress := bits l.target 0 24 } (bitList l.target 24) none
      else if l.kind = 3 then
        let rec24 := leBytes 1 0 ++ leBytes 1 0xFF ++ leBytes 2 l.mlen ++ leBytes 4 n ++ List.replicate 8 0 ++
          leBytes 8 s.activeNs
        if !s.chanOpen 3 5 then s else
        match (s.cross 3 5).tqPut (bits l.target 0 6) (2 ^ 33 + n) (rec24 ++ data) with
        | (s, .taken) => s.count 7 0 ctrSigComposeOk
        | (s, .tooLong) => s.composeDrop n
        | (s, .refused) => s
      else s

/-! Triggers (R316, R317). -/

/-- A trigger fires, once at one instant: its gap restarts, a pending firing goes, its layout composes (R317). -/
def State.fire (s : State) (k : Nat) : State :=
  match s.map.triggers.find k with
  | none => s
  | some t => if (s.run k).fired = some s.now then s else (s.modRun k fun r => { r with fired := some s.now, pending := false }).compose t.layout

/-- The gap of a trigger still runs (R317). -/
def State.inGap (s : State) (k : Nat) (t : Trig) : Bool :=
  match (s.run k).fired with
  | none => false
  | some f => decide (s.now < f + t.minGap * 100000)

/-- The slots that the `WATCH` descriptors of a layout name. -/
def Layout.watched (l : Layout) : List Nat := (l.descs.filter fun d => d.watch).map fun d => d.slot

/-- A trigger hears changes of values and of status (R317). -/
def SigMap.hears (g : SigMap) (t : Trig) (changed status : List Nat) : Bool :=
  t.change && ((g.layouts.get {} t.layout).watched.any fun w =>
    changed.contains w || (t.onStatus && status.contains w))

/-- Triggers fire at this instant (R317); they compose with `State.fireFlush`. -/
def State.fireDue (s : State) (l : List Nat) : State := s.modSig fun g => { g with due := g.due ++ l }

/-- On-change triggers after a commit: those in their gap wait as pending firings (R317). -/
def State.changes (s : State) (changed status : List Nat) : State :=
  let hit := s.map.triggers.cells.filter fun c => s.map.hears c.2 changed status
  let wait := hit.filter fun c => s.inGap c.1 c.2
  let go := hit.filter fun c => !s.inGap c.1 c.2
  let s := wait.foldl (fun s c => s.modRun c.1 fun r => { r with pending := true }) s
  s.fireDue (go.map fun c => c.1)

/-- The events of a time trigger fire the periodic triggers on it (R317). -/
def State.periodic (s : State) (n : Nat) : State :=
  let mine := s.map.triggers.cells.filter fun c => c.2.periodic && c.2.timeTrig == n
  let go := mine.filter fun c => (s.run c.1).index % c.2.divider == c.2.phase
  let s := mine.foldl (fun s c => s.modRun c.1 fun r => { r with index := r.index + 1 }) s
  s.fireDue (go.map fun c => c.1)

/-! Speculative copies and compositions (R308, R319). -/

/-- The values that a frame would write, in descriptor order. -/
def Layout.writes (l : Layout) (data : List Byte) : List (Nat × Int) :=
  l.descs.filterMap fun d =>
    if !d.pack && d.fits data.length then (d.unpack data).value.map fun v => (d.slot, v) else none

/-- The value of a slot as the store with some writes on top would hold it. -/
def State.specValue (s : State) (w : List (Nat × Int)) (slot : Nat) : Int :=
  match w.reverse.find? fun x => x.1 == slot with
  | some x => x.2
  | none => (s.slot slot).value

/-- A source frame takes a speculative copy set, and each on-change trigger that it would fire composes
speculatively (R308, R319). The Boolean says that a set was free. -/
def State.specStart (s : State) (fid src layout ver : Nat) (data : List Byte) : State × Bool :=
  if 128 ≤ s.sig.specSets then (s, false)
  else
    match s.mapOf ver with
    | none => (s, false)
    | some g =>
      let w := (g.layouts.get {} layout).writes data
      let changed := (w.map fun x => x.1).filter fun k => s.specValue w k != (s.slot k).value
      let hit := s.map.triggers.cells.filter fun c => s.map.hears c.2 changed []
      (s.modSig fun x => { x with
        specSets := x.specSets + 1
        specs := x.specs ++ hit.map fun c =>
          let reads := ((s.map.layouts.get {} c.2.layout).descs.map fun d => d.slot).filter fun k =>
            !(w.any fun y => y.1 == k)
          { layout := c.2.layout, trig := c.1, bus := src, fid := fid, ver := s.map.ver,
            reads := reads.map fun k => (k, (s.slot k).value) } }, true)

/-- A copy set and the compositions of a frame of a source go (R36, R54, R319). -/
def State.specEnd (s : State) (fid src : Nat) (set : Bool) : State :=
  if !set then s
  else
    let n := (s.sig.specs.filter fun c => c.fid == fid).length
    let s := s.modSig fun x => { x with
      specSets := x.specSets - 1, specs := x.specs.filter fun c => c.fid != fid }
    let s := if src < 32 then s.count 3 src ctrBusSpecUnpackDiscarded else s
    if n = 0 then s else s.count 7 0 ctrSigSpecComposeDiscarded n

/-- The compositions of a frame at its commit: released, recomposed or discarded (R319). -/
def State.specRelease (s : State) (fid : Nat) (set : Bool) (changed : List Nat) : State :=
  let mine := s.sig.specs.filter fun c => c.fid == fid
  let go := mine.filter fun c => match s.map.triggers.find c.trig with
    | some t => s.map.hears t changed [] && !s.inGap c.trig t
    | none => false
  let redone := go.filter fun c =>
    c.ver != s.map.ver || c.reads.any fun r => (s.slot r.1).value != r.2
  let s := s.modSig fun x => { x with
    specSets := x.specSets - (if set then 1 else 0), specs := x.specs.filter fun c => c.fid != fid }
  let s := if redone.isEmpty then s else s.count 7 0 ctrSigSpecComposeRedone redone.length
  if go.length = mine.length then s else s.count 7 0 ctrSigSpecComposeDiscarded (mine.length - go.length)

/-! Commits (R297 to R299, R303, R310). -/

/-- What a commit to a slot needs beside the value. -/
structure Commit where
  /-- `SRC`. -/
  src : Nat := 63
  /-- Active-time ns of the validity instant (R297). -/
  valid : Nat := 0
  /-- A verified secured message. -/
  secured : Bool := false
  deriving DecidableEq, Repr

/-- `STAMP` of an instant (R295). -/
def stampOf (ns : Nat) : Nat := bits ns 10 32

/-- A slot leaves the stale ones. -/
def State.unstale (s : State) (k : Nat) : State :=
  if (s.slot k).stale then
    (s.modSlot k fun x => { x with stale := false }).modSig fun g => { g with staleCount := g.staleCount - 1 }
  else s

/-- One unpacked value goes into its slot (R296, R303, R305, R310). -/
def State.commitValue (s : State) (c : Commit) (d : Desc) (u : Unpacked) : State :=
  let s := (s.count 7 0 ctrSigUnpackOps).sigOps 1
  let s := if u.rawErr then s.count 7 0 ctrSigRawRangeErr else s
  let s := if u.physErr then s.count 7 0 ctrSigPhysRangeErr else s
  let s := if u.rawErr || u.physErr then s.rangeEvent d.slot else s
  match u.value with
  | none => s.modSlot d.slot fun x => { x with rawErr := x.rawErr || u.rawErr, physErr := x.physErr || u.physErr }
  | some v =>
    (s.unstale d.slot).modSlot d.slot fun x => { x with
      value := v, valid := true, fresh := true, subst := u.subst, rawErr := u.rawErr, physErr := u.physErr,
      secured := c.secured, src := c.src, stamp := stampOf c.valid,
      expiry := if d.fresh = 0 then none else some (s.now + d.fresh * 100000),
      substMode := d.substMode == 1, substVal := d.subst }

/-- Slots whose value differs between two states. -/
def changedSlots (a b : State) (l : List Nat) : List Nat :=
  l.filter fun k => (a.slot k).value != (b.slot k).value

/-- Slots whose `FRESH` or `SUBST` differs between two states. -/
def statusSlots (a b : State) (l : List Nat) : List Nat :=
  l.filter fun k => (a.slot k).fresh != (b.slot k).fresh || (a.slot k).subst != (b.slot k).subst

/-- Commit the fields of one frame in descriptor order (R298, R299, R307). -/
def State.commitData (s : State) (c : Commit) (l : Layout) (data : List Byte) : State :=
  l.descs.foldl (fun s d =>
    if d.pack then s
    else if d.fits data.length then s.commitValue c d (d.unpack data)
    else s.count 7 0 ctrSigUnpackShort) s

/-- Commit one frame and run what follows: counts, speculative compositions, on-change triggers (R298, R317, R319). `fv` is
the freshness counter of a verified frame, whose slot the commit changes with the others (R323). -/
def State.commitFrame (s : State) (w : CommitWait) (l : Layout) (data : List Byte) (fv : Option Nat) : State :=
  let slots := ((l.descs.map fun d => d.slot) ++ (if fv.isSome then [l.fvSlot] else [])).dedup
  let s0 := match fv with
    | some c => s.modSlot l.fvSlot fun x => { x with value := toSigned 64 c }
    | none => s
  let s1 := if w.remote then s0
    else s0.commitData { src := w.src, valid := w.valid, secured := fv.isSome } l data
  let changed := changedSlots s s1 slots
  let status := statusSlots s s1 slots
  let s2 := (s1.count 7 0 ctrSigFramesCommitted).specRelease w.fid w.specSet changed
  s2.changes changed status

/-- The least counter above `a` whose low bytes are `f` (R323). -/
def counterOf (a f fvLen : Nat) : Nat :=
  let m := 2 ^ (8 * fvLen)
  let c := a / m * m + f
  if a < c then c else c + m

/-- A secured frame fails: nothing commits, the copies go (R323). -/
def State.secFail (s : State) (w : CommitWait) (ctr ev : Nat) : State :=
  (((s.specEnd w.fid w.src w.specSet).count 7 0 ctr).count 7 (0x10000 + w.layout) ctrLayoutLayoutSecFail).raiseOf
    ev ⟨3, 0⟩ (secDetail w.layout w.src)

/-- The signal engine releases a cipher engine at the tag verdict (R431). -/
def State.secFree (s : State) (w : CommitWait) : State :=
  match w.engine with
  | some e => s.engineRelease e
  | none => s

/-- A result whose key was revoked after the engine loaded it is counted (R448). -/
def State.secRevoked (s : State) (w : CommitWait) : State :=
  match w.engine with
  | some e => if (s.engine e).revoked then s.count 11 0x10000 ctrKeyParentRevokedResults else s
  | none => s

/-- The verdict of a secured frame: key, freshness, tag (R323, R324); a tamper alarm has failed it (R451). -/
def State.commitSecured (s : State) (w : CommitWait) (g : SigMap) (l : Layout) : State :=
  let p := g.profile l
  if w.fail = 3 then
    (((s.specEnd w.fid w.src w.specSet).secKeyFail p.handle w.layout w.src).secFree w)
  else if w.fail = 4 then (s.specEnd w.fid w.src w.specSet).secNoEngine w.layout
  else if w.fail = 5 then (s.specEnd w.fid w.src w.specSet).secFree w
  else
    let n := w.data.length - p.fvLen - p.tagLen
    let payload := w.data.take n
    let a := ((s.slot l.fvSlot).value % 2 ^ 64).toNat
    let c := counterOf a (be w.data n p.fvLen) p.fvLen
    if w.data.length < p.fvLen + p.tagLen || decide (p.window < c - a) then
      (s.secFail w ctrSigSecFreshFail 72).secFree w
    else
      let m : BusMsg := {
        kind := w.kind, xtd := bit w.fmt 5, remote := bit w.fmt 4, brs := bit w.fmt 3,
        esi := bit w.fmt 2, id := w.ident, data := w.data }
      let (iv, aad) := m.secureInput w.src c payload
      let key := match w.engine with
        | some e => (s.engine e).key
        | none => []
      let s := s.secRevoked w
      let tag := (gcm key iv aad [] false).2
      if tag.take p.tagLen == field w.data (n + p.fvLen) p.tagLen then
        ((s.secFree w).count 7 0 ctrSigSecOk).commitFrame w l payload (some c)
      else (s.secFail w ctrSigSecTagFail 71).secFree w

/-- Commit a waiting frame under its own map version (R298, R332). -/
def State.commitWait (s : State) (w : CommitWait) : State :=
  match s.mapOf w.ver with
  | none => s.specEnd w.fid w.src w.specSet
  | some g =>
    let l := g.layouts.get {} w.layout
    if w.secured then s.commitSecured w g l else s.commitFrame w l w.data none

/-! Freshness (R310, R311). -/

/-- A slot loses its freshness: the substitute applies under mode 01 (R310). -/
def Slot.lapse (x : Slot) : Slot :=
  if x.substMode then { x with fresh := false, expiry := none, value := x.substVal, subst := true, stale := true }
  else { x with fresh := false, expiry := none, stale := true }

/-- The freshness timer of a slot expires (R310, R311). -/
def State.freshExpiry (s : State) (k : Nat) : State :=
  let x := s.slot k
  match x.expiry with
  | none => s
  | some e =>
    if x.fresh && decide (e ≤ s.now) then
      let s1 := ((s.modSlot k Slot.lapse).count 7 0 ctrSigStaleEvents).staleUp k
      s1.changes (changedSlots s s1 [k]) [k]
    else s

/-! One instant (R298, R311, R317, R318). -/

/-- Commands of the Signal Island of this instant wait in the queue (log entry 75). -/
def State.sigMore (s : State) : Bool :=
  s.pending.any fun c => match c with
    | .sourceFrameCommit u => decide (u ≤ s.now)
    | .sigWrite u _ => decide (u ≤ s.now)
    | .sigTriggerFire u _ => decide (u ≤ s.now)
    | .freshnessExpiry u _ => decide (u ≤ s.now)
    | .triggerGapEnd u _ => decide (u ≤ s.now)
    | .timeTriggerFire u _ => decide (u ≤ s.now)
    | _ => false

/-- The end of an instant in the Signal Island, once no further command of it waits: the expiries that no commit overtook
apply, then the triggers that fire compose, each once, in ascending number (R311, R317, R318). -/
def State.fireFlush (s : State) : State :=
  if s.sigMore then s
  else
    let s := s.sig.lapse.foldl State.freshExpiry (s.modSig fun g => { g with lapse := [] })
    let l := sortBy (fun a b => decide (a ≤ b)) s.sig.due.dedup
    l.foldl State.fire (s.modSig fun g => { g with due := [] })

/-- A restart of the Signal Island leaves nothing of a frame bound for it: it can no longer be delivered (R23). -/
def BusRx.undo (r : BusRx) : BusRx :=
  if r.dest = 1 then { r with fid := 0, engine := none, waitEngine := none, specSet := false } else r

/-- A restart of the Signal Island: every slot is not fresh and substitutes apply; frames, copies, compositions, pending
firings and waits inside the engine go, and are counted (R23, R54). -/
def State.signalRestart (s : State) : State :=
  let n := (s.sig.slots.cells.filter fun c => c.2.fresh && !c.2.stale).length
  let copies := (s.sig.wait.filterMap fun w => if w.specSet && decide (w.src < 32) then some w.src else none) ++
    (s.buses.cells.filter fun c => match c.2.rx with
      | some r => r.dest == 1 && r.specSet
      | none => false).map fun c => c.1
  let s := s.each copies fun s b => s.count 3 b ctrBusSpecUnpackDiscarded
  let s := if s.sig.specs.isEmpty then s else s.count 7 0 ctrSigSpecComposeDiscarded s.sig.specs.length
  let s := s.modSig fun g => { g with
    slots := g.slots.map fun _ x => if x.fresh then x.lapse else x
    staleCount := g.staleCount + n
    runs := g.runs.map fun _ r => { r with pending := false }
    specs := [], specSets := 0, wait := [], secOut := [], due := [], lapse := [] }
  let s := { s with
    buses := s.buses.map fun _ (x : Bus) => { x with rx := x.rx.map BusRx.undo } }
  let s := s.modSw fun w => { w with frames := w.frames.map fun _ (x : Frame) => { x with specSet := false, sigCut := true } }
  let s := s.modSec fun x => { x with engWait := x.engWait.filter fun w => w.1 != 0x81 }
  (List.range 8).foldl (fun s e => if (s.engine e).lock = 0x81 then s.engineRelease e else s) s

/-! Host access. -/

/-- `STATUS` of a slot (R296). -/
def Slot.status (x : Slot) : Nat :=
  flag x.valid 15 + flag x.fresh 14 + flag x.subst 13 + flag x.rawErr 12 + flag x.physErr 11 + flag x.secured 10 + x.src

/-- A slot as `sig.read` returns it (R295). -/
def Slot.bytes (x : Slot) : List Byte :=
  leBytes 8 (ofSigned 64 x.value) ++ leBytes 2 x.status ++ leBytes 4 x.stamp ++ [0, 0]

/-- Reset a slot to its initial value (R312, R335). -/
def Slot.initial (v : Int) : Slot := { value := v }

/-- Reset one slot of the store as the map defines it (R335). -/
def State.slotReset (s : State) (k : Nat) (v : Int) : State :=
  (s.unstale k).modSlot k fun _ => Slot.initial v

/-- A host value goes into a slot (R329). -/
def State.hostValue (s : State) (k : Nat) (v : Int) : State :=
  let d := s.map.slots.get {} k
  (s.unstale k).modSlot k fun x => { x with
    value := v, valid := true, fresh := true, subst := false, rawErr := false, physErr := false, secured := false,
    src := 62, stamp := stampOf s.activeNs,
    expiry := if d.hostFresh = 0 then none else some (s.now + d.hostFresh * 100000),
    substMode := false, substVal := 0 }

end Sys2Proof.Machine
end

