-- ==== Sys2Proof/Machine/TableOps.lean ====
section
/-! DEFINITION. The lookup tables: the LPM trie and its next hops, the L2 table, the direct tables
(R226 to R248). -/

namespace Sys2Proof.Machine

open Sys2Proof

/-! The LPM trie. One root and seven stage memories serve both families (R226): a prefix is a string of bits, and an
IPv4 and an IPv6 prefix with the same leading bits share entries and nodes. -/

/-- Address bits of a family. -/
def addrBits (v6 : Bool) : Nat := if v6 then 128 else 32

/-- The bits of a prefix as a number of `plen` bits. -/
def Route.bits (r : Route) : Nat := r.pfx / 2 ^ (addrBits r.v6 - r.plen)

/-- A route covers every address that starts with `len` given bits. -/
def Route.covers (r : Route) (len pfx : Nat) : Bool :=
  decide (r.plen ≤ len) && r.bits == pfx / 2 ^ (len - r.plen)

/-- A route is longer than `len` bits and starts with given ones. -/
def Route.under (r : Route) (len pfx : Nat) : Bool :=
  decide (len < r.plen) && r.bits / 2 ^ (r.plen - len) == pfx

/-- The longest route that covers `len` given bits; of two families with the same bits the one added later, whose
write of the shared entry came last (log entry 26). -/
def lpmBest (routes : List Route) (len pfx : Nat) : Option Route :=
  (routes.filter fun r => r.covers len pfx).foldl (fun a r => match a with
    | none => some r
    | some b => if b.plen ≤ r.plen then some r else some b) none

/-- A root or run entry of 32 bits (R227): `KIND` in bits [31:30], `MEM` in [29:27], `PTR` in [15:0]. -/
def lpmWord (kind mem ptr : Nat) : Nat := kind * 2 ^ 30 + mem * 2 ^ 27 + ptr

/-- The stage memory of a position (R229). -/
def posMem (pos : Nat) : Nat := (pos - 1) % 7 + 1

/-- The node that stands after `len` given bits. -/
def nodeAt (nodes : List LpmNode) (len pfx : Nat) : Option LpmNode :=
  nodes.find? fun n => n.len == len && n.pfx == pfx

/-- The entry that `len` given bits lead to: `KIND` 10 with the child node, 01 with the next hop of the longest route,
or 00 (R227). Routes are pushed to the leaves (R228). -/
def lpmEntry (routes : List Route) (nodes : List LpmNode) (len pfx : Nat) : Nat :=
  match nodeAt nodes len pfx with
  | some n => lpmWord 2 (posMem n.pos) n.word
  | none => match lpmBest routes len pfx with
    | some r => lpmWord 1 0 r.hop
    | none => 0

/-- The entries of the 256 slots of a node (R228). -/
def nodeSlots (routes : List Route) (nodes : List LpmNode) (n : LpmNode) : List Nat :=
  (List.range 256).map fun x => lpmEntry routes nodes (n.len + 8) (n.pfx * 256 + x)

/-- The slots that start a run: slot 0, and each whose entry differs from the one before it (R228). -/
def runStarts (slots : List Nat) : List Nat :=
  (List.range slots.length).filter fun i => i == 0 || slots.getD i 0 != slots.getD (i - 1) 0

/-- `BITMAP` word *w* of some slots, 0 to 3 (R228). -/
def bitmapWord (slots : List Nat) (w : Nat) : Nat :=
  ofBits (((runStarts slots).filter fun i => i / 64 == w).map fun i => i % 64)

/-- The run entries of some slots (R228). -/
def runEntries (slots : List Nat) : List Nat := (runStarts slots).map fun i => slots.getD i 0

/-- Words of a run array: two entries share one (R228). -/
def runWords (runs : Nat) : Nat := (runs + 1) / 2

/-- Word `a` of stage memory `mem`: a bitmap word, a `BASE` and `RUNS` word, or two run entries (R226 to R228). -/
def State.stageWord (s : State) (mem a : Nat) : Nat :=
  match s.tbl.nodes.find? fun n => posMem n.pos == mem &&
      (inRange a n.word (n.word + 4) || inRange a n.base (n.base + runWords n.runs - 1)) with
  | none => 0
  | some n =>
    let slots := nodeSlots s.tbl.routes s.tbl.nodes n
    if inRange a n.word (n.word + 3) then bitmapWord slots (a - n.word)
    else if a = n.word + 4 then n.base * 2 ^ 48 + n.runs * 2 ^ 32
    else
      let e := runEntries slots
      e.getD (2 * (a - n.base)) 0 + e.getD (2 * (a - n.base) + 1) 0 * 2 ^ 32

/-- Root entry `i` (R226). -/
def State.rootEntry (s : State) (i : Nat) : Nat := lpmEntry s.tbl.routes s.tbl.nodes 16 i

/-- What an LPM lookup has read and where it stands (R229). -/
structure LpmRead where
  /-- Words read so far, as table and index: root entries, stage memory words, next-hop records. -/
  reads : List (Nat × Nat) := []
  /-- An entry read has `KIND` 11 and counts as bad: its table. -/
  broken : Option Nat := none
  /-- Next hop of the result, or none for a miss. -/
  hop : Option Nat := none
  deriving DecidableEq, Repr

/-- The lookup of R229 from an entry on, at most `fuel` more nodes; `a` are the address and its bits, `used` the bits
consumed. A node after the last bit of the address is a miss (log entry 71). -/
def State.lpmFrom (s : State) (bitsA a : Nat) (r : LpmRead) : Nat → Nat → Nat → LpmRead
  | 0, _, _ => r
  | fuel + 1, used, e =>
    let kind := bits e 30 2
    let mem := bits e 27 3
    let ptr := bits e 0 16
    if kind = 1 then { r with reads := r.reads ++ [(2, bits e 0 12)], hop := some (bits e 0 12) }
    else if kind = 3 then { r with broken := some (if used = 16 then 0 else 1) }
    else if kind ≠ 2 || bitsA < used + 8 then r
    else
      let x := a / 2 ^ (bitsA - used - 8) % 256
      let at_ (k : Nat) : Nat × Nat := (1, mem * 65536 + k)
      let ones := ((List.range 4).map fun w =>
        ((List.range 64).filter fun i => decide (w * 64 + i ≤ x) && bit (s.stageWord mem (ptr + w)) i).length).sum
      let run := ones - 1
      let base := s.stageWord mem (ptr + 4) / 2 ^ 48
      let w := s.stageWord mem (base + run / 2)
      let r := { r with
        reads := r.reads ++ (range ptr (x / 64 + 1)).map at_ ++ [at_ (ptr + 4), at_ (base + run / 2)] }
      s.lpmFrom bitsA a r fuel (used + 8) (if run % 2 = 0 then w % 2 ^ 32 else w / 2 ^ 32)

/-- The LPM lookup of an address (R229): what it reads, and its result. -/
def State.lpmWalk (s : State) (v6 : Bool) (addr : Nat) : LpmRead :=
  let i := addr / 2 ^ (addrBits v6 - 16)
  s.lpmFrom (addrBits v6) addr { reads := [(0, i)] } 15 16 (s.rootEntry i)

/-! Placing nodes (R230, R233, R234). -/

/-- The bits before the nodes that a route needs: after 16 bits, 24 bits and so on (R228). -/
def Route.nodes (r : Route) : List (Nat × Nat) :=
  (List.range 14).filterMap fun k =>
    if 16 + 8 * k < r.plen then some (16 + 8 * k, r.bits / 2 ^ (r.plen - (16 + 8 * k))) else none

/-- The nodes that some routes need, shorter prefixes first. -/
def nodesNeeded (routes : List Route) : List (Nat × Nat) :=
  sortBy (fun (a b : Nat × Nat) => decide (a.1 < b.1)) (routes.flatMap Route.nodes).dedup

/-- The last position that a node may take, so that each family has positions for its levels below: an IPv4 node is
never placed in pass 2 (R230). -/
def lpmCap (routes : List Route) (len pfx : Nat) : Nat :=
  (routes.filter fun r => r.under len pfx).foldl
    (fun a r => min a ((if r.v6 then 14 else 7) - (r.plen - len - 1) / 8)) 14

/-- What the slots of a node mean, whatever the places of its children: the run structure and the results
(R228). -/
def slotShape (routes : List Route) (len pfx : Nat) : List (Option Nat × Option Nat) :=
  (List.range 256).map fun x =>
    let p := pfx * 256 + x
    if routes.any fun r => r.under (len + 8) p then (some x, none)
    else (none, (lpmBest routes (len + 8) p).map fun r => r.hop)

/-- The slots of a shape that start a run. -/
def shapeStarts (l : List (Option Nat × Option Nat)) : List Nat :=
  (List.range l.length).filter fun i => i == 0 || l.getD i (none, none) != l.getD (i - 1) (none, none)

/-- The words that a node holds in its stage memory, as first word and number. -/
def LpmNode.pieces (n : LpmNode) : List (Nat × Nat) := [(n.word, 5), (n.base, runWords n.runs)]

/-- Words in use in all stage memories (R234). -/
def lpmUsed (nodes : List LpmNode) : Nat := (nodes.map fun n => 5 + runWords n.runs).sum

/-- The words of a stage memory that may not be written: those in use, and those freed less than 40 µs ago (R233). -/
def busyWords (nodes : List LpmNode) (freed : List LpmFreed) (now mem : Nat) : List (Nat × Nat) :=
  (nodes.filter fun n => posMem n.pos == mem).flatMap LpmNode.pieces ++
    (freed.filter fun x => x.mem == mem && decide (now < x.atNs + 40000)).map fun x => (x.word, x.words)

/-- Free words of a stage memory. -/
def freeWords (busy : List (Nat × Nat)) : Nat := 65536 - (busy.map fun b => b.2).sum

/-- The lowest place for `n` adjacent words beside the busy ones. -/
def firstFit (busy : List (Nat × Nat)) (n : Nat) : Option Nat :=
  ((0 :: busy.map fun b => b.1 + b.2).filter fun a =>
    decide (a + n ≤ 65536) && busy.all fun b => decide (a + n ≤ b.1) || decide (b.1 + b.2 ≤ a)).min?

/-- The trie while firmware changes it: the nodes, and the words freed. -/
structure LpmWork where
  /-- Nodes in place. -/
  nodes : List LpmNode := []
  /-- Words that became unreachable. -/
  freed : List LpmFreed := []
  deriving DecidableEq, Repr

/-- The words of a node become unreachable at an instant (R233). -/
def LpmNode.release (n : LpmNode) (pieces : List (Nat × Nat)) (now : Nat) : List LpmFreed :=
  pieces.map fun p => { mem := posMem n.pos, word := p.1, words := p.2, atNs := now }

/-- Put a node and its run array into a stage memory at a position: none where it has no room. -/
def LpmWork.put (w : LpmWork) (len pfx pos runs now : Nat) : Option LpmNode :=
  let busy := busyWords w.nodes w.freed now (posMem pos)
  match firstFit busy 5 with
  | none => none
  | some a => (firstFit ((a, 5) :: busy) (runWords runs)).map fun b =>
      { len := len, pfx := pfx, pos := pos, word := a, base := b, runs := runs }

/-- Write a new node (R230): at a position after its parent's and before its children's that leaves room for its
levels, in the memory with the most free words, the earliest position of equals. -/
def LpmWork.place (w : LpmWork) (routes : List Route) (len pfx runs now : Nat) : Option LpmNode :=
  let parent := match nodeAt w.nodes (len - 8) (pfx / 256) with
    | some n => if 16 < len then n.pos else 0
    | none => 0
  let kids := (w.nodes.filter fun n => n.len == len + 8 && n.pfx / 256 == pfx).map fun n => n.pos - 1
  let top := kids.foldl min (lpmCap routes len pfx)
  ((range (parent + 1) (top - parent)).filterMap fun p => w.put len pfx p runs now).foldl
    (fun (a : Option LpmNode) n => match a with
      | none => some n
      | some m =>
        let free (n : LpmNode) : Nat := freeWords (busyWords w.nodes w.freed now (posMem n.pos))
        if free m < free n then some n else some m) none

/-- Bring one node up to a new set of routes (R233): left alone, given a new run array, or written anew and made visible
through its parent's entry. -/
def LpmWork.settle (w : LpmWork) (old routes : List Route) (now : Nat) (k : Nat × Nat) : Option LpmWork :=
  let shape := slotShape routes k.1 k.2
  let starts := shapeStarts shape
  match nodeAt w.nodes k.1 k.2 with
  | none => (w.place routes k.1 k.2 starts.length now).map fun n => { w with nodes := w.nodes ++ [n] }
  | some n =>
    let parent := if k.1 = 16 then 0 else ((nodeAt w.nodes (k.1 - 8) (k.2 / 256)).map fun n => n.pos).getD 0
    let admissible := decide (parent < n.pos) && decide (n.pos ≤ lpmCap routes k.1 k.2)
    let before := slotShape old k.1 k.2
    let others := w.nodes.filter (· != n)
    if admissible && shape == before then some w
    else if admissible && starts == shapeStarts before then
      (firstFit (busyWords w.nodes w.freed now (posMem n.pos)) (runWords n.runs)).map fun b =>
        { nodes := others ++ [{ n with base := b }]
          freed := w.freed ++ n.release [(n.base, runWords n.runs)] now }
    else (w.place routes k.1 k.2 starts.length now).map fun m =>
      { nodes := others ++ [m], freed := w.freed ++ n.release n.pieces now }

/-- Bring the trie up to a new set of routes (R230, R233, R234); none where a stage memory is full outside the
reserve of 18 352 words, or a node has no admissible place. -/
def LpmWork.change (w : LpmWork) (old routes : List Route) (now : Nat) : Option LpmWork :=
  let need := nodesNeeded routes
  let gone := w.nodes.filter fun n => !need.contains (n.len, n.pfx)
  let w := { nodes := w.nodes.filter fun n => need.contains (n.len, n.pfx)
             freed := (w.freed.filter fun x => decide (now < x.atNs + 40000)) ++
               gone.flatMap fun n => n.release n.pieces now }
  match need.foldl (fun a k => match a with
      | none => none
      | some w => w.settle old routes now k) (some w) with
  | none => none
  | some w => if 458752 - 18352 < lpmUsed w.nodes then none else some w

/-- The trie after routes have gone. Where a stage memory has no room for the new copy of a node, firmware rewrites that
node in its place (log entry 26). -/
def LpmWork.prune (w : LpmWork) (old routes : List Route) (now : Nat) : LpmWork :=
  match w.change old routes now with
  | some w => w
  | none =>
    let need := nodesNeeded routes
    { w with nodes := (w.nodes.filter fun n => need.contains (n.len, n.pfx)).map fun n =>
        { n with runs := (shapeStarts (slotShape routes n.len n.pfx)).length } }

/-! The L2 table (R235). -/

/-- The bucket of a VID and an address (R235). -/
def l2Bucket (vid : Nat) (mac : List Byte) : Nat := crcTop 14 (beBytes 2 vid ++ mac)

/-- The indices of a bucket. -/
def l2Ways (vid : Nat) (mac : List Byte) : List Nat := range (l2Bucket vid mac * 4) 4

/-- The index of the entry of an address in a VLAN. -/
def State.l2Find (s : State) (vid : Nat) (mac : List Byte) : Option Nat :=
  (l2Ways vid mac).find? fun i => match s.tbl.l2.find i with
    | some e => e.vid == vid && e.mac == mac
    | none => false

/-- Entries whose `PORT` is a port (R239). -/
def State.l2Count (s : State) (p : Nat) : Nat := (s.tbl.l2.cells.filter fun c => c.2.port == p).length

/-- EV062 when the count of a port first reaches its limit after having been below it (R239). -/
def State.l2Limit (s : State) (p : Nat) : State :=
  let x := (s.port p).l2
  let reached := decide (x.l2Limit ≤ s.l2Count p)
  let s' := s.modPort p fun e => { e with l2 := { e.l2 with l2AtLimit := reached } }
  if reached && !x.l2AtLimit then s'.raiseOf 62 ⟨2, 7⟩ p else s'

/-- Remove every entry that matches a port and a VLAN (R242); the number removed comes with the state. -/
def State.l2Flush (s : State) (port vid : Option Nat) : State × Nat :=
  let hit (e : L2Ent) : Bool := (match port with | some p => e.port == p | none => true) &&
    (match vid with | some v => e.vid == v | none => true)
  let n := (s.tbl.l2.cells.filter fun c => hit c.2).length
  let s := s.modTbl fun t => { t with l2 := t.l2.filter fun _ e => !hit e }
  let s := (List.range 24).foldl State.l2Limit s
  (if n = 0 then s else s.count 5 0 ctrTblL2Flushed n, n)

/-! Bad entries (R47 to R49, R247). -/

/-- An entry is bad and under rewrite. -/
def State.isBad (s : State) (e : Nat × Nat) : Bool := s.tbl.bad.contains e

/-- A bucket of the L2 table is under rewrite (R248). -/
def State.bucketBad (s : State) (vid : Nat) (mac : List Byte) : Bool :=
  (l2Ways vid mac).any fun i => s.tbl.bad.contains (3, i)

/-! Direct and hashed bus identifiers (R123, R246). -/

/-- The bucket of a 29-bit identifier (R246). -/
def hashBucket (bus id : Nat) : Nat := crcTop 12 (leBytes 1 bus ++ beBytes 4 id)

/-- A hashed table can place a list of entries: no bucket takes more than four (R246, R31). -/
def hashFits (keys : List (Nat × Nat)) : Bool :=
  let b := keys.map fun k => hashBucket k.1 k.2
  b.all fun x => decide ((b.filter fun y => y == x).length ≤ 4)

/-- The word of an identifier in a map (R123), with the table and index read. -/
def SigMap.identifier (g : SigMap) (bus : Nat) (xtd : Bool) (id : Nat) : Option Nat :=
  let w := if xtd then g.hashed.find (bus * 2 ^ 29 + id) else g.direct.find (bus * 2048 + id)
  match w with
  | some v => if bit v 31 then some v else none
  | none => none

end Sys2Proof.Machine
end

