-- ==== Sys2Proof/Machine/Neighbour.lean ====
section
/-! DEFINITION. Causeway neighbours, sessions and the master, as link changes and messages move them
(R517 to R526). -/

namespace Sys2Proof.Machine

open Sys2Proof

/-! Hold windows (R279, R280). -/

/-- Every reference of a port is flushed at the end of its hold window (R280). -/
def State.portFlush (s : State) (p : Nat) : State :=
  let (s, n) := s.flushPort p
  let s := s.modPort p fun x => { x with eg := { x.eg with holdUntil := none, flushed := true } }
  (s.count 6 (0x10000 + p) ctrSwHoldFlushed).raiseOf 66 (portUnit p) (p + min n 0xFFFFFF * 256)

/-- A port enters its hold window (R279). -/
def State.holdEnter (s : State) (p : Nat) : State :=
  let x := s.port p
  let s := (s.creditRun p s.now).count 6 (0x10000 + p) ctrSwHoldEntered
  if x.eg.portHold = 0 then s.portFlush p
  else s.modPort p fun x => { x with eg := { x.eg with holdUntil := some (s.now + x.eg.portHold * 100000) } }

/-- A port forwards again (R280). -/
def State.holdLeave (s : State) (p : Nat) : State :=
  let x := s.port p
  let s := (s.creditRun p s.now).modPort p fun x => { x with eg := { x.eg with holdUntil := none, flushed := false } }
  if x.eg.holdUntil.isSome then s.count 6 (0x10000 + p) ctrSwHoldResumed else s

/-! Messages with the key check (R445). -/

/-- The client ID of a direction of a causeway port: 0 transmit, 1 receive (R525). -/
def cwClient (p d : Nat) : Nat := 0x90 + 2 * p + d

/-- The handle of a direction of a causeway port. -/
def CwPort.handle (x : CwPort) (d : Nat) : Nat := if d = 0 then x.keyTx else x.keyRx

/-- The engine of a direction of a causeway port. -/
def CwPort.eng (x : CwPort) (d : Nat) : Option Nat := if d = 0 then x.engTx else x.engRx

/-- The key of a direction passes its check for a frame (R445). -/
def State.cwKeyOk (s : State) (p d : Nat) : Bool :=
  let x := (s.port p).cw
  !x.enc || s.keyUsable (x.handle d) 3 (match x.eng d with | some e => 2 ^ e | none => 0)

/-- A transmit frame of an encrypting port is checked; a failure is counted and reported (R445). The Boolean says
that the frame may go. -/
def State.cwKeyTx (s : State) (p : Nat) : State × Bool :=
  if s.cwKeyOk p 0 then (s, true) else (s.keyFail (s.port p).cw.keyTx (cwClient p 0), false)

/-- Send a message on a port after its key check. -/
def State.tellPort (s : State) (p : Nat) (h : CwHead) (body : List Byte) : State :=
  let (s, ok) := s.cwKeyTx p
  if ok then s.cwSend p h body else s

/-- Send a link message of this device (R512). -/
def State.tellLink (s : State) (p : Nat) (body : List Byte) : State :=
  s.tellPort p { s.cwOwn 2 255 0xFF 7 with hops := 1 } body

/-- Send a message of this device to a device of the chain map (R511, R519). -/
def State.tell (s : State) (d kind : Nat) (body : List Byte) : State :=
  if s.cw.id = 0 then s
  else match s.viaTo d with
    | none => s.count 14 0 ctrCwCwUnreachable
    | some p => s.tellPort (s.bundlePick p s.cw.id d 7 []) (s.cwOwn kind d 0xFF 7) body

/-- Broadcast a control message of this device (R513, R519). -/
def State.tellAll (s : State) (body : List Byte) : State :=
  if s.cw.id = 0 then s
  else (s.bundlePorts s.cw.id 255 7 [] (s.cwPorts.filter fun p => (s.port p).cw.nbUp)).foldl
    (fun s p => s.tellPort p (s.cwOwn 2 255 0xFF 7) body) s

/-- A topology message goes out now (R521): firmware makes it. Its fields stand in an order of the model's (log entry 15):
`CTYPE` 2, ID, strap, `CASCADE`, lowest `MAC_ADDR`, the neighbour on E00 to E03. -/
def State.topologySend (s : State) : State :=
  let mac := (((s.cwPorts.map fun p => beNum (s.port p).cfg.mac).min?).getD 0)
  let b := leBytes 1 2 ++ leBytes 1 s.cw.id ++ leBytes 1 s.boot.pins.strap ++ leBytes 1 s.cw.cascade ++ beBytes 6 mac ++
    [0, 1, 2, 3].flatMap fun p =>
      let x := s.port p
      leBytes 1 (if x.cfg.causeway && x.cw.nbUp then x.cw.nbId else 0)
  if s.cw.id = 0 || !s.fwUp then s else (s.modCw fun c => { c with topoAt := s.now }).tellAll b

/-- The HELLO of a port (R520). -/
def State.helloBody (s : State) (p : Nat) : List Byte :=
  leBytes 1 1 ++ leBytes 1 s.boot.pins.strap ++ leBytes 1 s.cw.cascade ++ leBytes 1 p ++
    fitBytes 8 (s.port p).cw.nonce ++ leBytes 1 (s.port p).cw.bundle ++ [0, 0, 0]

/-- Firmware sends HELLO on a port, always plain (R520, R526). -/
def State.hello (s : State) (p : Nat) : State :=
  if !(s.port p).cfg.causeway || !s.fwUp then s
  else s.cwLink p (s.helloBody p) true

/-! The chain (R517, R521, R523). -/

/-- EV119 of a port with a cause (R537). -/
def State.cwLinkEvent (s : State) (p cause : Nat) : State := s.raiseOf 119 (portUnit p) (p + cause * 256)

/-- The chain map may have changed from `old` on: master and ring break are chosen again; a change raises EV117, and
a break placed, lifted or passed to another master flushes the L2 entries of the causeway ports (R517, R521, R523). -/
def State.chainSettle (s : State) (old : List (Nat × Nat × Nat)) : State :=
  let brk := s.breakHere
  let ring := if s.ringClosed then (if brk.isSome then 1 else 2) else 0
  let master := s.chooseMaster
  let moved := ring != s.cw.ring || brk != s.cw.breakPort || (ring != 0 && master != s.cw.master)
  let changed := moved || master != s.cw.master || s.chain != old
  let s := s.modCw fun c => { c with master := master, ring := ring, breakPort := brk }
  let s := if moved then s.each s.cwPorts fun s p => (s.l2Flush (some p) none).1 else s
  if changed then s.raise 117 0xFF noUnit (master + (s.chain.length + 1) * 256) else s

/-! Encryption (R525, R526). -/

/-- A direction of an encrypting port that has no engine takes one, or waits for one (R429, R525). -/
def State.cwClaim (s : State) (p d : Nat) : State :=
  let x := (s.port p).cw
  if !x.enc || !(s.port p).cfg.causeway || (x.eng d).isSome then s
  else
    let mask := (s.keySlot (handleSlot (x.handle d))).engines
    match s.engineHigh mask with
    | some e =>
      (s.engineTake e (cwClient p d)).modPort p fun y => { y with
        cw := if d = 0 then { y.cw with engTx := some e } else { y.cw with engRx := some e } }
    | none =>
      if s.sec.engWait.any fun w => w.1 == cwClient p d then s
      else s.modSec fun z => { z with engWait := z.engWait ++ [(cwClient p d, mask, p)] }

/-- A port gives its engines and its waits for engines back. -/
def State.cwUnclaim (s : State) (p : Nat) : State :=
  let x := (s.port p).cw
  let s := s.each (x.engTx.toList ++ x.engRx.toList) fun s e => s.engineRelease e
  let s := s.modSec fun z => { z with engWait := z.engWait.filter fun w => w.1 != cwClient p 0 && w.1 != cwClient p 1 }
  s.modPort p fun y => { y with cw := { y.cw with engTx := none, engRx := none } }

/-- The session key of a direction: a derivation with the slot as parent (R525). None where the key check fails. -/
def State.cwDerive (s : State) (p d : Nat) (context : List Byte) : State × Option (List Byte) :=
  let h := (s.port p).cw.handle d
  if !s.keyUsable h 3 0 then (s.keyFail h (cwClient p d), none)
  else
    let k := s.keySlot (handleSlot h)
    (s.keyUse (handleSlot h), some (kdf k.key [0x43, 0x57] context k.purpose (k.key.length == 32)))

/-- Derive the session keys of a port from the two nonces (R525): its link counters start anew. -/
def State.cwSession (s : State) (p : Nat) : State :=
  let x := (s.port p).cw
  if !x.enc || x.peerNonce.isEmpty then s
  else
    let (s, a) := s.cwDerive p 0 (x.nonce ++ x.peerNonce)
    let (s, b) := s.cwDerive p 1 (x.peerNonce ++ x.nonce)
    s.modPort p fun y => { y with
      cw := { y.cw with sessTx := a, sessRx := b, linkTx := 0, linkRx := 0 } }

/-- An encrypting port has its link, its session and its engines. -/
def Eth.encReady (x : Eth) : Bool :=
  x.linkUp && x.cw.sessTx.isSome && x.cw.sessRx.isSome && x.cw.engTx.isSome && x.cw.engRx.isSome

/-- Judge the state of an encrypting port (R526): without session or engines it forwards nothing, as with its link
down; EV119 with cause 2 or 3 on a change. -/
def State.encJudge (s : State) (p : Nat) : State :=
  let x := s.port p
  let wait := x.cfg.causeway && x.cw.enc && !x.encReady
  if wait = x.cw.encWait then s
  else
    let s := s.modPort p fun y => { y with cw := { y.cw with encWait := wait } }
    let s := if x.cfg.causeway && x.cw.enc then s.cwLinkEvent p (if wait then 2 else 3) else s
    if !x.linkUp then s
    else if wait then s.holdEnter p
    else s.holdLeave p

/-- A port draws a fresh `NONCE` (R520): its session ends, and the next HELLO of the neighbour completes the exchange that
brings the new one (R525). -/
def State.cwNonce (s : State) (p : Nat) : State :=
  let (v, s) := s.drawBytes 8
  (s.modPort p fun x => { x with
    cw := { x.cw with nonce := v, peerNonce := [], sessTx := none, sessRx := none, linkTx := 0, linkRx := 0 } }).encJudge p

/-- The neighbour of a port is lost (R520): EV119 with cause 1, the chain map follows, and a topology message tells it
(R521). -/
def State.nbLost (s : State) (p : Nat) : State :=
  if !(s.port p).cw.nbUp then s
  else
    let old := s.chain
    let s := s.modPort p fun x => { x with
      cw := { x.cw with nbUp := false, nbId := 0, peerNonce := [], sessTx := none, sessRx := none } }
    (((s.cwLinkEvent p 1).encJudge p).chainSettle old).topologySend

/-- A causeway port's link came up: a fresh `NONCE` and HELLO at once (R520). -/
def State.cwLinkUp (s : State) (p : Nat) : State :=
  if !(s.port p).cfg.causeway then s else (s.cwNonce p).hello p

/-- Neighbour state and session of a port are renegotiated (R534). -/
def State.cwRenew (s : State) (p : Nat) : State :=
  let s := (s.nbLost p).cwUnclaim p
  let s := (s.cwClaim p 0).cwClaim p 1
  ((s.cwNonce p).encJudge p).hello p

/-- The Security Island or an engine of it has been isolated: a port whose engine is gone has no session
(R430, R526). -/
def State.encReview (s : State) : State :=
  s.each [0, 1, 2, 3] fun s p =>
    let x := (s.port p).cw
    let gone (d : Nat) : Bool := match x.eng d with
      | some e => (s.engine e).lock != cwClient p d
      | none => false
    if gone 0 || gone 1 then
      (s.modPort p fun y => { y with
        cw := { y.cw with
          engTx := if gone 0 then none else y.cw.engTx
          engRx := if gone 1 then none else y.cw.engRx
          sessTx := none, sessRx := none } }).encJudge p
    else s

/-- The Security Island or an engine of it is back. A start of the island gives every causeway port a fresh `NONCE` (R520);
encrypting ports whose engines are missing claim them and start with a fresh one too (R526). -/
def State.encResume (s : State) (start : Bool) : State :=
  s.each s.cwPorts fun s p =>
    let x := (s.port p).cw
    if start || (x.enc && (x.engTx.isNone || x.engRx.isNone)) then (((s.cwClaim p 0).cwClaim p 1).cwNonce p).hello p else s

end Sys2Proof.Machine
end

