-- ==== Sys2Proof/Machine/Flow.lean ====
section
/-! DEFINITION. What several units do together when a frame is spoiled, a link is lost or returns, or a unit
stops: shared by the event families and by the fault collector (R16, R23, R38, R39, R152 to R154, R242, R279,
R280). -/

namespace Sys2Proof.Machine

open Sys2Proof

/-! Frames. -/

/-- The lookups of a frame that has no verdict yet are discarded with it (R46, R54); bad entries that they found are
reported as found by a discarded lookup (R47). -/
def State.lookupsDrop (s : State) (f : Nat) : State :=
  let x := s.frame f
  let s := s.modTbl fun t => { t with told := t.told ++ x.badSeen }
  (s.modFrame f fun x => { x with lookups := [], badSeen := [] }).each x.lookups
    fun s t => s.count 5 0 (ctrTblSpecLookupDiscarded + t)

/-! Policers (R45, R212). Levels are in 10^-6 bits: a rate of 1 kb/s adds 1 per ns. -/

/-- Levels brought up to an instant. -/
def Policer.refill (p : Policer) (t : Nat) : Policer :=
  { p with
    cLevel := min (p.cLevel + (p.cir * (t - p.atNs) : Nat)) (p.cbs * 8000000 : Nat)
    pLevel := min (p.pLevel + (p.pir * (t - p.atNs) : Nat)) (p.pbs * 8000000 : Nat)
    atNs := t }

/-- The colour of a frame of `n` bytes: 0 green, 1 yellow, 2 red. -/
def Policer.colour (p : Policer) (n : Nat) : Nat :=
  if p.pLevel < (n * 8000000 : Nat) then 2 else if p.cLevel < (n * 8000000 : Nat) then 1 else 0

/-- The debit of a coloured frame of `n` bytes at its end. -/
def Policer.debit (p : Policer) (colour n : Nat) : Policer :=
  { p with
    cLevel := if colour = 0 then p.cLevel - (n * 8000000 : Nat) else p.cLevel
    pLevel := if colour ≤ 1 then p.pLevel - (n * 8000000 : Nat) else p.pLevel }

/-- A frame that passed a policer ends, confirmed or spoiled: it debits its buckets, once (R45, R212). -/
def State.policeDebit (s : State) (f : Nat) : State :=
  let x := s.frame f
  if 3 ≤ x.colour || x.debited then s
  else
    (s.modPolicer x.action.policer fun p => (p.refill s.now).debit x.colour x.wire).modFrame f fun x => { x with debited := true }

/-- A confirmed frame that passed a policer is counted by its colour (R45). -/
def State.policeCount (s : State) (f : Nat) : State :=
  let x := s.frame f
  if 3 ≤ x.colour then s
  else
    let k := x.action.policer
    (s.count 4 (0x20000 + k) (ctrPolPolGreen + x.colour)).count 4 (0x20000 + k) (ctrPolPolGreenOctets + x.colour) x.wire

/-- Every sink of a frame sees its spoiled verdict (R36, R38, R39): tide copies are rewound, speculative copies
and lookups are discarded, references that have not started are freed. A frame whose verdict has come stays. -/
def State.spoilFrame (s : State) (f : Nat) : State :=
  let x := s.frame f
  if x.verdict ≠ 0 || (s.sw.frames.find f).isNone then s
  else
    let s := s.each x.tides fun s q => s.tqRewind q.1 f
    let s := (s.lookupsDrop f).policeDebit f
    let s := s.specEnd f x.sigSrc x.specSet
    s.frameSpoil f

/-- Frames that an ingress has not finished or that await their verdict. -/
def State.awaiting (s : State) (src : Nat) : List Nat :=
  (s.sw.frames.cells.filter fun c => c.2.src == src && c.2.verdict == 0).map fun c => c.1

/-! The twin link (R496). -/

/-- A change of a mirrored kind is sent to the standby partner (R496), or behind the copy to one that resynchronises (R501). The
body is internal to the pair
(R488, log entry 13). -/
def State.mirrorOut (s : State) (kind : Nat) (body : List Byte) : State :=
  if s.twin.role == .active && s.twin.linkUp && bit s.twin.mirror kind &&
      (s.twin.partner == some .standby || (s.twin.partner == some .resyncing && s.twin.copied)) then
    s.send (.twin 2 (leBytes 1 kind ++ body))
  else s

/-- Commands that would change mirrored configuration on a standby complete with `DENIED` (R495). -/
def State.standbyMirrors (s : State) (kind : Nat) : Bool := s.standby && bit s.twin.mirror kind

/-! Links. -/

/-- The transmission in progress on a port is cut off with its link (R154, R274). -/
def State.txCut (s : State) (p : Nat) : State :=
  match (s.port p).tx with
  | none => s
  | some t =>
    let s := (s.modPort p fun x => { x with tx := none }).send (.ethCut p)
    (s.count 2 p ctrEthTxLinkAbort).releaseRef t.frame

/-- Step-down of a port whose link is gone (R178): no step in progress, full rate; a disable that waited for the step up has
taken effect (R189). -/
def StepSt.ended (x : StepSt) : StepSt :=
  { x with
    phase := 0, outbox := [], stepped := false, rxStepped := false, txDone := false, rxDone := false, returning := false
    asked := none, lockLost := none, enable := x.enable && !x.stepUpThenOff, stepUpThenOff := false }

/-- A port's link is gone: transmission cut off, reception spoiled, EV049, the hold window, the L2 flush
(R152, R154, R242, R279). -/
def State.linkLost (s : State) (p : Nat) : State :=
  let x := s.port p
  if !x.linkUp then s
  else
    let s := (s.creditRun p s.now).txCut p
    let s := match x.rx with
      | some f => s.spoilFrame f
      | none => s
    let s := s.modPort p fun x => { x with
      linkUp := false, rx := none, cw := { x.cw with waiting := [] }, step := x.step.ended }
    let s := s.raiseOf 49 (portUnit p) p
    let s := if x.l2.l2FlushDown then (s.l2Flush (some p) none).1.mirrorOut 0 ([2] ++ leBytes 1 p ++ [0, 0]) else s
    let s := if x.cw.encWait then s else s.holdEnter p
    (s.nbLost p).encJudge p

/-- A port's link comes up: EV048, and dequeue resumes (R152, R280). A PLCA coordinator begins its cycles with a BEACON
(R157; the later cycles are timing, log entry 73). -/
def State.linkRaised (s : State) (p : Nat) : State :=
  let x := s.port p
  if x.linkUp then s
  else
    let s := s.modPort p fun x => { x with linkUp := true }
    let s := if x.cw.encWait then s else s.holdLeave p
    let s := if x.cfg.mode = 5 && x.cfg.plcaNode = 0 then s.send (.beacon p) else s
    ((s.raiseOf 48 (portUnit p) p).cwLinkUp p).pauseSend p

/-! Bus controllers. -/

/-- The frame that a controller receives ends with a spoiled verdict at its destination (R36, R39, R121). -/
def State.busRxSpoil (s : State) (b : Nat) : State :=
  match (s.bus b).rx with
  | none => s
  | some r =>
    let s := s.modBus b fun x => { x with rx := none }
    if r.dest = 1 then
      let s := match r.engine with
        | some e => s.engineRelease e
        | none => s
      let s := s.modSec fun x => { x with engWait := x.engWait.filter fun w => !(w.1 == 0x81 && w.2.2 == b) }
      let s := s.modTbl fun t => { t with told := t.told ++ r.badSeen.toList }
      (s.specEnd r.fid b r.specSet).count 5 0 (ctrTblSpecLookupDiscarded + (if r.msg.xtd then 7 else 6))
    else if r.dest = 2 then s.tqRewind r.queue (2 ^ 32 + b)
    else if r.dest = 3 then s.spoilFrame r.fid
    else s

/-- Every message of the hardware buffers goes back to the deep queue in priority order; the held message is
an ordinary one from then on (R23, R140). -/
def State.bufReturnAll (s : State) (b : Nat) : State :=
  let s := s.modTx b fun t => { t with
    held := none, heldOnly := false
    tb0 := { t.tb0 with engaged := false }, tb1 := { t.tb1 with engaged := false },
    tb2 := { t.tb2 with engaged := false } }
  ((s.bufReturn b 0).bufReturn b 1).bufReturn b 2

/-- A controller is isolated (R23): TXD recessive, its attempt and its reception cut off, its buffers back in
the deep queue. -/
def State.busIsolate (s : State) (b : Nat) : State :=
  let s := (s.busRxSpoil b).bufReturnAll b
  s.modBus b fun x => { x with txd := true, integrating := false, wantMode := none, tx := { x.tx with draining := none } }

/-- A controller returns after a reload (R23): TEC and REC 0, error-active; an enabled one integrates, a stopped
one that was bus-off ends its episode with EV042 at once. DESIGN CHOICE: EV034 is not raised where an error-passive one
becomes error-active this way (log entry 72). -/
def State.busReload (s : State) (b : Nat) : State :=
  let x := s.bus b
  let s := s.modBus b fun x => { x with
    tec := 0, recCount := 0, busOff := false, passive := false, recovering := false, recovery := 0,
    stuck := false, errWait := false, integrating := x.enabled, episode := x.episode && x.enabled,
    tx := { x.tx with noack := 0, noackEpisode := false, singleShot := false } }
  if x.episode && !x.enabled then s.raiseOf 42 (busUnit b) b else s

/-! Tide rings and audio. -/

/-- A ring stops as `dma.ring.disable` leaves it: a receive packet in transfer is abandoned and stays in its
queue (R421, R606). -/
def State.ringStop (s : State) (r : Nat) : State :=
  s.modRing r fun x => { x with rstate := 0, xferPos := none, xferBytes := 0, xferUsed := 0, paused := none }

/-- Audio stops with its unit: announcements in play end without EV092, buffers empty, the committed
configuration stays (R23, R391). -/
def State.audioRestart (s : State) : State :=
  s.modAud fun a => { a with
    anns := {}, inputs := [], blocks := [], block := -1
    ports := a.ports.map fun _ p => { p with running := false, sdo := [] }
    streams := a.streams.map fun _ x => { x with seq := none, lastPt := none, lost := false }
    xpoints := a.xpoints.map fun _ x => { x with coef := 0 }
    zones := a.zones.map fun _ z => { z with level := none, ramps := {} } }

/-! The packet buffer. -/

/-- The body of a transmission stops arriving: it is completed at full length with zero bytes and stomped (R39, R41, R42).
How much had arrived is a free value (log entry 3). `ctr` counts a frame that left before its verdict. -/
def State.txStarve (s : State) (p ctr : Nat) : State :=
  match (s.port p).tx with
  | none => s
  | some x =>
    if x.fcsSent then s
    else
      let (n, s) := s.drawBelow (x.bytes.length + 1)
      let s := s.modPort p fun y => { y with
        tx := some { x with fcsSent := true, stomp := true, bytes := fitBytes x.bytes.length (x.bytes.take n) } }
      if x.ct then s.count 2 p ctr else s

/-- Places outside the packet buffer that still send a frame: hardware buffers and transmissions in progress. -/
def State.holders (s : State) (f : Nat) : Nat :=
  (s.buses.cells.map fun c => (c.2.tx.held3.filter fun k => k.2.frame == f).length).sum +
    ((List.range 24).filter fun p => match (s.port p).tx with
      | some t => t.frame == f
      | none => false).length

/-- A frame that a port receives and whose packet the isolation barrier discards (R16): only the port judges it. -/
def Frame.bare (x : Frame) : Frame :=
  { src := x.src, bytes := x.bytes, wire := x.wire, fcsState := x.fcsState, rxTime := x.rxTime, atNs := x.atNs
    ipOk := x.ipOk, l4Ok := x.l4Ok, linkCtr := x.linkCtr, cw := x.cw, noLearn := true, fixed := true, placed := true
    dropRx := if x.dropRx = 6 || x.dropRx = 7 then 0 else x.dropRx }

/-- The packet buffer is cleared (R23): every frame and message it held is counted once in `restart_flushed`
of its pool, deep queues and class queues are empty, messages in hardware buffers stay. A transmission in progress goes on
to its full length and ends with a stomped FCS (R39, R42); a reception goes on at its port (R16). -/
def State.bufferClear (s : State) : State :=
  let s := s.each (s.sw.frames.cells.filter fun c => decide (0 < c.2.refs) && !s.inBuffer c.1)
    fun s c => s.count 6 c.2.pool ctrPoolRestartFlushed
  let rxs := (List.range 24).filterMap fun p => (s.port p).rx.map fun f => (f, (s.frame f).bare)
  let s := s.each (s.sw.frames.cells.filter fun c => c.2.verdict == 0) fun s c => s.spoilFrame c.1
  let s := s.each (List.range 24) fun s p => s.txStarve p ctrEthSpecCtStomped
  let s := s.each (List.range 24) fun s p => s.modPort p fun x => { x with
    eg := { x.eg with queues := {}, holdUntil := none } }
  let s := s.each (List.range 32) fun s b => s.modTx b fun t => { t with deep := [] }
  let kept := (s.sw.frames.filter fun f _ => s.holders f != 0).map fun f x => { x with cells := 0, refs := s.holders f }
  let s := s.modSw fun w => { w with
    frames := rxs.foldl (fun t r => t.set r.1 r.2) kept
    pools := w.pools.map fun _ p => { p with used := 0 } }
  ([0, 1, 2, 3].foldl State.poolJudge s).each (List.range 24) State.pauseJudge

end Sys2Proof.Machine
end

