-- ==== Sys2Proof/Machine/Collector.lean ====
section
/-! DEFINITION. The fault collector: sources, entries, the arbitration window, actions, restarts of islands and
units, the safe state (R15, R16, R20, R23 to R25, R463 to R477, R624). -/

namespace Sys2Proof.Machine

open Sys2Proof

/-! The sources (R467, R624). -/

/-- Default and minimum severity of a source; none where it is reserved (R467). -/
def srcRow (n : Nat) : Option (Nat × Nat) :=
  let k := if inRange n 32 38 then n - 16 else n
  if n ≤ 6 || inRange n 240 246 then some (2, 1)
  else if n = 7 || n = 9 || n = 14 then some (1, 0)
  else if n = 8 then some (1, 1)
  else if inRange n 10 12 || n = 146 || n = 247 then some (3, 3)
  else if n = 13 || n = 97 then some (0, 0)
  else if n = 15 then some (2, 1)
  else if k = 16 || k = 22 then some (1, 0)
  else if k = 17 || k = 18 || k = 20 || k = 21 then some (2, 1)
  else if k = 19 || n = 101 || n = 102 || n = 168 then some (3, 2)
  else if n = 96 || n = 100 || inRange n 104 111 || n = 130 then some (1, 0)
  else if n = 98 || n = 144 || n = 145 || inRange n 147 153 || n = 162 || n = 181 then some (1, 1)
  else if n = 99 || n = 103 || n = 128 || n = 129 || n = 131 || n = 161 || n = 163 || n = 183 then some (2, 1)
  else if n = 154 then some (2, 2)
  else if n = 160 || inRange n 164 167 || inRange n 176 180 || n = 184 || inRange n 192 201 then some (1, 0)
  else if n = 182 || n = 185 then some (4, 3)
  else none

/-- The island of a pin group's glitch storm source (R478). -/
def groupIsland (g : Nat) : Nat := if g = 5 then 4 else if g = 6 || g = 9 then 6 else if g = 4 || 7 ≤ g then 5 else g % 2

/-- The island of a source (R624). -/
def srcIsland (n : Nat) : Nat :=
  if n < 16 then 5
  else if n < 32 then 0
  else if n < 48 then 1
  else if n < 128 then 2
  else if n < 144 then 3
  else if n < 160 then 4
  else if n < 176 then 5
  else if n < 192 then 6
  else if n < 240 then groupIsland (n - 192)
  else 5

/-- The island that a severity 3 action of a source restarts (R624). -/
def srcRestartIsland (n : Nat) : Nat :=
  if n ≤ 6 then n else if inRange n 240 246 then n - 240 else srcIsland n

/-- The units that a severity 2 action of a source restarts (R467), sources with several units naming theirs
by `target`: island * 64 + unit. -/
def srcUnitsOne (n target : Nat) : List UnitId :=
  let w := if inRange n 32 47 then 1 else 0
  let k := if w = 1 then n - 16 else n
  let named : List UnitId := [⟨target / 64, target % 64⟩]
  if n ≤ 6 then named
  else if n = 14 || n = 161 then [⟨5, 6⟩]
  else if n = 15 then [⟨5, 3⟩]
  else if k = 16 then [⟨w, 37⟩]
  else if k = 17 || k = 18 || k = 20 then named
  else if k = 19 then (List.range 16).map fun u => ⟨w, u⟩
  else if k = 21 then (range 32 5).map fun u => ⟨w, u⟩
  else if k = 22 then [⟨w, 40⟩]
  else if n = 99 then [⟨2, 2⟩]
  else if n = 101 then [⟨2, 9⟩]
  else if n = 102 then [⟨2, 8⟩]
  else if n = 103 then [⟨2, 7⟩]
  else if n = 128 || n = 129 then [⟨3, 0⟩]
  else if n = 131 then [⟨3, 1⟩]
  else if n = 154 || n = 183 then named
  else if n = 163 then [⟨5, 7⟩]
  else if n = 165 then [⟨5, 9⟩]
  else if n = 166 then [⟨5, 10⟩]
  else if n = 168 then [⟨5, 2⟩]
  else []

/-- The units that a severity 2 action of a source restarts; a broken-wire source names the owner of the
broken pair, its `target` (R464, R467). -/
def State.srcUnits (s : State) (n : Nat) : List UnitId :=
  let x := s.src n
  if inRange n 240 246 then srcUnitsOne x.target (s.src x.target).target else srcUnitsOne n x.target

/-- The severity of a source (R467). -/
def State.sevOf (s : State) (n : Nat) : Nat :=
  match (s.src n).sevSet with
  | some v => v
  | none => match srcRow n with
    | some r => r.1
    | none => 0

/-- The `UNIT` field of an event of a source: its lowest unit, or its whole island (R79). -/
def State.srcCode (s : State) (n : Nat) : Nat :=
  match s.srcUnits n with
  | u :: _ => u.code
  | [] => (⟨srcRestartIsland n, 63⟩ : UnitId).code

/-- The reading of a source's pair, with its force value in its place (R463, R477): 1 quiet, 2 fault, 0 and 3
broken. -/
def Src.reading (x : Src) : Nat :=
  if x.force = 1 then 2 else if x.force = 2 then 0 else if x.force = 3 then 3 else x.pair

/-- A source is masked: its island is not in service (R465). -/
def State.masked (s : State) (n : Nat) : Bool :=
  !(n < 16 || inRange n 240 247) && !s.islandUp (srcIsland n)

/-- What the latch of a source held has been back for 1 µs, or nothing of it is under restart (R476). -/
def State.waitOver (s : State) (n : Nat) : Bool :=
  !((List.range 7).any fun i => (s.isl i).cause == n &&
      ((s.isl i).restarting || decide (s.now < (s.isl i).backAt + 1000))) &&
    !(s.units.cells.any fun c => c.2.cause == n && (c.2.restarting || decide (s.now < c.2.backAt + 1000)))

/-- The collector evaluates a source: not masked, its island back for 1 µs, the collector running or the source
one of those the Always-On Island evaluates itself, and no unit of its own under restart by it (R465, R466,
R476). -/
def State.evaluated (s : State) (n : Nat) : Bool :=
  (srcRow n).isSome && !s.masked n &&
    (decide (n < 16) || inRange n 240 247 || (s.isl (srcIsland n)).backAt = 0 ||
      decide ((s.isl (srcIsland n)).backAt + 1000 ≤ s.now)) &&
    (inRange n 176 191 || s.islandUp 5) && (!(s.src n).wait || s.waitOver n)

/-! Commands whose units fault (R85). -/

/-- What a command has begun and not committed is undone: it has no effect (R85, R92, R96, R97). An open staging area is
discarded by an abort (R576). -/
def State.undo (s : State) (r : Req) (abort : Bool) : State :=
  let n := le r.payload 0 1
  if r.code = 0x0202 then s.modPort n fun x => { x with enabled := x.linkUp && x.enabled }
  else if r.code = 0x0203 then s.modPort n fun x => { x with disabling := false }
  else if r.code = 0x0303 then
    let s := s.modTx n fun x => { x with draining := none, drainBack := 0 }
    if abort then s else s.refill n
  else if r.code = 0x0D04 then s.modTwin fun w => { w with handover := none }
  else if r.code / 256 = 0x10 then s.modBoot fun b => { b with
    relayWait := [], relayFail := [], pkgLen := if abort && r.code = 0x1002 then 0 else b.pkgLen }
  else s

/-- Complete the running commands that need a unit which faults, and those that wait for their commit point: `FAULT` with
the source, or `BUSY` where no source caused it, and no effect (R85, R92); a committed command notes it (R93). A command
under abort ends as aborted (R96). -/
def State.commandsFault (s : State) (hit : UnitId → Bool) (cause : Nat) : State :=
  (List.range 8).foldl (fun s m =>
    match (s.mb m).req with
    | some r =>
      if ((s.mb m).running || (s.mb m).prepared) && (s.mb m).mstate != 3 && !(s.mb m).committed &&
          (reqFuncs r).any fun f => f.owners.any hit then
        (if (s.mb m).running then s.undo r false else s).complete m (if cause = 0xFF then .busy else .fault cause)
      else if (s.mb m).running && (s.mb m).committed && (s.mb m).waiting.any fun u => hit ⟨u.island, u.unit⟩ then
        s.commitFault m hit cause
      else s
    | none => s) s

/-! Restart effects. -/

/-- The Ethernet ports of a port island. -/
def islandPorts (i : Nat) : List Nat := (List.range 24).filter fun p => (portUnit p).island == i

/-- The bus controllers of a port island. -/
def islandBuses (i : Nat) : List Nat := if i ≤ 1 then range (16 * i) 16 else []

/-- The TDM ports of a port island. -/
def islandTdm (i : Nat) : List Nat := if i ≤ 1 then range (4 * i) 4 else []

/-- TDM ports send zero samples while their island or unit is isolated (R23). -/
def State.tdmStop (s : State) (a : Nat) : State :=
  s.modTdm a fun x => { x with sdo := List.replicate (x.sdo.length) 0, running := false }

/-- The Control Island is isolated (R20, R88, R420, R466, R477): firmware stops, queues and rings restart, every
force is released, quiet periods start again, `STATE` reads 3. -/
def State.controlIsolate (s : State) : State :=
  let s := (s.modBoot fun b => { b with fwRunning := false, before := b.state }).modTwin fun w => { w with handover := none }
  let s := (s.setDevState 3).tideQueuesRestart.ringsRestart
  s.modFlt fun f => { f with
    srcs := f.srcs.map fun n x => { x with
      force := 0, dry := false, quietFrom := if inRange n 176 191 then x.quietFrom else none } }

/-- The broken-wire source of a source (R464): that of its island. -/
def wireSource (n : Nat) : Nat := 240 + srcIsland n

/-- A broken-wire source reads quiet once no pair of its island is broken (R464). -/
def State.wireQuiet (s : State) (w : Nat) : State :=
  if s.flt.srcs.cells.any fun c => c.2.st == .broken && wireSource c.1 == w && c.1 != w then s
  else s.modSrc w fun x => if x.pair = 2 then { x with pair := 1, pairAt := s.now } else x

/-- What is on its way through an encrypting port ends spoiled when the Security Island is isolated (R16, R39). -/
def State.cipherCut (s : State) : State :=
  s.each ((List.range 4).filter fun p => (s.port p).cw.enc) fun s p =>
    (s.each (s.awaiting p) State.spoilFrame).txStarve p ctrEthSpecCtStomped

/-- What happens when an island is isolated (R16, R23): its sources are masked (R465). -/
def State.isolateEffects (s : State) (i : Nat) : State :=
  let s := s.modFlt fun f => { f with
    srcs := f.srcs.map fun n x =>
      if srcIsland n = i && !(n < 16 || inRange n 240 247) then
        { x with quietFrom := none, st := if x.st = .broken then .quiet else x.st }
      else x }
  let s := if i = 5 then s else s.wireQuiet (240 + i)
  if i ≤ 1 then
    let s := s.each (islandPorts i) State.linkLost
    let s := s.each (islandBuses i) State.busIsolate
    s.each (islandTdm i) State.tdmStop
  else if i = 2 then s.bufferClear
  else if i = 3 then s.signalRestart.audioRestart
  else if i = 4 then s.cipherCut.securityReset.encReview
  else if i = 5 then s.controlIsolate
  else s

/-- What happens when one unit is isolated and reset (R16, R468). -/
def State.unitEffects (s : State) (u : UnitId) : State :=
  let i := u.island
  if i ≤ 1 then
    if u.unit < 16 then s.busIsolate (16 * i + u.unit)
    else if u.unit < 28 then s.each ((islandPorts i).filter fun p => (portUnit p).unit == u.unit) State.linkLost
    else if u.unit < 32 then s.each ((islandPorts i).filter fun p => (portUnit p).unit + 4 == u.unit) State.linkLost
    else if u.unit < 36 then s.tdmStop (4 * i + (u.unit - 32))
    else if u.unit = 38 then s.each ((islandPorts i).filter fun p => p < 4) State.linkLost
    else if u.unit = 39 then s.each ((islandPorts i).filter fun p => inRange p 4 15) State.linkLost
    else s
  else if i = 2 then
    if u.unit = 7 then s.modTbl fun t => { t with learnQ := [] }
    else if u.unit = 9 then s.bufferClear
    else if u.unit ≤ 2 then
      s.each (s.sw.frames.cells.filter fun c => !c.2.fixed && !c.2.placed && c.2.verdict == 0) fun s c => s.spoilFrame c.1
    else s
  else if i = 3 then (if u.unit = 0 then s.signalRestart else s.audioRestart)
  else if i = 4 then (if u.unit < 8 then (s.engineRelease u.unit).encReview else s)
  else if i = 5 then
    if u.unit = 5 then s.tideQueuesRestart
    else if u.unit = 6 then s.ringsRestart
    else s
  else s

/-- A unit or an island is isolated and reset under a fault source, or 0xFF for none (R23, R468). An island
or unit that is held or already restarting is left as it is (R470). -/
def State.restartIsland (s : State) (i cause : Nat) : State :=
  let x := s.isl i
  if x.latchedBy.isSome || x.restarting || x.power == .off then s
  else
    let s := s.modIsl i fun x => { x with power := .isolated, restarting := true, cause := cause, since := s.now }
    let s := { s with units := s.units.map fun k x => if k / 64 = i then { x with restarting := false } else x }
    (s.isolateEffects i).commandsFault (fun u => u.island == i) cause

/-- Restart one unit (R468, R470). -/
def State.restartUnit (s : State) (u : UnitId) (cause : Nat) : State :=
  let x := s.unitSt u.island u.unit
  if !s.islandUp u.island || x.latchedBy.isSome || x.restarting then s
  else
    let s := s.modUnitSt u.island u.unit fun x => { x with restarting := true, cause := cause, since := s.now }
    (s.unitEffects u).commandsFault (· == u) cause

/-- Isolate an island and hold it by a latched source (R475). -/
def State.holdIsland (s : State) (i n : Nat) : State :=
  let x := s.isl i
  if x.latchedBy.isSome then s
  else
    let up := x.power == .on && !x.restarting
    let s := s.modIsl i fun x => { x with power := .isolated, restarting := false, latchedBy := some n }
    (if up then s.isolateEffects i else s).commandsFault (fun u => u.island == i) n

/-- Isolate a unit and hold it by a latched source (R475). -/
def State.holdUnit (s : State) (u : UnitId) (n : Nat) : State :=
  let x := s.unitSt u.island u.unit
  if x.latchedBy.isSome then s
  else
    let s := s.modUnitSt u.island u.unit fun x => { x with restarting := false, latchedBy := some n }
    (if x.restarting then s else s.unitEffects u).commandsFault (· == u) n

/-! The safe state (R471). -/

/-- A pin drives its inactive level (R364). -/
def State.timeOutsInactive (s : State) : State :=
  s.modTime fun t => { t with outs := t.outs.map fun _ o => { o with level := !o.pol, pulseEnd := none } }

/-- TDM outputs at their inactive level: no samples. -/
def State.tdmInactive (s : State) : State :=
  s.modAud fun a => { a with ports := a.ports.map fun _ p => { p with sdo := [] } }

/-- The device enters the safe state (R471). -/
def State.safeState (s : State) : State :=
  if s.boot.state = 4 then s
  else
    let s := s.setDevState 4
    let pins := s.aud.ports
    let s := s.each [0, 1, 2, 3, 4] fun s i =>
      let up := s.islandUp i
      let s := s.modIsl i fun x => { x with
        power := if x.power == .off then .off else .isolated, restarting := false }
      (if up then s.isolateEffects i else s).commandsFault (fun u => u.island == i) 0xFF
    let s := s.each (List.range 32) fun s b => s.modBus b fun x => { x with txd := true }
    let s := s.each (List.range 8) fun s e => s.modEngine e fun x => { x with keyRegs := {}, key := [], keySlot := none }
    let s := s.each (List.range 8) fun s m =>
      if (s.mb m).ringing then (s.modMb m fun b => { b with ringing := false, dropped := true, setAt := b.setAt.set 2 s.now }) else s
    if s.twin.everEnabled then
      let s := s.modAud fun a => { a with ports := a.ports.map fun k p => { p with sdo := (pins.get {} k).sdo } }
      s.modBoot fun b => { b with pins := { b.pins with
        outputsHeld := some (s.twin.renewedAt + (s.twin.leaseUs + s.twin.guardUs) * 1000) } }
    else s.timeOutsInactive.tdmInactive

/-! The first fault (R472, R473). -/

/-- The order of the entries of a window: highest severity, then lowest source (R472). -/
def WinEntry.before (a b : WinEntry) : Bool :=
  decide (b.sev < a.sev) || (decide (a.sev = b.sev) && decide (a.src < b.src))

/-- The arbitration window closes (R472, R473). -/
def State.closeWindow (s : State) : State :=
  match sortBy WinEntry.before s.flt.window with
  | [] => s.modFlt fun f => { f with windowOpen := none }
  | e :: r =>
    let s := s.count 12 0 ctrFltWindows
    let s := if r.isEmpty then s else s.count 12 0 ctrFltWindowMulti
    let s := s.modFlt fun f => { f with window := [], windowOpen := none }
    if s.flt.first.valid && !(s.flt.first.sev = 0 && 1 ≤ e.sev) then s
    else
      let rec0 : FirstFault := {
        source := e.src, sev := e.sev, valid := true, forced := e.forced, broken := e.broken, spec := e.spec,
        others := min r.length 255, second := (match r with
          | x :: _ => x.src
          | [] => 0xFFFF),
        time := s.flt.windowTime }
      (s.modFlt fun f => { f with first := rec0 }).raise 20 0xFF (s.srcCode e.src)
        (e.src + e.sev * 256 + flag e.forced 11 + flag e.spec 12 + flag e.broken 13)

/-! Entries (R464, R468, R472, R475). -/

/-- A source joins the open window or opens one, with its active-time ns (R472); a window whose 200 ns are over has closed
before. -/
def State.joinWindow (s : State) (e : WinEntry) : State :=
  let s := match s.flt.windowOpen with
    | some w => if w + 200 ≤ s.now then s.closeWindow else s
    | none => s
  if s.flt.windowOpen.isSome then s.modFlt fun f => { f with window := f.window ++ [e] }
  else s.modFlt fun f => { f with window := [e], windowOpen := some s.now, windowTime := s.activeNs }

/-- The budget window of a source is open (R475). -/
def State.budgetOpen (s : State) (n : Nat) : Bool :=
  match (s.src n).windowAt with
  | some w => decide (s.now < w + 3600 * 1000000000)
  | none => false

/-- The action of a source at a severity (R468, R470, R475). -/
def State.faultAction (s : State) (n sev : Nat) (latch : Bool) : State :=
  let i := srcRestartIsland n
  if s.boot.state = 4 then s
  else if sev = 4 || (sev = 3 && i = 6) then s.safeState
  else if sev = 3 then (if latch then s.holdIsland i n else s.restartIsland i n)
  else if sev = 2 then
    s.each (s.srcUnits n) fun s u => if latch then s.holdUnit u n else s.restartUnit u n
  else s

/-- Latching is counted and reported (R475). -/
def State.latchEvent (s : State) (n : Nat) : State :=
  (s.count 12 (0x10000 + n) ctrSrcLatches).raise 22 0xFF (s.srcCode n) n

/-- A source that reads fault enters fault, from quiet or from broken (R464): state, counters, window, EV019, latch, action (R468 to R475). -/
def State.enterFault (s : State) (n target : Nat) (spec : Bool) : State :=
  let x := s.src n
  if !s.evaluated n || !(x.st == .quiet || x.st == .broken) then s
  else
    let forced := x.force ≠ 0
    let sev := if forced && x.dry then 0 else s.sevOf n
    let latch := x.budget = 0 || (s.budgetOpen n && decide (x.budget ≤ x.inWindow))
    let s := s.modSrc n fun x => { x with
      st := if latch then .latched else .fault, target := target, spec := spec,
      quietFrom := none, returnedAt := none, entrySev := sev, wait := false }
    let s := if x.st == .broken then s.wireQuiet (wireSource n) else s
    let s := s.count 12 (0x10000 + n) ctrSrcEntries
    let s := if forced then s.count 12 (0x10000 + n) ctrSrcForcedEntries else s
    let s := s.joinWindow { src := n, sev := sev, forced := forced, spec := spec }
    let s := if 1 ≤ sev then
      s.raise 19 0xFF (s.srcCode n) (n + sev * 256 + flag forced 11 + flag spec 12) else s
    let s := if latch then s.latchEvent n else s
    s.faultAction n sev latch

/-- A source reads fault (R463): its pair does, or a force stands in its place (R477). -/
def State.reportOne (s : State) (n : Nat) (target : Nat := 0) (spec : Bool := false) : State :=
  let s := s.modSrc n fun x => { x with pair := if x.force = 1 then x.pair else 2, pairAt := s.now, quietFrom := none }
  if (s.src n).reading = 2 then s.enterFault n target spec else s

/-- A source's pair reads quiet: its quiet period starts if it is in fault and evaluated (R474). -/
def State.quieten (s : State) (n : Nat) : State :=
  let s := s.modSrc n fun x => { x with pair := 1, pairAt := s.now }
  let x := s.src n
  if x.reading = 1 && x.st == .fault && s.evaluated n && x.quietFrom.isNone then
    s.modSrc n fun x => { x with quietFrom := some s.now }
  else s

/-- Bad entries whose finding lookup was discarded are reported with the speculative flag (R47). -/
def State.toldFlush (s : State) : State :=
  (s.modTbl fun t => { t with told := [] }).each s.tbl.told fun s e =>
    let s := s.reportOne (104 + e.1) e.2 true
    if s.tbl.bad.any fun b => b.1 == e.1 then s else s.quieten (104 + e.1)

/-- A unit reports a fault through its source (R463); what its action discards is reported with it (R47). -/
def State.report (s : State) (n : Nat) (target : Nat := 0) (spec : Bool := false) : State :=
  (s.reportOne n target spec).toldFlush

/-- A report of something that is over at once: fault, then quiet. -/
def State.pulse (s : State) (n : Nat) (target : Nat := 0) (spec : Bool := false) : State :=
  (s.report n target spec).quieten n

/-- A broken pair drives its broken-wire source into fault; the entry raises EV023 (R464, R484). -/
def State.wireReport (s : State) (w n : Nat) : State :=
  let quiet := (s.src w).st == .quiet
  let s := s.report w n
  if quiet && (s.src w).st != .quiet then s.raise 23 0xFF (s.srcCode w) n else s

/-- A pair reads broken for 1 µs (R464, R472). -/
def State.breakPair (s : State) (n : Nat) : State :=
  let x := s.src n
  if !s.evaluated n || x.st == .latched || x.st == .broken then s
  else
    let w := wireSource n
    let forced := x.force ≠ 0
    let s := s.modSrc n fun x => { x with st := .broken, quietFrom := none, wait := false }
    let s := s.count 12 (0x10000 + n) ctrSrcBrokenEntries
    let s := s.joinWindow { src := n, sev := s.sevOf w, forced := forced, broken := true }
    if w = n then s else s.wireReport w n

/-! The first-fault record (R473). -/

/-- The first-fault record as 16 bytes (R473). -/
def FirstFault.bytes (f : FirstFault) : List Byte :=
  leBytes 1 f.source ++ leBytes 1 f.sev ++
    leBytes 1 (flag f.valid + flag f.forced 1 + flag f.broken 2 + flag f.spec 3) ++ leBytes 1 f.others ++
    leBytes 2 f.second ++ [0, 0] ++ leBytes 8 f.time

/-! Returns (R23, R25, R465, R468, R469). -/

/-- Sources whose severity 2 or 3 action restarted something note its return (R469). -/
def State.noteReturn (s : State) (hit : Nat → Bool) : State :=
  s.modFlt fun f => { f with
    srcs := f.srcs.map fun n x => if x.st == .fault && hit n then { x with returnedAt := some s.now } else x }

/-- A restarted unit returns to service (R468). -/
def State.unitBack (s : State) (u : UnitId) : State :=
  let x := s.unitSt u.island u.unit
  let s := s.modUnitSt u.island u.unit fun x => { x with restarting := false, backAt := s.now }
  let s := s.count 12 0 ctrFltUnitRestarts
  let s := if u.island ≤ 1 && u.unit < 16 then s.busReload (16 * u.island + u.unit)
    else if u.island = 4 && u.unit < 8 then s.encResume false else s
  let s := s.chansBack u.island
  let s := s.noteReturn fun n => decide (2 ≤ (s.src n).entrySev) && (s.srcUnits n).contains u
  (s.raise 24 0xFF u.code (x.cause + u.island * 256 + u.unit * 2048)).commitReturn fun k => k == u.island * 64 + u.unit

/-- What happens when an island is back (R23, R88). -/
def State.islandEffects (s : State) (i : Nat) : State :=
  if i ≤ 1 then s.each (islandBuses i) State.busReload
  else if i = 4 then (if s.sec.enrolled then s else s.encResume true)
  else if i = 5 then
    let s := s.modBoot fun b => { b with fwRunning := true }
    let s := s.setDevState s.boot.before
    let s := s.each (List.range 8) fun s m =>
      if (s.mb m).outstanding then s.complete m (.fault 9) else s
    s.pulse 9
  else s

/-- A restarted island leaves isolation (R15, R23). -/
def State.islandBack (s : State) (i : Nat) : State :=
  let x := s.isl i
  let s := s.modIsl i fun x => { x with
    power := .on, restarting := false, backAt := s.now }
  let s := s.chansBack i
  let s := s.count 12 0 ctrFltIslandRestarts
  let s := s.islandEffects i
  let s := s.noteReturn fun n => decide (2 ≤ (s.src n).entrySev) &&
    (srcRestartIsland n == i || (s.srcUnits n).any fun u => u.island == i)
  (s.raise 25 0xFF (⟨i, 63⟩ : UnitId).code (x.cause + i * 256 + 63 * 2048)).commitReturn fun k => k / 64 == i

/-- Another latched source that holds a part too, once the latch of the first is cleared (R470, R475). -/
def State.alsoHolds (s : State) (n : Nat) (part : Nat → Bool) : Option Nat :=
  (List.range 256).find? fun k => k != n && (s.src k).st == .latched && part k

/-- The latched part passes to another latched source that holds it too (R470). -/
def State.passHold (s : State) (n : Nat) : State :=
  let s := s.each (List.range 7) fun s i =>
    if (s.isl i).latchedBy == some n then
      match s.alsoHolds n fun k => (s.src k).entrySev == 3 && srcRestartIsland k == i with
      | some k => s.modIsl i fun x => { x with latchedBy := some k }
      | none => s
    else s
  s.each s.units.cells fun s c =>
    if c.2.latchedBy == some n then
      match s.alsoHolds n fun k => (s.src k).entrySev == 2 && (s.srcUnits k).contains ⟨c.1 / 64, c.1 % 64⟩ with
      | some k => s.modUnitSt (c.1 / 64) (c.1 % 64) fun x => { x with latchedBy := some k }
      | none => s
    else s

/-- The collector reads the quiet part again: a latch is cleared (R476). What only this latch holds is restarted. -/
def State.clearLatch (s : State) (n : Nat) : State :=
  let s := (s.modSrc n fun x => { x with st := .quiet, quietFrom := none }).passHold n
  let isls := (List.range 7).filter fun i => (s.isl i).latchedBy == some n
  let us := (s.units.cells.filter fun c => c.2.latchedBy == some n).map fun c => (⟨c.1 / 64, c.1 % 64⟩ : UnitId)
  let s := s.each isls fun s i => (s.modIsl i fun x => { x with
    latchedBy := none, restarting := true, cause := n, since := s.now })
  let s := s.each us fun s u => s.modUnitSt u.island u.unit fun x => { x with
    latchedBy := none, restarting := true, cause := n, since := s.now }
  if isls.isEmpty && us.isEmpty then
    if (s.src n).reading = 2 then s.enterFault n (s.src n).target false else s
  else s.modSrc n fun x => { x with wait := true }

end Sys2Proof.Machine
end

