-- ==== Sys2Proof/Machine/Parse.lean ====
section
/-! DEFINITION. The parsers, the rules and their versions, the policers, and the commands of group 0x04
(R193 to R225). -/

namespace Sys2Proof.Machine

open Sys2Proof

/-! The parser in service (R193). -/

/-- The graph parser should be in service (R193, R583). During a Control Island restart (`STATE` 3) the state before it
counts: the restart changes no parser. -/
def State.parserWanted (s : State) : Bool :=
  !s.parse.select && !s.parse.graphFault && !s.parse.cur.graph.isEmpty &&
    (s.boot.state == 1 || (s.boot.state == 3 && s.boot.before == 1))

/-- The parser in service follows its conditions; a change raises EV064 with its cause: 0 command, 1 graph
memory fault, 2 boot or state change (R193, R224). -/
def State.parserUpdate (s : State) (cause : Nat) : State :=
  if s.parserWanted == s.parse.graphInService then s
  else
    (s.modParse fun p => { p with graphInService := s.parserWanted }).raiseOf 64 ⟨2, 0⟩
      (flag (!s.parserWanted) + cause * 256)

/-- A node of the graph memory is bad: the groundsheet parser takes over and the graph is rewritten (R195). -/
def State.graphBad (s : State) (node : Nat) : State :=
  ((s.modParse fun p => { p with graphFault := true }).parserUpdate 1).report 98 node

/-! Bit fields in network order (R197). -/

/-- `w` bits of a frame, `off` bits after byte `base`, most significant first; bytes past the end read 0. -/
def netBits (bs : List Byte) (base off w : Nat) : Nat :=
  let first := base + off / 8
  let n := (off % 8 + w + 7) / 8
  be bs first n / 2 ^ (n * 8 - off % 8 - w) % 2 ^ w

/-! The parse graph (R196 to R201). -/

/-- Node `i` of a graph image. -/
def graphNode (g : List Byte) (i : Nat) : List Byte := field g (128 + 128 * i) 128

/-- The working figures of a walk (R199). -/
structure Walk where
  /-- The key so far. -/
  key : List Byte := List.replicate 64 0
  /-- Family of the last node with `FAM_V4` or `FAM_V6`. -/
  family : Nat := 0
  /-- A read passed the end of the frame. -/
  short : Bool := false
  /-- `KEND`. -/
  kend : Nat := 0
  /-- 0 accepted, 1 truncated, 2 rejected. -/
  outcome : Nat := 0
  /-- Nodes visited. -/
  nodes : List Nat := []
  /-- A copy wrote `KVLAN`. -/
  vlan : Bool := false
  /-- Key bytes written by copies or the preset, bit *i* for byte *i*. -/
  written : Nat := 0
  /-- `KVLAN` and `KDA` of the L2 lookups started so far, newest first (R46, R204). -/
  early : List (List Byte) := []
  deriving DecidableEq, Repr

/-- The used copies of a node: source, length, key offset. -/
def nodeCopies (n : List Byte) : List (Nat × Nat × Nat) :=
  ((List.range 4).map fun k => (le n (12 + 4 * k) 1, le n (13 + 4 * k) 1, le n (14 + 4 * k) 1)).filter fun c => c.2.1 != 0

/-- The next code of a node for a selector value (R199). -/
def nodeNext (n : List Byte) (sel : Option Nat) : Nat :=
  match sel with
  | none => le n 10 2
  | some v =>
    match (List.range (le n 4 1)).find? fun k => le n (28 + 6 * k) 4 == v with
    | some k => le n (32 + 6 * k) 2
    | none => le n 10 2

/-- One past the last frame byte that a node reads, counted from its header start; 0 where it reads none. -/
def nodeReach (n : List Byte) : Nat :=
  let f := le n 0 1
  max (if le n 1 1 = 0 then 0 else (le n 2 2 + le n 1 1 + 7) / 8)
    (max (if bit f 1 then (le n 6 2 + le n 5 1 + 7) / 8 else 0)
      ((nodeCopies n).foldl (fun a c => max a (c.1 + c.2.1)) 0))

/-- The L2 lookup that the walk starts after the copies of a node: as soon as `KVLAN` and `KDA` are written, and again
where a later copy changes them (R46, R204). Group addresses and VID 0 make no lookup (R236). -/
def Walk.earlyL2 (w : Walk) : Walk :=
  let k := field w.key 4 8
  if bits w.written 4 8 ≠ 255 || bit (le k 2 1) 0 || be k 0 2 % 4096 = 0 || w.early.head? == some k then w
  else { w with early := k :: w.early }

/-- The walk of R199, at most `fuel` more nodes. -/
def walk (g frame : List Byte) : Nat → Nat → Nat → Walk → Walk
  | 0, _, _, w => { w with outcome := 1 }
  | fuel + 1, node, base, w =>
    let n := graphNode g node
    let f := le n 0 1
    let w := { w with nodes := node :: w.nodes }
    let reach := nodeReach n
    if 0 < reach && 256 < base + reach then { w with outcome := 1 }
    else
      let copies := nodeCopies n
      let w := Walk.earlyL2 { w with
        key := copies.foldl (fun k c => (patch k c.2.2 (field frame (base + c.1) c.2.1)).take 64) w.key
        vlan := w.vlan || copies.any fun c => decide (c.2.2 < 6) && decide (4 < c.2.2 + c.2.1)
        written := copies.foldl (fun k c => k ||| ofBits (range c.2.2 c.2.1)) w.written
        short := w.short || (decide (0 < reach) && decide (frame.length < base + reach))
        family := if bit f 3 then 2 else if bit f 2 then 1 else w.family }
      let sel := if le n 1 1 = 0 then none else some (netBits frame base (le n 2 2) (le n 1 1))
      let next := nodeNext n sel
      let adv := le n 9 1 + (if bit f 1 then netBits frame base (le n 6 2) (le n 5 1) * le n 8 1 else 0)
      if bits next 14 2 = 0 then walk g frame fuel (bits next 0 8) (base + adv) w
      else if bits next 14 2 = 1 then { w with kend := bits next 0 8, outcome := 0 }
      else { w with outcome := 2 }

/-- The start node by ingress kind: 4 Ethernet, 5 causeway, 6 bus frame record (R196). -/
def graphStart (g : List Byte) (kind : Nat) : Nat := le g kind 1

/-- Check a next code; it answers whether it is in order (R198, R201). -/
def nextOk (g : List Byte) (next : Nat) : Bool :=
  let k := bits next 14 2
  if k = 0 then bits next 8 6 == 0 && decide (bits next 0 8 < le g 2 2) && bit (le (graphNode g (bits next 0 8)) 0 1) 0
  else if k = 1 then bits next 8 6 == 0
  else k == 2 && bits next 0 14 == 0

/-- `INVALID` of a graph image field: its image offset with bit 30 set (R201). -/
def graphNeed (ok : Bool) (off : Nat) : Check := need ok (2 ^ 30 + off)

/-- Reserved bytes of an image. -/
def graphZeros (g : List Byte) (off n : Nat) : Check :=
  match firstNonzero g off n with
  | none => none
  | some o => some (.invalid (2 ^ 30 + o))

/-- The checks of one node, whether `VALID` or not (R197, R201). Transitions at or above `TRANS_COUNT` are not read
and not checked (log entry 70). -/
def nodeCheck (g : List Byte) (i : Nat) : Check :=
  let o := 128 + 128 * i
  let n := graphNode g i
  let f := le n 0 1
  firstFail ([
    graphNeed (bits f 4 4 == 0) o,
    graphNeed (decide (le n 1 1 ≤ 32)) (o + 1),
    graphNeed (decide (le n 2 2 + le n 1 1 ≤ 2048)) (o + 2),
    graphNeed (decide (le n 4 1 ≤ 16)) (o + 4),
    graphNeed (if bit f 1 then inRange (le n 5 1) 1 16 else le n 5 1 == 0) (o + 5),
    graphNeed (decide (le n 6 2 + le n 5 1 ≤ 2048)) (o + 6),
    graphNeed (if bit f 1 then le n 8 1 != 0 else le n 8 1 == 0) (o + 8),
    graphNeed (nextOk g (le n 10 2)) (o + 10)] ++
    (List.range 4).flatMap (fun k =>
      let c := 12 + 4 * k
      [graphNeed (decide (le n (c + 1) 1 ≤ 16)) (o + c + 1),
       graphNeed (inRange (le n (c + 2) 1) 4 63 && decide (le n (c + 2) 1 + le n (c + 1) 1 ≤ 64)) (o + c + 2),
       graphNeed (le n (c + 3) 1 == 0) (o + c + 3)]) ++
    (List.range (min 16 (le n 4 1))).flatMap (fun k =>
      let c := 28 + 6 * k
      [graphNeed (decide (le n c 4 < 2 ^ le n 1 1)) (o + c), graphNeed (nextOk g (le n (c + 4) 2)) (o + c + 4)]) ++
    [graphZeros g (o + 124) 4])

/-- The checks of a whole image in ascending offset (R196, R201, R620). -/
def graphCheck (g : List Byte) : Check :=
  let start (k : Nat) : Bool := decide (le g k 1 < le g 2 2) && bit (le (graphNode g (le g k 1)) 0 1) 0
  firstFail ([
    graphNeed (le g 0 2 == 0x4750) 0,
    graphNeed (inRange (le g 2 2) 1 256) 2,
    graphNeed (start 4) 4, graphNeed (start 5) 5, graphNeed (start 6) 6,
    graphZeros g 7 1,
    graphNeed (le g 8 4 == crc32 (patch g 8 [0, 0, 0, 0])) 8,
    graphZeros g 12 4] ++
    (List.range 4).flatMap (fun k =>
      [graphNeed (decide (le g (16 + 6 * k + 3) 1 ≤ 2)) (16 + 6 * k + 3), graphZeros g (16 + 6 * k + 5) 1]) ++
    [graphZeros g 40 24] ++
    (List.range 24).map (fun p =>
      graphNeed (inRange (bits (le g (64 + 2 * p) 2) 0 12) 1 4094 && !bit (le g (64 + 2 * p) 2) 15) (64 + 2 * p)) ++
    [graphZeros g 112 16] ++
    (List.range (le g 2 2)).map (nodeCheck g))

/-! Headers that the fixed logic reads (R168, R205, R262). -/

/-- What the fixed header logic finds in an Ethernet frame (R205). -/
structure Heads where
  /-- Outer tag control word of a tagged frame. -/
  outer : Option Nat := none
  /-- Tags seen, up to 2. -/
  tags : Nat := 0
  /-- EtherType after the tags. -/
  etype : Nat := 0
  /-- Offset of the header after that EtherType. -/
  off : Nat := 14
  /-- A third tag. -/
  deep : Bool := false
  deriving DecidableEq, Repr

/-- Read the tags and the EtherType of a frame (R205). -/
def heads (f : List Byte) : Heads :=
  let e0 := be f 12 2
  if !isTag e0 then { etype := e0, off := 14 }
  else
    let e1 := be f 16 2
    if !isTag e1 then { outer := some (be f 14 2), tags := 1, etype := e1, off := 18 }
    else { outer := some (be f 14 2), tags := 2, etype := be f 20 2, off := 22, deep := isTag (be f 20 2) }

/-- An IPv4 header that the fixed logic accepts: version 4, IHL at least 5 (R205). -/
def isV4 (f : List Byte) (h : Heads) : Bool :=
  h.etype == 0x0800 && bits (le f h.off 1) 4 4 == 4 && decide (5 ≤ bits (le f h.off 1) 0 4)

/-- An IPv6 header without an extension header (R205). -/
def isV6 (f : List Byte) (h : Heads) : Bool :=
  h.etype == 0x86DD && !([0, 43, 44, 50, 51, 60].contains (le f (h.off + 6) 1))

/-- Protocol and offset of the layer 4 header. -/
def layer4 (f : List Byte) (h : Heads) : Option (Nat × Nat) :=
  if isV4 f h then some (le f (h.off + 9) 1, h.off + 4 * bits (le f h.off 1) 0 4)
  else if isV6 f h then some (le f (h.off + 6) 1, h.off + 40)
  else none

/-- A PTP message, and the offset of its common header (R205, R345). -/
def ptpAt (f : List Byte) (h : Heads) : Option Nat :=
  if h.deep then none
  else if h.etype = 0x88F7 then some h.off
  else match layer4 f h with
    | some (17, o) => if be f (o + 2) 2 = 319 || be f (o + 2) 2 = 320 then some (o + 8) else none
    | _ => none

/-- The ones' complement sum of 16-bit words. -/
def onesSum (bs : List Byte) : Nat → Nat
  | 0 => 0
  | n + 1 =>
    if bs.isEmpty then 0 else be bs 0 2 + onesSum (bs.drop 2) n

/-- Fold a sum into 16 bits. -/
def fold16 (n : Nat) : Nat :=
  let a := n % 65536 + n / 65536
  let b := a % 65536 + a / 65536
  b % 65536 + b / 65536

/-- The internet checksum of some bytes with a starting sum. -/
def inetSum (start : Nat) (bs : List Byte) : Nat := 0xFFFF - fold16 (start + onesSum bs (bs.length / 2 + 1))

/-- `IP_OK` of a frame without FCS: 0 not checked, 1 good, 2 bad (R168). -/
def ipOk (f : List Byte) : Nat :=
  let h := heads f
  if h.deep || !isV4 f h then 0
  else if inetSum 0 (field f h.off (4 * bits (le f h.off 1) 0 4)) = 0 then 1 else 2

/-- The pseudo-header sum and the layer 4 bytes of a UDP or TCP frame that is no fragment (R168). -/
def layer4Sum (f : List Byte) : Option (Nat × Nat × Nat × List Byte) :=
  let h := heads f
  if h.deep then none
  else match layer4 f h with
    | none => none
    | some (pr, o) =>
      if pr ≠ 6 && pr ≠ 17 then none
      else if isV4 f h then
        if bits (be f (h.off + 6) 2) 0 14 ≠ 0 then none
        else
          let n := be f (h.off + 2) 2 - (o - h.off)
          some (pr, o, onesSum (field f (h.off + 12) 8) 8 + pr + n, field f o n)
      else
        let n := be f (h.off + 4) 2
        some (pr, o, onesSum (field f (h.off + 8) 32) 32 + pr + n, field f o n)

/-- `L4_OK` of a frame without FCS (R168). A UDP checksum of 0 over IPv4, which says that none was computed, is not checked;
over IPv6 it is a failed check (log entry 78, DEDUCED). -/
def l4Ok (f : List Byte) : Nat :=
  match layer4Sum f with
  | none => 0
  | some (pr, _, start, bs) =>
    if pr = 17 && be bs 6 2 = 0 then (if isV4 f (heads f) then 0 else 2)
    else if inetSum start bs = 0 then 1 else 2

/-- Write the IPv4 header checksum of a frame (R169). -/
def putIpSum (f : List Byte) : List Byte :=
  let h := heads f
  if h.deep || !isV4 f h then f
  else
    let z := patch f (h.off + 10) [0, 0]
    patch z (h.off + 10) (beBytes 2 (inetSum 0 (field z h.off (4 * bits (le f h.off 1) 0 4))))

/-- Write the UDP or TCP checksum of a frame, or none where the mark is not acted on (R169, R171). R171 names IPv6 frames
with extension headers and fragments. DESIGN CHOICE: an L4 mark on a frame of neither UDP nor TCP, or behind more tags than
are parsed, is treated as those are: not acted on, sent unchanged, counted in `tx_csum_skipped` (log entry 73). -/
def putL4Sum (f : List Byte) : Option (List Byte) :=
  match layer4Sum f with
  | none => none
  | some (pr, o, start, bs) =>
    let k := if pr = 17 then 6 else 16
    let c := inetSum start (patch bs k [0, 0])
    some (patch f (o + k) (beBytes 2 (if pr = 17 && c = 0 then 0xFFFF else c)))

/-- A UDP over IPv4 layout without a mark is sent with checksum 0x0000 (R171). -/
def zeroUdpSum (f : List Byte) : List Byte :=
  match layer4Sum f with
  | some (17, o, _, _) => if isV4 f (heads f) then patch f (o + 6) [0, 0] else f
  | _ => f

/-! Start-up routes (R206, R207). -/

/-- The pair partner of E00 to E03 (R206, R585). -/
def State.pairOf (s : State) (p : Nat) : Option Nat :=
  let k := if s.boot.settings.valid then s.boot.settings.transit else 1
  if 4 ≤ p then none
  else if k = 1 then some (if p % 2 = 0 then p + 1 else p - 1)
  else if k = 2 then some ((p + 2) % 4)
  else none

/-- The management address, if one exists (R206). -/
def State.mgmtMac (s : State) : Option (List Byte) :=
  if s.boot.settings.valid && !zeros s.boot.settings.mgmtMac 0 6 then some s.boot.settings.mgmtMac else none

/-- What a start-up route does with a frame: route, egress ports, copy for firmware, class. -/
structure GsPlan where
  /-- S1 to S6. -/
  route : Nat := 6
  /-- Egress ports. -/
  ports : List Nat := []
  /-- Delivered to tide queue 0. -/
  firmware : Bool := false
  /-- Class. -/
  cls : Nat := 0
  deriving DecidableEq, Repr

/-- The domain that a message on a port belongs to (R345, R346, R369). -/
def State.ptpDomain (s : State) (p : Nat) (b : List Byte) : Option Nat :=
  [0, 1].find? fun d =>
    let x := s.dom d
    x.enable && x.dstate != .fault && x.num == le b 4 1 && bit x.ports p && (x.profile == 1) == (bits (le b 0 1) 4 4 == 1)

/-- The other ports of the 1588 domain of a time message: the transparent-clock path of a port outside the transit
pairs (R206, R345, R346, log entry 70). -/
def State.clockPorts (s : State) (p : Nat) (m : List Byte) : List Nat :=
  match s.ptpDomain p m with
  | some d => if (s.dom d).profile = 1 then [] else (bitList (s.dom d).ports 24).filter (· != p)
  | none => []

/-- The start-up route of an Ethernet frame on port `p`, without FCS (R206, R207, log entry 14). -/
def State.groundsheet (s : State) (p : Nat) (f : List Byte) : GsPlan :=
  let h := heads f
  let cls := match h.outer with
    | some t => bits t 13 3
    | none => 0
  let x := s.port p
  let cw := x.cfg.causeway && s.isCw f
  let hd := cwHead (field f 14 16)
  let own := hd.dstId == s.cw.id && s.cw.id != 0
  let partner := (s.pairOf p).toList
  let control := cw && hd.kind == 2 && (own || hd.dstId == 255)
  if cw && (s.pairOf p).isSome && !own && hd.hops ≠ 0 then
    { route := 1, ports := partner, firmware := hd.dstId == 255 && control && s.boot.fwRunning
      cls := if hd.kind = 2 then 7 else cls }
  else if cw && hd.hops = 0 then { route := 2 }
  else match ptpAt f h with
    | some o =>
      { route := 3, ports := if be f 0 6 = 0x0180C200000E then [] else (partner ++ s.clockPorts p (f.drop o)).dedup, cls := 7 }
    | none =>
      if control then { route := 4, firmware := s.boot.fwRunning, cls := 7 }
      else if (!h.deep && h.etype == 0x0806) || s.mgmtMac == some (f.take 6) then
        { route := 4, firmware := s.boot.fwRunning, cls := cls }
      else { route := 6, cls := cls }

/-! Rules (R208 to R211). -/

/-- The action of 24 bytes (R210). -/
def actionOf (b : List Byte) : Action :=
  let f := le b 0 1
  { noCt := bit f 6, fwdBus := bit f 5, fwdPort := bit f 4, setClass := bit f 3, mirror := bit f 2, copy := bit f 1
    drop := bit f 0, cls := bits (le b 1 1) 0 3, copyQueue := bits (le b 2 1) 0 6, mirrorPort := bits (le b 3 1) 0 5
    fwdMask := bits (le b 4 4) 0 24, policer := le b 8 2, yellowAct := le b 10 1, yellowClass := bits (le b 11 1) 0 3
    redAct := le b 12 1, tagOp := le b 13 1, tagVal := le b 14 2, stream := le b 16 2, bus := bits (le b 18 1) 0 5 }

/-- The rule of a record of 160 bytes (R208). -/
def ruleOf (b : List Byte) : Rule :=
  { id := le b 2 2, prio := le b 4 2, value := field b 8 64, mask := field b 72 64, action := actionOf (field b 136 24) }

/-- The order of R209: lowest `PRIO`, then lowest `RULE_ID`. -/
def Rule.before (a b : Rule) : Bool :=
  decide (a.prio < b.prio) || (decide (a.prio = b.prio) && decide (a.id < b.id))

/-- A rule matches a key (R209). -/
def Rule.hits (r : Rule) (key : List Byte) : Bool :=
  (key.zip (r.value.zip r.mask)).all fun k => k.1 &&& k.2.2 == k.2.1 &&& k.2.2

/-- The rule of a sorted set that applies to a key. -/
def ruleFor (rules : List Rule) (key : List Byte) : Option Rule := rules.find? fun r => r.hits key

/-- The bank of a version (R214). -/
def State.bank (s : State) (ver : Nat) : Bank := if ver = s.parse.cur.ver then s.parse.cur else s.parse.old

/-- The older version may have frames in flight (R215). -/
def State.oldLive (s : State) : Bool :=
  match s.parse.commitAt with
  | some c => decide (s.now < c + 40000)
  | none => false

/-- Check one record of `rule.stage` at a payload offset (R208, R210, R211). A delete uses `OP` and `RULE_ID`. The VID of
`TAG_VAL` is checked only for the values of `TAG_OP` that use it, 1 and 3 (log entry 70, DESIGN CHOICE). -/
def ruleCheck (p : List Byte) (o : Nat) : Check :=
  let a := o + 136
  if le p o 1 = 2 then none
  else firstFail [
    need (le p o 1 == 1) o, needZeros p (o + 1) 1, needZeros p (o + 6) 2,
    need (!bit (le p a 1) 7 && !(bit (le p a 1) 5 && bit (le p a 1) 4)) a,
    needField p (a + 1) 1 0 7, needField p (a + 2) 1 0 63, needField p (a + 3) 1 0 23,
    needField p (a + 4) 4 0 0xFFFFFF,
    need (decide (le p (a + 8) 2 ≤ 1023) || le p (a + 8) 2 == 0xFFFF) (a + 8),
    needField p (a + 10) 1 0 2, needField p (a + 11) 1 0 7, needField p (a + 12) 1 0 1, needField p (a + 13) 1 0 3,
    need (!(bit (le p (a + 14) 2) 15) && (decide (le p (a + 13) 1 ≠ 1 ∧ le p (a + 13) 1 ≠ 3) ||
      inRange (bits (le p (a + 14) 2) 0 12) 1 4094)) (a + 14),
    need (decide (le p (a + 16) 2 ≤ 4095) || le p (a + 16) 2 == 0xFFFF) (a + 16),
    needField p (a + 18) 1 0 31, needZeros p (a + 19) 5]

/-- Checks of `rule.stage` (R221). -/
def checkRuleStage (_ : State) (p : List Byte) : Check :=
  firstFail ([needLen (decide (4 ≤ p.length) && p.length == 4 + 160 * le p 0 2),
    needField p 0 2 0 25, needField p 2 1 0 1, needZeros p 3 1] ++
    (List.range (le p 0 2)).map fun k => ruleCheck p (4 + 160 * k))

/-- Apply one staged record (R221); the Boolean says that something has changed. A delete of an absent `RULE_ID`
changes nothing. -/
def stageRecord (l : List Rule × Bool) (b : List Byte) : List Rule × Bool :=
  let rest := l.1.filter fun r => r.id != le b 2 2
  if le b 0 1 = 1 then (insertBy Rule.before (ruleOf b) rest, true)
  else (rest, l.2 || decide (rest.length < l.1.length))

/-- Effect of `rule.stage` (R221). With nothing staged afterwards the staged rule count that it answers is that of the
current rules, from which a stage starts, while `STAGED` of `rule.status` reads 0 (log entry 70, DESIGN CHOICE). -/
def effectRuleStage (s : State) (p : List Byte) : State × Reply :=
  let prior := if bit (le p 2 1) 0 then none else s.parse.staged
  let l := (chunks (p.drop 4) 160 (le p 0 2)).foldl stageRecord (prior.getD s.parse.cur.rules, false)
  (s.modParse fun x => { x with staged := if l.2 then some l.1 else prior }, .ok (leBytes 2 l.1.length))

/-- `RULE_STAGE` (R221). -/
def execRuleStage (t : Nat) (m : Fin 8) (s : State) : Host.Outcome State Fault Refusal :=
  .next (s.simple t m 0x0403 checkRuleStage effectRuleStage)

/-- This device is the master of its cascade (R517). -/
def State.isMaster (s : State) : Bool := s.cw.master != 0 && s.cw.master == s.cw.id

/-- This device is the peer of a widened pair: its own commits of rules and maps are `DENIED` (R516). -/
def State.isPeer (s : State) : Bool := s.cw.cascade == 1 && !s.isMaster && s.cw.master != 0

/-- A commit of a kind spans the twin standby (R496) or the peer of a widened pair (R516): the device that it spans, 0 for a
twin partner, whose ID this device does not know (log entry 13). -/
def State.spanDev (s : State) (kind : Nat) : Option Nat :=
  if s.cw.cascade == 1 && s.isMaster then (s.chain.map fun d => d.1).head?
  else if s.twin.role == .active && s.twin.linkUp && s.twin.partner == some .standby && bit s.twin.mirror kind then some 0
  else none

/-- What the partner of a commit answers: `ready` where the commit spans no other device (R92). -/
def State.partnerOf (s : State) (kind : Nat) (x : Partner) : Partner := if (s.spanDev kind).isSome then x else .ready

/-- The entries of the units of a commit, here and at its partner (R93). -/
def State.commitUnits (s : State) (kind : Nat) (units : List UnitId) (x : Partner) : List UnitResult :=
  units.map (fun u => { island := u.island, unit := u.unit }) ++
    match s.spanDev kind with
    | none => []
    | some d => units.map (fun u => { dev := some d, island := u.island, unit := u.unit }) ++
      match x with
      | .faulted i u fs => [{ dev := some d, island := i, unit := u, faulted := true, fs := fs }]
      | _ => []

/-- A commit that spans the devices of a pair goes to the twin standby (R496) and to the peer of a widened pair
(R516). The body is the model's own (log entry 15). -/
def State.spanOut (s : State) (kind : Nat) (body : List Byte) : State :=
  let s := s.mirrorOut kind body
  if s.cw.cascade == 1 && s.isMaster then
    match s.chain with
    | d :: _ => s.tell d.1 3 ([7, 2] ++ leBytes 1 kind ++ body)
    | [] => s
  else s

/-- Something is staged for `rule.commit` (R219). -/
def State.ruleStaged (s : State) : Bool := s.parse.staged.isSome || s.parse.gState == 2

/-- The commit layout (R222). -/
def commitLayout (new old rules : Nat) (graph : Bool) : List Byte :=
  leBytes 2 new ++ leBytes 2 old ++ leBytes 2 rules ++ leBytes 1 (flag graph) ++ [0]

/-- Checks of `rule.commit` (R216, R516): the peer of a widened pair answers `DENIED`, more than 8192 rules
`NO_SPACE`. -/
def checkRuleCommit (s : State) (m : Nat) (p : List Byte) : Check :=
  firstFail [needLeave (!s.isPeer || s.cw.peerIn.contains m), needLen p.isEmpty,
    needRoom (decide ((s.parse.staged.getD s.parse.cur.rules).length ≤ 8192))]

/-- The rule records of a set, for the twin partner. -/
def Rule.bytes (r : Rule) : List Byte :=
  let a := r.action
  leBytes 1 1 ++ [0] ++ leBytes 2 r.id ++ leBytes 2 r.prio ++ [0, 0] ++ fitBytes 64 r.value ++ fitBytes 64 r.mask ++
    leBytes 1 (flag a.noCt 6 + flag a.fwdBus 5 + flag a.fwdPort 4 + flag a.setClass 3 + flag a.mirror 2 +
      flag a.copy 1 + flag a.drop) ++ leBytes 1 a.cls ++ leBytes 1 a.copyQueue ++ leBytes 1 a.mirrorPort ++
    leBytes 4 a.fwdMask ++ leBytes 2 a.policer ++ leBytes 1 a.yellowAct ++ leBytes 1 a.yellowClass ++
    leBytes 1 a.redAct ++ leBytes 1 a.tagOp ++ leBytes 2 a.tagVal ++ leBytes 2 a.stream ++ leBytes 1 a.bus ++
    List.replicate 5 0

/-- The commit point (R214, R216, R218): a new version takes the current one's place, counters of deleted
rules are cleared, a rule that is replaced keeps its own. -/
def State.ruleSwitch (s : State) (ver : Nat) (rules : List Rule) (graph : List Byte) : State :=
  let old := s.parse.cur
  let gone := old.rules.filter fun r => !rules.any fun q => q.id == r.id
  let born (r : Rule) : Rule := match old.rules.find? fun q => q.id == r.id with
    | some q => { r with born := q.born }
    | none => { r with born := s.now }
  let s := s.modParse fun x => { x with
    cur := { ver := ver, rules := rules.map born, graph := graph }, old := old, commitAt := some s.now }
  { s with ctrs := gone.foldl (fun c r => c.erase (ctrKey 4 (0x10000 + r.id) ctrRuleRuleHits)) s.ctrs }

/-- Effect of `rule.commit` (R216, R217, R219, R222). -/
def effectRuleCommit (s : State) (prepare : Bool) : State × Reply :=
  let x := s.parse
  let new := (x.cur.ver + 1) % 65536
  let rules := x.staged.getD x.cur.rules
  let graph := x.gState == 2
  if !s.ruleStaged then
    (s, { detail := 1, payload := commitLayout x.cur.ver x.old.ver x.cur.rules.length false })
  else if prepare then (s, .ok (commitLayout new x.cur.ver rules.length graph))
  else
    let s := s.ruleSwitch new rules (if graph then x.gBytes else x.cur.graph)
    let s := s.modParse fun y => { y with
      staged := none, gState := if graph then 0 else y.gState, gBytes := if graph then [] else y.gBytes }
    let s := s.spanOut 1 (leBytes 2 new ++ leBytes 2 rules.length ++ rules.flatMap Rule.bytes ++
      (if graph then x.gBytes else []))
    ((s.parserUpdate 0).raiseOf 65 ⟨2, 2⟩ new, .ok (commitLayout new x.cur.ver rules.length graph))

/-- A command past its commit point: it ends, or waits for its units that have not switched (R93, R97). -/
def State.commitFinish (s : State) (m : Nat) (units : List UnitResult) (late : List Nat) (x : Reply) : State :=
  if late.isEmpty && !units.any (·.faulted) then s.complete m x
  else
    let s := s.commitWaits m units late
    if late.isEmpty then s.commitEnd m else s

/-- `RULE_COMMIT` (R216): it waits while the older version is live. `fate` names the units that do not switch at the
commit point (R93, R97) and what the device that the commit spans answers (R92). -/
def execRuleCommit (t : Nat) (m : Fin 8) (fate : CommitFate) (s : State) : Host.Outcome State Fault Refusal :=
  .next (s.command t m 0x0404 fun s r =>
    match checkRuleCommit s m r.payload with
    | some x => s.complete m x
    | none =>
      let prepare := bit r.flags 1
      let far := s.partnerOf 1 fate.partner
      if !s.ruleStaged then s.complete m (effectRuleCommit s prepare).2
      else if s.oldLive then s.prepares m
      else match far with
        | .silent => s.prepares m
        | .refused st detail => s.complete m { status := st, detail := detail }
        | _ =>
          let units := s.commitUnits 1 [⟨2, 0⟩, ⟨2, 2⟩] far
          let (s, x) := effectRuleCommit s prepare
          if prepare then s.complete m x else s.commitFinish m units (fate.stuck.filter [128, 130].contains) x)

/-- Answer of `rule.status` (R222). -/
def answerRuleStatus (s : State) (_ : List Byte) : Reply :=
  let x := s.parse
  .ok (leBytes 2 x.cur.ver ++ leBytes 2 x.old.ver ++ leBytes 1 (flag s.oldLive) ++ leBytes 1 (flag (!x.graphInService)) ++
    leBytes 1 x.gState ++ [0] ++ leBytes 2 (x.staged.getD []).length ++ leBytes 2 x.cur.rules.length)

/-- `RULE_STATUS` (R222). -/
def execRuleStatus (t : Nat) (m : Fin 8) (s : State) : Host.Outcome State Fault Refusal :=
  .next (s.query t m 0x0405 (fun _ p => needLen p.isEmpty) answerRuleStatus)

/-! `parse.graph.load` and `parse.select`. -/

/-- Checks of `parse.graph.load` (R201, R220). -/
def checkParseGraphLoad (s : State) (p : List Byte) : Check :=
  let off := le p 0 4
  let img := (if off = 0 then [] else s.parse.gBytes) ++ p.drop 8
  let last := bit (le p 6 1) 0
  firstFail [needLen (decide (8 ≤ p.length) && p.length == 8 + le p 4 2),
    need (off == 0 || off == s.parse.gBytes.length) 0,
    need (!last || img.length == 128 + 128 * le img 2 2) 0,
    needField p 4 2 1 4088, needField p 6 1 0 1, needZeros p 7 1,
    if last then graphCheck img else none]

/-- Effect of `parse.graph.load` (R220). -/
def effectParseGraphLoad (s : State) (p : List Byte) : State × Reply :=
  (s.modParse fun x => { x with
    gBytes := (if le p 0 4 = 0 then [] else x.gBytes) ++ p.drop 8, gState := if bit (le p 6 1) 0 then 2 else 1 }, .ok)

/-- `PARSE_GRAPH_LOAD` (R220). -/
def execParseGraphLoad (t : Nat) (m : Fin 8) (s : State) : Host.Outcome State Fault Refusal :=
  .next (s.simple t m 0x0401 checkParseGraphLoad effectParseGraphLoad)

/-- Checks of `parse.select` (R193, R219). -/
def checkParseSelect (s : State) (p : List Byte) : Check :=
  firstFail [needLen (p.length == 1), needField p 0 1 0 1,
    needLeave (le p 0 1 == 1 || !s.parse.cur.graph.isEmpty)]

/-- Effect of `parse.select` (R193, R219). -/
def effectParseSelect (s : State) (p : List Byte) : State × Reply :=
  let s := (s.modParse fun x => { x with select := le p 0 1 == 1 }).parserUpdate 0
  (s, .ok (leBytes 1 (flag (!s.parse.graphInService))))

/-- `PARSE_SELECT` (R193). -/
def execParseSelect (t : Nat) (m : Fin 8) (s : State) : Host.Outcome State Fault Refusal :=
  .next (s.simple t m 0x0402 checkParseSelect effectParseSelect)

/-- `GRAPH_REWRITE_DONE` (R195): the graph parser returns to service and its source reads quiet. -/
def execGraphRewriteDone (t : Nat) (s : State) : Host.Outcome State Fault Refusal :=
  let s := s.tick t
  .next (if s.parse.graphFault then
    ((s.modParse fun p => { p with graphFault := false }).parserUpdate 1).quieten 98
  else s)

/-! `policer.config`. -/

/-- Checks of `policer.config` (R213, R223). -/
def checkPolicerConfig (_ : State) (p : List Byte) : Check :=
  firstFail [needLen (p.length == 20), needField p 0 2 0 1023, needZeros p 2 2, needField p 4 4 0 10000000,
    need (inRange (le p 8 4) (le p 4 4) 10000000) 8, needField p 12 4 64 16777216, needField p 16 4 64 16777216]

/-- Effect of `policer.config` (R213): both buckets are full. -/
def effectPolicerConfig (s : State) (p : List Byte) : State × Reply :=
  (s.modPolicer (le p 0 2) fun _ =>
    { cir := le p 4 4, pir := le p 8 4, cbs := le p 12 4, pbs := le p 16 4
      cLevel := (le p 12 4 * 8000000 : Nat), pLevel := (le p 16 4 * 8000000 : Nat), atNs := s.now }, .ok)

/-- `POLICER_CONFIG` (R223). -/
def execPolicerConfig (t : Nat) (m : Fin 8) (s : State) : Host.Outcome State Fault Refusal :=
  .next (s.simple t m 0x0406 checkPolicerConfig effectPolicerConfig)

end Sys2Proof.Machine
end

