-- ==== Sys2Proof/Machine/Tables.lean ====
section
/-! DEFINITION. The learning unit, the table repair unit and the commands of group 0x05 (R231 to R256). -/

namespace Sys2Proof.Machine

open Sys2Proof

/-! Learning (R237 to R243). -/

/-- A learn event is refused at the limit of its port: counted by the port's `EXCESS` (R239). -/
def State.learnRefuse (s : State) (p : Nat) : State :=
  s.count 5 (0x20000 + p) (if (s.port p).l2.l2Excess then ctrLearnLearnExcessFlood else ctrLearnLearnExcessDrop)

/-- The count of a port has reached its limit (R239). -/
def State.l2Full (s : State) (p : Nat) : Bool := decide ((s.port p).l2.l2Limit ≤ s.l2Count p)

/-- A free way of a bucket (R235); of several the lowest (log entry 71, DESIGN CHOICE). -/
def State.l2Free (s : State) (vid : Nat) (mac : List Byte) : Option Nat :=
  (l2Ways vid mac).find? fun i => (s.tbl.l2.find i).isNone

/-- A new address is learned, or refused (R239, R240). -/
def State.learnNew (s : State) (e : LearnEv) : State :=
  if s.l2Full e.port then s.learnRefuse e.port
  else match s.l2Free e.vid e.mac with
    | none =>
      let s' := s.count 5 (0x10000 + e.vid) ctrVidL2BucketFull
      if s.tbl.bucketFullSeen.contains e.vid then s'
      else (s'.modTbl fun t => { t with bucketFullSeen := e.vid :: t.bucketFullSeen }).raiseOf 60 ⟨2, 7⟩ e.vid
    | some i =>
      let s := s.modTbl fun t => { t with
        l2 := t.l2.set i { mac := e.mac, vid := e.vid, port := e.port, hit := true } }
      (s.count 5 (0x20000 + e.port) ctrLearnLearned).l2Limit e.port

/-- An address present on another port moves, flaps, or is blocked (R241). -/
def State.learnMove (s : State) (e : LearnEv) (i : Nat) : State :=
  let x := s.l2e i
  if x.frozen then s.count 5 0 ctrTblL2FlapBlocked
  else if s.l2Full e.port then s.learnRefuse e.port
  else
    let y := if x.window then x
      else { x with window := true, home := x.port, moves := 0, timer := s.rtcMs + 1000 }
    if y.moves < s.tbl.moveLimit then
      let s := s.modL2e i fun _ => { y with port := e.port, moves := y.moves + 1, hit := true }
      ((s.count 5 0 ctrTblL2Moves).l2Limit x.port).l2Limit e.port
    else
      let s := s.modL2e i fun _ => { y with
        port := y.home, frozen := true, window := true, timer := s.rtcMs + s.tbl.holdMs }
      ((s.l2Limit x.port).l2Limit y.home).raiseOf 61 ⟨2, 7⟩ (y.home + y.vid * 65536)

/-- One learn event (R238 to R241). -/
def State.learn (s : State) (e : LearnEv) : State :=
  match s.l2Find e.vid e.mac with
  | none => s.learnNew e
  | some i => if (s.l2e i).port = e.port then s.modL2e i fun x => { x with hit := true } else s.learnMove e i

/-- A learn event stands before another: it arrived earlier, or at the same instant from a lower port (R238). Mirrored
events keep the order of the active device (R243). -/
def LearnEv.before (a b : LearnEv) : Bool :=
  b.mirrored || decide (a.atNs < b.atNs) || (decide (a.atNs = b.atNs) && decide (a.port ≤ b.port))

/-- A learn event joins the queue of the learning unit, which holds 1024 (R238). -/
def State.learnQueue (s : State) (e : LearnEv) : State :=
  if !s.unitUp ⟨2, 7⟩ then s
  else if 1024 ≤ s.tbl.learnQ.length then s.count 5 0 ctrTblLearnOverrun
  else s.modTbl fun t => { t with learnQ := insertBy LearnEv.before { e with atNs := s.now } t.learnQ }

/-- `LEARN_EVENT_PROCESS` (R238, R241, R248): the first event whose bucket is not under rewrite. -/
def execLearnEventProcess (t : Nat) (s : State) : Host.Outcome State Fault Refusal :=
  let s := s.tick t
  .next (match s.tbl.learnQ.find? fun e => !s.bucketBad e.vid e.mac with
    | none => s
    | some e =>
      let s := (s.modTbl fun x => { x with learnQ := x.learnQ.erase e }).learn e
      if e.mirrored then s
      else s.mirrorOut 0 ([1] ++ leBytes 1 e.port ++ leBytes 2 e.vid ++ e.mac))

/-- The window or the freeze of an entry ends (R241). -/
def State.windowEnd (s : State) (i : Nat) : State :=
  s.modL2e i fun x => { x with window := false, frozen := false, moves := 0 }

/-- `L2_MOVE_WINDOW_END` (R241): the window or the freeze of an entry ends when its `TIMER` has passed. A standby that mirrors
learned entries takes the end from its partner (R243). -/
def execL2MoveWindowEnd (t : Nat) (entry : Fin 65536) (s : State) : Host.Outcome State Fault Refusal :=
  let s := s.tick t
  let x := s.l2e entry
  .next (if x.window && decide (x.timer ≤ s.rtcMs) && !s.standbyMirrors 0 then
    (s.windowEnd entry).mirrorOut 0 ([5] ++ leBytes 1 0 ++ leBytes 2 entry)
  else s)

/-- The ageing scan (R237). -/
def State.ageScan (s : State) : State :=
  let gone := (s.tbl.l2.cells.filter fun c => !c.2.hit && !c.2.frozen).length
  let s := s.modTbl fun x => { x with
    ageAt := s.now
    l2 := (x.l2.filter fun _ e => e.hit || e.frozen).map fun _ e => { e with hit := false } }
  (s.count 5 0 ctrTblL2Aged gone).each (List.range 24) State.l2Limit

/-- `L2_AGEING_SCAN` (R237). A standby that mirrors learned entries scans with its partner (R243). -/
def execL2AgeingScan (t : Nat) (s : State) : Host.Outcome State Fault Refusal :=
  let s := s.tick t
  .next (if s.tbl.ageS ≠ 0 && decide (s.tbl.ageAt + s.tbl.ageS * 1000000000 ≤ s.now) && !s.standbyMirrors 0 then
    s.ageScan.mirrorOut 0 [4, 0, 0, 0]
  else s)

/-! Bad entries (R47 to R49, R247, R248). -/

/-- A lookup finds a bad entry: it counts as a parity error of its table, and its rewrite is ordered (R47, R48). -/
def State.tableFound (s : State) (e : Nat × Nat) : State :=
  (s.modTbl fun t => { t with bad := e :: t.bad }).count 5 0 (ctrTblTableParity + e.1)

/-- A bad entry is reported through the fault source of its table once the lookup that found it is used, or discarded
(R47). Where the rewrite is complete by then, the source reads quiet again. -/
def State.tableReport (s : State) (e : Nat × Nat) (spec : Bool) : State :=
  let s := s.report (104 + e.1) e.2 spec
  if s.tbl.bad.any fun b => b.1 == e.1 then s else s.quieten (104 + e.1)

/-- A bad entry found and reported at once. -/
def State.tableBad (s : State) (e : Nat × Nat) (spec : Bool) : State :=
  if s.isBad e then s else (s.tableFound e).tableReport e spec

/-- `TABLE_REWRITE_DONE` (R248): the entry is good again, and its source reads quiet once its table has no bad
entry. -/
def execTableRewriteDone (t : Nat) (table : Fin 8) (index : Nat) (s : State) : Host.Outcome State Fault Refusal :=
  let s := s.tick t
  let e : Nat × Nat := (table, index)
  .next (if s.tbl.bad.contains e then
    let s := s.modTbl fun x => { x with bad := x.bad.filter (· != e) }
    if s.tbl.bad.any fun b => b.1 == table.val then s else s.quieten (104 + table)
  else s)

/-! Routes (R226 to R234, R250). -/

/-- The key of a route record: family and prefix. -/
def routeKey (r : List Byte) : Bool × Nat × Nat :=
  let v6 := le r 0 1 == 2
  (v6, le r 1 1, if v6 then be r 4 16 else be r 4 4)

/-- The bits of a prefix beyond its length are 0. -/
def prefixOk (r : List Byte) : Bool :=
  let (v6, plen, p) := routeKey r
  p % 2 ^ (addrBits v6 - plen) == 0 && (v6 || zeros r 8 12)

/-- Check the prefix part of a route record at a payload offset (R250). -/
def routeCheck (p : List Byte) (o : Nat) : List Check :=
  let r := field p o 32
  [need (inRange (le r 0 1) 1 2) o, need (decide (le r 1 1 ≤ addrBits (le r 0 1 == 2))) (o + 1),
   needZeros p (o + 2) 2, need (prefixOk r) (o + 4)]

/-- Check the next hop of a route record (R250). -/
def hopCheck (p : List Byte) (o : Nat) : List Check :=
  [need (decide (le p (o + 20) 1 ≤ 23) || le p (o + 20) 1 == 0xFE || le p (o + 20) 1 == 0xFF) (o + 20),
   needZeros p (o + 21) 1, needField p (o + 22) 2 1 4094, needZeros p (o + 30) 2]

/-- Checks of the route layout (R250). -/
def routeLayout (p : List Byte) (hops : Bool) : Check :=
  firstFail ([needLen (decide (4 ≤ p.length) && p.length == 4 + 32 * le p 0 2), needField p 0 2 1 127, needZeros p 2 2] ++
    (List.range (le p 0 2)).flatMap fun k =>
      routeCheck p (4 + 32 * k) ++ (if hops then hopCheck p (4 + 32 * k) else []))

/-- A route of the table with a family, length and prefix. -/
def Route.isKey (r : Route) (k : Bool × Nat × Nat) : Bool := r.v6 == k.1 && r.plen == k.2.1 && r.pfx == k.2.2

/-- The next-hop record that holds a next hop, or a free one (R231). -/
def State.hopFor (s : State) (port vid : Nat) (mac : List Byte) : Option Nat :=
  match s.tbl.hops.cells.find? fun c => decide (0 < c.2.uses) && c.2.port == port && c.2.vid == vid && c.2.mac == mac with
  | some c => some c.1
  | none => (List.range 4096).find? fun i => (s.hop i).uses = 0

/-- A route stops using its next-hop record (R231). -/
def State.hopDrop (s : State) (n : Nat) : State := s.modHop n fun h => { h with uses := h.uses - 1 }

/-- EV063 when the words in use first exceed 90 % (R234). -/
def State.spaceJudge (s : State) : State :=
  let used := lpmUsed s.tbl.nodes
  if !s.tbl.spaceLow && decide (458752 * 9 < used * 10) then
    (s.modTbl fun t => { t with spaceLow := true }).raiseOf 63 ⟨2, 4⟩ used
  else s

/-- The trie as firmware works on it. -/
def State.trie (s : State) : LpmWork := { nodes := s.tbl.nodes, freed := s.tbl.freed }

/-- Add one prefix (R231, R233, R234); none where there is no room. -/
def State.routeAdd (s : State) (r : List Byte) : Option State :=
  let k := routeKey r
  let port := le r 20 1
  let vid := le r 22 2
  let mac := field r 24 6
  match s.hopFor port vid mac with
  | none => none
  | some h =>
    let old := s.tbl.routes.find? fun x => x.isKey k
    let new : Route := { v6 := k.1, plen := k.2.1, pfx := k.2.2, hop := h }
    let routes := (s.tbl.routes.filter fun x => !x.isKey k) ++ [new]
    match s.trie.change s.tbl.routes routes s.now with
    | none => none
    | some w =>
      let s := s.modHop h fun x => { port := port, vid := vid, mac := mac, uses := x.uses + 1 }
      let s := match old with
        | some o => s.hopDrop o.hop
        | none => s
      some (s.modTbl fun t => { t with routes := routes, nodes := w.nodes, freed := w.freed }).spaceJudge

/-- Add prefixes in record order until one finds no room; the number made visible comes with the state. -/
def State.routesAdd (s : State) : List (List Byte) → State × Nat × Bool
  | [] => (s, 0, true)
  | r :: l => match s.routeAdd r with
    | none => (s, 0, false)
    | some s' =>
      let (x, n, ok) := s'.routesAdd l
      (x, n + 1, ok)

/-- Effect of `tbl.route.add` (R233, R234). -/
def effectTblRouteAdd (s : State) (p : List Byte) : State × Reply :=
  let (s, n, ok) := s.routesAdd (chunks (p.drop 4) 32 127)
  (s, { status := if ok then stOk else stNoSpace, payload := leBytes 2 n })

/-- `TBL_ROUTE_ADD` (R233). -/
def execTblRouteAdd (t : Nat) (m : Fin 8) (s : State) : Host.Outcome State Fault Refusal :=
  .next (s.simple t m 0x0501 (fun _ p => routeLayout p true) effectTblRouteAdd)

/-- Remove one prefix (R250); the Boolean says that it was present. -/
def State.routeDel (s : State) (r : List Byte) : State × Bool :=
  let k := routeKey r
  match s.tbl.routes.find? fun x => x.isKey k with
  | none => (s, false)
  | some o =>
    let routes := s.tbl.routes.filter fun x => !x.isKey k
    let w := s.trie.prune s.tbl.routes routes s.now
    ((s.hopDrop o.hop).modTbl fun t => { t with routes := routes, nodes := w.nodes, freed := w.freed }, true)

/-- Effect of `tbl.route.del` (R250). -/
def effectTblRouteDel (s : State) (p : List Byte) : State × Reply :=
  let (s, n) := (chunks (p.drop 4) 32 127).foldl (fun (a : State × Nat) r =>
    let (s, hit) := a.1.routeDel r
    (s, a.2 + (if hit then 1 else 0))) (s, 0)
  (s, .ok (leBytes 2 n))

/-- `TBL_ROUTE_DEL` (R250). -/
def execTblRouteDel (t : Nat) (m : Fin 8) (s : State) : Host.Outcome State Fault Refusal :=
  .next (s.simple t m 0x0502 (fun _ p => routeLayout p false) effectTblRouteDel)

/-! L2 commands (R251, R252). -/

/-- Checks of `tbl.l2.config` (R251). -/
def checkTblL2Config (_ : State) (p : List Byte) : Check :=
  let target := le p 0 1
  if target = 0xFF then
    firstFail [needLen (p.length == 60), needField p 1 1 1 255,
      need (le p 2 2 == 0 || inRange (le p 2 2) 10 3600) 2, needField p 4 4 100 60000, needField p 8 1 0 8,
      needZeros p 9 3, need (zeros p (12 + 6 * le p 8 1) (48 - 6 * le p 8 1)) 12]
  else if target ≤ 23 then
    firstFail [needLen (p.length == 8), needField p 1 1 0 3, needZeros p 2 2, needField p 4 4 0 65536]
  else firstFail [needLen (decide (1 ≤ p.length)), need false 0]

/-- Effect of `tbl.l2.config` (R239, R251). A `LIMIT` at or below the present count of its port raises EV062 at once (log
entry 71, DESIGN CHOICE). -/
def effectTblL2Config (s : State) (p : List Byte) : State × Reply :=
  let target := le p 0 1
  if target = 0xFF then
    (s.modTbl fun t => { t with
      moveLimit := le p 1 1, ageS := le p 2 2, holdMs := le p 4 4
      routers := chunks (field p 12 (6 * le p 8 1)) 6 8 }, .ok p)
  else
    ((s.modPort target fun x => { x with l2 := { x.l2 with
      l2Excess := bit (le p 1 1) 0, l2FlushDown := bit (le p 1 1) 1, l2Limit := le p 4 4 } }).l2Limit target, .ok p)

/-- `TBL_L2_CONFIG` (R251). -/
def execTblL2Config (t : Nat) (m : Fin 8) (s : State) : Host.Outcome State Fault Refusal :=
  .next (s.simple t m 0x0503 checkTblL2Config effectTblL2Config)

/-- Checks of `tbl.l2.flush` (R252). -/
def checkTblL2Flush (_ : State) (p : List Byte) : Check :=
  firstFail [needLen (p.length == 4), need (decide (le p 0 1 ≤ 23) || le p 0 1 == 0xFF) 0, needZeros p 1 1,
    needField p 2 2 0 4094]

/-- Effect of `tbl.l2.flush` (R242). -/
def effectTblL2Flush (s : State) (p : List Byte) : State × Reply :=
  let (s, n) := s.l2Flush (if le p 0 1 = 0xFF then none else some (le p 0 1))
    (if le p 2 2 = 0 then none else some (le p 2 2))
  (s.mirrorOut 0 ([2] ++ leBytes 1 (le p 0 1) ++ leBytes 2 (le p 2 2)), .ok (leBytes 4 n))

/-- `TBL_L2_FLUSH` (R242). -/
def execTblL2Flush (t : Nat) (m : Fin 8) (s : State) : Host.Outcome State Fault Refusal :=
  .next (s.simple t m 0x0504 checkTblL2Flush effectTblL2Flush)

/-! Direct tables (R244 to R246, R253, R254). -/

/-- Bytes of an entry of a writable table (R253). -/
def directSize (table : Nat) : Nat := if table = 4 then 16 else if table = 5 then 8 else 4

/-- Check one record of `tbl.direct.write` at a payload offset (R123, R244, R245, R253). -/
def directCheck (p : List Byte) (table o : Nat) : List Check :=
  let e := o + 4
  if table = 4 then
    [needField p o 4 1 4094, need (bits (le p e 4) 24 7 == 0) e, needField p (e + 4) 4 0 0xFFFFFF,
     need (decide (le p (e + 8) 4 ≤ 0xFFFFFF) && (le p (e + 8) 4 &&& bits (le p e 4) 0 24) == le p (e + 8) 4) (e + 8),
     needField p (e + 12) 1 0 3, needZeros p (e + 13) 3]
  else if table = 5 then
    [needField p o 4 0 4095, need (bits (le p (e + 3) 1) 3 4 == 0) (e + 3),
     need (!bit (le p (e + 3) 1) 7 || inRange (le p (e + 4) 2) 64 9600) (e + 4), needZeros p (e + 6) 2]
  else
    [needField p o 4 0 (if table = 6 then 2047 else 0x1FFFFFFF), need (bits (le p e 4) 14 16 == 0) e]

/-- Checks of `tbl.direct.write` (R249, R253): `DENIED` is judged before the length (R85, R620). -/
def checkTblDirectWrite (s : State) (p : List Byte) : Check :=
  let table := le p 0 1
  let n := 4 + directSize table
  if !inRange table 4 7 then firstFail [needLen (decide (1 ≤ p.length)), need false 0]
  else firstFail ([needLeave (!(decide (6 ≤ table) && s.standbyMirrors 2)),
    needLen (decide (4 ≤ p.length) && p.length == 4 + n * le p 2 2),
    needField p 1 1 0 (if 6 ≤ table then 31 else 0)] ++
    (List.range (le p 2 2)).flatMap fun k => directCheck p table (4 + n * k))

/-- Write one entry, or stage it into the pending signal map (R246). -/
def State.directWrite (s : State) (table bus : Nat) (r : List Byte) : State :=
  let i := le r 0 4
  if table = 4 then
    s.modVlan i fun _ =>
      { valid := bit (le r 4 4) 31, member := bits (le r 4 4) 0 24, untag := le r 8 4, flood := le r 12 4
        learn := bit (le r 16 1) 0, route := bit (le r 16 1) 1 }
  else if table = 5 then
    s.modStream i fun _ =>
      { valid := bit (le r 7 1) 7, ports := le r 4 3, cls := bits (le r 7 1) 0 3, maxSdu := le r 8 2 }
  else s.modSig fun g => { g with stagedDirect := g.stagedDirect ++ [(table, bus, i, le r 4 4)] }

/-- Effect of `tbl.direct.write` (R253). -/
def effectTblDirectWrite (s : State) (p : List Byte) : State × Reply :=
  let table := le p 0 1
  (s.each (chunks (p.drop 4) (4 + directSize table) (le p 2 2)) fun s r => s.directWrite table (le p 1 1) r, .ok)

/-- `TBL_DIRECT_WRITE` (R253). -/
def execTblDirectWrite (t : Nat) (m : Fin 8) (s : State) : Host.Outcome State Fault Refusal :=
  .next (s.simple t m 0x0505 checkTblDirectWrite effectTblDirectWrite)

/-- An L2 entry in 16 bytes (R235); an unlisted way is all 0. -/
def State.l2Bytes (s : State) (i : Nat) : List Byte :=
  match s.tbl.l2.find i with
  | none => List.replicate 16 0
  | some e => fitBytes 6 e.mac ++ leBytes 2 e.vid ++ leBytes 1 e.port ++
      leBytes 1 (1 + flag e.hit 1 + flag e.frozen 2) ++ leBytes 1 e.home ++ leBytes 1 e.moves ++ leBytes 4 e.timer

/-- A VLAN entry in 16 bytes (R244). -/
def VlanEnt.bytes (e : VlanEnt) : List Byte :=
  leBytes 4 (e.member + flag e.valid 31) ++ leBytes 4 e.untag ++ leBytes 4 e.flood ++
    leBytes 1 (flag e.learn + flag e.route 1) ++ [0, 0, 0]

/-- A stream-handle entry in 8 bytes (R245). -/
def StreamEnt.bytes (e : StreamEnt) : List Byte :=
  leBytes 3 e.ports ++ leBytes 1 (e.cls + flag e.valid 7) ++ leBytes 2 e.maxSdu ++ [0, 0]

/-- A next-hop record in 16 bytes (R253). -/
def NextHop.bytes (h : NextHop) : List Byte :=
  if h.uses = 0 then List.replicate 16 0
  else leBytes 1 h.port ++ [0] ++ leBytes 2 h.vid ++ fitBytes 6 h.mac ++ List.replicate 6 0

/-- A route in the 32 bytes of its record (R250). -/
def State.routeBytes (s : State) (r : Route) : List Byte :=
  let h := s.hop r.hop
  leBytes 1 (if r.v6 then 2 else 1) ++ leBytes 1 r.plen ++ [0, 0] ++
    (if r.v6 then beBytes 16 r.pfx else beBytes 4 r.pfx ++ List.replicate 12 0) ++
    leBytes 1 h.port ++ [0] ++ leBytes 2 h.vid ++ fitBytes 6 h.mac ++ [0, 0]

/-- Table 0 as it reads: words in use and routes by family (R253). -/
def State.lpmBytes (s : State) : List Byte :=
  leBytes 4 (lpmUsed s.tbl.nodes) ++ leBytes 2 (s.tbl.routes.filter fun r => !r.v6).length ++
    leBytes 2 (s.tbl.routes.filter fun r => r.v6).length

/-- Greatest index of a table that is read by index (R253). -/
def tableTop (table : Nat) : Nat :=
  if table = 2 then 4095 else if table = 3 then 65535 else if table = 4 then 4094 else if table = 5 then 4095
  else if table = 6 then 2047 else 0x1FFFFFFF

/-- One entry of a table as `tbl.read` returns it (R253). -/
def State.tableEntry (s : State) (table bus i : Nat) : List Byte :=
  if table = 2 then (s.hop i).bytes
  else if table = 3 then s.l2Bytes i
  else if table = 4 then (s.vlan i).bytes
  else if table = 5 then (s.stream i).bytes
  else if table = 6 then leBytes 4 (s.map.direct.get 0 (bus * 2048 + i))
  else leBytes 4 (s.map.hashed.get 0 (bus * 2 ^ 29 + i))

/-- Bytes of an entry as `tbl.read` returns it. -/
def entrySize (table : Nat) : Nat := if table ≤ 4 then 16 else if table = 5 then 8 else 4

/-- Checks of `tbl.read` (R254). -/
def checkTblRead (_ : State) (p : List Byte) : Check :=
  let table := le p 0 1
  firstFail ([needLen (p.length == (if table = 1 then 40 else 8)), needField p 0 1 0 7,
    needField p 1 1 0 (if 6 ≤ table then 31 else 0),
    need (decide (table ≤ 1) || inRange (le p 4 4) (if table = 4 then 1 else 0) (tableTop table)) 4] ++
    if table = 1 then routeCheck p 8 else [])

/-- Answer of `tbl.read` (R254). -/
def answerTblRead (s : State) (p : List Byte) : Reply :=
  let table := le p 0 1
  let count := le p 2 2
  let first := le p 4 4
  if table = 0 then .ok (if count = 0 then [] else s.lpmBytes)
  else if table = 1 then
    match s.tbl.routes.find? fun r => r.isKey (routeKey (field p 8 32)) with
    | some r => .ok (if count = 0 then [] else s.routeBytes r)
    | none => .ok
  else
    let n := min (min count (4096 / entrySize table)) (tableTop table + 1 - first)
    .ok ((range first n).flatMap (s.tableEntry table (le p 1 1)))

/-- `TBL_READ` (R254). -/
def execTblRead (t : Nat) (m : Fin 8) (s : State) : Host.Outcome State Fault Refusal :=
  .next (s.query t m 0x0506 checkTblRead answerTblRead)

end Sys2Proof.Machine
end

