-- ==== Sys2Proof/Machine/Classify.lean ====
section
/-! DEFINITION. Taking a frame into the Forwarding Island: parse, lookups, classification, copies
(R44 to R49, R193 to R215, R226 to R248, R261, R262, R278, R306, R308, R397). -/

namespace Sys2Proof.Machine

open Sys2Proof

/-! Lookups and bad entries (R46 to R49). -/

/-- An entry reads bad: it is under rewrite, or its parity check fails here. `par` lists the entries that fail. -/
def State.readsBad (s : State) (par : List (Nat × Nat)) (e : Nat × Nat) : Bool := s.isBad e || par.contains e

/-- What a lookup reads of a list of entries, each a table and an index: all of them, as of the ways of a bucket, or, in a
chain, up to the first bad one. -/
def State.readOf (s : State) (par : List (Nat × Nat)) (chain : Bool) : List (Nat × Nat) → List (Nat × Nat)
  | [] => []
  | e :: r => if chain && s.readsBad par e then [e] else e :: s.readOf par chain r

/-- The tables that a list of reads names. -/
def tablesOf (reads : List (Nat × Nat)) : List Nat := (reads.map fun e => e.1).dedup

/-- A lookup of frame `f` that awaits the frame's verdict (R54): a bad entry makes it a miss of its table; one found
first is marked, and reported at the lookup's fate (R47, R49). -/
def State.lookup (s : State) (f : Nat) (par : List (Nat × Nat)) (chain : Bool) (reads : List (Nat × Nat)) :
    State × Option Nat :=
  let read := s.readOf par chain reads
  let bad := read.filter (s.readsBad par)
  let new := (bad.filter fun e => !s.isBad e).dedup
  ((s.each new State.tableFound).modFrame f fun x => { x with
    lookups := x.lookups ++ tablesOf read, badSeen := x.badSeen ++ new }, bad.head?.map fun e => e.1)

/-- A lookup that is discarded before its frame's verdict (R46, R47): counted per table; a bad entry that it found first
is reported with the speculative flag, one under rewrite is ignored (R49). -/
def State.lookupDiscard (s : State) (par : List (Nat × Nat)) (chain : Bool) (reads : List (Nat × Nat)) : State :=
  let read := s.readOf par chain reads
  let s := s.each (read.filter fun e => par.contains e) fun s e => s.tableBad e true
  s.each (tablesOf read) fun s t => s.count 5 0 (ctrTblSpecLookupDiscarded + t)

/-- A miss of a table by a lookup that is used (R48, R256). -/
def State.tableMiss (s : State) (f table : Nat) : State := s.countAt f 5 0 (ctrTblTableMiss + table)

/-! The key (R202, R203). -/

/-- The family of a frame: 0 none, 1 IPv4, 2 IPv6. -/
def Frame.family (x : Frame) : Nat := bits (le x.key 1 1) 6 2

/-- `KCLASS` of a frame (R262). `mac` holds VID and priority from the MAC of a port in ZG5100 tag mode. -/
def State.kclass (s : State) (x : Frame) (mac : Option (Nat × Nat)) : Nat :=
  if x.src < 24 then
    let e := (s.port x.src).eg
    if !e.pcpTrust then e.defClass
    else match mac, (heads x.bytes).outer with
      | some m, _ => bits e.pcpMap (3 * m.2) 3
      | none, some t => if x.busRec then e.defClass else bits e.pcpMap (3 * bits t 13 3) 3
      | none, none => e.defClass
  else if x.src < 64 then (s.bus (x.src - 32)).tx.defClass
  else s.sw.ringClass.get 0 (x.src - 64)

/-- The key of an ended walk (R202, R203). -/
def State.finishKey (s : State) (x : Frame) (g : List Byte) (mac : Option (Nat × Nat)) (w : Walk) : List Byte :=
  let tci := be w.key 4 2
  let def16 := le g (64 + 2 * x.src) 2
  let tci' := match mac with
    | some _ => tci
    | none =>
      if x.src < 24 && tci % 4096 = 0 then
        (if w.vlan then bits tci 12 4 * 4096 else bits def16 12 3 * 8192) + def16 % 4096
      else tci
  patch (patch w.key 0 (leBytes 1 x.src ++ leBytes 1 (w.family * 64 + flag (w.outcome == 1) 5 + flag w.short 4) ++
    leBytes 1 w.kend ++ leBytes 1 (s.kclass x mac))) 4 (beBytes 2 tci')

/-! Rule, policer, class, stream (R209 to R212, R245, R261). -/

/-- Apply the classifier to frame `f`: rule, colour, class, copy and mirror (R209 to R212, R261). `FWD_BUS` on a frame that
is no bus frame record drops it, unless its rule drops it anyway (R211). -/
def State.ruleApply (s : State) (f : Nat) : State :=
  let x := s.frame f
  match ruleFor (s.bank x.ver).rules x.key with
  | none =>
    (s.modFrame f fun x => { x with rule := none, action := {}, cls := le x.key 3 1 % 8 }).countAt f 4 0
      ctrParseClsNoMatch
  | some r =>
    let a := r.action
    let colour := if a.policer ≤ 1023 then ((s.policer a.policer).refill s.now).colour x.wire else 3
    let c1 := if a.setClass then a.cls else le x.key 3 1 % 8
    let c2 := if colour = 1 && a.yellowAct = 2 then a.yellowClass else c1
    let s := s.modFrame f fun x => { x with
      rule := some r.id, ruleBorn := r.born, action := a, colour := colour, cls := c2
      tides := if a.copy then x.tides ++ [(a.copyQueue, 1)] else x.tides
      mirrorTo := if a.mirror then some a.mirrorPort else none }
    let s := if a.drop then s.countAt f 4 0 ctrParseClsDrop
      else if a.fwdBus && !x.busRec then s.countAt f 4 0 ctrParseClsBadTarget else s
    let s := if a.copy then s.countAt f 4 0 ctrParseClsCopy else s
    if a.mirror then s.countAt f 4 0 ctrParseClsMirror else s

/-- The rule or the colour of a frame drops it (R211, R212). -/
def Frame.dropped (x : Frame) : Bool :=
  x.action.drop || (x.colour == 1 && x.action.yellowAct == 1) || (x.colour == 2 && x.action.redAct == 0)

/-- The stream handle of a frame (R245): class, ports, length limit. -/
def State.streamApply (s : State) (f : Nat) (par : List (Nat × Nat)) : State :=
  let h := (s.frame f).action.stream
  if h = 0xFFFF then s
  else
    let (s, bad) := s.lookup f par true [(5, h)]
    let e := s.stream h
    if bad.isSome || !e.valid then
      (s.tableMiss f 5).countAt f 5 (0x30000 + h) ctrStreamStreamInvalid
    else
      let s := s.modFrame f fun x => { x with
        bind := some h, cls := e.cls
        dropRx := if x.dropRx = 0 && decide (e.maxSdu < x.wire) then 7 else x.dropRx
        bytes := if x.dropRx = 0 && decide (e.maxSdu < x.wire) then x.bytes.take (e.maxSdu - 4) else x.bytes }
      s.countAt f 5 (0x30000 + h) ctrStreamStreamFrames

/-- The ports that the stream of a frame allows. -/
def State.streamPorts (s : State) (x : Frame) : Nat :=
  match x.bind with
  | some h => (s.stream h).ports
  | none => 0xFFFFFF

/-! LPM (R204, R229, R232). -/

/-- The hint that fires on a frame: family and address (R204). It needs the two bytes at `ET_OFFSET`, and its lookup starts
once the address bytes have arrived. -/
def lpmHint (g w : List Byte) : Option (Bool × Nat) :=
  match ((List.range 4).map fun k => field g (16 + 6 * k) 6).find? fun h =>
    le h 3 1 != 0 && decide (le h 0 1 + 2 ≤ w.length) && be w (le h 0 1) 2 == be h 1 2 with
  | some h =>
    let v6 := le h 3 1 == 2
    let n := if v6 then 16 else 4
    if le h 4 1 + n ≤ w.length then some (v6, be w (le h 4 1) n) else none
  | none => none

/-- The result of the LPM lookup of a frame: nothing, a next hop, or the table of its miss. -/
inductive LpmResult where
  | none
  | route (hop : Nat)
  | miss (table : Nat)
  deriving DecidableEq, Repr

/-- The speculative lookups of a walk that the confirmed key contradicts are discarded: the LPM lookup of a hint (R204),
and L2 lookups on bytes that changed later (R46). `family` and `addr` are those of the key, `l2` its `KVLAN` and `KDA`. -/
def State.earlyDiscard (s : State) (par : List (Nat × Nat)) (g w : List Byte) (early : List (List Byte))
    (family addr : Nat) (l2 : List Byte) : State :=
  let s := match lpmHint g w with
    | none => s
    | some h =>
      if family ≠ 0 && h.1 == (family == 2) && h.2 == addr then s
      else s.lookupDiscard par true (s.lpmWalk h.1 h.2).reads
  let gone := match early with
    | k :: r => if k == l2 then r else k :: r
    | [] => []
  s.each gone.reverse fun s k =>
    s.lookupDiscard par false ((l2Ways (be k 0 2 % 4096) (k.drop 2)).map fun i => (3, i))

/-- The address that the LPM unit reads in a key: `KIPDA` by the family (R202, R229). -/
def Frame.ipDest (x : Frame) : Nat := if x.family = 2 then be x.key 20 16 else be x.key 20 4

/-- The LPM lookup of a frame on its final key (R204, R229). A `KIND` of 11 counts as a bad entry of its memory (R247). -/
def State.lpmApply (s : State) (f : Nat) (par : List (Nat × Nat)) : State × LpmResult :=
  let x := s.frame f
  if x.family = 0 then (s, .none)
  else
    let r := s.lpmWalk (x.family == 2) x.ipDest
    let (s, bad) := s.lookup f par true r.reads
    match bad, r.broken, r.hop with
    | some t, _, _ => (s, .miss t)
    | none, some t, _ => (s, .miss t)
    | none, none, some h => (s, .route h)
    | none, none, none => (s, .miss (if r.reads.length = 1 then 0 else 1))

/-! VLAN and learning (R238, R239, R244). -/

/-- The VLAN of a frame (R236, R244): whether its entry is valid, and whether it lets the frame in. -/
def State.vlanApply (s : State) (f : Nat) (par : List (Nat × Nat)) : State × Bool × Bool :=
  let x := s.frame f
  let v := x.vid
  if v = 0 then (s, true, true)
  else
    let (s, bad) := s.lookup f par true [(4, v)]
    let e := s.vlan v
    if bad.isSome || !e.valid || v = 4095 then
      ((s.tableMiss f 4).countAt f 5 (0x10000 + v) ctrVidVlanInvalid, false, false)
    else if x.src < 24 && !bit e.member x.src then (s.countAt f 5 (0x10000 + v) ctrVidVlanIngressDrop, true, false)
    else (s, true, true)

/-- The source lookup of a frame (R238, R239): whether it may be forwarded, and whether it may learn. It is made for a
frame that could learn: from a port, in a VLAN with `LEARN` set, from an individual address; the limit's `EXCESS` is
applied to those frames only (log entry 71, DESIGN CHOICE). An address that is not found, or whose bucket has a bad entry,
counts as a miss of the L2 table (R48, R256). -/
def State.learnApply (s : State) (f : Nat) (par : List (Nat × Nat)) : State × Bool :=
  let x := s.frame f
  let sa := field x.key 12 6
  if 24 ≤ x.src || x.noLearn || x.vid = 0 || !(s.vlan x.vid).learn || bit (le sa 0 1) 0 then (s, true)
  else
    let (s, bad) := s.lookup f par false ((l2Ways x.vid sa).map fun i => (3, i))
    if bad.isSome then (s.tableMiss f 3, true)
    else if (s.l2Find x.vid sa).isSome then (s.modFrame f fun x => { x with learn := true }, true)
    else
      let s := s.tableMiss f 3
      if s.l2Full x.src then
        let flood := (s.port x.src).l2.l2Excess
        (s.countAt f 5 (0x20000 + x.src) (if flood then ctrLearnLearnExcessFlood else ctrLearnLearnExcessDrop), flood)
      else (s.modFrame f fun x => { x with learn := true }, true)

/-! Forwarding (R211, R231, R232, R236, R278). -/

/-- The egress set of a frame: its ports that the VLAN and the stream allow (R244, R245). The VLAN is that in which the
frame leaves: the next hop's for a routed frame (log entry 28). -/
def State.setEgress (s : State) (f mask vid : Nat) : State :=
  let member := if vid ≠ 0 then (s.vlan vid).member else 0xFFFFFF
  s.modFrame f fun x => { x with egress := mask &&& member &&& s.streamPorts x }

/-- A copy for firmware in tide queue 0 (R231, R278). -/
def State.toFirmware (s : State) (f reason : Nat) : State :=
  s.modFrame f fun x => { x with tides := x.tides ++ [(0, reason)] }

/-- TTL or hop limit of a frame, by its family. -/
def Frame.ttl (x : Frame) : Nat :=
  le x.bytes ((heads x.bytes).off + (if x.family = 2 then 7 else 8)) 1

/-- A routed frame (R231, R232, R278). -/
def State.routeApply (s : State) (f : Nat) (lpm : LpmResult) : State :=
  let x := s.frame f
  if x.ttl ≤ 1 then (s.toFirmware f 4).countAt f 6 0x20000 ctrRouteRouteTtlExpired
  else match lpm with
    | .none => s.countAt f 5 0 ctrTblLpmMiss
    | .miss t => (s.tableMiss f t).countAt f 5 0 ctrTblLpmMiss
    | .route n =>
      let h := s.hop n
      if h.port = 0xFF then s.toFirmware f 3
      else if h.port = 0xFE then s
      else (s.modFrame f fun x => { x with routedHop := some n, csum := x.csum ||| 1 }).setEgress f (2 ^ h.port) h.vid

/-- A bridged frame (R236). -/
def State.bridgeApply (s : State) (f : Nat) (par : List (Nat × Nat)) : State :=
  let x := s.frame f
  let da := field x.key 6 6
  let flood := (s.vlan x.vid).flood
  let others := if x.src < 24 then flood - flag (bit flood x.src) x.src else flood
  if bit (le da 0 1) 0 then s.setEgress f others x.vid
  else
    let (s, bad) := s.lookup f par false ((l2Ways x.vid da).map fun i => (3, i))
    match bad, s.l2Find x.vid da with
    | none, some i =>
      let p := (s.l2e i).port
      if p = x.src then s.countAt f 5 0 ctrTblL2SamePort else s.setEgress f (2 ^ p) x.vid
    | _, _ => (s.tableMiss f 3).setEgress f others x.vid

/-- Where a classified frame goes (R211, R232, R236). -/
def State.forwardApply (s : State) (f : Nat) (par : List (Nat × Nat)) (lpm : LpmResult) : State :=
  let x := s.frame f
  let a := x.action
  if x.dropped then s
  else if a.fwdBus then
    if x.busRec then s.modFrame f fun x => { x with busDst := some a.bus } else s
  else if a.fwdPort then s.setEgress f a.fwdMask x.vid
  else if x.vid = 0 then s.countAt f 5 0 ctrTblL2NoVlan
  else if x.family ≠ 0 && (s.vlan x.vid).route && s.tbl.routers.contains (field x.key 6 6) then s.routeApply f lpm
  else s.bridgeApply f par

/-- Lookups, classification and forwarding of a frame whose key is complete (R200). A frame whose port its VLAN does not
list is not forwarded, but it learns (R238, R244). -/
def State.classify (s : State) (f : Nat) (par : List (Nat × Nat)) : State :=
  let s := (s.ruleApply f).streamApply f par
  let (s, lpm) := s.lpmApply f par
  let (s, valid, inVlan) := s.vlanApply f par
  if !valid then s
  else
    let (s, ok) := s.learnApply f par
    if ok && inVlan then s.forwardApply f par lpm else s

/-! The parsers. -/

/-- Handle a frame by the groundsheet parser (R194, R205 to R207). A transit frame loses a hop. -/
def State.groundsheetTake (s : State) (f : Nat) : State :=
  let x := s.frame f
  let plan : GsPlan := if 24 ≤ x.src || x.busRec then {} else s.groundsheet x.src x.bytes
  let s := s.modFrame f fun x => { x with
    gsheet := true, placed := true, egress := ofBits plan.ports, cls := plan.cls
    tides := if plan.firmware then [(0, 2)] else []
    action := { noCt := true }
    transit := plan.route = 1
    bytes := if plan.route = 1 then patch x.bytes 17 (leBytes 1 (le x.bytes 17 1 - 1)) else x.bytes }
  s.countAt f 4 0 (ctrParseGsRoute + plan.route - 1)

/-- The outer frame of a causeway frame that is parsed again from its first byte (R195): `w` are its bytes with the FCS. -/
def Frame.outer (x : Frame) (w : List Byte) : Frame :=
  let b := w.take (w.length - 4)
  { x with bytes := b, busRec := false, ipOk := Machine.ipOk b, l4Ok := Machine.l4Ok b }

/-- Parse and classify frame `f` (R193 to R204). `w` are the bytes that the walk reads, `kind` the place of its
start node in the image, `mac` VID and priority from a MAC in ZG5100 tag mode. A frame that the walk rejects is discarded
before classification, with the lookups that had started (R200). -/
def State.parseTake (s : State) (f : Nat) (w : List Byte) (kind : Nat) (mac : Option (Nat × Nat))
    (par : List (Nat × Nat)) : State :=
  if !s.parse.graphInService then s.groundsheetTake f
  else
    let x := s.frame f
    let g := (s.bank x.ver).graph
    let start : Walk := match mac with
      | some m => { key := patch (List.replicate 64 0) 4 (beBytes 2 (m.2 * 8192 + m.1)), written := 0x30 }
      | none => {}
    let r := walk g w 32 (graphStart g kind) 0 start
    match r.nodes.find? fun n => par.contains (8, n) with
    | some n =>
      let s := (s.earlyDiscard par g w r.early 0 0 []).graphBad n
      (if kind = 5 then s.modFrame f fun x => x.outer w else s).groundsheetTake f
    | none =>
      let s := s.modFrame f fun x => { x with
        outcome := r.outcome, short := r.short, key := s.finishKey x g mac r }
      if r.outcome = 2 then
        (s.earlyDiscard par g w r.early 0 0 []).modFrame f fun x => { x with dropRx := if x.dropRx = 0 then 6 else x.dropRx }
      else
        let x := s.frame f
        let s := s.earlyDiscard par g w r.early x.family x.ipDest (field x.key 4 8)
        let s := s.countAt f 4 0 ctrParseParseFrames
        let s := if r.outcome = 1 then s.countAt f 4 0 ctrParseParseTrunc else s
        let s := if r.short then s.countAt f 4 0 ctrParseParseShort else s
        s.classify f par

/-! Copies (R36, R306, R308, R397). -/

/-- The Ethernet frame record of a frame for a tide queue, or its bus frame record (R397). -/
def Frame.tideRecord (x : Frame) (reason time : Nat) : List Byte :=
  if x.busRec then x.bytes
  else
    leBytes 1 0xC0 ++ leBytes 1 x.src ++ leBytes 2 x.bytes.length ++
      leBytes 2 (x.rule.getD 0xFFFF) ++ leBytes 1 reason ++ leBytes 1 (x.ipOk + 4 * x.l4Ok) ++
      leBytes 2 x.kvlan ++ leBytes 2 x.ver ++ [0, 0, 0, 0] ++ leBytes 8 time ++ x.bytes

/-- Open the tide queue copies of a frame (R403); none while the channel toward the tide queue unit is closed (R20). -/
def State.openCopies (s : State) (f : Nat) : State :=
  let x := s.frame f
  if !s.chanOpen 2 5 then s
  else (if x.tides.isEmpty then s else s.cross 2 5).each x.tides fun s q => (s.tqOpen q.1 f (x.tideRecord q.2 0)).1

/-- The binding of a frame in the signal map of a version: receive layout and payload offset (R306). -/
def State.bindingOf (s : State) (x : Frame) : Option (Nat × Nat) :=
  match x.bind, s.mapOf x.mapVer with
  | some h, some g => g.binds.find h
  | _, _ => none

/-- A bound frame takes a speculative copy set (R306, R308). -/
def State.bindTake (s : State) (f : Nat) : State :=
  let s := s.modFrame f fun x => { x with mapVer := s.map.ver }
  let x := s.frame f
  match s.bindingOf x with
  | none => s
  | some b =>
    if !s.unitUp ⟨3, 0⟩ || !s.chanOpen 2 3 then s.modFrame f fun x => { x with sigCut := true }
    else
      let s := s.cross 2 3
      let (s, set) := s.specStart f x.sigSrc b.1 x.mapVer (x.bytes.drop b.2)
      s.modFrame f fun x => { x with specSet := set }

/-- Take a frame into the Forwarding Island: stamp, parse, classify, copy, bind (R214). The number of the frame
comes with the state. -/
def State.takeFrame (s : State) (x : Frame) (w : List Byte) (kind : Nat) (mac : Option (Nat × Nat))
    (par : List (Nat × Nat)) : State × Nat :=
  let (s, f) := s.newFrame { x with ver := s.parse.cur.ver, atNs := s.now }
  (((s.parseTake f w kind mac par).openCopies f).bindTake f, f)

/-- Take a frame that is not parsed: where it goes is known (R511). -/
def State.placeFrame (s : State) (x : Frame) : State × Nat :=
  let (s, f) := s.newFrame { x with ver := s.parse.cur.ver, atNs := s.now, placed := true }
  (s.openCopies f, f)

/-! Admission (R214, R263). -/

/-- A frame that the closed egresses of a role without the token let pass: a transit causeway frame, or a peer
delay message (R486). -/
def State.exempt (s : State) (x : Frame) : Bool :=
  x.transit || (!x.busRec &&
    (match ptpAt x.bytes (heads x.bytes) with
     | some o => [2, 3, 10].contains (bits (le x.bytes o 1) 0 4)
     | none => false) && s.twin.role != .solo)

end Sys2Proof.Machine
end

