-- ==== Sys2Proof/Machine/Time.lean ====
section
/-! DEFINITION. The time unit: active time and slews, the servo, domain states, time triggers, capture pins, and
the commands of group 0x08 (R341 to R376, R623). -/

namespace Sys2Proof.Machine

open Sys2Proof

/-- The unit of the time events (R619). -/
def timeUnit : UnitId := ⟨5, 7⟩

/-! Active time (R344, R356 to R358). -/

/-- Rate of a domain clock against local time, in 10^-18. -/
def Clock.rate (c : Clock) : Int := c.ppb * 10 ^ 9 / 2 ^ 40

/-- Excess rate of the slew in progress, in 10^-18 (R358). -/
def State.slewExcess (s : State) : Int :=
  match s.time.slew with
  | none => 0
  | some w =>
    let (g, v, f, m) := s.slewNumbers w
    slewRate g v f m ((s.now - w.atNs : Nat) : Int)

/-- Rate of active time against local time, in 10^-18. -/
def State.activeRate (s : State) : Int :=
  match s.twin.steer, s.time.active with
  | some c, _ => c.rate
  | none, none => 0
  | none, some d => (s.dom d).clock.rate + s.slewExcess

/-- Active time goes on from value `a` at rate `v` and follows the clock of domain `d` (R358); a twin standby stays
steered to its partner (R497). -/
def State.follow (s : State) (d : Nat) (a v : Int) : State :=
  let y := (s.dom d).clock
  let gap := y.value s.now - a
  let e0 := v - y.rate
  let s := if s.standby then s else s.modTwin fun w => { w with steer := none }
  s.modTime fun t => { t with
    active := some d
    slew := if gap = 0 && e0 = 0 then none else some { atNs := s.now, gap := gap, e0 := e0 } }

/-- The active domain changes (R356). -/
def State.switchTo (s : State) (d left : Nat) : State :=
  let s := (s.follow d (s.activeAt s.now) s.activeRate).modTime fun t => { t with holdover := false }
  (s.count 8 0 ctrTimeActiveSwitches).raiseOf 83 timeUnit (d + left * 256)

/-- Domain `d` has left the locked state or changed its grandmaster (R356). -/
def State.activeLeft (s : State) (d : Nat) : State :=
  if s.time.active ≠ some d then s
  else if (s.dom (1 - d)).dstate == .locked then s.switchTo (1 - d) d
  else (s.modTime fun t => { t with holdover := true }).raiseOf 84 timeUnit d

/-! Triggers (R359 to R364). -/

/-- The greatest distance of a start (R360). -/
def horizon : Nat := 2 ^ 38

/-- Signed distance of active time from the compare value (R359). -/
def State.trigDistance (s : State) (x : TimeTrig) : Int :=
  (((s.activeNs % 2 ^ 40 : Nat) : Int) - x.c + 2 ^ 39) % 2 ^ 40 - 2 ^ 39

/-- What R360 says of a start at the present instant: refused, or armed with a compare value in 2^-32 ns, a number
of skipped events, and whether it is late. -/
def State.judgeStart (s : State) (start32 per32 : Nat) : Option (Nat × Nat × Bool) :=
  let a32 := (s.activeAt s.now * 65536).toNat
  let a := a32 / 2 ^ 32
  let start := start32 / 2 ^ 32
  if a + horizon < start then none
  else if per32 = 0 then
    if start < a then (if start + horizon < a then none else some (start32, 0, true)) else some (start32, 0, false)
  else if start32 < a32 then
    let k := (a32 - start32 + per32 - 1) / per32
    some (start32 + k * per32, k, false)
  else some (start32, 0, false)

/-- `START` of a trigger as set, in 2^-32 ns. -/
def TimeTrig.start32 (x : TimeTrig) : Nat := x.start * 2 ^ 32 + x.cFrac

/-- `PERIOD` of a trigger in 2^-32 ns. -/
def TimeTrig.per32 (x : TimeTrig) : Nat := x.period * 2 ^ 32 + x.periodFrac

/-- The role and the state let the output pins change (R471, R492). -/
def State.outputsLive (s : State) : Bool := s.twin.role.holder && s.boot.state != 4

/-- A pin takes a level, unless its output is held. -/
def State.pinLevel (s : State) (pin : Nat) (g : TimeOut → TimeOut) : State :=
  s.modTimeOut pin fun o => if s.outputsLive then g o else { g o with level := o.level }

/-- Pins that a trigger leaves drive the inactive level of its last `OUT_POL` (R364). -/
def State.pinsLeave (s : State) (x : TimeTrig) (pins : List Nat) : State :=
  s.each pins fun s p => s.pinLevel p fun o => { o with level := !x.pol, toggled := false, pulseEnd := none, owner := none }

/-- A trigger is disarmed: its targets are free (R361, R362). -/
def State.disarm (s : State) (n : Nat) : State :=
  let x := s.trig n
  (s.modTrig n fun x => { x with armed := false }).pinsLeave x (bitList (x.targets % 256) 8)

/-- Arm a trigger at a compare value (R360). -/
def State.armAt (s : State) (n c32 skipped : Nat) (late : Bool) : State :=
  let s := s.modTrig n fun x => { x with
    armed := true, judged := true, c := c32 / 2 ^ 32 % 2 ^ 40, cFrac := c32 % 2 ^ 32, index := x.index + skipped }
  let s := if late then s.count 8 (0x20000 + n) ctrTrigTrigLate else s
  if skipped = 0 then s
  else (s.count 8 (0x20000 + n) ctrTrigTrigSkipped skipped).raiseOf 86 timeUnit n

/-- Judge a trigger that was armed while active time was unset (R361). -/
def State.judgeTrig (s : State) (n : Nat) : State :=
  let x := s.trig n
  if !x.armed || x.judged then s
  else match s.judgeStart x.start32 x.per32 with
    | some (c, k, late) => s.armAt n c k late
    | none => ((s.disarm n).count 8 (0x20000 + n) ctrTrigTrigDropped).raiseOf 86 timeUnit (n + 256)

/-- A trigger may fire: armed, judged, active time set, and its instant is there (R359, R361). -/
def State.trigDue (s : State) (n : Nat) : Bool :=
  let x := s.trig n
  x.armed && x.judged && s.time.active.isSome && decide (0 ≤ s.trigDistance x)

/-- The pins of a firing (R364). -/
def State.firePins (s : State) (n : Nat) : State :=
  let x := s.trig n
  s.each (bitList (x.targets % 256) 8) fun s p =>
    if !s.outputsLive then s
    else if x.pulseUs = 0 then
      s.modTimeOut p fun o => { o with level := if o.toggled then !o.level else x.pol, toggled := true }
    else s.modTimeOut p fun o => { o with level := x.pol, pulseEnd := some (s.activeNs + x.pulseUs * 1000) }

/-- The trigger after a firing: the next compare value, or disarmed (R359). -/
def State.afterFire (s : State) (n : Nat) : State :=
  s.modTrig n fun x =>
    if x.per32 = 0 then { x with armed := false, index := x.index + 1 }
    else
      let c := (x.c * 2 ^ 32 + x.cFrac + x.per32) % 2 ^ 72
      { x with c := c / 2 ^ 32, cFrac := c % 2 ^ 32, index := x.index + 1 }

/-- Some live signal map refers to a trigger (R362). -/
def State.mapUses (s : State) (n : Nat) : Bool :=
  let uses (g : SigMap) : Bool := g.triggers.cells.any fun c => c.2.periodic && c.2.timeTrig == n
  uses s.sig.cur || (match s.sig.old with | some g => uses g | none => false)

/-! Domain states (R355). -/

/-- A domain goes to listening: no grandmaster (R355, R623). -/
def State.domListen (s : State) (d : Nat) : State :=
  let was := (s.dom d).dstate
  let s := s.modDom d fun x => { x with
    dstate := .listening, gm := none, rank := 0, slavePort := 0xFF, steps := 0, offset := 0, goodRun := 0
    pendSync := none, pdResp := {}, reqSent := {}, paths := {} }
  if was == .locked then s.activeLeft d else s

/-- A domain reaches the locked state; the first sets active time (R344, R355). -/
def State.domLock (s : State) (d : Nat) : State :=
  let s := (s.modDom d fun x => { x with dstate := .locked }).raiseOf 80 timeUnit d
  match s.time.active with
  | none =>
    let s := if s.twin.steer.isSome then (s.follow d (s.activeAt s.now) s.activeRate).modTime fun t => { t with
          holdover := false }
      else s.modTime fun t => { t with active := some d, slew := none, holdover := false }
    (s.raiseOf 85 timeUnit d).each (List.range 32) State.judgeTrig
  | some a => if a = d then s.modTime fun t => { t with holdover := false } else s

/-- A domain goes to acquiring (R355). -/
def State.domAcquire (s : State) (d : Nat) : State :=
  let was := (s.dom d).dstate
  let s := s.modDom d fun x => { x with dstate := .acquiring, goodRun := 0 }
  if was == .locked then s.activeLeft d else s

/-- Limit of the frequency adjustment in 2^-40 ppb. -/
def Domain.fmax (x : Domain) : Int := (x.fmaxPpm * 1000 * 2 ^ 40 : Nat)

/-- One offset sample in 2^-16 ns (R353 to R355). -/
def State.sample (s : State) (d : Nat) (o : Int) : State :=
  let x := s.dom d
  let s := s.count 8 (0x10000 + d) ctrDomSamples
  let s := s.modDom d fun x => { x with offset := o / 65536 }
  let s :=
    if (x.stepNs * 65536 : Nat) < o.natAbs then
      let a := s.activeAt s.now
      let v := s.activeRate
      let s := s.modDom d fun x => { x with sum := 0, clock := x.clock.step s.now (-o) }
      let s := s.count 8 (0x10000 + d) ctrDomDomSteps
      if s.time.active = some d then s.follow d a v else s
    else
      let sum := x.sum + o
      let f := clampInt (o * 2 ^ 24 / 2 ^ x.kp + sum * 2 ^ 24 / 2 ^ x.ki) (-x.fmax) x.fmax
      s.modDom d fun x => { x with sum := sum, clock := x.clock.adjust s.now f }
  let good := decide (o.natAbs < x.lockNs * 65536)
  let s :=
    if x.dstate == .listening || x.dstate == .holdover then s.domAcquire d
    else if x.dstate == .locked && decide (4 * x.lockNs * 65536 < o.natAbs) then s.domAcquire d
    else s
  let s := s.modDom d fun x => { x with goodRun := if good then x.goodRun + 1 else 0 }
  let y := s.dom d
  if y.dstate == .acquiring && decide (y.lockCount ≤ y.goodRun) then s.domLock d else s

/-! PTP messages (R345, R353). Their formats are those of IEEE 1588-2019 and IEEE 802.1AS-2020. -/

/-- A PTP timestamp of 10 bytes in 2^-16 ns (R341). -/
def ptpTime (b : List Byte) (off : Nat) : Int := ((be b off 6 * 1000000000 + be b (off + 6) 4) * 65536 : Nat)

/-- A time in 2^-16 ns as a PTP timestamp of 10 bytes. -/
def ptpStamp (v : Int) : List Byte :=
  let n := (v / 65536).toNat
  beBytes 6 (n / 1000000000) ++ beBytes 4 (n % 1000000000)

/-- The correction field of a message, in 2^-16 ns. -/
def ptpCorrection (b : List Byte) : Int := toSigned 64 (be b 8 8)

/-- The interval of a logarithmic message interval, in ns. -/
def ptpInterval (b : List Byte) : Nat :=
  let l := toSigned 8 (le b 33 1)
  if l < 0 then 1000000000 / 2 ^ l.natAbs else 1000000000 * 2 ^ (min l.natAbs 32)

/-- A stamp taken at the PCS in local ns, moved to the pins and read on a domain clock, in 2^-16 ns (R347). -/
def State.domStamp (s : State) (d p stamp : Nat) : Int :=
  (s.dom d).clock.value (s.time.startAt + stamp) - ((s.port p).rxLat * 16384 : Nat)

/-- An egress stamp now on a domain clock, in 2^-16 ns (R347). -/
def State.domEgress (s : State) (d p : Nat) : Int :=
  (s.dom d).clock.value s.now + ((s.port p).txLat * 16384 : Nat)

/-- The clock identity of the time unit. -/
def clockIdentity : List Byte := leBytes 8 (Config.clockIdentity 0)

/-- A message of the time unit: type, domain, flags, correction, port, sequence, body. -/
def ptpMessage (profile kind num : Nat) (twoStep : Bool) (corr : Int) (p seq : Nat) (body : List Byte) : List Byte :=
  leBytes 1 (flag (profile == 1) 4 + kind) ++ [2] ++ beBytes 2 (34 + body.length) ++ leBytes 1 num ++ [0] ++
    leBytes 1 (flag twoStep 1) ++ [0] ++ beBytes 8 (ofSigned 64 corr) ++ [0, 0, 0, 0] ++ clockIdentity ++
    beBytes 2 (p + 1) ++ beBytes 2 seq ++ [0] ++ [0x7F] ++ body

/-- The group address of a domain's messages by its profile and transport; the standards give it. -/
def Domain.group (x : Domain) : List Byte :=
  if x.profile = 1 then [0x01, 0x80, 0xC2, 0x00, 0x00, 0x0E]
  else if x.transport = 0 then [0x01, 0x1B, 0x19, 0x00, 0x00, 0x00]
  else if x.transport = 1 then [0x01, 0x00, 0x5E, 0x00, 0x01, 0x81]
  else [0x33, 0x33, 0x00, 0x00, 0x01, 0x81]

/-- The Ethernet frame of a message, without FCS. The spec states no source address of the UDP transports, so it
is a free value (log entry 3). -/
def State.ptpFrame (s : State) (x : Domain) (p : Nat) (msg : List Byte) : State × List Byte :=
  let eth := x.group ++ fitBytes 6 (s.port p).cfg.mac
  let port := if [0, 1, 2, 3].contains (bits (le msg 0 1) 0 4) then 319 else 320
  let udp := beBytes 2 port ++ beBytes 2 port ++ beBytes 2 (8 + msg.length) ++ [0, 0] ++ msg
  if x.transport = 0 then (s, fitBytes (max 60 (14 + msg.length)) (eth ++ [0x88, 0xF7] ++ msg))
  else if x.transport = 1 then
    let (src, s) := s.drawBytes 4
    let ip := [0x45, 0] ++ beBytes 2 (28 + msg.length) ++ [0, 0, 0, 0, 1, 17, 0, 0] ++ src ++ [224, 0, 1, 129]
    (s, putIpSum (eth ++ [0x08, 0x00] ++ ip ++ udp))
  else
    let (src, s) := s.drawBytes 16
    let ip := [0x60, 0, 0, 0] ++ beBytes 2 (8 + msg.length) ++ [17, 1] ++ src ++
      [0xFF, 0x0E] ++ List.replicate 12 0 ++ [0x01, 0x81]
    let f := eth ++ [0x86, 0xDD] ++ ip ++ udp
    (s, (putL4Sum f).getD f)

/-- The ingress source number of the time unit's own frames. -/
def srcTime : Nat := 259

/-- The time unit sends a message on a port, in class 7 as PTP has on the start-up routes (R207). The Forwarding Island queues
it with the other frames (R167); the isolation barrier discards it (R16). -/
def State.ptpSend (s : State) (d p : Nat) (msg : List Byte) : State :=
  let (s, bytes) := s.ptpFrame (s.dom d) p msg
  if !s.unitUp timeUnit || !s.unitUp ⟨2, 9⟩ || !s.chanOpen 5 2 then s else
  let (s, f) := (s.cross 5 2).newFrame {
    src := srcTime, bytes := bytes, cls := 7, verdict := 1, whole := true, fixed := true, atNs := s.now
    wire := bytes.length + 4 }
  (s.admitRef f [p] none none (s.exempt (s.frame f))).retire f

/-- The master ports of a domain: its ports but the slave port (R345). -/
def Domain.masters (x : Domain) : List Nat := (bitList x.ports 24).filter (· != x.slavePort)

/-- A sample from origin time, ingress stamp, correction and path delay (R353). -/
def State.offsetSample (s : State) (d p : Nat) (t1 t2 c : Int) : State :=
  let x := s.dom d
  let s := s.modDom d fun x => { x with lastDiff := t2 - t1 - c }
  s.sample d (t2 - t1 - c - x.paths.get 0 p)

/-- Sync (R353). -/
def State.ptpSync (s : State) (d p : Nat) (b : List Byte) (t2 : Int) : State :=
  let x := s.dom d
  if x.slavePort ≠ p || x.gm.isNone then s
  else
    let s := s.modDom d fun x => { x with
      lastSync := s.now, syncNs := ptpInterval b }
    if bit (le b 6 1) 1 then s.modDom d fun x => { x with pendSync := some (be b 30 2, t2, ptpCorrection b) }
    else (s.modDom d fun x => { x with pendSync := none }).offsetSample d p (ptpTime b 34) t2 (ptpCorrection b)

/-- Follow_Up (R353). -/
def State.ptpFollowUp (s : State) (d p : Nat) (b : List Byte) : State :=
  let x := s.dom d
  if x.slavePort ≠ p then s
  else match x.pendSync with
    | some (q, t2, c) =>
      if q = be b 30 2 then
        (s.modDom d fun x => { x with pendSync := none }).offsetSample d p (ptpTime b 34) t2 (c + ptpCorrection b)
      else s
    | none => s

/-- A path delay measured on a port. -/
def State.setPath (s : State) (d p : Nat) (v : Int) : State :=
  s.modDom d fun x => { x with paths := x.paths.set p v }

/-- Pdelay_Req: the time unit answers it (R345). -/
def State.ptpPdelayReq (s : State) (d p : Nat) (b : List Byte) (t2 : Int) : State :=
  s.ptpSend d p (ptpMessage 1 3 (s.dom d).num true 0 p (be b 30 2) (ptpStamp t2 ++ field b 20 10))

/-- Pdelay_Resp (R353). -/
def State.ptpPdelayResp (s : State) (d p : Nat) (b : List Byte) (t4 : Int) : State :=
  match (s.dom d).reqSent.find p with
  | some (q, t1) =>
    if q ≠ be b 30 2 || field b 44 8 != clockIdentity then s
    else if bit (le b 6 1) 1 then
      s.modDom d fun x => { x with pdResp := x.pdResp.set p (q, ptpTime b 34, t4, ptpCorrection b) }
    else s.setPath d p ((t4 - t1 - ptpCorrection b) / 2)
  | none => s

/-- Pdelay_Resp_Follow_Up (R353). -/
def State.ptpPdelayFollowUp (s : State) (d p : Nat) (b : List Byte) : State :=
  let x := s.dom d
  match x.reqSent.find p, x.pdResp.find p with
  | some (q, t1), some (r, t2, t4, c) =>
    if q ≠ r || r ≠ be b 30 2 || field b 44 8 != clockIdentity then s
    else
      let s := s.modDom d fun x => { x with pdResp := x.pdResp.erase p, reqSent := x.reqSent.erase p }
      s.setPath d p ((t4 - t1 - (ptpTime b 34 - t2) - c - ptpCorrection b) / 2)
  | _, _ => s

/-- Delay_Resp (R353). -/
def State.ptpDelayResp (s : State) (d p : Nat) (b : List Byte) : State :=
  let x := s.dom d
  match x.reqSent.find p with
  | some (q, t3) =>
    if q ≠ be b 30 2 || field b 44 8 != clockIdentity then s
    else
      (s.modDom d fun x => { x with reqSent := x.reqSent.erase p }).setPath d p
        ((x.lastDiff + (ptpTime b 34 - t3 - ptpCorrection b)) / 2)
  | none => s

/-- The data set of an Announce as the BMCA compares it, as one number: priority, quality, identity, steps, sender
(R345). -/
def announceRank (b : List Byte) : Nat := be b 47 16 * 2 ^ 80 + be b 20 10

/-- Announce (R345, R355): the best grandmaster is selected; a change of it is reported. A gPTP domain passes the
selected grandmaster's Announce on to its master ports. -/
def State.ptpAnnounce (s : State) (d p : Nat) (b : List Byte) : State :=
  let x := s.dom d
  let gm := be b 53 8
  let mine := x.gm == some gm && x.slavePort == p
  if !(mine || x.gm.isNone || x.dstate == .holdover || decide (announceRank b < x.rank)) then s
  else
    let s := s.modDom d fun x => { x with
      gm := some gm, rank := announceRank b, slavePort := p, steps := be b 61 2 + 1
      lastAnn := s.now, annNs := ptpInterval b
      lastSync := if mine then x.lastSync else s.now }
    let s := if x.gm.isSome && x.gm != some gm then
        let s := (s.count 8 (0x10000 + d) ctrDomGmChanges).raiseOf 82 timeUnit d
        let s := s.modDom d fun x => { x with dstate := .acquiring, goodRun := 0, pendSync := none }
        s.activeLeft d
      else s
    if x.profile = 1 then
      s.each (s.dom d).masters fun s q =>
        s.ptpSend d q (patch (patch b 20 (clockIdentity ++ beBytes 2 (q + 1))) 61 (beBytes 2 (be b 61 2 + 1)))
    else s

/-- A confirmed message of a domain is counted (R376). -/
def State.ptpCount (s : State) (d k : Nat) : State :=
  if k = 0 then s.count 8 (0x10000 + d) ctrDomSyncRx
  else if k = 8 then s.count 8 (0x10000 + d) ctrDomFollowupRx
  else if k = 11 then s.count 8 (0x10000 + d) ctrDomAnnounceRx
  else s

/-- `TIME_MESSAGE_RECEIVED` (R353): a confirmed message from its common header on, with the stamp of the PCS in
local ns. The ports E16 to E23 take part as transparent-clock ports alone (R346); a message into the isolated Control Island
is discarded (R16). -/
def execTimeMessageReceived (t : Nat) (p : Fin 24) (message : List Byte) (stamp : Nat) (s : State) :
    Host.Outcome State Fault Refusal :=
  let s := s.tick t
  let b := message
  .next (match s.ptpDomain p b with
  | none => s
  | some d =>
    if 16 ≤ p.val || !s.unitUp timeUnit || !s.chanOpen (portUnit p).island 5 then s else
    let k := bits (le b 0 1) 0 4
    let s := (s.cross (portUnit p).island 5).ptpCount d k
    let t2 := s.domStamp d p stamp
    if k = 0 then s.ptpSync d p b t2
    else if k = 8 then s.ptpFollowUp d p b
    else if k = 11 then s.ptpAnnounce d p b
    else if (s.dom d).profile = 1 then
      if k = 2 then s.ptpPdelayReq d p b t2
      else if k = 3 then s.ptpPdelayResp d p b t2
      else if k = 10 then s.ptpPdelayFollowUp d p b
      else s
    else if k = 9 then s.ptpDelayResp d p b
    else s)

/-- `PATH_DELAY_REQUEST_SEND` (R345). -/
def execPathDelayRequestSend (t : Nat) (d : Fin 2) (s : State) : Host.Outcome State Fault Refusal :=
  let s := s.tick t
  let x := s.dom d
  .next (if x.dstate == .disabled || x.dstate == .fault then s
  else
    let seq := (x.reqSeq + 1) % 65536
    let s := s.modDom d fun x => { x with reqSeq := seq }
    if x.profile = 1 then
      s.each (bitList x.ports 24) fun s p =>
        (s.ptpSend d p (ptpMessage 1 2 x.num false 0 p seq (List.replicate 20 0))).count 8 (0x10000 + d) ctrDomPdelayTx
    else if x.slavePort ≤ 23 then
      (s.ptpSend d x.slavePort (ptpMessage 2 1 x.num false 0 x.slavePort seq (List.replicate 10 0))).count 8
        (0x10000 + d) ctrDomDelayReqTx
    else s)

/-- A time message of the time unit leaves: its egress stamp is kept, or the Follow_Up of an answer is sent
(R345, R347). -/
def State.ptpLeaves (s : State) (p : Nat) (b : List Byte) : State :=
  match s.ptpDomain p b with
  | none => s
  | some d =>
    let k := bits (le b 0 1) 0 4
    let v := s.domEgress d p
    if k = 1 || k = 2 then s.modDom d fun x => { x with reqSent := x.reqSent.set p (be b 30 2, v) }
    else if k = 3 then
      s.ptpSend d p (ptpMessage 1 10 (s.dom d).num false 0 p (be b 30 2) (ptpStamp v ++ field b 44 10))
    else s

/-! Timeouts and the reference (R350, R355, R358). -/

/-- The 25 MHz reference is lost: both enabled domains enter fault at one instant, so the active one is kept (R355, R357). -/
def State.refLost (s : State) : State :=
  if !s.time.refOk then s
  else
    let was := s.time.active.any fun d => (s.dom d).dstate == .locked
    let s := s.modTime fun x => { x with refOk := false }
    let s := s.each [0, 1] fun s d =>
      if (s.dom d).dstate == .disabled then s else s.modDom d fun x => { x with dstate := .fault, goodRun := 0 }
    let s := if was then s.activeLeft (s.time.active.getD 0) else s
    s.report 163

/-- A timeout of a domain takes it to holdover, without what follows for active time (R355). -/
def State.domTimeout (s : State) (d : Nat) (announce : Bool) : State :=
  let x := s.dom d
  let due := if announce then x.lastAnn + x.annTimeout * x.annNs else x.lastSync + x.syncTimeout * x.syncNs
  if (x.dstate == .acquiring || x.dstate == .locked) && decide (due ≤ s.now) then
    ((s.modDom d fun x => { x with dstate := .holdover, goodRun := 0, pendSync := none }).count 8 (0x10000 + d)
      (if announce then ctrDomAnnounceTimeouts else ctrDomSyncTimeouts)).raiseOf 81 timeUnit (d + flag announce 8)
  else s

/-- Timeouts of one instant, with the loss of the reference and the other timeouts of it that wait in the queue: two
domains that leave the locked state together keep the active one (R357, log entry 75). -/
def State.domTimeouts (s : State) (own : List (Nat × Bool)) : State :=
  let s := if s.pending.any fun c => (match c with
      | .referenceLost u => decide (u ≤ s.now)
      | _ => false) then s.refLost else s
  let all := own ++ s.pending.filterMap fun c => match c with
    | .domainTimeout u d a => if u ≤ s.now then some (d.val, a) else none
    | _ => none
  let was := s.time.active.filter fun d => (s.dom d).dstate == .locked
  let s := s.each all fun s x => s.domTimeout x.1 x.2
  match was with
  | some d => if (s.dom d).dstate == .locked then s else s.activeLeft d
  | none => s

/-- `DOMAIN_TIMEOUT` (R355). -/
def execDomainTimeout (t : Nat) (d : Fin 2) (announce : Bool) (s : State) : Host.Outcome State Fault Refusal :=
  .next ((s.tick t).domTimeouts [(d.val, announce)])

/-- `REFERENCE_LOST` (R355, R357). -/
def execReferenceLost (t : Nat) (s : State) : Host.Outcome State Fault Refusal :=
  .next (s.tick t).refLost

/-- `REFERENCE_RETURN` (R355). -/
def execReferenceReturn (t : Nat) (s : State) : Host.Outcome State Fault Refusal :=
  let s := s.tick t
  .next (if s.time.refOk then s
  else
    let s := s.modTime fun x => { x with refOk := true }
    let s := s.each [0, 1] fun s d => if (s.dom d).dstate == .fault then s.domListen d else s
    s.quieten 163)

/-- `FOLLOW_UP_TABLE_EXPIRY` (R350): entries older than 1 s leave the table of an egress. -/
def execFollowUpTableExpiry (t : Nat) (p : Fin 24) (s : State) : Host.Outcome State Fault Refusal :=
  let s := s.tick t
  .next (s.modPort p fun x => { x with
    followUp := x.followUp.filter fun e => decide (s.now ≤ e.atNs + 1000000000) })

/-- `SLEW_END` (R358). -/
def execSlewEnd (t : Nat) (s : State) : Host.Outcome State Fault Refusal :=
  let s := s.tick t
  .next (match s.time.slew with
  | some w => if s.slewEndNs w ≤ s.now then s.modTime fun x => { x with slew := none } else s
  | none => s)

/-! Pins (R364, R365). -/

/-- `TIME_OUT_PULSE_END` (R364). -/
def execTimeOutPulseEnd (t : Nat) (pin : Fin 8) (s : State) : Host.Outcome State Fault Refusal :=
  let s := s.tick t
  .next (match (s.timeOut pin).pulseEnd with
  | some e =>
    if e ≤ s.activeNs then s.pinLevel pin fun o => { o with level := !o.pol, pulseEnd := none } else s
  | none => s)

/-- `TIME_IN_CAPTURE` (R365). -/
def execTimeInCapture (t : Nat) (pin : Fin 8) (rising : Bool) (s : State) : Host.Outcome State Fault Refusal :=
  let s := s.tick t
  let x := s.timeIn pin
  let a := (s.activeAt s.now).toNat
  .next (if !bit x.edges (if rising then 0 else 1) then s
  else if 16 ≤ x.caps.length then
    let s := (s.modTimeIn pin fun x => { x with lost := min 0xFFFF (x.lost + 1), overflow := true }).count 8
      (0x30000 + pin) ctrCapCaptureLost
    if x.overflow then s else s.raiseOf 87 timeUnit pin
  else
    (s.modTimeIn pin fun x => { x with caps := x.caps ++ [{
      ns := a / 65536 % 2 ^ 64, frac := a % 65536, edge := flag (!rising), unset := s.time.active.isNone }] }).count 8
      (0x30000 + pin) ctrCapCaptures)

/-! `time.domain.config` (R356, R369, R370). -/

/-- The fields of a domain layout but `DFLAGS` differ from those in force. -/
def Domain.differs (x : Domain) (p : List Byte) : Bool :=
  x.profile != le p 2 1 || x.num != le p 3 1 || x.ports != le p 4 4 || x.transport != le p 8 1 ||
    x.syncTimeout != le p 9 1 || x.annTimeout != le p 10 1

/-- Checks of `time.domain.config` (R346, R356, R369, R370). -/
def checkTimeDomainConfig (s : State) (p : List Byte) : Check :=
  let target := le p 0 1
  if target ≤ 1 then
    let x := s.dom target
    firstFail [needLen (p.length == 20), needField p 1 1 0 3, needField p 2 1 1 2, needField p 3 1 0 127,
      need (decide (le p 4 4 ≤ 0xFFFFFF) && (le p 2 1 == 2 ||
        (bitList (le p 4 4) 24).all fun q => decide (q < 16) && !(s.port q).half)) 4,
      need (decide (le p 8 1 ≤ 2) && (le p 2 1 == 2 || le p 8 1 == 0)) 8,
      needField p 9 1 2 255, needField p 10 1 2 255, needZeros p 11 9,
      needLeave (!bit (le p 1 1) 1 || (bit (le p 1 1) 0 && x.dstate == .locked && !x.differs p))]
  else if target = 0x80 then firstFail [needLen (p.length == 100), needZeros p 1 3]
  else if target = 0x81 then
    firstFail ([needLen (p.length == 12), needZeros p 1 3] ++ (List.range 8).map fun k => needField p (4 + k) 1 0 3)
  else firstFail [needLen (decide (1 ≤ p.length)), need false 0]

/-- A domain is disabled (R344, R355, R356). -/
def State.domDisable (s : State) (d : Nat) : State :=
  let was := (s.dom d).dstate
  let s := s.modDom d fun x => { x with
    enable := false, dstate := .disabled, gm := none, rank := 0, slavePort := 0xFF, steps := 0, goodRun := 0
    pendSync := none, pdResp := {}, reqSent := {}, paths := {} }
  if !(s.dom (1 - d)).enable then s.modTime fun t => { t with active := none, slew := none, holdover := false }
  else if was == .locked then s.activeLeft d
  else if s.time.active = some d && (s.dom (1 - d)).dstate == .locked then s.switchTo (1 - d) d
  else s

/-- Effect of a domain layout (R369). -/
def State.domConfig (s : State) (d : Nat) (p : List Byte) : State :=
  let x := s.dom d
  let on := bit (le p 1 1) 0
  let changed := x.differs p
  let s := s.modDom d fun x => { x with
    profile := le p 2 1, num := le p 3 1, ports := le p 4 4, transport := le p 8 1, syncTimeout := le p 9 1
    annTimeout := le p 10 1 }
  if !on then (if x.enable then s.domDisable d else s)
  else
    let s := if !x.enable then
        (if s.time.refOk then s.modDom d fun y => { y with
            enable := true, dstate := .listening, sum := 0, clock := y.clock.adjust s.now 0 }
         else s.modDom d fun y => { y with enable := true, dstate := .fault })
      else if changed && x.dstate != .fault then s.domListen d
      else s
    if bit (le p 1 1) 1 && s.time.active != some d then s.switchTo d (s.time.active.getD 0xFF) else s

/-- Effect of `time.domain.config` (R369, R370). -/
def effectTimeDomainConfig (s : State) (p : List Byte) : State × Reply :=
  let target := le p 0 1
  if target ≤ 1 then (s.domConfig target p, .ok p)
  else if target = 0x80 then
    (s.each (List.range 24) fun s q => s.modPort q fun x => { x with
      rxLat := le p (4 + 4 * q) 2, txLat := le p (6 + 4 * q) 2 }, .ok p)
  else (s.each (List.range 8) fun s q => s.modTimeIn q fun x => { x with edges := le p (4 + q) 1 }, .ok p)

/-- `TIME_DOMAIN_CONFIG` (R369): an automatic change of the same instant is applied first (R357). -/
def execTimeDomainConfig (t : Nat) (m : Fin 8) (s : State) : Host.Outcome State Fault Refusal :=
  .next (((s.tick t).domTimeouts []).simple t m 0x0801 checkTimeDomainConfig effectTimeDomainConfig)

/-! `time.servo.config` (R371). -/

/-- Checks of `time.servo.config` (R371). -/
def checkTimeServoConfig (_ : State) (p : List Byte) : Check :=
  let target := le p 0 1
  if target ≤ 1 then
    firstFail [needLen (p.length == 16), needField p 1 1 0 15, needField p 2 1 0 24, needField p 3 1 1 255,
      needField p 4 2 10 10000, needField p 6 2 1 500, needField p 8 4 1000 1000000000, needZeros p 12 4]
  else if target = 0xFF then
    firstFail [needLen (p.length == 16), needField p 1 2 1 500, needZeros p 3 1, needField p 4 4 100 100000, needZeros p 8 8]
  else firstFail [needLen (decide (1 ≤ p.length)), need false 0]

/-- Effect of `time.servo.config` (R371): new gains from the next sample, new slew limits from now on. -/
def effectTimeServoConfig (s : State) (p : List Byte) : State × Reply :=
  if le p 0 1 ≤ 1 then
    (s.modDom (le p 0 1) fun x => { x with
      kp := le p 1 1, ki := le p 2 1, lockCount := le p 3 1, lockNs := le p 4 2, fmaxPpm := le p 6 2
      stepNs := le p 8 4 }, .ok p)
  else
    let w := s.time.slew.map fun w => { w with atNs := s.now, gap := s.gapAt w s.now, e0 := s.slewExcess }
    (s.modTime fun t => { t with slewPpm := le p 1 2, fslew := le p 4 4, slew := w }, .ok p)

/-- `TIME_SERVO_CONFIG` (R371). -/
def execTimeServoConfig (t : Nat) (m : Fin 8) (s : State) : Host.Outcome State Fault Refusal :=
  .next (s.simple t m 0x0802 checkTimeServoConfig effectTimeServoConfig)

/-! `time.trigger.set` and `time.trigger.clear` (R360 to R364, R372). -/

/-- The trigger that a layout names: 0xFF takes the lowest that is not armed (R372). -/
def State.trigNamed (s : State) (p : List Byte) : Option Nat :=
  if le p 0 1 = 0xFF then (List.range 32).find? fun n => !(s.trig n).armed else some (le p 0 1)

/-- The trigger that a layout describes, not yet judged (R372). -/
def trigOf (p : List Byte) : TimeTrig :=
  { armed := true, start := le p 4 8, cFrac := le p 12 2 * 65536, period := le p 16 4, periodFrac := le p 20 4
    pol := bit (le p 1 1) 0, pulseUs := le p 2 2, targets := le p 24 4 }

/-- Pins and TDM ports of a target word. -/
def ownTargets (targets : Nat) : Nat := targets % 65536

/-- Checks of `time.trigger.set` (R360, R362, R364, R372). -/
def checkTimeTriggerSet (s : State) (p : List Byte) : Check :=
  let x := trigOf p
  let n := s.trigNamed p
  firstFail [needLen (p.length == 32), need (decide (le p 0 1 ≤ 31) || le p 0 1 == 0xFF) 0, needField p 1 1 0 1,
    need (x.period == 0 || decide (x.pulseUs * 1000 < x.period)) 2,
    need (s.time.active.isNone || (s.judgeStart x.start32 x.per32).isSome) 4,
    needZeros p 14 2, need (x.period == 0 || decide (1000 ≤ x.period)) 16,
    need (decide (x.targets < 2 ^ 18) && (List.range 32).all fun k =>
      some k == n || !(s.trig k).armed || (ownTargets (s.trig k).targets &&& ownTargets x.targets) == 0) 24,
    needZeros p 28 4,
    (match n with
     | some k => needLeave (!((s.trig k).armed && s.mapUses k && bit (s.trig k).targets 16 && !bit x.targets 16))
     | none => none),
    needRoom n.isSome]

/-- Checks of `time.trigger.clear` (R362, R368). -/
def checkTimeTriggerClear (s : State) (p : List Byte) : Check :=
  firstFail [needLen (p.length == 1), needField p 0 1 0 31,
    needLeave (!((s.trig (le p 0 1)).armed && s.mapUses (le p 0 1)))]

/-! `time.capture.read` and `time.status` (R373, R374, R623). -/

/-- A capture record (R373). -/
def Capture.bytes (c : Capture) : List Byte :=
  leBytes 8 c.ns ++ leBytes 2 c.frac ++ leBytes 1 c.edge ++ leBytes 1 (flag c.unset) ++ [0, 0, 0, 0]

/-- Effect of `time.capture.read` (R373). -/
def effectTimeCaptureRead (s : State) (p : List Byte) : State × Reply :=
  let x := s.timeIn (le p 0 1)
  let l := x.caps.take (le p 1 1)
  (s.modTimeIn (le p 0 1) fun x => { x with caps := x.caps.drop (le p 1 1), lost := 0, overflow := false },
   .ok (leBytes 1 l.length ++ [0] ++ leBytes 2 x.lost ++ l.flatMap Capture.bytes))

/-- `TIME_CAPTURE_READ` (R373). -/
def execTimeCaptureRead (t : Nat) (m : Fin 8) (s : State) : Host.Outcome State Fault Refusal :=
  .next (s.simple t m 0x0805
    (fun _ p => firstFail [needLen (p.length == 2), needField p 0 1 0 7, needField p 1 1 1 16]) effectTimeCaptureRead)

/-- Code of a domain state (R374). -/
def DState.code : DState → Nat
  | .disabled => 0
  | .listening => 1
  | .acquiring => 2
  | .locked => 3
  | .holdover => 4
  | .fault => 5

/-- The block of a domain (R374, R623). -/
def Domain.block (x : Domain) : List Byte :=
  let quiet := x.dstate == .disabled || x.dstate == .listening
  leBytes 1 x.dstate.code ++ leBytes 1 (if quiet then 0xFF else x.slavePort) ++
    (if quiet then List.replicate 22 0
     else leBytes 2 x.steps ++ leBytes 8 (x.gm.getD 0) ++ leBytes 4 (ofSigned 32 (satSigned 32 x.offset)) ++
       leBytes 4 (ofSigned 32 (x.clock.ppb / 2 ^ 40)) ++
       leBytes 4 (ofSigned 32 (satSigned 32 (x.paths.get 0 x.slavePort / 65536))))

/-- `ASTATE` (R374). -/
def State.astate (s : State) : Nat :=
  if s.time.active.isNone then 0 else if s.time.slew.isSome then 2 else if s.time.holdover then 3 else 1

/-- Answer of `time.status` (R374). -/
def answerTimeStatus (s : State) (_ : List Byte) : Reply :=
  let gap := match s.time.slew with
    | some w => s.gapAt w s.now / 65536
    | none => 0
  .ok (leBytes 1 (s.time.active.getD 0xFF) ++ leBytes 1 s.astate ++ [0, 0] ++
    leBytes 4 (ofSigned 32 (satSigned 32 gap)) ++ leBytes 8 s.activeNs ++ (s.dom 0).block ++ (s.dom 1).block)

/-- `TIME_STATUS` (R374). -/
def execTimeStatus (t : Nat) (m : Fin 8) (s : State) : Host.Outcome State Fault Refusal :=
  .next (s.query t m 0x0806 (fun _ p => needLen p.isEmpty) answerTimeStatus)

end Sys2Proof.Machine
end

