-- ==== Sys2Proof/Machine/Audio.lean ====
section
/-! DEFINITION. The audio router and mixer, TDM ports and AAF streams, the firing of time triggers, and the commands
of group 0x09 (R359, R364, R377 to R394). -/

namespace Sys2Proof.Machine

open Sys2Proof

/-- The unit of the audio events of the router (R619). -/
def audioUnit : UnitId := ⟨3, 1⟩

/-- One millisecond in ns. -/
def msNs : Int := 1000000

/-! Coefficients (R383, R386). -/

/-- The greatest `n` of some bits below which a test holds, found bit by bit. -/
def greatest (test : Nat → Bool) : Nat → Nat → Nat
  | 0, a => a
  | k + 1, a => greatest test k (if test (a + 2 ^ k) then a + 2 ^ k else a)

/-- `scale` times 10 to the power −k/e, rounded to a whole number. -/
def tenthPower (scale k e : Nat) : Nat :=
  greatest (fun n => decide ((2 * n - 1) ^ e * 10 ^ k ≤ (2 * scale) ^ e)) 25 0

/-- The coefficient of a gain code (R383). -/
def gainCoef (g : Nat) : Nat := if g = 0 then 0 else tenthPower 2048 (255 - g) 40

/-- The zone factor 1, in 2^-24. -/
def factorOne : Nat := 2 ^ 24

/-- The zone factor of a level (R386), in 2^-24. -/
def Zone.target (z : Zone) (inForce : Option Nat) (level : Nat) : Nat :=
  match inForce with
  | none => factorOne
  | some f => if level ≤ f then factorOne else if bit z.duckMask level then tenthPower factorOne z.duckDb 20 else 0

/-- The value of a ramp at an instant (R386). -/
def Zone.ramp (z : Zone) (r : Nat × Nat × Int) (t : Int) : Nat :=
  let dur : Int := (if r.1 ≤ r.2.1 then z.upMs else z.downMs : Nat) * msNs
  let e := t - r.2.2
  if dur ≤ e then r.2.1
  else if e ≤ 0 then r.1
  else ((r.1 : Int) + ((r.2.1 : Int) - r.1) * e / dur).toNat

/-- A ramp toward a target from a block on (R386): it starts again from its present factor where the target
changes. -/
def Zone.aim (z : Zone) (r : Nat × Nat × Int) (target : Nat) (b : Int) : Nat × Nat × Int :=
  if r.2.1 = target then r else (z.ramp r b, target, b)

/-- The effective coefficient (R383): a product rounded to 12 bits. -/
def effective (coef factor : Nat) : Nat := min 4095 ((coef * factor + 2 ^ 23) / 2 ^ 24)

/-- Add a product in the 36-bit accumulator; the Boolean says that it saturated (R383). -/
def accumulate (a : Int × Bool) (x : Int) : Int × Bool :=
  let m : Int := 2 ^ 35 - 1
  let y := a.1 + x
  (clampInt y (-m) m, a.2 || decide (y < -m) || decide (m < y))

/-! Input samples (R377, R378, R381). -/

/-- Number of the 48 kHz instant nearest to a presentation time. -/
def gridOf (pt : Int) : Int := (pt * 48 + 500000) / 1000000

/-- The block that plays a presentation time. -/
def audioBlock (pt : Int) : Int := gridOf pt / 48 * msNs

/-- The listener that feeds an input channel. -/
def State.listenerOf (s : State) (c : Nat) : Option Nat :=
  (range 64 64).find? fun i =>
    let x := s.aaf i
    x.enable && decide (x.chBase ≤ c) && decide (c < x.chBase + x.channels)

/-- Put samples of one channel into the audio buffers; a late or early one is discarded, counted for an AAF
stream. A block that is not computed yet uses silence in the place of a late one (R378). -/
def State.putSample (s : State) (x : Sample) : State :=
  let now : Int := s.activeNs
  let aaf := x.src == 1
  if audioBlock x.pt - 2 * msNs < (x.avail : Int) && decide (x.avail ≤ s.activeNs) then
    let s := if aaf then s.count 9 (0x20000 + x.sidx) ctrAafAafLate else s
    if s.aud.block < audioBlock x.pt then s.modAud fun a => { a with inputs := a.inputs ++ [{ x with val := 0, avail := 0 }] }
    else s
  else if now + 20 * msNs < x.pt then
    if aaf then s.count 9 (0x20000 + x.sidx) ctrAafAafEarly else s
  else s.modAud fun a => { a with inputs := a.inputs ++ [x] }

/-- Put a sample of a source of 48 or 16 kHz. The values of the interpolation filter are not stated: the two
samples between two of 16 kHz, and the filtered value itself, are free (log entry 3). -/
def State.putRated (s : State) (rate16 : Bool) (x : Sample) : State :=
  if !rate16 then s.putSample x
  else
    [0, 1, 2].foldl (fun s (k : Nat) =>
      let (v, s) := s.drawBelow (2 ^ 24)
      s.putSample { x with pt := x.pt + (k * 62500 / 3 : Nat), val := toSigned 24 v }) s

/-- The values of an input channel in a block with the gaps and slips of its stream (R378, R381). -/
def State.chanValues (s : State) (b : Int) (c : Nat) : List Int × Nat × Nat :=
  let l := s.aud.inputs.filter fun x => x.chan == c && decide ((x.avail : Int) ≤ b - 2 * msNs)
  let stream := match s.listenerOf c with
    | some i => !(s.aaf i).lost && (s.aaf i).lastPt.isSome
    | none => false
  let last (k : Int) : Option Sample := (l.filter fun x => decide (gridOf x.pt < k)).foldl
    (fun (a : Option Sample) x => match a with
      | none => some x
      | some y => if y.pt ≤ x.pt then some x else some y) none
  let first := gridOf b
  (List.range 48).foldl (fun (a : List Int × Nat × Nat) k =>
    let hits := l.filter fun x => gridOf x.pt == first + k
    match hits.foldl (fun (m : Option Sample) x => match m with
        | none => some x
        | some y => if y.pt ≤ x.pt then some x else some y) none with
    | some x => (a.1 ++ [x.val], a.2.1, a.2.2 + (if stream then hits.length - 1 else 0))
    | none =>
      if stream then
        match last (first + k) with
        | some x => (a.1 ++ [x.val], a.2.1 + 1, a.2.2)
        | none => (a.1 ++ [0], a.2.1 + 1, a.2.2)
      else (a.1 ++ [0], a.2.1, a.2.2)) ([], 0, 0)

/-! Talkers (R382, R392). -/

/-- One sample in a stream's format (R380). -/
def sampleBytes (fmt : Nat) (v : Int) : List Byte :=
  let u := ofSigned 24 v
  if fmt = 0 then beBytes 2 (u / 256) else if fmt = 1 then beBytes 3 u else beBytes 4 (u * 256)

/-- The instants and values of one channel that a talker may take, from an instant on, oldest first. -/
def State.talkSamples (s : State) (x : AafStream) (c : Nat) : List (Int × Int) :=
  let l : List (Int × Int) := if x.fromOut then
      s.aud.blocks.reverse.flatMap fun b =>
        (List.range 48).map fun (k : Nat) =>
          (((b.start + ((k * 62500 / 3 : Nat) : Int)) : Int), ((b.outs.get [] c)[k]?).getD (0 : Int))
    else
      sortBy (fun (a : Int × Int) (b : Int × Int) => decide (a.1 < b.1))
        ((s.aud.inputs.filter fun y => y.chan == c && decide (y.avail ≤ s.activeNs)).map fun y => (y.pt, y.val))
  let l := l.filter fun y => decide (x.outNext ≤ y.1)
  if x.rate16 then l.filter fun y => gridOf y.1 % 3 == 0 else l

/-- The frame of a talker: template, tag with the PCP in bits [15:13] and the VID, time stamp, sequence number, data (R392). -/
def AafStream.frame (x : AafStream) (pt : Int) (data : List Byte) : List Byte :=
  let h := (x.template.getD {}).header
  let v := patch (patch h 15 (leBytes 1 (setBit (le h 15 1) 0 true))) 16 (leBytes 1 x.outSeq)
  let v := patch (patch v 26 (beBytes 4 (pt % 2 ^ 32).toNat)) 34 (beBytes 2 data.length)
  v.take 12 ++ [0x81, 0x00] ++ beBytes 2 (x.handle / 4096 % 8 * 8192 + x.handle % 4096) ++ v.drop 12 ++ data

/-- Number of the ingress source that stands for the audio router. -/
def srcAudio : Nat := 258

/-- A talker builds its next frame once `SPF` samples are there (R382). Decimated samples of a 16 kHz talker are
free values: the spec does not state the filter (log entry 3). -/
def State.talkOne (s : State) (n : Nat) : Option State :=
  let x := s.aaf n
  if !x.enable || x.template.isNone then none
  else
    let lead := (s.talkSamples x x.chBase).take x.spf
    match lead.head?, lead.getLast? with
    | some a, some z =>
      if lead.length < x.spf then none
      else
        let chans := (range x.chBase x.channels).map fun c =>
          let l := s.talkSamples x c
          lead.map fun k => match l.find? fun y => gridOf y.1 == gridOf k.1 with
            | some y => y.2
            | none => 0
        let (data, s) := (List.range x.spf).foldl (fun (d : List Byte × State) k =>
          chans.foldl (fun (d : List Byte × State) ch =>
            if x.rate16 then
              let (v, s) := d.2.drawBelow (2 ^ 24)
              (d.1 ++ sampleBytes x.fmt (toSigned 24 v), s)
            else (d.1 ++ sampleBytes x.fmt ((ch[k]?).getD 0), d.2)) d) ([], s)
        let raw := x.frame (a.1 + (x.talkAdd : Int) * msNs) data
        let bytes := fitBytes (max 60 raw.length) raw
        let s := (s.modAaf n fun y => { y with outSeq := (y.outSeq + 1) % 256, outNext := z.1 + 1 }).count 9
          (0x20000 + n) ctrAafAafFrames
        if !s.unitUp ⟨2, 9⟩ || !s.chanOpen 3 2 then some s
        else
        let (s, f) := (s.cross 3 2).newFrame {
          src := srcAudio, bytes := bytes, cls := x.cls, verdict := 1, whole := true, fixed := true, atNs := s.now
          wire := bytes.length + 4, egress := x.ports }
        some ((s.admitRef f (bitList x.ports 24) none none).retire f)
    | _, _ => none

/-- A talker builds frames while it can, at most `k` of them. -/
def State.talkLoop (s : State) (n : Nat) : Nat → State
  | 0 => s
  | k + 1 => match s.talkOne n with
    | none => s
    | some s => s.talkLoop n k

/-- Every talker builds the frames whose samples are there (R382). -/
def State.talk (s : State) : State :=
  if s.unitUp audioUnit then
    s.each ((s.aud.streams.cells.filter fun c => decide (c.1 < 64) && c.2.enable).map fun c => c.1)
      fun s n => s.talkLoop n 64
  else s

/-! TDM frames (R378, R379, R492). -/

/-- The sample of an output at an instant, from the computed blocks (R378). -/
def State.outSample (s : State) (o : Nat) (f : Int) : Int :=
  let k := gridOf f
  match s.aud.blocks.find? fun b => b.start == k / 48 * msNs with
  | some b => ((b.outs.get [] o)[(k % 48).toNat]?).getD 0
  | none => 0

/-- The samples of the transmit slots of a port. Those of a 16 kHz port come from the decimation filter, which the
spec does not state: free values (log entry 3). -/
def State.tdmOut (s : State) (x : TdmPort) : List Int × State :=
  (List.range x.slots).foldl (fun (a : List Int × State) k =>
    if x.rate16 then
      let (v, s) := a.2.drawBelow (2 ^ 24)
      (a.1 ++ [toSigned 24 v], s)
    else (a.1 ++ [a.2.outSample (x.outBase + k) a.2.activeNs], a.2)) ([], s)

/-- A frame starts on a TDM port (R377, R379). The levels at `An_SDI` are free values (log entry 3). A device
without the token repeats its last samples (R492). -/
def State.tdmFrame (s : State) (a : Nat) (period : Nat) : State :=
  let x := s.tdm a
  let i := (tdmUnit a).island
  if !x.enable || !s.unitUp (tdmUnit a) then s
  else
    let s := s.modTdm a fun x => { x with running := true, lastFrame := s.now, noFrame := false }
    let s := s.count 9 (0x10000 + a) ctrTdmTdmFrames
    let s :=
      if s.twin.role.holder then
        let (l, s) := if s.unitUp audioUnit && s.chanOpen 3 i then (s.cross 3 i).tdmOut x else (List.replicate x.slots 0, s)
        s.modTdm a fun x => { x with sdo := l }
      else s
    if !s.unitUp audioUnit || !s.chanOpen i 3 then s
    else
      let s := s.cross i 3
      let f : Int := s.activeNs
      let s := (List.range x.slots).foldl (fun s k =>
        let (v, s) := s.drawBelow (2 ^ 24)
        s.putRated x.rate16 {
          chan := x.inBase + k, pt := f + (x.inDelay * 100000 : Nat), val := toSigned 24 v
          avail := f.toNat + period }) s
      s.talk

/-- The TDM ports whose frames a firing of a trigger starts (R379). -/
def State.firePorts (s : State) (n : Nat) : List Nat :=
  (List.range 8).filter fun a => bit (s.trig n).targets (8 + a) && (s.tdm a).trig == n

/-- A trigger fires if it is due (R359 to R364, R317, R379): pins, TDM frames, periodic compositions. -/
def State.trigFire (s : State) (n : Nat) : State :=
  if s.trigDue n then
    let x := s.trig n
    let s := (s.count 8 (0x20000 + n) ctrTrigTrigFired).firePins n
    let s := s.each (s.firePorts n) fun s a => s.tdmFrame a x.period
    let s := s.afterFire n
    if bit x.targets 16 && s.unitUp ⟨3, 0⟩ then (s.periodic n).fireFlush else s
  else s

/-- `TIME_TRIGGER_FIRE` (R359). -/
def execTimeTriggerFire (t : Nat) (n : Fin 32) (s : State) : Host.Outcome State Fault Refusal :=
  .next ((s.tick t).trigFire n).fireFlush

/-- Effect of `time.trigger.set` (R360 to R364): a firing that is due takes place under the old setting first (R363). -/
def effectTimeTriggerSet (s : State) (p : List Byte) : State × Reply :=
  match s.trigNamed p with
  | none => (s, .noSpace)
  | some n =>
    let s := s.trigFire n
    let x := trigOf p
    let old := s.trig n
    let gone := (List.range 8).filter fun k => (s.timeOut k).owner == some n && !bit x.targets k
    let s := (s.pinsLeave old gone).modTrig n fun _ => x
    let s := s.each (bitList (x.targets % 256) 8) fun s k => s.pinLevel k fun _ => { level := !x.pol, pol := x.pol, owner := some n }
    let head := leBytes 1 n ++ List.replicate 7 0
    match s.time.active, s.judgeStart x.start32 x.per32 with
    | some _, some (c, k, late) =>
      (s.armAt n c k late, .ok (head ++ leBytes 8 (if late then s.activeNs else c / 2 ^ 32)))
    | _, _ => (s, .ok (head ++ List.replicate 8 0))

/-- `TIME_TRIGGER_SET` (R360). -/
def execTimeTriggerSet (t : Nat) (m : Fin 8) (s : State) : Host.Outcome State Fault Refusal :=
  .next (s.simple t m 0x0803 checkTimeTriggerSet effectTimeTriggerSet)

/-- Effect of `time.trigger.clear` (R362, R363). -/
def effectTimeTriggerClear (s : State) (p : List Byte) : State × Reply :=
  let s := s.trigFire (le p 0 1)
  (if (s.trig (le p 0 1)).armed then s.disarm (le p 0 1) else s, .ok)

/-- `TIME_TRIGGER_CLEAR` (R362). -/
def execTimeTriggerClear (t : Nat) (m : Fin 8) (s : State) : Host.Outcome State Fault Refusal :=
  .next (s.simple t m 0x0804 checkTimeTriggerClear effectTimeTriggerClear)

/-- `TDM_NO_FRAME` (R379): two trigger periods without a frame start. -/
def execTdmNoFrame (t : Nat) (a : Fin 8) (s : State) : Host.Outcome State Fault Refusal :=
  let s := s.tick t
  let x := s.tdm a
  let p := (s.trig x.trig).period
  let p := if p = 0 then (if x.rate16 then 62500 else 20833) else p
  .next (if x.enable && s.unitUp (tdmUnit a) && !x.noFrame && decide (x.lastFrame + 2 * p ≤ s.now) then
    let s := (s.modTdm a fun x => { x with noFrame := true, running := false, sdo := [] }).modAud fun u => { u with
      inputs := u.inputs.filter fun y => !(y.src == 0 && decide (x.inBase ≤ y.chan) && decide (y.chan < x.inBase + x.slots)) }
    (s.count 9 (0x10000 + a) ctrTdmTdmMissed).raiseOf 88 (tdmUnit a) a
  else s)

/-! AAF listeners (R380, R381). -/

/-- One sample of a received frame (R380). -/
def sampleOf (fmt : Nat) (d : List Byte) (k : Nat) : Int :=
  if fmt = 0 then toSigned 24 (be d (2 * k) 2 * 256)
  else if fmt = 1 then toSigned 24 (be d (3 * k) 3)
  else toSigned 24 (be d (4 * k) 4 / 256)

/-- Bytes of a sample of a format. -/
def sampleSize (fmt : Nat) : Nat := fmt + 2

/-- The AVTP header of an AAF frame: EtherType 0x22F0, subtype 2, as IEEE 1722 gives them. -/
def aafHead (f : List Byte) : Option (List Byte) :=
  let h := heads f
  if h.etype = 0x22F0 && le f h.off 1 = 2 then some (f.drop h.off) else none

/-- One period of a sample rate after `k` samples, in ns. -/
def periodNs (rate16 : Bool) (k : Nat) : Int := (if rate16 then k * 62500 else k * 62500 / 3 : Nat)

/-- A confirmed frame reaches a listener (R380, R381). -/
def State.aafTake (s : State) (n : Nat) (b : List Byte) : State :=
  let x := s.aaf n
  if be b 4 8 ≠ x.streamId then s.count 9 (0x20000 + n) ctrAafAafIdMismatch
  else
    let tv := bit (le b 1 1) 0
    let a : Int := s.activeNs
    let pt? : Option Int := if tv then some (a + toSigned 32 (ofSigned 32 ((be b 12 4 : Int) - a))) else x.lastPt
    match pt? with
    | none => s
    | some pt =>
      let data := b.drop 24
      let count := min (be b 20 2) data.length / (sampleSize x.fmt * x.channels)
      let s := match x.seq with
        | some q => if (q + 1) % 256 = le b 2 1 then s else s.count 9 (0x20000 + n) ctrAafAafSeqErr
        | none => s
      let s := s.modAaf n fun y => { y with
        seq := some (le b 2 1), lastPt := some (pt + periodNs x.rate16 count), lastAt := s.now, lost := false }
      let s := s.count 9 (0x20000 + n) ctrAafAafFrames
      let s := if x.lost then s.raiseOf 90 audioUnit n else s
      let s := (List.range count).foldl (fun s k =>
        (List.range x.channels).foldl (fun s c =>
          s.putRated x.rate16 {
            chan := x.chBase + c, pt := pt + x.adj + periodNs x.rate16 k, val := sampleOf x.fmt data (k * x.channels + c)
            avail := s.activeNs, src := 1, sidx := n }) s) s
      s.talk

/-- A confirmed frame with a stream handle reaches its listeners (R381). -/
def State.aafAccept (s : State) (handle : Nat) (f : List Byte) : State :=
  if !s.unitUp audioUnit then s
  else match aafHead f with
    | none => s
    | some b =>
      s.each ((s.aud.streams.cells.filter fun c => decide (64 ≤ c.1) && c.2.enable && c.2.handle == handle).map
        fun c => c.1) fun s n => s.aafTake n b

/-- `AAF_STREAM_LOST` (R381). -/
def execAafStreamLost (t : Nat) (stream : Fin 128) (s : State) : Host.Outcome State Fault Refusal :=
  let s := s.tick t
  let x := s.aaf stream
  .next (if 64 ≤ stream.val && x.enable && !x.lost && decide (x.lastAt + 10000000 ≤ s.now) then
    ((s.modAaf stream fun x => { x with lost := true }).modAud fun u => { u with
      inputs := u.inputs.filter fun y => !(y.src == 1 && y.sidx == stream.val) }).raiseOf 89 audioUnit stream
  else s)

/-! Announcements (R385 to R389). -/

/-- An announcement ends (R389). -/
def State.annEnd (s : State) (k : Nat) : State :=
  (s.modAud fun a => { a with anns := a.anns.erase k }).raiseOf 92 audioUnit k

/-- Samples of a library message. -/
def LibMsg.length (m : LibMsg) : Nat := m.bytes.length / 3 * (if m.rate16 then 3 else 1)

/-- A library announcement has played all of its repeats (R390). -/
def State.annOver (s : State) (x : Announce) : Bool :=
  x.lib && x.repeats != 0 && decide ((s.libMsg x.src).length * x.repeats ≤ x.pos)

/-- The announcements in order of acceptance. -/
def State.annOrder (s : State) : List Nat :=
  (sortBy (fun (a b : Nat × Announce) => decide (a.2.seq < b.2.seq)) s.aud.anns.cells).map fun c => c.1

/-- The announcements that play in a zone. -/
def State.zonePlaying (s : State) (z : Nat) : List Announce :=
  (s.aud.anns.cells.filter fun c => bit c.2.playing z).map fun c => c.2

/-- The level in force in a zone (R385). -/
def State.zoneLevel (s : State) (z : Nat) : Option Nat := ((s.zonePlaying z).map fun x => x.level).min?

/-- EV093 for the first time an announcement is muted, ducked or waiting (R389, R393). -/
def State.annPreempt (s : State) (k z : Nat) : State :=
  if (s.ann k).preempted then s
  else (s.modAnn k fun x => { x with preempted := true }).raiseOf 93 audioUnit (k + z * 256)

/-- An announcement plays in a zone (R387, R389). -/
def State.annPlay (s : State) (k z : Nat) : State :=
  let x := s.ann k
  let s := s.modAnn k fun x => { x with
    playing := setBit x.playing z true, started := true, ramps := x.ramps.set z (0, 0, 0) }
  if x.started then s else (s.count 9 0 ctrAudAnnStarted).raiseOf 91 audioUnit k

/-- A new announcement in a zone: it plays or waits (R387). -/
def State.annJoin (s : State) (k z : Nat) : State :=
  let x := s.ann k
  if s.zoneLevel z == some x.level && decide (2 ≤ x.level) then s.annPreempt k z else s.annPlay k z

/-- The block from which an announcement starts, and its start position there (R388). -/
def Announce.startIn (x : Announce) (b : Int) : Option (Nat × Bool) :=
  if !x.lib || x.presentAt = 0 then some (0, false)
  else
    let g : Int := ((x.presentAt * 48 + 999999) / 1000000 : Nat)
    let first := gridOf b
    if first + 48 ≤ g then none else some ((first - g).toNat, decide (g < first))

/-- Apply the start of an announcement in a block (R388, R389). -/
def State.annStart (s : State) (b : Int) (k : Nat) : State :=
  let x := s.ann k
  match x.startIn b with
  | none => s
  | some (pos, late) =>
    let s := s.modAnn k fun x => { x with
      applied := true, pos := pos, late := late
      startPt := if x.lib && x.presentAt ≠ 0 && !late then some ((x.presentAt * 48 + 999999) / 1000000 : Nat) else none }
    let s := if late then s.count 9 0 ctrAudAnnLateStart else s
    s.each (bitList x.zones 32) fun s z => s.annJoin k z

/-- A waiting announcement plays once every earlier one of its level has ended in the zone (R387). -/
def State.annPromote (s : State) (k : Nat) : State :=
  let x := s.ann k
  if !x.applied then s
  else
    s.each (bitList x.zones 32) fun s z =>
      let earlier := s.aud.anns.cells.any fun c =>
        c.2.applied && bit c.2.zones z && c.2.level == x.level && decide (c.2.seq < x.seq)
      if bit (s.ann k).playing z || earlier then s else s.annPlay k z

/-- An announcement is muted in a zone (R386). -/
def State.annMuted (s : State) (x : Announce) (z : Nat) : Bool :=
  bit x.playing z && (s.zone z).target (s.zoneLevel z) x.level == 0

/-- What the levels in force do to an announcement that plays: EV093, and its end where `ON_PREEMPT` is 2
(R387, R389). -/
def State.annSettle (s : State) (k : Nat) : State :=
  let x := s.ann k
  let s := s.each (bitList x.playing 32) fun s z =>
    if (s.zone z).target (s.zoneLevel z) x.level = factorOne then s else s.annPreempt k z
  let muted := (bitList x.playing 32).filter fun z => s.annMuted x z
  if x.onPreempt ≠ 2 || muted.isEmpty then s
  else
    let s := s.modAnn k fun x => { x with
      zones := x.zones - (x.zones &&& ofBits muted), playing := x.playing - (x.playing &&& ofBits muted) }
    if (s.ann k).zones = 0 then s.annEnd k else s

/-- A library message pauses: muted or waiting in every zone, with `ON_PREEMPT` 1 (R387). -/
def State.annPaused (s : State) (x : Announce) : Bool :=
  !x.started || (x.onPreempt == 1 && (bitList x.zones 32).all fun z => !bit x.playing z || s.annMuted x z)

/-- The ramps of a zone take their targets from a block on (R386). -/
def State.zoneAim (s : State) (b : Int) (z : Nat) : State :=
  let f := s.zoneLevel z
  let x := s.zone z
  let ramps := (List.range 8).foldl (fun r l =>
      let old := r.get (factorOne, factorOne, 0) l
      let new := x.aim old (x.target f l) b
      if new = old then r else r.set l new) x.ramps
  let s := s.modZone z fun y => { y with
    level := f
    ramps := ramps }
  s.modAud fun a => { a with
    anns := a.anns.map (fun _ y =>
      if bit y.playing z then
        { y with
          ramps := y.ramps.set z (x.aim (y.ramps.get (0, 0, 0) z) (x.target f y.level) b) }
      else y) }

/-- The samples of a library announcement in a block. Without LPDDR4X no read arrives: silence, `lib_underrun` and
EV095 once (R378, R390). Samples between those of 16 kHz are free values (log entry 3). -/
def State.libValues (s : State) (b : Int) (k : Nat) : List Int × State :=
  let x := s.ann k
  let m := s.libMsg x.src
  let n := m.bytes.length / 3
  let lead := match x.startPt with
    | some g => (g - gridOf b).toNat
    | none => 0
  if s.annPaused x || n = 0 then (List.replicate 48 0, s)
  else if !s.boot.lpddr then
    let s := s.count 9 0 ctrAudLibUnderrun 48
    (List.replicate 48 0,
      if x.under then s else (s.modAnn k fun x => { x with under := true }).raiseOf 95 audioUnit k)
  else
    let total := m.length * x.repeats
    let (l, s) := (List.range 48).foldl (fun (a : List Int × State) j =>
      let p := x.pos + j - lead
      if j < lead || (x.repeats ≠ 0 && decide (total ≤ p)) then (a.1 ++ [0], a.2)
      else if m.rate16 then
        let (v, s) := a.2.drawBelow (2 ^ 24)
        (a.1 ++ [toSigned 24 v], s)
      else (a.1 ++ [toSigned 24 (le m.bytes (3 * (p % n)) 3)], a.2)) ([], s)
    (l, s.modAnn k fun x => { x with pos := x.pos + 48 - lead, startPt := none })

/-! Blocks (R378, R383). -/

/-- What one contribution adds to the 48 samples of an output: values, coefficients at the start and the end of the
block, factor at each instant. -/
structure Part where
  /-- Input values. -/
  vals : List Int
  /-- Coefficient in force before. -/
  old : Nat
  /-- Coefficient now. -/
  new : Nat
  /-- Zone and ramp, none for an output in no zone. -/
  ramp : Option (Zone × (Nat × Nat × Int)) := none

/-- One sample of a contribution (R383, R384). -/
def Part.sample (p : Part) (b : Int) (k : Nat) : Int :=
  let c := ((p.old : Int) + ((p.new : Int) - p.old) * k / 48).toNat
  let f := match p.ramp with
    | some (z, r) => z.ramp r (b + (k * 62500 / 3 : Nat))
    | none => factorOne
  (p.vals[k]?).getD 0 * effective c f

/-- One output sample of some contributions; the Boolean says that something saturated (R383). -/
def mixSample (parts : List Part) (b : Int) (k : Nat) : Int × Bool :=
  let (sum, sat) := parts.foldl (fun a p => accumulate a (p.sample b k)) (0, false)
  let y := (sum + 1024) / 2048
  (satSigned 24 y, sat || satSigned 24 y != y)

/-- The zone of an output. -/
def State.zoneOf (s : State) (o : Nat) : Option Nat := (List.range 32).find? fun z => bit (s.zone z).outputs o

/-- The contributions to an output (R383 to R387). `chans` and `libs` hold the values of the block. -/
def State.partsOf (s : State) (o : Nat) (chans libs : Tab (List Int)) : List Part :=
  let zone := s.zoneOf o
  let xs := (s.aud.xpoints.cells.filter fun c => c.1 % 256 == o && (c.2.gain != 0 || c.2.coef != 0)).map fun c => ({
      vals := chans.get [] (c.1 / 256), old := c.2.coef, new := gainCoef c.2.gain
      ramp := zone.map fun z => (s.zone z, (s.zone z).ramps.get (factorOne, factorOne, 0) c.2.level) } : Part)
  let anns := match zone with
    | none => []
    | some z => (s.aud.anns.cells.filter fun c => bit c.2.playing z).map fun c => ({
          vals := if c.2.lib then libs.get [] c.1 else chans.get [] c.2.src
          old := gainCoef c.2.gain, new := gainCoef c.2.gain
          ramp := some (s.zone z, c.2.ramps.get (0, 0, 0) z) } : Part)
  xs ++ anns

/-- Mix one output of a block; saturation is counted and reported once (R383). -/
def State.mixOutput (s : State) (b : Int) (chans libs : Tab (List Int)) (o : Nat) : State × List Int :=
  let parts := s.partsOf o chans libs
  let l := (List.range 48).map fun k => mixSample parts b k
  let n := (l.filter fun x => x.2).length
  let s := if n = 0 then s else
    let s := s.count 9 (0x30000 + o) ctrMixMixClip n
    if s.aud.clipSeen then s else (s.modAud fun a => { a with clipSeen := true }).raiseOf 94 audioUnit o
  (s, l.map fun x => x.1)

/-- The outputs that have a contribution. -/
def State.mixedOutputs (s : State) : List Nat :=
  (s.aud.xpoints.cells.map (fun (c : Nat × XPoint) => c.1 % 256) ++
    (s.aud.anns.cells.flatMap fun (c : Nat × Announce) => (bitList c.2.playing 32).flatMap fun z => bitList (s.zone z).outputs 256)).dedup

/-- The input channels that some contribution uses, and those of enabled listeners (R381, R383). -/
def State.mixedInputs (s : State) : List Nat :=
  (s.aud.xpoints.cells.map (fun (c : Nat × XPoint) => c.1 / 256) ++
    (s.aud.anns.cells.filterMap fun (c : Nat × Announce) => if c.2.lib then none else some c.2.src) ++
    ((s.aud.streams.cells.filter fun (c : Nat × AafStream) => decide (64 ≤ c.1) && c.2.enable).flatMap fun (c : Nat × AafStream) =>
      range c.2.chBase c.2.channels)).dedup

/-- Compute the block that starts at `b` (R378 to R389). -/
def State.computeBlock (s : State) (b : Int) : State :=
  let order := s.annOrder
  let s := s.each order fun s k => if (s.ann k).stopping || s.annOver (s.ann k) then s.annEnd k else s
  let s := s.each order fun s k =>
    if (s.aud.anns.find k).isSome && !(s.ann k).applied then s.annStart b k else s
  let s := s.each order fun s k => if (s.aud.anns.find k).isSome then s.annPromote k else s
  let s := s.each order fun s k => if (s.aud.anns.find k).isSome then s.annSettle k else s
  let s := s.each (List.range 32) fun s z => s.zoneAim b z
  let (s, chans) := s.mixedInputs.foldl (fun (a : State × Tab (List Int)) c =>
    let (l, gaps, slips) := a.1.chanValues b c
    let n := (a.1.listenerOf c).getD 0
    let s := if gaps = 0 then a.1 else a.1.count 9 (0x20000 + n) ctrAafAafGap gaps
    let s := if slips = 0 then s else s.count 9 (0x20000 + n) ctrAafAafSlip slips
    (s, a.2.set c l)) (s, {})
  let (s, libs) := (s.aud.anns.cells.filter fun (c : Nat × Announce) => c.2.lib && c.2.applied).foldl
    (fun (a : State × Tab (List Int)) (c : Nat × Announce) =>
      let (l, s) := a.1.libValues b c.1
      (s, a.2.set c.1 l)) (s, {})
  let (s, outs) := s.mixedOutputs.foldl (fun (a : State × Tab (List Int)) o =>
    let (s, l) := a.1.mixOutput b chans libs o
    (s, a.2.set o l)) (s, {})
  let edge := gridOf b + 48
  let s := s.modAud fun a => { a with
    block := b
    blocks := ({ start := b, outs := outs } : AudBlock) :: a.blocks.take 3
    xpoints := (a.xpoints.map fun _ x => { x with coef := gainCoef x.gain }).filter fun _ x => x.gain != 0
    inputs := a.inputs.filter fun x => decide (edge ≤ gridOf x.pt) ||
      (x.src == 1 && !(a.inputs.any fun y => y.chan == x.chan && decide (x.pt < y.pt) && decide (gridOf y.pt < edge))) }
  s.talk

/-- `AUDIO_BLOCK_COMPUTE` (R378): the block that plays 2 ms after the running millisecond, once. -/
def execAudioBlockCompute (t : Nat) (s : State) : Host.Outcome State Fault Refusal :=
  let s := s.tick t
  let b : Int := ((s.activeNs / 1000000 + 2) * 1000000 : Nat)
  .next (if s.unitUp audioUnit && s.aud.block != b then s.computeBlock b else s)

/-! Commands (R391, R392). -/

/-- Ranges of channels overlap. -/
def overlap (a n b m : Nat) : Bool := decide (a < b + m) && decide (b < a + n)

/-- An input channel range is bound to another source than the one being set (R377). -/
def State.inputTaken (s : State) (base n : Nat) (port stream : Option Nat) : Bool :=
  (s.aud.ports.cells.any fun c => c.2.enable && some c.1 != port && overlap base n c.2.inBase c.2.slots) ||
    (s.aud.streams.cells.any fun c => decide (64 ≤ c.1) && c.2.enable && some c.1 != stream &&
      overlap base n c.2.chBase c.2.channels)

/-- The period of a trigger fits a rate within 100 ppm (R379). -/
def periodFits (x : TimeTrig) (rate16 : Bool) : Bool :=
  let rate : Nat := if rate16 then 16000 else 48000
  let one : Int := 1000000000 * 2 ^ 32
  decide (((x.per32 * rate : Nat) - one).natAbs * 1000000 ≤ 100 * one.natAbs)

/-- Checks of `aud.port.config` (R377, R379, R392). -/
def checkAudPortConfig (s : State) (p : List Byte) : Check :=
  let x := s.trig (le p 4 1)
  firstFail [needLen (p.length == 24), needField p 0 1 0 7, needField p 1 1 0 1, needField p 2 1 0 1,
    need (le p 3 1 == 8 || le p 3 1 == 16) 3,
    need (decide (le p 4 1 ≤ 31) && (!x.armed || periodFits x (le p 2 1 == 1))) 4,
    need (decide (le p 5 1 + le p 3 1 ≤ 256) &&
      (le p 1 1 == 0 || !s.inputTaken (le p 5 1) (le p 3 1) (some (le p 0 1)) none)) 5,
    need (decide (le p 6 1 + le p 3 1 ≤ 256)) 6, needZeros p 7 1, needField p 8 2 30 200, needZeros p 10 14]

/-- Effect of `aud.port.config` (R379). -/
def effectAudPortConfig (s : State) (p : List Byte) : State × Reply :=
  let old := s.tdm (le p 0 1)
  let s := s.modAud fun u => { u with
    inputs := u.inputs.filter fun y => !(y.src == 0 && overlap y.chan 1 old.inBase old.slots && old.enable) }
  (s.modTdm (le p 0 1) fun x => { x with
    enable := le p 1 1 == 1, rate16 := le p 2 1 == 1, slots := le p 3 1, trig := le p 4 1, inBase := le p 5 1
    outBase := le p 6 1, inDelay := le p 8 2, lastFrame := s.now, noFrame := false
    running := x.running && le p 1 1 == 1, sdo := if le p 1 1 = 1 then x.sdo else [] }, .ok)

/-- `AUD_PORT_CONFIG` (R379). -/
def execAudPortConfig (t : Nat) (m : Fin 8) (s : State) : Host.Outcome State Fault Refusal :=
  .next (s.simple t m 0x0901 checkAudPortConfig effectAudPortConfig)

/-- Checks of `aud.stream.config` (R377, R392). -/
def checkAudStreamConfig (s : State) (p : List Byte) : Check :=
  let n := le p 0 1
  let listen := decide (64 ≤ n)
  let on := bit (le p 1 1) 0
  firstFail [needLen (p.length == 24), needField p 0 1 0 127,
    need (bits (le p 1 1) 5 3 == 0 && bits (le p 1 1) 2 2 != 3) 1, needField p 2 1 1 8, needField p 3 1 1 48,
    need (decide (le p 12 1 + le p 2 1 ≤ 256) &&
      (!listen || !on || !s.inputTaken (le p 12 1) (le p 2 1) none (some n))) 12,
    needZeros p 13 1,
    (if listen then needField p 14 2 0 4095 else need (!bit (le p 14 2) 15) 14),
    (if listen then need (decide ((toSigned 32 (le p 16 4)).natAbs ≤ 20000000)) 16
     else needField p 16 4 0 0xFFFFFF),
    (if listen then needZeros p 20 4
     else firstFail [needField p 20 1 0 7, needField p 21 1 0 20,
       need (decide (le p 22 2 ≤ 1023) && (match s.map.templates.find (le p 22 2) with
         | some t => t.flags == 0
         | none => false)) 22])]

/-- Effect of `aud.stream.config` (R392). -/
def effectAudStreamConfig (s : State) (p : List Byte) : State × Reply :=
  let n := le p 0 1
  let f := le p 1 1
  let listen := decide (64 ≤ n)
  let s := s.modAud fun u => { u with inputs := u.inputs.filter fun y => !(y.src == 1 && y.sidx == n) }
  (s.modAaf n fun _ =>
    { enable := bit f 0, fromOut := bit f 1, fmt := bits f 2 2, rate16 := bit f 4, channels := le p 2 1, spf := le p 3 1
      streamId := be p 4 8, chBase := le p 12 1, handle := le p 14 2
      adj := if listen then toSigned 32 (le p 16 4) else 0, ports := if listen then 0 else le p 16 4
      cls := if listen then 0 else le p 20 1, talkAdd := if listen then 0 else le p 21 1
      template := if listen then none else s.map.templates.find (le p 22 2)
      lastAt := s.now, outNext := s.activeNs }, .ok)

/-- `AUD_STREAM_CONFIG` (R392). -/
def execAudStreamConfig (t : Nat) (m : Fin 8) (s : State) : Host.Outcome State Fault Refusal :=
  .next (s.simple t m 0x0902 checkAudStreamConfig effectAudStreamConfig)

/-- Checks of `aud.route.set` (R384, R391). -/
def checkAudRouteSet (_ : State) (p : List Byte) : Check :=
  firstFail ([needLen (decide (4 ≤ p.length) && p.length == 4 + 4 * le p 0 2), needZeros p 2 2] ++
    (List.range (le p 0 2)).map fun k => needField p (7 + 4 * k) 1 0 7)

/-- Set crosspoints (R384); gain code 0 removes one. -/
def State.routeSet (s : State) (p : List Byte) : State :=
  s.each (chunks (p.drop 4) 4 (le p 0 2)) fun s r =>
    s.modXpoint (le r 0 1 * 256 + le r 1 1) fun x => { x with gain := le r 2 1, level := le r 3 1 }

/-- `AUD_ROUTE_SET` (R384), mirrored to a twin standby (R496). -/
def execAudRouteSet (t : Nat) (m : Fin 8) (s : State) : Host.Outcome State Fault Refusal :=
  .next (s.simple t m 0x0903 checkAudRouteSet fun s p => ((s.routeSet p).mirrorOut 4 ([3] ++ p), .ok))

/-- Checks of `aud.zone.config` (R385, R392). -/
def checkAudZoneConfig (s : State) (p : List Byte) : Check :=
  firstFail [needLen (p.length == 40), needField p 0 1 0 31, needField p 2 1 6 60, needField p 3 1 5 200,
    needField p 4 1 5 200, needZeros p 5 3,
    need (s.aud.zones.cells.all fun c => c.1 == le p 0 1 || (c.2.outputs &&& le p 8 32) == 0) 8]

/-- Set a zone (R385, R386). -/
def State.zoneSet (s : State) (p : List Byte) : State :=
  s.modZone (le p 0 1) fun z => { z with
    duckMask := le p 1 1, duckDb := le p 2 1, upMs := le p 3 1, downMs := le p 4 1, outputs := le p 8 32 }

/-- `AUD_ZONE_CONFIG` (R386), mirrored to a twin standby (R496). -/
def execAudZoneConfig (t : Nat) (m : Fin 8) (s : State) : Host.Outcome State Fault Refusal :=
  .next (s.simple t m 0x0904 checkAudZoneConfig fun s p => ((s.zoneSet p).mirrorOut 4 ([4] ++ p), .ok))

/-- Checks of `aud.announce.start` (R387 to R392). A message that is not loaded answers `DENIED`. -/
def checkAudAnnounceStart (s : State) (p : List Byte) : Check :=
  let lib := le p 0 1 == 1
  firstFail [needLen (p.length == 24), needField p 0 1 0 1, needField p 1 1 0 7, needField p 3 1 0 2,
    needField p 4 2 0 (if lib then 4095 else 255), need (lib || le p 6 1 == 0) 6, needZeros p 7 1, needZeros p 12 4,
    needLeave (!lib || (s.libMsg (le p 4 2)).whole),
    needRoom (decide (s.aud.anns.cells.length < 64)),
    needRoom (!lib || decide ((s.aud.anns.cells.filter fun c => c.2.lib).length < 16))]

/-- Accept an announcement under a number (R389). -/
def State.announce (s : State) (k : Nat) (p : List Byte) : State :=
  (s.modAnn k fun _ =>
    { lib := le p 0 1 == 1, level := le p 1 1, gain := le p 2 1, onPreempt := le p 3 1, src := le p 4 2
      repeats := le p 6 1, zones := le p 8 4, presentAt := le p 16 8, seq := s.aud.annSeq }).modAud fun a =>
    { a with annSeq := a.annSeq + 1 }

/-- Effect of `aud.announce.start` (R387). -/
def effectAudAnnounceStart (s : State) (p : List Byte) : State × Reply :=
  match (List.range 64).find? fun k => (s.aud.anns.find k).isNone with
  | none => (s, .noSpace)
  | some k => ((s.announce k p).mirrorOut 4 ([5] ++ leBytes 1 k ++ p), .ok (leBytes 1 k))

/-- `AUD_ANNOUNCE_START` (R387). -/
def execAudAnnounceStart (t : Nat) (m : Fin 8) (s : State) : Host.Outcome State Fault Refusal :=
  .next (s.simple t m 0x0905 checkAudAnnounceStart effectAudAnnounceStart)

/-- Order the end of an announcement (R389, R391). -/
def State.announceStop (s : State) (k : Nat) : State :=
  if (s.aud.anns.find k).isSome then s.modAnn k fun x => { x with stopping := true } else s

/-- `AUD_ANNOUNCE_STOP` (R389), mirrored to a twin standby (R496). -/
def execAudAnnounceStop (t : Nat) (m : Fin 8) (s : State) : Host.Outcome State Fault Refusal :=
  .next (s.simple t m 0x0906 (fun _ p => firstFail [needLen (p.length == 1), needField p 0 1 0 63])
    fun s p => ((s.announceStop (le p 0 1)).mirrorOut 4 ([6] ++ p), .ok))

/-- Bytes of all library messages. -/
def State.libTotal (s : State) : Nat := (s.aud.lib.cells.map fun c => c.2.bytes.length).sum

/-- The message bytes that a chunk completes, with the check value at its end taken off. -/
def libChunk (s : State) (p : List Byte) : List Byte :=
  (if bit (le p 2 1) 0 then [] else (s.libMsg (le p 0 2)).bytes) ++
    (p.drop 12).take (le p 8 4 - (if bit (le p 2 1) 1 then 4 else 0))

/-- Checks of `aud.library.load` (R390, R392). -/
def checkAudLibraryLoad (s : State) (p : List Byte) : Check :=
  let f := le p 2 1
  let n := le p 8 4
  firstFail [needLen (decide (12 ≤ p.length) && p.length == 12 + n), needField p 0 2 0 4095, needField p 2 1 0 7,
    needZeros p 3 1,
    need (if bit f 0 then le p 4 4 == 0 else le p 4 4 == (s.libMsg (le p 0 2)).bytes.length) 4,
    needField p 8 4 1 4084,
    need (!bit f 1 || (decide (4 ≤ n) && le p (12 + n - 4) 4 == crc32 (libChunk s p))) (12 + n - 4),
    needLeave (!(s.aud.anns.cells.any fun c => c.2.lib && c.2.src == le p 0 2)),
    needRoom (s.boot.lpddr &&
      decide (s.libTotal - (s.libMsg (le p 0 2)).bytes.length + (libChunk s p).length ≤ 2 ^ 30))]

/-- Effect of `aud.library.load` (R390). -/
def effectAudLibraryLoad (s : State) (p : List Byte) : State × Reply :=
  (s.modLibMsg (le p 0 2) fun _ =>
    { rate16 := bit (le p 2 1) 2, bytes := libChunk s p, whole := bit (le p 2 1) 1 }, .ok)

/-- `AUD_LIBRARY_LOAD` (R390). -/
def execAudLibraryLoad (t : Nat) (m : Fin 8) (s : State) : Host.Outcome State Fault Refusal :=
  .next (s.simple t m 0x0907 checkAudLibraryLoad effectAudLibraryLoad)

end Sys2Proof.Machine
end

