-- ==== Sys2Proof/Machine/Egress.lean ====
section
/-! DEFINITION. The egress side of an Ethernet port: edits, scheduler, the frame on the wire and its FCS
(R40 to R42, R163 to R177, R272 to R285, R347 to R352, R508). -/

namespace Sys2Proof.Machine

open Sys2Proof

/-! Tags (R173, R277). -/

/-- Remove the outer tag of a tagged frame. -/
def popTag (f : List Byte) : List Byte := if isTag (be f 12 2) then f.take 12 ++ f.drop 16 else f

/-- Insert a 0x8100 tag after the source address. -/
def pushTag (f : List Byte) (tci : Nat) : List Byte := f.take 12 ++ [0x81, 0x00] ++ beBytes 2 tci ++ f.drop 12

/-- Set the VID of the outer tag of a tagged frame. -/
def setVid (f : List Byte) (vid : Nat) : List Byte :=
  if isTag (be f 12 2) then patch f 14 (beBytes 2 (be f 14 2 / 4096 * 4096 + vid)) else f

/-- Edit 1 (R277): a routed frame gets new addresses and loses one of its TTL or hop limit. -/
def State.routeEdit (s : State) (x : Frame) (p : Nat) (f : List Byte) : List Byte :=
  match x.routedHop with
  | none => f
  | some n =>
    let o := (heads f).off + (if x.family = 2 then 7 else 8)
    patch (fitBytes 6 (s.hop n).mac ++ fitBytes 6 (s.port p).cfg.mac ++ f.drop 12) o (leBytes 1 (le f o 1 - 1))

/-- Edit 2 (R277): the outer tag of a frame with a VLAN. -/
def State.vlanEdit (s : State) (x : Frame) (p : Nat) (f : List Byte) : List Byte :=
  let vid := s.outVid x
  if vid = 0 then f
  else if bit (s.vlan vid).untag p then popTag f
  else if isTag (be f 12 2) then setVid f vid
  else pushTag f (vid + x.kvlan / 8192 * 8192)

/-- The tag control word of `TAG_VAL`: its VID, its PCP from bits [14:12] in bits [15:13], DEI 0 (R210). -/
def Action.tci (a : Action) : Nat := bits a.tagVal 12 3 * 8192 + a.tagVal % 4096

/-- Edit 3 (R210, R277): `TAG_OP` of the rule. A rewrite keeps DEI. -/
def Action.tagEdit (a : Action) (f : List Byte) : List Byte :=
  if a.tagOp = 1 then pushTag f a.tci
  else if a.tagOp = 2 then popTag f
  else if a.tagOp = 3 && isTag (be f 12 2) then
    patch f 14 (beBytes 2 (bits (be f 14 2) 12 1 * 4096 + a.tci))
  else f

/-- The MAC of a port in ZG5100 tag mode inserts its own tag (R173). A frame without a VLAN is left as it is. -/
def State.macTag (s : State) (x : Frame) (p : Nat) (f : List Byte) : List Byte :=
  let vid := s.outVid x
  if vid = 0 || vid = (s.port p).cfg.untagVid then f else pushTag f (vid + x.kvlan / 8192 * 8192)

/-- Edit 4 (R169, R171): checksums by their marks; bit 2 marks a layout without an L4 mark. The Boolean says that a mark
was not acted on. -/
def Frame.sumEdit (x : Frame) (f : List Byte) : List Byte × Bool :=
  let f := if bit x.csum 0 then putIpSum f else f
  let f := if bit x.csum 2 then zeroUdpSum f else f
  if bit x.csum 1 then
    match putL4Sum f with
    | some g => (g, false)
    | none => (f, true)
  else (f, false)

/-- A frame after the edits of a reference on a port (R277); the Boolean says that an L4 mark was not acted on. -/
def State.edited (s : State) (x : Frame) (p : Nat) (mirror : Bool) : List Byte × Bool :=
  if mirror || x.transit || x.busRec then (x.bytes, false)
  else
    let f := s.routeEdit x p x.bytes
    let f := if (s.port p).cfg.tagMode then s.macTag x p f else x.action.tagEdit (s.vlanEdit x p f)
    x.sumEdit f

/-! Residence time (R347 to R352). -/

/-- Residence time of a frame that leaves a port now, in 2^-16 ns of a clock with a frequency adjustment
(R347, R348). -/
def State.residence (s : State) (x : Frame) (p : Nat) (ppb : Int) : Int :=
  let r : Int := ((s.localNs : Int) - x.rxTime) * 65536 + (((s.port x.src).rxLat + (s.port p).txLat) * 16384 : Nat)
  r + r * ppb / (10 ^ 9 * 2 ^ 40)

/-- How a Sync, Delay_Req or Follow_Up that passes through is corrected (R345): the domain of its held Follow_Up times, the correction,
whether it is a regenerated Sync (R348, R349, R352). -/
def State.tcCorrection (s : State) (x : Frame) (p : Nat) (b : List Byte) : Option (Nat × Int × Bool) :=
  let k := bits (le b 0 1) 0 4
  if 1 < k && k ≠ 8 then none
  else match s.ptpDomain p b with
    | some d =>
      let y := s.dom d
      if y.profile = 1 then
        if k = 0 || k = 8 then
          some (d, s.residence x p y.clock.ppb + (if y.slavePort = x.src then y.paths.get 0 x.src else 0), true)
        else none
      else some (d, s.residence x p y.clock.ppb, false)
    | none =>
      if s.time.active.isNone && !(s.dom 0).enable && !(s.dom 1).enable && bits (le b 0 1) 4 4 != 1 then
        some (2, s.residence x p 0, false)
      else none

/-- Add a correction to a time message in a frame, or leave it (R351). None where an IPv6 message cannot be
corrected. -/
def tcApply (f : List Byte) (o : Nat) (add : Int) : Option (List Byte) :=
  let h := heads f
  let c := beBytes 8 (ofSigned 64 (satSigned 64 (toSigned 64 (be f (o + 8) 8) + add)))
  let g := patch f (o + 8) c
  if h.etype = 0x88F7 then some g
  else if isV4 f h then some (patch g (o - 2) [0, 0])
  else
    let n := be f (o - 4) 2
    let len := be f (o + 2) 2
    if n < 8 + len + 2 then none
    else
      let e := o - 8 + n - 2
      let z := patch g e [0, 0]
      let sum (x : List Byte) : Nat := onesSum (field x (o - 8) n) (n / 2 + 1)
      let d := (fold16 (sum f) + 65535 - fold16 (sum z) % 65535) % 65535
      let d := if n % 2 = 1 then d % 256 * 256 + d / 256 else d
      some (patch z e (beBytes 2 d))

/-- The Follow_Up table of a port takes a residence time: 16 sequence identifiers per domain, the oldest goes
(R350). -/
def State.fuPut (s : State) (p d seq : Nat) (r : Int) : State :=
  s.modPort p fun x =>
    let mine := x.followUp.filter fun e => e.dom == d && e.seqId != seq
    let mine := mine.drop (mine.length - 15)
    { x with
      followUp := (x.followUp.filter fun e => e.dom != d) ++ mine ++
        [{ dom := d, seqId := seq, atNs := s.now, residence := r }] }

/-- A time message that passes through is corrected as it leaves (R348 to R352). -/
def State.tcEdit (s : State) (f : Nat) (p : Nat) (b : List Byte) : State × List Byte :=
  let x := s.frame f
  if 24 ≤ x.src then (s, b)
  else match ptpAt b (heads b) with
    | none => (s, b)
    | some o =>
      let m := b.drop o
      match s.tcCorrection x p m with
      | none => (s, b)
      | some (d, r, sync) =>
        let seq := be m 30 2
        let apply (s : State) (v : Int) : State × List Byte :=
          match tcApply b o v with
          | some g => (s.countAt f 8 0 ctrTimeTcCorrected, g)
          | none => (s.countAt f 8 0 ctrTimeTcV6Uncorrectable, b)
        if bits (le m 0 1) 0 4 = 8 then
          match (s.port p).followUp.find? fun e => e.dom == d && e.seqId == seq with
          | some e =>
            let s := s.modPort p fun y => { y with
              followUp := y.followUp.filter fun e => !(e.dom == d && e.seqId == seq) }
            if e.atNs + 1000000000 < s.now then (s.countAt f 8 0 ctrTimeTcFollowupLost, b) else apply s e.residence
          | none => (s.countAt f 8 0 ctrTimeTcFollowupLost, b)
        else
          let s := if sync then s.countAt f 8 (0x10000 + d) ctrDomSyncTx else s
          if bits (le m 0 1) 0 4 = 0 && bit (le m 6 1) 1 then (s.fuPut p d seq r, b) else apply s r

/-! Causeway egress (R508, R509). -/

/-- A link-local time message, which a causeway port sends as it is (R509). -/
def plainTime (f : List Byte) : Bool :=
  f.take 6 == [0x01, 0x80, 0xC2, 0x00, 0x00, 0x0E] && be f 12 2 == 0x88F7

/-- The header of a frame that this device forwards in neighbour scope (R510 to R512). -/
def State.cwData (s : State) (x : Frame) : CwHead :=
  { s.cwOwn (if x.busRec then 1 else 0) 0 0xFE x.cls with
    ruleVer := if x.gsheet || x.key == [] then 0xFFFF else x.ver
    snip := ((s.activeAt x.atNs) / 65536).toNat % 2 ^ 32 }

/-- The bytes of a frame on a causeway port (R508, R511, R525). A frame in transit keeps its header, less a hop
already taken. None where the key check fails (R445). -/
def State.cwWrap (s : State) (x : Frame) (p : Nat) (b : List Byte) : State × Option (List Byte) :=
  let y := s.port p
  if !y.cfg.causeway || plainTime b then (s, some b)
  else
    let (s, ok) := s.cwKeyTx p
    if !ok || (y.cw.enc && !(s.chanOpen 2 4 && s.chanOpen 4 2)) then (s, none)
    else if x.transit then
      if y.cw.enc then
        let (s, o) := s.cwOuter p (cwHead (b.drop 14)) (b.drop 30) false
        (s, some o)
      else (s, some (b.take 6 ++ fitBytes 6 y.cfg.mac ++ b.drop 12))
    else
      let (s, o) := s.cwOuter p (s.cwData x) b false
      (s, some o)

/-! Scheduler (R280, R282 to R285). -/

/-- A reference may be sent (R265, R492). -/
def State.refReady (s : State) (r : QRef) : Bool :=
  let x := s.frame r.frame
  (x.verdict == 1 || (r.ct && x.verdict == 0)) && (s.twin.role.holder || s.exempt x)

/-- The head of a class queue, if it may be sent. -/
def State.headReady (s : State) (p c : Nat) : Option QRef :=
  ((s.port p).eg.queues.get [] c).head?.filter s.refReady

/-- Length of a reference on its port as the scheduler and the limits see it: edited, with FCS; for a cut-through
reference of unknown length its reservation (R277, R285). -/
def State.refLength (s : State) (p : Nat) (r : QRef) : Nat :=
  let x := s.frame r.frame
  if r.ct && !x.whole then 256 * s.reservation x
  else (s.edited x p r.mirror).1.length + 4 + (if x.transit then 0 else (s.port p).cwGrowth)

/-- Take the head of a class queue out. -/
def State.headTake (s : State) (p c : Nat) : State :=
  (s.creditRun p s.now).modPort p fun x =>
    let q := (x.eg.queues.get [] c).drop 1
    { x with
      eg := { x.eg with
        queues := x.eg.queues.set c q
        deficit := if q == [] then x.eg.deficit.set c 0 else x.eg.deficit } }

/-- A head that would be dequeued is discarded instead: aged (R269), toward a device that has left the chain map (R521), or
too long after its edits (R278). None where it may be sent. -/
def State.headDrop (s : State) (p c : Nat) (r : QRef) : Option State :=
  let x := s.frame r.frame
  let dst := (x.cw.getD {}).dstId
  let y := s.port p
  let gone (group fn idx : Nat) : State := ((s.headTake p c).countAt r.frame group fn idx).releaseRef r.frame
  if s.aged r.frame then some (gone 6 (0x10000 + p) (ctrSwDropAged + c))
  else if x.transit && x.cw.isSome && inRange dst 1 254 && (s.viaTo dst).isNone then some (gone 14 0 ctrCwCwUnreachable)
  else if !r.ct && decide (y.cfg.maxFrame + (if y.cfg.tagMode then 4 else 0) < s.refLength p r) then
    some (gone 6 (0x10000 + p) ctrSwTxOversizeDrop)
  else none

/-- The strict class that is served next (R282). -/
def State.strictPick (s : State) (p : Nat) : Option Nat :=
  let g := (s.port p).eg
  [7, 6, 5, 4, 3, 2, 1, 0].find? fun c =>
    decide (g.drrTop < c) && (s.headReady p c).isSome &&
      !(c == 5 && g.slope5 != 0 && decide (g.credit5 < 0)) && !(c == 6 && g.slope6 != 0 && decide (g.credit6 < 0))

/-- The class of the round-robin group that is served next (R285), in at most `n` turns. A class without a head
that may be sent takes no turn. -/
def State.drrPick (s : State) (p : Nat) : Nat → State × Option Nat
  | 0 => (s, none)
  | n + 1 =>
    let g := (s.port p).eg
    let c := if g.drrTop < g.turn then 0 else g.turn
    let next (s : State) : State := s.modPort p fun x => { x with
      eg := { x.eg with turn := if g.drrTop ≤ c then 0 else c + 1, turnOpen := false } }
    match s.headReady p c with
    | none => (next s).drrPick p n
    | some r =>
      let d := g.deficit.get 0 c + (if g.turnOpen then 0 else g.quantum.get 1536 c)
      let s := s.modPort p fun x => { x with
        eg := { x.eg with turn := c, turnOpen := true, deficit := x.eg.deficit.set c d } }
      if s.refLength p r ≤ d then (s, some c) else (next s).drrPick p n

/-- The class that a port serves next (R282). -/
def State.pickClass (s : State) (p : Nat) : State × Option Nat :=
  match s.strictPick p with
  | some c => (s, some c)
  | none =>
    if (List.range ((s.port p).eg.drrTop + 1)).any fun c => (s.headReady p c).isSome then s.drrPick p 1000
    else (s, none)

/-- A port may start a frame (R153, R165, R166, R279). -/
def Eth.free (x : Eth) (now : Nat) : Bool :=
  x.enabled && x.fwdUp && x.eg.holdUntil.isNone && !x.portSleep && x.msgFree now

/-- Pad a frame to its least length without FCS (R155, R257). -/
def padded (b : List Byte) : List Byte := b ++ List.replicate (60 - b.length) 0

/-- Start the head of a class queue on its port (R265, R277, R282). -/
def State.startFrame (s : State) (p c : Nat) (r : QRef) : State :=
  let s := s.cross 2 (portUnit p).island
  let x := s.frame r.frame
  let drr := decide (c ≤ (s.port p).eg.drrTop)
  let n := s.refLength p r
  let s := if drr then s.modPort p fun y => { y with
      eg := { y.eg with deficit := y.eg.deficit.set c (y.eg.deficit.get 0 c - n) } } else s
  let (b, skipped) := s.edited x p r.mirror
  let s := if skipped then s.countAt r.frame 2 p ctrEthTxCsumSkipped else s
  let (s, b) := if r.mirror || x.transit then (s, b) else s.tcEdit r.frame p b
  let (s, o) := s.cwWrap x p b
  let s := s.headTake p c
  match o with
  | none => s.releaseRef r.frame
  | some b =>
    let ct := r.ct && x.verdict == 0
    let s := s.modFrame r.frame fun x => { x with started := true }
    let s := s.modPort p fun y => { y with
      tx := some {
        frame := r.frame, atNs := s.now, bytes := padded b, ct := ct, started := ct, mirror := r.mirror
        cls := c, charged := if drr then n else 0 } }
    let s := if ct then s.count 2 p ctrEthSpecCtStarted else s
    if x.src = srcTime then s.ptpLeaves p (b.drop ((ptpAt b (heads b)).getD 0)) else s

/-- The scheduler picks heads of a port until one is sent, discarding those that R269, R278 and R521 name, at most `n`. -/
def State.serve (s : State) (p : Nat) : Nat → State
  | 0 => s
  | n + 1 =>
    let (s, k) := s.pickClass p
    match k with
    | none => s
    | some c => match s.headReady p c with
      | none => s
      | some r => match s.headDrop p c r with
        | some s => s.serve p n
        | none => s.startFrame p c r

/-- Send the step messages that wait at a port (R180), at a frame boundary: a switch now changes the transmit rate. -/
def State.stepFlush (s : State) (p : Nat) : State :=
  let x := s.port p
  if !x.atBoundary s.now || s.lightsOut then s
  else
    let l := x.step.outbox
    let s := s.modPort p fun y => { y with step := { y.step with outbox := [] } }
    l.foldl (fun s o =>
      let b := leBytes 1 3 ++ [0] ++ leBytes 1 o.1 ++ leBytes 1 o.2.1 ++ beBytes 2 o.2.2
      let (s, ok) := s.cwKeyTx p
      let y := s.port p
      let s := if ok && y.cfg.causeway && y.linkUp && !y.cw.encWait then
          s.cwPut p { s.cwOwn 2 255 0xFF 7 with hops := 1 } b false
        else s
      if o.1 = 4 then s.modPort p fun y => { y with
        step := { y.step with stepped := o.2.1 == 1, txDone := true, phase := 3, swTxAt := some s.now } }
      else s) s

/-- A frame boundary of a port: PAUSE first, then step messages, then the other messages of this device (R163, R180). -/
def State.boundary (s : State) (p : Nat) : State := ((s.pauseSend p).stepFlush p).cwFlush p

/-- The partner pause of a port ends at an instant; the time spent paused, from the end of the frame in transmission on, is
counted (R167). -/
def State.pauseEnd (s : State) (p at' : Nat) : State :=
  let x := s.port p
  match x.pz.pausedUntil with
  | none => s
  | some u =>
    let ns := x.pz.pausedNs + (if x.onWire then 0 else min u at' - x.pz.pausedFrom)
    let s := (s.creditRun p at').modPort p fun x => { x with
      pz := { x.pz with pausedUntil := none, pausedLong := false, pausedNs := ns % 1000 } }
    s.count 2 p ctrEthPausedTimeUs (ns / 1000)

/-- The destinations of a PAUSE (R166). -/
def pauseDst (mac dst : List Byte) : Bool := dst == [0x01, 0x80, 0xC2, 0x00, 0x00, 0x01] || dst == fitBytes 6 mac

/-- A received PAUSE whose FCS checks takes effect (R166, R167). A frame for another destination is no PAUSE (log entry 73). -/
def State.pauseTake (s : State) (p : Nat) (dst : List Byte) (quanta : Nat) : State :=
  let x := s.port p
  if !pauseDst x.cfg.mac dst then s
  else
    let s := s.count 2 p ctrEthRxPause
    if !x.cfg.pauseRxEn || !x.linkUp then s
    else
      let s := match x.pz.pausedUntil with
        | some u => if u ≤ s.now || quanta = 0 then s.pauseEnd p s.now else s
        | none => s
      if quanta = 0 then s.boundary p
      else
        let y := (s.port p).pz
        (s.creditRun p s.now).modPort p fun x => { x with
          pz := { x.pz with
            pausedAt := if y.pausedUntil.isSome then y.pausedAt else s.now
            pausedFrom := if y.pausedUntil.isSome then y.pausedFrom else s.now
            pausedUntil := some (s.now + bitNs (quanta * 512) x.txKbps) } }

/-- A frame boundary of a port: the scheduler picks, the frame starts (R269, R278, R280, R282). -/
def State.dequeue (s : State) (p : Nat) : State :=
  let s := (s.boundary p).creditRun p s.now
  if !(s.port p).free s.now || !s.chanOpen 2 (portUnit p).island then s
  else s.serve p (((s.port p).eg.queues.cells.map fun c => c.2.length).sum + 1)

/-- `EGRESS_DEQUEUE` (R282). -/
def execEgressDequeue (t : Nat) (p : Fin 24) (s : State) : Host.Outcome State Fault Refusal :=
  let s := s.tick t
  .next (if s.lightsOut then s else s.dequeue p)

/-! The FCS and the end (R40 to R42, R274). -/

/-- The first FCS byte of a cut-through frame is due (R41). A body that ran out is filled with zero bytes; how much
of it had arrived is a free value (log entry 3). -/
def State.fcsDue (s : State) (p : Nat) (bodyShort : Bool) : State :=
  match (s.port p).tx with
  | none => s
  | some x =>
    if !x.ct || x.fcsSent then s
    else
      let v := (s.frame x.frame).verdict
      let late := bodyShort || v == 0
      let (n, s) := if bodyShort then s.drawBelow (x.bytes.length + 1) else (x.bytes.length, s)
      let s := s.modPort p fun y => { y with
        tx := some { x with
          fcsSent := true, stomp := late || v == 2
          bytes := fitBytes x.bytes.length (x.bytes.take n) } }
      if late then s.count 2 p ctrEthSpecCtUnderrun
      else if v = 2 then s.count 2 p ctrEthSpecCtStomped
      else s

/-- `CUT_THROUGH_FCS_DUE` (R41). -/
def execCutThroughFcsDue (t : Nat) (p : Fin 24) (bodyShort : Bool) (s : State) : Host.Outcome State Fault Refusal :=
  .next ((s.tick t).fcsDue p bodyShort)

/-- A port is off: no link, its queues flushed and counted, no hold window (R153). The number of references flushed
comes with the state. -/
def State.portOff (s : State) (p : Nat) : State × Nat :=
  let x := s.port p
  let s := (s.creditRun p s.now).pauseEnd p s.now
  let s := match x.rx with
    | some f => s.spoilFrame f
    | none => s
  let s := s.modPort p fun y => { y with
    enabled := false, disabling := false, linkUp := false, rx := none, plcaActive := false
    pz := { y.pz with pauseWant := none }
    cw := { y.cw with waiting := [] }
    step := y.step.ended }
  let s := if x.linkUp then s.raiseOf 49 (portUnit p) p else s
  let s := if x.linkUp && x.l2.l2FlushDown then (s.l2Flush (some p) none).1 else s
  let s := (s.nbLost p).encJudge p
  let (s, n) := s.flushPort p
  (((s.modPort p fun y => { y with eg := { y.eg with holdUntil := none, flushed := true } }).abortedOf (.port p)).toldFlush, n)

/-- `eth.disable` ends: the transmitter is off and the queues are flushed (R153). -/
def State.ethDisableEnd (s : State) (p : Nat) : State :=
  let (s, n) := s.portOff p
  s.completeOf 0x0203 (fun q => le q 0 1 == p) (.ok (leBytes 4 n))

/-- A transmission completes (R42, R192, R274, R285); not one that waits for its retry (R159). -/
def State.transmitEnd (s : State) (p : Nat) : State :=
  let s := s.fcsDue p false
  match (s.port p).tx.filter fun x => x.backoffUntil.isNone with
  | none => s
  | some x =>
    let rate := (s.port p).txKbps
    let s := s.creditRun p (s.now + bitNs 96 rate)
    let len := x.bytes.length + 4
    let s := s.send (.eth p (x.bytes ++ (if x.stomp then stompBytes x.bytes else fcsBytes x.bytes)) (!x.stomp))
    let s := if x.stomp then s.count 2 p ctrEthTxStomped
      else (s.count 2 p ctrEthTxOk).count 2 p ctrEthTxOctets len
    let s := s.countAt x.frame 6 (0x10000 + p) (ctrSwTxFrames + x.cls)
    let s := s.modPort p fun y => { y with
      tx := none
      pz := { y.pz with pausedFrom := if y.pz.pausedUntil.isSome then max y.pz.pausedFrom s.now else y.pz.pausedFrom }
      eg := { y.eg with
        deficit := if x.charged ≤ len then y.eg.deficit
          else y.eg.deficit.set x.cls (y.eg.deficit.get 0 x.cls + (x.charged - len)) } }
    let s := (s.releaseRef x.frame).boundary p
    if (s.port p).disabling then s.ethDisableEnd p else s

/-- `EGRESS_TRANSMIT_END` (R274). -/
def execEgressTransmitEnd (t : Nat) (p : Fin 24) (s : State) : Host.Outcome State Fault Refusal :=
  .next ((s.tick t).transmitEnd p)

/-- A controller cannot send (R269). -/
def State.busCannotSend (s : State) (b : Nat) : Bool :=
  let x := s.bus b
  x.busOff || !x.enabled || x.restricted || !s.unitUp (busUnit b)

/-- `AGEING_HEAD_CHECK` (R269): of a port 0 to 23 that is paused or in its hold window, or of a controller 0 to 31,
numbered from 24 on, that cannot send. -/
def execAgeingHeadCheck (t : Nat) (egress : Fin 56) (s : State) : Host.Outcome State Fault Refusal :=
  let s := s.tick t
  let p : Nat := egress
  .next (if p < 24 then
    let x := s.port p
    if x.pz.pausedUntil.isSome || x.eg.holdUntil.isSome then
      let total := (x.eg.queues.cells.map fun c => c.2.length).sum
      (List.range 8).foldl (fun s c => s.ageQueue p c total) (s.creditRun p s.now)
    else s
  else if s.busCannotSend (p - 24) then s.ageDeep (p - 24) ((s.bus (p - 24)).tx.deep.length)
  else s)

end Sys2Proof.Machine
end

