-- ==== Sys2Proof/Machine/Eth.lean ====
section
/-! DEFINITION. Ethernet ports: commands, link, pause, collisions, step-down (chapter 05). -/

namespace Sys2Proof.Machine

open Sys2Proof

/-! `eth.config` (R149, R185, R186). -/

/-- The modes that a port allows (R149). -/
def modeAllowed (p mode : Nat) : Bool :=
  if p < 4 then inRange mode 1 3 else if p < 16 then mode == 4 else mode == 5

/-- Greatest `MAX_FRAME` of a port (R155). -/
def maxFrameTop (p : Nat) : Nat := if p < 16 then 9600 else 2000

/-- The configuration that a layout holds (R185). -/
def ethCfgOf (p : List Byte) : EthCfg :=
  let f := le p 3 1
  { mode := le p 1 1, speed := le p 2 1, promisc := bit f 0, allMulti := bit f 1, ctAllow := bit f 2
    tagMode := bit f 3, causeway := bit f 4, pauseRxEn := bit f 5, pauseTxEn := bit f 6, wakeRxKeep := bit f 7
    mac := field p 4 6, maxFrame := le p 10 2, plcaNode := le p 12 1, plcaCount := le p 13 1, plcaTo := le p 14 1
    plcaBurst := le p 15 1, plcaBurstTimer := le p 16 1, t1sWakeMin := le p 17 1, pvid := le p 18 2
    untagVid := le p 20 2, exact := chunks (p.drop 24) 6 (le p 22 1), hash := field p 120 64 }

/-- The configuration layout of a port (R185). -/
def EthCfg.bytes (c : EthCfg) (p : Nat) : List Byte :=
  leBytes 1 p ++ leBytes 1 c.mode ++ leBytes 1 c.speed ++
    leBytes 1 (flag c.promisc 0 + flag c.allMulti 1 + flag c.ctAllow 2 + flag c.tagMode 3 + flag c.causeway 4 +
      flag c.pauseRxEn 5 + flag c.pauseTxEn 6 + flag c.wakeRxKeep 7) ++
    fitBytes 6 c.mac ++ leBytes 2 c.maxFrame ++ leBytes 1 c.plcaNode ++ leBytes 1 c.plcaCount ++
    leBytes 1 c.plcaTo ++ leBytes 1 c.plcaBurst ++ leBytes 1 c.plcaBurstTimer ++ leBytes 1 c.t1sWakeMin ++
    leBytes 2 c.pvid ++ leBytes 2 c.untagVid ++ leBytes 1 c.exact.length ++ [0] ++
    fitBytes 96 c.exact.flatten ++ fitBytes 64 c.hash

/-- Checks of `eth.config` (R149, R155, R185, R186), in ascending offset. -/
def checkEthConfig (s : State) (p : List Byte) : Check :=
  let n := le p 0 1
  let c := ethCfgOf p
  let x := s.port n
  let keep (same : Bool) (off : Nat) : Check := need (!x.enabled || same) off
  let t1s := c.mode == 5
  firstFail [needLen (p.length == 184), needField p 0 1 0 23,
    need (modeAllowed n c.mode) 1, keep (c.mode == x.cfg.mode) 1,
    need (decide (c.speed < 8) && (c.mode != 4 || !bit c.speed 2 || inRange (c.speed % 4) 1 2)) 2,
    keep (c.speed == x.cfg.speed) 2,
    need (!(c.tagMode && decide (16 ≤ n)) && !(c.causeway && decide (4 ≤ n))) 3,
    keep (c.tagMode == x.cfg.tagMode && c.causeway == x.cfg.causeway) 3,
    keep (c.mac == x.cfg.mac) 4,
    needField p 10 2 1518 (maxFrameTop n),
    need (!t1s || decide (c.plcaNode ≤ 31) || c.plcaNode == 0xFF) 12, keep (c.plcaNode == x.cfg.plcaNode) 12,
    need (!t1s || inRange c.plcaCount 1 32) 13, keep (c.plcaCount == x.cfg.plcaCount) 13,
    need (!t1s || decide (1 ≤ c.plcaTo)) 14, keep (c.plcaTo == x.cfg.plcaTo) 14,
    keep (c.plcaBurst == x.cfg.plcaBurst) 15, keep (c.plcaBurstTimer == x.cfg.plcaBurstTimer) 16,
    need (!t1s || decide (1 ≤ c.t1sWakeMin)) 17, keep (c.t1sWakeMin == x.cfg.t1sWakeMin) 17,
    need (!c.tagMode || (inRange (c.pvid % 4096) 1 4094 && decide (c.pvid < 0x8000))) 18, keep (c.pvid == x.cfg.pvid) 18,
    need (!c.tagMode || decide (c.untagVid ≤ 4094)) 20, keep (c.untagVid == x.cfg.untagVid) 20,
    needField p 22 1 0 16, needZeros p 23 1,
    need (zeros p (24 + 6 * le p 22 1) (96 - 6 * le p 22 1)) 24]

/-- Rate and duplex of a port before any negotiation: the fixed rate of its mode or `SPEED`; an auto-negotiating
SGMII port starts at 1000 Mb/s. -/
def EthCfg.rate (c : EthCfg) : Nat × Bool :=
  if c.mode = 1 then (10000, false)
  else if c.mode = 2 then (2500, false)
  else if c.mode = 3 then (1000, false)
  else if c.mode = 5 then (10, true)
  else (if c.speed % 4 = 1 then 10 else if c.speed % 4 = 2 then 100 else 1000, bit c.speed 2)

/-- Effect of `eth.config` (R185). -/
def effectEthConfig (s : State) (p : List Byte) : State × Reply :=
  let n := le p 0 1
  let c := ethCfgOf p
  let x := s.port n
  let s := s.modPort n fun x => { x with
    cfg := c
    rateMb := if x.enabled then x.rateMb else c.rate.1
    half := if x.enabled then x.half else c.rate.2 }
  let s := if c.causeway == x.cfg.causeway then s
    else if c.causeway then ((s.cwClaim n 0).cwClaim n 1).encJudge n
    else ((s.cwUnclaim n).nbLost n).encJudge n
  (s.pauseJudge n, .ok (c.bytes n))

/-- `ETH_CONFIG` (R185). -/
def execEthConfig (t : Nat) (m : Fin 8) (s : State) : Host.Outcome State Fault Refusal :=
  .next (s.simple t m 0x0201 checkEthConfig effectEthConfig)

/-! Enable and disable (R152, R153). -/

/-- A request that names a port in its only byte. -/
def checkPortByte (_ : State) (p : List Byte) : Check := firstFail [needLen (p.length == 1), needField p 0 1 0 23]

/-- Checks of `eth.enable`: a port that was never configured has no mode to run in (log entry 16). -/
def checkEthEnable (s : State) (p : List Byte) : Check :=
  firstFail [checkPortByte s p, needLeave ((s.port (le p 0 1)).cfg.mode != 0)]

/-- The running `eth.enable` of a port completes (R152). -/
def State.ethEnabled (s : State) (p : Nat) : State := s.completeOf 0x0202 (fun q => le q 0 1 == p) .ok

/-- Start of `eth.enable` (R152). A 10BASE-T1S port has link at once unless its PHY reports a fault; the others complete with
link or at the end of the attempt. -/
def startEthEnable (s : State) (p : List Byte) : State :=
  let n := le p 0 1
  let x := s.port n
  if x.enabled then s.ethEnabled n
  else
    let s := s.modPort n fun x => { x with enabled := true }
    if x.cfg.mode = 5 then ((if x.remoteFault then s else s.linkRaised n)).ethEnabled n
    else s

/-- `ETH_ENABLE` (R152). -/
def execEthEnable (t : Nat) (m : Fin 8) (s : State) : Host.Outcome State Fault Refusal :=
  .next (s.begins t m 0x0202 checkEthEnable startEthEnable)

/-- Start of `eth.disable` (R153). -/
def startEthDisable (s : State) (p : List Byte) : State :=
  let n := le p 0 1
  let x := s.port n
  if !x.enabled then s.completeOf 0x0203 (fun q => le q 0 1 == n) (.ok (leBytes 4 0))
  else if x.tx.isSome then s.modPort n fun x => { x with disabling := true }
  else s.ethDisableEnd n

/-- `ETH_DISABLE` (R153). -/
def execEthDisable (t : Nat) (m : Fin 8) (s : State) : Host.Outcome State Fault Refusal :=
  .next (s.begins t m 0x0203 checkPortByte startEthDisable)

/-! Status and settings (R187 to R190). -/

/-- Code of a rate (R190). -/
def rateCode (kbps : Nat) : Nat :=
  if kbps ≤ 10000 then 0 else if kbps ≤ 100000 then 1 else if kbps ≤ 1000000 then 2
  else if kbps ≤ 2500000 then 3 else 4

/-- The remaining partner pause of a port in ns. -/
def Eth.pauseLeft (x : Eth) (now : Nat) : Nat :=
  match x.pz.pausedUntil with
  | some u => u - now
  | none => 0

/-- Answer of `eth.status` (R190). -/
def answerEthStatus (s : State) (p : List Byte) : Reply :=
  let n := le p 0 1
  let x := s.port n
  .ok (leBytes 1 n ++ leBytes 1 (if x.portSleep then 2 else if x.linkUp then 1 else 0) ++
    leBytes 1 (rateCode x.txKbps) ++
    leBytes 1 (flag x.half 0 + flag x.plcaActive 1 + flag x.step.stepped 2 + flag (x.step.phase != 0) 3 +
      flag (decide (s.now < x.pz.pauseSentAt + x.pz.pauseSentNs)) 4 + flag (decide (0 < x.pauseLeft s.now)) 5) ++
    leBytes 4 (x.pauseLeft s.now) ++ leBytes 4 (s.shareCells n * 256) ++ [0, 0, 0, 0])

/-- `ETH_STATUS` (R190). -/
def execEthStatus (t : Nat) (m : Fin 8) (s : State) : Host.Outcome State Fault Refusal :=
  .next (s.query t m 0x0204 checkPortByte answerEthStatus)

/-- Checks of `eth.pause.config` (R164, R187). -/
def checkEthPauseConfig (_ : State) (p : List Byte) : Check :=
  firstFail [needLen (p.length == 8), needField p 0 1 0 23, needZeros p 1 1, needField p 2 2 8 4096,
    needField p 4 2 8 4096, need (decide (le p 4 2 < le p 2 2)) 4, needField p 6 2 1 0xFFFF]

/-- Effect of `eth.pause.config` (R187). -/
def effectEthPauseConfig (s : State) (p : List Byte) : State × Reply :=
  let n := le p 0 1
  let s := s.modPort n fun x => { x with
    pz := { x.pz with highWm := le p 2 2, lowWm := le p 4 2, quanta := le p 6 2 } }
  (s.pauseJudge n, .ok)

/-- `ETH_PAUSE_CONFIG` (R187). -/
def execEthPauseConfig (t : Nat) (m : Fin 8) (s : State) : Host.Outcome State Fault Refusal :=
  .next (s.simple t m 0x0205 checkEthPauseConfig effectEthPauseConfig)

/-- Checks of `eth.wake.pattern` (R175, R188). -/
def checkEthWakePattern (_ : State) (p : List Byte) : Check :=
  firstFail [needLen (p.length == 148), needField p 0 1 0 23, needField p 1 1 0 8, needField p 2 1 0 1,
    needZeros p 3 1, need (le p 1 1 == 8 || !zeros p 4 16) 4]

/-- Effect of `eth.wake.pattern` (R188). A frame in progress is matched against the set in force at its first byte (R177):
sets are kept for 10 ms, longer than the longest frame. -/
def effectEthWakePattern (s : State) (p : List Byte) : State × Reply :=
  let on := le p 2 1 == 1
  (s.modPort (le p 0 1) fun x =>
    let x := { x with
      wakeSets := (s.now, x.patterns, x.magic) :: x.wakeSets.filter fun w => decide (s.now < w.1 + 10000000) }
    if le p 1 1 = 8 then { x with magic := on }
    else { x with
      patterns := x.patterns.set (le p 1 1) { enable := on, mask := field p 4 16, pattern := field p 20 128 } }, .ok)

/-- `ETH_WAKE_PATTERN` (R188). -/
def execEthWakePattern (t : Nat) (m : Fin 8) (s : State) : Host.Outcome State Fault Refusal :=
  .next (s.simple t m 0x0206 checkEthWakePattern effectEthWakePattern)

/-! Step-down (R178 to R183). -/

/-- Step-down is available on a port (R178). -/
def Eth.stepAble (x : Eth) : Bool := x.step.enable && x.cfg.mode == 1 && x.cfg.causeway && x.enabled && x.linkUp

/-- A request for a target is held back after a reject or a timeout (R181). -/
def StepSt.barred (x : StepSt) (target now : Nat) : Bool :=
  decide (now < if target = 0 then x.holdFull else x.holdQuarter)

/-- The request in progress is refused: its target is not asked for again for one `STEP_WINDOW` (R181). -/
def StepSt.refuse (x : StepSt) (now : Nat) : StepSt :=
  let u := now + x.windowMs * 1000000
  { x with
    phase := 0, holdFull := if x.target = 0 then u else x.holdFull
    holdQuarter := if x.target = 0 then x.holdQuarter else u }

/-- Ask for a step (R180). -/
def State.stepAsk (s : State) (p target : Nat) : State :=
  (s.modPort p fun x => { x with
    step := { x.step with
      phase := 1, target := target, seq := (x.step.seq + 1) % 65536, since := s.now
      txDone := false, rxDone := false, returning := false
      outbox := x.step.outbox ++ [(1, target, (x.step.seq + 1) % 65536)] } }).stepFlush p

/-- Checks of `eth.stepdown.config` (R178, R184, R189). -/
def checkEthStepdownConfig (_ : State) (p : List Byte) : Check :=
  firstFail [needLen (p.length == 8), needField p 0 1 0 23, needLeave (decide (le p 0 1 < 4)), needField p 1 1 0 1,
    needField p 2 2 10 10000, needField p 4 1 1 20, needZeros p 5 1, needField p 6 2 8 1024]

/-- A port whose step-down is being disabled asks for full rate where it may (R181, R189). -/
def State.stepOff (s : State) (p : Nat) : State :=
  let x := s.port p
  if x.step.stepUpThenOff && x.step.stepped && x.step.phase == 0 && x.stepAble && !x.step.barred 0 s.now then s.stepAsk p 0
  else s

/-- Effect of `eth.stepdown.config` (R189): a port that is stepped down, or is stepping down, first steps up. -/
def effectEthStepdownConfig (s : State) (p : List Byte) : State × Reply :=
  let n := le p 0 1
  let x := s.port n
  let on := le p 1 1 == 1
  let up := !on && (x.step.stepped || (x.step.phase != 0 && x.step.target == 1)) && x.stepAble
  let s := s.modPort n fun x => { x with
    step := { x.step with
      enable := on || up, stepUpThenOff := up, windowMs := le p 2 2, downPct := le p 4 1, upKiB := le p 6 2 } }
  (s.stepOff n, .ok)

/-- `ETH_STEPDOWN_CONFIG` (R189). -/
def execEthStepdownConfig (t : Nat) (m : Fin 8) (s : State) : Host.Outcome State Fault Refusal :=
  .next (s.simple t m 0x0207 checkEthStepdownConfig effectEthStepdownConfig)

/-- Bytes that the egress queues of a port hold. -/
def State.queuedBytes (s : State) (p : Nat) : Nat :=
  ((s.port p).eg.queues.cells.map fun c => (c.2.map fun r => (s.frame r.frame).bytes.length).sum).sum

/-- `STEP_DECISION` (R178): `sentBytes` and `peerBytes` are the loads of the two directions over `STEP_WINDOW`, or
over 1 ms on a stepped-down link. Both averages must lie below `DOWN_PCT` (log entry 17). A port whose step-down is being
disabled asks for full rate in any case (R189). -/
def execStepDecision (t : Nat) (p : Fin 24) (sentBytes peerBytes : Nat) (s : State) :
    Host.Outcome State Fault Refusal :=
  let s := s.tick t
  let x := s.port p
  let target := if x.step.stepped then 0 else 1
  let below := x.step.downPct * 12500 * x.step.windowMs
  let want := if x.step.stepped then
      decide (x.step.upKiB * 1024 < s.queuedBytes p) || decide (250000 < max sentBytes peerBytes)
    else decide (max sentBytes peerBytes < below)
  .next (if x.step.stepUpThenOff then s.stepOff p
    else if x.stepAble && x.step.phase == 0 && want && !x.step.barred target s.now then s.stepAsk p target else s)

/-- Take a step request of the peer (R180): acknowledge, and switch after it. -/
def State.stepTake (s : State) (p target seq : Nat) : State :=
  (s.modPort p fun x => { x with
    step := { x.step with
      phase := 2, target := target, seq := seq, since := s.now, txDone := false, rxDone := false, returning := false
      outbox := (x.step.outbox.filter fun o => o.1 != 1) ++ [(2, target, seq), (4, target, seq)] } }).stepFlush p

/-- A step message is acted on (R180 to R182): operation, target, sequence. A request that arrives while a step is in progress
is acknowledged at once and takes effect behind it (log entry 78, DEDUCED). -/
def State.stepMessage (s : State) (p op target seq : Nat) : State :=
  let x := s.port p
  let y := x.step
  let put (s : State) (l : List (Nat × Nat × Nat)) (ph : Nat) : State :=
    (s.modPort p fun x => { x with step := { x.step with phase := ph, outbox := x.step.outbox ++ l } }).stepFlush p
  if op = 1 then
    if !x.stepAble then put s [(3, target, seq)] y.phase
    else if y.phase = 1 then
      let ours := if y.target = target then decide (s.cw.id < x.cw.nbId) else y.target == 0
      if ours then s else s.stepTake p target seq
    else if y.phase = 0 then s.stepTake p target seq
    else (s.modPort p fun x => { x with
      step := { x.step with asked := some (target, seq), outbox := x.step.outbox ++ [(2, target, seq)] } }).stepFlush p
  else if op = 2 then (if y.phase = 1 && y.seq == seq then put s [(4, y.target, seq)] 2 else s)
  else if op = 3 then
    if y.phase = 1 && y.seq == seq then
      (s.modPort p fun x => { x with step := x.step.refuse s.now }).count 2 p ctrEthStepRejected
    else s
  else if op = 4 then
    if y.phase = 0 then s
    else s.modPort p fun x => { x with
      step := { x.step with
        phase := 3, rxStepped := target == 1, rxDone := false, swRxAt := some s.now
        lockLost := some (x.step.lockLost.getD s.now) } }
  else if op = 5 then
    if y.phase = 0 || y.returning then s
    else
      let back := 1 - y.target
      put (s.modPort p fun x => { x with
        step := { x.step with target := back, returning := true, txDone := false, rxDone := false } })
          [(4, back, y.seq)] 2
  else s

/-- `STEP_MESSAGE_RECEIVED` (R180): the 4 bytes of R179. -/
def execStepMessageReceived (t : Nat) (p : Fin 24) (body : List Byte) (s : State) :
    Host.Outcome State Fault Refusal :=
  .next ((s.tick t).stepMessage p (le body 0 1) (le body 1 1) (be body 2 2))

/-- `STEP_REQUEST_TIMEOUT` (R181). -/
def execStepRequestTimeout (t : Nat) (p : Fin 24) (s : State) : Host.Outcome State Fault Refusal :=
  let s := s.tick t
  let y := (s.port p).step
  .next (if y.phase = 1 && decide (y.since + 1000000 ≤ s.now) then
    (s.modPort p fun x => { x with
      step := { x.step.refuse s.now with outbox := x.step.outbox.filter fun o => o.1 != 1 } }).count 2 p ctrEthStepTimeout
  else s)

/-- `STEP_RELOCK_DONE` (R180 step 6). -/
def execStepRelockDone (t : Nat) (p : Fin 24) (s : State) : Host.Outcome State Fault Refusal :=
  let s := s.tick t
  let y := (s.port p).step
  .next (if y.phase = 3 && y.txDone && y.rxStepped == (y.target == 1) then
    let off := y.stepUpThenOff && y.target == 0
    let s := (s.creditRun p s.now).modPort p fun x => { x with
      step := { x.step with
        phase := 0, rxDone := true, stepped := y.target == 1, returning := false, lockLost := none
        enable := y.enable && !off, stepUpThenOff := y.stepUpThenOff && !off } }
    let s := (s.count 2 p (if y.target = 1 then ctrEthStepDown else ctrEthStepUp)).raiseOf 56 (portUnit p) p
    let s := s.cwFlush p
    match y.asked with
    | some (t, q) =>
      (s.modPort p fun x => { x with
        step := { x.step with
          phase := 2, target := t, seq := q, txDone := false, rxDone := false, asked := none
          outbox := x.step.outbox ++ [(4, t, q)] } }).stepFlush p
    | none => s.stepOff p
  else s)

/-- `STEP_RELOCK_FAIL` (R182): no block lock 100 µs after a switch now was received; both directions return. -/
def execStepRelockFail (t : Nat) (p : Fin 24) (s : State) : Host.Outcome State Fault Refusal :=
  let s := s.tick t
  let y := (s.port p).step
  .next (if y.phase = 3 && !y.rxDone && (y.swRxAt.map fun a => decide (a + 100000 ≤ s.now)) == some true then
    let back := 1 - y.target
    let s := s.modPort p fun x => { x with
      step := { x.step with
        phase := 2, target := back, rxStepped := back == 1, returning := true, txDone := false, swRxAt := none
        outbox := x.step.outbox ++ [(5, y.target, y.seq), (4, back, y.seq)] } }
    ((s.count 2 p ctrEthStepFail).raiseOf 57 (portUnit p) p).stepFlush p
  else s)

/-- `STEP_LINK_LOSS` (R182): no block lock at either rate for 1 ms. -/
def execStepLinkLoss (t : Nat) (p : Fin 24) (s : State) : Host.Outcome State Fault Refusal :=
  let s := s.tick t
  .next (match (s.port p).step.lockLost with
    | some a => if a + 1000000 ≤ s.now then ((s.modPort p fun x => { x with
        step := { x.step with lockLost := none } }).linkLost p).toldFlush else s
    | none => s)

/-! Link (R152, R191, R279, R280). -/

/-- Link-fault indications are ignored for 100 µs from each switch now (R180). -/
def Eth.faultIgnored (x : Eth) (now : Nat) : Bool :=
  (x.step.swTxAt.toList ++ x.step.swRxAt.toList).any fun a => decide (now < a + 100000)

/-- `LINK_DOWN` (R279). On a port whose link is down it is the end of an attempt to bring it up; a 10BASE-T1S port is down only
while its PHY reports a fault (R152). -/
def execLinkDown (t : Nat) (p : Fin 24) (s : State) : Host.Outcome State Fault Refusal :=
  let s := s.tick t
  .next (if (s.port p).faultIgnored s.now || ((s.port p).cfg.mode == 5 && !(s.port p).remoteFault) then s
    else ((s.linkLost p).toldFlush).ethEnabled p)

/-- `LINK_UP` (R280). -/
def execLinkUp (t : Nat) (p : Fin 24) (s : State) : Host.Outcome State Fault Refusal :=
  let s := s.tick t
  let x := s.port p
  .next (if x.enabled && !x.portSleep && !(x.cfg.mode == 5 && x.remoteFault) && s.unitUp (portUnit p) then
    (s.linkRaised p).ethEnabled p
  else s)

/-- `HOLD_WINDOW_END` (R280). -/
def execHoldWindowEnd (t : Nat) (p : Fin 24) (s : State) : Host.Outcome State Fault Refusal :=
  let s := s.tick t
  .next (match (s.port p).eg.holdUntil with
  | some u => if u ≤ s.now then s.portFlush p else s
  | none => s)

/-- `SPEED_CHANGED` (R191): auto-negotiation or SGMII in-band status changes rate or duplex. -/
def execSpeedChanged (t : Nat) (p : Fin 24) (rateMb : Nat) (half : Bool) (s : State) :
    Host.Outcome State Fault Refusal :=
  let s := s.tick t
  let x := s.port p
  let ok := x.enabled && x.cfg.mode == 4 && [10, 100, 1000].contains rateMb && !(half && rateMb == 1000)
  .next (if ok && (rateMb != x.rateMb || half != x.half) then
    (((s.creditRun p s.now).modPort p fun x => { x with rateMb := rateMb, half := half }).raiseOf
      50 (portUnit p) p).ethEnabled p
  else if ok then s.ethEnabled p
  else s)

/-- `REMOTE_FAULT` (R152, R191): of a 10GBASE-R or a 10BASE-T1S port; the latter has no link while its PHY reports a fault. -/
def execRemoteFault (t : Nat) (p : Fin 24) (on : Bool) (s : State) : Host.Outcome State Fault Refusal :=
  let s := s.tick t
  let x := s.port p
  .next (if !(x.cfg.mode == 1 || x.cfg.mode == 5) || on == x.remoteFault || (on && x.faultIgnored s.now) then s
  else
    let s := s.modPort p fun x => { x with remoteFault := on }
    let s := if on then s.raiseOf 58 (portUnit p) p else s
    if x.cfg.mode ≠ 5 then s
    else if on then (s.linkLost p).toldFlush
    else if x.enabled && !x.portSleep then s.linkRaised p
    else s)

/-! Pause (R163 to R167). -/

/-- `PAUSE_RECEIVED` (R166, R167): destination and quanta of a PAUSE whose FCS checks. -/
def execPauseReceived (t : Nat) (p : Fin 24) (pause : PauseFrame) (s : State) : Host.Outcome State Fault Refusal :=
  .next ((s.tick t).pauseTake p pause.dst (pause.quanta % 65536))

/-- `PAUSE_EXPIRY` (R166). -/
def execPauseExpiry (t : Nat) (p : Fin 24) (s : State) : Host.Outcome State Fault Refusal :=
  let s := s.tick t
  .next (match (s.port p).pz.pausedUntil with
  | some u => if u ≤ s.now then (s.pauseEnd p u).boundary p else s
  | none => s)

/-- `PAUSED_LONG` (R191): once per pause in force for more than 10 ms. -/
def execPausedLong (t : Nat) (p : Fin 24) (s : State) : Host.Outcome State Fault Refusal :=
  let s := s.tick t
  let y := (s.port p).pz
  .next (if (s.port p).paused s.now && !y.pausedLong && decide (y.pausedAt + 10000000 < s.now) then
    (s.modPort p fun x => { x with pz := { x.pz with pausedLong := true } }).raiseOf 52 (portUnit p) p
  else s)

/-- `PAUSE_REFRESH` (R164). -/
def execPauseRefresh (t : Nat) (p : Fin 24) (s : State) : Host.Outcome State Fault Refusal :=
  let s := s.tick t
  let x := s.port p
  .next (if x.pz.pauseHigh && decide (x.pz.lowWm * 1024 ≤ s.shareCells p * 256) && x.cfg.pauseTxEn && !x.half &&
      decide (0 < x.pz.pauseSentNs) && decide (x.pz.pauseSentAt + x.pz.pauseSentNs / 2 ≤ s.now) then
    (s.modPort p fun x => { x with pz := { x.pz with pauseWant := some x.pz.quanta } }).pauseSend p
  else s)

/-! Half duplex (R157 to R159). -/

/-- The frame in transmission is discarded (R159). -/
def State.txDiscard (s : State) (p : Nat) : State :=
  match (s.port p).tx with
  | none => s
  | some x =>
    let s := ((s.creditRun p s.now).modPort p fun y => { y with tx := none }).releaseRef x.frame
    if (s.port p).disabling then s.ethDisableEnd p else s.boundary p

/-- `COLLISION` (R159). -/
def execCollision (t : Nat) (p : Fin 24) (late : Bool) (s : State) : Host.Outcome State Fault Refusal :=
  let s := s.tick t
  let x := s.port p
  .next (match x.tx with
  | some y =>
    if !x.half || x.plcaActive || y.backoffUntil.isSome then s
    else
      let s := s.count 2 p ctrEthCollisions
      if late then ((s.count 2 p ctrEthLateCollisions).raiseOf 55 (portUnit p) p).txDiscard p
      else if 15 ≤ y.attempts then ((s.count 2 p ctrEthExcessCollisions).raiseOf 54 (portUnit p) p).txDiscard p
      else
        let (v, s) := s.drawBelow (2 ^ min (y.attempts + 1) 10)
        s.modPort p fun x => { x with
          tx := some { y with
            attempts := y.attempts + 1, backoffUntil := some (s.now + v * bitNs 512 x.txKbps) } }
  | none => s)

/-- `BACKOFF_EXPIRY` (R159): the stored frame is sent again. -/
def execBackoffExpiry (t : Nat) (p : Fin 24) (s : State) : Host.Outcome State Fault Refusal :=
  let s := s.tick t
  .next (match (s.port p).tx with
  | some y => match y.backoffUntil with
    | some u =>
      if u ≤ s.now && !(s.port p).paused s.now then
        s.modPort p fun x => { x with tx := some { y with backoffUntil := none, atNs := s.now } }
      else s
    | none => s
  | none => s)

/-- `PLCA_STATUS_CHANGE` (R158). Bit 0 of `DETAIL` holds the new status in place of bit 0 of the port number
(log entry 18). -/
def execPlcaStatusChange (t : Nat) (p : Fin 24) (up : Bool) (s : State) : Host.Outcome State Fault Refusal :=
  let s := s.tick t
  let x := s.port p
  .next (if x.cfg.mode ≠ 5 || x.cfg.plcaNode = 0xFF || up == x.plcaActive then s
  else
    let s := s.modPort p fun x => { x with plcaActive := up }
    let s := if up then s else s.count 2 p ctrEthPlcaFallbacks
    s.raiseOf 53 (portUnit p) (setBit p 0 up))

end Sys2Proof.Machine
end

