-- ==== Sys2Proof/Machine/Strait.lean ====
section
/-! DEFINITION. The strait fabric: flits, the strait header, packets, channel widths (R16 to R19). -/

namespace Sys2Proof.Machine

open Sys2Proof

/-- A flit: 2 control bits and 16 data bits (R17). -/
structure Flit where
  /-- 0 data, 1 strait header, 2 last with 2 valid bytes, 3 last with 1 valid byte. -/
  ctl : BitVec 2
  /-- The earlier byte in bits [15:8], the later one in bits [7:0]. -/
  data : BitVec 16
  deriving DecidableEq, Repr

/-- A strait header (R18). -/
structure StraitHead where
  /-- Destination island, 7 reserved. -/
  island : Nat := 2
  /-- Destination unit in the island. -/
  unit : Nat := 0
  /-- 0 frame data, 1 signal or composed message, 2 configuration, 3 event record. -/
  kind : Nat := 0
  /-- Sent before its content was confirmed. -/
  spec : Bool := false
  /-- Traffic class. -/
  cls : Nat := 0
  deriving DecidableEq, Repr

/-- The 16 bits of a strait header (R18). -/
def StraitHead.word (h : StraitHead) : Nat :=
  h.island % 8 * 2 ^ 13 + h.unit % 64 * 2 ^ 7 + h.kind % 4 * 2 ^ 5 + flag h.spec 4 + h.cls % 8 * 2

/-- The strait header of 16 bits (R18). -/
def straitHead (w : Nat) : StraitHead :=
  { island := bits w 13 3, unit := bits w 7 6, kind := bits w 5 2, spec := bit w 4, cls := bits w 1 3 }

/-- The flits of a payload (R17): the last one says how many of its bytes are valid. -/
def payloadFlits : List Byte → List Flit
  | [] => []
  | [a] => [{ ctl := 3, data := a ++ (0 : Byte) }]
  | [a, b] => [{ ctl := 2, data := a ++ b }]
  | a :: b :: r => { ctl := 0, data := a ++ b } :: payloadFlits r

/-- A packet: its header and its payload (R17). -/
def straitFlits (h : StraitHead) (payload : List Byte) : List Flit :=
  { ctl := 1, data := BitVec.ofNat 16 h.word } :: payloadFlits payload

/-- The bytes of payload flits up to the last one (R17). -/
def flitBytes : List Flit → List Byte
  | [] => []
  | f :: r =>
    let a := f.data.extractLsb' 8 8
    let b := f.data.extractLsb' 0 8
    if f.ctl = 3 then [a] else if f.ctl = 2 then [a, b] else a :: b :: flitBytes r

/-- What a receiving island makes of the flits of a packet: the header, which it consumes, and the payload. None for a
packet that does not start with a header (R17, R18). -/
def straitOpen : List Flit → Option (StraitHead × List Byte)
  | [] => none
  | f :: r => if f.ctl = 1 then some (straitHead f.data.toNat, flitBytes r) else none

/-- The islands that a channel joins, and its width in flits; 0 where the fabric has none (R18). -/
def channelWidth (i j : Nat) : Nat :=
  let a := min i j
  let b := max i j
  if a = b || 7 ≤ b then 0
  else if 5 ≤ b then 4
  else if a ≤ 1 && b = 2 then 16
  else if a ≤ 1 && b = 3 then 8
  else if a = 2 && b = 3 then 8
  else if a = 2 && b = 4 then 16
  else if a = 3 && b = 4 then 8
  else 0

/-- The handshakes that carry a packet over a channel: as many flits as its width in parallel, the last of them fewer
(R18). -/
def straitHandshakes (width : Nat) (p : List Flit) : List (List Flit) :=
  if width = 0 then [] else (List.range ((p.length + width - 1) / width)).map fun k => (p.drop (k * width)).take width

/-- A packet over the channel between two islands: the header and payload as they arrive, or none where the fabric discards
it, because its `ISLAND` is 7 or no channel leads there (R18). -/
def straitCarry (i : Nat) (h : StraitHead) (payload : List Byte) : Option (StraitHead × List Byte) :=
  if h.island = 7 then none
  else straitOpen (straitHandshakes (channelWidth i h.island) (straitFlits h payload)).flatten

end Sys2Proof.Machine
end

