-- ==== Sys2Proof/Machine/Arrival.lean ====
section
/-! DEFINITION. Frames that arrive on an Ethernet or causeway port, and their verdict
(R35 to R46, R155, R160 to R162, R168, R172, R508 to R514, R524 to R526). -/

namespace Sys2Proof.Machine

open Sys2Proof

/-! The receive filter (R160, R161, R172). -/

/-- The filter takes a destination address (R160 orders 3 to 8). -/
def State.filterTakes (s : State) (p : Nat) (da : List Byte) : Bool :=
  let c := (s.port p).cfg
  c.promisc || da == List.replicate 6 0xFF ||
    ([0, 1].any fun d => (s.dom d).enable && bit (s.dom d).ports p && (s.dom d).group == da) ||
    c.exact.contains da ||
    (if bit (le da 0 1) 0 then c.allMulti
     else
      let i := crcTop 9 da
      bit (le c.hash (i / 8) 1) (i % 8))

/-- What the MAC of a port in ZG5100 tag mode makes of a frame (R172): the frame with its outer tag removed, VID and
priority; none for a tag error. -/
def Eth.stripTag (x : Eth) (b : List Byte) : Option (List Byte × Nat × Nat) :=
  if be b 12 2 = 0x8100 then
    let tci := be b 14 2
    let vid := tci % 4096
    if vid = 4095 then none
    else some (popTag b, if vid = 0 then x.cfg.pvid % 4096 else vid, tci / 8192)
  else some (b, x.cfg.pvid % 4096, x.cfg.pvid / 4096 % 8)

/-- How a received FCS stands to the frame (R43): 0 correct, 1 wrong, 2 stomped. -/
def fcsOf (frame : List Byte) : Nat :=
  let b := frame.take (frame.length - 4)
  let f := frame.drop (frame.length - 4)
  if f == fcsBytes b then 0 else if f == stompBytes b then 2 else 1

/-- The frame of a port as its MAC passes it on: stamp, length, FCS, checksums (R155, R168, R347). -/
def State.arrived (s : State) (p : Nat) (frame : List Byte) : Frame :=
  let x := s.port p
  let n := frame.length
  let b := frame.take (n - 4)
  let long := decide (x.cfg.maxFrame < n)
  { src := p, bytes := if long then b.take (x.cfg.maxFrame - 4) else b, wire := n, fcsState := fcsOf frame
    rxTime := s.localNs, ipOk := ipOk b, l4Ok := l4Ok b
    dropRx := if long then 3 else if n < 64 then 2 else 0 }

/-- Hold a frame that goes nowhere until its verdict, with the counters that a confirmed verdict raises. -/
def State.holdFrame (s : State) (x : Frame) (drops : List (Nat × Nat × Nat)) : State × Nat :=
  s.placeFrame { x with fixed := true, drops := drops }

/-! Causeway frames (R508 to R514). -/

/-- Undo the protection of an encrypted frame (R525): the plain frame with its header's `ENC` and `SEQ` 0, the link
counter, and how the FCS state stands after the checks of key, counter and tag (R445). -/
def State.cwOpen (s : State) (p : Nat) (x : Frame) : Frame :=
  let c := (s.port p).cw
  let hb := field x.bytes 14 16
  let h := cwHead hb
  let body := x.bytes.drop 30
  let ct := body.take (body.length - 16)
  let tag := body.drop (body.length - 16)
  let base := c.linkRx / 2 ^ 32 * 2 ^ 32 + h.seq
  let n := if c.linkRx < base then base else base + 2 ^ 32
  let r := gcm (c.sessRx.getD []) (c.peerNonce.take 4 ++ beBytes 8 n) hb ct true
  let bad := if !s.cwKeyOk p 1 then 5 else if 2 ^ 31 < n - c.linkRx then 4 else if r.2 != tag then 3 else 0
  { x with
    bytes := x.bytes.take 14 ++ ({ h with enc := false, seq := 0 } : CwHead).bytes ++ r.1
    linkCtr := n
    fcsState := if x.fcsState = 0 then bad else x.fcsState }

/-- The transit age of a frame exceeds its limit (R514). -/
def State.cwTooOld (s : State) (h : CwHead) : Bool :=
  let age := toSigned 32 ((s.activeNs + (2 ^ 32 - h.snip % 2 ^ 32)) % 2 ^ 32)
  h.timeOk && s.time.active.isSome && decide ((s.cw.ageLimit * 100000 : Int) < age)

/-- The frame inside a causeway frame. -/
def Frame.inner (x : Frame) (h : CwHead) : Frame :=
  { x with
    bytes := x.bytes.drop 30, busRec := h.kind == 1, noLearn := h.kind == 1 || h.dstId != 0, cw := some h, cls := h.cls
    ipOk := if h.kind = 0 then Machine.ipOk (x.bytes.drop 30) else 0
    l4Ok := if h.kind = 0 then Machine.l4Ok (x.bytes.drop 30) else 0 }

/-- Deliver an addressed or broadcast frame to its `TARGET` (R511). -/
def State.cwDeliver (s : State) (p : Nat) (x : Frame) (h : CwHead) (fcs : List Byte) (par : List (Nat × Nat)) :
    State × Nat :=
  let y := x.inner h
  if h.target < 0x18 && h.kind = 0 then
    s.placeFrame { y with egress := 2 ^ h.target, action := { noCt := true } }
  else if inRange h.target 0x20 0x3F && h.kind = 1 then
    s.placeFrame { y with busDst := some (h.target - 0x20) }
  else if h.target = 0xFE && decide (h.kind ≤ 1) then s.takeFrame y (x.bytes ++ fcs) 5 none par
  else if h.target = 0xFF then s.placeFrame { x with cw := some h, tides := [(0, 5)], noLearn := true }
  else s.holdFrame x [(14, 0x10000 + p, ctrCwPortCwBadTarget)]

/-- The frame that goes on to the next device: the outer frame with one hop less (R511, R513). -/
def Frame.onward (x : Frame) (h : CwHead) : Frame :=
  { x with
    bytes := patch x.bytes 17 (leBytes 1 (h.hops - 1)), cw := some h, cls := h.cls, transit := true, noLearn := true }

/-- The first bytes of an inner Ethernet frame, which the bundle hash reads (R518). -/
def Frame.hashHead (x : Frame) (h : CwHead) : List Byte := if h.kind = 0 then field x.bytes 30 12 else []

/-- A broadcast frame (R512, R513): delivered, and forwarded on every other causeway port. Where a bad graph node makes the
groundsheet parser take it, only its start-up route handles it (R195). -/
def State.cwBroad (s : State) (p : Nat) (x : Frame) (h : CwHead) (fcs : List Byte) (par : List (Nat × Nat)) :
    State × Nat :=
  let link := h.kind == 2 && h.hops == 1
  let same (q : Nat) : Bool := q == p || (s.bundled p && (s.bundleOf p).contains q)
  if h.srcId = s.cw.id && s.cw.id ≠ 0 && !link then s.holdFrame x []
  else if !link && !((s.viaTo h.srcId).any same) then s.holdFrame x [(14, 0x10000 + p, ctrCwPortCwRpfDrop)]
  else if h.hops ≤ 1 then
    let (s, f) := s.cwDeliver p x h fcs par
    (s.countAt f 14 (0x10000 + p) ctrCwPortCwHopsExpired, f)
  else
    let ports := s.bundlePorts h.srcId h.dstId h.cls (x.hashHead h) (s.cwPorts.filter fun q => !same q)
    let (s, g) := s.cwDeliver p x h fcs par
    if (s.frame g).gsheet then (s, g)
    else
      let (s, f) := s.placeFrame { x.onward h with egress := ofBits ports }
      (s.modFrame f fun x => { x with also := some g }, f)

/-- A causeway frame whose header and protection are in order: by its scope (R511). -/
def State.cwScope (s : State) (p : Nat) (x : Frame) (fcs : List Byte) (par : List (Nat × Nat)) : State × Nat :=
  let h := cwHead (x.bytes.drop 14)
  let x := { x with cw := some h }
  let drop (i : Nat) : State × Nat := s.holdFrame x [(14, 0x10000 + p, i)]
  if !s.parse.graphInService then s.takeFrame x (x.bytes ++ fcs) 4 none par
  else if h.dstId = 0 then
    if 2 ≤ h.kind then drop ctrCwPortCwBadTarget
    else s.takeFrame (x.inner h) (x.bytes ++ fcs) 5 none par
  else if s.cwTooOld h then drop ctrCwPortCwAged
  else if h.dstId = 255 then s.cwBroad p x h fcs par
  else if h.dstId = s.cw.id then s.cwDeliver p x h fcs par
  else if h.hops ≤ 1 then drop ctrCwPortCwHopsExpired
  else match s.viaTo h.dstId with
    | none => s.holdFrame x [(14, 0, ctrCwCwUnreachable)]
    | some q =>
      let q := s.bundlePick q h.srcId h.dstId h.cls (x.hashHead h)
      let (s, f) := s.placeFrame { x.onward h with egress := 2 ^ q }
      (s.countAt f 14 (0x10000 + p) ctrCwPortCwTransit, f)

/-- A causeway frame on a port (R510, R526). -/
def State.cwArrive (s : State) (p : Nat) (x : Frame) (fcs : List Byte) (par : List (Nat × Nat)) : State × Nat :=
  let c := (s.port p).cw
  let hb := field x.bytes 14 16
  let h := cwHead hb
  let hello := h.kind == 2 && !h.enc && le x.bytes 30 1 == 1
  let drop (i : Nat) : State × Nat := s.holdFrame x [(14, 0x10000 + p, i)]
  if !cwHeadOk hb then drop ctrCwPortCwBadHeader
  else if hello then s.cwScope p x fcs par
  else if h.enc != c.enc then drop ctrCwPortCwEncMismatch
  else if c.encWait then drop ctrCwPortCwEncWait
  else if c.enc && !(s.chanOpen 2 4 && s.chanOpen 4 2) then s.holdFrame x []
  else if c.enc then s.cwScope p (s.cwOpen p x) fcs par
  else s.cwScope p x fcs par

/-! Arrival (R35, R155, R160, R172, R509). -/

/-- A link-local time message is consumed by the time unit; a Sync or Follow_Up of the slave port of a gPTP domain is
regenerated on its master ports in class 7 (R345, R349, R352). Under the groundsheet parser it is a frame of start-up route
S3 (R206, R207). -/
def State.timeFrame (s : State) (p : Nat) (x : Frame) : State × Nat :=
  let m := x.bytes.drop 14
  let k := bits (le m 0 1) 0 4
  let ports := match s.ptpDomain p m with
    | some d =>
      if (s.dom d).profile = 1 && (s.dom d).slavePort = p && (k = 0 || k = 8) then ofBits (s.dom d).masters else 0
    | none => 0
  let start := !s.parse.graphInService
  let (s, f) := s.placeFrame { x with egress := ports, cls := 7, gsheet := start, action := { noCt := start } }
  (if start then s.countAt f 4 0 (ctrParseGsRoute + 2) else s, f)

/-- A frame crosses from its port island into the Forwarding Island (R16 to R18, R28): as one packet of flits, whose header
the Forwarding Island consumes. What the fabric, the barrier or a full parser input queue discards is judged at its port
alone. -/
def State.crossIn (s : State) (p : Nat) (x : Frame) (entry : Entry) (go : State → Frame → State × Nat) : State × Nat :=
  let i := (portUnit p).island
  let hold (s : State) : State × Nat := s.holdFrame { x with noLearn := true } []
  if !s.islandUp 2 || !s.chanOpen i 2 then hold s
  else if entry = .full && (heads x.bytes).etype = 0x86DD then
    hold (s.modPort p fun y => { y with v6Lost := y.v6Lost + 1 })
  else
    let s := s.cross i 2
    match straitCarry i { island := if entry = .stray then 7 else 2, unit := flag !s.parse.graphInService, spec := true }
        x.bytes with
    | none => hold (s.count 1 0 ctrDevStraitErrors)
    | some (_, b) => go s { x with bytes := b }

/-- A frame head arrives at a port (R35): filter, causeway, tag mode, parser. -/
def State.ingress (s : State) (p : Nat) (frame : List Byte) (entry : Entry) (par : List (Nat × Nat)) : State :=
  let y := s.port p
  if !y.enabled || !y.linkUp || y.portSleep || !s.unitUp (portUnit p) then s
  else
    let x := s.arrived p frame
    let b := x.bytes
    let fcs := frame.drop (frame.length - 4)
    let drop (r : Nat) : State × Nat := s.holdFrame { x with dropRx := if x.dropRx = 0 then r else x.dropRx } []
    let (s, f) :=
      if be b 12 2 = 0x8808 then drop 5
      else if plainTime b && (y.cfg.causeway || s.filterTakes p (b.take 6)) then
        s.crossIn p x entry fun s x => s.timeFrame p x
      else if y.cfg.causeway then
        if s.isCw b then s.crossIn p x entry fun s x => s.cwArrive p x fcs par
        else s.holdFrame x [(14, 0x10000 + p, ctrCwPortCwForeign)]
      else if !s.filterTakes p (b.take 6) then drop 1
      else if y.cfg.tagMode then
        match y.stripTag b with
        | some (b, vid, prio) =>
          s.crossIn p { x with bytes := b, prio := prio } entry fun s x => s.takeFrame x (x.bytes ++ fcs) 4 (some (vid, prio)) par
        | none => drop 4
      else s.crossIn p x entry fun s x => s.takeFrame x (x.bytes ++ fcs) 4 none par
    s.modPort p fun y => { y with rx := some f }

/-- `INGRESS_FRAME_START` (R35): the frame with its FCS; `arrival` says how it enters the Forwarding Island (R18, R28)
and names the table entries whose parity check fails (R248). -/
def execIngressFrameStart (t : Nat) (p : Fin 24) (frame : List Byte) (arrival : Arrival) (s : State) :
    Host.Outcome State Fault Refusal :=
  .next ((s.tick t).ingress p frame arrival.entry arrival.parity)

/-- `CAUSEWAY_FRAME_RECEIVE` (R511): the same arrival, on a port with `CAUSEWAY` set. -/
def execCausewayFrameReceive (t : Nat) (p : Fin 24) (frame : List Byte) (arrival : Arrival) (s : State) :
    Host.Outcome State Fault Refusal :=
  let s := s.tick t
  .next (if (s.port p).cfg.causeway then s.ingress p frame arrival.entry arrival.parity else s)

/-! The verdict (R36, R43 to R45, R53). -/

/-- The bad outcome of a frame at its port, as counter group, function and index; none for a good frame. -/
def State.badOutcome (s : State) (x : Frame) : Option (Nat × Nat × Nat) :=
  let p := x.src
  if x.dropRx = 3 then some (2, p, ctrEthRxOversize)
  else if x.dropRx = 2 then some (2, p, ctrEthRxUndersize)
  else if x.dropRx = 7 then some (5, 0x30000 + x.action.stream, ctrStreamStreamOversize)
  else if x.fcsState = 1 then some (2, p, ctrEthRxFcsErr)
  else if x.fcsState = 2 then some (2, p, ctrEthRxStomped)
  else if x.fcsState = 3 then some (11, ((s.port p).cw.engRx.getD 0), ctrCiphTagFail)
  else if x.fcsState = 4 then some (14, 0x10000 + p, ctrCwPortCwReplay)
  else if x.fcsState = 5 then some (11, 0x10000, ctrKeyKeyFail)
  else none

/-- What a failed tag or key brings beside its count (R440, R445). The count of a failed key is made here. -/
def State.badSecond (s : State) (x : Frame) : State :=
  let c := (s.port x.src).cw
  if x.dropRx ≠ 0 then s
  else if x.fcsState = 3 then
    let e := c.engRx.getD 0
    (s.count 11 e ctrCiphSpecPlainRewound).raiseOf 105 ⟨4, e⟩ (engDetail e (cwClient x.src 1))
  else if x.fcsState = 5 then s.keyFail c.keyRx (cwClient x.src 1)
  else s

/-- The source address of a confirmed frame: it refreshes its entry or goes to the learning unit (R237, R238,
R243). -/
def State.learnFrom (s : State) (x : Frame) : State :=
  let sa := field x.key 12 6
  if x.key == [] || x.vid = 0 || x.noLearn || s.standbyMirrors 0 then s
  else
    match if s.bucketBad x.vid sa then none else s.l2Find x.vid sa with
    | some i =>
      if (s.l2e i).port = x.src then
        (s.modL2e i fun e => { e with hit := true }).mirrorOut 0 ([3] ++ leBytes 1 x.src ++ leBytes 2 x.vid ++ sa)
      else if x.learn then s.learnQueue { port := x.src, vid := x.vid, mac := sa } else s
    | none => if x.learn then s.learnQueue { port := x.src, vid := x.vid, mac := sa } else s

/-- The signal side of a confirmed frame with a binding (R306, R308, R309). -/
def State.signalConfirm (s : State) (f : Nat) : State :=
  let x := s.frame f
  match if x.sigCut then none else s.bindingOf x with
  | none => s
  | some b =>
    if !s.unitUp ⟨3, 0⟩ then s.specEnd f x.sigSrc x.specSet
    else if x.ipOk = 2 || x.l4Ok = 2 then (s.count 7 0 ctrSigEthCsumDrop).specEnd f x.sigSrc x.specSet
    else
      let s := if x.specSet then s else s.count 7 0 ctrSigSpecDeferred
      s.modSig fun g => { g with
        wait := g.wait ++ [{
          fid := f, specSet := x.specSet, src := x.sigSrc, atNs := s.now, valid := s.activeNs, layout := b.1
          ver := x.mapVer, data := x.bytes.drop b.2 }] }

/-- The rule that a confirmed frame hit is counted; one deleted since its classification counts as retired, also where its
`RULE_ID` has come back (R218, R225). -/
def State.ruleCount (s : State) (x : Frame) : State :=
  match x.rule with
  | none => s
  | some id =>
    if s.parse.cur.rules.any fun r => r.id == id && r.born == x.ruleBorn then s.count 4 (0x10000 + id) ctrRuleRuleHits
    else s.count 4 0 ctrParseRuleHitsRetired

/-- A stored message whose verdict is confirmed meets its deep queue (R36, R113): refused, its cells return. -/
def State.busEnter (s : State) (f : Nat) : State :=
  let x := s.frame f
  match x.busPend with
  | none => s
  | some b =>
    let s := s.modFrame f fun x => { x with busPend := none }
    match s.deepEnter b { recordMsg x.bytes with frame := f, cls := x.cls } with
    | (s, true) => s
    | (s, false) => s.releaseRef f

/-- Every sink of a frame sees its confirmed verdict (R36, R44, R45): its lookups were used, its message meets its deep
queue. -/
def State.confirmSinks (s : State) (f : Nat) : State :=
  let x := s.frame f
  let s := s.each x.tides fun s q => s.tqCommit q.1 f (x.tideRecord q.2 s.activeNs)
  let s := ((s.learnFrom x).signalConfirm f).ruleCount x
  let s := match if x.sigCut then none else x.bind with
    | some h => s.aafAccept h x.bytes
    | none => s
  let s := (s.policeCount f).modFrame f fun x => { x with lookups := [], badSeen := [] }
  let s := (s.each x.badSeen fun s e => s.tableReport e false).frameConfirm f
  s.busEnter f

/-- The confirmed verdict of the ingress of a frame. A frame of the classifier passes it on once its classification result
is fixed, since it is spoiled where that takes too long (R215). -/
def State.confirmFrame (s : State) (f : Nat) : State :=
  let s := s.policeDebit f
  let x := s.frame f
  if x.fixed || x.placed then s.confirmSinks f else s.modFrame f fun x => { x with portOk := true }

/-- What a confirmed causeway frame brings: its link counter is accepted; a mismatch of `ENC` and a key revoked
meanwhile are reported (R448, R525, R526). -/
def State.cwConfirm (s : State) (x : Frame) : State :=
  let p := x.src
  let s := if x.linkCtr = 0 then s
    else
      let s := s.modPort p fun y => { y with cw := { y.cw with linkRx := max y.cw.linkRx x.linkCtr } }
      let k := s.keySlot (handleSlot (s.port p).cw.keyRx)
      if k.valid && k.gen = handleGen (s.port p).cw.keyRx then s else s.count 11 0x10000 ctrKeyParentRevokedResults
  if x.drops.contains (14, 0x10000 + p, ctrCwPortCwEncMismatch) then s.cwLinkEvent p 4 else s

/-- A frame matches a wake pattern (R175). -/
def WakePat.hits (w : WakePat) (bytes : List Byte) : Bool :=
  w.enable && (List.range 128).all fun j =>
    !bit (le w.mask (j / 8) 1) (j % 8) || (decide (j < bytes.length) && bytes.getD j 0 == w.pattern.getD j 0)

/-- The wake patterns and the magic packet setting in force at an instant (R177): those that a later change replaced, else the
present ones. -/
def Eth.wakeSet (x : Eth) (began : Nat) : Tab WakePat × Bool :=
  match (x.wakeSets.filter fun w => decide (began ≤ w.1)).getLast? with
  | some w => w.2
  | none => (x.patterns, x.magic)

/-- A frame matched only a wake pattern (R560). DEDUCED: it hits a pattern, and no row of R160 that looks at its destination
took it (log entry 77). -/
def State.patternOnly (s : State) (x : Frame) : Bool :=
  let y := s.port x.src
  let c : EthCfg := { y.cfg with promisc := false }
  !(s.modPort x.src fun z => { z with cfg := c }).filterTakes x.src (x.bytes.take 6) &&
    (List.range 8).any fun k => ((y.wakeSet x.atNs).1.get {} k).hits x.bytes

/-- A frame that its port accepted is counted there (R168, R192). A PAUSE takes effect (R166). DESIGN CHOICE: a MAC Control
frame, which the MAC consumes, counts in neither `rx_ok` nor `rx_octets` (log entry 73). -/
def State.portConfirm (s : State) (x : Frame) : State :=
  let p := x.src
  if x.dropRx = 1 then s.count 2 p ctrEthRxFiltered
  else if x.dropRx = 4 then s.count 2 p ctrEthRxTagErr
  else if x.dropRx = 5 then
    (if be x.bytes 14 2 = 1 then s.pauseTake p (x.bytes.take 6) (be x.bytes 16 2) else s)
  else
    let s := (s.count 2 p ctrEthRxOk).count 2 p ctrEthRxOctets x.wire
    let control := be x.bytes 12 2 == 0x8808 || (match x.cw with | some h => h.kind == 2 | none => false)
    let s := if control || s.patternOnly x then s else s.heard
    let s := if x.ipOk = 2 then s.count 2 p ctrEthRxIpv4HdrErr else s
    let s := if x.l4Ok = 2 then s.count 2 p ctrEthRxL4Err else s
    if x.dropRx = 6 then s.count 4 0 ctrParseParseReject else s

/-- The verdict of a frame from a port (R36). `cut` says that the device itself ended it (R39). A frame that the walk
rejected is good at its port and ends with a spoiled verdict toward every sink (R200). -/
def State.verdict (s : State) (f : Nat) (cut : Bool) : State :=
  let x := s.frame f
  if (s.sw.frames.find f).isNone || x.verdict ≠ 0 || x.portOk || 24 ≤ x.src then s
  else
    let s := s.modPort x.src fun y => { y with rx := if y.rx = some f then none else y.rx }
    let also := x.also.toList
    let s := s.each (f :: also) State.frameWhole
    let spoil (s : State) : State := s.each (f :: also) State.spoilFrame
    if cut then (spoil s).toldFlush
    else match s.badOutcome x with
      | some c => (spoil ((if x.fcsState = 5 && x.dropRx = 0 then s else s.count c.1 c.2.1 c.2.2).badSecond x)).toldFlush
      | none =>
        let s := (s.portConfirm x).cwConfirm x
        if x.dropRx = 6 then (spoil s).toldFlush else s.each (f :: also) State.confirmFrame

/-- `INGRESS_VERDICT` (R36). -/
def execIngressVerdict (t f : Nat) (cut : Bool) (s : State) : Host.Outcome State Fault Refusal :=
  .next ((s.tick t).verdict f cut)

/-! Admission (R214, R263, R268). -/

/-- The classification result of a frame is fixed: it is admitted (R214, R263), and a confirmed verdict of its ingress that
came before reaches its sinks (R215). -/
def State.frameAdmit (s : State) (f : Nat) : State :=
  let x := s.frame f
  if x.fixed || x.verdict == 2 || (s.sw.frames.find f).isNone then s
  else
    let s := s.modFrame f fun x => { x with fixed := true }
    let s :=
      if x.dropRx ≠ 0 && x.dropRx ≠ 2 && x.dropRx ≠ 3 && x.dropRx ≠ 7 then s
      else
        let bus := match x.busDst with
          | some b => if x.busRec then some (b, recordMsg x.bytes) else none
          | none => none
        s.admitRef f (bitList x.egress 24) x.mirrorTo bus (s.exempt x)
    (if x.portOk then s.confirmSinks f else s).retire f

/-- The order of two admissions of one instant (R268): the higher final class, then the lower `KPORT`. -/
def State.admitsBefore (s : State) (a b : Nat) : Bool :=
  let x := s.frame a
  let y := s.frame b
  decide (y.cls < x.cls) || (decide (x.cls = y.cls) && decide (x.src < y.src))

/-- What R268 puts before an admission at the same instant: a reference that starts prevails over an eviction, and the
cells of a spoiled verdict are free. Commands of that instant that wait in the queue take effect first (log entry 75). -/
def State.instantFirst (s : State) (t : Nat) : State :=
  s.pending.foldl (fun s c => match c with
    | .egressDequeue u p => if u = t && !s.lightsOut then s.dequeue p else s
    | .ingressVerdict u f cut => if u = t then s.verdict f cut else s
    | _ => s) s

/-- The frames whose admission falls at the same instant, in the order of R268. -/
def State.instantAdmits (s : State) (t f : Nat) : List Nat :=
  sortBy s.admitsBefore (f :: s.pending.filterMap fun c => match c with
    | .frameAdmission u g => if u = t then some g else none
    | _ => none)

/-- `FRAME_ADMISSION` (R263, R268): with the admissions of the same instant that wait in the queue, each of which then finds
its frame decided. -/
def execFrameAdmission (t f : Nat) (s : State) : Host.Outcome State Fault Refusal :=
  let s := (s.tick t).instantFirst t
  .next (s.each (s.instantAdmits t f) State.frameAdmit)

/-- `VERSION_EXPIRY` (R215): a frame of the classifier not fixed 40 µs after its stamp is discarded with a spoiled verdict
toward every sink. -/
def execVersionExpiry (t f : Nat) (s : State) : Host.Outcome State Fault Refusal :=
  let s := s.tick t
  let x := s.frame f
  .next (if (s.sw.frames.find f).isSome && !x.fixed && !x.placed && decide (x.atNs + 40000 ≤ s.now) && x.verdict = 0 then
    ((s.count 4 0 ctrParseVerExpired).spoilFrame f).toldFlush
  else s)

end Sys2Proof.Machine
end

