-- ==== Sys2Proof/Machine/Bus.lean ====
section
/-! DEFINITION. The bus controllers: commands of group 0x03, reception through the filter list, transmission,
error confinement and bus-off, drain and mode changes (R103 to R148, R498, R622). -/

namespace Sys2Proof.Machine

open Sys2Proof

/-- A controller takes part in traffic on its bus: enabled, in service, integrated and not bus-off (R126, R138). -/
def State.busLive (s : State) (b : Nat) : Bool :=
  let x := s.bus b
  x.enabled && x.cfg.isSome && s.unitUp (busUnit b) && !x.integrating && !x.busOff

/-- An event of a controller in which no identifier is concerned (R147). -/
def State.busEvent (s : State) (ev b : Nat) : State := s.raiseOf ev (busUnit b) b

/-- A controller may send on its bus: it takes part in traffic, is in normal operation, and no dominant bus or wait for
integration holds it (R125, R130, R138). -/
def State.busSends (s : State) (b : Nat) : Bool :=
  let x := s.bus b
  s.busLive b && !x.restricted && x.wantMode != some true && !x.stuck && !x.errWait && !x.tx.aborting

/-- Buffers of a controller that hold a message. -/
def BusTx.full (t : BusTx) : List Nat := [0, 1, 2].filter fun n => (t.buf n).msg.isSome

/-- The mode of a controller takes effect (R140). -/
def State.busModeSet (s : State) (b : Nat) (r : Bool) : State :=
  let x := s.bus b
  let s := s.modBus b fun x => { x with wantMode := none, restricted := r }
  if x.restricted = r then s else s.busEvent 46 b

/-! Stopping (R139, R141). -/

/-- No attempt of a controller is in progress any more: an error flag, a cut by the pin or a stop ended it (R115). -/
def BusTx.idle (t : BusTx) : BusTx := { t with
  tb0 := { t.tb0 with engaged := false }, tb1 := { t.tb1 with engaged := false }
  tb2 := { t.tb2 with engaged := false } }

/-- A controller has stopped: recessive, nothing is received; its `bus.disable` completes, and an abort that waited for it
is answered (R95, R139 step 4). -/
def State.busStop (s : State) (b : Nat) : State :=
  let n := (s.bus b).tx.drainBack
  let s := (s.busRxSpoil b).modBus b fun x => { x with
    enabled := false, integrating := false, txd := true, stuck := false, errWait := false
    tx := { x.tx with
      draining := none, drainBack := 0, aborting := false, held := if x.busOff then x.tx.held else none
      heldOnly := false } }
  ((s.completeOf 0x0303 (fun q => le q 0 1 == b) (.ok (leBytes 1 n))).abortedOf (.bus b)).toldFlush

/-- The drain of a controller goes on (R139, R141): past its limit, or where no frame can be sent any more, each
buffer that is not engaged goes back to the deep queue; the controller stops once nothing is left to send. -/
def State.drainStep (s : State) (b : Nat) : State :=
  let x := s.bus b
  match x.tx.draining with
  | none => s
  | some t0 =>
    let past := x.busOff || x.tx.aborting || decide (t0 + (x.cfg.getD {}).drainLimit * 100000 ≤ s.now)
    let back := if past then x.tx.full.filter fun n => !(x.tx.buf n).engaged else []
    let s := s.each back fun s n => s.bufReturn b n
    let s := s.modTx b fun t => { t with drainBack := t.drainBack + back.length }
    let s := if back.isEmpty || x.tx.drainBack ≠ 0 || x.tx.aborting then s else s.busEvent 44 b
    let y := (s.bus b).tx
    if y.engagedBuf.isNone && y.full.isEmpty then s.busStop b else s

/-- An abort stops a controller (R94, R141): buffers not engaged go back at once, an engaged attempt is finished first if
it ends within 1 ms of the abort doorbell, at `t0`; `cut` ends it at once. -/
def State.busAbort (s : State) (b t0 : Nat) (cut : Bool) : State :=
  if !(s.bus b).enabled then s
  else
    let s := s.modTx b fun t => { (if cut then t.idle else t) with draining := some t0, aborting := true }
    s.drainStep b

/-! Error states (R127 to R134). -/

/-- A controller enters bus-off (R127, R131 to R133, R140). -/
def State.busOffEnter (s : State) (b : Nat) : State :=
  let x := s.bus b
  let held := if x.tx.heldOnly then x.tx.held else (bestMsg x.arb x.tx.held3).map fun m => m.2.frame
  let s := s.modBus b fun x => { x with
    busOff := true, episode := true, passive := false, txd := true, recovery := 0
    recovering := (x.cfg.getD {}).autoRecover
    tx := { x.tx with
      held := held, heldOnly := false, divertSeen := false
      tb0 := x.tx.idle.tb0, tb1 := x.tx.idle.tb1, tb2 := x.tx.idle.tb2 } }
  let s := (s.count 3 b ctrBusBusOffEntries).busEvent 40 b
  let s := if x.wantMode = some true then s.busModeSet b true else s
  let s := if !(s.bus b).diverting || !s.unitUp ⟨3, 0⟩ then s
    else
      let msgs := (x.tx.held3.filterMap fun k => if some k.2.frame = held then some k.2 else none) ++ x.tx.deep
      s.each msgs fun s m => match m.layout with
        | some n => if m.diverted then s else s.divert b n m
        | none => s
  s.drainStep b

/-- TEC and REC of a controller take new values (R127): warning, error-passive, error-active, bus-off. -/
def State.busCounters (s : State) (b tec recv : Nat) : State :=
  let x := s.bus b
  let s := s.modBus b fun x => { x with tec := min 256 tec, recCount := min 255 recv }
  let s := if (x.tec < 96 && 96 ≤ tec) || (x.recCount < 96 && 96 ≤ recv) then s.busEvent 32 b else s
  if 256 ≤ tec then s.busOffEnter b
  else
    let p := decide (128 ≤ tec) || decide (128 ≤ recv)
    let s := s.modBus b fun x => { x with passive := p }
    if p && !x.passive then s.busEvent 33 b
    else if !p && x.passive then s.busEvent 34 b
    else s

/-- The count of unacknowledged attempts returns to 0 and single-shot ends (R135, R136). -/
def State.noackEnd (s : State) (b : Nat) : State :=
  s.modTx b fun t => { t with noack := 0, noackEpisode := false, singleShot := false }

/-- One unacknowledged attempt of a message (R135). -/
def State.noackCount (s : State) (b : Nat) (m : BusMsg) : State :=
  let s := s.modTx b fun t => { t with noack := t.noack + 1 }
  let x := s.bus b
  if x.tx.noack < 16 || x.tx.noackEpisode then s
  else
    let s := s.modTx b fun t => { t with
      noackEpisode := true, singleShot := (x.cfg.getD {}).noackSingle }
    (s.count 3 b ctrBusNoAckEpisodes).raiseOf 41 (busUnit b) m.detail

/-- A message leaves its buffer for good. -/
def State.bufDrop (s : State) (b n : Nat) : State :=
  match ((s.bus b).tx.buf n).msg with
  | none => s
  | some m =>
    let s := s.modTx b fun t =>
      let t := t.setBuf n {}
      if t.held = some m.frame then { t with held := none, heldOnly := false } else t
    s.releaseRef m.frame

/-- Messages past their age limit leave the buffers that are not engaged (R114, R132). -/
def State.bufAge (s : State) (b : Nat) : State :=
  s.each [0, 1, 2] fun s n =>
    let y := (s.bus b).tx.buf n
    match y.msg with
    | some m =>
      if y.engaged || !s.aged m.frame then s
      else (((s.bufDrop b n).count 3 b ctrBusTxAged).raiseOf 45 (busUnit b) m.detail)
    | none => s

/-- The held message stands in a buffer again: a drain may have put it back into the deep queue (R132, R138). -/
def State.heldPlace (s : State) (b f : Nat) : State :=
  let x := (s.bus b).tx
  if x.held3.any fun k => k.2.frame == f then s
  else match x.deep.find? fun m => m.frame == f with
    | none => s
    | some m =>
      let n := ([0, 1, 2].find? fun n => (x.buf n).msg.isNone).getD 0
      ((s.deepTake b m).bufReturn b n).modTx b fun t => t.setBuf n { msg := some m }

/-- Recovery from bus-off completes (R128, R132, R140). -/
def State.busOn (s : State) (b : Nat) : State :=
  let x := s.bus b
  let s := s.modBus b fun x => { x with
    busOff := false, episode := false, passive := false, tec := 0, recCount := 0, recovering := false
    recovery := 0 }
  let s := s.busEvent 42 b
  let s := if x.wantMode = some false then s.busModeSet b false else s
  if (s.bus b).restricted then (s.bufReturnAll b).refill b
  else
    let s := match x.tx.held with
      | some f => s.heldPlace b f
      | none => s
    match (s.bus b).tx.held3.find? fun k => some k.2.frame == x.tx.held with
    | none => (s.modTx b fun t => { t with held := none }).refill b
    | some (n, m) =>
      if s.aged m.frame then
        (((s.bufDrop b n).count 3 b ctrBusTxAged).raiseOf 45 (busUnit b) m.detail).refill b
      else s.modTx b fun t => { t with heldOnly := true }

/-! Commands (R143 to R146). -/

/-- `BUS`, byte 0 of every request (R143). -/
def needBus (p : List Byte) : Check := needField p 0 1 0 31

/-- Request of one byte `BUS`. -/
def checkBusByte (_ : State) (p : List Byte) : Check := firstFail [needLen (p.length == 1), needBus p]

/-- A bit time in kernel-clock cycles (R108). -/
def bitTime (prescaler seg1 seg2 : Nat) : Nat := prescaler * (1 + seg1 + seg2)

/-- A field of bytes 4 to 23 that an enabled controller may not change (R142). -/
def Bus.keeps (x : Bus) (p : List Byte) (off n : Nat) : Check :=
  match x.enabled, x.cfg with
  | true, some c => need (field p off n == field c.timing (off - 4) n) off
  | _, _ => none

/-- The data-phase fields of a layout from an offset on: prescaler, segments, SJW, and the bit time in cycles
that the greatest rate of the phase allows (R104, R108); ranges are checked where `on`, changes always (R142, R144). -/
def checkPhase (x : Bus) (p : List Byte) (on : Bool) (off least : Nat) : List Check :=
  let ok (b : Bool) (o : Nat) : Check := need (!on || b) o
  let within (o lo hi : Nat) : Bool := inRange (le p o 1) lo hi
  [ ok (within off 1 32) off,
    ok (decide (least ≤ bitTime (le p off 1) (le p (off + 1) 1) (le p (off + 2) 1)) ||
      !(within (off + 1) 1 32 && within (off + 2) 1 16)) off,
    x.keeps p off 1,
    ok (within (off + 1) 1 32) (off + 1), x.keeps p (off + 1) 1,
    ok (within (off + 2) 1 16) (off + 2), x.keeps p (off + 2) 1,
    ok (within (off + 3) 1 (min 16 (le p (off + 2) 1))) (off + 3), x.keeps p (off + 3) 1,
    ok (within (off + 4) 0 127) (off + 4), x.keeps p (off + 4) 1 ]

/-- The PWM fields of a layout (R110); a relation reports the earliest field it concerns (R620). -/
def checkPwm (x : Bus) (p : List Byte) (on : Bool) : List Check :=
  let s := le p 21 1
  let l := le p 22 1
  [ need (!on || inRange s 1 63) 21, x.keeps p 21 1, need (!on || inRange l 1 63) 22,
    need (!on || s + l == bitTime (le p 16 1) (le p 17 1) (le p 18 1)) 16, x.keeps p 22 1,
    need (!on || inRange (le p 23 1) 0 63) 23, need (!on || decide (le p 23 1 < s + l)) 21, x.keeps p 23 1 ]

/-- Checks of `bus.config` in ascending offset: each field against its range, then whether an enabled controller lets it
change (R104, R108 to R110, R134, R142, R144, R620). -/
def checkBusConfig (s : State) (p : List Byte) : Check :=
  let fr := le p 1 1
  let op := le p 2 1
  let fd := bit fr 1
  let xl := bit fr 2
  let pwm := bit fr 4 && !bit op 4
  let x := s.bus (le p 0 1)
  let c := x.cfg.getD {}
  let live := x.enabled && x.cfg.isSome
  firstFail <|
    [ needLen (p.length == 32), needBus p,
      need (decide (fr < 64) && (!bit fr 4 || xl)) 1, need (!live || fr == c.frames) 1,
      need (decide (op < 64)) 2, need (!live || (bit op 4 == c.tmodeFn && bit op 5 == c.tmodeLevel)) 2,
      need (decide (le p 3 1 ≤ 31) && !(bit op 3 && le p 3 1 == le p 0 1)) 3,
      needField p 4 2 1 256,
      need (inRange (bitTime (le p 4 2) (le p 6 2) (le p 8 1)) 80 4000 ||
        !(inRange (le p 6 2) 2 256 && inRange (le p 8 1) 2 128)) 4,
      x.keeps p 4 2,
      needField p 6 2 2 256, x.keeps p 6 2,
      needField p 8 1 2 128, x.keeps p 8 1,
      needField p 9 1 1 (min 128 (le p 8 1)), x.keeps p 9 1 ] ++
    checkPhase x p fd 10 10 ++
    [need (!(fd || xl) || inRange (le p 15 1) 0 1) 15, x.keeps p 15 1] ++
    checkPhase x p xl 16 (if pwm then 8 else 10) ++
    checkPwm x p (xl && pwm) ++
    [ needField p 24 2 16 4096, needField p 26 2 0 80, needZeros p 28 4 ]

/-- The configuration of a layout (R144). -/
def busCfgOf (p : List Byte) : BusCfg :=
  let op := le p 2 1
  { frames := le p 1 1, arbMode := bit op 0, autoRecover := bit op 1, noackSingle := bit op 2, divertEn := bit op 3
    tmodeFn := bit op 4, tmodeLevel := bit op 5, divertBus := le p 3 1, timing := field p 4 20
    deepLimit := le p 24 2, drainLimit := le p 26 2 }

/-- Evict the messages of a deep queue above a limit, lowest first, at most `n` (R113, R142). No message arrives, so EV036 is
not raised. -/
def State.deepTrim (s : State) (b limit : Nat) : Nat → State
  | 0 => s
  | n + 1 =>
    let x := s.bus b
    if x.tx.deep.length ≤ limit then s
    else match x.lowest with
      | none => s
      | some m => (s.deepEvict b m).deepTrim b limit n

/-- Deep queue and buffers in the order of a changed `ARB_MODE` (R111). -/
def State.deepResort (s : State) (b : Nat) : State :=
  s.modBus b fun x => { x with
    tx := { x.tx with deep := x.tx.deep.foldl (fun l m => deepInsert x.arb m l) [] } }

/-- Effect of `bus.config`. -/
def effectBusConfig (s : State) (p : List Byte) : State × Reply :=
  let b := le p 0 1
  let c := busCfgOf p
  let s := s.modBus b fun x => { x with
    cfg := some c, tmode := c.tmodeFn && c.tmodeLevel
    tx := { x.tx with singleShot := x.tx.noackEpisode && c.noackSingle } }
  let s := s.deepResort b
  ((s.deepTrim b c.deepLimit (s.bus b).tx.deep.length).refill b, .ok p)

/-- `BUS_CONFIG` (R144). -/
def execBusConfig (t : Nat) (m : Fin 8) (s : State) : Host.Outcome State Fault Refusal :=
  .next (s.simple t m 0x0301 checkBusConfig effectBusConfig)

/-- Checks of `bus.enable` (R138); a controller with no committed configuration is unavailable, which is judged before the
length (R85, R620). -/
def checkBusEnable (s : State) (p : List Byte) : Check :=
  firstFail [needLeave (p.isEmpty || decide (31 < le p 0 1) || (s.bus (le p 0 1)).cfg.isSome), checkBusByte s p]

/-- Effect of `bus.enable`: integration starts; a kept recovery goes on (R138). -/
def effectBusEnable (s : State) (p : List Byte) : State × Reply :=
  let b := le p 0 1
  if (s.bus b).enabled then (s, .ok)
  else (s.modBus b fun x => { x with enabled := true, integrating := true, stuck := false, errWait := false }, .ok)

/-- `BUS_ENABLE` (R138). -/
def execBusEnable (t : Nat) (m : Fin 8) (s : State) : Host.Outcome State Fault Refusal :=
  .next (s.simple t m 0x0302 checkBusEnable effectBusEnable)

/-- Start of `bus.disable`; the drain runs from the acceptance of the command (R139). -/
def startBusDisable (s : State) (p : List Byte) : State :=
  let b := le p 0 1
  let t0 := match s.runningOf 0x0303 fun q => le q 0 1 == b with
    | m :: _ => (s.mb m).acceptedAt
    | [] => s.now
  if !(s.bus b).enabled then s.completeOf 0x0303 (fun q => le q 0 1 == b) (.ok (leBytes 1 0))
  else (s.modTx b fun x => { x with draining := some t0, drainBack := 0 }).drainStep b

/-- `BUS_DISABLE` (R139). -/
def execBusDisable (t : Nat) (m : Fin 8) (s : State) : Host.Outcome State Fault Refusal :=
  .next (s.begins t m 0x0303 checkBusByte startBusDisable)

/-- Checks of a filter entry at an offset (R117, R118). -/
def checkFilter (p : List Byte) (o : Nat) : List Check :=
  let a := le p o 1
  let typ := bits a 6 2
  let top := if bit a 5 then 0x1FFFFFFF else 0x7FF
  [ need (!bit a 4 && (typ == 0 || bits a 0 4 != 0)) o,
    need (bits (le p (o + 1) 1) 6 2 == 2 || bits (le p (o + 1) 1) 0 6 == 0) (o + 1),
    needZeros p (o + 2) 2,
    need (decide (le p (o + 4) 4 ≤ top) && !(typ == 1 && decide (le p (o + 8) 4 < le p (o + 4) 4))) (o + 4),
    need (decide (le p (o + 8) 4 ≤ top)) (o + 8) ]

/-- Checks of `bus.filter.load` (R145). -/
def checkBusFilterLoad (_ : State) (p : List Byte) : Check :=
  let n := le p 1 2
  firstFail <|
    [ needLen (p.length == 4 + 12 * n), needBus p, need (bits (le p 3 1) 6 2 == 2 || bits (le p 3 1) 0 6 == 0) 3 ] ++
    ((List.range n).flatMap fun k => checkFilter p (4 + 12 * k)) ++ [needRoom (decide (n ≤ 128))]

/-- A filter entry of a layout (R117). -/
def filterOf (p : List Byte) (o : Nat) : Filter :=
  let a := le p o 1
  let d := le p (o + 1) 1
  { typ := bits a 6 2, xtd := bit a 5, kinds := bits a 0 5, dest := bits d 6 2, queue := bits d 0 6
    id1 := le p (o + 4) 4, id2 := le p (o + 8) 4 }

/-- Effect of `bus.filter.load`: the list changes as a whole (R119). -/
def effectBusFilterLoad (s : State) (p : List Byte) : State × Reply :=
  (s.modBus (le p 0 1) fun x => { x with
    filters := (List.range (le p 1 2)).map fun k => filterOf p (4 + 12 * k), defDest := le p 3 1 }, .ok)

/-- `BUS_FILTER_LOAD` (R145). -/
def execBusFilterLoad (t : Nat) (m : Fin 8) (s : State) : Host.Outcome State Fault Refusal :=
  .next (s.simple t m 0x0304 checkBusFilterLoad effectBusFilterLoad)

/-- Effect of `bus.recover` (R128). -/
def effectBusRecover (s : State) (p : List Byte) : State × Reply :=
  let b := le p 0 1
  let x := s.bus b
  if !x.busOff || x.recovering then (s, .ok [] 1)
  else (s.modBus b fun x => { x with recovering := true, recovery := 0 }, .ok)

/-- `BUS_RECOVER` (R128). -/
def execBusRecover (t : Nat) (m : Fin 8) (s : State) : Host.Outcome State Fault Refusal :=
  .next (s.simple t m 0x0305 checkBusByte effectBusRecover)

/-- Checks of `bus.mode`; a device without the token stays in restricted operation (R126, R140, R486). -/
def checkBusMode (s : State) (p : List Byte) : Check :=
  firstFail [needLen (p.length == 2), needBus p, needField p 1 1 0 1, needLeave (le p 1 1 == 1 || s.twin.role.holder)]

/-- A controller is ordered into a mode (R140). -/
def State.busOrder (s : State) (b : Nat) (r : Bool) : State :=
  let x := s.bus b
  if !x.enabled then s.modBus b fun x => { x with wantMode := some r }
  else if x.busOff && r then s.busModeSet b true
  else s.modBus b fun x => { x with wantMode := if x.restricted = r then none else some r }

/-- Effect of `bus.mode`. -/
def effectBusMode (s : State) (p : List Byte) : State × Reply :=
  (s.busOrder (le p 0 1) (le p 1 1 == 1), .ok)

/-- `BUS_MODE` (R140). -/
def execBusMode (t : Nat) (m : Fin 8) (s : State) : Host.Outcome State Fault Refusal :=
  .next (s.simple t m 0x0306 checkBusMode effectBusMode)

/-- `CSTATE` (R146). DESIGN CHOICE: a controller that waits for bus integration after a protocol exception or an error reads
as error-active or error-passive, not as integrating (log entry 72). -/
def Bus.cstate (x : Bus) : Nat :=
  if !x.enabled then 0 else if x.busOff then (if x.recovering then 5 else 4) else if x.integrating then 1
  else if x.passive then 3 else 2

/-- The held message still stands in a buffer or in the deep queue (R131, R146). -/
def BusTx.heldWaits (t : BusTx) : Bool :=
  match t.held with
  | some f => t.held3.any (fun k => k.2.frame == f) || t.deep.any fun m => m.frame == f
  | none => false

/-- Answer of `bus.status` (R146). -/
def answerBusStatus (s : State) (p : List Byte) : Reply :=
  let b := le p 0 1
  let x := s.bus b
  let ids := [0, 1, 2].flatMap fun n => match (x.tx.buf n).msg with
    | some m => leBytes 4 m.id
    | none => leBytes 4 (2 ^ 31)
  .ok <| leBytes 1 b ++ leBytes 1 x.cstate ++ leBytes 1 (flag x.restricted) ++
    leBytes 1 (flag x.tx.singleShot + flag x.tx.heldWaits 1 + flag x.diverting 2 + flag (x.busOff && !x.enabled) 3) ++
    leBytes 2 x.tec ++ leBytes 2 x.recCount ++ leBytes 1 x.recovery ++ leBytes 1 (min 255 x.tx.noack) ++
    leBytes 2 x.tx.deep.length ++ ids

/-- `BUS_STATUS` (R146). -/
def execBusStatus (t : Nat) (m : Fin 8) (s : State) : Host.Outcome State Fault Refusal :=
  .next (s.query t m 0x0307 checkBusByte answerBusStatus)

/-! Reception (R117 to R125). -/

/-- The message of a frame on the bus. -/
def frameMsg (f : BusFrame) : BusMsg :=
  { kind := f.kind, xtd := f.xtd, remote := f.remote, brs := f.brs, esi := f.esi, id := f.id, data := f.data
    sdt := f.sdt, vcid := f.vcid, sec := f.sec, af := f.af }

/-- The bit of `KINDS` that a frame answers to (R117). -/
def BusMsg.kindBit (m : BusMsg) : Nat := if m.kind = 0 then (if m.remote then 1 else 0) else m.kind + 1

/-- A filter entry matches a frame (R118). -/
def Filter.hits (e : Filter) (m : BusMsg) : Bool :=
  e.typ != 0 && bit e.kinds m.kindBit && e.xtd == m.xtd &&
    (if e.typ = 1 then decide (e.id1 ≤ m.id) && decide (m.id ≤ e.id2)
     else if e.typ = 2 then m.id == e.id1 || m.id == e.id2
     else m.id &&& e.id2 == e.id1 &&& e.id2)

/-- Entries from `k` on: the first that matches, with the entries found bad before it (R120). -/
def filterScan (bad : Nat → Bool) (m : BusMsg) (k : Nat) : List Filter → List Nat × Option (Nat × Filter)
  | [] => ([], none)
  | e :: r =>
    if bad k then
      let (l, x) := filterScan bad m (k + 1) r
      (k :: l, x)
    else if e.hits m then ([], some (k, e))
    else filterScan bad m (k + 1) r

/-- The filter memory fault source of a controller's island (R120). -/
def filterSource (b : Nat) : Nat := 16 + 16 * (b / 16)

/-- A secured frame takes an engine as its data field starts, or waits for one (R324, R445). -/
def State.rxEngine (s : State) (b layout : Nat) (r : BusRx) : State × BusRx :=
  let p := s.map.profile (s.map.layouts.get {} layout)
  match s.engineLow p.engines with
  | none =>
    (s.modSec fun x => { x with engWait := x.engWait ++ [(0x81, p.engines, b)] }, { r with waitEngine := some s.now })
  | some e =>
    if !s.keyUsable p.handle 4 (2 ^ e) then (s, { r with secFail := 3 })
    else ((s.engineTake e 0x81).keyLoad e (handleSlot p.handle), { r with engine := some e })

/-- The entry that an identifier is looked up in, as table and index (R123): direct by identifier, or hashed with the
controller. -/
def idEntry (b : Nat) (m : BusMsg) : Nat × Nat := if m.xtd then (7, b * 2 ^ 29 + m.id) else (6, b * 2048 + m.id)

/-- A frame for the signal engine: its identifier is looked up, its layout bound, a copy set and an engine taken
(R123, R306, R308, R324). A bad entry is reported once the lookup is used or discarded (R47, R124). -/
def State.rxSignal (s : State) (b : Nat) (r : BusRx) (par : List (Nat × Nat)) : State × BusRx :=
  let e := idEntry b r.msg
  let i := (busUnit b).island
  if s.readsBad par e then
    if s.isBad e then (s, { r with missed := true }) else (s.tableFound e, { r with missed := true, badSeen := some e })
  else match s.map.identifier b r.msg.xtd r.msg.id with
    | none => (s, r)
    | some w =>
      if !s.unitUp ⟨3, 0⟩ || !s.chanOpen i 3 then (s, { r with entry := some w })
      else
        let s := s.cross i 3
        let n := bits w 0 14
        let data := if bit w 30 then
            let p := s.map.profile (s.map.layouts.get {} n)
            r.msg.data.take (r.msg.data.length - p.fvLen - p.tagLen)
          else if r.msg.remote then [] else r.msg.data
        let id := s.sw.nextId
        let s := s.modSw fun x => { x with nextId := id + 1 }
        let (s, set) := s.specStart id b n s.map.ver data
        let r := { r with entry := some w, mapVer := s.map.ver, specSet := set, fid := id }
        if bit w 30 then s.rxEngine b n r else (s, r)

/-- A frame for its destination (R121). -/
def State.rxTake (s : State) (b : Nat) (r : BusRx) (par : List (Nat × Nat)) : State :=
  let rec24 := r.msg.record b r.filter 0
  let i := (busUnit b).island
  let (s, r) :=
    if r.dest = 1 then s.rxSignal b r par
    else if r.dest = 2 && s.chanOpen i 5 then (((s.cross i 5).tqOpen r.queue (2 ^ 32 + b) rec24).1, r)
    else if r.dest = 3 && s.islandUp 2 && s.chanOpen i 2 then
      let s := s.cross i 2
      let x : Frame := { src := 32 + b, bytes := rec24, busRec := true, wire := rec24.length }
      let (s, f) := s.takeFrame x rec24 6 none par
      (s, { r with fid := f })
    else (s, r)
  s.modBus b fun x => { x with rx := some r }

/-- A received frame could not be delivered (R147). -/
def State.rxDrop (s : State) (b : Nat) (m : BusMsg) : State :=
  (s.count 3 b ctrBusRxDrop).raiseOf 35 (busUnit b) m.detail

/-- An unmapped identifier (R124). -/
def State.rxUnmapped (s : State) (b : Nat) (r : BusRx) : State :=
  let s := if r.missed then s.count 5 0 (ctrTblTableMiss + (idEntry b r.msg).1) else s
  let s := s.each r.badSeen.toList fun s e => s.tableReport e false
  let s := s.count 3 b ctrBusRxUnmapped
  if (s.bus b).unmappedSeen then s
  else (s.modBus b fun x => { x with unmappedSeen := true }).raiseOf 39 (busUnit b) r.msg.detail

/-- A valid frame goes on to its commit in the signal engine (R298, R308, R324). -/
def State.rxCommit (s : State) (b : Nat) (r : BusRx) (w : Nat) : State :=
  if !s.unitUp ⟨3, 0⟩ || r.fid = 0 then s.rxDrop b r.msg
  else if (s.mapOf r.mapVer).isNone then s
  else
    let s := if r.specSet then s else s.count 7 0 ctrSigSpecDeferred
    s.modSig fun g => { g with
      wait := g.wait ++ [{
        fid := r.fid, specSet := r.specSet, kind := r.msg.kind, src := b, atNs := s.now, valid := s.activeNs
        layout := bits w 0 14, ver := r.mapVer, data := r.msg.data, remote := r.msg.remote, ident := r.msg.id
        fmt := r.msg.format, engine := r.engine, engWaitFrom := r.waitEngine, fail := r.secFail
        secured := bit w 30 }] }

/-- A frame that is not from an Ethernet port is whole and its verdict is confirmed (R36). One that the walk rejected or
whose stream bound it exceeds is counted so and spoiled toward every sink (R200, R245). -/
def State.confirmWhole (s : State) (f : Nat) : State :=
  let s := s.frameWhole f
  let x := s.frame f
  if x.dropRx = 6 then ((s.count 4 0 ctrParseParseReject).spoilFrame f).toldFlush
  else if x.dropRx = 7 then ((s.count 5 (0x30000 + x.action.stream) ctrStreamStreamOversize).spoilFrame f).toldFlush
  else s.confirmFrame f

/-- A valid frame from a bus is confirmed at the switch core (R36, R121). -/
def State.rxForward (s : State) (b : Nat) (r : BusRx) : State :=
  if (s.sw.frames.find r.fid).isNone || (s.frame r.fid).verdict ≠ 0 then s.rxDrop b r.msg
  else
    (s.modFrame r.fid fun x => { x with bytes := r.msg.record b r.filter s.activeNs }).confirmWhole r.fid

/-- Identifiers that the device itself owns on a controller (R498). -/
def State.twinOwned (s : State) (b : Nat) (m : BusMsg) : Bool :=
  s.map.layouts.cells.any fun (c : Nat × Layout) =>
    c.2.kind == 1 && bits c.2.target 0 8 == b && c.2.id == m.id && bit c.2.target 13 == m.xtd

/-- Two messages are equal in identifier, format and every data byte (R498). -/
def BusMsg.same (a m : BusMsg) : Bool :=
  a.kind == m.kind && a.xtd == m.xtd && a.remote == m.remote && a.id == m.id && a.data == m.data

/-- The controller with the most mismatches in the period, the lowest of several (R506). -/
def Twin.worstBus (w : Twin) : Nat :=
  (List.range 32).foldl (fun b k => if w.perBus.get 0 b < w.perBus.get 0 k then k else b) 0

/-- One more mismatch of a controller; the one that passes the limit of the period raises EV114 (R499). -/
def State.mismatch (s : State) (b : Nat) (missing : Bool) : State :=
  let s := s.modTwin fun w => { w with
    extra := w.extra + (if missing then 0 else 1), missing := w.missing + (if missing then 1 else 0)
    perBus := w.perBus.modify 0 b (· + 1) }
  if s.twin.mismatchFlag || s.twin.extra + s.twin.missing ≤ s.twin.mismatch then s
  else (s.modTwin fun w => { w with mismatchFlag := true }).raise 114 0xFF noUnit s.twin.worstBus

/-- A standby compares a valid frame with what it would have sent (R498). -/
def State.shadow (s : State) (b : Nat) (m : BusMsg) : State :=
  if !s.standby || !s.twinOwned b m then s
  else
    let x := (s.bus b).tx
    let bufs := (x.held3.filter fun k => k.2.same m).map fun k => (k.2.seq, some k.1)
    let deep := (x.deep.filter fun y => y.same m).map fun y => (y.seq, none)
    match sortBy (fun (a c : Nat × Option Nat) => decide (a.1 ≤ c.1)) (bufs ++ deep) with
    | [] => (s.count 13 (0x10000 + b) ctrShadowShadowExtra).mismatch b false
    | (q, place) :: _ =>
      let s := match place, x.deep.find? fun y => y.seq == q with
        | some n, _ => s.bufDrop b n
        | none, some y => (s.deepTake b y).releaseRef y.frame
        | none, none => s
      ((s.count 13 (0x10000 + b) ctrShadowShadowMatch).modTwin fun w => { w with
        matched := w.matched + 1 }).refill b

/-- REC after a valid reception, as ISO 11898-1 has it: one less, and from above 127 some value from 119 to 127
(R127, log entry 3). -/
def State.recAfterRx (s : State) (b : Nat) : State :=
  let x := s.bus b
  if x.restricted || x.recCount = 0 then s
  else if x.recCount ≤ 127 then s.busCounters b x.tec (x.recCount - 1)
  else
    let (v, s) := s.drawBelow 9
    s.busCounters b x.tec (119 + v)

/-- The frame that a controller receives becomes valid (R105, R121). -/
def State.busRxValid (s : State) (b : Nat) (r : BusRx) : State :=
  let s := (s.modBus b fun x => { x with rx := none }).count 3 b
    (if r.msg.kind = 0 then ctrBusRxOkClassic else if r.msg.kind = 1 then ctrBusRxOkFd else ctrBusRxOkXl)
  let s := ((s.noackEnd b).recAfterRx b).shadow b r.msg
  let s := if r.filter = 0xFF then s.count 3 b ctrBusRxNoMatch
    else if r.dest = 0 then s.count 3 b ctrBusRxRejected else s
  let s := if r.dest = 0 then s else s.heard
  if r.dest = 1 then
    match r.entry with
    | some w => s.rxCommit b r w
    | none => s.rxUnmapped b r
  else if r.dest = 2 then
    if (s.tq r.queue).opened.any fun o => o.key == 2 ^ 32 + b then
      s.tqCommit r.queue (2 ^ 32 + b) (r.msg.record b r.filter s.activeNs)
    else s.rxDrop b r.msg
  else if r.dest = 3 then s.rxForward b r
  else s

/-- `BUS_FRAME_VALID` (R105). -/
def execBusFrameValid (t : Nat) (b : Fin 32) (s : State) : Host.Outcome State Fault Refusal :=
  let s := s.tick t
  .next (match (s.bus b).rx with
    | some r => if s.busLive b then s.busRxValid b r else s
    | none => s)

/-! Errors (R127, R135 to R137). -/

/-- The counter of an error kind (R127, R148). -/
def errCtr : BusErr → Nat
  | .bit => ctrBusErrBit
  | .stuff => ctrBusErrStuff
  | .crc => ctrBusErrCrc
  | .form => ctrBusErrForm
  | .ack => ctrBusErrAck

/-- The attempt in progress ends with an error: its message stays for a retry, or goes under single-shot; the
unacknowledged attempts are counted (R116, R135, R136). -/
def State.attemptFail (s : State) (b n : Nat) (kind : BusErr) (acked single : Bool) : State :=
  match ((s.bus b).tx.buf n).msg with
  | none => s
  | some m =>
    let s := if acked then s.noackEnd b else if kind = .ack then s.noackCount b m else s
    if kind = .ack && single then (s.bufDrop b n).count 3 b ctrBusTxNoackDrop else s

/-- The step of TEC or REC that ISO 11898-1 takes, for the role of the controller (R127, log entry 72). -/
def stepAmount (x : BusStep) (kind : BusErr) (asTx passive : Bool) : Nat :=
  match x with
  | .frame dominant _ => if !asTx then 1 else if kind = .ack && passive && !dominant then 0 else 8
  | .arbStuff => if asTx then 0 else 1
  | .flagBit => 8
  | .firstDominant => if asTx then 0 else 8
  | .dominantRun => 8

/-- TEC or REC rises by a number, by the role of the controller; neither changes in restricted operation (R125, R127). -/
def State.busStepUp (s : State) (b : Nat) (asTx : Bool) (add : Nat) : State :=
  let x := s.bus b
  if x.restricted then s
  else if asTx then s.busCounters b (x.tec + add) x.recCount
  else s.busCounters b x.tec (x.recCount + add)

/-- A controller detects an error in a frame (R127, R135, R137). In an XL data phase with error signalling disabled it sends
no flag and waits for integration; the step of the counters is then a free value of 0 to 8 (log entries 3 and 72). -/
def State.busFail (s : State) (b : Nat) (kind : BusErr) (asTx acked : Bool) (step : BusStep) : State :=
  let x := s.bus b
  let quiet := (match step with
    | .frame _ xlData => xlData
    | _ => false) && bit (x.cfg.getD {}).frames 4
  let s := (s.count 3 b (errCtr kind)).busRxSpoil b
  let s := if x.restricted || quiet then s.modBus b fun x => { x with errWait := true } else s
  let eng := if asTx then x.tx.engagedBuf else none
  let s := match eng with
    | some n => s.modTx b fun t => t.setBuf n { t.buf n with engaged := false }
    | none => s
  let (add, s) := if quiet then s.drawBelow 9 else (stepAmount step kind asTx x.passive, s)
  let s := s.busStepUp b asTx add
  let s := match eng with
    | some n => s.attemptFail b n kind acked x.tx.singleShot
    | none => s
  ((s.refill b).drainStep b).toldFlush

/-- What the bus shows after an error flag or an overload flag steps TEC or REC without ending an attempt (R127, R130); a
bit error in such a flag counts as an error. -/
def State.busAfterFlag (s : State) (b : Nat) (asTx : Bool) (step : BusStep) : State :=
  if (s.bus b).restricted then s
  else
    let s := if step = .flagBit then s.count 3 b ctrBusErrBit else s
    ((s.busStepUp b asTx (stepAmount step .bit asTx (s.bus b).passive)).refill b).drainStep b

/-- `BUS_ERROR` (R127). -/
def execBusError (t : Nat) (b : Fin 32) (kind : BusErr) (asTransmitter acked : Bool) (step : BusStep)
    (s : State) : Host.Outcome State Fault Refusal :=
  let s := s.tick t
  .next (if !s.busLive b || (s.bus b).errWait then s
    else match step with
      | .frame _ _ | .arbStuff =>
        if asTransmitter && (s.bus b).tx.engagedBuf.isNone then s else s.busFail b kind asTransmitter acked step
      | _ => s.busAfterFlag b asTransmitter step)

/-- A received frame reaches its evaluation instant (R103, R120, R121, R129, R622): a recessive reserved bit is a protocol
exception, or a form error where that option is off. Classical frames are received whatever `FRAMES` bit 0 says (log entry
72). -/
def State.busEvaluate (s : State) (b : Nat) (m : BusMsg) (exception : Bool) (par : List (Nat × Nat)) : State :=
  let s := (s.busRxSpoil b).toldFlush
  let x := s.bus b
  let fr := (x.cfg.getD {}).frames
  if exception || (m.kind != 0 && !bit fr m.kind) then
    if bit fr 5 then
      ((s.modBus b fun x => { x with errWait := true }).count 3 b ctrBusProtocolException).busEvent 37 b
    else s.busFail b .form false false (.frame false false)
  else
    let (bad, hit) := filterScan (fun k => par.contains (9, k)) m 0 x.filters
    let s := s.each bad fun s k => s.pulse (filterSource b) k
    match hit with
    | some (k, e) => s.rxTake b { msg := m, dest := e.dest, queue := e.queue, filter := k } par
    | none => s.rxTake b { msg := m, dest := bits x.defDest 6 2, queue := bits x.defDest 0 6 } par

/-- `BUS_FRAME_EVALUATION` (R622). A controller does not receive the frame that it sends itself (R106). -/
def execBusFrameEvaluation (t : Nat) (b : Fin 32) (frame : BusFrame) (exception : Bool)
    (parity : List (Nat × Nat)) (s : State) : Host.Outcome State Fault Refusal :=
  let s := s.tick t
  .next (if s.busLive b && !(s.bus b).errWait && !(s.bus b).stuck && (s.bus b).tx.engagedBuf.isNone then
    s.busEvaluate b (frameMsg frame) exception parity else s)

/-! Transmission (R112 to R116). -/

/-- What a controller offers at an arbitration start (R112, R132): the highest transmit priority, or the held
message alone. -/
def Bus.offer (x : Bus) : Option (Nat × BusMsg) :=
  if x.tx.heldOnly then x.tx.held3.find? fun k => some k.2.frame == x.tx.held else bestMsg x.arb x.tx.held3

/-- An arbitration start (R112, R114, R115). DESIGN CHOICE: a queued message of a kind that `FRAMES` does not enable is offered
like any other (log entry 72). -/
def State.busArbitrate (s : State) (b : Nat) (lost : Bool) : State :=
  let s := (s.bufAge b).refill b
  match (s.bus b).offer with
  | none => s.drainStep b
  | some (n, _) =>
    if lost then s.count 3 b ctrBusTxArbLost
    else s.modTx b fun t => t.setBuf n { t.buf n with engaged := true }

/-- `BUS_ARBITRATION_START` (R112). -/
def execBusArbitrationStart (t : Nat) (b : Fin 32) (lost : Bool) (s : State) : Host.Outcome State Fault Refusal :=
  let s := s.tick t
  .next (if s.busSends b && s.twin.role.holder && (s.bus b).tx.engagedBuf.isNone && !s.lightsOut then
    s.busArbitrate b lost else s)

/-- The attempt in progress ends with a valid frame (R105, R116). An FD frame switches its bit rate only where `FRAMES` bit 3
lets it (R144, log entry 72). -/
def State.busSent (s : State) (b n : Nat) (m : BusMsg) : State :=
  let x := s.bus b
  let m := { m with brs := m.brs && (m.kind != 1 || bit (x.cfg.getD {}).frames 3) }
  let s := (s.send (.bus b m)).count 3 b ctrBusTxOk
  let s := (s.noackEnd b).bufDrop b n
  let s := s.busCounters b (x.tec - 1) x.recCount
  (s.refill b).drainStep b

/-- `BUS_TX_VALID` (R116). -/
def execBusTxValid (t : Nat) (b : Fin 32) (s : State) : Host.Outcome State Fault Refusal :=
  let s := s.tick t
  let x := s.bus b
  .next (match x.tx.engagedBuf with
    | none => s
    | some n => match (x.tx.buf n).msg with
      | some m => if s.busLive b then s.busSent b n m else s
      | none => s)

/-! Recovery, integration, modes, drain (R128, R130, R138 to R140). -/

/-- `BUS_RECOVERY_OCCURRENCE` (R128): 11 recessive bits, which also end a stuck-dominant condition (R130). -/
def execBusRecoveryOccurrence (t : Nat) (b : Fin 32) (s : State) : Host.Outcome State Fault Refusal :=
  let s := s.tick t
  let x := s.bus b
  .next (if !x.enabled || !x.busOff || !x.recovering || !s.unitUp (busUnit b) then s
    else
      let s := s.modBus b fun x => { x with recovery := x.recovery + 1, stuck := false, errWait := false }
      if x.recovery + 1 < 128 then s else s.busOn b)

/-- `STUCK_DOMINANT` (R130). -/
def execStuckDominant (t : Nat) (b : Fin 32) (s : State) : Host.Outcome State Fault Refusal :=
  let s := s.tick t
  let x := s.bus b
  .next (if !x.enabled || x.stuck || !s.unitUp (busUnit b) then s
    else ((s.modBus b fun x => { x with stuck := true }).count 3 b ctrBusStuckDominant).busEvent 38 b)

/-- Integration completes (R138, R140): the recorded mode is entered; a device without the token enters
restricted operation (R486). A bus-off episode that a restart cut ends here (R23). -/
def State.busIntegrated (s : State) (b : Nat) : State :=
  let x := s.bus b
  let r := !s.twin.role.holder || x.wantMode.getD x.restricted
  let s := (s.modBus b fun x => { x with integrating := false, episode := false }).busModeSet b r
  let s := if x.episode then s.busEvent 42 b else s
  let s := if r && !s.standby then s.bufReturnAll b else s
  s.refill b

/-- `BUS_INTEGRATION_DONE` (R138): 11 recessive bits have passed; they end a stuck-dominant condition in every state (R130). -/
def execBusIntegrationDone (t : Nat) (b : Fin 32) (s : State) : Host.Outcome State Fault Refusal :=
  let s := s.tick t
  let x := s.bus b
  .next (if !x.enabled || !s.unitUp (busUnit b) then s
    else
      let s := s.modBus b fun x => { x with stuck := false, errWait := false }
      if x.integrating && !x.busOff then s.busIntegrated b else s)

/-- An engaged attempt still runs 50 µs after the device gave up its outputs: the pin goes recessive (R492). -/
def State.freezeCut (s : State) (b : Nat) : State :=
  match s.twin.frozenAt with
  | some f =>
    if f + 50000 ≤ s.now then s.modTx b BusTx.idle else s
  | none => s

/-- `BUS_MODE_EFFECT` (R140, R492). -/
def execBusModeEffect (t : Nat) (b : Fin 32) (s : State) : Host.Outcome State Fault Refusal :=
  let s := (s.tick t).freezeCut b
  let x := s.bus b
  .next (match x.wantMode with
    | none => s
    | some r =>
      if !s.busLive b || x.tx.engagedBuf.isSome then s
      else
        let s := s.busModeSet b r
        (if r && !s.standby then s.bufReturnAll b else s).refill b)

/-- `DRAIN_LIMIT_EXPIRY` (R139). An attempt that an abort waits for is cut 1 ms after it (R141). -/
def execDrainLimitExpiry (t : Nat) (b : Fin 32) (s : State) : Host.Outcome State Fault Refusal :=
  let s := s.tick t
  let x := s.bus b
  .next (match x.tx.draining with
    | none => s
    | some t0 =>
      (if x.tx.aborting && decide (t0 + 1000000 ≤ s.now) then s.modTx b BusTx.idle else s).drainStep b)

end Sys2Proof.Machine
end

