-- ==== Sys2Proof/Machine/Switch.lean ====
section
/-! DEFINITION. The switch commands of group 0x06 (R260, R270, R287 to R292). -/

namespace Sys2Proof.Machine

open Sys2Proof

/-- Checks of one owner byte of the pool layout: it names P0 to P2, and a pool with an owner has a size (R288). -/
def checkOwner (p : List Byte) (o : Nat) : List Check :=
  [needField p o 1 0 2, need (le p (2 * le p o 1) 2 != 0) (2 * le p o 1)]

/-- Checks of `sw.pool.config` (R259, R288). A condition over several fields names the earliest (R620). -/
def checkSwPoolConfig (_ : State) (p : List Byte) : Check :=
  firstFail <|
    [ needLen (p.length == 68), needField p 0 2 0 256, needField p 2 2 0 256, needField p 4 2 0 256,
      needField p 6 2 1 256, need (le p 0 2 + le p 2 2 + le p 4 2 + le p 6 2 == 256) 0 ] ++
    ((range 8 4).map fun o => needField p o 1 1 50) ++ (range 12 56).flatMap (checkOwner p)

/-- Effect of `sw.pool.config` (R260). -/
def effectSwPoolConfig (s : State) (p : List Byte) : State × Reply :=
  let s := s.each (List.range 4) fun s k => s.modPool k fun x => { x with
    size := le p (2 * k) 2, lowFree := le p (8 + k) 1 }
  let s := s.each (List.range 24) fun s k => s.modPort k fun x => { x with eg := { x.eg with pool := le p (12 + k) 1 } }
  let s := s.each (List.range 32) fun s k => s.modTx k fun x => { x with pool := le p (36 + k) 1 }
  (s.each (List.range 4) State.poolJudge, .ok p)

/-- `SW_POOL_CONFIG` (R260). -/
def execSwPoolConfig (t : Nat) (m : Fin 8) (s : State) : Host.Outcome State Fault Refusal :=
  .next (s.simple t m 0x0601 checkSwPoolConfig effectSwPoolConfig)

/-- Checks of `sw.class.config` (R289). -/
def checkSwClassConfig (_ : State) (p : List Byte) : Check :=
  firstFail (needLen (p.length == 32) :: (List.range 8).map fun c => needField p (4 * c) 4 100 10000000)

/-- Effect of `sw.class.config` (R270). -/
def effectSwClassConfig (s : State) (p : List Byte) : State × Reply :=
  (s.modSw fun w => { w with
    ageLimit := (List.range 8).foldl (fun l c => l.set c (le p (4 * c) 4)) w.ageLimit }, .ok p)

/-- `SW_CLASS_CONFIG` (R270). -/
def execSwClassConfig (t : Nat) (m : Fin 8) (s : State) : Host.Outcome State Fault Refusal :=
  .next (s.simple t m 0x0602 checkSwClassConfig effectSwClassConfig)

/-- An ingress source that `sw.port.config` names (R290). -/
def isSource (n : Nat) : Bool := decide (n < 24) || inRange n 32 79

/-- Checks of `sw.port.config` (R290). -/
def checkSwPortConfig (_ : State) (p : List Byte) : Check :=
  let eth := decide (le p 0 1 < 24)
  firstFail [needLen (p.length == 12), need (isSource (le p 0 1)) 0, needField p 1 1 0 (if eth then 3 else 0),
    needField p 2 1 0 7, needZeros p 3 1, needField p 4 2 0 (if eth then 1000 else 0), needZeros p 6 2,
    needField p 8 4 0 (if eth then 0xFFFFFF else 0)]

/-- Effect of `sw.port.config` (R281, R290). -/
def effectSwPortConfig (s : State) (p : List Byte) : State × Reply :=
  let n := le p 0 1
  if n < 24 then
    (s.modPort n fun x => { x with
      eg := { x.eg with
        ctEn := bit (le p 1 1) 0, pcpTrust := bit (le p 1 1) 1, defClass := le p 2 1, portHold := le p 4 2
        pcpMap := le p 8 4 } }, .ok p)
  else if n < 64 then (s.modTx (n - 32) fun x => { x with defClass := le p 2 1 }, .ok p)
  else (s.modSw fun w => { w with ringClass := w.ringClass.set (n - 64) (le p 2 1) }, .ok p)

/-- `SW_PORT_CONFIG` (R290). -/
def execSwPortConfig (t : Nat) (m : Fin 8) (s : State) : Host.Outcome State Fault Refusal :=
  .next (s.simple t m 0x0603 checkSwPortConfig effectSwPortConfig)

/-- Highest line rate of a port's mode in kb/s; a port never configured has that of its first mode (R149). -/
def State.topKbps (s : State) (p : Nat) : Nat :=
  let m := (s.port p).cfg.mode
  if m = 1 || (m = 0 && p < 4) then 10000000
  else if m = 2 then 2500000
  else if m = 3 || m = 4 || (m = 0 && p < 16) then 1000000
  else 10000

/-- The idle slopes together exceed 75 % of a rate (R284). -/
def slopesOver (a b kbps : Nat) : Bool := decide (75 * kbps < 100 * (a + b))

/-- Checks of `sw.sched.config` (R282, R284, R285, R291). -/
def checkSwSchedConfig (s : State) (p : List Byte) : Check :=
  firstFail <|
    [ needLen (p.length == 24), needField p 0 1 0 23, needField p 1 1 0 4, needZeros p 2 2,
      needField p 4 4 0 10000000, needField p 8 4 0 10000000,
      need (!slopesOver (le p 4 4) (le p 8 4) (s.topKbps (le p 0 1))) 4 ] ++
    ((List.range 5).map fun c =>
      if c ≤ le p 1 1 then needField p (12 + 2 * c) 2 64 16384 else needField p (12 + 2 * c) 2 0 0) ++
    [needZeros p 22 2]

/-- Effect of `sw.sched.config`: credits and deficits carry over (R291). -/
def effectSwSchedConfig (s : State) (p : List Byte) : State × Reply :=
  let n := le p 0 1
  let top := le p 1 1
  ((s.creditRun n s.now).modPort n fun x => { x with
    eg := { x.eg with
      drrTop := top, slope5 := le p 4 4, slope6 := le p 8 4
      quantum := (List.range (top + 1)).foldl (fun l c => l.set c (le p (12 + 2 * c) 2)) x.eg.quantum } }, .ok p)

/-- `SW_SCHED_CONFIG` (R291). -/
def execSwSchedConfig (t : Nat) (m : Fin 8) (s : State) : Host.Outcome State Fault Refusal :=
  .next (s.simple t m 0x0604 checkSwSchedConfig effectSwSchedConfig)

/-- Checks of `sw.status` (R287). -/
def checkSwStatus (_ : State) (p : List Byte) : Check :=
  firstFail [needLen (p.length == 1), need (decide (le p 0 1 < 24) || le p 0 1 == 0xFF) 0]

/-- Answer of `sw.status` (R292). -/
def answerSwStatus (s : State) (p : List Byte) : Reply :=
  let n := le p 0 1
  if n = 0xFF then
    .ok ((List.range 4).flatMap fun k => leBytes 4 (s.pool k).used ++ leBytes 4 (s.pool k).peak)
  else
    let x := s.port n
    let queue (c : Nat) : List QRef := x.eg.queues.get [] c
    let left := match x.eg.holdUntil with
      | some u => (u - s.now + 99999) / 100000
      | none => 0
    .ok <| leBytes 1 n ++
      leBytes 1 (flag x.eg.holdUntil.isSome + flag x.eg.flushed 1 +
        flag (slopesOver x.eg.slope5 x.eg.slope6 x.txKbps) 2 + flag x.pz.pausedUntil.isSome 3) ++
      leBytes 2 left ++ leBytes 4 0 ++ ((List.range 8).flatMap fun c => leBytes 2 (queue c).length) ++
      (List.range 8).flatMap fun c => leBytes 4 ((queue c).map fun (r : QRef) => (s.frame r.frame).cells).sum

/-- `SW_STATUS` (R292). -/
def execSwStatus (t : Nat) (m : Fin 8) (s : State) : Host.Outcome State Fault Refusal :=
  .next (s.query t m 0x0605 checkSwStatus answerSwStatus)

end Sys2Proof.Machine
end

