-- ==== Sys2Proof/Machine/SigMap.lean ====
section
/-! DEFINITION. Ikisil images and their check, map commits, and the commands and timers of the signal engine
(R298, R309, R310, R317, R324, R328 to R338). -/

namespace Sys2Proof.Machine

open Sys2Proof

/-! Reading an image (R300, R301, R313, R316, R321, R329, R330). -/

/-- A descriptor with the number of entries it takes and the byte offsets of its raw and physical ranges
(R300, R301). -/
def descAt (e : List Byte) : Desc × Nat × Nat × Nat :=
  let v := le e 0 16
  let len := bits v 91 6 + 1
  let sg := bit v 89
  let raw := 16 + flag (bit v 88) 4
  let phys := raw + flag (bit v 87) 4
  let num (o : Nat) : Int := toSigned 64 (le e o 8)
  let rawNum (o : Nat) : Int := if sg then num o else (le e o 8 : Nat)
  ({ slot := bits v 111 17, bitOff := bits v 97 14, len := len, msbFirst := bit v 90, signed := sg
     substMode := bits v 84 2, rangeAct := bits v 82 2, shift := bits v 76 6, mult := toSigned 36 (bits v 40 36)
     fresh := bits v 24 16, pack := bit v 23, watch := bit v 22
     offset := if bit v 88 then num 16 else 0, subst := if bit v 88 then num 24 else 0
     extRaw := bit v 87
     rawLo := if bit v 87 then rawNum raw else if sg then -(2 ^ (len - 1) : Int) else 0
     rawHi := if bit v 87 then rawNum (raw + 8) else if sg then 2 ^ (len - 1) - 1 else 2 ^ len - 1
     physLo := if bit v 86 then num phys else minInt64
     physHi := if bit v 86 then num (phys + 8) else maxInt64 },
   1 + flag (bit v 88) + flag (bit v 87) + flag (bit v 86), raw, phys)

/-- The descriptors of a run of entries, each with the byte offset of its base entry, at most `n`. -/
def descRun : Nat → List Byte → Nat → List (Nat × Desc)
  | 0, _, _ => []
  | n + 1, e, o =>
    if e.isEmpty then []
    else
      let (d, k, _, _) := descAt e
      (o, d) :: descRun n (e.drop (16 * k)) (o + 16 * k)

/-- Entries that the descriptors of a run take. -/
def descSum : Nat → List Byte → Nat
  | 0, _ => 0
  | n + 1, e => if e.isEmpty then 0 else (descAt e).2.1 + descSum n (e.drop (16 * (descAt e).2.1))

/-- The directory of an image: type, count and offset of each section (R330). -/
def imgDir (img : List Byte) : List (Nat × Nat × Nat) :=
  (List.range (min 9 (le img 3 1))).map fun k =>
    (le img (32 + 16 * k) 1, le img (36 + 16 * k) 4, le img (40 + 16 * k) 4)

/-- Record sizes of the section types (R330). -/
def secSize (typ : Nat) : Nat := [0, 16, 32, 16, 8, 12, 12, 128, 16, 16].getD typ 0

/-- Count and offset of a section; an absent one has count 0. -/
def imgSec (img : List Byte) (typ : Nat) : Nat × Nat :=
  match (imgDir img).find? fun d => d.1 == typ with
  | some d => d.2
  | none => (0, 0)

/-- The records of a section, each with its image offset. -/
def imgRecs (img : List Byte) (typ : Nat) : List (Nat × List Byte) :=
  let (n, o) := imgSec img typ
  (List.range n).map fun k => (o + secSize typ * k, field img (o + secSize typ * k) (secSize typ))

/-- The entries of a layout record as bytes, and their image offset. -/
def runBytes (img r : List Byte) : Nat × List Byte :=
  let o := (imgSec img 1).2 + 16 * le r 0 4
  (o, field img o (16 * le r 4 2))

/-- A layout record (R313). -/
def layoutOf (img r : List Byte) : Layout :=
  { first := bits (le r 0 4) 0 17, count := le r 4 2, kind := le r 6 1, replace := bit (le r 7 1) 0
    secured := bit (le r 7 1) 1, cls := bits (le r 7 1) 2 3, fill := le r 8 1, profile := le r 9 1, mlen := le r 10 2
    fvSlot := bits (le r 12 4) 0 17, target := le r 16 4, id := le r 20 4, af := le r 24 4, sdt := le r 28 1
    vcid := le r 29 1, divLayout := le r 30 2
    descs := (descRun (le r 4 2) (runBytes img r).2 0).map fun d => d.2 }

/-- A trigger record (R316). -/
def trigRec (r : List Byte) : Trig :=
  let k := le r 2 1
  { layout := le r 0 2, change := bit k 0, periodic := bit k 1, request := bit k 2, onStatus := bit k 3
    timeTrig := le r 3 1, divider := le r 4 2, phase := le r 6 2, minGap := le r 8 2 }

/-- A table of records by their position in a section. -/
def recTab {α : Type} (img : List Byte) (typ : Nat) (f : List Byte → α) : Tab α :=
  { cells := ((imgRecs img typ).zipIdx).map fun k => (k.2, f k.1.2) }

/-- The map that an image describes (R330). -/
def imgMap (img : List Byte) : SigMap :=
  let layouts := recTab img 2 (layoutOf img)
  let slots := (imgRecs img 9).foldl (fun (t : Tab SlotDef) r => t.set (bits (le r.2 0 4) 0 17)
    { hostWr := bit (le r.2 0 4) 31, reset := bit (le r.2 0 4) 30, hostFresh := le r.2 4 2
      init := toSigned 64 (le r.2 8 8) }) {}
  { mapId := le img 12 4, secWaitUs := le img 16 2, entries := (imgSec img 1).1, layouts := layouts, image := img
    triggers := recTab img 3 trigRec
    direct := (imgRecs img 4).foldl (fun t r => t.set (le r.2 0 1 * 2048 + le r.2 2 2) (le r.2 4 4)) {}
    hashed := (imgRecs img 5).foldl (fun t r => t.set (le r.2 0 1 * 2 ^ 29 + le r.2 4 4) (le r.2 8 4)) {}
    binds := (imgRecs img 6).foldl (fun t r =>
      if bit (le r.2 4 2) 15 then t.set (le r.2 0 2) (bits (le r.2 4 2) 0 14, le r.2 6 2) else t) {}
    templates := recTab img 7 fun r => { flags := le r 1 1, header := field r 8 (le r 0 1) }
    profiles := recTab img 8 fun r =>
      { handle := le r 0 2, tagLen := le r 2 1, fvLen := le r 3 1, window := le r 4 4, engines := le r 8 1 }
    slots := slots
    used := ((layouts.cells.flatMap fun (c : Nat × Layout) => c.2.descs.map fun d => d.slot) ++
      slots.cells.map fun (c : Nat × SlotDef) => c.1).dedup }

/-! The check of an image (R305, R313, R330, R331). -/

/-- A field check of an image: `DETAIL` is the image offset with bit 30 set (R331). -/
def imgNeed (ok : Bool) (off : Nat) : Check := if ok then none else some (.invalid (2 ^ 30 + off))

/-- Image bytes that must be 0. -/
def imgZeros (img : List Byte) (off n : Nat) : Check :=
  (firstNonzero img off n).map fun o => .invalid (2 ^ 30 + o)

/-- The checks of one descriptor at an image offset (R300, R301, R305, R331). -/
def descCheck (e : List Byte) (o : Nat) : Check :=
  let (d, _, raw, phys) := descAt e
  let least : Int := if d.signed then -(2 ^ (d.len - 1) : Int) else 0
  let most : Int := if d.signed then 2 ^ (d.len - 1) - 1 else 2 ^ d.len - 1
  firstFail [imgNeed (bits (le e 0 16) 0 22 == 0) o, imgNeed (d.rangeAct != 3 && decide (d.substMode < 2)) (o + 10),
    imgNeed (d.positions.all fun p => decide (p ≤ 16383)) (o + 12),
    imgNeed (decide (least ≤ d.rawLo ∧ d.rawLo ≤ most)) (o + raw),
    imgNeed (decide (least ≤ d.rawHi ∧ d.rawHi ≤ most)) (o + raw + 8),
    imgNeed (decide (d.rawLo ≤ d.rawHi)) (o + raw), imgNeed (decide (d.physLo ≤ d.physHi)) (o + phys)]

/-- The descriptors of a run of entries in order, at most `n`. -/
def descChecks : Nat → List Byte → Nat → Check
  | 0, _, _ => none
  | n + 1, e, o =>
    if e.isEmpty then none
    else match descCheck e o with
      | some x => some x
      | none =>
        let k := (descAt e).2.1
        if e.length < 16 * k then some (.invalid (2 ^ 30 + o))
        else descChecks n (e.drop (16 * k)) (o + 16 * k)

/-- Data bytes that a transmit layout's format allows (R313). -/
def mlenFits (l : Layout) : Bool :=
  if l.kind = 1 then
    let k := bits l.target 14 2
    if k = 0 then decide (l.mlen ≤ 8)
    else if k = 1 then decide (l.mlen ≤ 64) && (!l.secured || fdLengths.contains l.mlen)
    else inRange l.mlen 1 2048
  else if l.kind = 2 then decide (l.mlen ≤ 1500)
  else if l.kind = 3 then decide (l.mlen ≤ 4096)
  else l.mlen == 0

/-- `TARGET` of a layout is in order for its kind (R313): the byte at fault. -/
def targetBad (l : Layout) : Option Nat :=
  let t := l.target
  if l.kind = 0 then (if t = 0 then none else some 16)
  else if l.kind = 1 then
    if 31 < bits t 0 8 then some 16
    else if bits t 14 2 = 3 || bit t 12 || bits t 8 3 ≠ 0 then some 17
    else if bits t 16 16 ≠ 0 then some 18 else none
  else if l.kind = 2 then (if t < 2 ^ 24 then none else some 19)
  else if 63 < bits t 0 8 then some 16
  else if t = bits t 0 8 then none else some 17

/-- Words of the identifier sections that name a layout. -/
def namedBy (g : SigMap) (n : Nat) : List Nat :=
  ((g.direct.cells ++ g.hashed.cells).map fun (c : Nat × Nat) => c.2).filter fun w => bit w 31 && bits w 0 14 == n

/-- The checks of a layout record, number `n` at image offset `o` (R313, R331). -/
def layoutCheck (img : List Byte) (g : SigMap) (n : Nat) (r : List Byte) (o : Nat) : Check :=
  let l := g.layouts.get {} n
  let (ro, run) := runBytes img r
  let ds := descRun l.count run ro
  let p := g.profile l
  let tail := if l.secured then p.fvLen + p.tagLen else 0
  let room := l.mlen - tail
  let xl := l.kind == 1 && bits l.target 14 2 == 2
  firstFail [
    imgNeed (decide (le r 0 4 < 2 ^ 17) && decide (le r 0 4 + l.count ≤ g.entries)) o,
    imgNeed (inRange l.count 1 4096 && descSum l.count run == l.count) (o + 4),
    imgNeed (decide (l.kind ≤ 3)) (o + 6),
    descChecks l.count run ro,
    firstFail (ds.map fun d => imgNeed (d.2.pack == (l.kind != 0)) (min (o + 6) d.1)),
    imgNeed (decide (le r 7 1 < 32) && (!l.secured || l.kind == 1 || (l.kind == 0 && !(namedBy g n).isEmpty)) &&
      (l.kind != 0 || (!l.replace && l.cls == 0))) (o + 7),
    imgNeed (l.kind != 0 || l.fill == 0) (o + 8),
    imgNeed (if l.secured then decide (l.profile ≤ 63) && (g.profiles.find l.profile).isSome else l.profile == 0) (o + 9),
    imgNeed (mlenFits l && (l.kind != 1 || decide (tail ≤ l.mlen))) (o + 10),
    firstFail (if l.kind = 0 then []
      else ds.map fun d => imgNeed (d.2.positions.all fun b => decide (b < 8 * room)) (min (o + 10) (d.1 + 12))),
    imgNeed (if l.secured then decide (le r 12 4 < 2 ^ 17) else le r 12 4 == 0) (o + 12),
    match targetBad l with
    | some k => imgNeed false (o + k)
    | none => none,
    imgNeed (if l.kind = 1 then decide (l.id < if bit l.target 13 then 2 ^ 29 else 2 ^ 11)
      else if l.kind = 2 then decide (l.id < 1024) && (g.templates.find l.id).isSome else l.id == 0) (o + 20),
    imgNeed (xl || l.af == 0) (o + 24), imgNeed (xl || l.sdt == 0) (o + 28), imgNeed (xl || l.vcid == 0) (o + 29),
    imgNeed (l.divLayout == 0xFFFF || (l.kind != 1 && l.divLayout == 0) ||
      (l.kind == 1 && (match g.layouts.find l.divLayout with
        | some d => d.kind == 1
        | none => false))) (o + 30)]

/-- The checks of a trigger record (R316). -/
def trigCheck (g : SigMap) (r : List Byte) (o : Nat) : Check :=
  let x := trigRec r
  firstFail [imgNeed (g.layouts.find x.layout).isSome o, imgNeed (decide (le r 2 1 < 16)) (o + 2),
    imgNeed (!x.periodic || decide (x.timeTrig < 32)) (o + 3), imgNeed (decide (1 ≤ x.divider)) (o + 4),
    imgNeed (decide (x.phase < x.divider)) (o + 6), imgZeros r 10 6 |>.map fun _ => .invalid (2 ^ 30 + o + 10)]

/-- The check of an R123 word at an image offset: its layout is a receive layout of the same `SECURED`. -/
def wordCheck (g : SigMap) (w o : Nat) : Check :=
  imgNeed (bits w 14 16 == 0 && (!bit w 31 || (match g.layouts.find (bits w 0 14) with
    | some l => l.kind == 0 && l.secured == bit w 30
    | none => false))) o

/-- The checks of the records of one section, by type (R330, R331). -/
def recordCheck (img : List Byte) (g : SigMap) (typ n : Nat) (r : List Byte) (o : Nat) : Check :=
  match typ with
  | 2 => layoutCheck img g n r o
  | 3 => trigCheck g r o
  | 4 => firstFail [imgNeed (decide (le r 0 1 ≤ 31)) o, imgNeed (le r 1 1 == 0) (o + 1),
      imgNeed (decide (le r 2 2 ≤ 0x7FF)) (o + 2), wordCheck g (le r 4 4) (o + 4)]
  | 5 => firstFail [imgNeed (decide (le r 0 1 ≤ 31)) o, imgNeed (le r 1 3 == 0) (o + 1),
      imgNeed (decide (le r 4 4 < 2 ^ 29)) (o + 4), wordCheck g (le r 8 4) (o + 8)]
  | 6 => firstFail [imgNeed (decide (le r 0 2 ≤ 4095)) o, imgNeed (le r 2 2 == 0) (o + 2),
      imgNeed (!bit (le r 4 2) 14 && (!bit (le r 4 2) 15 || (match g.layouts.find (bits (le r 4 2) 0 14) with
        | some l => l.kind == 0 && !l.secured
        | none => false))) (o + 4),
      imgNeed (le r 8 4 == 0) (o + 8)]
  | 7 => firstFail [imgNeed (inRange (le r 0 1) 14 120) o, imgNeed (decide (le r 1 1 < 4)) (o + 1),
      imgNeed (le r 2 6 == 0) (o + 2)]
  | 8 => firstFail [imgNeed (inRange (le r 2 1) 4 16) (o + 2), imgNeed (inRange (le r 3 1) 1 8) (o + 3),
      imgNeed (inRange (le r 4 4) 1 (min (2 ^ (8 * le r 3 1) - 1) (2 ^ 32 - 1))) (o + 4), imgNeed (le r 9 7 == 0) (o + 9)]
  | 9 => firstFail [imgNeed (bits (le r 0 4) 17 13 == 0) o, imgNeed (le r 6 2 == 0) (o + 6)]
  | _ => none

/-- The part of a record that may not repeat in its section (R331). -/
def recordKey (typ : Nat) (r : List Byte) : Option (List Byte) :=
  if typ = 4 then some (field r 0 4) else if typ = 5 then some (field r 0 8) else if typ = 6 then some (field r 0 2)
  else none

/-- The records of a section in order; a repeated key is the fault of the later record (R331). -/
def recordChecks (img : List Byte) (g : SigMap) (typ : Nat) (seen : List (List Byte)) (n : Nat) :
    List (Nat × List Byte) → Check
  | [] => none
  | (o, r) :: rest =>
    match recordCheck img g typ n r o with
    | some x => some x
    | none => match recordKey typ r with
      | none => recordChecks img g typ seen (n + 1) rest
      | some k => if seen.contains k then imgNeed false o else recordChecks img g typ (k :: seen) (n + 1) rest

/-- One directory entry: its type is new, its length fits its count, it lies within the image and apart from the
earlier sections (R330, R331). -/
def dirCheck (img : List Byte) (k : Nat) : Check :=
  let o := 32 + 16 * k
  if le img 3 1 ≤ k then imgZeros img o 16
  else
    let typ := le img o 1
    let off := le img (o + 8) 4
    let len := le img (o + 12) 4
    let before := List.range k
    firstFail [imgNeed (inRange typ 1 9 && !(before.any fun j => le img (32 + 16 * j) 1 == typ)) o, imgZeros img (o + 1) 3,
      imgNeed (len == le img (o + 4) 4 * secSize typ) (o + 4),
      imgNeed (decide (off + len ≤ le img 4 4)) (o + 8),
      firstFail (before.map fun j =>
        let a := le img (40 + 16 * j) 4
        imgNeed (decide (a + le img (44 + 16 * j) 4 ≤ off) || decide (off + len ≤ a)) (40 + 16 * j))]

/-- The capacities of R31 for an image. -/
def imgRoom (g : SigMap) : Bool :=
  decide (g.entries ≤ 131072) && decide (g.layouts.cells.length ≤ 16384) && decide (g.triggers.cells.length ≤ 4096) &&
    decide (g.hashed.cells.length ≤ 16384) && decide (g.templates.cells.length ≤ 1024) &&
    decide (g.profiles.cells.length ≤ 64) && decide (g.slots.cells.length ≤ 131072)

/-- The check of a complete image (R331): header, directory, sections in ascending offset, capacities. -/
def imgCheck (img : List Byte) : Check :=
  let crc := crc32 (patch img 8 [0, 0, 0, 0])
  let head := firstFail <|
    [ imgNeed (le img 0 2 == 0x4B53) 0, imgNeed (le img 2 1 == 1) 2, imgNeed (inRange (le img 3 1) 1 9) 3,
      imgNeed (le img 4 4 == img.length && decide (176 ≤ img.length)) 4, imgNeed (le img 8 4 == crc) 8,
      imgNeed (inRange (le img 16 2) 10 1000) 16, imgZeros img 18 14 ] ++ (List.range 9).map (dirCheck img)
  match head with
  | some x => some x
  | none =>
    let g := imgMap img
    let secs := sortBy (fun (a b : Nat × Nat × Nat) => decide (a.2.2 ≤ b.2.2)) (imgDir img)
    firstFail <| (secs.map fun d =>
      if d.1 = 1 then descChecks d.2.1 (field img d.2.2 (16 * d.2.1)) d.2.2
      else recordChecks img g d.1 [] 0 (imgRecs img d.1)) ++ [needRoom (imgRoom g)]

/-! Loading and committing a map (R331 to R335). -/

/-- Checks of `sig.map.load` (R220, R331, R337). -/
def checkSigMapLoad (s : State) (p : List Byte) : Check :=
  let off := le p 0 4
  let img := (if off = 0 then [] else s.sig.image) ++ p.drop 8
  firstFail [needLen (decide (8 ≤ p.length) && p.length == 8 + le p 4 2),
    need (off == 0 || (off == s.sig.image.length && s.sig.iState == 1)) 0, needField p 4 2 1 4088, needField p 6 1 0 1,
    needZeros p 7 1, if bit (le p 6 1) 0 then imgCheck img else none,
    needRoom (s.boot.lpddr || decide (img.length ≤ 524288))]

/-- Effect of `sig.map.load` (R331). -/
def effectSigMapLoad (s : State) (p : List Byte) : State × Reply :=
  let img := (if le p 0 4 = 0 then [] else s.sig.image) ++ p.drop 8
  let last := bit (le p 6 1) 0
  (s.modSig fun g => { g with
    image := img, iState := if last then 2 else 1, staged := if last then some (imgMap img) else none }, .ok)

/-- `SIG_MAP_LOAD` (R331). -/
def execSigMapLoad (t : Nat) (m : Fin 8) (s : State) : Host.Outcome State Fault Refusal :=
  .next (s.simple t m 0x0701 checkSigMapLoad effectSigMapLoad)

/-- Entries of a map's runs that no run of another map equals (R333). -/
def unshared (g other : SigMap) : Nat :=
  let runs := (g.layouts.cells.map fun (c : Nat × Layout) => (c.2.first, c.2.count, c.2.descs)).dedup
  let theirs := other.layouts.cells.map fun (c : Nat × Layout) => (c.2.count, c.2.descs)
  ((runs.filter fun r => !theirs.contains r.2).map fun r => r.2.1).sum

/-- Descriptor entries in use: those of the current version, and those of an older live one that are not shared
(R333). -/
def Sig.entriesUsed (g : Sig) : Nat :=
  g.cur.entries + (match g.old with
    | some o => unshared o g.cur
    | none => 0)

/-- The map that a commit puts in force: the staged image, or the current map, with the staged identifier
entries (R246, R334). -/
def Sig.pendingMap (g : Sig) : SigMap :=
  let base := g.staged.getD g.cur
  g.stagedDirect.foldl (fun m e =>
    if e.1 = 6 then { m with direct := m.direct.set (e.2.1 * 2048 + e.2.2.1) e.2.2.2 }
    else if bit e.2.2.2 31 then { m with hashed := m.hashed.set (e.2.1 * 2 ^ 29 + e.2.2.1) e.2.2.2 }
    else { m with hashed := m.hashed.erase (e.2.1 * 2 ^ 29 + e.2.2.1) })
    { base with ver := (g.cur.ver + 1) % 65536, overlay := base.overlay ++ g.stagedDirect }

/-- A commit of a map as the twin partner takes it (R496): the version, whether an image comes with it, identifier
entries, the image. The layout is internal to the pair (R488, log entry 13). -/
def mapMessage (ver : Nat) (image : Option (List Byte)) (direct : List (Nat × Nat × Nat × Nat)) : List Byte :=
  leBytes 2 ver ++ leBytes 1 (flag image.isSome) ++ leBytes 2 direct.length ++
    (direct.flatMap fun e => leBytes 1 e.1 ++ leBytes 1 e.2.1 ++ leBytes 4 e.2.2.1 ++ leBytes 4 e.2.2.2) ++ image.getD []

/-- Something is staged for `sig.map.commit`. -/
def Sig.hasStaged (g : Sig) : Bool := g.staged.isSome || !g.stagedDirect.isEmpty

/-- Frames stamped with a map version that await their verdict or their commit (R334). -/
def State.mapWaiting (s : State) (ver : Nat) : Nat :=
  (s.buses.cells.filter fun (c : Nat × Bus) => match c.2.rx with
    | some r => r.dest == 1 && r.fid != 0 && r.mapVer == ver
    | none => false).length +
  (s.sw.frames.cells.filter fun (c : Nat × Frame) =>
    c.2.verdict == 0 && c.2.mapVer == ver && (s.bindingOf c.2).isSome).length +
  (s.sig.wait.filter fun w => w.ver == ver).length

/-- A slot used only by a version that stops being live is reset (R335). -/
def State.slotsDrop (s : State) (old : SigMap) : State :=
  s.each (old.used.filter fun k => !s.map.used.contains k) fun s k => s.slotReset k 0

/-- The older version stops being live; frames that still wait are discarded from signal processing (R334). -/
def State.mapExpire (s : State) (old : SigMap) : State :=
  let n := s.mapWaiting old.ver
  let gone := s.sig.wait.filter fun w => w.ver == old.ver
  let s := s.each gone fun s w => (s.specEnd w.fid w.src w.specSet).secFree w
  let s := s.each (List.range 32) fun s b => match (s.bus b).rx with
    | some r =>
      if r.dest = 1 && r.mapVer == old.ver then
        let s := match r.engine with
          | some e => s.engineRelease e
          | none => s
        (s.specEnd r.fid b r.specSet).modBus b fun x => { x with
          rx := some { r with specSet := false, engine := none, waitEngine := none } }
      else s
    | none => s
  let s := s.each s.sw.frames.cells fun s (c : Nat × Frame) =>
    if c.2.mapVer == old.ver && c.2.specSet then
      (s.specEnd c.1 c.2.sigSrc true).modFrame c.1 fun x => { x with specSet := false }
    else s
  let s := (s.modSig fun g => { g with old := none, wait := g.wait.filter fun w => w.ver != old.ver }).slotsDrop old
  if n = 0 then s
  else (s.count 7 0 ctrSigMapVerExpired n).raiseOf 75 ⟨3, 0⟩ n

/-- The older version may stop being live: nothing waits for it, or 20 ms have passed (R334). -/
def State.mapMayExpire (s : State) (old : SigMap) : Bool :=
  s.mapWaiting old.ver == 0 || decide (s.sig.commitAt + 20000000 ≤ s.now)

/-- `MAP_VERSION_EXPIRY` (R334). -/
def execMapVersionExpiry (t : Nat) (s : State) : Host.Outcome State Fault Refusal :=
  let s := s.tick t
  .next (match s.sig.old with
    | some o => if s.mapMayExpire o then s.mapExpire o else s
    | none => s)

/-- The commit point of a map (R334, R335). -/
def State.mapSwitch (s : State) (new : SigMap) : State :=
  let cur := s.map
  let fresh := new.slots.cells.filter fun (c : Nat × SlotDef) => c.2.reset || (cur.slots.find c.1).isNone
  let s := s.modSig fun g => { g with
    cur := new, old := some cur, commitAt := s.now
    runs := g.runs.filter fun k _ => (new.triggers.find k).isSome && (cur.triggers.find k).isSome }
  s.each fresh fun s (c : Nat × SlotDef) => s.slotReset c.1 c.2.init

/-- The commit layout (R338). -/
def mapCommitLayout (new old mapId used : Nat) : List Byte :=
  leBytes 2 new ++ leBytes 2 old ++ leBytes 4 mapId ++ leBytes 4 used

/-- Checks of `sig.map.commit` (R31, R333, R334). -/
def checkSigMapCommit (s : State) (m : Nat) (p : List Byte) : Check :=
  let g := s.sig.pendingMap
  firstFail [needLeave (!s.standby && (!s.isPeer || s.cw.peerIn.contains m)), needLen p.isEmpty,
    needRoom (decide (s.map.entries + unshared g s.map ≤ 131072) &&
      hashFits (g.hashed.cells.map fun (c : Nat × Nat) => (c.1 / 2 ^ 29, c.1 % 2 ^ 29)))]

/-- Effect of `sig.map.commit` once the version before the current one is no longer live (R334, R338). -/
def effectSigMapCommit (s : State) (prepare : Bool) : State × Reply :=
  let g := s.sig
  let new := g.pendingMap
  if !g.hasStaged then
    (s, { detail := 1, payload := mapCommitLayout g.cur.ver (match g.old with
      | some o => o.ver
      | none => g.cur.ver) g.cur.mapId g.entriesUsed })
  else
    let out := mapCommitLayout new.ver g.cur.ver new.mapId (g.cur.entries + unshared new g.cur)
    if prepare then (s, .ok out)
    else
      let s := (s.mapSwitch new).modSig fun x => { x with staged := none, stagedDirect := [], image := [], iState := 0 }
      ((s.spanOut 2 (mapMessage new.ver (if g.staged.isSome then some new.image else none) g.stagedDirect)).raiseOf 68 ⟨3, 0⟩ new.ver, .ok out)

/-- `SIG_MAP_COMMIT` (R334): it waits while the version before the current one is live. `fate`
names the units that do not switch at the commit point (R93, R97) and what the device that the commit spans answers
(R92). -/
def execSigMapCommit (t : Nat) (m : Fin 8) (fate : CommitFate) (s : State) : Host.Outcome State Fault Refusal :=
  .next (s.command t m 0x0702 fun s r =>
    match checkSigMapCommit s m r.payload with
    | some x => s.complete m x
    | none =>
      let prepare := bit r.flags 1
      let far := s.partnerOf 2 fate.partner
      if !s.sig.hasStaged then s.complete m (effectSigMapCommit s prepare).2
      else
        let s := match s.sig.old with
          | some o => if s.mapMayExpire o then s.mapExpire o else s
          | none => s
        if s.sig.old.isSome then s.prepares m
        else match far with
          | .silent => s.prepares m
          | .refused st detail => s.complete m { status := st, detail := detail }
          | _ =>
            let units := s.commitUnits 2 [⟨2, 6⟩, ⟨3, 0⟩] far
            let (s, x) := effectSigMapCommit s prepare
            if prepare then s.complete m x else s.commitFinish m units (fate.stuck.filter [134, 192].contains) x)

/-! Waiting frames (R298, R309). -/

/-- The waiting frame that commits next: in verdict order, at one instant in ascending `SRC` (R298). -/
def State.nextCommit (s : State) : Option CommitWait :=
  match s.sig.wait with
  | [] => none
  | w :: r => some (r.foldl (fun a b => if b.atNs = a.atNs && decide (b.src < a.src) then b else a) w)

/-- One frame whose commit has not taken place 1 ms after its verdict leaves signal processing (R309). -/
def State.overrunOne (s : State) : State :=
  match s.sig.wait.find? fun w => decide (w.atNs + 1000000 ≤ s.now) with
  | none => s
  | some w =>
    let s := s.modSig fun g => { g with wait := g.wait.erase w }
    let s := s.modSec fun x => { x with
      engWait := if w.engWaitFrom.isSome then x.engWait.filter fun y => !(y.1 == 0x81 && y.2.2 == w.src)
        else x.engWait }
    (((s.specEnd w.fid w.src w.specSet).secFree w).count 7 0 ctrSigUnpackOverrun).raiseOf 74 ⟨3, 0⟩ w.src

/-- Every frame that is overdue leaves signal processing (R309). -/
def State.overrunAll (s : State) : State := s.each s.sig.wait fun s _ => s.overrunOne

/-- The frame that is next commits; one that waits for an engine has no tag verdict yet and holds its place (R298,
R324). -/
def State.commitNext (s : State) : State :=
  match s.nextCommit with
  | none => s
  | some w =>
    if w.engWaitFrom.isSome then s
    else (s.modSig fun g => { g with wait := g.wait.erase w }).commitWait w

/-- Every frame whose verdict has come commits: a commit that follows must not overtake it (R298). -/
def State.commitAll (s : State) : State := s.overrunAll.each s.overrunAll.sig.wait fun s _ => s.commitNext

/-! Reading and writing slots, triggers, status (R328, R329, R337, R338). -/

/-- Checks of `sig.read` (R337). -/
def checkSigRead (_ : State) (p : List Byte) : Check :=
  firstFail [needLen (p.length == 6), needField p 0 4 0 131071, needField p 4 2 1 255,
    need (decide (le p 0 4 + le p 4 2 ≤ 131072)) 0]

/-- Answer of `sig.read` (R295, R328). -/
def answerSigRead (s : State) (p : List Byte) : Reply :=
  .ok (field p 0 6 ++ leBytes 2 0 ++ leBytes 8 s.activeNs ++
    (range (le p 0 4) (le p 4 2)).flatMap fun k =>
      match s.sig.slots.find k with
      | some x => x.bytes
      | none => (Slot.initial (s.map.slots.get {} k).init).bytes)

/-- `SIG_READ` (R328). -/
def execSigRead (t : Nat) (m : Fin 8) (s : State) : Host.Outcome State Fault Refusal :=
  .next (s.query t m 0x0703 checkSigRead answerSigRead)

/-- Checks of `sig.write` (R329, R337). -/
def checkSigWrite (s : State) (p : List Byte) : Check :=
  let n := le p 0 2
  firstFail <|
    [needLen (decide (8 ≤ p.length) && p.length == 8 + 16 * n), needField p 0 2 1 255, needZeros p 2 6] ++
    ((List.range n).flatMap fun k => [needField p (8 + 16 * k) 4 0 131071, needZeros p (12 + 16 * k) 4]) ++
    (List.range n).map fun k => needLeave (s.map.slots.get {} (le p (8 + 16 * k) 4)).hostWr (8 + 16 * k)

/-- Effect of `sig.write`: one commit, behind those whose verdict came before (R298, R329). -/
def effectSigWrite (s : State) (p : List Byte) : State × Reply :=
  let s := s.commitAll
  let l := (List.range (le p 0 2)).map fun k => (le p (8 + 16 * k) 4, toSigned 64 (le p (16 + 16 * k) 8))
  let s1 := s.each l fun s k => s.hostValue k.1 k.2
  let slots := (l.map fun k => k.1).dedup
  ((s1.changes (changedSlots s s1 slots) (statusSlots s s1 slots)).fireFlush, .ok)

/-- `SIG_WRITE` (R329). -/
def execSigWrite (t : Nat) (m : Fin 8) (s : State) : Host.Outcome State Fault Refusal :=
  .next (s.simple t m 0x0704 checkSigWrite effectSigWrite).fireFlush

/-- Checks of `sig.trigger.fire` (R337). -/
def checkSigTriggerFire (s : State) (p : List Byte) : Check :=
  let n := le p 0 2
  firstFail <|
    [needLen (decide (4 ≤ p.length) && p.length == 4 + 2 * n), needField p 0 2 1 64, needZeros p 2 2] ++
    (List.range n).map fun k => need (match s.map.triggers.find (le p (4 + 2 * k) 2) with
      | some t => t.request
      | none => false) (4 + 2 * k)

/-- Effect of `sig.trigger.fire`: the triggers fire at one instant, in ascending number (R317). -/
def effectSigTriggerFire (s : State) (p : List Byte) : State × Reply :=
  ((s.fireDue ((List.range (le p 0 2)).map fun k => le p (4 + 2 * k) 2)).fireFlush, .ok)

/-- `SIG_TRIGGER_FIRE` (R317). -/
def execSigTriggerFire (t : Nat) (m : Fin 8) (s : State) : Host.Outcome State Fault Refusal :=
  .next (s.simple t m 0x0705 checkSigTriggerFire effectSigTriggerFire).fireFlush

/-- Request without payload. -/
def checkEmpty (_ : State) (p : List Byte) : Check := needLen p.isEmpty

/-- Answer of `sig.status` (R338). -/
def answerSigStatus (s : State) (_ : List Byte) : Reply :=
  let g := (s.sigOps 0).sig
  .ok <| leBytes 2 g.cur.ver ++ leBytes 2 (match g.old with
      | some o => o.ver
      | none => g.cur.ver) ++ leBytes 1 (flag g.old.isSome) ++ leBytes 1 g.iState ++ leBytes 2 g.specSets ++
    leBytes 4 g.cur.mapId ++ leBytes 4 g.staleCount ++ leBytes 4 g.ops ++ leBytes 4 (131072 - g.entriesUsed) ++ leBytes 4 0

/-- `SIG_STATUS` (R338). -/
def execSigStatus (t : Nat) (m : Fin 8) (s : State) : Host.Outcome State Fault Refusal :=
  .next (s.query t m 0x0706 checkEmpty answerSigStatus)

/-! Commits and timers. -/

/-- `SOURCE_FRAME_COMMIT` (R298): the next frame commits, once those that are overdue have gone (R309). -/
def execSourceFrameCommit (t : Nat) (s : State) : Host.Outcome State Fault Refusal :=
  let s := (s.tick t).overrunAll
  .next (if s.unitUp ⟨3, 0⟩ then s.commitNext.fireFlush else s)

/-- `SIGNAL_OVERRUN` (R309). -/
def execSignalOverrun (t : Nat) (s : State) : Host.Outcome State Fault Refusal :=
  .next (s.tick t).overrunOne

/-- `FRESHNESS_EXPIRY` (R310). -/
def execFreshnessExpiry (t slot : Nat) (s : State) : Host.Outcome State Fault Refusal :=
  let s := s.tick t
  .next (if s.unitUp ⟨3, 0⟩ then (s.modSig fun g => { g with lapse := g.lapse ++ [slot] }).fireFlush else s)

/-- `TRIGGER_GAP_END` (R317). -/
def execTriggerGapEnd (t trig : Nat) (s : State) : Host.Outcome State Fault Refusal :=
  let s := s.tick t
  .next (match s.map.triggers.find trig with
    | none => s.fireFlush
    | some x =>
      if !s.unitUp ⟨3, 0⟩ then s
      else if (s.run trig).pending && !s.inGap trig x then (s.fireDue [trig]).fireFlush
      else s.fireFlush)

/-- A wait that began at an instant has lasted `SEC_WAIT` (R324). -/
def State.secWaited (s : State) (since : Nat) : Bool := decide (since + s.map.secWaitUs * 1000 ≤ s.now)

/-- The secured frame that a controller receives, or has received, finds no engine in time (R324). -/
def State.rxNoEngine (s : State) (b : Nat) : State :=
  let late (o : Option Nat) : Bool := match o with
    | some x => s.secWaited x
    | none => false
  let hit := (match (s.bus b).rx with
      | some r => late r.waitEngine
      | none => false) || s.sig.wait.any fun w => w.src == b && late w.engWaitFrom
  if !hit then s
  else
    let s := s.modBus b fun x => { x with
      rx := x.rx.map fun r => if late r.waitEngine then { r with waitEngine := none, secFail := 4 } else r }
    let s := s.modSig fun g => { g with
      wait := g.wait.map fun w =>
        if w.src == b && late w.engWaitFrom then { w with engWaitFrom := none, fail := 4 } else w }
    s.modSec fun x => { x with engWait := x.engWait.filter fun w => !(w.1 == 0x81 && w.2.2 == b) }

/-- Composed secured messages for a controller find no engine in time (R325). -/
def State.txNoEngine (s : State) (b : Nat) : State :=
  s.each (s.sig.secOut.filter fun o => o.bus == b && s.secWaited o.since) fun s o =>
    ((s.modSig fun g => { g with secOut := g.secOut.erase o }).modSec fun x => { x with
      engWait := x.engWait.filter fun w => !(w.1 == 0x81 && w.2.2 == 256 + o.layout) }).secNoEngine o.layout

/-- `SEC_WAIT_EXPIRY` (R324, R325). -/
def execSecWaitExpiry (t : Nat) (b : Fin 32) (s : State) : Host.Outcome State Fault Refusal :=
  .next (((s.tick t).rxNoEngine b).txNoEngine b)

end Sys2Proof.Machine
end

