-- ==== Sys2Proof/Machine/Dma.lean ====
section
/-! DEFINITION. The DMA rings: commands, receive transfers, transmit frames, their timers and errors, and the
scrub of the tide queues (R64, R411, R413 to R423). -/

namespace Sys2Proof.Machine

open Sys2Proof

/-- The DMA engine works: its unit is in service and the device may master the host's bus (R421). -/
def State.dmaUp (s : State) : Bool := s.unitUp ⟨5, 6⟩ && s.host.pcieUp && s.host.busMaster

/-- Descriptors that the device owns (R413). -/
def Ring.owned (x : Ring) : Nat := if x.size = 0 then 0 else (x.tail + x.size - x.head) % x.size

/-- Address of the descriptor `k` places after the head. -/
def Ring.descAddr (x : Ring) (k : Nat) : Nat := x.base + 16 * ((x.head + k) % x.size)

/-! Commands (R421, R423). -/

/-- Another ring is bound to a queue (R423). -/
def State.queueBound (s : State) (q r : Nat) : Bool :=
  (List.range 32).any fun k => k != r && (s.ring k).queue == q && (s.ring k).size != 0

/-- Checks of `dma.ring.config` (R416, R423). -/
def checkDmaRingConfig (s : State) (p : List Byte) : Check :=
  let r := le p 0 1
  let size := le p 2 2
  firstFail [needLen (p.length == 24), need (decide (r ≤ 47) && (s.ring r).rstate == 0) 0, needZeros p 1 1,
    need (inRange size 16 4096 && (List.range 13).any fun k => size == 2 ^ k) 2,
    need (if r < 32 then inRange (le p 4 1) 1 63 && !s.queueBound (le p 4 1) r else le p 4 1 == 0) 4, needZeros p 5 1,
    needField p 6 2 1 256, need (le p 8 8 % 64 == 0) 8,
    if r < 32 then needField p 16 4 10 100000 else needField p 16 4 0 0, needZeros p 22 2]

/-- Effect of `dma.ring.config`: head and tail go to 0 (R413). -/
def effectDmaRingConfig (s : State) (p : List Byte) : State × Reply :=
  (s.modRing (le p 0 1) fun x => { x with
    size := le p 2 2, queue := le p 4 1, evtPkts := le p 6 2, base := le p 8 8, starveUs := le p 16 4
    evtUs := le p 20 2, head := 0, tail := 0 }, .ok p)

/-- `DMA_RING_CONFIG` (R423). -/
def execDmaRingConfig (t : Nat) (m : Fin 8) (s : State) : Host.Outcome State Fault Refusal :=
  .next (s.simple t m 0x0A03 checkDmaRingConfig effectDmaRingConfig)

/-- Request of one byte `RING`. -/
def checkRingByte (_ : State) (p : List Byte) : Check := firstFail [needLen (p.length == 1), needField p 0 1 0 47]

/-- Checks of `dma.ring.enable` (R421). -/
def checkDmaRingEnable (s : State) (p : List Byte) : Check :=
  firstFail [needLeave (s.host.pcieUp && s.host.busMaster), checkRingByte s p]

/-- Effect of `dma.ring.enable` (R91, R421). -/
def effectDmaRingEnable (s : State) (p : List Byte) : State × Reply :=
  (s.modRing (le p 0 1) fun x => if x.rstate = 0 then { x with rstate := 1 } else x, .ok)

/-- `DMA_RING_ENABLE` (R421). -/
def execDmaRingEnable (t : Nat) (m : Fin 8) (s : State) : Host.Outcome State Fault Refusal :=
  .next (s.simple t m 0x0A04 checkDmaRingEnable effectDmaRingEnable)

/-- Effect of `dma.ring.disable` (R421). -/
def effectDmaRingDisable (s : State) (p : List Byte) : State × Reply :=
  let r := le p 0 1
  (if (s.ring r).rstate = 0 then s else s.ringStop r, .ok (leBytes 2 (s.ring r).head))

/-- `DMA_RING_DISABLE` (R421). -/
def execDmaRingDisable (t : Nat) (m : Fin 8) (s : State) : Host.Outcome State Fault Refusal :=
  .next (s.simple t m 0x0A05 checkRingByte effectDmaRingDisable)

/-! Registers of a ring (R413). -/

/-- A write of `RING_TAIL` (R413, R416). -/
def State.ringTail (s : State) (r v : Nat) : State :=
  if !s.unitUp ⟨5, 6⟩ then s
  else
    let x := s.ring r
    if x.size ≤ v % 65536 then s.modRing r fun x => { x with tailErr := true, setAt := x.setAt.set 5 s.now }
    else
      let s := s.modRing r fun x => { x with tail := v % 65536 }
      let y := s.ring r
      if y.rstate = 2 && decide (y.xferUsed < y.owned) then
        s.modRing r fun x => { x with rstate := 1, paused := none }
      else s

/-- `RING_TAIL_WRITE` (R413). -/
def execRingTailWrite (t : Nat) (r : Fin 48) (value : Word) (s : State) : Host.Outcome State Fault Refusal :=
  .next (s.hostWrites t (·.ringTail r value.toNat))

/-! Events and errors (R415, R418, R419). -/

/-- EV099 or EV100 of a ring (R415, R418, R424). -/
def State.ringAnnounce (s : State) (r : Nat) : State :=
  (s.modRing r fun x => { x with unannounced := 0 }).raiseOf (if r < 32 then 99 else 100) ⟨5, 6⟩
    (r + (s.ring r).head * 256)

/-- One more packet or frame to announce; `now'` asks for the event at once (R415, R418). -/
def State.ringNote (s : State) (r : Nat) (now' : Bool) : State :=
  let s := s.modRing r fun x => { x with
    unannounced := x.unannounced + 1, firstAt := if x.unannounced = 0 then s.now else x.firstAt }
  if now' || decide ((s.ring r).evtPkts ≤ (s.ring r).unannounced) then s.ringAnnounce r else s

/-- `RX_EVENT_TIMER` (R415, R418). -/
def execRxEventTimer (t : Nat) (r : Fin 48) (s : State) : Host.Outcome State Fault Refusal :=
  let s := s.tick t
  let x := s.ring r
  .next (if x.unannounced = 0 || x.evtUs = 0 || s.now < x.firstAt + x.evtUs * 1000 then s else s.ringAnnounce r)

/-- A ring stops on an error (R419). -/
def State.ringFail (s : State) (r cause : Nat) : State :=
  (s.modRing r fun x => { x with
    rstate := 3, error := true, setAt := x.setAt.set 3 s.now, errCause := cause, xferPos := none, xferBytes := 0, xferUsed := 0
    paused := none }).raiseOf 102 ⟨5, 6⟩ (r + cause * 256)

/-! Receive (R414 to R416). -/

/-- A receive descriptor as the host hands it over is in order (R414). -/
def rxDescOk (d : List Byte) : Bool :=
  le d 0 8 % 8 == 0 && inRange (le d 8 2) 64 65528 && le d 8 2 % 8 == 0 && zeros d 10 6

/-- The transfer of a ring is over: nothing of a packet is held any more. -/
def State.xferEnd (s : State) (r : Nat) : State :=
  s.modRing r fun x => { x with
    xferPos := none, xferBytes := 0, xferUsed := 0, paused := none, rstate := if x.rstate = 2 then 1 else x.rstate }

/-- The packet at CUR is released from the queue of a ring (R415, R416). -/
def State.ringRelease (s : State) (q : Nat) (p : TqPacket) : State :=
  let e := posAdd p.pos p.words
  (s.tqReleaseTo q e).modTq q fun x => { x with cur := e, wroteAt := none, writes := [] }

/-- A packet has been written whole: its descriptors return, the head advances, the packet goes (R415). The
last descriptor holds `tail` bytes. -/
def State.rxReturn (s : State) (r : Nat) (p : TqPacket) (descs : List (List Byte)) (tail : Nat) : State :=
  let x := s.ring r
  let n := descs.length
  let s := s.each descs.zipIdx fun s k =>
    let last := decide (k.2 + 1 = n)
    s.send (.dma (x.descAddr k.2) (field k.1 0 8 ++ leBytes 2 (if last then tail else le k.1 8 2) ++
      leBytes 1 (flag (k.2 == 0) + flag last 1 + 4) ++ leBytes 1 x.queue ++ leBytes 4 p.pos))
  let s := s.modRing r fun x => { x with head := (x.head + n) % x.size }
  let s := ((s.ringRelease x.queue p).xferEnd r).count 10 (0x10000 + r) ctrRxRxPackets
  (s.count 10 (0x10000 + r) ctrRxRxBytes p.bytes.length).ringNote r false

/-- Write the rest of a packet into descriptors, the first `used` of which are already filled with `off` bytes.
`left` are the owned descriptors as read and not yet used, `fail` the failure of the next read. -/
def State.rxFill (s : State) (r : Nat) (p : TqPacket) (fail : Bool) (all : List (List Byte)) (used off : Nat) :
    List (List Byte) → State
  | [] =>
    let x := s.ring r
    if fail && decide (used < x.owned) then s.ringFail r 1
    else s.modRing r fun x => { x with
      xferPos := some p.pos, xferBytes := off, xferUsed := used
      rstate := if x.owned ≤ used then 2 else x.rstate, paused := if x.owned ≤ used then some s.now else none }
  | d :: rest =>
    if !rxDescOk d then s.ringFail r 3
    else
      let n := min (le d 8 2) (p.bytes.length - off)
      let s := s.send (.dma (le d 0 8) (field p.bytes off n))
      if off + n = p.bytes.length then s.rxReturn r p (all.take (used + 1)) n
      else s.rxFill r p fail all (used + 1) (off + n) rest

/-- A receive transfer (R411, R415, R416). -/
def State.rxTransfer (s : State) (r : Nat) (descs : List Byte) (fail : Bool) : State :=
  let x := s.ring r
  match (s.tq x.queue).packets.find? fun p => p.pos == (s.tq x.queue).cur with
  | none => s
  | some p =>
    if !p.bad.isEmpty then
      let s := (s.tqEcc x.queue 0 p.bad.length).pulse 160 x.queue
      (s.ringRelease x.queue p).xferEnd r
    else
      let all := (chunks descs 16 (descs.length / 16)).take x.owned
      s.rxFill r p fail all x.xferUsed x.xferBytes (all.drop x.xferUsed)

/-- `DMA_RX_TRANSFER` (R415). -/
def execDmaRxTransfer (t : Nat) (r : Fin 32) (descs : List Byte) (fail : Bool) (s : State) :
    Host.Outcome State Fault Refusal :=
  let s := s.tick t
  .next (if s.dmaUp && (s.ring r).rstate == 1 then s.rxTransfer r descs fail else s)

/-- `RX_STARVE_TIMEOUT` (R416). -/
def execRxStarveTimeout (t : Nat) (r : Fin 32) (s : State) : Host.Outcome State Fault Refusal :=
  let s := s.tick t
  let x := s.ring r
  .next (match x.paused, (s.tq x.queue).packets.find? fun p => some p.pos == x.xferPos with
    | some t0, some p =>
      if x.rstate ≠ 2 || s.now < t0 + x.starveUs * 1000 then s
      else
        let s := ((s.ringRelease x.queue p).xferEnd r).count 10 (0x10000 + r) ctrRxRxStarveDrop
        (s.modRing r fun x => { x with starveDrop := true, setAt := x.setAt.set 4 s.now }).raiseOf 101 ⟨5, 6⟩ r
    | _, _ => s)

/-! Transmit (R417, R418). -/

/-- A transmit descriptor is in order; `first` says that it opens its frame (R417). -/
def txDescOk (d : List Byte) (first : Bool) : Bool :=
  let f := le d 10 1
  decide (1 ≤ le d 8 2) && !bit f 7 && bit f 0 == first && zeros d 13 2 &&
    (!(bit f 3 && !bit f 6) || decide (le d 11 1 < 24))

/-- The frame of a transmit ring is done: `TSTATUS` in its last descriptor, the head past it (R417, R418). -/
def State.txStatus (s : State) (r n result : Nat) : State :=
  let x := s.ring r
  (s.send (.dma (x.descAddr (n - 1) + 15) (leBytes 1 (128 + result)))).modRing r fun x => { x with
    head := (x.head + n) % x.size }

/-- A frame of a host ring that names its egress: start-up route S5 (R206, R418). -/
def State.ringDirect (s : State) (k : Nat) (d data : List Byte) : State :=
  let bus := bit (le d 10 1) 6
  let (s, f) := s.newFrame {
    src := 64 + k, bytes := data, busRec := bus, cls := bits (le d 12 1) 0 3, csum := bits (le d 10 1) 4 2
    gsheet := true, action := { noCt := true }, verdict := 1, whole := true, fixed := true, atNs := s.now
    wire := data.length + (if bus then 0 else 4)
    egress := if bus then 0 else 2 ^ le d 11 1, busDst := if bus then some (le data 1 1) else none }
  let s := s.countAt f 4 0 (ctrParseGsRoute + 4)
  let dst := if bus && decide (le data 1 1 < 32) then some (le data 1 1, recordMsg data) else none
  let s := s.admitRef f (if bus then [] else [le d 11 1]) none dst
  if (s.frame f).refs = 0 then s.retire f else s

/-- A frame of a host ring goes to the parser (R418); `par` names the table entries whose parity check fails (R248). -/
def State.ringParsed (s : State) (k : Nat) (d data : List Byte) (par : List (Nat × Nat)) : State :=
  let bus := bit (le d 10 1) 6
  let x : Frame := {
    src := 64 + k, bytes := data, busRec := bus, csum := bits (le d 10 1) 4 2
    wire := data.length + (if bus then 0 else 4) }
  let (s, f) := s.takeFrame x (if bus then data else data ++ fcsBytes data) (if bus then 6 else 4) none par
  s.confirmWhole f

/-- A frame that was read whole is passed to the Forwarding Island, or discarded at its barrier (R16, R418, log entry 54). -/
def State.ringPass (s : State) (k : Nat) (d data : List Byte) (par : List (Nat × Nat)) : State :=
  if !s.islandUp 2 || !s.chanOpen 5 2 then s
  else
    let s := s.cross 5 2
    if bit (le d 10 1) 3 then s.ringDirect k d data else s.ringParsed k d data par

/-- A transmit frame of `n` descriptors has been read (R418). -/
def State.txFrame (s : State) (r n : Nat) (d data : List Byte) (irq : Bool) (par : List (Nat × Nat)) : State :=
  let bus := bit (le d 10 1) 6
  let long := decide ((if bus then 2072 else 9596) < data.length)
  let key := 0x10000 + r
  let s := if long then s.count 10 key ctrTxTxTooLong
    else
      let s := s.ringPass (r - 32) d data par
      (s.count 10 key ctrTxTxFrames).count 10 key ctrTxTxBytes data.length
  (s.txStatus r n (if long then 3 else 0)).ringNote r irq

/-- A transmit frame is read from its descriptors (R417 to R419). -/
def State.txRead (s : State) (r : Nat) (descs : List (List Byte)) (data : List Byte) (fail : Bool)
    (par : List (Nat × Nat)) : State :=
  let key := 0x10000 + r
  let n := descs.length
  match descs with
  | [] => if fail then s.ringFail r 1 else s
  | d :: rest =>
    let ended := bit (le (descs.getLastD []) 10 1) 1
    if !txDescOk d true || !rest.all fun e => txDescOk e false then
      let s := s.count 10 key ctrTxTxDescErr
      (if ended then s.txStatus r n 1 else s).ringFail r 3
    else if !ended then (if fail then s.ringFail r 1 else s)
    else if fail then ((s.count 10 key ctrTxTxReadErr).txStatus r n 2).ringFail r 2
    else s.txFrame r n d (fitBytes ((descs.map fun e => le e 8 2).sum) data) (descs.any fun e => bit (le e 10 1) 2) par

/-- Descriptors up to the first that is marked `LAST`. -/
def untilLast : List (List Byte) → List (List Byte)
  | [] => []
  | d :: r => if bit (le d 10 1) 1 then [d] else d :: untilLast r

/-- The descriptors of a transmit frame among those read: at most the owned ones, up to `LAST` (R413, R418). -/
def Ring.frameDescs (x : Ring) (descs : List Byte) : List (List Byte) :=
  untilLast ((chunks descs 16 (descs.length / 16)).take x.owned)

/-- `DMA_TX_FRAME` (R418). -/
def execDmaTxFrame (t : Nat) (r : Fin 16) (descs data : List Byte) (read : TxRead) (s : State) :
    Host.Outcome State Fault Refusal :=
  let s := s.tick t
  let x := s.ring (32 + r)
  .next (if s.dmaUp && x.rstate == 1 && x.owned != 0 then
      s.txRead (32 + r) (x.frameDescs descs) data read.fail read.parity
    else s)

/-! Timeouts and the scrub (R64, R411). -/

/-- `PCIE_COMPLETION_TIMEOUT` (R60, R64, R419): the read of a descriptor fails, or of the data of a transmit frame; Advanced Error Reporting notes it (log entry 21). -/
def execPcieCompletionTimeout (t : Nat) (r : Fin 48) (read : TimedRead) (s : State) :
    Host.Outcome State Fault Refusal :=
  let s := s.tick t
  let x := s.ring r
  let s := s.modHost fun h => { h with pcie := { h.pcie with uncStatus := h.pcie.uncStatus ||| 2 ^ 14 } }
  .next (if !s.dmaUp || !(x.rstate == 1 || x.rstate == 2) then s
    else if read.data && decide (32 ≤ r.val) then (s.pulse 14 r).txRead r (x.frameDescs read.descs) [] true []
    else (s.pulse 14 r).ringFail r 1)

/-- `TIDE_ECC_SCRUB` (R411): `bad` are positions of words. -/
def execTideEccScrub (t : Nat) (q : Fin 64) (corrected : Nat) (bad : List Nat) (s : State) :
    Host.Outcome State Fault Refusal :=
  let s := s.tick t
  .next (if !s.tideUp then s
    else
      let has (p : TqPacket) (w : Nat) : Bool := decide (posDiff p.pos w < p.words)
      let hit := bad.filter fun w => (s.tq q).packets.any fun p => has p w
      let s := (s.modTq q fun x => { x with
        packets := x.packets.map fun p => { p with
          bad := (p.bad ++ (hit.filter fun w => has p w).map fun w => posDiff p.pos w).dedup } }).tqEcc q corrected hit.length
      if hit.isEmpty then s else s.pulse 160 q)

end Sys2Proof.Machine
end

