-- ==== Sys2Proof/Machine/Faults.lean ====
section
/-! DEFINITION. The commands and the timed events of the fault collector, and the checks on the outside world
that raise its sources (R15, R20 to R25, R463 to R485). -/

namespace Sys2Proof.Machine

open Sys2Proof

/-! Commands (R480 to R483). -/

/-- A range of sources names no reserved one (R467). -/
def srcRangeOk (first count : Nat) : Bool := (range first count).all fun n => (srcRow n).isSome

/-- The range of sources of a request: `FIRST` and `COUNT`, at least `lo` of them (R481 to R483). -/
def srcRangeChecks (p : List Byte) (lo : Nat) : List Check :=
  [needField p 0 2 0 255, need (inRange (le p 2 2) lo 256 && decide (le p 0 2 + le p 2 2 ≤ 256)) 2,
    need (srcRangeOk (le p 0 2) (le p 2 2)) 0]

/-- Checks of `fault.config` (R481). A severity below the minimum of a source of the range is a condition over
the whole range, reported at `FIRST` (R620). -/
def checkFaultConfig (_ : State) (p : List Byte) : Check :=
  firstFail (needLen (p.length == 12) :: srcRangeChecks p 1 ++
    [need (le p 4 1 ≤ 4 || le p 4 1 == 0xFF) 4,
     need (le p 4 1 == 0xFF || (range (le p 0 2) (le p 2 2)).all fun n =>
       match srcRow n with
       | some r => decide (r.2 ≤ le p 4 1)
       | none => true) 0,
     needZeros p 6 2, needField p 8 4 0 10000])

/-- Effect of `fault.config` (R481). -/
def effectFaultConfig (s : State) (p : List Byte) : State × Reply :=
  let sev := le p 4 1
  let budget := le p 5 1
  let quiet := le p 8 4
  (s.each (range (le p 0 2) (le p 2 2)) fun s n => s.modSrc n fun x => { x with
    sevSet := if sev = 0xFF then x.sevSet else some sev
    budget := if budget = 0xFF then x.budget else budget
    quietMs := if quiet = 0 then x.quietMs else quiet }, .ok)

/-- `FAULT_CONFIG` (R481). -/
def execFaultConfig (t : Nat) (m : Fin 8) (s : State) : Host.Outcome State Fault Refusal :=
  .next (s.simple t m 0x0C01 checkFaultConfig effectFaultConfig)

/-- Checks of `fault.force` (R477, R482). -/
def checkFaultForce (s : State) (p : List Byte) : Check :=
  let n := le p 0 2
  firstFail [needLeave ((srcRow n).isNone || le p 2 1 == 0 || !s.masked n || (s.src n).st == .latched),
    needLen (p.length == 4), need (srcRow n).isSome 0, needField p 2 1 0 3, needField p 3 1 0 1]

/-- Sources with a force set. -/
def State.forcedCount (s : State) : Nat := (s.flt.srcs.cells.filter fun c => c.2.force != 0).length

/-- The collector reads a source anew after its force changed (R474, R477): an entry, or its quiet period. A broken
reading acts after 1 µs, by `BROKEN_PAIR`. -/
def State.readAgain (s : State) (n : Nat) : State :=
  let x := s.src n
  if x.reading = 2 then
    if x.st == .fault then s.modSrc n fun x => { x with quietFrom := none }
    else if x.st == .quiet || x.st == .broken then s.enterFault n x.target false
    else s
  else if x.reading = 1 && x.st == .fault && x.quietFrom.isNone && s.evaluated n then
    s.modSrc n fun x => { x with quietFrom := some s.now }
  else s

/-- Effect of `fault.force` (R477). EV028 comes once each time that the number of forced sources rises from 0; the
spec states no `DETAIL`, so it is a free value (log entry 3). -/
def effectFaultForce (s : State) (p : List Byte) : State × Reply :=
  let n := le p 0 2
  let none' := s.forcedCount == 0
  let s := s.modSrc n fun x => { x with force := le p 2 1, dry := bit (le p 3 1) 0 }
  let s := if none' && le p 2 1 ≠ 0 then
      let (d, s) := s.draw
      s.raiseOf 28 ⟨5, 8⟩ (d % 2 ^ 32)
    else s
  (s.readAgain n, .ok)

/-- `FAULT_FORCE` (R477). -/
def execFaultForce (t : Nat) (m : Fin 8) (s : State) : Host.Outcome State Fault Refusal :=
  .next (s.simple t m 0x0C02 checkFaultForce effectFaultForce)

/-- The `STATE` of a source as the host reads it (R465, R483). -/
def State.srcState (s : State) (n : Nat) : Nat :=
  match (s.src n).st with
  | .latched => 2
  | st => if s.masked n then 4 else match st with
    | .fault => 1
    | .broken => 3
    | _ => 0

/-- The instant from which the quiet period of a source in fault runs (R465, R466, R474): where it was not noted, the
latest of its quiet reading, 1 µs after its island came back, and the return of the collector. -/
def State.quietSince (s : State) (n : Nat) : Option Nat :=
  let x := s.src n
  if x.st != .fault || x.reading ≠ 1 || !s.evaluated n then none
  else match x.quietFrom with
    | some q => some q
    | none =>
      let i := srcIsland n
      let back := if n < 16 || inRange n 240 247 || (s.isl i).backAt = 0 then 0 else (s.isl i).backAt + 1000
      some (max x.pairAt (max back (if inRange n 176 191 then 0 else (s.isl 5).backAt)))

/-- The recoveries counter of a source, 16 bits (R474, R485). -/
def State.recoveries (s : State) (n : Nat) : Nat := (s.ctr 12 (0x10000 + n) ctrSrcRecoveries).val

/-- Eight bytes of the read layout (R483). A part of a millisecond left may count as one; the spec does not say, so
bit `n` of the free value `d` decides (log entry 3). -/
def State.srcBytes (s : State) (d n : Nat) : List Byte :=
  let x := s.src n
  let left := match s.quietSince n with
    | none => 0
    | some q =>
      let ns := q + x.quietMs * 1000000 - s.now
      ns / 1000000 + (if ns % 1000000 = 0 then 0 else flag (bit d n))
  leBytes 1 (s.srcState n) ++ leBytes 1 (s.sevOf n) ++
    leBytes 1 (flag (x.force != 0) + flag (s.quietSince n).isSome 1) ++
    leBytes 1 (if s.budgetOpen n then min 255 x.inWindow else 0) ++ leBytes 2 (s.recoveries n) ++
    leBytes 2 (min 0xFFFF left)

/-- Checks of `fault.read` (R480, R483). -/
def checkFaultRead (_ : State) (p : List Byte) : Check :=
  firstFail (needLen (p.length == 4) :: srcRangeChecks p 1)

/-- Effect of `fault.read` (R483): only the free value is drawn. -/
def effectFaultRead (s : State) (p : List Byte) : State × Reply :=
  let inState := fun v => ((List.range 256).filter fun n => (srcRow n).isSome && s.srcState n == v).length
  (s.draw.2, .ok (s.flt.first.bytes ++ leBytes 2 (inState 1) ++ leBytes 2 (inState 2) ++
    (range (le p 0 2) (le p 2 2)).flatMap (s.srcBytes s.draw.1)))

/-- `FAULT_READ` (R483). -/
def execFaultRead (t : Nat) (m : Fin 8) (s : State) : Host.Outcome State Fault Refusal :=
  .next (s.simple t m 0x0C03 checkFaultRead effectFaultRead)

/-- Checks of `fault.clear` (R482). -/
def checkFaultClear (_ : State) (p : List Byte) : Check :=
  firstFail (needLen (p.length == 8) :: srcRangeChecks p 0 ++ [needField p 4 1 0 3, needZeros p 5 3])

/-- Effect of `fault.clear` (R473, R476). -/
def effectFaultClear (s : State) (p : List Byte) : State × Reply :=
  let l := range (le p 0 2) (le p 2 2)
  let s := if bit (le p 4 1) 0 then s.modFlt fun f => { f with first := {} } else s
  let s := if bit (le p 4 1) 1 then
      s.each l fun s n => s.modSrc n fun x => { x with windowAt := none, inWindow := 0 }
    else s
  let held := l.filter fun n => (s.src n).st == .latched
  (s.each held State.clearLatch, .ok (leBytes 2 held.length))

/-- `FAULT_CLEAR` (R476). -/
def execFaultClear (t : Nat) (m : Fin 8) (s : State) : Host.Outcome State Fault Refusal :=
  .next (s.simple t m 0x0C04 checkFaultClear effectFaultClear)

/-! Readings of a pair (R463, R464, R474). -/

/-- `BROKEN_PAIR` (R464): both wires of the pair are high, or both low, unless a force stands in its place. -/
def execBrokenPair (t : Nat) (src : Fin 256) (high : Bool) (s : State) : Host.Outcome State Fault Refusal :=
  let s := s.tick t
  if (srcRow src).isNone then .next s
  else
    let s := s.modSrc src fun x => if x.force = 0 then { x with pair := if high then 3 else 0, pairAt := s.now } else x
    .next (if (s.src src).reading = 0 || (s.src src).reading = 3 then s.breakPair src else s)

/-- `BROKEN_PAIR_RESTORED` (R464). -/
def execBrokenPairRestored (t : Nat) (src : Fin 256) (s : State) : Host.Outcome State Fault Refusal :=
  let s := s.tick t
  if (srcRow src).isNone || (s.src src).force ≠ 0 then .next s
  else
    let s := s.modSrc src fun x => { x with
      pair := 1, pairAt := s.now, st := if x.st == .broken then .quiet else x.st }
    .next (if wireSource src = src then s else
      let s := s.wireQuiet (wireSource src)
      s.readAgain (wireSource src))

/-- `ARBITRATION_WINDOW_CLOSE` (R472): 200 ns after the window opened. -/
def execArbitrationWindowClose (t : Nat) (s : State) : Host.Outcome State Fault Refusal :=
  let s := s.tick t
  .next (match s.flt.windowOpen with
    | some w => if w + 200 ≤ s.now then s.closeWindow else s
    | none => s)

/-! Recovery, budget, escalation (R469, R474, R475). -/

/-- A source recovers: EV021, its 16-bit counter, its budget window (R474, R475). -/
def State.recover (s : State) (n : Nat) : State :=
  let s := { s with ctrs := s.ctrs.modify {} (ctrKey 12 (0x10000 + n) ctrSrcRecoveries) (·.add s.now 1 0xFFFF) }
  let openNow := s.budgetOpen n
  let s := s.modSrc n fun x => { x with
    st := .quiet, quietFrom := none
    windowAt := if openNow then x.windowAt else some s.now
    inWindow := if openNow then x.inWindow + 1 else 1 }
  s.raise 21 0xFF (s.srcCode n) n

/-- A fault of a source at this instant waits in the queue: it leaves the source in fault (R474, log entry 75). -/
def State.faultMore (s : State) (n : Nat) : Bool :=
  s.pending.any fun c => match c with
    | .faultSourceEntry u k _ _ => decide (u ≤ s.now) && k.val == n
    | _ => false

/-- `QUIET_PERIOD_END` (R474). -/
def execQuietPeriodEnd (t : Nat) (src : Fin 256) (s : State) : Host.Outcome State Fault Refusal :=
  let s := s.tick t
  .next (match s.quietSince src with
    | some q => if !s.faultMore src && decide (q + (s.src src).quietMs * 1000000 ≤ s.now) then s.recover src else s
    | none => s)

/-- `BUDGET_WINDOW_END` (R475). -/
def execBudgetWindowEnd (t : Nat) (src : Fin 256) (s : State) : Host.Outcome State Fault Refusal :=
  let s := s.tick t
  .next (if s.budgetOpen src then s else s.modSrc src fun x => { x with windowAt := none, inWindow := 0 })

/-- `UNIT_RESTART_ESCALATION` (R25, R469): 50 ms after the restart, or after the Control Island's return. -/
def execUnitRestartEscalation (t : Nat) (island : Fin 7) (unit : Fin 64) (s : State) :
    Host.Outcome State Fault Refusal :=
  let s := s.tick t
  let x := s.unitSt island unit
  let start := max x.since (if island.val = 5 then 0 else (s.isl 5).backAt)
  .next (if !x.restarting || !s.islandUp 5 || s.now < start + 50000000 then s
    else
      let s := if x.cause = 0xFF then s else s.count 12 (0x10000 + x.cause) ctrSrcEscalations
      if island.val = 6 then s.safeState else s.restartIsland island x.cause)

/-- `FAULT_PERSIST_LATCH` (R469, R475): 1 s after the return of what its entry restarted. -/
def execFaultPersistLatch (t : Nat) (src : Fin 256) (s : State) : Host.Outcome State Fault Refusal :=
  let s := s.tick t
  let x := s.src src
  .next (match x.returnedAt with
    | some r =>
      if x.st == .fault && x.reading == 2 && s.evaluated src && decide (r + 1000000000 ≤ s.now) then
        let s := s.modSrc src fun x => { x with st := .latched, quietFrom := none }
        (s.latchEvent src).faultAction src x.entrySev true
      else s
    | none => s)

/-! Returns (R23, R25, R468). -/

/-- `UNIT_RESTART_DONE` (R25, R468): not while the Control Island restarts. -/
def execUnitRestartDone (t : Nat) (island : Fin 7) (unit : Fin 64) (s : State) : Host.Outcome State Fault Refusal :=
  let s := s.tick t
  .next (if (s.unitSt island unit).restarting && s.islandUp island && s.islandUp 5 then s.unitBack ⟨island, unit⟩ else s)

/-! Strait handshakes (R16, R20, R39). -/

/-- The controllers of an island that are receiving a frame for a destination (R121). -/
def State.receiving (s : State) (i dest : Nat) : List Nat :=
  (islandBuses i).filter fun b => match (s.bus b).rx with
    | some r => r.dest == dest
    | none => false

/-- A frame's packet toward the signal engine or the audio router ends spoiled: its copies are discarded (R39). -/
def State.sigSpoil (s : State) (f : Nat) : State :=
  let x := s.frame f
  (s.specEnd f x.sigSrc x.specSet).modFrame f fun x => { x with specSet := false, sigCut := true }

/-- A speculative composition on its way to the packet buffer ends spoiled (R39, R54). -/
def State.compSpoil (s : State) (k : Nat) : State :=
  (s.modSig fun g => { g with specs := g.specs.eraseIdx k }).count 7 0 ctrSigSpecComposeDiscarded

/-- The tide queue copies of a frame end spoiled (R39). -/
def State.tideSpoil (s : State) (f : Nat) : State :=
  (s.each (s.frame f).tides fun s q => s.tqRewind q.1 f).modFrame f fun x => { x with tides := [] }

/-- What may be in progress on the channel from one island to another, as what its spoiled end does (R20, R39). -/
def State.onChannel (s : State) (near far : Nat) : List (State → State) :=
  let frames (p : Frame → Bool) : List Nat := (s.sw.frames.cells.filter fun c => c.2.verdict == 0 && p c.2).map fun c => c.1
  let coded := (List.range 4).filter fun p => (s.port p).cw.enc
  if near ≤ 1 then
    ((if far = 2 then (islandPorts near).flatMap s.awaiting else []).map fun f s => s.verdict f true) ++
      (s.receiving near (if far = 2 then 3 else if far = 3 then 1 else if far = 5 then 2 else 4)).map fun b s => s.busRxSpoil b
  else if near = 2 then
    if far ≤ 1 then
      ((islandPorts far).filter fun p => (s.port p).tx.isSome).map fun p s => s.txStarve p ctrEthSpecCtUnderrun
    else if far = 3 then (frames fun x => x.bind.isSome && !x.sigCut).map fun f s => s.sigSpoil f
    else if far = 4 then (coded.filter fun p => (s.port p).tx.isSome).map fun p s => s.txStarve p ctrEthSpecCtUnderrun
    else if far = 5 then (frames fun x => !x.tides.isEmpty).map fun f s => s.tideSpoil f
    else []
  else if near = 4 && far = 2 then (coded.flatMap s.awaiting).map fun f s => s.verdict f true
  else if near = 3 && far = 2 then (List.range s.sig.specs.length).map fun k s => s.compSpoil k
  else if (near = 3 && far = 4) || (near = 4 && far = 3) then
    ((List.range 32).filter fun b => match (s.bus b).rx with
      | some r => r.dest == 1 && r.engine.isSome
      | none => false).map fun b s => s.busRxSpoil b
  else []

/-- Units of an island (R619). -/
def unitCount (i : Nat) : Nat := [42, 41, 12, 2, 12, 12, 7].getD i 1

/-- `HANDSHAKE_TIMEOUT` (R20): the packet in progress ends spoiled, the source of the far island is raised, the
channel is reset. Which packet of those that may be in progress it is, and to which unit it went, are free values
(log entry 3). Nothing times out against an isolated island (R16), and only islands that a channel joins (R18). -/
def execHandshakeTimeout (t : Nat) (near : Fin 7) (far : Fin 7) (s : State) : Host.Outcome State Fault Refusal :=
  let s := s.tick t
  if channelWidth near far = 0 || !s.islandUp near || !s.islandUp far || !s.chanOpen near far then .next s
  else
    let l := s.onChannel near far
    let (k, s) := s.drawBelow (max 1 l.length)
    let s := match l[k]? with
      | some f => f s
      | none => s
    let (u, s) := s.drawBelow (unitCount far)
    let s := (s.modChan near far fun c => { c with resetAt := some s.now }).toldFlush
    .next (s.pulse far (far * 64 + u))

/-- `CHANNEL_RESET_TIMEOUT` (R20): the far end did not complete the reset handshake within the timeout of the waiting
end. -/
def execChannelResetTimeout (t : Nat) (channel : Channel) (s : State) : Host.Outcome State Fault Refusal :=
  let s := s.tick t
  .next (match (s.chan channel.near channel.far).resetAt with
    | some r =>
      if r + (s.isl channel.near).straitNs ≤ s.now then
        s.modChan channel.near channel.far fun _ => { closed := true }
      else s
    | none => s)

/-! Checks on the outside world (R21, R471, R478, R479). -/

/-- `GLITCH_STORM` (R478). More than 100 pulses were removed; how many is a free value (log entry 3). -/
def execGlitchStorm (t : Nat) (group : Fin 10) (on : Bool) (s : State) : Host.Outcome State Fault Refusal :=
  let s := s.tick t
  let g := group.val
  if on then
    let (n, s) := s.draw
    let s := (s.modFlt fun f => { f with storm := setBit f.storm g true }).count 12 (0x20000 + g) ctrPinGlitchesRemoved (101 + n)
    .next (s.report (192 + g))
  else if bit s.flt.storm g then
    .next ((s.modFlt fun f => { f with storm := setBit f.storm g false }).quieten (192 + g))
  else .next s

/-- `TIMER_RECALIBRATION` (R21, R467): it passes, or FS183 reports the unit whose timer failed, a free value
(log entry 3). In sleep the timers of the Always-On Island are recalibrated alone; otherwise nothing is while the time unit
does not run. -/
def execTimerRecalibration (t : Nat) (ok : Bool) (s : State) : Host.Outcome State Fault Refusal :=
  let s := s.tick t
  let asleep := s.slp.ps == .sleep
  if !asleep && !s.unitUp ⟨5, 7⟩ then .next s
  else if ok then .next (s.quieten 183)
  else
    let (i, s) := if asleep then (6, s) else s.drawBelow 7
    let (u, s) := s.drawBelow (unitCount i)
    .next (s.report 183 (i * 64 + u))

/-- `MDIO_TIMEOUT` (R479): firmware retries once, then FS022 + 16 w. -/
def execMdioTimeout (t : Nat) (island : Fin 2) (s : State) : Host.Outcome State Fault Refusal :=
  let s := s.tick t
  let w := island.val
  let again := bit s.flt.mdioRetry w
  let s := s.modFlt fun f => { f with mdioRetry := setBit f.mdioRetry w (!again) }
  .next (if again then s.pulse (22 + 16 * w) else s)

/-- `LPDDR_TRAINING_TIMEOUT` (R479): what uses LPDDR4X reports `NO_SPACE` from then on. -/
def execLpddrTrainingTimeout (t : Nat) (s : State) : Host.Outcome State Fault Refusal :=
  .next (((s.tick t).modBoot fun b => { b with lpddr := false }).report 165)

/-- `SAFE_STATE_OUTPUT_RELEASE` (R471): the lease plus its guard has run out. -/
def execSafeStateOutputRelease (t : Nat) (s : State) : Host.Outcome State Fault Refusal :=
  let s := s.tick t
  .next (match s.boot.pins.outputsHeld with
    | some r =>
      if s.boot.state = 4 && decide (r ≤ s.now) then
        (s.timeOutsInactive.tdmInactive).modBoot fun b => { b with pins := { b.pins with outputsHeld := none } }
      else s
    | none => s)

end Sys2Proof.Machine
end

