-- ==== Sys2Proof/Machine/Lap.lean ====
section
/-! DEFINITION. Who leads the lights-out ring, local consent, and what a wake request does during the agreement
(R546, R547, R553, R554). -/

namespace Sys2Proof.Machine

open Sys2Proof

/-- The ring leader (R546): the master when `CASCADE` is not 0, otherwise the device itself. -/
def State.ringLeader (s : State) : Nat := if s.cw.cascade ≠ 0 then s.cw.master else s.cw.id

/-- This device leads the ring; a device at ID 0 takes no part (R546). -/
def State.leads (s : State) : Bool := s.cw.id != 0 && s.ringLeader == s.cw.id

/-- Buses that take part in the ring (R563). -/
def State.ringBuses (s : State) : List Nat := (List.range 32).filter fun b => (s.bus b).wk.ringOn

/-- Local consent apart from the bus laps (R547, R557). -/
def State.consentBase (s : State) : Bool :=
  s.boot.state == 1 && (s.slp.hostConsent || s.slp.autoConsent) &&
    (s.aud.anns.cells.all fun (c : Nat × Announce) => c.2.zones == 0) &&
    (s.twin.role != .active || s.twin.partnerConsent)

/-- Local consent (R547): with a full bus lap in the current device lap on every participating bus, and no wake
request since. -/
def State.localConsent (s : State) : Bool :=
  s.consentBase && s.slp.wakeReqAt.isNone &&
    (s.ringBuses.all fun b => (s.bus b).wk.lap.isNone && (s.bus b).wk.lapFull)

/-- The body of a device lap message (R550). -/
def lapBody (op seq : Nat) (consent : BitVec 256) : List Byte :=
  leBytes 1 5 ++ leBytes 1 op ++ beBytes 2 seq ++ leBytes 32 consent.toNat

/-- EV121 with a cause (R565). -/
def State.cancelled (s : State) (cause : Nat) : State := s.raise 121 0xFF noUnit cause

/-- A request is latched during sleep entry; the first one stays (R554). -/
def State.latchWake (s : State) (r : WakeRec) : State :=
  if s.slp.latchedWake.isSome then s
  else s.modSlp fun z => { z with latchedWake := some { r with latched := true } }

/-- A wake request after this device has set its bit (R554): the leader cancels its own lap, another device sends a
cancel to the leader and holds the request. Host consent is withdrawn (R547). -/
def State.ringCancel (s : State) (r : WakeRec) : State :=
  if s.leads then
    ((s.modSlp fun z => { z with
      lapRunning := false, joined := false, bitSet := false, hostConsent := false }).count 15 0 ctrSlpCancels).cancelled 0
  else if s.slp.cancelSent then s
  else
    ((s.modSlp fun z => { z with cancelSent := true, pendWake := some r, hostConsent := false }).count 15 0
      ctrSlpCancels).tell s.ringLeader 2 (lapBody 3 s.slp.lapSeq 0)

/-- A wake request (R553, R554). Asleep there is none: a cause wakes the device. -/
def State.wakeReq (s : State) (r : WakeRec) : State :=
  if s.slp.ps == .entry then s.latchWake r
  else if s.slp.ps == .service then
    let s := s.modSlp fun z => { z with wakeReqAt := some s.now }
    if s.slp.joined && s.slp.bitSet then s.ringCancel r else s
  else s

/-- A wake request that is no wake cause: consent is withdrawn on this device or its twin partner (R553). The spec
states no `WCAUSE` for it, so it is a free value (log entry 3). -/
def State.ownWakeReq (s : State) : State :=
  let (c, s) := s.drawBelow 256
  s.wakeReq { cause := c }

end Sys2Proof.Machine
end

