-- ==== Sys2Proof/Machine/Twin.lean ====
section
/-! DEFINITION. The twin pair: roles, lease, claims, freeze, mirroring, shadow comparison, health reports,
resynchronisation and handover (R486 to R507). -/

namespace Sys2Proof.Machine

open Sys2Proof

/-! Roles (R486, R490 to R492, R506). -/

/-- `TROLE` (R486). -/
def Role.code : Role → Nat
  | .solo => 0
  | .joining => 1
  | .standby => 2
  | .active => 3
  | .frozen => 4
  | .resyncing => 5
  | .out => 6

/-- The role of a `TROLE`. -/
def roleOf (v : Nat) : Role := [Role.solo, .joining, .standby, .active, .frozen, .resyncing, .out].getD v .out

/-- `LEASE_OUT` drives held (R487). -/
def State.leaseOut (s : State) : Bool := s.twin.role.holder && !s.boot.pins.jtagHeld

/-- The role takes part in a twin pair (R488). -/
def Role.paired (r : Role) : Bool := !(r == .solo || r == .out)

/-- A device that takes the token follows its own time domains; what its steered time differs by goes by a slew
(R497). -/
def State.steerEnd (s : State) : State :=
  match s.twin.steer, s.time.active with
  | some c, some d => s.follow d (c.value s.now) c.rate
  | _, _ => s

/-- The role changes: EV112 with a cause, and the outputs follow the token (R486, R491, R492). A standby's claim timer
starts when it becomes one. -/
def State.setRole (s : State) (r : Role) (cause : Nat) : State :=
  let old := s.twin.role
  if old = r then s
  else
    let s := s.modTwin fun w => { w with
      role := r, roleAt := s.now, handoverIn := false, handover := none
      claimFrom := if r = .standby then some s.now else none
      frozenAt := if r.holder then none else if old.holder then some s.now else w.frozenAt }
    let s := s.raise 112 0xFF noUnit (r.code + old.code * 16 + cause * 256)
    let s := if old.holder == r.holder then s else (s.each (List.range 32) fun s b => s.busOrder b (!r.holder))
    let s := if r.holder then s.steerEnd else s
    s.each (List.range 32) fun s b =>
      if r = .standby then s.refill b
      else if old = .standby && !r.holder then s.bufReturnAll b
      else s

/-- Every island of `CRIT_ISLANDS` is on (R489). -/
def State.critOn (s : State) : Bool := (bitList s.twin.crit 7).all s.islandUp

/-- Firmware's heartbeat is fresh (R489). -/
def State.heartFresh (s : State) : Bool :=
  match s.twin.heartbeat with
  | some h => decide (s.now ≤ h + s.twin.leaseUs * 1000)
  | none => false

/-- The renewal conditions other than the role hold (R489). -/
def State.renewable (s : State) : Bool := s.boot.state == 1 && s.critOn && s.heartFresh

/-- A renewal: the lease timer restarts; an active device sends `RENEW` (R489). -/
def State.renew (s : State) : State :=
  let s := (s.modTwin fun w => { w with renewedAt := s.now, seq := w.seq + 1 }).count 13 0 ctrTwinRenewals
  if s.twin.role == .active then s.send (.twin 1 (leBytes 4 s.twin.seq)) else s

/-- The token is claimed: the device is active, drives `LEASE_OUT` held and renews at once (R491, R496). -/
def State.claim (s : State) (cause : Nat) : State :=
  let s := s.count 13 0 ctrTwinClaims
  let s := if s.twin.stale then s.count 13 0 ctrTwinClaimsStale else s
  (s.setRole .active cause).renew

/-- EV113 with a cause (R506). How `DETAIL` holds the link and lease states the spec does not say: those bits are a
free value (log entry 3). -/
def State.twinPathEvent (s : State) (cause : Nat) : State :=
  let (d, s) := s.drawBelow 256
  s.raiseOf 113 ⟨0, 41⟩ (d + cause * 256)

/-- A standby judges its two paths of information after one of them changed (R493). -/
def State.twinPaths (s : State) : State :=
  if !s.standby then s
  else match s.twin.linkUp, s.twin.leaseIn with
    | false, .held => s.twinPathEvent 1
    | true, .broken => s.twinPathEvent 2
    | false, .broken => if s.twin.blind then s else s.twinPathEvent 3
    | _, _ => s

/-- A resyncing device clears its deep queues, its buffers and its packet buffer (R501); this is no restart, so
nothing is counted as flushed by one. -/
def State.resyncStart (s : State) (cause : Nat) : State :=
  let s := (s.setRole .resyncing cause).modTwin fun w => { w with resyncDone := false }
  let c := s.ctrs
  let s := s.each (List.range 32) fun s b => [0, 1, 2].foldl (fun s n => s.bufDrop b n) s
  { s.bufferClear with ctrs := c }

/-- A joining device proceeds by what it knows (R494): with the partner's token and a link it resynchronises. -/
def State.joinReview (s : State) : State :=
  if s.twin.role != .joining || (s.twin.partner.isSome && !s.twin.partnerOk) then s
  else if s.twin.leaseIn == .held && s.twin.linkUp then s.resyncStart 4
  else s

/-- A frozen device whose renewal conditions hold again resynchronises (R501). -/
def State.twinReview (s : State) : State :=
  if s.twin.role == .frozen && s.renewable then s.resyncStart 5 else s

/-! Lease events (R489 to R493). -/

/-- `FIRMWARE_HEARTBEAT` (R489). -/
def execFirmwareHeartbeat (t : Nat) (s : State) : Host.Outcome State Fault Refusal :=
  let s := s.tick t
  .next (if s.fwUp then (s.modTwin fun w => { w with heartbeat := some s.now }).twinReview else s)

/-- `LEASE_RENEWAL` (R489): every quarter `LEASE_US`. -/
def execLeaseRenewal (t : Nat) (s : State) : Host.Outcome State Fault Refusal :=
  let s := s.tick t
  .next (if s.twin.role.holder && s.renewable && decide (s.twin.renewedAt + s.twin.leaseUs * 250 ≤ s.now) then s.renew
    else s.twinReview)

/-- Every shared bus is idle: no attempt is engaged. -/
def State.busesIdle (s : State) : Bool := (List.range 32).all fun b => (s.bus b).tx.engagedBuf.isNone

/-- A handover is under way whose buses are idle, or whose 100 ms are over (R502 step 3). -/
def State.handoverDue (s : State) : Bool :=
  match s.twin.handover with
  | some h => s.twin.role == .active && (s.busesIdle || decide (h + 100000000 ≤ s.now))
  | none => false

/-- Step 3 of a handover falls at this instant and waits in the queue (R502, log entry 75). -/
def State.handoverMore (s : State) : Bool :=
  s.handoverDue && s.pending.any fun c => match c with
    | .handoverBusesIdle u => decide (u ≤ s.now)
    | _ => false

/-- `LEASE_LAPSE` (R490): the lease timer of an active device has expired. A handover under way ends with it, unless its step 3
falls at the same instant: then the roles are those of the handover (R502). -/
def execLeaseLapse (t : Nat) (s : State) : Host.Outcome State Fault Refusal :=
  let s := s.tick t
  .next (if s.leaseRuns && s.twin.role == .active && !s.handoverMore &&
        decide (s.twin.renewedAt + s.twin.leaseUs * 1000 ≤ s.now) then
      ((s.count 13 0 ctrTwinLapses).setRole .frozen 1).completeOf 0x0D04 (fun _ => true) (.denied)
    else s)

/-- The instant at which the claim timer of a standby expires (R491). -/
def Twin.claimAt (w : Twin) : Option Nat := w.claimFrom.map fun c => c + (w.leaseUs + w.guardUs) * 1000

/-- A device without the token may claim now (R491, R493, R494). -/
def State.mayClaim (s : State) : Bool :=
  let w := s.twin
  if w.role == .standby then
    (match w.claimAt with
     | some c => decide (c ≤ s.now)
     | none => false) &&
    (match w.leaseIn with
     | .held => false
     | .notHeld => decide (w.leaseInAt + 20000 ≤ s.now)
     | .broken => w.linkUp || w.blind)
  else if w.role == .joining then
    w.leaseIn == .notHeld && !(w.partner.isSome && !w.partnerOk) &&
      decide (w.leaseInAt + (w.leaseUs + (if w.sideB then 2 else 1) * w.guardUs) * 1000 ≤ s.now)
  else false

/-- `TOKEN_CLAIM` (R491). -/
def execTokenClaim (t : Nat) (s : State) : Host.Outcome State Fault Refusal :=
  let s := s.tick t
  .next (if s.leaseRuns && s.mayClaim then s.claim 2 else s)

/-- `LEASE_IN_CHANGE` (R493): the reading after its filters. -/
def execLeaseInChange (t : Nat) (reading : LeasePair) (s : State) : Host.Outcome State Fault Refusal :=
  let s := s.tick t
  if s.twin.leaseIn = reading then .next s
  else
    let s := s.modTwin fun w => { w with leaseIn := reading, leaseInAt := s.now }
    .next (if s.twin.role == .active && reading == .held && s.twin.sideB then s.setRole .frozen 6
      else if s.twin.handoverIn && reading == .notHeld then s.claim 3
      else s.twinPaths.joinReview)

/-- `ISLAND_RESTART_DONE` (R15, R23, R25): not while the Control Island restarts. -/
def execIslandRestartDone (t : Nat) (island : Fin 7) (s : State) : Host.Outcome State Fault Refusal :=
  let s := s.tick t
  .next (if (s.isl island).restarting && s.boot.state ≠ 4 && (island.val == 5 || s.islandUp 5) then
      (s.islandBack island).twinReview
    else s)

/-! Codecs of the twin link, internal to the pair (R488, log entry 13). -/

/-- `HELLO`: role, `SIDE`, lease settings, mirror selection (R488), and the host's consent and a wish for bulk state,
which R501 and R557 need. -/
def State.twinHello (s : State) : List Byte :=
  let w := s.twin
  leBytes 1 w.role.code ++ leBytes 1 (flag w.sideB) ++ leBytes 4 w.leaseUs ++ leBytes 2 w.guardUs ++ leBytes 1 w.mirror ++
    leBytes 1 (flag (s.slp.hostConsent || s.slp.autoConsent) + flag ((w.role == .resyncing && !w.resyncDone) || (w.role == .standby && w.stale)) 1)

/-- One part of bulk state: kind, length, body. -/
def bulkPart (kind : Nat) (body : List Byte) : List Byte := leBytes 1 kind ++ leBytes 4 body.length ++ body

/-- The parts of bulk state, at most `n`. -/
def bulkParts : Nat → List Byte → List (Nat × List Byte)
  | 0, _ => []
  | n + 1, b =>
    if b.length < 5 then []
    else (le b 0 1, (b.drop 5).take (le b 1 4)) :: bulkParts n (b.drop (5 + le b 1 4))

/-- A signal slot on the twin link; the freshness timer by the time it has left. -/
def State.slotBulk (s : State) (k : Nat) (x : Slot) : List Byte :=
  leBytes 4 k ++ leBytes 8 (ofSigned 64 x.value) ++
    leBytes 1 (flag x.valid + flag x.fresh 1 + flag x.subst 2 + flag x.rawErr 3 + flag x.physErr 4 + flag x.secured 5 +
      flag x.substMode 6 + flag x.stale 7) ++ leBytes 1 x.src ++ leBytes 4 x.stamp ++
    leBytes 8 (match x.expiry with
      | some e => e - s.localNs + 1
      | none => 0) ++ leBytes 8 (ofSigned 64 x.substVal)

/-- A slot from the twin link. -/
def State.slotTake (s : State) (b : List Byte) : State :=
  let f := le b 12 1
  s.modSlot (le b 0 4) fun _ =>
    { value := toSigned 64 (le b 4 8), valid := bit f 0, fresh := bit f 1, subst := bit f 2, rawErr := bit f 3
      physErr := bit f 4, secured := bit f 5, substMode := bit f 6, stale := bit f 7, src := le b 13 1, stamp := le b 14 4
      expiry := if le b 18 8 = 0 then none else some (s.localNs + le b 18 8 - 1), substVal := toSigned 64 (le b 26 8) }

/-- An L2 entry from its index and 16 bytes (R235). -/
def State.l2Take (s : State) (b : List Byte) : State :=
  let f := le b 13 1
  s.modTbl fun t => { t with
    l2 := t.l2.set (le b 0 4) {
      mac := field b 4 6, vid := le b 10 2, port := le b 12 1, hit := bit f 1, frozen := bit f 2
      window := le b 15 1 != 0 || bit f 2, home := le b 14 1, moves := le b 15 1, timer := le b 16 4 } }

/-- A zone as `aud.zone.config` takes it (R386). -/
def zoneBulk (z : Nat) (x : Zone) : List Byte :=
  leBytes 1 z ++ leBytes 1 x.duckMask ++ leBytes 1 x.duckDb ++ leBytes 1 x.upMs ++ leBytes 1 x.downMs ++ [0, 0, 0] ++
    leBytes 32 x.outputs

/-- An announcement in play: its number, the start layout (R392), its position. -/
def annBulk (k : Nat) (x : Announce) : List Byte :=
  leBytes 1 k ++ leBytes 1 (flag x.lib) ++ leBytes 1 x.level ++ leBytes 1 x.gain ++ leBytes 1 x.onPreempt ++
    leBytes 2 x.src ++ leBytes 1 x.repeats ++ [0] ++ leBytes 4 x.zones ++ leBytes 4 0 ++ leBytes 8 x.presentAt ++
    leBytes 4 x.pos ++ leBytes 1 (flag x.startPt.isSome + flag x.started 1) ++ leBytes 8 (ofSigned 64 (x.startPt.getD 0)) ++
    leBytes 4 x.playing

/-- An announcement from the twin link. -/
def State.annTake (s : State) (b : List Byte) : State :=
  (s.announce (le b 0 1) (b.drop 1)).modAnn (le b 0 1) fun x => { x with
    pos := le b 25 4, started := bit (le b 29 1) 1, playing := le b 38 4, applied := true
    startPt := if bit (le b 29 1) 0 then some (toSigned 64 (le b 30 8)) else none }

/-- The time stamps of `TSYNC`: whether active time is set, its value and its rate against local time. -/
def State.tsyncBody (s : State) : List Byte :=
  leBytes 1 s.twin.role.code ++ leBytes 1 (flag s.time.active.isSome) ++ leBytes 12 (ofSigned 96 (s.activeAt s.now)) ++
    leBytes 12 (ofSigned 96 (match s.time.active with
      | some d => (s.dom d).clock.ppb
      | none => 0))

/-- The bulk state of `RESYNC`, as selected by `MIRROR` (R501). -/
def State.resyncBody (s : State) : List Byte :=
  let on := bit s.twin.mirror
  (if on 1 then bulkPart 1 (leBytes 2 s.parse.cur.ver ++ leBytes 2 s.parse.cur.rules.length ++
      s.parse.cur.rules.flatMap Rule.bytes ++ s.parse.cur.graph) else []) ++
    (if on 2 then bulkPart 2 (mapMessage s.map.ver (some s.map.image) s.map.overlay) ++
      bulkPart 10 (s.sig.slots.cells.flatMap fun (c : Nat × Slot) => s.slotBulk c.1 c.2) else []) ++
    (if on 0 then bulkPart 11 (s.tbl.l2.cells.flatMap fun (c : Nat × L2Ent) => leBytes 4 c.1 ++ s.l2Bytes c.1) else []) ++
    (if on 3 then bulkPart 3 s.tsyncBody else []) ++
    (if on 4 then
      (s.aud.xpoints.cells.flatMap fun (c : Nat × XPoint) => bulkPart 12 ([0, 0] ++ leBytes 2 1 ++ leBytes 1 (c.1 / 256) ++
        leBytes 1 (c.1 % 256) ++ leBytes 1 c.2.gain ++ leBytes 1 c.2.level)) ++
      (s.aud.zones.cells.flatMap fun (c : Nat × Zone) => bulkPart 13 (zoneBulk c.1 c.2)) ++
      (s.aud.anns.cells.flatMap fun (c : Nat × Announce) => bulkPart 14 (annBulk c.1 c.2))
     else [])

/-! Applying mirrored state (R496, R497, R501). -/

/-- A rule version of the partner takes effect (R216, R496). A graph is only there if it changed. -/
def State.takeRules (s : State) (b : List Byte) : State :=
  let n := le b 2 2
  let graph := b.drop (4 + 160 * n)
  let s := s.ruleSwitch (le b 0 2) ((chunks (b.drop 4) 160 n).map ruleOf) (if graph.isEmpty then s.parse.cur.graph else graph)
  (s.parserUpdate 0).raiseOf 65 ⟨2, 2⟩ (le b 0 2)

/-- A map version of the partner takes effect (R334, R496); an older version still live ends. -/
def State.takeMap (s : State) (b : List Byte) : State :=
  let n := le b 3 2
  let direct := (chunks (b.drop 5) 10 n).map fun e => (le e 0 1, le e 1 1, le e 2 4, le e 6 4)
  let image := b.drop (5 + 10 * n)
  let s := match s.sig.old with
    | some o => s.mapExpire o
    | none => s
  let g := { s.sig with staged := if le b 2 1 = 1 then some (imgMap image) else none, stagedDirect := direct }
  (s.mapSwitch { g.pendingMap with ver := le b 0 2 }).raiseOf 68 ⟨3, 0⟩ (le b 0 2)

/-- Active time is steered to the partner's, to within 10 ns: where in that range is a free value (R497, log
entry 3). -/
def State.takeTime (s : State) (b : List Byte) : State :=
  if le b 1 1 = 0 then s
  else
    let (e, s) := s.drawBelow (20 * 65536 + 1)
    s.modTwin fun w => { w with
      steer := some { atNs := s.now, val := toSigned 96 (le b 2 12) + (e : Int) - 10 * 65536, ppb := toSigned 96 (le b 14 12) } }

/-- One mirrored change (R243, R496). -/
def State.takeMirror (s : State) (kind : Nat) (b : List Byte) : State :=
  if kind = 0 then
    let o := le b 0 1
    if o = 1 then s.learnQueue { port := le b 1 1, vid := le b 2 2, mac := field b 4 6, mirrored := true }
    else if o = 3 then
      match s.l2Find (le b 2 2) (field b 4 6) with
      | some i => if (s.l2e i).port = le b 1 1 then s.modL2e i fun e => { e with hit := true } else s
      | none => s
    else if o = 4 then s.ageScan
    else if o = 5 then s.windowEnd (le b 2 2)
    else (s.l2Flush (if le b 1 1 = 0xFF then none else some (le b 1 1)) (if le b 2 2 = 0 then none else some (le b 2 2))).1
  else if kind = 1 then s.takeRules b
  else if kind = 2 then s.takeMap b
  else if kind = 4 then
    let p := b.drop 1
    if le b 0 1 = 3 then s.routeSet p
    else if le b 0 1 = 4 then s.zoneSet p
    else if le b 0 1 = 5 then s.announce (le p 0 1) (p.drop 1)
    else s.announceStop (le p 0 1)
  else s

/-- One part of bulk state (R501). -/
def State.takeBulk (s : State) (kind : Nat) (b : List Byte) : State :=
  if kind = 1 then s.takeRules b
  else if kind = 2 then s.takeMap b
  else if kind = 3 then s.takeTime b
  else if kind = 10 then s.each (chunks b 34 (b.length / 34)) State.slotTake
  else if kind = 11 then (s.modTbl fun t => { t with l2 := {}, learnQ := [] }).each (chunks b 20 (b.length / 20)) State.l2Take
  else if kind = 12 then s.routeSet b
  else if kind = 13 then s.zoneSet b
  else s.annTake b

/-- `TWIN_MIRROR_RECEIVED` (R496): kind, change. Mirrored state that is stale waits for its refresh. The lag is
timing, a free value of at most 200 µs (log entry 3). -/
def execTwinMirrorReceived (t : Nat) (body : List Byte) (s : State) : Host.Outcome State Fault Refusal :=
  let s := s.tick t
  if !(s.standby || s.twin.role == .resyncing) || !bit s.twin.mirror (le body 0 1) || s.twin.stale then .next s
  else
    let (n, s) := s.drawBelow 201
    let s := (s.modTwin fun w => { w with lag := max w.lag n }).count 13 0 ctrTwinMirrorApplied
    .next (s.takeMirror (le body 0 1) (body.drop 1))

/-- `TWIN_RESYNC_RECEIVED` (R501): the copy is applied; a standby's stale kinds are fresh again (R496). -/
def execTwinResyncReceived (t : Nat) (body : List Byte) (s : State) : Host.Outcome State Fault Refusal :=
  let s := s.tick t
  if s.twin.role == .resyncing || (s.standby && s.twin.stale) then
    let s := s.each (bulkParts body.length body) fun s p => s.takeBulk p.1 p.2
    .next (s.modTwin fun w => { w with resyncDone := true, stale := false })
  else .next s

/-- `TWIN_TSYNC_SEND` (R488): every 31.25 ms on a link that is up. -/
def execTwinTsyncSend (t : Nat) (s : State) : Host.Outcome State Fault Refusal :=
  let s := s.tick t
  .next (if s.twin.role.paired && s.twin.linkUp && s.unitUp ⟨0, 41⟩ then s.send (.twin 6 s.tsyncBody) else s)

/-- `TWIN_TSYNC_RECEIVED` (R497): stamps of the active device, as measured on the link. -/
def execTwinTsyncReceived (t : Nat) (body : List Byte) (s : State) : Host.Outcome State Fault Refusal :=
  let s := s.tick t
  .next (if s.standby && bit s.twin.mirror 3 && le body 0 1 == 3 then s.takeTime body else s)

/-! The link (R488, R493, R494). -/

/-- `TWIN_HELLO_SEND` (R488): in every role but `SOLO` and `OUT`. -/
def execTwinHelloSend (t : Nat) (s : State) : Host.Outcome State Fault Refusal :=
  let s := (s.tick t).twinReview
  .next (if s.twin.role.paired && s.unitUp ⟨0, 41⟩ then s.send (.twin 0 s.twinHello) else s)

/-- `TWIN_HELLO_RECEIVED` (R488, R494): the link is up, the settings are compared; an active device sends bulk state
to a partner that asks for it (R501). -/
def execTwinHelloReceived (t : Nat) (body : List Byte) (s : State) : Host.Outcome State Fault Refusal :=
  let s := s.tick t
  let w := s.twin
  if !w.role.paired || !s.unitUp ⟨0, 41⟩ then .next s
  else
    let ok := le body 2 4 == w.leaseUs && le body 6 2 == w.guardUs && le body 8 1 == w.mirror &&
      le body 1 1 != flag w.sideB
    let wish := bit (le body 9 1) 1
    let known := w.partner.isSome && !w.partnerOk
    let s := s.modTwin fun w => { w with
      linkUp := true, partner := some (roleOf (le body 0 1)), partnerOk := ok
      partnerConsent := bit (le body 9 1) 0, resyncSent := wish && w.resyncSent
      copied := w.copied && (le body 0 1 == 2 || le body 0 1 == 5) }
    let s := if w.role == .active && w.partnerConsent && !s.twin.partnerConsent then s.ownWakeReq else s
    let s := if w.linkUp then s else s.twinPaths
    let s := if !ok && !known && w.role == .joining then s.twinPathEvent 4 else s
    let s := if wish && !s.twin.resyncSent && s.twin.role == .active then
        (s.modTwin fun w => { w with resyncSent := true, copied := true }).send (.twin 5 s.resyncBody)
      else s
    .next s.joinReview

/-- `TWIN_LINK_DOWN` (R488, R493, R496, R501). -/
def execTwinLinkDown (t : Nat) (s : State) : Host.Outcome State Fault Refusal :=
  let s := s.tick t
  let was := s.twin.linkUp
  let s := s.modTwin fun w => { w with linkUp := false, resyncSent := false, copied := false }
  .next (if s.twin.role == .resyncing then s.setRole .joining 4
    else if !was then s
    else
      let s := if s.standby && s.twin.mirror ≠ 0 && !s.twin.stale then
          (s.modTwin fun w => { w with stale := true }).count 13 0 ctrTwinMirrorStaleEvents
        else s
      s.twinPaths)

/-- `TWIN_RENEW_RECEIVED` (R491): a standby's claim timer restarts. The body is the partner's sequence number, which
nothing rests on. -/
def execTwinRenewReceived (t : Nat) (_body : List Byte) (s : State) : Host.Outcome State Fault Refusal :=
  let s := s.tick t
  .next (if s.standby then s.modTwin fun w => { w with claimFrom := some s.now } else s)

/-! Shadow comparison (R498). -/

/-- A queued message has not been matched within `SHADOW_MS` of its commit (R498). -/
def State.shadowOver (s : State) (m : BusMsg) : Bool := decide ((s.frame m.frame).atNs + s.twin.shadowMs * 1000000 ≤ s.now)

/-- `SHADOW_TIMEOUT` (R498). -/
def execShadowTimeout (t : Nat) (b : Fin 32) (s : State) : Host.Outcome State Fault Refusal :=
  let s := s.tick t
  let i := b.val
  if !s.standby then .next s
  else
    let bufs := ((s.bus i).tx.held3.filter fun k => s.shadowOver k.2).map fun k => k.1
    let deep := (s.bus i).tx.deep.filter s.shadowOver
    let missed := fun (s : State) => (s.count 13 (0x10000 + i) ctrShadowShadowMissing).mismatch i true
    let s := s.each bufs fun s n => missed (s.bufDrop i n)
    let s := s.each deep fun s m => missed ((s.deepTake i m).releaseRef m.frame)
    .next (s.refill i)

/-! Health (R499, R500). -/

/-- Sources that are latched. -/
def State.latchedCount (s : State) : Nat := (s.flt.srcs.cells.filter fun (c : Nat × Src) => c.2.st == .latched).length

/-- A standby is `FIT` (R500). -/
def State.fit (s : State) : Bool :=
  s.standby && s.latchedCount == 0 && s.critOn && !s.twin.stale && !s.twin.mismatchFlag

/-- The health report of this device now (R500). -/
def State.healthNow (s : State) : Health :=
  let w := s.twin
  { seq := w.repSeq, role := w.role.code
    flags := flag s.fit + flag w.stale 1 + flag (w.leaseIn == .broken) 2 + flag w.mismatchFlag 3
    slices := min w.slices 0xFFFF, fails := w.bistFails, shMatch := w.matched, shExtra := min w.extra 0xFFFF
    shMissing := min w.missing 0xFFFF, lag := min w.lag 0xFFFF, backlog := w.backlog
    firstFault := if s.flt.first.valid then s.flt.first.source else 0xFFFF, latched := s.latchedCount, time := s.activeNs }

/-- The 32 bytes of a report (R500). -/
def Health.bytes (h : Health) : List Byte :=
  leBytes 2 h.seq ++ leBytes 1 h.role ++ leBytes 1 h.flags ++ leBytes 2 h.slices ++ leBytes 2 h.fails ++ leBytes 4 h.shMatch ++
    leBytes 2 h.shExtra ++ leBytes 2 h.shMissing ++ leBytes 2 h.lag ++ leBytes 2 h.backlog ++ leBytes 2 h.firstFault ++
    leBytes 2 h.latched ++ leBytes 8 h.time

/-- A report in 32 bytes. -/
def healthOf (b : List Byte) : Health :=
  { seq := le b 0 2, role := le b 2 1, flags := le b 3 1, slices := le b 4 2, fails := le b 6 2, shMatch := le b 8 4
    shExtra := le b 12 2, shMissing := le b 14 2, lag := le b 16 2, backlog := le b 18 2, firstFault := le b 20 2
    latched := le b 22 2, time := le b 24 8 }

/-- The last report is now this one; EV115 with cause 1 where it changes `FIT` (R500). -/
def State.takeReport (s : State) (h : Health) : State :=
  let fit := bit h.flags 0
  let was := s.twin.fit
  let s := s.modTwin fun w => { w with report := some h, fit := fit }
  if fit = was then s else s.raise 115 0xFF noUnit (h.flags + 256)

/-- `TWIN_HEALTH_SEND` (R500, R501): every 100 ms from a standby; a resyncing device whose copy is applied becomes
standby with a first report that shows `FIT`. The report carries the worst controller besides, for R499. -/
def execTwinHealthSend (t : Nat) (s : State) : Host.Outcome State Fault Refusal :=
  let s := s.tick t
  let w := s.twin
  let joins := w.role == .resyncing && w.resyncDone && ({ s with twin := { w with role := .standby } } : State).fit
  let s := if joins then (s.setRole .standby 5).count 13 0 ctrTwinResyncs else s
  if !s.standby then .next s
  else
    let h := s.healthNow
    let s := (s.send (.twin 3 (h.bytes ++ leBytes 1 s.twin.worstBus))).count 13 0 ctrTwinReportsSent
    let s := s.modTwin fun w => { w with
      repSeq := (w.repSeq + 1) % 65536, slices := 0, matched := 0, extra := 0, missing := 0, lag := 0, perBus := {}
      mismatchFlag := false }
    .next (s.takeReport h)

/-- `TWIN_HEALTH_RECEIVED` (R499, R500): a gap in the sequence counts lost reports. -/
def execTwinHealthReceived (t : Nat) (body : List Byte) (s : State) : Host.Outcome State Fault Refusal :=
  let s := s.tick t
  if s.twin.role != .active then .next s
  else
    let h := healthOf body
    let s := match s.twin.reportAt, s.twin.report with
      | some _, some old => s.count 13 0 ctrTwinReportsLost ((h.seq + 65536 - old.seq - 1) % 65536)
      | _, _ => s
    let s := s.modTwin fun w => { w with reportAt := some s.now, reportMissed := false }
    let s := s.takeReport h
    .next (if bit h.flags 3 then s.raise 114 0xFF noUnit (le body 32 1) else s)

/-- `HEALTH_REPORT_TIMEOUT` (R500): no report for 300 ms, once for each gap. -/
def execHealthReportTimeout (t : Nat) (s : State) : Host.Outcome State Fault Refusal :=
  let s := s.tick t
  let since := max s.twin.roleAt (s.twin.reportAt.getD 0)
  .next (if s.twin.role == .active && !s.twin.reportMissed && decide (since + 300000000 ≤ s.now) then
      (s.modTwin fun w => { w with reportMissed := true }).raise 115 0xFF noUnit (match s.twin.report with
        | some h => h.flags
        | none => 0)
    else s)

/-- Sources of memories and units that a BIST slice tests (R467, R500). -/
def bistSources : List Nat :=
  [17, 33, 96, 98, 99, 100, 101, 103, 104, 105, 106, 107, 108, 109, 110, 111, 128, 129, 130, 131, 146, 154, 160, 161, 168]

/-- `BIST_SLICE` (R500). Which memory or unit a failed slice tested is a free value (log entry 3). -/
def execBistSlice (t : Nat) (pass : Bool) (s : State) : Host.Outcome State Fault Refusal :=
  let s := s.tick t
  if !s.standby then .next s
  else
    let s := (s.modTwin fun w => { w with slices := w.slices + 1 }).count 13 0 ctrTwinBistSlices
    if pass then .next s
    else
      let s := (s.modTwin fun w => { w with bistFails := min 0xFFFF (w.bistFails + 1) }).count 13 0 ctrTwinBistFails
      let (k, s) := s.drawBelow bistSources.length
      let n := bistSources.getD k 96
      let (u, s) := s.drawBelow (unitCount (srcIsland n))
      .next (s.report n (srcIsland n * 64 + u))

/-! Handover (R502). -/

/-- `HANDOVER_BUSES_IDLE` (R502 steps 3 and 5): the token goes, and the device is standby at once. -/
def execHandoverBusesIdle (t : Nat) (s : State) : Host.Outcome State Fault Refusal :=
  let s := s.tick t
  .next (if s.handoverDue then
      (((s.setRole .standby 3).send (.twin 4 [])).count 13 0 ctrTwinHandovers).completeOf 0x0D04 (fun _ => true) .ok
    else s)

/-- `TWIN_HANDOVER_RECEIVED` (R502 step 4): at once, or once `LEASE_IN` reads not held. -/
def execTwinHandoverReceived (t : Nat) (s : State) : Host.Outcome State Fault Refusal :=
  let s := s.tick t
  .next (if !s.standby then s
    else if s.twin.leaseIn == .notHeld then s.claim 3
    else s.modTwin fun w => { w with handoverIn := true })

/-! Commands (R503 to R505). -/

/-- Checks of `twin.config` (R489, R498, R499, R504): in a twin role only `SHADOW_MS` and `MISMATCH_LIMIT` may
change. -/
def checkTwinConfig (s : State) (p : List Byte) : Check :=
  let w := s.twin
  let may := fun (same : Bool) => !w.role.paired || same
  firstFail [needLen (p.length == 16), need (le p 0 1 ≤ 1 && may (le p 0 1 == flag w.sideB)) 0,
    need (le p 1 1 ≤ 31 && may (le p 1 1 == w.mirror)) 1, need (le p 2 1 ≤ 1 && may (le p 2 1 == flag w.blind)) 2,
    need (bit (le p 3 1) 2 && bit (le p 3 1) 5 && !bit (le p 3 1) 7 && may (le p 3 1 == w.crit)) 3,
    need (inRange (le p 4 4) 500 100000 && may (le p 4 4 == w.leaseUs)) 4,
    need (inRange (le p 8 2) 200 2000 && may (le p 8 2 == w.guardUs)) 8, needField p 10 2 1 1000, needField p 12 1 1 255,
    needZeros p 13 3]

/-- Effect of `twin.config` (R504). -/
def effectTwinConfig (s : State) (p : List Byte) : State × Reply :=
  (s.modTwin fun w => { w with
    sideB := le p 0 1 == 1, mirror := le p 1 1, blind := le p 2 1 == 1, crit := le p 3 1, leaseUs := le p 4 4
    guardUs := le p 8 2, shadowMs := le p 10 2, mismatch := le p 12 1 }, .ok p)

/-- `TWIN_CONFIG` (R504). -/
def execTwinConfig (t : Nat) (m : Fin 8) (s : State) : Host.Outcome State Fault Refusal :=
  .next (s.simple t m 0x0D01 checkTwinConfig effectTwinConfig)

/-- Effect of `twin.enable` (R91, R494): joining, with a `HELLO` at once. -/
def effectTwinEnable (s : State) (_ : List Byte) : State × Reply :=
  if s.twin.role.paired then (s, .ok)
  else
    let s := s.setRole .joining 0
    let s := s.modTwin fun w => { w with
      everEnabled := true, partner := none, partnerOk := false, report := none, reportAt := none, fit := false, stale := false
      bistFails := 0, linkUp := false }
    ((if s.unitUp ⟨0, 41⟩ then s.send (.twin 0 s.twinHello) else s).joinReview, .ok)

/-- `TWIN_ENABLE` (R494). -/
def execTwinEnable (t : Nat) (m : Fin 8) (s : State) : Host.Outcome State Fault Refusal :=
  .next (s.simple t m 0x0D02 checkEmpty effectTwinEnable)

/-- The last report of the partner is less than 300 ms old (R503). -/
def State.partnerHeard (s : State) : Bool :=
  match s.twin.reportAt with
  | some r => decide (s.now < r + 300000000)
  | none => false

/-- Checks of `twin.disable` (R503). -/
def checkTwinDisable (s : State) (p : List Byte) : Check :=
  firstFail [needLeave (!(s.twin.role == .active && s.partnerHeard)), needLen p.isEmpty]

/-- Effect of `twin.disable` (R91, R503). -/
def effectTwinDisable (s : State) (_ : List Byte) : State × Reply :=
  if !s.twin.role.paired then (s, .ok)
  else ((s.setRole (if s.twin.role == .active then .solo else .out) 0).modTwin fun w => { w with linkUp := false }, .ok)

/-- `TWIN_DISABLE` (R503). -/
def execTwinDisable (t : Nat) (m : Fin 8) (s : State) : Host.Outcome State Fault Refusal :=
  .next (s.simple t m 0x0D03 checkTwinDisable effectTwinDisable)

/-- Checks of `twin.handover` (R502 step 1). -/
def checkTwinHandover (s : State) (p : List Byte) : Check :=
  firstFail [needLeave (s.twin.role == .active && s.twin.fit && s.twin.report.isSome && s.twin.linkUp), needLen p.isEmpty]

/-- `TWIN_HANDOVER` (R502): the refill engines stop; `HANDOVER_BUSES_IDLE` completes it. -/
def execTwinHandover (t : Nat) (m : Fin 8) (s : State) : Host.Outcome State Fault Refusal :=
  .next (s.begins t m 0x0D04 checkTwinHandover fun s _ => s.modTwin fun w => { w with
    handover := some (s.mb m).acceptedAt })

/-- Microseconds until the lease of a holder expires or the claim timer of a standby ends (R505). A part of a
microsecond may count as one, as the free value `d` decides (log entry 3). -/
def State.leaseLeft (s : State) (d : Nat) : Nat :=
  let e := if s.twin.role.holder then s.twin.renewedAt + s.twin.leaseUs * 1000 else s.twin.claimAt.getD 0
  (e - s.now) / 1000 + (if (e - s.now) % 1000 = 0 then 0 else d % 2)

/-- Effect of `twin.status` (R505): only the free value is drawn. -/
def effectTwinStatus (s : State) (_ : List Byte) : State × Reply :=
  let w := s.twin
  (s.draw.2, .ok (leBytes 1 w.role.code ++ leBytes 1 (match w.partner with
      | some r => r.code
      | none => 0xFF) ++
    leBytes 1 (match w.leaseIn with
      | .notHeld => 0
      | .held => 1
      | .broken => 2) ++ leBytes 1 (flag w.linkUp) ++ leBytes 4 (s.leaseLeft s.draw.1) ++ List.replicate 8 0 ++
    (match w.report with
      | some h => h.bytes
      | none => List.replicate 32 0)))

/-- `TWIN_STATUS` (R505). -/
def execTwinStatus (t : Nat) (m : Fin 8) (s : State) : Host.Outcome State Fault Refusal :=
  .next (s.simple t m 0x0D05 checkEmpty effectTwinStatus)

end Sys2Proof.Machine
end

