-- ==== Sys2Proof/Machine/Causeway.lean ====
section
/-! DEFINITION. Causeway configuration, HELLO, sessions, topology and forwarded events (R508 to R526, R531 to
R537). -/

namespace Sys2Proof.Machine

open Sys2Proof

/-! HELLO and neighbours (R520, R525, R526). -/

/-- Firmware writes a change of the settings (R586, R587): into the set that is not active, which thereby becomes the
active one; while a trial image keeps the old format up as well, into the set of its own format and then into that of the
old one. -/
def State.persist (s : State) (f : Settings → Settings) : State :=
  s.modBoot fun b =>
    let n := max b.settings.seq b.setOther.seq + 1
    let x := { f b.settings with seq := n, valid := true }
    match x.dual with
    | some old => { b with settings := x, setOther := { x with format := old, seq := n + 1, dual := none } }
    | none => { b with settings := x, setOther := b.settings }

/-- The causeway header of a received outer frame (R508). -/
def outerHead (b : List Byte) : CwHead := cwHead (field b 14 16)

/-- `CW_HELLO_SEND` (R520). -/
def execCwHelloSend (t : Nat) (p : Fin 24) (s : State) : Host.Outcome State Fault Refusal :=
  .next ((s.tick t).hello p)

/-- A HELLO of the neighbour (R520): who it is, and a session where its `NONCE` is new (R525). -/
def State.takeHello (s : State) (p : Nat) (h : CwHead) (mac b : List Byte) : State :=
  let x := (s.port p).cw
  let old := s.chain
  let nonce := field b 4 8
  let fresh := nonce != x.peerNonce
  let s := s.modPort p fun y => { y with
    cw := { y.cw with
      nbUp := true, nbHeard := s.now, nbId := h.srcId, nbStrap := le b 1 1, nbBundle := le b 12 1, nbMac := mac
      peerNonce := nonce } }
  let s := if x.nbUp then s else s.cwLinkEvent p 0
  let s := if fresh && x.enc then (s.cwSession p).encJudge p else s
  let s := s.chainSettle old
  if x.nbUp && x.nbId = h.srcId then s else s.topologySend

/-- A link message or topology message of a type that firmware takes from a port (R510, R511): a control frame on a causeway
port, its header in order. -/
def State.cwControl (s : State) (p : Nat) (outer : List Byte) (ctype : Nat) : Bool :=
  s.fwUp && (s.port p).cfg.causeway && s.isCw outer && cwHeadOk (field outer 14 16) && (outerHead outer).kind == 2 &&
    le outer 30 1 == ctype

/-- `CW_HELLO_RECEIVED` (R520): the whole outer frame. -/
def execCwHelloReceived (t : Nat) (p : Fin 24) (body : List Byte) (s : State) : Host.Outcome State Fault Refusal :=
  let s := s.tick t
  .next (if s.cwControl p body 1 && (s.port p).linkUp then s.takeHello p (outerHead body) (field body 6 6) (body.drop 30)
    else s)

/-- `CW_ENGINE_CLAIM` (R526): an encrypting port that waits takes the engines that are free for it. -/
def execCwEngineClaim (t : Nat) (p : Fin 24) (s : State) : Host.Outcome State Fault Refusal :=
  let s := s.tick t
  .next (if !(s.port p).cfg.causeway || !(s.port p).cw.enc then s
    else
      let s := (s.cwClaim p 0).cwClaim p 1
      let x := (s.port p).cw
      let s := s.modSec fun z => { z with
        engWait := z.engWait.filter fun w => !((w.1 == cwClient p 0 && x.engTx.isSome) || (w.1 == cwClient p 1 && x.engRx.isSome)) }
      let s := if x.engTx.isSome && x.engRx.isSome && x.sessTx.isNone then s.cwSession p else s
      s.encJudge p)

/-- `NEIGHBOUR_LOST` (R520): 30 ms without a HELLO. -/
def execNeighbourLost (t : Nat) (p : Fin 24) (s : State) : Host.Outcome State Fault Refusal :=
  let s := s.tick t
  .next (if s.fwUp && (s.port p).cw.nbUp && decide ((s.port p).cw.nbHeard + 30000000 ≤ s.now) then s.nbLost p else s)

/-! The chain map (R519, R521 to R523). -/

/-- The ID of the device becomes another; what follows from the chain map follows (R517, R519, R521). -/
def State.setId (s : State) (id : Nat) : State :=
  let old := s.chain
  ((s.modCw fun c => { c with id := id }).chainSettle old).topologySend

/-- The lowest `MAC_ADDR` of the causeway ports (R521). -/
def State.lowMac (s : State) : Nat := ((s.cwPorts.map fun p => beNum (s.port p).cfg.mac).min?).getD 0

/-- A topology message (R521, R522): the own ID of another device, or news of a device. -/
def State.takeTopology (s : State) (b : List Byte) : State :=
  let id := le b 1 1
  let mac := be b 4 6
  if id = 0 then s
  else if id = s.cw.id then
    if mac = s.lowMac || s.lowMac < mac then s
    else (s.setId 0).raise 118 0xFF noUnit id
  else
    let old := s.chain
    (s.modPeer id fun _ =>
      { strap := le b 2 1, cascade := le b 3 1, mac := mac, nbs := (List.range 4).map fun k => le b (10 + k) 1
        heard := s.now }).chainSettle old

/-- `TOPOLOGY_SEND` (R521). -/
def execTopologySend (t : Nat) (s : State) : Host.Outcome State Fault Refusal := .next (s.tick t).topologySend

/-- `TOPOLOGY_RECEIVED` (R521, R522): the whole outer frame. -/
def execTopologyReceived (t : Nat) (p : Fin 24) (body : List Byte) (s : State) : Host.Outcome State Fault Refusal :=
  let s := s.tick t
  .next (if s.cwControl p body 2 then s.takeTopology (body.drop 30) else s)

/-- `DEVICE_UNHEARD` (R521): 300 ms without a topology message. -/
def execDeviceUnheard (t : Nat) (id : Fin 256) (s : State) : Host.Outcome State Fault Refusal :=
  let s := s.tick t
  .next (match s.cw.peers.find id with
    | none => s
    | some x =>
      if s.fwUp && decide (x.heard + 300000000 ≤ s.now) then
        let old := s.chain
        (s.modCw fun c => { c with peers := c.peers.erase id }).chainSettle old
      else s)

/-- `CW_EVENT_RECEIVED` (R531): at the master, the record of another device raises EV116. -/
def execCwEventReceived (t : Nat) (dev : Nat) (body : List Byte) (s : State) : Host.Outcome State Fault Refusal :=
  let s := s.tick t
  .next (if s.fwUp && s.isMaster then s.raise 116 0xFF noUnit (le body 0 1 + dev % 256 * 256 + be body 6 2 * 65536) else s)

/-! Commands (R533 to R535). -/

/-- Two settings of the causeway ports join them into one link or one bundle (R515). -/
def oneBundle (s : State) (p : List Byte) : Bool :=
  match s.cwPorts with
  | [] | [_] => true
  | q :: r => bits (le p (32 + 8 * q) 1) 0 2 != 0 && r.all fun k => bits (le p (32 + 8 * k) 1) 0 2 == bits (le p (32 + 8 * q) 1) 0 2

/-- A handle that an encrypting port may use: a slot of purpose `CAUSEWAY` (R525). A device that is not enrolled has
none yet (R455). -/
def State.cwHandleOk (s : State) (h : Nat) : Bool :=
  let k := s.keySlot (handleSlot h)
  !s.sec.enrolled || (k.valid && k.gen == handleGen h && k.purpose == 3)

/-- Checks of the entry of one port (R525, R534). -/
def cwPortChecks (s : State) (p : List Byte) (k : Nat) : List Check :=
  let o := 32 + 8 * k
  let enc := bit (le p o 1) 2
  [need (decide (le p o 1 < 8) && bits (le p o 1) 0 2 != 3) o, needZeros p (o + 1) 1,
    need (!enc || s.cwHandleOk (le p (o + 2) 2)) (o + 2), need (!enc || s.cwHandleOk (le p (o + 4) 2)) (o + 4),
    needZeros p (o + 6) 2]

/-- Checks of `cw.config` (R515, R525, R534). -/
def checkCwConfig (s : State) (p : List Byte) : Check :=
  firstFail ([needLeave (!((List.range 4).any fun k => bit (le p (32 + 8 * k) 1) 2) || !(s.isl 4).hold),
    needLen (p.length == 64),
    need (le p 0 1 ≤ 2 && (le p 0 1 != 1 || (oneBundle s p && decide (s.chain.length ≤ 1)))) 0, needField p 1 1 1 255,
    need (!bit (le p 2 1) 0 && (le p 2 1 == 0 || le p 0 1 == 1)) 2, needZeros p 3 1, needField p 4 2 0x600 0xFFFF,
    needField p 6 2 1 10000, needZeros p 8 8] ++ (List.range 4).flatMap (cwPortChecks s p) ++
    [needRoom (decide (((List.range 4).filter fun k => bit (le p (32 + 8 * k) 1) 2).length ≤ 2))])

/-- The settings of one port; a change renegotiates its neighbour state and session (R534). -/
def State.cwPortSet (s : State) (p : List Byte) (k : Nat) : State :=
  let o := 32 + 8 * k
  let x := (s.port k).cw
  let y := { x with
    bundle := bits (le p o 1) 0 2, enc := bit (le p o 1) 2, keyTx := le p (o + 2) 2, keyRx := le p (o + 4) 2 }
  if x = y then s
  else
    let s := s.modPort k fun z => { z with cw := y }
    if (s.port k).cfg.causeway then s.cwRenew k else s

/-- Effect of `cw.config` (R534): `DETAIL` 1 while engines are awaited (R526). A change of what HELLO says is sent at
once (R520). -/
def effectCwConfig (s : State) (p : List Byte) : State × Reply :=
  let old := s.chain
  let news := le p 0 1 != s.cw.cascade
  let s := s.modCw fun c => { c with
    cascade := le p 0 1, hopLimit := le p 1 1, peerMbx := le p 2 1, etype := le p 4 2, ageLimit := le p 6 2
    evtFwd := le p 16 16 }
  let s := (s.each (List.range 4) fun s k => s.cwPortSet p k).chainSettle old
  let s := if news then (s.each s.cwPorts State.hello).topologySend else s
  let waits := s.cwPorts.any fun k => (s.port k).cw.enc && ((s.port k).cw.engTx.isNone || (s.port k).cw.engRx.isNone)
  (s, .ok p (flag waits))

/-- `CW_CONFIG` (R534). -/
def execCwConfig (t : Nat) (m : Fin 8) (s : State) : Host.Outcome State Fault Refusal :=
  .next (s.simple t m 0x0E01 checkCwConfig effectCwConfig)

/-- Checks of `cw.id.set` (R533). -/
def checkCwIdSet (_ : State) (p : List Byte) : Check :=
  firstFail [needLen (p.length == 2), needField p 0 1 0 254, needField p 1 1 0 1]

/-- Effect of `cw.id.set` (R519, R533). -/
def effectCwIdSet (s : State) (p : List Byte) : State × Reply :=
  let was := s.cw.id
  let s := if was = le p 0 1 then s else s.setId (le p 0 1)
  let s := if bit (le p 1 1) 0 then s.persist fun x => { x with cwId := le p 0 1 } else s
  (s, .ok (leBytes 1 was))

/-- `CW_ID_SET` (R533). -/
def execCwIdSet (t : Nat) (m : Fin 8) (s : State) : Host.Outcome State Fault Refusal :=
  .next (s.simple t m 0x0E02 checkCwIdSet effectCwIdSet)

/-- One entry of the topology layout (R535). -/
def State.topologyEntry (s : State) (id hops via strap cascade age : Nat) : List Byte :=
  leBytes 1 id ++ leBytes 1 hops ++ leBytes 1 via ++ leBytes 1 strap ++ leBytes 1 cascade ++
    leBytes 1 (flag (id == s.cw.master) + flag (decide (via ≤ 3) && (s.port via).cw.enc) 1) ++ leBytes 2 (min 0xFFFF age)

/-- Answer of `cw.topology` (R535). -/
def answerCwTopology (s : State) (_ : List Byte) : Reply :=
  let own := if s.cw.id = 0 then [] else
    s.topologyEntry s.cw.id 0 0xFF s.boot.pins.strap s.cw.cascade ((s.now - s.cw.topoAt) / 1000000)
  .ok (leBytes 1 s.cw.id ++ leBytes 1 s.cw.master ++ leBytes 1 (s.chain.length + (if s.cw.id = 0 then 0 else 1)) ++
    leBytes 1 s.cw.ring ++ List.replicate 4 0 ++ own ++ s.chain.flatMap fun e =>
      let x := s.peer e.1
      s.topologyEntry e.1 e.2.1 e.2.2 x.strap x.cascade ((s.now - x.heard) / 1000000))

/-- `CW_TOPOLOGY` (R535). -/
def execCwTopology (t : Nat) (m : Fin 8) (s : State) : Host.Outcome State Fault Refusal :=
  .next (s.query t m 0x0E03 checkEmpty answerCwTopology)

end Sys2Proof.Machine
end

