-- ==== Sys2Proof/Machine/Reset.lean ====
section
/-! DEFINITION. What a reset, a brown-out, sleep or the loss of `VDD_AON` leaves of the state (R466, R540, R541, R594,
R603, R606). The committed configuration of every group stands where it is kept from the start on (log entry 19). -/

namespace Sys2Proof.Machine

open Sys2Proof

/-- What stays of the transmit side of a controller: its settings. -/
def BusTx.settled (t : BusTx) : BusTx := { defClass := t.defClass, pool := t.pool }

/-- What stays of the wake and ring side of a controller: its settings. -/
def BusWake.settled (w : BusWake) : BusWake :=
  { wakeFilters := w.wakeFilters, wupEn := w.wupEn, ringOn := w.ringOn, ringId := w.ringId
    nodeSlotMs := w.nodeSlotMs, ringNodes := w.ringNodes }

/-- What stays of a controller: its settings, the enable and the ordered mode; its pins are recessive and low (R540). -/
def Bus.settled (x : Bus) : Bus :=
  { cfg := x.cfg, enabled := x.enabled, restricted := x.wantMode.getD x.restricted, tx := x.tx.settled
    filters := x.filters, defDest := x.defDest, wk := x.wk.settled }

/-- What stays of the egress of a port: its settings. -/
def EthEg.settled (g : EthEg) : EthEg :=
  { ctEn := g.ctEn, pcpTrust := g.pcpTrust, defClass := g.defClass, portHold := g.portHold, pcpMap := g.pcpMap
    pool := g.pool, drrTop := g.drrTop, slope5 := g.slope5, slope6 := g.slope6, quantum := g.quantum }

/-- What stays of a port: its settings and the enable; the neighbour's address is kept for R555. -/
def Eth.settled (x : Eth) : Eth :=
  { cfg := x.cfg, enabled := x.enabled && !x.disabling
    rateMb := x.rateMb, half := x.half
    pz := { highWm := x.pz.highWm, lowWm := x.pz.lowWm, quanta := x.pz.quanta }
    patterns := x.patterns, magic := x.magic
    step := { enable := x.step.enable && !x.step.stepUpThenOff, windowMs := x.step.windowMs
              downPct := x.step.downPct, upKiB := x.step.upKiB }
    eg := x.eg.settled
    cw := { bundle := x.cw.bundle, enc := x.cw.enc, keyTx := x.cw.keyTx, keyRx := x.cw.keyRx, nbMac := x.cw.nbMac
            encWait := x.cw.enc }
    rxLat := x.rxLat, txLat := x.txLat
    l2 := { l2FlushDown := x.l2.l2FlushDown, l2Limit := x.l2.l2Limit } }

/-- What stays of the parser: the current bank and the policers, with full buckets. -/
def Parse.settled (p : Parse) : Parse :=
  { cur := p.cur
    policers := p.policers.map fun _ (x : Policer) =>
      { x with cLevel := x.cbs * 8000000, pLevel := x.pbs * 8000000 } }

/-- What stays of the tables: routes, VLANs, streams and settings; the L2 table only where LPDDR4X kept it (R541). -/
def Tables.settled (t : Tables) (kept : Bool) : Tables :=
  { nodes := t.nodes, routes := t.routes, hops := t.hops, spaceLow := t.spaceLow
    l2 := if kept then t.l2 else {}
    ageS := t.ageS, moveLimit := t.moveLimit, holdMs := t.holdMs, routers := t.routers
    vlans := t.vlans, streams := t.streams }

/-- What stays of the switch core: its settings. -/
def Switch.settled (w : Switch) : Switch :=
  { nextId := w.nextId, admitCount := w.admitCount
    pools := w.pools.map fun _ (p : Pool) => { size := p.size, lowFree := p.lowFree }
    ageLimit := w.ageLimit, ringClass := w.ringClass }

/-- What stays of the signal engine: the map, and the store only where LPDDR4X kept it (R541); a kept value is no
longer fresh. Otherwise each slot takes the initial value of the map. -/
def Sig.settled (g : Sig) (kept : Bool) : Sig :=
  { cur := g.cur
    slots := if kept then g.slots.map fun _ (x : Slot) => if x.fresh then x.lapse else x
      else { cells := g.cur.slots.cells.map fun (c : Nat × SlotDef) => (c.1, Slot.initial c.2.init) }
    staleCount := if kept then g.staleCount + (g.slots.cells.filter fun c => c.2.fresh && !c.2.stale).length else 0 }

/-- What stays of a time domain: its settings. -/
def Domain.settled (d : Domain) (now : Nat) : Domain :=
  { enable := d.enable, profile := d.profile, num := d.num, ports := d.ports, transport := d.transport
    syncTimeout := d.syncTimeout, annTimeout := d.annTimeout, kp := d.kp, ki := d.ki, lockCount := d.lockCount
    lockNs := d.lockNs, fmaxPpm := d.fmaxPpm, stepNs := d.stepNs
    dstate := if d.enable then .listening else .disabled, lastSync := now, lastAnn := now }

/-- What stays of a time trigger: an armed one is judged again once active time is set (R361). -/
def TimeTrig.settled (x : TimeTrig) : TimeTrig := { x with judged := false, index := 0 }

/-- What stays of the time unit: local time starts at 0, active time is unset (R342, R344); the real-time counter
counts on. -/
def Time.settled (u : Time) (now : Nat) : Time :=
  { startAt := now, doms := u.doms.map fun _ (d : Domain) => d.settled now
    slewPpm := u.slewPpm, fslew := u.fslew, refOk := u.refOk
    trigs := u.trigs.map fun _ (x : TimeTrig) => x.settled
    ins := u.ins.map fun _ (x : TimeIn) => { edges := x.edges }
    recalAt := now, rtcBase := u.rtcBase }

/-- What stays of the audio unit: its settings, and the library where LPDDR4X kept it (R541). -/
def Audio.settled (a : Audio) (kept : Bool) : Audio :=
  { ports := a.ports.map fun _ (x : TdmPort) =>
      { enable := x.enable, rate16 := x.rate16, slots := x.slots, trig := x.trig, inBase := x.inBase
        outBase := x.outBase, inDelay := x.inDelay }
    streams := a.streams.map fun _ (x : AafStream) =>
      { enable := x.enable, fromOut := x.fromOut, fmt := x.fmt, rate16 := x.rate16, channels := x.channels
        spf := x.spf, streamId := x.streamId, chBase := x.chBase, handle := x.handle, adj := x.adj
        ports := x.ports, cls := x.cls, talkAdd := x.talkAdd, template := x.template }
    xpoints := a.xpoints.map fun _ (x : XPoint) => { gain := x.gain, level := x.level }
    zones := a.zones.map fun _ (x : Zone) =>
      { duckMask := x.duckMask, duckDb := x.duckDb, upMs := x.upMs, downMs := x.downMs, outputs := x.outputs }
    lib := if kept then a.lib else {} }

/-- What stays of the tide queues and rings: their settings; every queue is empty and every ring disabled (R541). -/
def Tide.settled (t : Tide) : Tide :=
  { qs := t.qs.map fun _ (x : TideQ) => { sizeKiB := x.sizeKiB, spillMiB := x.spillMiB, level := x.level }
    rings := t.rings.map fun _ (x : Ring) =>
      { size := x.size, queue := x.queue, evtPkts := x.evtPkts, base := x.base, starveUs := x.starveUs
        evtUs := x.evtUs } }

/-- What stays of the Security Island: generations and recipes, enrolment, and the tamper state of the Always-On
Island; no key and no lock (R444, R452, R453). -/
def Sec.settled (x : Sec) : Sec :=
  { x with
    engines := {}, engWait := [], entropyOk := true
    slots := x.slots.map fun _ (k : KeySlot) => { gen := k.gen, failSeen := k.failSeen, recipe := k.recipe } }

/-- What stays of the collector: source states, budgets, settings and the first-fault record (R466). Forces go with
the Control Island (R477); quiet periods start again, and the pairs of units that start anew read quiet. -/
def Faults.settled (f : Faults) : Faults :=
  { f with
    window := [], windowOpen := none, storm := 0, mdioRetry := 0
    srcs := f.srcs.map fun _ (x : Src) => { x with
      pair := 1, force := 0, dry := false, quietFrom := none, st := if x.st = .broken then .quiet else x.st } }

/-- What stays of an island: its hold, a latch that holds it, its strait timeout. -/
def Island.settled (x : Island) (p : Power) : Island :=
  { power := if x.latchedBy.isSome then .isolated else if x.hold then .off else p
    hold := x.hold, cause := x.cause, latchedBy := x.latchedBy, straitNs := x.straitNs }

/-- The islands other than the Always-On Island (R14). -/
def State.islandsSet (s : State) (p : Power) : State :=
  { s with
    islands := { cells := (List.range 6).map fun i => (i, (s.isl i).settled p) }
    units := (s.units.filter fun _ (u : UnitSt) => u.latchedBy.isSome).map fun _ (u : UnitSt) =>
      { cause := u.cause, latchedBy := u.latchedBy } }

/-- What stays of the chain: its settings (R534). -/
def Cw.settled (c : Cw) : Cw :=
  { id := c.id, cascade := c.cascade, hopLimit := c.hopLimit, peerMbx := c.peerMbx, etype := c.etype
    ageLimit := c.ageLimit, evtFwd := c.evtFwd }

/-- What stays of the twin where the Always-On Island keeps running: role, token and lease readings (R557). -/
def Twin.settled (w : Twin) : Twin :=
  { w with
    heartbeat := none, linkUp := false, partnerConsent := false, reportAt := none
    reportMissed := false, stale := w.role == .standby, backlog := 0, resyncDone := false, handover := none
    handoverIn := false, resyncSent := false, steer := none, perBus := {}, matched := 0, extra := 0, missing := 0 }

/-- What stays of the twin after a device reset: its settings; the role is `SOLO` (R486). -/
def Twin.fresh (w : Twin) (now : Nat) : Twin :=
  { sideB := w.sideB, mirror := w.mirror, blind := w.blind, crit := w.crit, leaseUs := w.leaseUs
    guardUs := w.guardUs, shadowMs := w.shadowMs, mismatch := w.mismatch, leaseIn := w.leaseIn, leaseInAt := now }

/-- What stays of the sleep manager: its settings and the wake record (R567). -/
def Sleep.kept (z : Sleep) : Sleep :=
  { ringEn := z.ringEn, autoConsent := z.autoConsent, propagate := z.propagate, lapInterval := z.lapInterval
    lapTimeout := z.lapTimeout, settleMs := z.settleMs, awakeCap := z.awakeCap, alarmS := z.alarmS
    lapSeq := z.lapSeq, record := z.record
    log := z.log.map fun e => { e with capped := false } }

/-- What stays of start-up: the flash, the settings and what firmware still has to report. A staging area left in
state 1 is discarded (R576). -/
def Boot.settled (b : Boot) : Boot :=
  let torn := b.d.stgState == 1
  { flashOk := b.flashOk, flashMiB := b.flashMiB
    d := { b.d with stgState := if torn then 0 else b.d.stgState }
    swap := b.swap, swapDone := b.swapDone, swapTotal := b.swapTotal, lastResult := b.lastResult
    fallCause := b.fallCause
    running := b.running, staging := if torn then {} else b.staging
    actWait := b.actWait, pendEvents := b.pendEvents, settings := b.settings, setOther := b.setOther, lpddr := b.lpddr, pins := b.pins
    phase := .off, reportOwed := b.reportOwed }

/-- The islands other than the Always-On Island lose what is not kept. `kept` says that LPDDR4X kept its contents
(R541); otherwise only the counters of start-up stay (R594). -/
def State.coreReset (s : State) (kept : Bool) (p : Power) : State :=
  let s := s.islandsSet p
  { s with
    windows := [], chans := {}, mbx := {}, host := { part := s.host.part, perst := s.host.perst }
    ctrs := if kept then s.ctrs else s.ctrs.filter fun k _ => k / 2 ^ 48 == 16
    buses := s.buses.map fun _ (x : Bus) => x.settled
    eth := s.eth.map fun _ (x : Eth) => x.settled
    parse := s.parse.settled
    tbl := s.tbl.settled kept
    sw := s.sw.settled
    sig := s.sig.settled kept
    time := s.time.settled s.now
    aud := s.aud.settled kept
    tide := s.tide.settled
    sec := s.sec.settled
    flt := s.flt.settled
    twin := s.twin.settled
    cw := s.cw.settled
    slp := s.slp.kept
    boot := s.boot.settled }

/-- The whole device is reset, the Always-On Island with it, except for the kept state (R606): the twin is `SOLO`, the
real-time counter starts again, every tamper input is enabled and active high until step 3 (R449). -/
def State.deviceReset (s : State) : State :=
  let s := s.coreReset false .on
  { s with
    twin := s.twin.fresh s.now
    time := { s.time with rtcBase := s.now }
    slp := { s.slp with log := [] }
    sec := { s.sec with ten := 0xF, tpol := 0xF, wipe := 0 } }

/-- What the loss of `VDD_AON` clears beside a reset: the kept fault state, the tamper record, the wake record and the
counters of start-up (R453, R466, R594). Flash and OTP stay. -/
def State.aonLost (s : State) : State :=
  let s := s.deviceReset
  { s with
    ctrs := {}
    islands := {}
    units := {}
    flt := {}
    slp := { s.slp with record := {} }
    sec := { s.sec with record := {}, pendTamper := [], clearMark := false, alarms := 0 } }

end Sys2Proof.Machine
end

