-- ==== Sys2Proof/Machine/Sleep.lean ====
section
/-! DEFINITION. Wake, sleep and the lights-out ring (R539 to R566). -/

namespace Sys2Proof.Machine

open Sys2Proof

/-! The refusal log and the awake cap (R558, R559). -/

/-- The entry of a member. -/
def State.refusal (s : State) (bus node : Nat) : Option RefusalEnt :=
  s.slp.log.find? fun e => e.bus == bus && e.node == node

/-- Change the entry of a member. -/
def State.modRefusal (s : State) (bus node : Nat) (f : RefusalEnt → RefusalEnt) : State :=
  s.modSlp fun z => { z with log := z.log.map fun e => if e.bus == bus && e.node == node then f e else e }

/-- A new entry; a full log of 64 replaces the one with the oldest `LAST_S` (R558). -/
def State.addRefusal (s : State) (e : RefusalEnt) : State :=
  s.modSlp fun z => { z with
    log := if z.log.length < 64 then z.log ++ [e]
      else
        let oldest := (z.log.map fun x => x.lastAt).min?.getD 0
        match z.log.findIdx? fun x => x.lastAt == oldest with
        | some i => z.log.set i e
        | none => z.log }

/-- Seconds between two instants, saturating in 16 bits. -/
def secondsIn (a b : Nat) : Nat := min ((b - a) / 1000000000) 0xFFFF

/-- A member's bit is clear in a lap (R558): EV122 when it starts refusing and every other bit was set. -/
def State.refuses (s : State) (bus node reason : Nat) (others : Bool) : State :=
  let going := match s.refusal bus node with | some e => e.refusing | none => false
  let fresh : RefusalEnt :=
    { bus := bus, node := node, reason := reason, laps := 1, since := s.now, lastAt := s.now }
  if going then
    s.modRefusal bus node fun e => { e with
      reason := reason, laps := min (e.laps + 1) 0xFFFF, lastAt := s.now, durS := secondsIn e.since s.now }
  else
    let s := if (s.refusal bus node).isSome then s.modRefusal bus node fun _ => fresh else s.addRefusal fresh
    if others then s.raise 122 0xFF noUnit (node + bus * 256) else s

/-- A member's bit is set in a lap: it no longer refuses and no override holds (R558, R559). -/
def State.consents (s : State) (bus node : Nat) : State :=
  s.modRefusal bus node fun e => { e with
    refusing := false, capped := false, durS := if e.refusing then secondsIn e.since s.now else e.durS }

/-- An override of the awake cap holds for a member (R559). -/
def State.capHolds (s : State) (bus node : Nat) : Bool :=
  match s.refusal bus node with | some e => e.capped | none => false

/-- A member has refused for longer than the awake cap (R559). -/
def State.capDue (s : State) (bus node : Nat) : Bool :=
  match s.refusal bus node with
  | some e => s.slp.awakeCap != 0 && e.refusing && decide (e.since + s.slp.awakeCap * 1000000000 < s.now)
  | none => false

/-- Judge a lap over its members (R558, R559): the log follows each bit, and the lap is full when every member
consents or is overridden. -/
def State.lapJudge (s : State) (bus : Nat) (members : List Nat) (isSet : Nat → Bool) (absent : List Nat) :
    State × Bool :=
  let eff (n : Nat) : Bool := isSet n || s.capHolds bus n
  let bad := members.filter fun n => !eff n
  let s' := s.each members fun s n =>
    if isSet n then s.consents bus n
    else s.refuses bus n (if absent.contains n then 1 else 0) (members.all fun m => m == n || eff m)
  match bad with
  | [] => (s', true)
  | [n] =>
    if s'.capDue bus n then
      ((s'.modRefusal bus n fun e => { e with capped := true }).raise 123 0xFF noUnit (n + bus * 256), true)
    else (s', false)
  | _ => (s', false)

/-! Bus laps (R548, R549). -/

/-- The next higher member of a bus after a node, or 0 (R548). -/
def nextMember (m : BitVec 64) (n : Nat) : Nat := ((range (n + 1) (63 - n)).find? fun k => m.getLsbD k).getD 0

/-- A bus lap message (R548): an FD frame in base format without bit-rate switch. -/
def lapMsg (w : BusWake) (op sender next skip seq : Nat) (consent : BitVec 64) : BusMsg :=
  { kind := 1, id := w.ringId
    data := leBytes 1 op ++ leBytes 1 sender ++ leBytes 1 next ++ leBytes 1 skip ++ beBytes 2 seq ++ [0, 0] ++
      leBytes 8 consent.toNat ++ leBytes 8 w.ringNodes.toNat }

/-- Change the ring side of a controller. -/
def State.modWk (s : State) (b : Nat) (f : BusWake → BusWake) : State := s.modBus b fun x => { x with wk := f x.wk }

/-- A bus lap is complete (R548, R558). -/
def State.busLapEnd (s : State) (b : Nat) (l : BusLap) : State :=
  if l.op = 2 then s.modWk b fun w => { w with lap := none }
  else
    let members := bitList (s.bus b).wk.ringNodes.toNat 64
    let r := s.lapJudge b members (fun n => l.consent.getLsbD n) l.absent
    r.1.modWk b fun w => { w with lap := none, lapFull := r.2 }

/-- Node 0 opens a lap on a bus (R548). One that its controller may not offer is not opened and never returns (log
entry 58). -/
def State.busLapStart (s : State) (b op : Nat) : State :=
  let w := (s.bus b).wk
  let nx := nextMember w.ringNodes 0
  let seq := s.slp.lapSeq
  let s := s.count 15 (0x20000 + b) ctrRingBusLaps
  let go := s.busSends b
  let s := if go then s.send (.bus b (lapMsg w op 0 nx 0 seq 1)) else s
  let l : BusLap := { op := op, seq := seq, next := nx, atNs := s.now, opened := go }
  if nx = 0 then s.busLapEnd b l
  else s.modWk b fun w => { w with lap := some l, lapFull := w.lapFull && op == 2 }

/-! Sleep entry (R552, R557). -/

/-- The commit instant of this device (R551, R552): a request that is pending is latched, the bus commit laps start,
and an active device passes the commit to its standby. -/
def State.sleepEnter (s : State) (laps : Bool) : State :=
  let pend := s.slp.pendWake
  let s := s.modSlp fun z => { z with
    ps := .entry, commitAt := some s.now, settled := false, joined := false, bitSet := false, lapRunning := false
    lapHeld := false, cancelSent := false, pendWake := none, latchedWake := none }
  let s := match pend with | some r => s.latchWake r | none => s
  let s := if s.twin.role == .active then s.send (.twin 7 []) else s
  if laps then s.each s.ringBuses fun s b => s.busLapStart b 2 else s

/-- A commit lap reaches a device whose `RING_EN` may be 0: such a device never sleeps (R546). -/
def State.commitHere (s : State) : State :=
  if s.slp.ringEn then s.sleepEnter true
  else s.modSlp fun z => { z with
    joined := false, bitSet := false, lapRunning := false, lapHeld := false, cancelSent := false, pendWake := none }

/-! Device laps (R546, R550, R551). -/

/-- The next device of the lap (R546): the next higher ID of the chain map, or the lowest. -/
def State.ringNext (s : State) : Nat :=
  let ids := (s.chain.map fun e => e.1) ++ [s.cw.id]
  match (ids.filter fun d => decide (s.cw.id < d)).min? with
  | some d => d
  | none => ids.min?.getD s.cw.id

/-- Pass a lap message on; a device alone has nobody to pass it to. -/
def State.lapPass (s : State) (op seq : Nat) (bits : BitVec 256) : State :=
  if s.ringNext = s.cw.id then s else s.tell s.ringNext 2 (lapBody op seq bits)

/-- The leader's consent lap has returned (R551 step 4, R558). -/
def State.lapReturn (s : State) (bits : BitVec 256) : State :=
  let r := s.lapJudge 0xFF (s.cw.id :: s.chain.map fun e => e.1) (fun d => bits.getLsbD d) []
  let s := r.1
  if r.2 then
    let s := (s.count 15 0 ctrSlpLapsFull).modSlp fun z => { z with committed := true }
    (s.lapPass 2 s.slp.lapSeq bits).commitHere
  else
    (s.count 15 0 ctrSlpLapsRefused).modSlp fun z => { z with
      lapRunning := false, joined := false, bitSet := false }

/-- The bus laps of this device are complete: it sets or clears its bit and forwards the lap (R551 step 2). -/
def State.lapForward (s : State) : State :=
  if !(s.slp.joined && s.slp.lapHeld) || (s.ringBuses.any fun b => (s.bus b).wk.lap.isSome) then s
  else
    let own := s.localConsent || !s.slp.ringEn
    let me : BitVec 256 := 1#256 <<< s.cw.id
    let bits := if own then s.slp.lapBits ||| me else s.slp.lapBits &&& ~~~me
    let s := s.modSlp fun z => { z with lapHeld := false, bitSet := own && z.ringEn }
    if s.leads && s.ringNext == s.cw.id then s.lapReturn bits else s.lapPass 1 s.slp.lapSeq bits

/-- This device joins a consent lap and runs its bus laps (R551). -/
def State.lapJoin (s : State) (seq : Nat) (bits : BitVec 256) (lead : Bool) : State :=
  let s := if s.slp.cancelSent then s.cancelled 0 else s
  let s := s.modSlp fun z => { z with
    lapSeq := seq, lapRunning := lead, lapAt := s.now, joined := true, lapHeld := true, lapBits := bits
    bitSet := false, cancelSent := false, committed := false, wakeReqAt := none, pendWake := none }
  (s.each s.ringBuses fun s b => s.busLapStart b 1).lapForward

/-- The ring runs: firmware is up and the device is in service. -/
def State.ringUp (s : State) : Bool := s.fwUp && s.slp.ps == .service

/-- `CONSENT_LAP_START` (R551). -/
def execConsentLapStart (t : Nat) (s : State) : Host.Outcome State Fault Refusal :=
  let s := s.tick t
  .next (if s.ringUp && s.leads && s.consentBase && !s.slp.lapRunning &&
      (s.slp.lapSeq == 0 || decide (s.slp.lapAt + s.slp.lapInterval * 100000000 ≤ s.now)) then
    (s.count 15 0 ctrSlpLapsStarted).lapJoin ((s.slp.lapSeq + 1) % 65536) 0 true
    else s)

/-- A bus lap message of the node that sends next (R548). -/
def State.busLapTake (s : State) (b : Nat) (body : List Byte) (l : BusLap) : State :=
  if l.opened && body.length = 24 && le body 0 1 == l.op && le body 1 1 == l.next && be body 4 2 == l.seq then
    let c := le body 8 8
    let bitOn := bit c l.next
    let l := { l with
      consent := if bitOn then l.consent ||| (1#64 <<< l.next) else l.consent &&& ~~~(1#64 <<< l.next)
      next := le body 2 1 % 64, atNs := s.now }
    if l.next = 0 then (s.busLapEnd b l).lapForward
    else s.modWk b fun w => { w with lap := some l }
  else s

/-- `BUS_LAP_MESSAGE_RECEIVED` (R548). -/
def execBusLapMessageReceived (t : Nat) (b : Fin 32) (body : List Byte) (s : State) :
    Host.Outcome State Fault Refusal :=
  let s := s.tick t
  .next (match (s.bus b).wk.lap with
    | some l => if s.fwUp && s.busLive b then s.busLapTake b body l else s
    | none => s)

/-- Node 0 sends in place of an absent node (R549). -/
def State.busLapSkip (s : State) (b : Nat) (l : BusLap) : State :=
  let w := (s.bus b).wk
  let nx := nextMember w.ringNodes l.next
  let consent := l.consent &&& ~~~(1#64 <<< l.next)
  let s := (s.count 15 (0x20000 + b) ctrRingNodesAbsent).send (.bus b (lapMsg w l.op 0 nx 1 l.seq consent))
  let l := { l with consent := consent, next := nx, atNs := s.now, absent := l.absent ++ [l.next] }
  if nx = 0 then (s.busLapEnd b l).lapForward else s.modWk b fun w => { w with lap := some l }

/-- `NODE_SLOT_TIMEOUT` (R549). -/
def execNodeSlotTimeout (t : Nat) (b : Fin 32) (s : State) : Host.Outcome State Fault Refusal :=
  let s := s.tick t
  .next (match (s.bus b).wk.lap with
    | some l =>
      if s.fwUp && l.opened && s.busSends b && decide (l.atNs + (s.bus b).wk.nodeSlotMs * 1000000 ≤ s.now) then s.busLapSkip b l
      else s
    | none => s)

/-- A cancel reaches the leader (R554): while its consent lap runs, or once it has sent the commit of that lap; else the lap has
ended without a commit and there is nothing left to cancel. -/
def State.cancelTake (s : State) : State :=
  if s.slp.lapRunning then
    ((s.modSlp fun z => { z with
      lapRunning := false, joined := false, bitSet := false, lapHeld := false
      hostConsent := false }).count 15 0 ctrSlpCancels).cancelled 1
  else if s.slp.committed then s.count 15 0 ctrSlpCancelLate
  else s

/-- `DEVICE_LAP_RECEIVED` (R551): consent or commit. -/
def execDeviceLapReceived (t : Nat) (_dev : Nat) (body : List Byte) (s : State) : Host.Outcome State Fault Refusal :=
  let s := s.tick t
  let op := le body 1 1
  let seq := be body 2 2
  let bits := BitVec.ofNat 256 (le body 4 32)
  .next (if !s.ringUp || s.cw.id == 0 || body.length ≠ 36 || le body 0 1 ≠ 5 then s
    else if op = 1 then
      if s.leads then (if s.slp.lapRunning && !s.slp.lapHeld && seq == s.slp.lapSeq then s.lapReturn bits else s)
      else s.lapJoin seq bits false
    else if op = 2 then
      if s.leads then s else (s.lapPass 2 seq bits).commitHere
    else s)

/-- `SLEEP_CANCEL_RECEIVED` (R554). -/
def execSleepCancelReceived (t : Nat) (_dev : Nat) (body : List Byte) (s : State) : Host.Outcome State Fault Refusal :=
  let s := s.tick t
  .next (if s.fwUp && s.leads && body.length = 36 && le body 0 1 = 5 && le body 1 1 = 3 then s.cancelTake else s)

/-- `LAP_TIMEOUT` (R551 step 3). -/
def execLapTimeout (t : Nat) (s : State) : Host.Outcome State Fault Refusal :=
  let s := s.tick t
  .next (if s.ringUp && s.slp.lapRunning && decide (s.slp.lapAt + s.slp.lapTimeout * 10000000 ≤ s.now) then
      (((s.modSlp fun z => { z with lapRunning := false, joined := false, bitSet := false, lapHeld := false }).each
        s.ringBuses fun s b => s.modWk b fun w => { w with lap := none }).count 15 0 ctrSlpLapsTimeout).cancelled 2
    else s)

/-! Going to sleep (R540, R541, R552). -/

/-- Frames of the engaged attempts. -/
def State.engagedFrames (s : State) : List Nat :=
  (List.range 32).filterMap fun b => match (s.bus b).tx.engagedBuf with
    | some n => ((s.bus b).tx.buf n).msg.map fun m => m.frame
    | none => none

/-- Step 2 of R552: engaged attempts go on, everything else that is queued is discarded and counted once per frame,
message and packet; links go down. -/
def State.settle (s : State) : State :=
  let kept := s.engagedFrames
  let frames := (s.sw.frames.cells.filter fun (c : Nat × Frame) => !kept.contains c.1).length
  let packets := ((List.range 64).map fun q => (s.tq q).packets.length).sum
  let c := s.ctrs
  let s := s.each (List.range 32) fun s b => [0, 1, 2].foldl (fun s n =>
    if (s.bus b).tx.engagedBuf == some n then s else s.bufDrop b n) s
  let s := { s.bufferClear.tideQueuesRestart with ctrs := c }
  let s := s.count 15 0 ctrSlpSleepDiscarded (frames + packets)
  (s.each (List.range 24) State.linkLost).toldFlush.modSlp fun z => { z with settled := true }

/-- `SLEEP_SETTLE` (R552 step 2). -/
def execSleepSettle (t : Nat) (s : State) : Host.Outcome State Fault Refusal :=
  let s := s.tick t
  .next (match s.slp.commitAt with
    | some c =>
      if s.slp.ps == .entry && !s.slp.settled &&
        ((s.ringBuses.all fun b => (s.bus b).wk.lap.isNone) || decide (c + s.slp.settleMs * 1000000 ≤ s.now)) then
        s.settle
      else s
    | none => s)

/-- A wake record filled in at the wake (R545). -/
def State.wakeRecord (s : State) (r : WakeRec) : WakeRec :=
  { r with sleptMs := min ((s.now - s.slp.sleptAt) / 1000000) 0xFFFFFFFF, rtcS := s.rtcMs / 1000 % 2 ^ 32 }

/-- The device starts waking (R539, R545, R547, R605): the record is written, `PWR_EN` rises, start-up runs from the
regeneration of the PUF root. A device that wakes a sleeping partner drives its lease pair high (R557). -/
def State.startWaking (s : State) (r : WakeRec) (others : Nat) : State :=
  let s := s.modSlp fun z => { z with ps := .waking, record := s.wakeRecord r, latchedWake := none }
  let s := s.count 15 (0x10000 + r.cause) ctrWakeWakes
  let s := if others = 0 then s else s.count 15 0 ctrSlpWakeCoincident others
  let s := if r.latched then s.count 15 0 ctrSlpLatchedWakes else s
  let s := if s.twin.role.paired && r.cause != 9 then s.send .leaseBoth else s
  s.modBoot fun b => { b with
    wakeStart := true, phase := .core
    pins := { b.pins with pwrEn := true, pwrSince := s.now, coreOk := false } }

/-- Step 3 of R552: the islands other than the Always-On Island are powered off; a latched request wakes the device
at once (R554). -/
def State.powerOff (s : State) : State :=
  let latched := s.slp.latchedWake
  let s := (s.count 15 0 ctrSlpSleeps).coreReset s.boot.lpddr .off
  let s := s.modSlp fun z => { z with ps := .sleep, sleptAt := s.now }
  let s := s.modBoot fun b => { b with pins := { b.pins with pwrEn := false, pwrSince := s.now, coreOk := false } }
  match latched with
  | some r => s.startWaking r 0
  | none => s

/-- `SLEEP_POWER_OFF` (R552 step 3). -/
def execSleepPowerOff (t : Nat) (s : State) : Host.Outcome State Fault Refusal :=
  let s := s.tick t
  .next (if s.slp.ps == .entry && s.slp.settled then s.powerOff else s)

/-! Waking (R542 to R545). -/

/-- The receive lane of a port is kept in sleep (R174, R540). -/
def State.laneKept (s : State) (p : Nat) : Bool :=
  let c := (s.port p).cfg
  let keep := if c.mode == 0 then decide (16 ≤ p) else c.wakeRxKeep
  keep || (c.causeway && s.slp.ringEn)

/-- A wake cause (R542): its code, bus or port, filter or pattern, identifier. -/
structure WakeCause where
  /-- Code of R542. -/
  cause : Nat
  /-- Bus or port. -/
  src : Nat := 0xFF
  /-- Filter or pattern. -/
  sub : Nat := 0xFF
  /-- Identifier of the matching frame. -/
  wid : Nat := 0
  deriving DecidableEq, Repr

/-- A frame matches a wake filter (R544). -/
def WakeFilter.hits (w : WakeFilter) (f : BusFrame) (dlc : Nat) : Bool :=
  let masked := (List.range 8).any fun k => f.data.getD k 0 &&& w.dataMask.getD k 0 != 0
  f.kind == 0 && f.xtd == w.xtd && (f.id &&& w.idMask) == (w.id &&& w.idMask) && (!w.dlcChk || dlc == w.dlc) &&
    (zeros w.dataMask 0 8 || (!f.remote && masked))

/-- A magic packet for an address (R175). -/
def magicHit (mac bytes : List Byte) : Bool :=
  let want := List.replicate 6 (BitVec.ofNat 8 0xFF) ++ (List.replicate 16 (fitBytes 6 mac)).flatten
  (range 12 (bytes.length - 113)).any fun o => decide (o + 102 ≤ bytes.length) && field bytes o 102 == want

/-- The cause that a frame on a port is: the magic packet, else the lowest matching pattern (R175), of the set in force at
its first byte (R177). -/
def Eth.wakeFrame (x : Eth) (p : Nat) (bytes : List Byte) (began : Nat) : Option WakeCause :=
  let w := x.wakeSet began
  if w.2 && magicHit x.cfg.mac bytes then some { cause := 4, src := p }
  else ((List.range 8).find? fun k => (w.1.get {} k).hits bytes).map fun k => { cause := 5, src := p, sub := k }

/-- Change the frame error counter of a bus's wake detector (R543). -/
def State.wakeErrSet (s : State) (b n : Nat) : State := s.modWk b fun w => { w with wakeErr := n }

/-- What a wake detector makes of a stimulus (R542 to R544, R174 to R176): the cause, if it is one. A bus never
configured wakes nothing, nor does a port whose lane is not kept. -/
def State.wakeDetect (s : State) : WakeStim → State × Option WakeCause
  | .busFrame b f dlc =>
    let w := (s.bus b).wk
    if (s.bus b).cfg.isNone || f.kind ≠ 0 then (s, none)
    else
      (s.wakeErrSet b (w.wakeErr - 1),
        ((List.range w.wakeFilters.length).find? fun k => (w.wakeFilters.getD k {}).hits f dlc).map fun k =>
          { cause := 1, src := b, sub := k, wid := f.id })
  | .busError b =>
    let n := (s.bus b).wk.wakeErr + 1
    if (s.bus b).cfg.isNone then (s, none)
    else ((s.wakeErrSet b n).count 15 (0x20000 + b) ctrRingWakeFrameErrors,
      if 32 < n then some { cause := 2, src := b } else none)
  | .busWakeUp b => (s, if (s.bus b).cfg.isSome && (s.bus b).wk.wupEn then some { cause := 3, src := b } else none)
  | .ethFrame p bytes began => (s, if s.laneKept p then (s.port p).wakeFrame p bytes began else none)
  | .segment p ns =>
    (s, if 16 ≤ p.val && s.laneKept p && decide ((s.port p).cfg.t1sWakeMin * 1000 ≤ ns) then
        some { cause := 6, src := p } else none)
  | .spiSelect ns => (s, if 10000 ≤ ns then some { cause := 7 } else none)
  | .alarm =>
    (s, if s.slp.ps == .sleep && s.slp.alarmS != 0 && decide (s.slp.sleptAt + s.slp.alarmS * 1000000000 ≤ s.now) then
        some { cause := 8 } else none)
  | .leaseChange ns => (s, if 1000 ≤ ns then some { cause := 9 } else none)

/-- The order of causes at one instant (R545): lowest code, then lowest bus or port. -/
def causeBefore (a b : WakeCause) : Bool := decide (a.cause * 256 + a.src < b.cause * 256 + b.src)

/-- The record of a cause: `WSRC` and `WSUB` where the cause has them (R545). -/
def causeRecord (c : WakeCause) : WakeRec :=
  { cause := c.cause, src := if c.cause ≤ 6 then c.src % 256 else 0xFF
    sub := if c.cause = 1 || c.cause = 5 then c.sub % 256 else 0xFF
    wid := if c.cause = 1 then c.wid % 2 ^ 32 else 0 }

/-- Causes that occur at one instant in sleep (R542, R545). -/
def State.wakeBy (s : State) (causes : List WakeCause) : State :=
  match sortBy causeBefore causes with
  | [] => s
  | c :: rest => s.startWaking (causeRecord c) rest.length

/-- What the detectors make of the stimuli of one instant. -/
def State.wakeStims (s : State) (stims : List WakeStim) : State × List WakeCause :=
  stims.foldl (fun x w =>
    let y := x.1.wakeDetect w
    (y.1, x.2 ++ y.2.toList)) (s, [])

/-- `WAKE_SOURCE` (R542). -/
def execWakeSource (t : Nat) (stims : List WakeStim) (s : State) : Host.Outcome State Fault Refusal :=
  let s := s.tick t
  .next (if s.slp.ps == .sleep then
      let x := s.wakeStims stims
      x.1.wakeBy x.2
    else s)

/-- `WAKE_REQUEST` (R553, R554): the detectors run in every power state. -/
def execWakeRequest (t : Nat) (stim : WakeStim) (s : State) : Host.Outcome State Fault Refusal :=
  let x := (s.tick t).wakeDetect stim
  .next (match x.2 with
    | some c => x.1.wakeReq (causeRecord c)
    | none => x.1)

/-- The wake is passed on (R555): with `RING_EN`, a magic packet on each causeway port whose neighbour is known, and a first
frame on each participating bus that may send, whose contents the spec leaves open (log entry 3). -/
def State.propagate (s : State) : State :=
  if !s.slp.propagate then s
  else
    let ports := if s.slp.ringEn then s.cwPorts.filter fun p => (s.port p).enabled && !(s.port p).cw.nbMac.isEmpty else []
    let s := s.each ports fun s p =>
      (s.modPort p fun y => { y with cw := { y.cw with magicDue := true } }).cwFlush p
    s.each (s.ringBuses.filter s.busSends) fun s b =>
      let (v, s) := s.drawBelow 2048
      s.send (.bus b { id := v })

/-- `STATE` is 1 after a wake (R555, R560, R565): EV120, and the wake is passed on. -/
def State.awake (s : State) : State :=
  let r := s.slp.record
  let s := s.modSlp fun z => { z with ps := .service, wokeAt := some s.now, valid := false }
  (s.raise 120 0xFF noUnit (r.cause + r.src * 256 + flag r.latched 16)).propagate

/-- `RING_LOST` (R556): no commit and no new lap came; the device counts itself woken with cause 11. -/
def execRingLost (t : Nat) (s : State) : Host.Outcome State Fault Refusal :=
  let s := s.tick t
  .next (if s.ringUp && !s.leads && s.slp.joined && s.slp.bitSet &&
      decide (s.slp.lapAt + 2 * s.slp.lapTimeout * 10000000 ≤ s.now) then
      let s := if s.slp.cancelSent then s.cancelled 0 else s
      let s := s.modSlp fun z => { z with
        joined := false, bitSet := false, cancelSent := false, pendWake := none, hostConsent := false
        record := { cause := 11, rtcS := s.rtcMs / 1000 % 2 ^ 32 }
        log := z.log.map fun e => { e with capped := false } }
      (s.count 15 (0x10000 + 11) ctrWakeWakes).awake
    else s)

/-- Bit 31 of the `DETAIL` of the last EV120 record still in the log (R560). -/
def State.markFalse (s : State) : State :=
  match ((List.range 256).map fun k => (s.host.evtLogWr + 255 - k) % 256).find? fun i =>
      (s.host.log.get {} i).evt == 120 with
  | some i => s.modHost fun h => { h with
      log := h.log.modify {} i fun r => { r with detail := setBit r.detail 31 true } }
  | none => s

/-- One more false wake of a cause, in 16 bits (R560). -/
def State.falseWake (s : State) (cause : Nat) : State :=
  let fn := 0x10000 + cause
  { s with ctrs := s.ctrs.modify {} (ctrKey 15 fn ctrWakeFalseWakes) (·.add s.now 1 0xFFFF) }

/-- `FALSE_WAKE_CHECK` (R560). -/
def execFalseWakeCheck (t : Nat) (s : State) : Host.Outcome State Fault Refusal :=
  let s := s.tick t
  .next (match s.slp.wokeAt with
    | some w =>
      if w + 200000000 ≤ s.now then
        let ok := s.slp.valid
        let s := s.modSlp fun z => { z with wokeAt := none, valid := false }
        if ok then s else (s.falseWake s.slp.record.cause).markFalse
      else s
    | none => s)

/-- `TWIN_SLEEP_COMMIT_RECEIVED` (R557). -/
def execTwinSleepCommitReceived (t : Nat) (_body : List Byte) (s : State) : Host.Outcome State Fault Refusal :=
  let s := s.tick t
  .next (if s.standby && s.slp.ps == .service && s.unitUp ⟨0, 41⟩ then s.sleepEnter false else s)

/-! Commands (R561 to R564). -/

/-- The island of a named bus is not held off (R561). -/
def needBusIsland (s : State) (b : Nat) : Check := needLeave (decide (31 < b) || !(s.isl (busUnit b).island).hold)

/-- Checks of one filter of the filter layout at an offset (R562). -/
def wakeFilterChecks (p : List Byte) (o : Nat) : List Check :=
  let top := if bit (le p o 1) 0 then 0x1FFFFFFF else 0x7FF
  [needField p o 1 0 3, needField p (o + 1) 1 0 8, needZeros p (o + 2) 2, needField p (o + 4) 4 0 top,
   needField p (o + 8) 4 0 top]

/-- Checks of `wake.filter.set` (R562). -/
def checkWakeFilterSet (s : State) (p : List Byte) : Check :=
  let n := le p 1 1
  firstFail ([if p.isEmpty then none else needBusIsland s (le p 0 1),
    needLen (decide (4 ≤ p.length) && p.length == 4 + 20 * n), need (decide (le p 0 1 < 32)) 0, need (s.bus (le p 0 1)).cfg.isSome 0, needField p 1 1 0 8, needField p 2 1 0 1,
    needZeros p 3 1] ++ (List.range n).flatMap fun i => wakeFilterChecks p (4 + 20 * i))

/-- A filter of the filter layout (R562). -/
def wakeFilterOf (p : List Byte) (o : Nat) : WakeFilter :=
  { xtd := bit (le p o 1) 0, dlcChk := bit (le p o 1) 1, dlc := le p (o + 1) 1, id := le p (o + 4) 4
    idMask := le p (o + 8) 4, dataMask := field p (o + 12) 8 }

/-- Effect of `wake.filter.set` (R562). -/
def effectWakeFilterSet (s : State) (p : List Byte) : State × Reply :=
  (s.modWk (le p 0 1) fun w => { w with
    wakeFilters := (List.range (le p 1 1)).map fun i => wakeFilterOf p (4 + 20 * i)
    wupEn := bit (le p 2 1) 0 }, .ok)

/-- `WAKE_FILTER_SET` (R562). -/
def execWakeFilterSet (t : Nat) (m : Fin 8) (s : State) : Host.Outcome State Fault Refusal :=
  .next (s.simple t m 0x0F01 checkWakeFilterSet effectWakeFilterSet)

/-- Checks of `sleep.config` (R561, R563). -/
def checkSleepConfig (s : State) (p : List Byte) : Check :=
  let target := le p 0 1
  let cap := le p 8 4
  let busy := needLeave (!s.slp.joined)
  if target = 0xFF then
    firstFail [busy, needLen (p.length == 16), needField p 1 1 0 7, needField p 2 2 1 600, needField p 4 2 5 1000,
      needField p 6 1 1 100, needZeros p 7 1, need (cap == 0 || inRange cap 60 86400) 8, needField p 12 4 0 604800]
  else
    firstFail [busy, if p.isEmpty then none else needBusIsland s target, needLen (p.length == 16),
      need (decide (target < 32)) 0,
      needField p 1 1 0 1, needField p 2 2 0 0x7FF, needField p 4 1 1 255, needZeros p 5 3,
      need (bit (le p 8 1) 0) 8]

/-- Effect of `sleep.config` (R563). -/
def effectSleepConfig (s : State) (p : List Byte) : State × Reply :=
  let target := le p 0 1
  let s := if target = 0xFF then
      s.modSlp fun z => { z with
        ringEn := bit (le p 1 1) 0, autoConsent := bit (le p 1 1) 1, propagate := bit (le p 1 1) 2
        lapInterval := le p 2 2, lapTimeout := le p 4 2, settleMs := le p 6 1, awakeCap := le p 8 4
        alarmS := le p 12 4 }
    else s.modWk target fun w => { w with
        ringOn := bit (le p 1 1) 0, ringId := le p 2 2, nodeSlotMs := le p 4 1
        ringNodes := BitVec.ofNat 64 (le p 8 8) }
  (s, .ok p)

/-- `SLEEP_CONFIG` (R563). -/
def execSleepConfig (t : Nat) (m : Fin 8) (s : State) : Host.Outcome State Fault Refusal :=
  .next (s.simple t m 0x0F02 checkSleepConfig effectSleepConfig)

/-- `RSTATE` (R564). -/
def State.ringState (s : State) : Nat :=
  if s.slp.ps == .entry then 4 else if s.slp.cancelSent then 3 else if s.slp.joined && s.slp.bitSet then 2
  else if s.slp.joined then 1 else 0

/-- Checks of `sleep.request` (R561). -/
def checkSleepRequest (_ : State) (p : List Byte) : Check :=
  firstFail [needLen (p.length == 1), needField p 0 1 0 1]

/-- Effect of `sleep.request` (R547, R553). -/
def effectSleepRequest (s : State) (p : List Byte) : State × Reply :=
  let give := le p 0 1 == 1
  let s := s.modSlp fun z => { z with hostConsent := give }
  let s := if give then s else s.ownWakeReq
  (s, .ok (leBytes 1 s.ringState))

/-- `SLEEP_REQUEST` (R547). -/
def execSleepRequest (t : Nat) (m : Fin 8) (s : State) : Host.Outcome State Fault Refusal :=
  .next (s.simple t m 0x0F03 checkSleepRequest effectSleepRequest)

/-- The wake record as 16 bytes (R545). -/
def WakeRec.bytes (r : WakeRec) : List Byte :=
  leBytes 1 r.cause ++ leBytes 1 (flag r.latched) ++ leBytes 1 r.src ++ leBytes 1 r.sub ++ leBytes 4 r.wid ++
    leBytes 4 r.sleptMs ++ leBytes 4 r.rtcS

/-- A refusal log entry as 8 bytes (R558). -/
def State.refusalBytes (s : State) (e : RefusalEnt) : List Byte :=
  leBytes 1 e.bus ++ leBytes 1 e.node ++ leBytes 1 e.reason ++ [0] ++ leBytes 2 e.laps ++
    leBytes 2 (if e.refusing then secondsIn e.since s.now else e.durS)

/-- Checks of `sleep.status` (R561). -/
def checkSleepStatus (_ : State) (p : List Byte) : Check := needLen p.isEmpty

/-- The answer of `sleep.status` (R564). -/
def answerSleepStatus (s : State) (_ : List Byte) : Reply :=
  let falseWakes := ((range 1 11).map fun c => (s.ctr 15 (0x10000 + c) ctrWakeFalseWakes).val).sum
  .ok (leBytes 1 s.ringState ++ leBytes 1 (flag s.localConsent) ++ leBytes 1 s.ringLeader ++
    leBytes 1 s.slp.log.length ++ leBytes 2 s.slp.lapSeq ++ leBytes 2 (min falseWakes 0xFFFF) ++
    List.replicate 8 0 ++ s.slp.record.bytes ++ s.slp.log.flatMap s.refusalBytes)

/-- `SLEEP_STATUS` (R564). -/
def execSleepStatus (t : Nat) (m : Fin 8) (s : State) : Host.Outcome State Fault Refusal :=
  .next (s.query t m 0x0F04 checkSleepStatus answerSleepStatus)

end Sys2Proof.Machine
end

