-- ==== Sys2Proof/Machine/Boot.lean ====
section
/-! DEFINITION. Start-up: power, reset and strap pins, PUF root, loader, images, the swap journal, firmware start,
SEALED (R449, R454, R567 to R575, R578 to R582, R585 to R588, R597, R601 to R607, R616). -/

namespace Sys2Proof.Machine

open Sys2Proof

/-! Pins and supplies. -/

/-- `PWR_EN` is high: a retry holds it low for 100 ms (R604). -/
def State.pwrEnHigh (s : State) : Bool := s.boot.pins.pwrEn && decide (s.boot.pins.pwrSince ≤ s.now)

/-- `FAULT_N` is low (R607). -/
def State.faultNLow (s : State) : Bool :=
  s.boot.pins.resetLow || s.boot.state == 4 || (s.boot.pins.firstStart && !s.boot.pins.pwrEn)

/-- Change the pins. -/
def State.modPins (s : State) (f : Pins → Pins) : State := s.modBoot fun b => { b with pins := f b.pins }

/-- `POWER_ON` (R604): `VDD_AON` enters its range. -/
def execPowerOn (t : Nat) (s : State) : Host.Outcome State Fault Refusal :=
  let s := s.tick t
  .next (if s.boot.pins.aonOn then s
    else s.aonLost.modPins fun _ => { pwrEn := false, pwrSince := s.now, coreOk := false, firstStart := true, resetLow := true })

/-- `VDD_AON_LOSS` (R453, R466). -/
def execVddAonLoss (t : Nat) (s : State) : Host.Outcome State Fault Refusal :=
  let s := s.tick t
  .next (s.aonLost.modPins fun _ =>
    { pwrEn := false, pwrSince := s.now, coreOk := false, aonOn := false, resetLow := true })

/-- `CASCADE_ROLE` of two strap pins: the reserved pattern reads as none (R601). -/
def strapRole (v : Nat) : Nat := if v % 4 = 3 then 0 else v % 4

/-- `RESET_N` goes low (R606): the whole device is held in reset, `PWR_EN` falls. -/
def State.resetHeld (s : State) : State :=
  (s.deviceReset.islandsSet .off).modPins fun p => { p with
    resetLow := true, pwrEn := false, pwrSince := s.now, coreOk := false, brown := false, jtagHeld := false
    jtag := .idcode, outputsHeld := none }

/-- The strap pins are sampled and held (R601). -/
def State.strapsTake (s : State) (straps : Nat) : State :=
  s.modPins fun p => { p with strap := strapRole straps, flashMode := bit straps 2, testEn := bit straps 3 }

/-- `RESET_N` rises (R567, R597, R601, R604): the straps are sampled and a boot begins, unless `TEST_EN` is high. -/
def State.resetReleased (s : State) (straps : Nat) : State :=
  let s := (s.strapsTake straps).modPins fun p => { p with resetLow := false }
  if bit straps 3 then s
  else (s.modPins fun p => { p with pwrEn := true, pwrSince := s.now, firstStart := false }).modBoot fun b =>
    { b with phase := .core }

/-- `RESET_N` (R606). Bits 1 and 0 of the straps are `CASCADE_ROLE`, bit 2 `FLASH_MODE`, bit 3 `TEST_EN`. -/
def execResetN (t : Nat) (level : Bool) (straps : Nat) (s : State) : Host.Outcome State Fault Refusal :=
  let s := s.tick t
  let p := s.boot.pins
  .next (if !p.aonOn then s
    else if level then (if p.resetLow then s.resetReleased straps else s)
    else if p.resetLow then s else s.resetHeld)

/-- `PWR_EN_RETRY` (R604 step 6). -/
def execPwrEnRetry (t : Nat) (s : State) : Host.Outcome State Fault Refusal :=
  let s := s.tick t
  let p := s.boot.pins
  .next (if p.aonOn && p.pwrEn && !p.coreOk && !p.brown && decide (p.pwrSince + 10000000 ≤ s.now) then
      (s.count 16 0 ctrBootPwrRetries).modPins fun p => { p with pwrSince := s.now + 100000000 }
    else s)

/-- `CORE_SUPPLY_IN_RANGE` (R567, R603, R604): the islands are powered, local time starts (R342). -/
def execCoreSupplyInRange (t : Nat) (s : State) : Host.Outcome State Fault Refusal :=
  let s := s.tick t
  let p := s.boot.pins
  .next (if p.aonOn && s.pwrEnHigh && !p.coreOk && !p.resetLow then
      let s := (s.islandsSet .on).modPins fun p => { p with coreOk := true, brown := false }
      { s with time := s.time.settled s.now }
    else s)

/-- `BROWN_OUT` (R601, R603): every island but the Always-On Island is reset and the straps are sampled again; the start
that follows is a boot, unless `TEST_EN` is high (R597). What the strap pins carry then is open (log entry 62). -/
def execBrownOut (t : Nat) (s : State) : Host.Outcome State Fault Refusal :=
  let s := s.tick t
  let p := s.boot.pins
  .next (if p.aonOn && p.pwrEn && p.coreOk then
      let (straps, s) := ((s.count 16 0 ctrBootBrownouts).coreReset false .off).drawBelow 16
      ((s.strapsTake straps).modPins fun p => { p with coreOk := false, brown := true }).modBoot fun b => { b with
        phase := if bit straps 3 then .off else .core }
    else s)

/-- The fault source of a supply, numbered in the order of R602: `VDD_CORE`, `VDD_SRAM`, `VDD_AON`,
`VDD_SERDES_0V9`, `VDD_SERDES_1V8`, `VDDQ_1V1`, `VDDQ_0V6`, `VDDIO0` to `VDDIO5`. -/
def supplySource (n : Nat) : Option Nat :=
  if n = 0 then some 176 else if n = 1 then some 177 else if n = 2 then none
  else if n ≤ 4 then some 178 else if n ≤ 6 then some 179 else if n ≤ 12 then some 180 else none

/-- `SUPPLY_WARNING` (R602). A low `VDDIO4` seals a start (R598). -/
def execSupplyWarning (t : Nat) (supply : Nat) (s : State) : Host.Outcome State Fault Refusal :=
  let s := s.tick t
  let s := if supply = 11 then s.modBoot fun b => { b with flashOk := false } else s
  .next (match supplySource supply with
    | some n => s.report n
    | none => s)

/-- The instruction overrides the device's drivers (R616). -/
def jtagIsolates : JtagInstr → Bool
  | .extest => true
  | .clamp => true
  | .highz => true
  | .bypass => false
  | .idcode => false
  | .sample => false

/-- What the selected JTAG register captures, where it is not the boundary scan: its length in bits and its value; IDCODE
is version 0xB, part 0x9160, manufacturer field 0x61F and bit 0 set (R616). -/
def Pins.jtagCapture (p : Pins) : Option (Nat × Nat) :=
  match p.jtag with
  | .idcode => some (32, 0xB9160C3F)
  | .bypass => some (1, 0)
  | .clamp => some (1, 0)
  | .highz => some (1, 0)
  | .sample => none
  | .extest => none

/-- Every island but the Always-On Island is isolated until `RESET_N` (R616); `LEASE_OUT` drives not held. -/
def State.jtagIsolate (s : State) : State :=
  let s := s.each (List.range 6) fun s i =>
    if (s.isl i).power == .on && !(s.isl i).restarting then s.isolateEffects i else s
  (s.each (List.range 6) fun s i => s.modIsl i fun x => { x with
    power := if x.power == .off then .off else .isolated, restarting := false }).modPins fun p => { p with jtagHeld := true }

/-- `JTAG_INSTRUCTION` (R616). -/
def execJtagInstruction (t : Nat) (i : JtagInstr) (s : State) : Host.Outcome State Fault Refusal :=
  let s := s.tick t
  if !s.boot.pins.aonOn || s.boot.pins.resetLow then .next s
  else
    let s := s.modPins fun p => { p with jtag := i }
    .next (if jtagIsolates i && !s.boot.pins.jtagHeld then s.jtagIsolate else s)

/-! SEALED (R570). -/

/-- Events recorded during start-up are raised now (R453, R593). -/
def State.pendRaise (s : State) : State :=
  let evs := s.boot.pendEvents
  let tam := s.sec.pendTamper
  let s := (s.modBoot fun b => { b with pendEvents := [] }).modSec fun x => { x with pendTamper := [] }
  let s := s.each evs fun s e => s.raise e.1 0xFF noUnit e.2
  s.each tam fun s d => s.raise 109 0xFF noUnit d

/-- The device is SEALED with a cause (R570): the key store stays empty, firmware runs only group 0x01 and
`update.status`. -/
def State.sealDevice (s : State) (cause : Nat) : State :=
  if s.boot.state = 2 then s
  else
    let s := (s.count 16 0 ctrBootSeals).modBoot fun b => { b with
      sealCause := cause, fwRunning := true, phase := .done }
    let s := { s with sec := s.sec.settled }
    let s := (((s.modSlp fun z => { z with ps := .service }).setDevState 2).parserUpdate 2).pendRaise
    s.each (List.range 8) State.firmwareTakes

/-! The start (R567). -/

/-- The flash answers (R570, R598, R613). -/
def State.flashAnswers (s : State) : Bool :=
  (s.boot.flashOk || (s.src 180).pair != 2) && inRange s.boot.flashMiB 64 512 && (s.src 166).pair != 2

/-- Tamper inputs that are enabled and at their active level (R449). -/
def Sec.activeInputs (x : Sec) : Nat := x.ten &&& ((x.tampIn ^^^ x.tpol) ^^^ 0xF)

/-- Alarms after a change of the configuration: inputs follow their level, internal monitors stay (R449, R460). -/
def Sec.alarmsNow (x : Sec) : Nat := x.alarms / 16 * 16 + x.activeInputs % 16

/-- The root key is regenerated (R454); the loader derives the storage key. -/
def State.rootBack (s : State) : State :=
  s.keyRoot.modSec fun x => { x with regens := min (x.regens + 1) 0xFFFFFFFF }

/-- The loader checks `SCRC` and the body tag of the settings sets (R586): bit 0 of `sets` says that those of the active
set check, bit 1 those of the other. A set that fails is counted and treated as invalid; the other one serves where it has
the same format or the old format that a trial image keeps up. -/
def State.settingsCheck (s : State) (sets : Nat) : State :=
  let bad (s : State) (x : Settings) (ok : Bool) : State :=
    if x.valid && !ok then (s.report 167).count 16 0 ctrBootSettingsInvalid else s
  let a := s.boot.settings
  let o := s.boot.setOther
  let s := bad (bad s a (bit sets 0)) o (bit sets 1)
  let av := a.valid && bit sets 0
  let ov := o.valid && bit sets 1
  s.modBoot fun b => if !av && ov then { b with settings := o, setOther := { a with valid := false } }
    else { b with settings := { a with valid := av }, setOther := { o with valid := ov } }

/-- Step 3 of R567: descriptor and settings are read, the tamper configuration of the settings set applies (R449), and the device ID is that of the set (R519). An
interrupted swap is taken up again at a boot (R582). -/
def State.loaderReads (s : State) (sets : Nat) : State :=
  if !s.flashAnswers then (s.report 166).sealDevice 4
  else
    let s := s.settingsCheck sets
    let s := match s.sec.savedTen, s.boot.wakeStart with
      | some c, false => s.modSec fun x => { x with ten := c.1, tpol := c.2.1, wipe := c.2.2 }
      | _, _ => s
    let s := if s.boot.wakeStart then s else s.modCw fun c => { c with
      id := if s.boot.settings.valid then s.boot.settings.cwId else 0 }
    let s := s.modSec fun x => { x with alarms := x.alarmsNow }
    let s := if s.boot.swap.isSome then s.count 16 0 ctrBootSwapsResumed else s
    s.modBoot fun b => { b with phase := .loader }

/-- Steps 2 and 3 of R567. -/
def State.pufStart (s : State) (ok : Bool) (sets : Nat) : State :=
  let s := if s.boot.wakeStart then s else s.count 16 0 ctrBootBoots
  if s.sec.alarms ≠ 0 then s.sealDevice 1
  else if !s.sec.enrolled then s.loaderReads sets
  else if ok then s.rootBack.loaderReads sets
  else (s.report 145).sealDevice 2

/-- The Security Island has started alone (R444, R454): its root and then its key slots come back. -/
def State.pufAlone (s : State) (ok : Bool) : State :=
  if ok then s.rootBack.keyRecreate.encResume true else (s.report 145).sealDevice 2

/-- `PUF_REGENERATION` (R454): at a start, or after a restart of the Security Island of an enrolled
device. -/
def execPufRegeneration (t : Nat) (result : PufResult) (s : State) : Host.Outcome State Fault Refusal :=
  let s := s.tick t
  .next (if s.boot.phase == .core && s.boot.pins.coreOk then s.pufStart result.ok result.sets
    else if s.boot.phase == .done && s.sec.enrolled && !(s.keySlot 0).valid && s.islandUp 4 && s.islandUp 5 &&
        s.boot.state != 2 then s.pufAlone result.ok
    else s)

/-! Images (R573, R575, R578). -/

/-- Package bytes of one flash page (R575). -/
def pageBytes : Nat := 65520

/-- The bytes of an image area. -/
def areaBytes (t : Tab (List Byte)) : List Byte := t.cells.flatMap fun (c : Nat × List Byte) => c.2

/-- Stored length of a package in pages of 65 536 bytes (R575). -/
def storedLen (n : Nat) : Nat := (n + pageBytes - 1) / pageBytes * 65536

/-- Parts of a type that serve a device ID (R573). -/
def partsFor (b : List Byte) (typ dev : Nat) : Nat :=
  ((List.range (le b 3 1)).filter fun i => le b (64 + 48 * i) 1 == typ && le b (65 + 48 * i) 1 == dev).length

/-- A package serves a device (R573). -/
def serves (b : List Byte) (id : Nat) : Bool :=
  (range 1 5).all fun typ => partsFor b typ id == 1 || partsFor b typ 0 == 1

/-- The header of an image is in order (R573, R578). -/
def headerOk (b : List Byte) : Bool :=
  le b 0 2 == 0x4352 && le b 2 1 == 1 && le b 4 4 == b.length && inRange (le b 3 1) 1 64

/-- The first of the checks of R578 that need no key and fail; 0 where they pass. -/
def headerCode (b : List Byte) (id : Nat) : Nat :=
  if !headerOk b then 2 else if 0xB0 < le b 12 1 then 3 else if serves b id then 0 else 4

/-- The result code of R578 for an area. `tags` says that every tag checks, which rests on keys of Varbolo and of the
device; which of several tags fails first is then a free value (log entry 3). A failed page tag, which only a wrapped area
has, raises FS167 (R575). The contents of an area that the device
left the factory with are not known, and its header is taken to be in order. -/
def State.imageCheck (s : State) (area : Tab (List Byte)) (wrapped tags : Bool) : Nat × State :=
  let code := if area.cells.isEmpty then 0 else headerCode (areaBytes area) s.cw.id
  if tags then (code, s)
  else
    let (k, s) := s.drawBelow 3
    if wrapped && k = 0 then (1, s.report 167) else (if k = 1 then 2 else if code = 0 then 5 else code, s)

/-! The swap (R581, R582, R588). -/

/-- Change the boot descriptor; a write raises its `SEQ` (R572). -/
def State.modDesc (s : State) (f : BootDesc → BootDesc) : State :=
  s.modBoot fun b => { b with d := { f b.d with dSeq := b.d.dSeq + 1 } }

/-- The last page of a swap is done: the descriptor is written once (R581). A swap back is reported when firmware
starts (R593). -/
def State.swapFinish (s : State) (dir : Nat) : State :=
  let s := s.modBoot fun b => { b with swap := none }
  if dir = 2 then s.modDesc fun d => { d with dflags := setBit d.dflags 0 true }
  else
    let s := s.modDesc fun d => { d with
      imgState := if dir = 0 then 3 else 0, stgState := if dir = 0 then 3 else 4
      trialBoots := if dir = 0 then 0 else d.trialBoots
      runVer := d.stgVer, stgVer := d.runVer, runWrap := d.stgWrap, stgWrap := d.runWrap, runLen := d.stgLen
      stgLen := d.runLen, dflags := flag (bit d.dflags 1) + flag (bit d.dflags 0) 1 }
    if dir = 0 then s.count 16 0 ctrBootInstalls
    else s.modBoot fun b => { b with
      pendEvents := b.pendEvents ++ [(126, b.d.actId % 65536 + b.fallCause % 256 * 65536)] }

/-- A swap begins (R581). -/
def State.swapBegin (s : State) (dir : Nat) : State :=
  let d := s.boot.d
  let total := (max d.runLen (if dir = 2 then 0 else d.stgLen) + 65535) / 65536
  let s := s.modDesc fun d => { d with
    swapId := (d.swapId + 1) % 2 ^ 32
    imgState := if dir = 0 then 2 else if dir = 1 then 5 else d.imgState }
  let s := s.modBoot fun b => { b with
    swapDone := 0, swapTotal := total, swap := some { dir := dir, total := total } }
  if total = 0 then s.swapFinish dir else s

/-- Put a page of an area in place, or take it out where there is none. -/
def pagePut (t : Tab (List Byte)) (k : Nat) (p : Option (List Byte)) : Tab (List Byte) :=
  match p with
  | some b => t.set k b
  | none => t.erase k

/-- One step of a page (R581). A wrap leaves the bytes of the package as they are. -/
def State.swapStep (s : State) (w : Swap) : State :=
  let k := w.page
  let b := s.boot
  let s := if w.dir = 2 then s
    else if w.step = 1 then s.modBoot fun b => { b with
      swap := b.swap.map fun w => { w with scratch := b.running.get [] k } }
    else if w.step = 2 then s.modBoot fun b => { b with running := pagePut b.running k (b.staging.find k) }
    else s.modBoot fun x => { x with
      staging := pagePut x.staging k (if w.scratch.isEmpty then none else some w.scratch) }
  if w.step < 3 then s.modBoot fun b => { b with swap := b.swap.map fun w => { w with step := w.step + 1 } }
  else
    let s := s.modBoot fun x => { x with
      swapDone := k + 1
      swap := some { dir := w.dir, page := k + 1, step := 1, total := w.total } }
    if b.swapTotal ≤ k + 1 then s.swapFinish w.dir else s

/-- `SWAP_PAGE_STEP` (R581). -/
def execSwapPageStep (t : Nat) (s : State) : Host.Outcome State Fault Refusal :=
  let s := s.tick t
  .next (match s.boot.swap with
    | some w => if s.boot.phase == .loader then s.swapStep w else s
    | none => s)

/-- A swap back begins, with the cause that EV126 will name (R593); the member's next report comes from the old image
(R584). -/
def State.fallBack (s : State) (cause : Nat) (owed : Bool) : State :=
  (s.modBoot fun b => { b with fallCause := cause, reportOwed := owed && b.d.actId != 0 }).swapBegin 1

/-- A failed check is counted and kept (R592, R594). -/
def State.checkFailed (s : State) (code : Nat) : State :=
  (s.count 16 0 ctrBootCheckFail).modBoot fun b => { b with lastResult := code }

/-- The running image passes or not (R580, R588). -/
def State.checkRunning (s : State) (running staging : Bool) : State :=
  let (r, s) := s.imageCheck s.boot.running (bit s.boot.d.dflags 0) running
  if r = 0 then
    let s := if s.boot.d.imgState = 3 && !s.boot.wakeStart then
        s.modDesc fun d => { d with trialBoots := d.trialBoots + 1 } else s
    s.modBoot fun b => { b with phase := .ready }
  else
    let s := s.checkFailed r
    if s.boot.d.imgState = 3 then s.fallBack 2 true
    else if s.boot.d.stgState = 3 then
      let (q, s) := s.imageCheck s.boot.staging (bit s.boot.d.dflags 1) staging
      if q = 0 then s.fallBack 3 false else s.sealDevice 3
    else s.sealDevice 3

/-- The staged package passes or not (R579). -/
def State.checkStaging (s : State) (staging : Bool) : State :=
  let (r, s) := s.imageCheck s.boot.staging (bit s.boot.d.dflags 1) staging
  if r = 0 then (s.modDesc fun d => { d with trialBoots := 0 }).swapBegin 0
  else
    ((s.checkFailed r).modBoot fun b => { b with reportOwed := b.d.actId != 0 }).modDesc fun d =>
      { d with imgState := 0, stgState := 4 }

/-- What the loader does next at steps 5 and 6 (R575, R579, R580, R588). A wake only checks the running image. -/
def State.loaderCheck (s : State) (running staging : Bool) : State :=
  let d := s.boot.d
  let boot := !s.boot.wakeStart
  if s.sec.alarms ≠ 0 then s.sealDevice 1
  else if boot && d.imgState = 1 then s.checkStaging staging
  else if boot && d.imgState = 4 then s.swapBegin 1
  else if boot && d.imgState = 3 && d.trialBoots = 3 then (s.count 16 0 ctrBootFallbacks).fallBack 4 true
  else if boot && s.sec.enrolled && !bit d.dflags 0 then s.swapBegin 2
  else s.checkRunning running staging

/-- `LOADER_IMAGE_CHECK` (R578): every tag of the running and of the staged image checks, or not. -/
def execLoaderImageCheck (t : Nat) (running staging : Bool) (s : State) : Host.Outcome State Fault Refusal :=
  let s := s.tick t
  .next (if s.boot.phase == .loader && s.boot.swap.isNone then s.loaderCheck running staging else s)

/-! Firmware starts (R444, R567, R583, R587). -/

/-- The settings format of the running image, where its header is known (R573). -/
def State.runFormat (s : State) : Nat :=
  if s.boot.running.cells.isEmpty then s.boot.settings.format else le (areaBytes s.boot.running) 13 1

/-- The set of the running image's format is the active one (R586); where there is none, the settings are converted at
the first start of a trial image into the other set, the old format being kept up as well (R587). -/
def State.settingsConvert (s : State) : State :=
  let f := s.runFormat
  let a := s.boot.settings
  let o := s.boot.setOther
  if f = a.format then s
  else if o.valid && o.format = f then
    s.modBoot fun b => { b with settings := { o with dual := none }, setOther := { a with valid := false } }
  else s.modBoot fun b => { b with
    settings := { a with format := f, seq := max a.seq o.seq + 1, dual := some a.format }, setOther := a }

/-- `FIRMWARE_START` (R567 step 6 and 7). -/
def execFirmwareStart (t : Nat) (s : State) : Host.Outcome State Fault Refusal :=
  let s := s.tick t
  .next (if s.boot.phase ≠ .ready then s
    else if s.sec.alarms ≠ 0 then s.sealDevice 1
    else
      let s := s.modBoot fun b => { b with fwRunning := true, phase := .firmware }
      let s := if s.sec.enrolled then s.keyRecreate else s
      s.settingsConvert.pendRaise.each (List.range 8) State.firmwareTakes)

/-- The parse-graph part of the running package: an image of R196 whose contents the spec does not give (log
entry 3). -/
def packageGraph (ver : Nat) : List Byte := leBytes 2 0x4750 ++ leBytes 32894 (Config.packageGraph ver)

/-- The committed configuration is installed (R567 step 7): enabled controllers integrate, 10BASE-T1S ports have link,
encrypting ports start with fresh nonces, and a device without a graph of the host's takes that of its package. -/
def State.install (s : State) : State :=
  let s := s.modParse fun p => if p.cur.graph.isEmpty then
    { p with cur := { p.cur with graph := packageGraph s.boot.d.runVer } } else p
  let s := { s with buses := s.buses.map fun _ (x : Bus) => { x with
    integrating := x.enabled && x.cfg.isSome
    tmode := match x.cfg with | some c => c.tmodeFn && c.tmodeLevel | none => false } }
  let s := if s.boot.wakeStart then
      s.each ((range 16 8).filter fun p => (s.port p).enabled) fun s p =>
        s.send (.burst p (2 * (s.port p).cfg.t1sWakeMin))
    else s
  let s := s.each ((List.range 24).filter fun p =>
    (s.port p).enabled && (s.port p).cfg.mode == 5 && !(s.port p).remoteFault) State.linkRaised
  s.encResume true

/-- The device enters `STATE` 5 with its trial image (R583). -/
def State.enterTrial (s : State) : State :=
  (s.modBoot fun b => { b with
    trialAt := some s.now, reportOwed := true, reportAt := none, reports := {}, actCommitted := false }).setDevState 5

/-- The device enters `STATE` 1 at the end of a start; after a wake the lease timers run again (R557). -/
def State.enterService (s : State) : State :=
  let s := s.setDevState 1
  let s := if s.boot.wakeStart then
      s.awake.modTwin fun w => { w with
        renewedAt := if w.role == .active then s.now else w.renewedAt
        claimFrom := if w.role == .standby then some s.now else w.claimFrom }
    else s
  (s.parserUpdate 2).twinReview

/-- `FIRMWARE_READY` (R567 step 8). -/
def execFirmwareReady (t : Nat) (s : State) : Host.Outcome State Fault Refusal :=
  let s := s.tick t
  .next (if s.boot.phase ≠ .firmware || !s.fwUp then s
    else if s.sec.alarms ≠ 0 then s.sealDevice 1
    else
      let trial := s.boot.d.imgState == 3 && s.boot.d.actId != 0 && !s.boot.wakeStart
      let s := s.install.modBoot fun b => { b with phase := .done }
      if trial then s.enterTrial else s.enterService)

/-- `COMMAND_FIRMWARE_WAIT_TIMEOUT` (R568): firmware has not started 2 s after the acceptance. -/
def execCommandFirmwareWaitTimeout (t : Nat) (m : Fin 8) (s : State) : Host.Outcome State Fault Refusal :=
  let s := s.tick t
  let b := s.mb m
  .next (if b.outstanding && !s.boot.fwRunning && s.boot.state == 0 && decide (b.acceptedAt + 2000000000 ≤ s.now) then
      s.complete m { status := stTimeout }
    else s)

end Sys2Proof.Machine
end

