-- ==== Sys2Proof/Machine/Update.lean ====
section
/-! DEFINITION. Staging, activation, confirmation and fall-back of Crava packages (R576, R577, R583, R584, R587,
R589 to R593). The bodies of update messages beyond R583's report and orders are the model's own (log entry 15), their
fields in network byte order (R4). -/

namespace Sys2Proof.Machine

open Sys2Proof

/-- `DETAIL` of the update events (R593). -/
def State.actDetail (s : State) : Nat := s.boot.d.actId % 65536

/-- This device coordinates updates: the master, or any device while `CASCADE` is 0 (R591). -/
def State.updMaster (s : State) : Bool := s.cw.cascade == 0 || s.cw.master == s.cw.id

/-- Greatest `PKG_LEN` (R571, R573). -/
def State.pkgMax (s : State) : Nat := (s.boot.flashMiB - 16) * 1048576 / 2 * 65520 / 65536

/-! One member (R576, R577, R589, R590). -/

/-- A member opens its staging area (R576 step 1); the wrap identifier is random. -/
def State.stageBegin (s : State) (len crc : Nat) (others : List Nat) : State :=
  let (w, s) := s.drawBelow 65536
  let s := s.modDesc fun d => { d with
    stgState := 1, stgWrap := w, members := others, stgVer := 0, stgLen := 0
    dflags := setBit d.dflags 1 s.sec.enrolled }
  s.modBoot fun b => { b with pkgLen := len, pkgCrc := crc, nextOff := 0, staging := {} }

/-- Append bytes to the staging area from an offset that stands `k` pages up; a page takes what fits (R575). -/
def pagesAppend (t : Tab (List Byte)) (off : Nat) (bs : List Byte) : Tab (List Byte) :=
  let k := off / pageBytes
  let o := off % pageBytes
  let a := bs.take (pageBytes - o)
  let b := bs.drop (pageBytes - o)
  let t := t.set k ((if o = 0 then [] else (t.get [] k).take o) ++ a)
  if b.isEmpty then t else t.set (k + 1) b

/-- A member programs a chunk (R576 step 2). -/
def State.stageWrite (s : State) (off : Nat) (bs : List Byte) : State :=
  s.modBoot fun b => { b with staging := pagesAppend b.staging off bs, nextOff := off + bs.length }

/-- What a member says to a chunk: a chunk that was already taken is answered again. -/
def State.stageAsk (s : State) (off len : Nat) : Nat :=
  if s.boot.d.stgState ≠ 1 || s.boot.pkgLen < off + len then stInvalid
  else if s.boot.nextOff ≠ off && s.boot.nextOff ≠ off + len then stInvalid
  else if !s.flashAnswers then stFault else stOk

/-- The transport CRC of a member's staging area agrees with its trailer and with `PKG_CRC` (R576 step 3). -/
def State.stageCrcOk (s : State) : Bool :=
  let b := areaBytes s.boot.staging
  let body := b.take (b.length - 4)
  s.boot.d.stgState == 1 && b.length == s.boot.pkgLen && decide (68 ≤ b.length) &&
    crc32 body == le b (b.length - 4) 4 && crc32 body == s.boot.pkgCrc

/-- Staging is finished on a member (R576 step 3). -/
def State.stageDone (s : State) : State :=
  let b := areaBytes s.boot.staging
  (s.modDesc fun d => { d with stgState := 2, stgVer := le b 8 4, stgLen := storedLen b.length }).raise 124 0xFF
    noUnit s.actDetail

/-- A member can be activated (R577, R587). -/
def State.actAsk (s : State) : Nat :=
  let b := areaBytes s.boot.staging
  let old := s.boot.settings.format
  if s.boot.d.stgState ≠ 2 || s.boot.d.imgState ≠ 0 then stDenied
  else if le b 13 1 ≠ old && le b 14 1 ≠ old then stInvalid else stOk

/-- A member is activated (R577); a target takes the 100 ms of `REBOOT` from its own commit, the master from the
completion of the command (`State.rebootClock`). -/
def State.actHere (s : State) (id wait : Nat) (reboot : Bool) : State :=
  (s.modDesc fun d => { d with imgState := 1, actId := id }).modBoot fun b => { b with
    actWait := wait, rebootAt := if reboot then some (s.now + 100000000) else none
    actCommitted := false, reports := {}, reportOwed := false }

/-- A member can confirm (R589). -/
def State.confirmAsk (s : State) : Nat := if s.boot.d.imgState = 3 && s.boot.state = 1 then stOk else stDenied

/-- A member confirms (R589). -/
def State.confirmHere (s : State) : State :=
  ((s.modDesc fun d => { d with imgState := 0, stgState := 4 }).modBoot fun b => { b with
    settings := { b.settings with dual := none }
    setOther := if b.settings.dual.isSome then { b.setOther with valid := false } else b.setOther }).raise 127 0xFF noUnit s.actDetail

/-- A member can be reverted (R590). -/
def State.revertAsk (s : State) : Nat := if s.boot.d.imgState = 3 then stOk else stDenied

/-- A member is reverted (R590): with `REBOOT` it resets at once. -/
def State.revertHere (s : State) (reboot : Bool) : State :=
  (s.modDesc fun d => { d with imgState := 4 }).modBoot fun b => { b with
    fallCause := 5, rebootAt := if reboot then some s.now else none }

/-- The device resets itself (R577, R583); supplies and straps stay as they are. -/
def State.selfReset (s : State) : State :=
  s.deviceReset.modBoot fun b => { b with phase := .core }

/-- `ACTIVATE_REBOOT` (R577, R590). -/
def execActivateReboot (t : Nat) (s : State) : Host.Outcome State Fault Refusal :=
  let s := s.tick t
  .next (match s.boot.rebootAt with
    | some r => if r ≤ s.now then s.selfReset else s
    | none => s)

/-! Relaying to the members (R576, R577). -/

/-- `REQ_ID` of a relayed step of a command. -/
def relayId (op m : Nat) : Nat := 0xFF000000 + op * 256 + m

/-- An update message with an operation (R576, R583). -/
def updBody (op : Nat) (rest : List Byte) : List Byte := leBytes 1 4 ++ leBytes 1 op ++ rest

/-- Send an update message to every other member. -/
def State.updTell (s : State) (op : Nat) (rest : List Byte) : State :=
  s.each s.boot.d.members fun s d => s.tell d 2 (updBody op rest)

/-- Ask devices for a relayed step of mailbox `m` and wait for them (R576, R577). -/
def State.relay (s : State) (m op : Nat) (members : List Nat) (rest : List Byte) : State :=
  (s.modBoot fun b => { b with relayWait := members, relayFail := [] }).each members fun s d =>
    s.tell d 2 (updBody op (beBytes 4 (relayId op m) ++ rest))

/-- The members' own numbers in a list of devices. -/
def idBytes (l : List Nat) : List Byte := l.flatMap fun d => leBytes 1 d

/-- Targets that `update.begin` names. -/
def beginTargets (p : List Byte) : List Nat := (List.range (le p 8 1)).map fun i => le p (10 + i) 1

/-- Change the figures of a running command. -/
def State.setAux (s : State) (m : Nat) (l : List Nat) : State := s.modMb m fun b => { b with aux := l }

/-- The operation of an update message that asks the members for the step of a command. -/
def askOp (code : Nat) : Nat :=
  if code = 0x1001 then 16 else if code = 0x1002 then 17 else if code = 0x1003 then 18
  else if code = 0x1004 then 20 else if code = 0x1005 then 22 else 24

/-- The commit point of `update.activate`, `update.confirm` or `update.revert` (R577, R589, R590): this device takes the
step, the other members are ordered to, and the command ends when each has answered (R93). -/
def State.updCommit (s : State) (m op : Nat) (rest : List Byte) (here : State → State) : State :=
  let members := s.boot.d.members
  let s := (here s).modMb m fun b => { b with
    committed := true, aux := []
    waiting := { island := 5, unit := 63 } :: members.map fun d => { dev := some d, island := 5, unit := 63 } }
  s.relay m op members rest

/-- What an update command answers after its commit (R591). -/
def State.updReply (s : State) (code : Nat) : List Byte := 
  if code = 0x1004 then leBytes 4 s.boot.d.actId else []

/-- A committed update command ends once every member has answered (R93). -/
def State.updEnd (s : State) (m code : Nat) : State :=
  if s.boot.relayWait.isEmpty && (s.mb m).aux.isEmpty then s.commitEnd m (s.updReply code) else s

/-- Every member has answered a relayed step of mailbox `m`: the command goes on or ends. `st` is the first status
that was not `OK`, or 0. -/
def State.relayEnd (s : State) (m st : Nat) : State :=
  match (s.mb m).req with
  | none => s
  | some r =>
    let p := r.payload
    let prepare := bit r.flags 1
    let code := r.code
    let reboot := bit (le p 0 1) 0
    if code = 0x1003 then
      let bad := s.boot.relayFail
      if bad.isEmpty then (s.stageDone.updTell 19 []).complete m (.ok [0])
      else s.complete m { status := stInvalid, payload := leBytes 1 bad.length ++ idBytes bad }
    else if st ≠ 0 then s.complete m { status := st }
    else if code = 0x1001 then (s.stageBegin (le p 0 4) (le p 4 4) (beginTargets p)).complete m .ok
    else if code = 0x1002 then
      let s := s.stageWrite (le p 0 4) (p.drop 8)
      s.complete m (.ok (leBytes 4 s.boot.nextOff))
    else if prepare then s.complete m .ok
    else
      let s := if code = 0x1004 then
          let (v, s) := s.drawBelow (2 ^ 32 - 1)
          s.updCommit m 21 (beBytes 4 (v + 1) ++ beBytes 4 (le p 4 4) ++ leBytes 1 (flag reboot))
            fun s => s.actHere (v + 1) (le p 4 4) reboot
        else if code = 0x1005 then s.updCommit m 23 [] State.confirmHere
        else s.updCommit m 25 (leBytes 1 (flag reboot)) fun s => s.revertHere reboot
      s.updEnd m code

/-- The operation whose answers mailbox `m` awaits, if it runs an update command that is not under abort. -/
def State.relayOp (s : State) (m : Nat) : Option Nat :=
  match (s.mb m).req with
  | some r =>
    if (s.mb m).running && r.code / 256 == 16 && (s.mb m).mstate != 3 then
      some (if (s.mb m).committed then askOp r.code + 1 else askOp r.code)
    else none
  | none => none

/-- A member answers a step of a relayed request (R576): `st` is its status. An answer to another request is dropped. After
the commit point a member that did not take the step is listed with `FAULT` (R93). -/
def State.relayAnswer (s : State) (reqId dev st : Nat) : State :=
  let m := reqId % 256
  if !s.boot.relayWait.contains dev || (s.relayOp m).map (fun op => relayId op m) != some reqId then s
  else
    let s := s.modBoot fun b => { b with
      relayWait := b.relayWait.filter fun d => d != dev
      relayFail := if st = 0 then b.relayFail else b.relayFail ++ [dev] }
    if (s.mb m).committed then
      let s := s.modMb m fun b => { b with
        waiting := b.waiting.map fun u => if u.dev = some dev && st ≠ 0 then { u with faulted := true } else u }
      s.updEnd m (match (s.mb m).req with
        | some r => r.code
        | none => 0)
    else
      let first := (s.mb m).aux.getD 0 0
      let first := if first = 0 then st else first
      let s := s.setAux m [first]
      if s.boot.relayWait.isEmpty then s.relayEnd m first else s

/-- A running update command asks other members; without any it goes on at once. -/
def State.relayOr (s : State) (m : Nat) (members : List Nat) (code : Nat) (rest : List Byte) (own : Nat) : State :=
  let s := (s.relay m (askOp code) members rest).setAux m [own]
  let s := if own = 0 then s else s.modBoot fun b => { b with relayFail := [s.cw.id] }
  if s.boot.relayWait.isEmpty then s.relayEnd m own else s

/-- The mailbox that runs an update command. -/
def State.updMbx (s : State) : Option Nat :=
  (List.range 8).find? fun m => (s.mb m).running && (match (s.mb m).req with
    | some r => r.code / 256 == 16
    | none => false)

/-! Commands of the master (R576, R577, R589 to R592). -/

/-- Who may give an update command (R591). -/
def State.updGate (s : State) (targets : List Nat) : Check :=
  needLeave (s.updMaster && !(s.cw.id == 0 && !targets.isEmpty))

/-- Checks of `update.begin` (R576, R591). -/
def checkUpdateBegin (s : State) (p : List Byte) : Check :=
  let l := beginTargets p
  firstFail ([s.updGate l, needLeave (s.boot.d.imgState == 0),
    needLen (decide (10 ≤ p.length) && p.length == 10 + le p 8 1), needField p 0 4 1 s.pkgMax, needField p 8 1 0 19, needZeros p 9 1] ++
    (List.range l.length).map fun i =>
      let d := l.getD i 0
      need ((s.hopsTo d).isSome && !(l.take i).contains d && d != s.cw.id) (10 + i))

/-- Start of `update.begin` (R576). -/
def startUpdateBegin (s : State) (p : List Byte) : State :=
  match s.updMbx with
  | none => s
  | some m =>
    let l := beginTargets p
    s.relayOr m l 0x1001 (beBytes 4 (le p 0 4) ++ beBytes 4 (le p 4 4) ++ leBytes 1 (l.length + 1) ++ idBytes (s.cw.id :: l)) 0

/-- `UPDATE_BEGIN` (R576). -/
def execUpdateBegin (t : Nat) (m : Fin 8) (s : State) : Host.Outcome State Fault Refusal :=
  .next (s.begins t m 0x1001 checkUpdateBegin startUpdateBegin)

/-- Checks of `update.write` (R576, R591): the chunk must begin where the previous one ended, in an open area. -/
def checkUpdateWrite (s : State) (p : List Byte) : Check :=
  let n := le p 4 2
  firstFail [s.updGate s.boot.d.members, needLen (decide (8 ≤ p.length) && p.length == 8 + n),
    need (s.boot.d.stgState == 1 && le p 0 4 == s.boot.nextOff) 0,
    need (inRange n 1 4088 && decide (s.boot.nextOff + n ≤ s.boot.pkgLen)) 4, needZeros p 6 2]

/-- Start of `update.write` (R576). -/
def startUpdateWrite (s : State) (p : List Byte) : State :=
  match s.updMbx with
  | none => s
  | some m =>
    if !s.flashAnswers then (s.report 166).complete m (.fault 166)
    else s.relayOr m s.boot.d.members 0x1002 (beBytes 4 (le p 0 4) ++ p.drop 8) 0

/-- `UPDATE_WRITE` (R576). -/
def execUpdateWrite (t : Nat) (m : Fin 8) (s : State) : Host.Outcome State Fault Refusal :=
  .next (s.begins t m 0x1002 checkUpdateWrite startUpdateWrite)

/-- Checks of `update.finish` (R591). -/
def checkUpdateFinish (s : State) (p : List Byte) : Check :=
  firstFail [s.updGate s.boot.d.members, needLen p.isEmpty]

/-- Start of `update.finish` (R576). -/
def startUpdateFinish (s : State) (_ : List Byte) : State :=
  match s.updMbx with
  | none => s
  | some m => s.relayOr m s.boot.d.members 0x1003 [] (if s.stageCrcOk then 0 else stInvalid)

/-- `UPDATE_FINISH` (R576). -/
def execUpdateFinish (t : Nat) (m : Fin 8) (s : State) : Host.Outcome State Fault Refusal :=
  .next (s.begins t m 0x1003 checkUpdateFinish startUpdateFinish)

/-- A step of this member itself that is refused ends the command. -/
def askCheck (st : Nat) : Check := if st = 0 then none else some { status := st }

/-- Checks of `update.activate` (R577, R587, R591). -/
def checkUpdateActivate (s : State) (p : List Byte) : Check :=
  let ask := s.actAsk
  firstFail [s.updGate s.boot.d.members, if ask = stDenied then askCheck ask else none, needLen (p.length == 8),
    needField p 0 1 0 1, needZeros p 1 3, needField p 4 4 10 1800, askCheck ask]

/-- Start of `update.activate` (R577). -/
def startUpdateActivate (s : State) (_ : List Byte) : State :=
  match s.updMbx with
  | none => s
  | some m => s.relayOr m s.boot.d.members 0x1004 [] 0

/-- `UPDATE_ACTIVATE` (R577). -/
def execUpdateActivate (t : Nat) (m : Fin 8) (s : State) : Host.Outcome State Fault Refusal :=
  .next (s.begins t m 0x1004 checkUpdateActivate startUpdateActivate)

/-- Checks of `update.confirm` (R589, R591). -/
def checkUpdateConfirm (s : State) (p : List Byte) : Check :=
  firstFail [s.updGate s.boot.d.members, askCheck s.confirmAsk, needLen p.isEmpty]

/-- Start of `update.confirm` (R589). -/
def startUpdateConfirm (s : State) (_ : List Byte) : State :=
  match s.updMbx with
  | none => s
  | some m => s.relayOr m s.boot.d.members 0x1005 [] 0

/-- `UPDATE_CONFIRM` (R589). -/
def execUpdateConfirm (t : Nat) (m : Fin 8) (s : State) : Host.Outcome State Fault Refusal :=
  .next (s.begins t m 0x1005 checkUpdateConfirm startUpdateConfirm)

/-- Checks of `update.revert` (R590, R591). -/
def checkUpdateRevert (s : State) (p : List Byte) : Check :=
  firstFail [s.updGate s.boot.d.members, askCheck s.revertAsk, needLen (p.length == 1), needField p 0 1 0 1]

/-- Start of `update.revert` (R590). -/
def startUpdateRevert (s : State) (_ : List Byte) : State :=
  match s.updMbx with
  | none => s
  | some m => s.relayOr m s.boot.d.members 0x1006 [] 0

/-- `UPDATE_REVERT` (R590). -/
def execUpdateRevert (t : Nat) (m : Fin 8) (s : State) : Host.Outcome State Fault Refusal :=
  .next (s.begins t m 0x1006 checkUpdateRevert startUpdateRevert)

/-- Checks of `update.status` (R591). -/
def checkUpdateStatus (_ : State) (p : List Byte) : Check := needLen p.isEmpty

/-- The answer of `update.status` (R592). -/
def answerUpdateStatus (s : State) (_ : List Byte) : Reply :=
  let b := s.boot
  .ok (leBytes 1 b.d.imgState ++ leBytes 1 b.d.stgState ++ leBytes 1 b.d.trialBoots ++ leBytes 1 b.sealCause ++
    leBytes 4 b.d.runVer ++ leBytes 4 b.d.stgVer ++ leBytes 4 b.d.actId ++ leBytes 4 b.nextOff ++
    leBytes 1 b.lastResult ++ leBytes 1 b.settings.format ++ [0, 0] ++ leBytes 4 b.swapDone ++ leBytes 4 b.swapTotal ++
    List.replicate 8 0)

/-- `UPDATE_STATUS` (R592). -/
def execUpdateStatus (t : Nat) (m : Fin 8) (s : State) : Host.Outcome State Fault Refusal :=
  .next (s.query t m 0x1007 checkUpdateStatus answerUpdateStatus)

/-! A target (R576). -/

/-- A target takes a relayed step; the status it answers. Operations 21, 23 and 25 commit (R577, R589, R590); one that was
taken before is answered again. -/
def State.targetStep (s : State) (op : Nat) (b : List Byte) : State × Nat :=
  if op = 16 then
    if s.boot.d.imgState ≠ 0 then (s, stDenied)
    else if s.pkgMax < be b 0 4 then (s, stInvalid)
    else (s.stageBegin (be b 0 4) (be b 4 4)
      (((List.range (le b 8 1)).map fun i => le b (9 + i) 1).filter fun d => d != s.cw.id), stOk)
  else if op = 17 then
    let data := b.drop 4
    let st := s.stageAsk (be b 0 4) data.length
    (if st = 0 && s.boot.nextOff == be b 0 4 then s.stageWrite (be b 0 4) data else s, st)
  else if op = 18 then (s, if s.stageCrcOk then stOk else stInvalid)
  else if op = 20 then (s, s.actAsk)
  else if op = 22 then (s, s.confirmAsk)
  else if op = 24 then (s, s.revertAsk)
  else if op = 21 then
    if s.actAsk = 0 then (s.actHere (be b 0 4) (be b 4 4) (le b 8 1 == 1), stOk)
    else (s, if s.boot.d.imgState = 1 && s.boot.d.actId == be b 0 4 then stOk else s.actAsk)
  else if op = 23 then
    if s.confirmAsk = 0 then (s.confirmHere, stOk)
    else (s, if s.boot.d.imgState = 0 && s.boot.d.stgState = 4 then stOk else s.confirmAsk)
  else if op = 25 then
    if s.revertAsk = 0 then (s.revertHere (le b 0 1 == 1), stOk)
    else (s, if s.boot.d.imgState = 4 then stOk else s.revertAsk)
  else (s, stInvalid)

/-- The answer of a target to a relayed step: its identifier and status. -/
def relayBody (reqId st : Nat) : List Byte := leBytes 1 9 ++ beBytes 4 reqId ++ leBytes 1 st

/-- `UPDATE_CHUNK_RECEIVED` (R576, R577): a target takes a relayed step and answers the master. -/
def execUpdateChunkReceived (t : Nat) (body : List Byte) (s : State) : Host.Outcome State Fault Refusal :=
  let s := s.tick t
  .next (if s.fwUp && le body 0 1 = 4 && decide (6 ≤ body.length) then
      let r := s.targetStep (le body 1 1) (body.drop 6)
      r.1.tell r.1.cw.master 3 (relayBody (be body 2 4) r.2)
    else s)

/-! Chain atomicity (R583, R584). -/

/-- A member swaps itself back (R583, R584). -/
def State.swapBackHere (s : State) (cause : Nat) (owed : Bool) : State :=
  if s.boot.d.imgState ≠ 3 then s
  else
    let s := (s.count 16 0 ctrBootChainSwapbacks).modDesc fun d => { d with imgState := 4 }
    (s.modBoot fun b => { b with fallCause := cause, reportOwed := owed }).selfReset

/-- A commit reaches a member in `STATE` 5 in time (R583, R584). -/
def State.commitTrial (s : State) : State :=
  match s.boot.trialAt with
  | some a =>
    if s.boot.state = 5 && decide (s.now < a + 2 * s.boot.actWait * 1000000000) then
      (((s.modBoot fun b => { b with trialAt := none }).raise 125 0xFF noUnit s.actDetail).setDevState 1).parserUpdate 2
        |>.twinReview
    else s
  | none => s

/-- The master orders a swap back (R583). -/
def State.orderBack (s : State) : State :=
  let s := s.updTell 3 (beBytes 4 s.boot.d.actId)
  (s.modBoot fun b => { b with actCommitted := false }).swapBackHere 1 false

/-- `ACT_WAIT` has passed since this device entered `STATE` 5 (R583). -/
def State.actWaitOver (s : State) : Bool :=
  match s.boot.trialAt with
  | some a => s.boot.state == 5 && decide (a + s.boot.actWait * 1000000000 ≤ s.now)
  | none => false

/-- The master takes a report (R583): from device `dev`, the version it runs, its result.
A report that comes when `ACT_WAIT` has passed commits nothing. -/
def State.masterReport (s : State) (dev ver result : Nat) : State :=
  let good := result == 0 && ver == s.boot.d.runVer && s.boot.d.imgState == 3
  let own := dev == s.cw.id
  if s.boot.actCommitted then
    if good then (if own then s else s.tell dev 2 (updBody 2 (beBytes 4 s.boot.d.actId)))
    else if s.boot.d.imgState = 3 then s.orderBack
    else if own then s else s.tell dev 2 (updBody 3 (beBytes 4 s.boot.d.actId))
  else if !good || s.actWaitOver then
    let s := s.modBoot fun b => { b with reports := b.reports.set dev (if result = 0 && !good then 0xFF else result) }
    let s := if own || s.boot.d.members.contains dev then s else s.tell dev 2 (updBody 3 (beBytes 4 s.boot.d.actId))
    s.orderBack
  else
    let s := s.modBoot fun b => { b with reports := b.reports.set dev 0 }
    if s.boot.state = 5 && (s.cw.id :: s.boot.d.members).all fun d => s.boot.reports.find d == some 0 then
      ((s.updTell 2 (beBytes 4 s.boot.d.actId)).modBoot fun b => { b with
        actCommitted := true, reportOwed := false }).commitTrial
    else s

/-- The result code this device reports: 0 for its trial image (R583). -/
def State.ownResult (s : State) : Nat := if s.boot.d.imgState = 3 then 0 else s.boot.lastResult

/-- A report is due (R583): at once, and every 1 s until answered. -/
def State.reportDue (s : State) : Bool :=
  s.fwUp && s.boot.phase == .done && s.boot.reportOwed && s.boot.d.actId != 0 &&
    (match s.boot.reportAt with | some a => decide (a + 1000000000 ≤ s.now) | none => true)

/-- `ACTIVATION_REPORT_SEND` (R583): to the master, which takes its own report itself. -/
def execActivationReportSend (t : Nat) (s : State) : Host.Outcome State Fault Refusal :=
  let s := s.tick t
  .next (if !s.reportDue then s
    else
      let d := s.boot.d
      let s := s.modBoot fun b => { b with reportAt := some s.now }
      if s.updMaster then (s.modBoot fun b => { b with reportOwed := false }).masterReport s.cw.id d.runVer s.ownResult
      else s.tell s.cw.master 2 (updBody 1 (beBytes 4 d.actId ++ beBytes 4 d.runVer ++ leBytes 1 s.ownResult)))

/-- `ACTIVATION_REPORT_RECEIVED` (R583). -/
def execActivationReportReceived (t : Nat) (dev : Nat) (body : List Byte) (s : State) :
    Host.Outcome State Fault Refusal :=
  let s := s.tick t
  .next (if s.fwUp && s.updMaster && le body 0 1 = 4 && le body 1 1 = 1 && be body 2 4 == s.boot.d.actId &&
      s.boot.d.members.contains dev then
      s.masterReport dev (be body 6 4) (le body 10 1)
    else s)

/-- `ACT_WAIT_EXPIRY` (R583): the master's wait for reports ends. -/
def execActWaitExpiry (t : Nat) (s : State) : Host.Outcome State Fault Refusal :=
  let s := s.tick t
  .next (if s.fwUp && s.updMaster && s.actWaitOver then s.orderBack else s)

/-- An order of the master (R583, R584), or the end of staging (R576 step 3). -/
def State.takeOrder (s : State) (op : Nat) (b : List Byte) : State :=
  if op = 2 then
    if be b 0 4 = s.boot.d.actId then (s.modBoot fun b => { b with reportOwed := false }).commitTrial else s
  else if op = 3 then
    if be b 0 4 = s.boot.d.actId then (s.modBoot fun b => { b with reportOwed := false }).swapBackHere 1 false else s
  else if op = 19 then (if s.stageCrcOk then s.stageDone else s)
  else s

/-- `ACTIVATION_ORDER_RECEIVED` (R584). -/
def execActivationOrderReceived (t : Nat) (body : List Byte) (s : State) : Host.Outcome State Fault Refusal :=
  let s := s.tick t
  .next (if s.fwUp && le body 0 1 = 4 then s.takeOrder (le body 1 1) (body.drop 2) else s)

/-- `SELF_SWAPBACK_TIMEOUT` (R584): EV126 has no cause of its own for it, so that is a free value (log entry 3). -/
def execSelfSwapbackTimeout (t : Nat) (s : State) : Host.Outcome State Fault Refusal :=
  let s := s.tick t
  .next (match s.boot.trialAt with
    | some a =>
      if s.fwUp && s.boot.state = 5 && decide (a + 2 * s.boot.actWait * 1000000000 ≤ s.now) then
        let (c, s) := s.drawBelow 256
        s.swapBackHere c true
      else s
    | none => s)

end Sys2Proof.Machine
end

