-- ==== Sys2Proof/Machine/Keys.lean ====
section
/-! DEFINITION. Tamper monitors, PUF enrolment, the entropy source, engines that go to waiting clients, and the entry
of a fault source (R429, R439, R449 to R456, R460, R468). -/

namespace Sys2Proof.Machine

open Sys2Proof

/-! Tamper alarms (R449 to R453). -/

/-- The fault source of a monitor: 0 to 3 the inputs, 4 voltage, 5 temperature, 6 clock (R449). -/
def monitorSource (n : Nat) : Nat := 147 + n

/-- When an alarm fires, as `TWHEN` (R450, R453); none while the device is held in reset. The clock monitor is not
watched in sleep (R452). -/
def State.tamperWhen (s : State) (monitor : Nat) : Option Nat :=
  let p := s.boot.pins
  if !p.aonOn || p.resetLow then none
  else if s.slp.ps == .sleep then (if monitor = 6 then none else some 3)
  else if s.slp.ps == .waking || s.boot.phase != .done then some 0
  else if s.slp.ps == .entry then some 2
  else some 1

/-- Tag and code of the key operations that an alarm abandons: `key.derive` and `key.enrol` in progress (R451). -/
def State.keyOps (s : State) : List Nat :=
  (List.range 8).filter fun m =>
    match (s.mb m).req with
    | some r => (s.mb m).mstate == 1 && (r.code == 0x0B01 || r.code == 0x0B05) && (s.ahead m r).isEmpty
    | none => false

/-- One engine at an alarm in service (R451): a running host job fails, host locks are released, and everything in
the engine is cleared. `tamper_aborts` counts frames, not jobs. -/
def State.tamperEngine (s : State) (e : Nat) : State :=
  let s := if (s.engine e).jstate = 1 then
      (s.jobEnd e 3 4).modEngine e fun x => { x with tamperAbort := true, setAt := x.setAt.set 9 s.now }
    else s
  s.modEngine e fun x => { x.cleared with lock := if x.hostHeld then 0 else x.lock }

/-- Frames of a causeway port that are being encrypted or decrypted are spoiled (R36, R451). -/
def State.tamperPort (s : State) (p : Nat) : State :=
  let x := s.port p
  let s := match x.rx with
    | some f => if x.cw.enc && (s.frame f).linkCtr != 0 then
        (s.verdict f true).count 11 (x.cw.engRx.getD 0) ctrCiphTamperAborts else s
    | none => s
  match x.tx with
  | some y => if x.cw.enc && x.cw.sessTx.isSome && !y.fcsSent && !plainTime y.bytes then
      (s.txStarve p ctrEthSpecCtStomped).count 11 (x.cw.engTx.getD 0) ctrCiphTamperAborts else s
  | none => s

/-- Secured bus frames being verified fail and commit nothing (R451). -/
def State.tamperSecured (s : State) : State :=
  let s := s.each (List.range 32) fun s b =>
    match (s.bus b).rx with
    | some r => match r.engine with
      | some e => if r.secFail = 0 then
          (s.modBus b fun x => { x with rx := some { r with secFail := 5 } }).count 11 e ctrCiphTamperAborts else s
      | none => s
    | none => s
  let s := s.each s.sig.wait fun s w =>
    match w.engine with
    | some e => if w.fail = 0 then s.count 11 e ctrCiphTamperAborts else s
    | none => s
  s.modSig fun g => { g with
    wait := g.wait.map fun w => if w.engine.isSome && w.fail = 0 then { w with fail := 5 } else w }

/-- Some operation is in progress on an engine, or a key operation in the mailboxes (R450). -/
def State.keyBusy (s : State) : Bool :=
  !s.keyOps.isEmpty || (List.range 8).any (fun e => (s.engine e).jstate == 1) ||
    (List.range 32).any (fun b => match (s.bus b).rx with
      | some r => r.engine.isSome && r.secFail == 0
      | none => false) ||
    s.sig.wait.any (fun w => w.engine.isSome && w.fail == 0) ||
    [0, 1, 2, 3].any fun p =>
      let x := s.port p
      x.cw.enc && ((match x.rx with
        | some f => (s.frame f).linkCtr != 0
        | none => false) || (match x.tx with
        | some y => x.cw.sessTx.isSome && !y.fcsSent && !plainTime y.bytes
        | none => false))

/-- The response of the Security Island to an alarm in service (R451). -/
def State.tamperService (s : State) (src : Nat) (wipe : Bool) : State :=
  let ops := s.keyOps
  let s := (s.each [0, 1, 2, 3] State.tamperPort).tamperSecured
  let s := s.each (List.range 8) State.tamperEngine
  let s := s.each ops fun s m => s.complete m (.fault src)
  if wipe then s.keyWipeHost.count 11 0x10000 ctrKeyTamperWipes else s

/-- The tamper record takes an alarm (R453): it names the first, and counts all. -/
def State.tamperNote (s : State) (src twhen : Nat) (aborted wiped : Bool) : State :=
  let unset := s.time.active.isNone || s.slp.ps == .sleep || s.slp.ps == .waking
  let first : TamperRec :=
    { source := src, twhen := twhen, valid := true, aborted := aborted, wiped := wiped, count := 0
      rtcS := s.rtcMs / 1000 % 2 ^ 32, time := if unset then 0 else s.activeNs }
  let s := s.count 11 0x10000 ctrKeyTamperAlarms
  s.modSec fun x =>
    let r := if x.record.valid then x.record else first
    { x with record := { r with count := min 255 (r.count + 1) } }

/-- `DETAIL` of EV109 (R461). -/
def tamperDetail (src twhen : Nat) (wiped : Bool) : Nat := src + min twhen 2 * 256 + flag wiped 10

/-- EV109 waits for firmware after an alarm at start-up or in sleep (R453). -/
def State.tamperPend (s : State) (d : Nat) : State := s.modSec fun x => { x with pendTamper := x.pendTamper ++ [d] }

/-- A monitor that is not in alarm enters fault (R449 to R453). -/
def State.tamperFires (s : State) (n : Nat) : State :=
  let src := monitorSource n
  match s.tamperWhen n with
  | none => s
  | some w =>
    let s := s.modSec fun x => { x with alarms := setBit x.alarms n true }
    let wipe := bit s.sec.wipe n && (w = 1 || w = 2)
    let s := s.tamperNote src w ((w = 1 || w = 2) && s.keyBusy) wipe
    if w = 0 then
      let s := (s.tamperPend (tamperDetail src w false)).report src
      if s.boot.pins.coreOk && s.slp.ps != .sleep then s.sealDevice 1 else s
    else if w = 3 then
      ((s.tamperPend (tamperDetail src w false)).modSec fun x => { x with clearMark := true }).wakeBy [{ cause := 10 }]
    else ((s.tamperService src wipe).raiseOf 109 ⟨4, 10⟩ (tamperDetail src w wipe)).report src

/-- A monitor fires: an input is at its active level; only an enabled one gives an alarm (R449). -/
def State.tamperEnter (s : State) (n : Nat) : State :=
  let s := if n < 4 then s.modSec fun x => { x with tampIn := setBit x.tampIn n (bit x.tpol n) } else s
  if bit s.sec.alarms n || (n < 4 && !bit s.sec.ten n) then s else s.tamperFires n

/-- `TAMPER_ALARM` (R450). -/
def execTamperAlarm (t : Nat) (monitor : Fin 7) (s : State) : Host.Outcome State Fault Refusal :=
  .next ((s.tick t).tamperEnter monitor)

/-- A monitor reads quiet: its alarm ends; an input leaves its active level (R449). -/
def State.tamperLeave (s : State) (n : Nat) : State :=
  (s.modSec fun x => { x with
    alarms := setBit x.alarms n false
    tampIn := if n < 4 then setBit x.tampIn n (!bit x.tpol n) else x.tampIn }).quieten (monitorSource n)

/-- `FAULT_SOURCE_QUIET` (R474): a tamper monitor and the entropy source are quiet with their source (R439, R449). -/
def execFaultSourceQuiet (t : Nat) (src : Fin 256) (s : State) : Host.Outcome State Fault Refusal :=
  let s := s.tick t
  let n : Nat := src
  .next (if inRange n 147 153 then s.tamperLeave (n - 147)
    else if n = 144 then (s.modSec fun x => { x with entropyOk := true }).quieten n
    else if (srcRow n).isSome then s.quieten n
    else s)

/-! The tamper configuration (R460). -/

/-- Checks of `key.tamper.config` (R460). -/
def checkKeyTamperConfig (_ : State) (p : List Byte) : Check :=
  firstFail [needLen (p.length == 8), needField p 0 1 0 0xF, needField p 1 1 0 0xF, needField p 2 1 0 0x7F,
    needField p 3 1 0 3, needZeros p 4 4]

/-- Effect of `key.tamper.config` (R460): an input disabled or no longer at its active level ends its alarm, one that
is now active raises an alarm at once. -/
def effectKeyTamperConfig (s : State) (p : List Byte) : State × Reply :=
  let f := le p 3 1
  let s := s.modSec fun x => { x with
    ten := le p 0 1, tpol := le p 1 1, wipe := le p 2 1
    savedTen := if bit f 0 then some (le p 0 1, le p 1 1, le p 2 1) else x.savedTen
    record := if bit f 1 then {} else x.record }
  let s := if bit f 0 then s.persist id else s
  let act := s.sec.activeInputs
  let s := s.each (List.range 4) fun s n =>
    if bit s.sec.alarms n && !bit act n then
      (s.modSec fun x => { x with alarms := setBit x.alarms n false }).quieten (monitorSource n)
    else s
  let s := s.each (List.range 4) fun s n => if bit act n && !bit s.sec.alarms n then s.tamperFires n else s
  (s, .ok p)

/-- `KEY_TAMPER_CONFIG` (R460). -/
def execKeyTamperConfig (t : Nat) (m : Fin 8) (s : State) : Host.Outcome State Fault Refusal :=
  .next (s.simple t m 0x0B06 checkKeyTamperConfig effectKeyTamperConfig)

/-! Enrolment (R456, R460). -/

/-- Checks of `key.enrol` (R456, R460). -/
def checkKeyEnrol (s : State) (p : List Byte) : Check :=
  firstFail [needLeave (!s.sec.enrolled), needLeave (s.boot.state == 1), needLeave (s.sec.alarms == 0),
    needLen (p.length == 4), needField p 0 2 0x4E45 0x4E45, needZeros p 2 2,
    if s.sec.otpWritten then some (.fault 145) else none]

/-- Effect of `key.enrol` (R456): how many cells are unstable is a free value (log entry 3). -/
def effectKeyEnrol (verified : Bool) (s : State) (_ : List Byte) : State × Reply :=
  let (n, s) := s.drawBelow 10001
  let s := s.modSec fun x => { x with otpWritten := true }
  if verified then
    let s := (s.modSec fun x => { x with enrolled := true, unstable := n, regens := 0 }).keyRoot
    (s.raiseOf 110 ⟨4, 9⟩ n, .ok (leBytes 2 n ++ leBytes 2 8 ++ leBytes 4 0))
  else (s.pulse 145, .fault 145)

/-- `KEY_ENROL` (R456). -/
def execKeyEnrol (t : Nat) (m : Fin 8) (verified : Bool) (s : State) : Host.Outcome State Fault Refusal :=
  .next (s.simple t m 0x0B05 checkKeyEnrol (effectKeyEnrol verified))

/-! The entropy source (R439). -/

/-- The entropy source fails a test: FS144, and the engines run with fixed countermeasures until it passes (R439). -/
def State.entropyFails (s : State) : State := (s.modSec fun x => { x with entropyOk := false }).report 144

/-- `ENTROPY_HEALTH_FAIL` (R439). -/
def execEntropyHealthFail (t : Nat) (s : State) : Host.Outcome State Fault Refusal :=
  let s := s.tick t
  .next (if s.islandUp 4 then s.entropyFails else s)

/-! Engines for waiting clients (R324, R325, R429). -/

/-- A causeway direction takes a free engine (R525). -/
def State.claimCauseway (s : State) (e c : Nat) : State :=
  let p := (c - 0x90) / 2
  let d := (c - 0x90) % 2
  let s := (s.engineTake e c).modPort p fun y => { y with
    cw := if d = 0 then { y.cw with engTx := some e } else { y.cw with engRx := some e } }
  let x := (s.port p).cw
  let s := if x.engTx.isSome && x.engRx.isSome && x.sessTx.isNone then s.cwSession p else s
  s.encJudge p

/-- The profile of a layout of a live map version. -/
def State.profileAt (s : State) (ver layout : Nat) : Profile :=
  match s.mapOf ver with
  | some g => g.profile (g.layouts.get {} layout)
  | none => {}

/-- A secured frame that waits takes a free engine after its key check (R324, R445). -/
def State.claimFrame (s : State) (e b : Nat) : State :=
  match s.sig.wait.find? fun w => w.src == b && w.engWaitFrom.isSome with
  | some w =>
    let h := (s.profileAt w.ver w.layout).handle
    let ok := s.keyUsable h 4 (2 ^ e)
    let s := if ok then (s.engineTake e 0x81).keyLoad e (handleSlot h) else s
    let w' := { w with engWaitFrom := none, engine := if ok then some e else none, fail := if ok then w.fail else 3 }
    s.modSig fun g => { g with wait := g.wait.map fun x => if x = w then w' else x }
  | none => match (s.bus b).rx with
    | none => s
    | some r =>
      if r.waitEngine.isNone then s
      else
        let h := (s.profileAt r.mapVer (bits (r.entry.getD 0) 0 14)).handle
        let ok := s.keyUsable h 4 (2 ^ e)
        let s := if ok then (s.engineTake e 0x81).keyLoad e (handleSlot h) else s
        s.modBus b fun x => { x with
          rx := some { r with waitEngine := none, engine := if ok then some e else none, secFail := if ok then 0 else 3 } }

/-- A composed secured message that waits is tagged in a free engine (R325). -/
def State.claimMessage (s : State) (e n : Nat) : State :=
  match s.sig.secOut.find? fun o => o.layout == n with
  | none => s
  | some o =>
    (s.modSig fun g => { g with secOut := g.secOut.erase o }).secSend e n (s.map.layouts.get {} n) o.bus o.msg

/-- `INTERNAL_ENGINE_CLAIM` (R429). -/
def execInternalEngineClaim (t : Nat) (e : Fin 8) (s : State) : Host.Outcome State Fault Refusal :=
  let s := s.tick t
  .next (if (s.engine e).lock ≠ 0 || !s.unitUp ⟨4, e⟩ then s
    else match s.engineNext e with
      | none => s
      | some w =>
        let s := s.modSec fun x => { x with engWait := x.engWait.erase w }
        if 0x90 ≤ w.1 then s.claimCauseway e w.1
        else if w.2.2 < 256 then s.claimFrame e w.2.2
        else s.claimMessage e (w.2.2 - 256))

/-! A source enters fault (R463, R468). -/

/-- What a unit reports through a source beside the source's own entry: table and graph parity errors mark the entry
(R47, R195), the tamper monitors and the entropy source act (R439, R450), a broken pair reports through its island
(R464). -/
def State.sourceEnters (s : State) (n target : Nat) (spec : Bool) : State :=
  if (srcRow n).isNone then s
  else if inRange n 104 111 then
    s.tableBad (n - 104, target) spec
  else if n = 98 then s.graphBad target
  else if n = 144 then s.entropyFails
  else if inRange n 147 153 then s.tamperEnter (n - 147)
  else if inRange n 240 246 then s.wireReport n target
  else s.report n target spec

/-- `FAULT_SOURCE_ENTRY` (R468). -/
def execFaultSourceEntry (t : Nat) (src : Fin 256) (target : Nat) (spec : Bool) (s : State) :
    Host.Outcome State Fault Refusal :=
  .next ((s.tick t).sourceEnters src target spec)

end Sys2Proof.Machine
end

