-- ==== Sys2Proof/Machine/Regs.lean ====
section
/-! DEFINITION. What the host reads: the registers of BAR0 and the windows of BAR2 (R62, R74 to R77, R82, R413). -/

namespace Sys2Proof.Machine

open Sys2Proof

/-- `ISLAND_STATE` of an island (R76). -/
def Island.code (x : Island) : Nat :=
  if x.restarting then 3
  else match x.power with
    | .on => 0
    | .isolated => 1
    | .off => 2

/-- `ISLAND_STATE` (R76). -/
def State.islandWord (s : State) : Nat := ((List.range 7).map fun i => (s.isl i).code * 4 ^ i).sum

/-- `FW_BUILD`, `FW_MAJOR` and `FW_MINOR` (R76): 0 while no firmware runs, else those of the running image (R572). -/
def State.fwWord (s : State) : Nat :=
  let v := s.boot.d.runVer
  if s.fwUp then bits v 16 16 * 65536 + bits v 0 8 * 256 + bits v 8 8 else 0

/-- Registers of identity and state (R76). -/
def State.identWord (s : State) (off : Nat) : Nat :=
  if off = 0 then s.host.part * 2 ^ 24 + Config.siRev * 65536 + Config.devId
  else if off = 4 then s.boot.state
  else if off = 8 then s.islandWord
  else if off = 0xC then s.fwWord
  else if off = 0x10 then
    s.cw.id * 256 + s.host.pcieWidth * 16 + s.host.pcieSpeed * 4 + flag s.host.spi.seen 1 + flag s.host.pcieUp
  else if off = 0x20 then s.host.scratch.toNat
  else 0

/-- Event registers (R77); the offset counts from 0x0100. -/
def State.evtWord (s : State) (off : Nat) : Nat :=
  let h := s.host
  if off < 0x10 then bits h.evtStatus.toNat (8 * off) 32
  else if off < 0x20 then bits h.evtMask.toNat (8 * (off - 0x10)) 32
  else if off = 0x20 then h.evtLogWr
  else if off = 0x24 then h.evtLogRd
  else if off = 0x28 then h.evtLogLost
  else if off = 0x30 then flag h.intPinEn
  else if inRange off 0x40 0xBF then leNum ((range (off - 0x40) 4).map fun k => BitVec.ofNat 8 (h.evtVec.get 0 k))
  else 0

/-- Control registers of a mailbox (R82). -/
def Mbx.word (b : Mbx) (off : Nat) : Nat :=
  if off < 0x10 then le b.cmd off 4
  else if off = 0x14 then flag b.dropped 2 + flag b.interim 1 + flag b.done
  else if off = 0x18 then b.tag * 256 + b.mstate
  else if inRange off 0x20 0x2F then le b.resp (off - 0x20) 4
  else 0

/-- Registers of a DMA ring (R413). -/
def Ring.word (x : Ring) (off : Nat) : Nat :=
  if off = 0 then x.tail
  else if off = 4 then x.head
  else if off = 8 then x.errCause * 256 + flag x.tailErr 5 + flag x.starveDrop 4 + flag x.error 3 + x.rstate
  else if off = 0xC then x.size
  else 0

/-- MSI-X table and Pending Bit Array (R63); the offset counts from 0x6000. -/
def Msix.word (x : Msix) (off : Nat) : Nat :=
  if off < 0x200 then
    (if off % 16 = 12 then flag (x.vmask.getLsbD (off / 16)) else x.table.get 0 (off / 4))
  else if off = 0x800 then x.pend.toNat
  else 0

/-- The register of BAR0 at an aligned offset as it reads (R74). -/
def State.barWord (s : State) (off : Nat) : Nat :=
  if off < 0x100 then s.identWord off
  else if off < 0x200 then s.evtWord (off - 0x100)
  else if inRange off 0x1000 0x1FFF then (s.mb ((off - 0x1000) / 0x200)).word (off % 0x200)
  else if inRange off 0x2000 0x3FFF then s.ciphRegister ((off - 0x2000) / 0x400) (off % 0x400)
  else if inRange off 0x4000 0x4FFF then s.tqRegister ((off - 0x4000) / 0x40) (off % 0x40)
  else if inRange off 0x5000 0x5BFF then (s.ring ((off - 0x5000) / 0x40)).word (off % 0x40)
  else if inRange off 0x6000 0x6803 then s.host.msix.word (off - 0x6000)
  else 0

/-- A byte of BAR2 as it reads (R75). -/
def State.bar2Byte (s : State) (a : Nat) : Byte :=
  if a < 0x8000 then s.windowByte a
  else if inRange a 0x100000 0x100FFF then ((s.host.log.get {} ((a - 0x100000) / 16)).bytes).getD (a % 16) 0
  else if inRange a 0x400000 0x7FFFFF then (s.tqSlot ((a - 0x400000) / 0x10000) (a % 0x10000 / 16)).getD (a % 16) 0
  else 0

/-! The configuration space (R60, R61, R63, R64). The header is that of Type 0; where the capabilities stand is the
model's (PRESUMED, log entry 21). -/

/-- Command and Status: Memory Space Enable, bus mastering, a capability list. -/
def HostIf.commandWord (h : HostIf) : Nat := 0x00100000 + flag h.pcie.memEn 1 + flag h.busMaster 2

/-- Device Control: Max_Payload_Size and Max_Read_Request_Size (R60). -/
def Pcie.deviceControl (x : Pcie) : Nat := x.maxPayload * 32 + x.maxRead * 4096

/-- Link Control and Link Status: ASPM L1, speed and width of the link (R60, R76). -/
def HostIf.linkWord (h : HostIf) : Nat :=
  flag h.pcie.aspmL1 1 + h.pcieSpeed * 2 ^ 16 + h.pcieWidth * 2 ^ 20

/-- The MSI-X Message Control word: 32 vectors, Function Mask, MSI-X Enable (R63). -/
def Msix.control (x : Msix) : Nat := 0x001F0011 + flag x.fmask 30 + flag x.enable 31

/-- A word of the configuration space as it reads. -/
def HostIf.cfgWord (h : HostIf) (off : Nat) : Nat :=
  let x := h.pcie
  if off = 0x00 then Config.devId * 65536 + 0x1F7B
  else if off = 0x04 then h.commandWord
  else if off = 0x08 then 0x02800000 + Config.siRev
  else if off = 0x10 then x.bar0
  else if off = 0x18 then bits x.bar2 0 32 + 0xC
  else if off = 0x1C then bits x.bar2 32 32
  else if off = 0x2C then 0x1F7B
  else if off = 0x34 then 0x40
  else if off = 0x40 then 0x00027010
  else if off = 0x44 then 1
  else if off = 0x48 then x.deviceControl
  else if off = 0x4C then 3 + 2 * 16 + 2 * 1024
  else if off = 0x50 then h.linkWord
  else if off = 0x64 then 3
  else if off = 0x68 then x.cplTimeout
  else if off = 0x70 then h.msix.control
  else if off = 0x74 then 0x6000
  else if off = 0x78 then 0x6800
  else if off = 0x100 then 0x00020001
  else if off = 0x104 then x.uncStatus
  else if off = 0x108 then x.uncMask
  else if off = 0x10C then x.uncSev
  else if off = 0x110 then x.corStatus
  else if off = 0x114 then x.corMask
  else 0

/-- The SPI address space: 1 BAR0, 2 BAR2, 0 unmapped, with the offset (R65). -/
def spiMap (a : Nat) : Nat × Nat :=
  if a ≤ 0xFFFF then (1, a) else if inRange a 0x800000 0xFFFFFF then (2, a - 0x800000) else (0, 0)

/-- Four bytes at an SPI address as they read (R65): unmapped ones read 0. -/
def State.spiBytes (s : State) (a : Nat) : List Byte :=
  let (bar, off) := spiMap a
  if bar = 1 then leBytes 4 (s.barWord off)
  else if bar = 2 then (range off 4).map s.bar2Byte
  else leBytes 4 0

end Sys2Proof.Machine
end

