-- ==== Sys2Proof/Machine/Locks.lean ====
section
/-! DEFINITION. The lock table and the remote accesses of this device (R528 to R530). The bodies of remote messages
are the model's own (log entry 15): byte 0 is 0 a request, 1 a completion, 2 a lock request, 3 a grant,
4 a write-and-unlock, 5 a retry, 7 a command for the peer, 8 its response. Their fields are in network byte order (R4). -/

namespace Sys2Proof.Machine

open Sys2Proof

/-- The value of a resource as the lock table keeps it: a register word, or the 64-bit value of a slot (R529). -/
def State.resValue (s : State) (space addr : Nat) : Nat :=
  if space = 0 then s.barWord addr else ofSigned 64 (s.slot addr).value

/-- The lock of a resource. -/
def State.lockAt (s : State) (space addr : Nat) : Option FarLock :=
  s.cw.locks.find? fun l => l.space == space && l.addr == addr

/-- Take the lock of a resource out of the table. -/
def State.lockOut (s : State) (space addr : Nat) : State :=
  s.modCw fun c => { c with locks := c.locks.filter fun l => !(l.space == space && l.addr == addr) }

/-- Put a lock into the table, in place of one of the same resource. -/
def State.lockPut (s : State) (l : FarLock) : State :=
  (s.lockOut l.space l.addr).modCw fun c => { c with locks := c.locks ++ [l] }

/-- The remote access that a mailbox runs. -/
def State.remoteRun (s : State) (m : Nat) : Option RemoteRun := s.cw.runs.find? fun r => r.mbx == m

/-- Change the remote access of a mailbox. -/
def State.modRun' (s : State) (m : Nat) (f : RemoteRun → RemoteRun) : State :=
  s.modCw fun c => { c with runs := c.runs.map fun r => if r.mbx = m then f r else r }

/-- The lock request of step 2 goes out, with its attempt number (R529). -/
def State.lockSend (s : State) (m : Nat) : State :=
  match s.remoteRun m with
  | none => s
  | some r =>
    (s.modRun' m fun r => { r with phase := 0, sentAt := s.now, attempt := r.attempt + 1 }).tell r.dev 3
      ([2] ++ leBytes 1 r.space ++ beBytes 4 r.addr ++ leBytes 1 (r.attempt + 1) ++ beBytes 4 r.reqId)

/-- A resource is locked for a device: the grant carries its value (R529 step 2). A local slot is locked for the
sequence of this device's own mailbox `attempt`, which goes on to step 2. -/
def State.lockGive (s : State) (space addr dev attempt hops : Nat) (queue : List (Nat × Nat × Nat)) : State :=
  let old := s.resValue space addr
  let s := s.lockPut {
    space := space, addr := addr, owner := dev, attempt := attempt, old := old, granted := s.now, hops := hops
    queue := queue }
  if dev = s.cw.id then s.lockSend attempt else s.tell dev 3 ([3] ++ leBytes 1 space ++ beBytes 4 addr ++ leBytes 1 attempt ++ beBytes 8 old)

/-- A lock is released; the resource goes to the request that has waited longest (R529). -/
def State.lockFree (s : State) (space addr : Nat) : State :=
  match s.lockAt space addr with
  | none => s
  | some l =>
    let s := s.lockOut space addr
    match l.queue with
    | [] => s
    | w :: q => s.lockGive space addr w.1 w.2.1 w.2.2 q

/-- `LOCAL_SLOT` of a locked sequence, if it names one: `LOP` is 1 (R536). -/
def RemoteRun.localSlot (r : RemoteRun) : Option Nat :=
  if r.kind = 2 && r.fields.getD 5 0 = 1 then some (r.fields.getD 4 0) else none

/-- A locked sequence gives up its local slot, or its place in the queue for it (R529 step 5, R530). -/
def State.localFree (s : State) (r : RemoteRun) : State :=
  match r.localSlot with
  | none => s
  | some k => match s.lockAt 1 k with
    | none => s
    | some l =>
      if l.owner = s.cw.id && l.attempt = r.mbx then s.lockFree 1 k
      else s.lockPut { l with queue := l.queue.filter fun w => !(w.1 == s.cw.id && w.2.1 == r.mbx) }

/-- Write-and-unlock: 0 writes a new value, 1 says that the compare failed, 2 only unlocks (R529). -/
def State.unlockSend (s : State) (dev reqId space addr attempt how new : Nat) : State :=
  s.tell dev 3 ([4] ++ beBytes 4 reqId ++ leBytes 1 space ++ beBytes 4 addr ++ leBytes 1 attempt ++ leBytes 1 how ++
    beBytes 8 new)

/-- The remote access of a mailbox is over on this device: its local slot is unlocked. The Boolean says that a write
had been sent. -/
def State.remoteEnd (s : State) (m : Nat) : State × Bool :=
  match s.remoteRun m with
  | none => (s, false)
  | some r => ((s.modCw fun c => { c with runs := c.runs.filter fun r => r.mbx != m }).localFree r, r.sent)

/-- The remote access of a mailbox is aborted: a far lock that it holds or awaits is released by an unlock message
(R96, R530). The Boolean says that a write had been sent. -/
def State.remoteDrop (s : State) (m : Nat) : State × Bool :=
  match s.remoteRun m with
  | none => (s, false)
  | some r =>
    let x := s.remoteEnd m
    (if r.kind = 2 && r.phase = 0 then x.1.unlockSend r.dev 0 r.space r.addr r.attempt 2 0 else x.1, x.2)

end Sys2Proof.Machine
end

