-- ==== Sys2Proof/Machine/Doorbell.lean ====
section
/-! DEFINITION. Doorbells, acceptance, waiting, expiry and abort of mailbox commands, and the forwarding to the peer
of a widened pair (R86, R87, R90, R94 to R97, R516). -/

namespace Sys2Proof.Machine

open Sys2Proof

/-! The doorbell (R82, R86, R87). -/

/-- A write of `RING` (R87). -/
def State.ringBell (s : State) (m : Nat) : State :=
  let b := s.mb m
  if b.ringing || b.mstate != 0 || !s.islandUp 5 || s.boot.state == 4 then
    (s.modMb m fun b => { b with dropped := true, setAt := b.setAt.set 2 s.now }).count 1 0 ctrDevMbxDropped
  else s.modMb m fun b => { b with ringing := true, rungAt := s.now }

/-- `MBX_RING` (R87). -/
def execMbxRing (t : Nat) (m : Fin 8) (value : Word) (s : State) : Host.Outcome State Fault Refusal :=
  .next (s.hostWrites t fun s => if value.getLsbD 0 then s.ringBell m else s)

/-- A W1C write to the flags of a mailbox; clearing `DONE` returns `MSTATE` to 0 (R82, R86 step 7). -/
def State.mbxFlags (s : State) (m v : Nat) : State :=
  s.modMb m fun b =>
    let gone (k : Nat) : Bool := w1c b.setAt s.now v k
    { b with
      done := b.done && !gone 0, interim := b.interim && !gone 1, dropped := b.dropped && !gone 2
      mstate := if b.mstate = 4 && gone 0 then 0 else b.mstate }

/-- `MBX_DONE_CLEAR` (R86). -/
def execMbxDoneClear (t : Nat) (m : Fin 8) (value : Word) (s : State) : Host.Outcome State Fault Refusal :=
  .next (s.hostWrites t (·.mbxFlags m value.toNat))

/-! Acceptance (R86 step 3, R516, R568). -/

/-- A mailbox of the master that forwards its commands to the peer (R516). -/
def State.forwardsMbx (s : State) (m : Nat) : Bool := s.cw.cascade == 1 && s.isMaster && bit s.cw.peerMbx m

/-- The peer of a widened pair. -/
def State.pairPeer (s : State) : Option Nat := (s.chain.map fun d => d.1).head?

/-- Send a message about a mailbox to the peer. -/
def State.tellPeer (s : State) (op m : Nat) (rest : List Byte) : State :=
  match s.pairPeer with
  | some d => s.tell d 3 ([7] ++ leBytes 1 op ++ leBytes 1 m ++ rest)
  | none => s

/-- Envelope and payload are latched (R86 step 3). -/
def State.latchCommand (s : State) (m : Nat) : State :=
  let cmd := (s.mb m).cmd
  let n := min (le cmd 3 2) 4096
  let r : Req := {
    tag := le cmd 0 1, code := le cmd 1 2, len := le cmd 3 2, flags := le cmd 5 2, payload := s.window (4096 * m) n }
  let s := s.modMb m fun b => { b with
    ringing := false, req := some r, tag := r.tag, mstate := 1, order := s.mbxOrder, acceptedAt := s.now
    startedAt := b.rungAt, running := false, deferred := false, committed := false, prepared := false, waiting := [], aux := []
    abortAt := none, stopping := false }
  { s with mbxOrder := s.mbxOrder + 1 }

/-- The mailbox unit accepts a pending command; firmware, once it runs, checks the envelope (R86 steps 3 and 4). -/
def State.acceptCommand (s : State) (m : Nat) : State :=
  let fwd := s.forwardsMbx m
  let s := (s.latchCommand m).heard
  if fwd then
    let b := s.mb m
    let payload := match b.req with
      | some r => r.payload
      | none => []
    ((s.modMb m fun b => { b with running := true }).modCw fun c => { c with fwdMbx := c.fwdMbx ++ [m] }).tellPeer 0 m
      (b.cmd ++ payload)
  else if s.fwUp then s.envelopeJudge m
  else s

/-- `MBX_ACCEPT` (R86). -/
def execMbxAccept (t : Nat) (m : Fin 8) (s : State) : Host.Outcome State Fault Refusal :=
  let s := s.tick t
  .next (if s.hostReach && s.islandUp 5 && (s.mb m).ringing then s.acceptCommand m else s)

/-! Waiting (R90). -/

/-- The mailbox holds a command that waits behind another: `MSTATE` 5, or deferred and not yet started (R90). -/
def Mbx.waits (b : Mbx) : Bool := b.mstate == 5 || (b.mstate == 2 && b.deferred && !b.running)

/-- A waiting command starts (R90); a disable that starts defers the enables that wait for its function. -/
def State.startCommand (s : State) (m : Nat) (r : Req) : State :=
  let s := s.modMb m fun b => { b with mstate := 1, startedAt := s.now }
  if !isDisable r.code then s
  else s.each (List.range 8) fun s k =>
    match (s.mb k).req with
    | some q => if (s.mb k).mstate == 5 && isEnable q.code && (s.ahead k q).contains m then s.deferCommand k else s
    | none => s

/-- `COMMAND_START` (R90). -/
def execCommandStart (t : Nat) (m : Fin 8) (s : State) : Host.Outcome State Fault Refusal :=
  let s := s.tick t
  .next (match (s.mb m).req with
    | some r => if (s.mb m).waits && (s.ahead m r).isEmpty && s.fwUp then s.startCommand m r else s
    | none => s)

/-! The longest time (R13, R97). -/

/-- The causeway hops to the farthest device that a command involves (R97 to R99). -/
def State.commandHops (s : State) (r : Req) : Nat :=
  let far (l : List Nat) : Nat := (l.map fun d => (s.hopsTo d).getD 0).foldl max 0
  if r.code = 0x0E03 then far (s.chain.map fun d => d.1)
  else if r.code / 256 = 0x0E && 4 ≤ r.code % 256 then
    (if r.len = 0 then 0 else far [le r.payload 0 1])
  else if r.code / 256 = 0x10 then far s.boot.d.members
  else 0

/-- The longest time of a command in ns; a forwarded one has 1 ms more (R99, R516). -/
def State.longestNs (s : State) (m : Nat) (r : Req) : Nat :=
  (match cmdRow r.code with
    | some x => x.ns + x.hopNs * s.commandHops r
    | none => 0) + (if s.cw.fwdMbx.contains m then 1000000 else 0)

/-- Units that have not switched at the expiry are isolated and restarted (R97). -/
def State.restartStuck (s : State) (m : Nat) : State :=
  let codes := (s.mb m).aux
  let s := s.each codes fun s k =>
    if k % 64 = 63 then s.restartIsland (k / 64) 0xFF else s.restartUnit ⟨k / 64, k % 64⟩ 0xFF
  s.modMb m fun b => { b with
    waiting := b.waiting.map fun u =>
      if codes.contains (u.island * 64 + u.unit) || codes.contains (u.island * 64 + 63) then { u with faulted := true }
      else u }

/-- Members that have not answered the commit of an update command when its longest time expires: this device cannot restart
them, so their entries read `FAULT` and the command ends behind its interim response (R97; log entry 63, DESIGN CHOICE). -/
def State.relayLate (s : State) (m : Nat) : State :=
  if !s.relayOpen m then s
  else
    let late := s.boot.relayWait
    let s := s.modBoot fun b => { b with relayWait := [] }
    let s := s.modMb m fun b => { b with
      waiting := b.waiting.map fun u =>
        if late.any fun d => u.dev == some d then { u with faulted := true } else u }
    if (s.mb m).aux.isEmpty then s.commitEnd m else s

/-- The longest time of a command has expired (R97). -/
def State.expire (s : State) (m : Nat) (r : Req) : State :=
  let b := s.mb m
  if b.committed then
    if b.mstate == 1 then ((s.restartStuck m).interim m { status := stPartial, rflags := 2 }).relayLate m else s
  else
    let (s, far) := s.remoteEnd m
    let s := if b.running then s.undo r false else s
    let s := s.modCw fun c => { c with fwdMbx := c.fwdMbx.filter (· != m) }
    s.complete m { status := stTimeout, rflags := flag far 3 }

/-- `LONGEST_TIME_EXPIRY` (R97): of a command that executes. -/
def execLongestTimeExpiry (t : Nat) (m : Fin 8) (s : State) : Host.Outcome State Fault Refusal :=
  let s := s.tick t
  let b := s.mb m
  .next (match b.req with
    | some r =>
      if b.mstate == 1 && decide (b.startedAt + s.longestNs m r ≤ s.now) && (s.fwUp || b.running) then s.expire m r else s
    | none => s)

/-! Abort (R94 to R96, R516). -/

/-- An abort stops the function of a command, where its group says so (R94). A port finishes the frame in transmission and
a controller its engaged attempt first, unless the abort watchdog ends the command (R95, R141). -/
def State.stopFunction (s : State) (r : Req) (t0 : Nat) (hw : Bool) : State :=
  let n := le r.payload 0 1
  let g := r.code / 256
  if r.len = 0 then s
  else if g = 2 && n < 24 then
    (if !(s.port n).enabled then s
     else if hw then ((s.txCut n).portOff n).1
     else if (s.port n).tx.isSome then s.modPort n fun x => { x with disabling := true }
     else (s.portOff n).1)
  else if g = 3 && n < 32 then s.busAbort n t0 hw
  else if g = 10 && 3 ≤ r.code % 256 && n < 48 then (if (s.ring n).rstate = 0 then s else s.ringStop n)
  else if r.code = 0x0D04 then s.modTwin fun w => { w with handover := none }
  else s

/-- The port or controller of an aborted command still runs (R94). -/
def State.stillRuns (s : State) (r : Req) : Bool :=
  let n := le r.payload 0 1
  r.len != 0 && ((r.code / 256 == 2 && decide (n < 24) && (s.port n).enabled) ||
    (r.code / 256 == 3 && decide (n < 32) && (s.bus n).enabled))

/-- The units that the abort watchdog resets for a command: those that own a function which R94 stops (R95 step 4). -/
def abortUnits (r : Req) : List UnitId :=
  if r.code / 256 = 2 || r.code / 256 = 3 || (r.code / 256 = 10 && 3 ≤ r.code % 256) then
    (reqFuncs r).flatMap Func.owners
  else []

/-- An aborted command ends (R95 steps 3 to 5, R96); `hw` says that the abort watchdog ends it. Where its port or controller
has not stopped yet, the answer waits for that. -/
def State.abortEnd (s : State) (m : Nat) (hw : Bool) : State :=
  let b := s.mb m
  let fwd := s.cw.fwdMbx.contains m
  match b.req with
  | none => s
  | some r =>
    let (s, far) := (s.modMb m fun b => { b with stopping := false }).remoteDrop m
    let s := s.modCw fun c => { c with fwdMbx := c.fwdMbx.filter (· != m) }
    let s := if fwd || b.committed then s
      else (if b.running then s.undo r true else s).stopFunction r (b.abortAt.getD s.now) hw
    let s := if hw then
        let s := if fwd then s else s.each (abortUnits r) fun s u => s.restartUnit u 8
        (s.count 1 0 ctrDevMbxHwAborts).pulse 8
      else s
    if !fwd && !b.committed && s.stillRuns r then s.modMb m fun b => { b with running := false, stopping := true }
    else s.complete m { status := stAborted, rflags := flag b.committed 1 + flag hw 2 + flag (far || (fwd && hw)) 3 }

/-- A write to `MBX_ABORT_n` (R95, R96). `firmware` says that firmware stops the command before the watchdog does; a
command that was forwarded is stopped by the peer (R516). -/
def State.abortCommand (s : State) (m : Nat) (firmware : Bool) : State :=
  let b := s.mb m
  if !b.outstanding || b.mstate == 3 then s
  else if b.waits then s.complete m { status := stAborted }
  else
    let s := s.modMb m fun b => { b with mstate := 3, abortAt := some s.now }
    if s.cw.fwdMbx.contains m then s.tellPeer 1 m []
    else if firmware && s.fwUp then s.abortEnd m false
    else s

/-- `MBX_ABORT` (R95). -/
def execMbxAbort (t : Nat) (m : Fin 8) (value : Word) (firmware : Bool) (s : State) :
    Host.Outcome State Fault Refusal :=
  .next (s.hostWrites t fun s => if value.getLsbD 0 then s.abortCommand m firmware else s)

/-- `ABORT_WATCHDOG` (R95 step 4): 1.5 ms after the abort doorbell. -/
def execAbortWatchdog (t : Nat) (m : Fin 8) (s : State) : Host.Outcome State Fault Refusal :=
  let s := s.tick t
  .next (match (s.mb m).abortAt with
    | some a => if (s.mb m).mstate == 3 && decide (a + 1500000 ≤ s.now) then s.abortEnd m true else s
    | none => s)

end Sys2Proof.Machine
end

