-- ==== Sys2Proof/Machine/Device.lean ====
section
/-! DEFINITION. The device commands of group 0x01: identity, state, island power holds, counter snapshots, restarts,
the safe state (R15, R98, R101). Byte layouts that R98 leaves open are those of log entry 6. -/

namespace Sys2Proof.Machine

open Sys2Proof

/-! `dev.identify` and `dev.state` (R98, R601). -/

/-- These requests have no payload (R98). -/
def checkDevIdentify (_ : State) (p : List Byte) : Check := needLen p.isEmpty

/-- Identity, firmware release, device ID and strap (R98, log entry 6). -/
def answerDevIdentify (s : State) (_ : List Byte) : Reply :=
  .ok (leBytes 2 Config.devId ++ leBytes 1 Config.siRev ++ leBytes 1 s.host.part ++
    leBytes 1 (bits s.fwWord 8 8) ++ leBytes 1 (bits s.fwWord 0 8) ++ leBytes 2 (bits s.fwWord 16 16) ++
    leBytes 1 s.cw.id ++ leBytes 1 s.boot.pins.strap)

/-- `DEV_IDENTIFY` (R98). -/
def execDevIdentify (t : Nat) (m : Fin 8) (s : State) : Host.Outcome State Fault Refusal :=
  .next (s.query t m 0x0101 checkDevIdentify answerDevIdentify)

/-- No payload (R98). -/
def checkDevState (_ : State) (p : List Byte) : Check := needLen p.isEmpty

/-- `STATE`, island states and the first-fault record (R98, log entry 6). -/
def answerDevState (s : State) (_ : List Byte) : Reply :=
  .ok (leBytes 1 s.boot.state ++ [0] ++ leBytes 2 s.islandWord ++ s.flt.first.bytes)

/-- `DEV_STATE` (R98). -/
def execDevState (t : Nat) (m : Fin 8) (s : State) : Host.Outcome State Fault Refusal :=
  .next (s.query t m 0x0102 checkDevState answerDevState)

/-! `dev.config` (R15, R20). -/

/-- A unit of an island is configured for use (R15). -/
def State.islandInUse (s : State) (i : Nat) : Bool :=
  if i ≤ 1 then
    (islandBuses i).any (fun b => (s.bus b).cfg.isSome) || (islandPorts i).any (fun p => (s.port p).cfg.mode != 0) ||
      (islandTdm i).any (fun a => (s.tdm a).enable) || (i == 0 && s.twin.everEnabled)
  else if i = 3 then
    !s.map.layouts.cells.isEmpty || (s.aud.streams.cells.any fun c => c.2.enable) || !s.aud.xpoints.cells.isEmpty
  else if i = 4 then
    ((List.range 8).any fun e => (s.engine e).lock != 0) ||
      (s.sec.slots.cells.any fun c => decide (16 ≤ c.1) && c.2.valid) || ((List.range 4).any fun p => (s.port p).cw.enc)
  else true

/-- An island may be held off by the host (R15). -/
def mayHold (i : Nat) : Bool := i == 0 || i == 1 || i == 3 || i == 4

/-- The hold of an island that a request of `dev.config` asks for. -/
def wantHold (p : List Byte) (i : Nat) : Bool := bit (le p 0 1) i

/-- The islands whose hold a request changes. -/
def State.holdChanges (s : State) (p : List Byte) : List Nat :=
  (List.range 7).filter fun i => wantHold p i != (s.isl i).hold

/-- A change of a hold is allowed, and the island is in the state that it changes from (R15, R85). -/
def State.holdCheck (s : State) (p : List Byte) (i : Nat) : Check :=
  let x := s.isl i
  if !(s.holdChanges p).contains i then none
  else if wantHold p i then
    firstFail [needLeave (mayHold i && !s.islandInUse i),
      (match x.latchedBy with
        | some f => some (.fault f)
        | none => if x.power == .on && !x.restarting then none else some .busy)]
  else none

/-- The checks of `dev.config` (R5, R15, R20, log entry 6). -/
def checkDevConfig (s : State) (p : List Byte) : Check :=
  firstFail ([needLen (p.length == 32), need (!bit (le p 0 1) 7) 0, needZeros p 1 3] ++
    ((List.range 7).map fun k => need (le p (4 + 4 * k) 4 == 0 || inRange (le p (4 + 4 * k) 4) 1 1000) (4 + 4 * k)) ++
    (List.range 7).map (s.holdCheck p))

/-- The host holds an island off: isolated under R16, then powered off (R15). -/
def State.islandHold (s : State) (i : Nat) : State :=
  let s := s.modIsl i fun x => { x with power := .isolated, restarting := false, hold := true }
  let s := (s.isolateEffects i).commandsFault (fun u => u.island == i) 0xFF
  s.modIsl i fun x => { x with power := .off }

/-- The host stops holding an island off: it is powered, reset and reloaded (R15). -/
def State.islandRelease (s : State) (i : Nat) : State :=
  s.modIsl i fun x => { x with power := .isolated, restarting := true, hold := false, cause := 0xFF, since := s.now }

/-- The applied holds and strait timeouts (log entry 6). -/
def State.configBytes (s : State) : List Byte :=
  leBytes 1 (ofBits ((List.range 7).filter fun i => (s.isl i).hold)) ++ [0, 0, 0] ++
    (List.range 7).flatMap fun i => leBytes 4 ((s.isl i).straitNs / 1000)

/-- Holds change and timeouts are set (R15, R20). -/
def effectDevConfig (s : State) (p : List Byte) : State × Reply :=
  let s := s.each (s.holdChanges p) fun s i => if wantHold p i then s.islandHold i else s.islandRelease i
  let s := s.each (List.range 7) fun s k =>
    let v := le p (4 + 4 * k) 4
    if v = 0 then s else s.modIsl k fun x => { x with straitNs := v * 1000 }
  (s, .ok s.configBytes)

/-- `DEV_CONFIG` (R15). -/
def execDevConfig (t : Nat) (m : Fin 8) (s : State) : Host.Outcome State Fault Refusal :=
  .next (s.simple t m 0x0103 checkDevConfig effectDevConfig)

/-! Counter snapshots (R55, R56, R101). -/

/-- A counter lies in the scope of a snapshot (R101). -/
def Snapshot.covers (x : Snapshot) (group fn : Nat) : Bool :=
  x.group == 0 || (x.group == group && (x.all || x.fn == fn))

/-- The functions of a counter table that exist: no reserved fault source (R101). -/
def CtrScope.functions (c : CtrScope) : List Nat :=
  (range c.base c.fns).filter fun f => !(c.group == 12 && c.base == 0x10000) || (srcRow (f - 0x10000)).isSome

/-- A function of a group exists (R101). -/
def ctrExists (group fn : Nat) : Bool :=
  ctrScopes.any fun c => c.group == group && c.functions.contains fn

/-- The records of a snapshot: group, function, index, and whether the counter is speculative (R101). -/
def Snapshot.records (x : Snapshot) : List (Nat × Nat × Nat × Bool) :=
  (ctrScopes.filter fun c => x.group == 0 || x.group == c.group).flatMap fun c =>
    (c.functions.filter fun f => x.covers c.group f).flatMap fun f =>
      (List.range c.total).map fun k => (c.group, f, k, decide (c.committed ≤ k))

/-- The 12 bytes of a record (R101). -/
def Snapshot.recordBytes (x : Snapshot) (r : Nat × Nat × Nat × Bool) : List Byte :=
  let c := x.ctrs.get {} (ctrKey r.1 r.2.1 r.2.2.1)
  leBytes 4 r.2.1 ++ leBytes 1 r.1 ++ leBytes 1 (flag c.sat + flag r.2.2.2 1) ++ leBytes 2 r.2.2.1 ++ leBytes 4 c.val

/-- The pages of a snapshot, of 338 records at most (R101). -/
def Snapshot.pages (x : Snapshot) : Nat := (x.records.length + 337) / 338

/-- A page of a snapshot (R101). -/
def Snapshot.page (x : Snapshot) (n : Nat) : List Byte :=
  let l := (x.records.drop (338 * n)).take 338
  leBytes 4 x.id ++ leBytes 2 n ++ leBytes 2 x.pages ++ leBytes 4 l.length ++ List.replicate 4 0 ++ leBytes 8 x.time ++
    List.replicate 8 0 ++ l.flatMap x.recordBytes

/-- The checks of a snapshot request (R101). -/
def snapCheck (s : State) (p : List Byte) : Check :=
  let page := le p 2 2
  let x := s.host.snap
  firstFail ([needLen (p.length == 12), needField p 0 1 0 0x10, needField p 1 1 0 1] ++
    (if page = 0 then
      [need (le p 0 1 == 0 || bit (le p 1 1) 0 || ctrExists (le p 0 1) (le p 4 4)) 4, need (le p 8 4 == 0) 8]
    else if x.id = 0 || le p 8 4 ≠ x.id then [some (.invalid 8)]
    else [need (decide (page < x.pages)) 2]))

/-- A new identifier, never 0 and not the held one; the spec gives no other rule for it (R101, log entry 3). -/
def State.snapId (s : State) : Nat × State :=
  let (v, s) := s.drawBelow (2 ^ 32 - 2)
  (if v + 1 < s.host.snap.id || s.host.snap.id = 0 then v + 1 else v + 2, s)

/-- The snapshot of the scope that a request names, at one instant; it replaces the held one (R55, R101). Where it clears
them too, the updates of that instant are left to the following snapshot (R56). -/
def State.snapTake (s : State) (p : List Byte) (clears : Bool) : State :=
  let (v, s) := s.snapId
  s.modHost fun h => { h with snap := {
    id := v, group := le p 0 1, all := bit (le p 1 1) 0, fn := le p 4 4, time := s.activeNs
    ctrs := if clears then s.ctrs.map fun _ c => c.before s.now else s.ctrs } }

/-- What R101 clears beside the counters of a scope: the marks "since the last `dev.snap.clear`" of R124, R240,
R292, R320, R339, R383 and R445, and `EVT_LOG_LOST`. A mark that its rule ties to a group falls with that group's
clear. -/
def State.snapMarks (s : State) (x : Snapshot) : State :=
  let whole (g : Nat) : Bool := x.group == 0 || (x.group == g && x.all)
  let s := if x.covers 1 0 then s.modHost fun h => { h with evtLogLost := (s.ctr 1 0 ctrDevEvtLogLost).val } else s
  let s := s.each ((List.range 32).filter fun b => x.covers 3 b && (s.bus b).unmappedSeen) fun s b =>
    s.modBus b fun c => { c with unmappedSeen := false }
  let s := s.modTbl fun t => { t with bucketFullSeen := t.bucketFullSeen.filter fun v => !x.covers 5 (0x10000 + v) }
  let s := s.each ((List.range 4).filter fun n => x.covers 6 n) fun s n =>
    s.modPool n fun c => { c with peak := c.used }
  let s := if whole 7 then s.modSig fun g => { g with rangeSeen := false, dropSeen := false } else s
  let s := if whole 9 then s.modAud fun a => { a with clipSeen := false } else s
  if whole 11 then s.modSec fun e => { e with slots := e.slots.map fun _ k => { k with failSeen := false } } else s

/-- Clear every counter of the held snapshot's scope (R56, R101). -/
def State.snapClear (s : State) : State :=
  let x := s.host.snap
  let covered (k : Nat) : Bool := x.covers (k / 2 ^ 48) (k / 2 ^ 16 % 2 ^ 32)
  { s with ctrs := (s.ctrs.map fun k c => if covered k then c.after s.now else c).filter fun k c =>
    !covered k || c.val != 0 }.snapMarks x

/-- The checks of `dev.snap` (R101). -/
def checkDevSnap (s : State) (p : List Byte) : Check := snapCheck s p

/-- A new snapshot, or a page of the held one (R101). -/
def effectDevSnap (s : State) (p : List Byte) : State × Reply :=
  let s := if le p 2 2 = 0 then s.snapTake p false else s
  (s, .ok (s.host.snap.page (le p 2 2)))

/-- `DEV_SNAP` (R101). -/
def execDevSnap (t : Nat) (m : Fin 8) (s : State) : Host.Outcome State Fault Refusal :=
  .next (s.simple t m 0x0104 checkDevSnap effectDevSnap)

/-- The checks of `dev.snap.clear` (R101). -/
def checkDevSnapClear (s : State) (p : List Byte) : Check := snapCheck s p

/-- A new snapshot whose counters are cleared at its instant, or a page of the held one (R56, R101). -/
def effectDevSnapClear (s : State) (p : List Byte) : State × Reply :=
  let s := if le p 2 2 = 0 then (s.snapTake p true).snapClear else s
  (s, .ok (s.host.snap.page (le p 2 2)))

/-- `DEV_SNAP_CLEAR` (R101). -/
def execDevSnapClear (t : Nat) (m : Fin 8) (s : State) : Host.Outcome State Fault Refusal :=
  .next (s.simple t m 0x0105 checkDevSnapClear effectDevSnapClear)

/-! `dev.restart` and `dev.safe` (R23, R98, R471). -/

/-- The checks of `dev.restart` (R85, R98, log entry 6). -/
def checkDevRestart (s : State) (p : List Byte) : Check :=
  let i := le p 0 1
  let u := le p 1 1
  firstFail [needLen (p.length == 2), needField p 0 1 0 6, need (u == 0xFF || decide (u < unitCount i)) 1,
    needLeave (decide (i < 5)), s.unitCheck ⟨i, if u = 0xFF then 63 else u⟩]

/-- The island or unit restarts; the command ends when it is back (R23, R468). -/
def State.hostRestart (s : State) (m i u : Nat) : State :=
  if u = 0xFF then (s.restartIsland i 0xFF).commitWaits m [{ island := i, unit := 63 }] [i * 64 + 63]
  else (s.restartUnit ⟨i, u⟩ 0xFF).commitWaits m [{ island := i, unit := u }] [i * 64 + u]

/-- `DEV_RESTART` (R98). -/
def execDevRestart (t : Nat) (m : Fin 8) (s : State) : Host.Outcome State Fault Refusal :=
  .next (s.begins t m 0x0106 checkDevRestart fun s p => s.hostRestart m (le p 0 1) (le p 1 1))

/-- No payload (R98). -/
def checkDevSafe (_ : State) (p : List Byte) : Check := needLen p.isEmpty

/-- `DEV_SAFE` (R98, R471): the device enters the safe state after responding. -/
def execDevSafe (t : Nat) (m : Fin 8) (s : State) : Host.Outcome State Fault Refusal :=
  .next (s.begins t m 0x0107 checkDevSafe fun s _ => (s.complete m .ok).safeState)

end Sys2Proof.Machine
end

