-- ==== Sys2Proof/Machine/Registers.lean ====
section
/-! DEFINITION. What the host writes: the registers of BAR0, the windows of BAR2, the SPI slave, MSI-X and the state of
the PCIe endpoint (R6 to R8, R60 to R72, R74 to R78, R82, R399, R413, R606). -/

namespace Sys2Proof.Machine

open Sys2Proof

/-! BAR0 and BAR2 (R62, R74, R75). -/

/-- A write of the event registers (R77, R78); the offset counts from 0x0100. -/
def State.evtRegWrite (s : State) (off v : Nat) : State :=
  if off < 0x10 then s.evtClear (off / 4) (BitVec.ofNat 32 v)
  else if off < 0x20 then s.evtMaskWrite (off / 4 - 4) (BitVec.ofNat 32 v)
  else if off = 0x24 then s.evtRelease v
  else if off = 0x30 then s.modHost fun h => { h with intPinEn := bit v 0 }
  else if inRange off 0x40 0xBF then s.modHost fun h => { h with
    evtVec := (List.range 4).foldl (fun t k => t.set (off - 0x40 + k) (bits v (8 * k) 5)) h.evtVec }
  else s

/-- The host may write the envelope and the window of a mailbox: no doorbell pending and `MSTATE` 0 (R86, R87). -/
def Mbx.takesWrites (b : Mbx) : Bool := !b.ringing && b.mstate == 0

/-- A write of a mailbox's control registers (R82). -/
def State.mbxRegWrite (s : State) (m off v : Nat) : State :=
  if off < 0x10 then
    (if (s.mb m).takesWrites then s.modMb m fun b => { b with cmd := patch b.cmd off (leBytes 4 v) } else s)
  else if off = 0x10 then (if bit v 0 then s.ringBell m else s)
  else if off = 0x14 then s.mbxFlags m v
  else s

/-- A write of a queue's control block (R399). A rewind takes effect before the mark is cleared (log entry 20). -/
def State.tqRegWrite (s : State) (q off v : Nat) : State :=
  if off = 8 then s.tqWriteCur q v
  else if off = 0xC then s.tqWriteMark q v
  else if off = 0x10 then s.tqWriteRelease q v
  else if off = 0x14 then
    let s := if bit v 0 then s.tqRewindCur q else s
    if bit v 1 then s.tqClearMark q else s
  else if off = 0x18 then s.tqWriteStatus q v
  else s

/-- A write of a ring's control block (R413). -/
def State.ringRegWrite (s : State) (r off v : Nat) : State :=
  if off = 0 then s.ringTail r v
  else if off = 8 then s.modRing r fun x =>
    let gone (k : Nat) : Bool := w1c x.setAt s.now v k
    { x with tailErr := x.tailErr && !gone 5, starveDrop := x.starveDrop && !gone 4, error := x.error && !gone 3 }
  else s

/-- A write of the MSI-X table (R63); the offset counts from 0x6000. -/
def State.msixRegWrite (s : State) (off v : Nat) : State :=
  if off % 16 = 12 then
    (s.modHost fun h => { h with msix := { h.msix with
      vmask := BitVec.ofNat 32 (setBit h.msix.vmask.toNat (off / 16) (bit v 0)) } }).msixFlush
  else s.modHost fun h => { h with msix := { h.msix with table := h.msix.table.set (off / 4) v } }

/-- A write of a whole aligned word of BAR0 (R6, R74): each field under its access type; reserved ranges ignore it. -/
def State.hostWriteWord (s : State) (off v : Nat) : State :=
  if off = 0x20 then s.modHost fun h => { h with scratch := BitVec.ofNat 32 v }
  else if inRange off 0x100 0x1FF then s.evtRegWrite (off - 0x100) v
  else if inRange off 0x400 0x41F then (if bit v 0 then s.abortCommand ((off - 0x400) / 4) true else s)
  else if inRange off 0x1000 0x1FFF then s.mbxRegWrite ((off - 0x1000) / 0x200) (off % 0x200) v
  else if inRange off 0x2000 0x3FFF then s.ciphWrite ((off - 0x2000) / 0x400) (off % 0x400) v
  else if inRange off 0x4000 0x4FFF then s.tqRegWrite ((off - 0x4000) / 0x40) (off % 0x40) v
  else if inRange off 0x5000 0x5BFF then s.ringRegWrite ((off - 0x5000) / 0x40) (off % 0x40) v
  else if inRange off 0x6000 0x61FF then s.msixRegWrite (off - 0x6000) v
  else s

/-- A write of a byte of BAR2 (R75): only the windows of open mailboxes take it. -/
def State.bar2Write (s : State) (a : Nat) (v : Byte) : State :=
  if a < 0x8000 && (s.mb (a / 4096)).takesWrites then s.setWindowByte a v else s

/-- Greatest access to BAR2 in bytes (R62). -/
def Pcie.payloadBytes (x : Pcie) : Nat := if x.maxPayload = 0 then 128 else 256

/-- Bytes written to BAR2 from an offset on, those whose byte enable is 1; a write longer than 4 bytes has all of them. -/
def State.bar2Bytes (s : State) (off : Nat) (data : List Byte) (be : Nat) : State :=
  (data.foldl (fun (x : State × Nat) v =>
    (if 4 < data.length || bit be x.2 then x.1.bar2Write (off + x.2) v else x.1, x.2 + 1)) (s, 0)).1

/-- A write to BAR0 (R62): an aligned 32-bit access with four byte enables, or it is discarded and counted. -/
def State.bar0Write (s : State) (off : Nat) (data : List Byte) (be : Nat) : State :=
  if data.length == 4 && off % 4 == 0 && be % 16 == 15 then s.hostWriteWord off (leNum data)
  else s.count 1 0 ctrDevHostBadAccess

/-- Completion Timeout Values of Ranges A and B, and the default (R64). -/
def cplTimeoutOk (v : Nat) : Bool := [0, 1, 2, 5, 6].contains v

/-- A write of a word `v` of the configuration space, `w` being its enabled bytes with 0 elsewhere (R60, R61, R63, R64,
log entry 21). -/
def HostIf.cfgSet (h : HostIf) (off v w : Nat) : HostIf :=
  let x := h.pcie
  if off = 0x04 then { h with busMaster := bit v 2, pcie := { x with memEn := bit v 1 } }
  else if off = 0x10 then { h with pcie := { x with bar0 := bits v 16 16 * 2 ^ 16 } }
  else if off = 0x18 then { h with pcie := { x with bar2 := bits x.bar2 32 32 * 2 ^ 32 + bits v 23 9 * 2 ^ 23 } }
  else if off = 0x1C then { h with pcie := { x with bar2 := bits v 0 32 * 2 ^ 32 + bits x.bar2 0 32 } }
  else if off = 0x48 then
    { h with pcie := { x with maxPayload := min 1 (bits v 5 3), maxRead := min 2 (bits v 12 3) } }
  else if off = 0x50 then { h with pcie := { x with aspmL1 := bit v 1 } }
  else if off = 0x68 then
    { h with pcie := { x with cplTimeout := if cplTimeoutOk (bits v 0 4) then bits v 0 4 else x.cplTimeout } }
  else if off = 0x70 then { h with msix := { h.msix with enable := bit v 31, fmask := bit v 30 } }
  else if off = 0x104 then { h with pcie := { x with uncStatus := x.uncStatus - (x.uncStatus &&& w) } }
  else if off = 0x108 then { h with pcie := { x with uncMask := v } }
  else if off = 0x10C then { h with pcie := { x with uncSev := v } }
  else if off = 0x110 then { h with pcie := { x with corStatus := x.corStatus - (x.corStatus &&& w) } }
  else if off = 0x114 then { h with pcie := { x with corMask := v } }
  else h

/-- A write to the configuration space of the endpoint, BAR number 0xFF of this model (log entry 21): the enabled bytes of
one aligned word. -/
def State.cfgWrite (s : State) (off : Nat) (data : List Byte) (be : Nat) : State :=
  if s.host.perst then s
  else
    let put (base : List Byte) : Nat := leNum ((List.range 4).map fun k =>
      if bit be k && decide (k < data.length) then data.getD k 0 else base.getD k 0)
    let v := put (leBytes 4 (s.host.cfgWord off))
    (s.modHost fun h => h.cfgSet off v (put (leBytes 4 0))).msixFlush

/-- `REGISTER_WRITE` (R6, R61, R62, R74, R75). -/
def execRegisterWrite (t bar off : Nat) (data : List Byte) (be : Nat) (s : State) :
    Host.Outcome State Fault Refusal :=
  if bar = 0 && off + data.length ≤ 0x10000 then .next (s.hostWrites t (·.bar0Write off data be))
  else if bar = 2 && off + data.length ≤ 0x800000 then
    .next (s.hostWrites t fun s => if data.length ≤ s.host.pcie.payloadBytes then s.bar2Bytes off data be else s)
  else if bar = 0xFF && off + data.length ≤ 0x1000 then .next (s.hostWrites t (·.cfgWrite off data be))
  else .fault .noSuchAddress

/-- `EVT_LOG_RELEASE` (R77). -/
def execEvtLogRelease (t : Nat) (value : Word) (s : State) : Host.Outcome State Fault Refusal :=
  .next (s.hostWrites t (·.evtRelease value.toNat))

/-- `EVT_MASK_WRITE` (R77, R78). -/
def execEvtMaskWrite (t : Nat) (k : Fin 4) (value : Word) (s : State) : Host.Outcome State Fault Refusal :=
  .next (s.hostWrites t (·.evtMaskWrite k value))

/-! MSI-X and the PCIe endpoint (R60, R63, R76, R606). -/

/-- The host unmasks a vector or the function, or enables MSI-X (R63). -/
def Msix.unmask (x : Msix) : MsixUnmask → Msix
  | .vector v => { x with vmask := x.vmask &&& ~~~(BitVec.ofNat 32 (2 ^ v.val)) }
  | .function => { x with fmask := false }
  | .enable => { x with enable := true }

/-- `MSIX_VECTOR_UNMASK` (R63). -/
def execMsixVectorUnmask (t : Nat) (what : MsixUnmask) (s : State) : Host.Outcome State Fault Refusal :=
  let s := s.tick t
  .next (if s.hostReach && !s.host.perst then
      (s.modHost fun h => { h with msix := h.msix.unmask what }).msixFlush
    else s)

/-- The configuration of the endpoint is at its reset values: link down, bus mastering off, MSI-X off (R63, R76). -/
def HostIf.endpointReset (h : HostIf) : HostIf :=
  { h with pcieUp := false, pcieWidth := 0, pcieSpeed := 0, busMaster := false, msix := {}, pcie := {} }

/-- `PERST_N` (R606): low resets the endpoint, and every ring stops as `dma.ring.disable` provides. -/
def execPerstN (t : Nat) (level : Bool) (s : State) : Host.Outcome State Fault Refusal :=
  let s := s.tick t
  if level then .next (s.modHost fun h => { h with perst := false })
  else
    let s := s.each ((List.range 48).filter fun r => (s.ring r).rstate != 0) State.ringStop
    .next (s.modHost fun h => { h.endpointReset with perst := true })

/-- `PCIE_LINK_STATE_CHANGE` (R60, R76): the link is in L0 or L1 with its width and speed, or it is down, which resets
the endpoint as a link that goes down does in PCI Express Base 3.0 (log entry 22). -/
def execPcieLinkStateChange (t width speed : Nat) (up : Bool) (s : State) : Host.Outcome State Fault Refusal :=
  let s := s.tick t
  .next (if !up then s.modHost HostIf.endpointReset
    else if s.hostReach && !s.host.perst && inRange width 1 2 && inRange speed 1 3 then
      s.modHost fun h => { h with pcieUp := true, pcieWidth := width, pcieSpeed := speed }
    else s)

/-! The SPI slave (R65 to R71). -/

/-- `SPI_STATUS` of a transaction, bit by bit from `OPC_ERR` down (R70). -/
structure SpiResult where
  /-- `OPC_ERR`. -/
  opc : Bool := false
  /-- `RD_LATE`. -/
  late : Bool := false
  /-- `ADDR_ERR`. -/
  addr : Bool := false
  /-- `LEN_ERR`. -/
  len : Bool := false
  /-- `CRC_ERR`. -/
  crc : Bool := false
  /-- `APPLIED`. -/
  applied : Bool := false
  deriving DecidableEq, Repr

/-- The byte of R70. -/
def SpiResult.byte (x : SpiResult) : Nat :=
  flag x.opc 5 + flag x.late 4 + flag x.addr 3 + flag x.len 2 + flag x.crc 1 + flag x.applied

/-- A transaction that is no status read ends: it overwrites the status and counts each error (R70, R102). -/
def State.spiEnd (s : State) (x : SpiResult) : State :=
  let c (b : Bool) (i : Nat) (s : State) : State := if b then s.count 1 0 i else s
  let s := c x.opc ctrDevSpiOpcErr s
  let s := c x.late ctrDevSpiRdLate s
  let s := c x.addr ctrDevSpiAddrErr s
  let s := c x.len ctrDevSpiLenErr s
  let s := c x.crc ctrDevSpiCrcErr s
  s.modHost fun h => { h with spi := {
    status := BitVec.ofNat 8 x.byte, seen := h.spi.seen || x.applied } }

/-- An SPI status read (R67, R70): the status and its CRC; nothing changes. -/
def State.spiStatus (s : State) : State :=
  let b := leBytes 1 s.host.spi.status.toNat
  s.send (.spi (b ++ leBytes 1 (crc8 b)))

/-- The words of a transaction are all mapped (R65). -/
def spiMapped (a n : Nat) : Bool := (List.range n).all fun k => (spiMap (a + 4 * k)).1 != 0

/-- Write one word at a mapped SPI address. -/
def State.spiWord (s : State) (a : Nat) (data : List Byte) : State :=
  let (bar, off) := spiMap a
  if bar = 1 then s.hostWriteWord off (leNum data) else s.bar2Bytes off data 15

/-- An SPI write of `n` words (R67, R68), during which the device drives 0x00; `spare` says that `SPI_CS_N` rose within a
byte. -/
def State.spiWrite (s : State) (n : Nat) (mosi : List Byte) (spare : Bool) : State :=
  let s := s.send (.spi (List.replicate mosi.length 0))
  let a := be mosi 1 4
  let whole := mosi.length == 6 + 4 * n && !spare
  let addr := decide (5 ≤ mosi.length) && (a % 4 != 0 || !spiMapped a n)
  let crc := decide (6 + 4 * n ≤ mosi.length) && crc8 (mosi.take (5 + 4 * n)) != le mosi (5 + 4 * n) 1
  let ok := whole && !addr && !crc
  let s := if ok then s.each (List.range n) fun s k => s.spiWord (a + 4 * k) (field mosi (5 + 4 * k) 4) else s
  s.spiEnd { addr := addr, len := !whole, crc := crc, applied := ok }

/-- The mailbox and event registers, whose reads are always ready in time (R69). -/
def spiPrompt (a n : Nat) : Bool :=
  let hit (x : Nat) : Bool := inRange x 0x100 0x1FF || inRange x 0x400 0x4FF || inRange x 0x1000 0x1FFF
  (List.range n).all fun k => hit (a + 4 * k)

/-- An SPI read of `n` words (R67, R69). How many wait bytes pass is a free value within the bounds of R69 (log entry
3); the host has clocked enough bytes, or `LEN_ERR` is set (log entry 20). -/
def State.spiRead (s : State) (n : Nat) (mosi : List Byte) (late : Bool) : State :=
  let a := be mosi 1 4
  let prompt := spiPrompt a n
  let slow := late && !prompt
  let (w, s) := s.drawBelow (if prompt then 9 else 65)
  let wait := List.replicate (if slow then 64 else w) (BitVec.ofNat 8 0xFF)
  if mosi.length < 6 then s.spiEnd { len := true }
  else if crc8 (mosi.take 5) != le mosi 5 1 then
    (s.send (.spi (wait ++ [BitVec.ofNat 8 0xE0]))).spiEnd { crc := true }
  else if a % 4 ≠ 0 then s.spiEnd { addr := true }
  else if slow then (s.send (.spi (wait ++ [BitVec.ofNat 8 0xE0]))).spiEnd { late := true, addr := !spiMapped a n }
  else
    let data := (List.range n).flatMap fun k => s.spiBytes (a + 4 * k)
    let out := wait ++ BitVec.ofNat 8 0x5A :: data ++ leBytes 1 (crc8 data)
    let room := mosi.length - 6
    let short := decide (room < out.length)
    (s.send (.spi (out.take room))).spiEnd { addr := !spiMapped a n, len := short, applied := !short }

/-- A whole transaction, by its opcode (R66). -/
def State.spiTransact (s : State) (mosi : List Byte) (spare late : Bool) : State :=
  let op := le mosi 0 1
  if mosi.isEmpty then s.spiEnd { len := true }
  else if inRange op 0x40 0x7F then s.spiRead (op - 0x3F) mosi late
  else if inRange op 0x80 0xBF then s.spiWrite (op - 0x7F) mosi spare
  else if op = 0xC0 then s.spiStatus
  else s.spiEnd { opc := true }

/-- `SPI_WRITE_TRANSACTION` (R68). -/
def execSpiWriteTransaction (t : Nat) (mosi : List Byte) (spare : Bool) (s : State) :
    Host.Outcome State Fault Refusal :=
  .next (s.hostWrites t (·.spiTransact mosi spare false))

/-- `SPI_READ_TRANSACTION` (R69). -/
def execSpiReadTransaction (t : Nat) (mosi : List Byte) (late : Bool) (s : State) :
    Host.Outcome State Fault Refusal :=
  .next (s.hostWrites t (·.spiTransact mosi false late))

/-- `SPI_STATUS_READ` (R70). -/
def execSpiStatusRead (t : Nat) (s : State) : Host.Outcome State Fault Refusal :=
  .next (s.hostWrites t (·.spiStatus))

/-- `SPI_TRANSACTION_TIMEOUT` (R71): the transaction is abandoned. -/
def execSpiTransactionTimeout (t : Nat) (s : State) : Host.Outcome State Fault Refusal :=
  .next (s.hostWrites t (·.spiEnd { len := true }))

end Sys2Proof.Machine
end

