-- ==== Sys2Proof/Machine/Remote.lean ====
section
/-! DEFINITION. Remote access and locked sequences across the causeway, and the commands of the peer of a widened pair
(R516, R527 to R530, R533, R536). The bodies of the messages are the model's own (log entry 15), their fields in network
byte order (R4). -/

namespace Sys2Proof.Machine

open Sys2Proof

/-! The remote layout (R527, R536). -/

/-- A remote access as its layout gives it: `SPACE`, `COUNT`, `ADDR`. -/
structure RemoteReq where
  /-- `SPACE`. -/
  space : Nat
  /-- `COUNT`. -/
  count : Nat
  /-- `ADDR`. -/
  addr : Nat
  deriving DecidableEq, Repr

/-- The access that a layout names (R536). -/
def remoteReq (p : List Byte) : RemoteReq := { space := le p 1 1, count := le p 2 2, addr := le p 4 4 }

/-- `TABLE` of an address (R536). -/
def RemoteReq.table (q : RemoteReq) : Nat := bits q.addr 24 8

/-- Bytes of one unit of write data: a register word, a slot value, a table entry (R527, log entry 23). -/
def RemoteReq.unitBytes (q : RemoteReq) : Nat :=
  if q.space = 0 then 4 else if q.space = 1 then 8 else directSize q.table

/-- The payload of `sig.read` or `tbl.read` that an access stands for (R527). `BUS` and a route key, for which `ADDR`
has no place, are 0 (log entry 23). -/
def RemoteReq.readPayload (q : RemoteReq) : List Byte :=
  if q.space = 1 then leBytes 4 q.addr ++ leBytes 2 q.count
  else leBytes 1 q.table ++ [0] ++ leBytes 2 q.count ++ leBytes 4 (bits q.addr 0 24) ++
    if q.table = 1 then List.replicate 32 0 else []

/-- The payload of `sig.write` or `tbl.direct.write` that an access stands for: consecutive slots or entries (R527). -/
def RemoteReq.writePayload (q : RemoteReq) (data : List Byte) : List Byte :=
  let n := q.unitBytes
  if q.space = 1 then leBytes 2 q.count ++ List.replicate 6 0 ++
    (List.range q.count).flatMap fun k => leBytes 4 (q.addr + k) ++ leBytes 4 0 ++ field data (n * k) n
  else leBytes 1 q.table ++ [0] ++ leBytes 2 q.count ++
    (List.range q.count).flatMap fun k => leBytes 4 (bits q.addr 0 24 + k) ++ field data (n * k) n

/-- Units of `n` bytes change between little-endian and network byte order (R4). -/
def netUnits (n : Nat) (data : List Byte) : List Byte := (chunks data n data.length).flatMap List.reverse

/-- Write data as they travel: register words and slot values in network byte order (R4), table entries in the form of
`tbl.direct.write` (log entry 15). It is its own inverse. -/
def RemoteReq.wireWrite (q : RemoteReq) (data : List Byte) : List Byte :=
  if q.space ≤ 1 then netUnits q.unitBytes data else data

/-- Read data as they travel: register words in network byte order (R4), slots and entries in the form of `sig.read` (R295)
and `tbl.read`. It is its own inverse. -/
def wireRead (space : Nat) (data : List Byte) : List Byte := if space = 0 then netUnits 4 data else data

/-- A request as it travels: kind, `SPACE`, `COUNT`, `ADDR`, `REQ_ID`, data. -/
def requestBody (kind : Nat) (p : List Byte) : List Byte :=
  let q := remoteReq p
  [0] ++ leBytes 1 kind ++ leBytes 1 q.space ++ beBytes 2 q.count ++ beBytes 4 q.addr ++ beBytes 4 (le p 8 4) ++
    q.wireWrite (p.drop 16)

/-- The access that a request names. -/
def requestOf (body : List Byte) : RemoteReq := { space := le body 2 1, count := be body 3 2, addr := be body 5 4 }

/-- The checks of the layout of a remote command (R533, R536, R620). -/
def remoteCheck (s : State) (p : List Byte) (len : Bool) (spaces counts : Nat) : List Check :=
  [needLeave (s.cw.id != 0), needLen (decide (16 ≤ p.length) && len), need ((s.hopsTo (le p 0 1)).isSome && le p 0 1 != s.cw.id) 0,
    needField p 1 1 0 spaces, needField p 2 2 1 counts, needZeros p 12 4]

/-! Remote accesses begin on the initiator (R528, R529). -/

/-- A remote access of a mailbox begins. -/
def State.runBegin (s : State) (m kind : Nat) (p : List Byte) (fields : List Nat) : State :=
  let r : RemoteRun := {
    mbx := m, dev := le p 0 1, space := le p 1 1, addr := le p 4 4, reqId := le p 8 4, kind := kind, sentAt := s.now
    hops := (s.hopsTo (le p 0 1)).getD 0, fields := fields, sent := kind == 1, phase := if kind = 2 then 3 else 0 }
  s.modCw fun c => { c with runs := c.runs ++ [r] }

/-- A read or write request goes out: kind, layout, data (R528). -/
def State.requestSend (s : State) (m kind : Nat) (p : List Byte) : State :=
  (s.runBegin m kind p []).tell (le p 0 1) 3 (requestBody kind p)

/-- The checks of `cw.remote.read` (R536). -/
def checkCwRemoteRead (s : State) (p : List Byte) : Check := firstFail (remoteCheck s p (p.length == 16) 2 255)

/-- `CW_REMOTE_READ` (R527). -/
def execCwRemoteRead (t : Nat) (m : Fin 8) (s : State) : Host.Outcome State Fault Refusal :=
  .next (s.begins t m 0x0E04 checkCwRemoteRead fun s p => s.requestSend m 0 p)

/-- The checks of `cw.remote.write` (R536). -/
def checkCwRemoteWrite (s : State) (p : List Byte) : Check :=
  let q := remoteReq p
  firstFail (remoteCheck s p (p.length == 16 + q.unitBytes * q.count) 2 255)

/-- `CW_REMOTE_WRITE` (R528). -/
def execCwRemoteWrite (t : Nat) (m : Fin 8) (s : State) : Host.Outcome State Fault Refusal :=
  .next (s.begins t m 0x0E05 checkCwRemoteWrite fun s p => s.requestSend m 1 p)

/-! Locks and retries (R529, R530). -/

/-- The remote response (R536): far status, hops, count, data. -/
def RemoteRun.response (r : RemoteRun) (st count : Nat) (data : List Byte) : List Byte :=
  leBytes 1 st ++ leBytes 1 r.hops ++ leBytes 2 count ++ leBytes 4 0 ++ data

/-- What byte 8 on holds for a lock (R536): result, retries, old value. -/
def RemoteRun.lockData (r : RemoteRun) (result : Nat) : List Byte :=
  leBytes 1 result ++ leBytes 1 r.retries ++ List.replicate 6 0 ++ leBytes 8 r.old

/-- A remote access ends with a status. -/
def State.remoteComplete (s : State) (m : Nat) (r : Reply) : State := (s.remoteEnd m).1.complete m r

/-- A sequence receives `RETRY` (R530): it releases its locks and backs off, or ends with `BUSY` after its fourth
retry. -/
def State.retryRun (s : State) (m : Nat) : State :=
  match s.remoteRun m with
  | none => s
  | some r =>
    if 4 ≤ r.retries then s.remoteComplete m .busy
    else
      let s := (s.localFree r).count 14 0 ctrCwCwRetries
      let (v, s) := s.drawBelow 451
      s.modRun' m fun r => { r with phase := 2, retries := r.retries + 1, backoffUntil := s.now + (50 + v) * 1000 }

/-- Answer a lock request with `RETRY`: to the far device, or to this device's own sequence (R530). -/
def State.retryAnswer (s : State) (dev attempt : Nat) : State :=
  if dev = s.cw.id then s.retryRun attempt else s.tell dev 3 ([5] ++ leBytes 1 attempt)

/-- A remote completion goes out (R528): `REQ_ID`, status, `DETAIL`, data. -/
def doneBody (reqId st detail : Nat) (data : List Byte) : List Byte :=
  leBytes 1 1 ++ beBytes 4 reqId ++ leBytes 1 st ++ beBytes 4 detail ++ data

/-- A completion that this device keeps for a `REQ_ID` of a device: for 1 s (R528). -/
def State.farStored (s : State) (dev reqId : Nat) : Option Stored :=
  s.cw.stored.find? fun x => x.dev == dev && x.reqId == reqId && decide (s.now < x.atNs + 1000000000)

/-- The far device keeps a completion with the content of its request, the last 16 per initiating device, and sends it
(R528). -/
def State.farDone (s : State) (dev reqId : Nat) (content reply : List Byte) : State :=
  let s := s.modCw fun c =>
    let live := c.stored.filter fun x => decide (s.now < x.atNs + 1000000000) && !(x.dev == dev && x.reqId == reqId)
    let mine := live.filter fun x => x.dev == dev
    let kept := if mine.length < 16 then live else match mine with
      | x :: _ => live.erase x
      | [] => live
    { c with stored := kept ++ [{ dev := dev, reqId := reqId, content := content, reply := reply, atNs := s.now }] }
  s.tell dev 3 reply

/-- A repeated `REQ_ID` is answered with the stored completion, or `INVALID` where its content differs (R528). -/
def State.farRepeat (s : State) (dev reqId : Nat) (x : Stored) (content : List Byte) : State :=
  s.tell dev 3 (if x.content = content then x.reply else doneBody reqId stInvalid 8 [])

/-- What a locked sequence asks for, as its completion is kept: the resource (R528, R529; log entry 57). -/
def lockContent (space addr : Nat) : List Byte := [2] ++ leBytes 1 space ++ beBytes 4 addr

/-- The lock table is full (R530): the sequence ends with `BUSY`. -/
def State.lockFull (s : State) (space addr dev attempt reqId : Nat) : State :=
  if dev = s.cw.id then s.remoteComplete attempt .busy
  else s.farDone dev reqId (lockContent space addr) (doneBody reqId stBusy 0 [])

/-- The holder of a lock waits: it is a sequence of this device whose own lock request is not yet granted (R530). -/
def State.holderWaits (s : State) (l : FarLock) : Bool :=
  l.owner == s.cw.id && (match s.remoteRun l.attempt with
    | some r => r.phase == 0
    | none => false)

/-- A device asks for the lock of a resource (R529, R530). For this device's own sequences `attempt` is the mailbox. -/
def State.lockAsk (s : State) (space addr dev attempt hops reqId : Nat) : State :=
  match s.lockAt space addr with
  | none => if s.cw.locks.length < 32 then s.lockGive space addr dev attempt hops [] else s.lockFull space addr dev attempt reqId
  | some l =>
    if s.holderWaits l then
      if dev < l.owner then (s.lockGive space addr dev attempt hops l.queue).retryRun l.attempt
      else s.retryAnswer dev attempt
    else s.lockPut { l with queue := l.queue ++ [(dev, attempt, hops)] }

/-- A locked sequence begins an attempt: its local slot first, if it names one (R529 step 1). -/
def State.lockBegin (s : State) (m : Nat) : State :=
  match s.remoteRun m with
  | none => s
  | some r => match r.localSlot with
    | none => s.lockSend m
    | some k => (s.modRun' m fun r => { r with phase := 3 }).lockAsk 1 k s.cw.id m 0 0

/-- A slot that the host may write (R329). -/
def State.hostSlot (s : State) (k : Nat) : Bool := (s.map.slots.get {} k).hostWr

/-- The checks of `cw.remote.lock` (R529, R536). A local slot that the host may not write is `DENIED`, as `sig.write`
does it (log entry 23). -/
def checkCwRemoteLock (s : State) (p : List Byte) : Check :=
  firstFail (remoteCheck s p (p.length == 56) 1 1 ++ [needField p 48 4 0 131071, needField p 52 1 0 1, needZeros p 53 3,
    needLeave (le p 52 1 == 0 || s.hostSlot (le p 48 4)) 48])

/-- `CMP`, `CMP_MASK`, `VALUE`, `MASK`, `LOCAL_SLOT`, `LOP` (R536). -/
def lockFields (p : List Byte) : List Nat := [le p 16 8, le p 24 8, le p 32 8, le p 40 8, le p 48 4, le p 52 1]

/-- `CW_REMOTE_LOCK` (R529). -/
def execCwRemoteLock (t : Nat) (m : Fin 8) (s : State) : Host.Outcome State Fault Refusal :=
  .next (s.begins t m 0x0E06 checkCwRemoteLock fun s p => (s.runBegin m 2 p (lockFields p)).lockBegin m)

/-! The far device (R527 to R529). -/

/-- Registers that a remote write reaches (R527). -/
def remoteWritable (a : Nat) : Bool := a == 0x20 || inRange a 0x100 0x1FF || inRange a 0x4000 0x5FFF

/-- Words of BAR0 from an aligned offset. -/
def barRange (a n : Nat) : Bool := a % 4 == 0 && decide (a + 4 * n ≤ 0x10000)

/-- Run the checks of a command that a remote access stands for (R527). -/
def State.farCheck (s : State) (code : Nat) (p : List Byte) (check : State → List Byte → Check) : Check :=
  firstFail [s.functionCheck { code := code, len := p.length, payload := p },
    (match check s p with
      | some x => some (if x.status = stInvalid then .invalid 4 else x)
      | none => none)]

/-- The answer to a remote read (R527). -/
def State.farRead (s : State) (q : RemoteReq) : Reply :=
  let p := q.readPayload
  if q.space = 0 then
    if barRange q.addr q.count then .ok ((List.range q.count).flatMap fun k => leBytes 4 (s.barWord (q.addr + 4 * k)))
    else .invalid 4
  else if q.space = 1 then (match s.farCheck 0x0703 p checkSigRead with
    | some x => x
    | none => .ok ((answerSigRead s p).payload.drop 16))
  else match s.farCheck 0x0506 p checkTblRead with
    | some x => x
    | none => answerTblRead s p

/-- A remote write is applied (R527, R528). -/
def State.farWrite (s : State) (q : RemoteReq) (data : List Byte) : State × Reply :=
  let p := q.writePayload data
  if q.space = 0 then
    if !barRange q.addr q.count then (s, .invalid 4)
    else if (List.range q.count).all fun k => remoteWritable (q.addr + 4 * k) then
      (s.each (List.range q.count) fun s k => s.hostWriteWord (q.addr + 4 * k) (le data (4 * k) 4), .ok)
    else (s, .denied)
  else if q.space = 1 then (match s.farCheck 0x0704 p checkSigWrite with
    | some x => (s, x)
    | none => effectSigWrite s p)
  else match s.farCheck 0x0505 p checkTblDirectWrite with
    | some x => (s, x)
    | none => effectTblDirectWrite s p

/-- A remote request is applied, unless its `REQ_ID` is known (R528). -/
def State.farServe (s : State) (dev : Nat) (body : List Byte) : State :=
  let q := requestOf body
  let reqId := be body 9 4
  match s.farStored dev reqId with
  | some x => s.farRepeat dev reqId x body
  | none =>
    let (s, r) := if le body 1 1 = 1 then s.farWrite q (q.wireWrite (body.drop 13)) else (s, s.farRead q)
    s.farDone dev reqId body (doneBody reqId r.status r.detail (wireRead q.space r.payload))

/-- `REMOTE_REQUEST_RECEIVED` (R528). -/
def execRemoteRequestReceived (t dev : Nat) (body : List Byte) (s : State) : Host.Outcome State Fault Refusal :=
  let s := s.tick t
  .next (if s.fwUp && le body 0 1 = 0 && decide (13 ≤ body.length) then s.farServe dev body else s)

/-- `REMOTE_CACHE_EXPIRY` (R528). -/
def execRemoteCacheExpiry (t : Nat) (s : State) : Host.Outcome State Fault Refusal :=
  let s := s.tick t
  .next (s.modCw fun c => { c with stored := c.stored.filter fun x => decide (s.now < x.atNs + 1000000000) })

/-- A resource that a lock may name, and its status if not (R527, R529). -/
def State.lockTarget (s : State) (space addr : Nat) : Nat :=
  if space = 0 then (if !barRange addr 1 then stInvalid else if remoteWritable addr then stOk else stDenied)
  else if 131071 < addr then stInvalid
  else match s.functionCheck { code := 0x0704 } with
    | some x => x.status
    | none => if s.hostSlot addr then stOk else stDenied

/-- `LOCK_REQUEST_RECEIVED` (R529, R530). -/
def execLockRequestReceived (t dev : Nat) (body : List Byte) (s : State) : Host.Outcome State Fault Refusal :=
  let s := s.tick t
  let space := le body 1 1
  let addr := be body 2 4
  let reqId := be body 7 4
  .next (if s.fwUp && le body 0 1 = 2 && dev ≠ s.cw.id then
      match s.farStored dev reqId with
      | some x => s.farRepeat dev reqId x (lockContent space addr)
      | none =>
        let st := s.lockTarget space addr
        if st = stOk then s.lockAsk space addr dev (le body 6 1) ((s.hopsTo dev).getD 0) reqId
        else s.farDone dev reqId (lockContent space addr) (doneBody reqId st 0 [])
    else s)

/-- A value goes into a locked resource (R529). -/
def State.resWrite (s : State) (space addr v : Nat) : State :=
  if space = 0 then s.hostWriteWord addr (v % 2 ^ 32)
  else
    let s := s.commitAll
    let s1 := s.hostValue addr (toSigned 64 v)
    (s1.changes (changedSlots s s1 [addr]) (statusSlots s s1 [addr])).fireFlush

/-- The lock of a resource that a device holds by an attempt. -/
def State.lockHeld (s : State) (space addr dev attempt : Nat) : Option FarLock :=
  (s.lockAt space addr).filter fun l => l.owner == dev && l.attempt == attempt

/-- A request that waits for a lock is withdrawn. -/
def State.lockForget (s : State) (space addr dev attempt : Nat) : State :=
  match s.lockAt space addr with
  | some l => s.lockPut { l with queue := l.queue.filter fun w => !(w.1 == dev && w.2.1 == attempt) }
  | none => s

/-- Write-and-unlock, or unlock, at the far device (R529 step 4): its completion gives the result and the old value. -/
def State.unlockServe (s : State) (dev : Nat) (body : List Byte) : State :=
  let reqId := be body 1 4
  let space := le body 5 1
  let addr := be body 6 4
  let attempt := le body 10 1
  let how := le body 11 1
  match s.lockHeld space addr dev attempt with
  | none => if how = 2 then s.lockForget space addr dev attempt 
      else s.farDone dev reqId (lockContent space addr) (doneBody reqId stTimeout 0 [])
  | some l =>
    if how = 2 then s.lockFree space addr
    else
      let result := if how = 1 then 1 else if s.resValue space addr = l.old then 0 else 2
      let s := if result = 0 then s.resWrite space addr (be body 12 8) else s
      (s.lockFree space addr).farDone dev reqId (lockContent space addr)
        (doneBody reqId stOk 0 (leBytes 1 result ++ beBytes 8 l.old))

/-- `WRITE_AND_UNLOCK_RECEIVED` (R529). -/
def execWriteAndUnlockReceived (t dev : Nat) (body : List Byte) (s : State) : Host.Outcome State Fault Refusal :=
  let s := s.tick t
  .next (if s.fwUp && le body 0 1 = 4 then s.unlockServe dev body else s)

/-- The limit of an exchange with a device some hops away, in ns: 5 ms + 100 µs per hop (R528, R529). -/
def hopLimitNs (hops : Nat) : Nat := 5000000 + 100000 * hops

/-- `FAR_LOCK_EXPIRY` (R529): far locks not ended within their limit are released. -/
def execFarLockExpiry (t : Nat) (s : State) : Host.Outcome State Fault Refusal :=
  let s := s.tick t
  let due := s.cw.locks.filter fun l => l.owner != s.cw.id && decide (l.granted + hopLimitNs l.hops ≤ s.now)
  .next (if !s.fwUp then s else s.each due fun s l => (s.count 14 0 ctrCwCwLockExpired).lockFree l.space l.addr)

/-! The initiator goes on (R528 to R530). -/

/-- The locked sequence toward a device whose request of an attempt is not yet answered. -/
def State.lockRun (s : State) (dev attempt : Nat) : Option RemoteRun :=
  s.cw.runs.find? fun r => r.kind == 2 && r.dev == dev && r.phase == 0 && r.attempt % 256 == attempt

/-- A grant of a current attempt: write-and-unlock goes out (R529 step 3). -/
def State.grantTake (s : State) (r : RemoteRun) (old : Nat) : State :=
  let f (i : Nat) : Nat := r.fields.getD i 0
  let same := old &&& f 1 == f 0
  let mask := f 3 % 2 ^ 64
  let new := (old &&& (2 ^ 64 - 1 - mask)) ||| (f 2 &&& mask)
  (s.modRun' r.mbx fun r => { r with phase := 1, old := old, sent := same }).unlockSend r.dev r.reqId r.space r.addr
    r.attempt (if same then 0 else 1) new

/-- `LOCK_GRANT_RECEIVED` (R529): a grant that is no longer current is answered with an unlock. -/
def execLockGrantReceived (t dev : Nat) (body : List Byte) (s : State) : Host.Outcome State Fault Refusal :=
  let s := s.tick t
  let attempt := le body 6 1
  .next (if s.fwUp && le body 0 1 = 3 then
      match s.lockRun dev attempt with
      | some r => s.grantTake r (be body 7 8)
      | none => s.unlockSend dev 0 (le body 1 1) (be body 2 4) attempt 2 0
    else s)

/-- `LOCK_RETRY_RECEIVED` (R530): ignored by a sequence that is already retrying. -/
def execLockRetryReceived (t dev : Nat) (body : List Byte) (s : State) : Host.Outcome State Fault Refusal :=
  let s := s.tick t
  .next (if s.fwUp && le body 0 1 = 5 then
      match s.lockRun dev (le body 1 1) with
      | some r => s.retryRun r.mbx
      | none => s
    else s)

/-- `LOCK_BACKOFF_EXPIRY` (R530). -/
def execLockBackoffExpiry (t : Nat) (m : Fin 8) (s : State) : Host.Outcome State Fault Refusal :=
  let s := s.tick t
  .next (match s.remoteRun m with
    | some r => if s.fwUp && r.phase = 2 && decide (r.backoffUntil ≤ s.now) then s.lockBegin m else s
    | none => s)

/-- A completion ends the command of its request (R528, R529 step 5). -/
def State.remoteAnswer (s : State) (r : RemoteRun) (st detail : Nat) (data : List Byte) : State :=
  let ok := st == stOk
  let r := if ok && r.kind == 2 then { r with old := be data 1 8 } else r
  let s := if ok then s.count 14 0 ctrCwRemoteOk else s
  let s := match r.localSlot with
    | some k => if ok then s.resWrite 1 k r.old else s
    | none => s
  let data := if r.kind = 2 then r.lockData (le data 0 1) else wireRead r.space data
  let count := match (s.mb r.mbx).req with
    | some q => if ok then le q.payload 2 2 else 0
    | none => 0
  s.remoteComplete r.mbx { status := st, detail := detail, payload := r.response st count data }

/-- A response envelope as the master reads it (R84). -/
def envReply (env payload : List Byte) : Reply :=
  { status := le env 5 1, detail := le env 7 4, rflags := le env 6 1 / 2 * 2, payload := payload }

/-- The peer's response returns into the master's mailbox (R516). -/
def State.peerTake (s : State) (m : Nat) (env payload : List Byte) : State :=
  if !s.cw.fwdMbx.contains m then s
  else if bit (le env 6 1) 0 then s.interim m (envReply env payload)
  else (s.modCw fun c => { c with fwdMbx := c.fwdMbx.filter (· != m) }).complete m (envReply env payload)

/-- `REMOTE_COMPLETION_RECEIVED` (R516, R528, R576): of a remote access, of the peer, of an update member. -/
def execRemoteCompletionReceived (t dev : Nat) (body : List Byte) (s : State) : Host.Outcome State Fault Refusal :=
  let s := s.tick t
  let kind := le body 0 1
  .next (if !s.fwUp then s
    else if kind = 1 then
      match s.cw.runs.find? fun r => r.dev == dev && r.reqId == be body 1 4 && decide (r.phase ≤ 1) with
      | some r => s.remoteAnswer r (le body 5 1) (be body 6 4) (body.drop 10)
      | none => s
    else if kind = 8 then s.peerTake (le body 1 1) (field body 2 16) (body.drop 18)
    else if kind = 9 then s.relayAnswer (be body 1 4) dev (le body 5 1)
    else s)

/-- `REMOTE_TIMEOUT` (R528): no completion within the limit of the request. -/
def execRemoteTimeout (t : Nat) (m : Fin 8) (s : State) : Host.Outcome State Fault Refusal :=
  let s := s.tick t
  .next (match s.remoteRun m with
    | some r =>
      if s.fwUp && r.phase ≤ 1 && decide (r.sentAt + hopLimitNs r.hops ≤ s.now) then
        let x := s.remoteEnd m
        (x.1.count 14 0 ctrCwRemoteTimeout).complete m { status := stTimeout, rflags := flag x.2 3 }
      else s
    | none => s)

/-! The peer of a widened pair (R516). -/

/-- A command of the master's mailbox runs on the peer: the envelope is checked, and the command starts or waits. -/
def State.peerRun (s : State) (m : Nat) (cmd payload : List Byte) : State :=
  let busy := (s.mb m).outstanding || (s.mb m).ringing
  if busy then s.peerAnswer m (respBytes (le cmd 0 1) (le cmd 1 2) .busy false) []
  else
    let r : Req := {
      tag := le cmd 0 1, code := le cmd 1 2, len := le cmd 3 2, flags := le cmd 5 2, payload := payload }
    let s := s.modMb m fun b => { b with
      req := some r, mstate := 1, order := s.mbxOrder, acceptedAt := s.now, startedAt := s.now, running := false
      deferred := false, committed := false, prepared := false, waiting := [], aux := [], abortAt := none, stopping := false }
    let s := { s with mbxOrder := s.mbxOrder + 1 }.modCw fun c => { c with peerIn := c.peerIn ++ [m] }
    match envelopeCheck cmd payload with
    | some x => s.complete m x
    | none => s.queueJudge m r

/-- `PEER_COMMAND_RECEIVED` (R516): a command to run, an abort of it, a commit that spans both devices. -/
def execPeerCommandReceived (t : Nat) (body : List Byte) (s : State) : Host.Outcome State Fault Refusal :=
  let s := s.tick t
  let op := le body 1 1
  let m := le body 2 1
  .next (if !(le body 0 1 = 7 && s.isPeer && s.fwUp) then s
    else if op = 0 && m < 8 then s.peerRun m (field body 3 16) (body.drop 19)
    else if op = 1 then (if s.cw.peerIn.contains m then s.abortCommand m true else s)
    else if op = 2 then (if m = 1 then s.takeRules (body.drop 3) else if m = 2 then s.takeMap (body.drop 3) else s)
    else s)

end Sys2Proof.Machine
end

