-- ==== Sys2Proof/Machine/Dispatch.lean ====
section
/-! DEFINITION. One arm per command. -/

namespace Sys2Proof.Machine

open Sys2Proof

/-- The effect of a command on everything but the queue. -/
def exec (i : Instr) (s : State) : Host.Outcome State Fault Refusal :=
  match i with
  | .devIdentify t m => Sys2Proof.Machine.execDevIdentify t m s
  | .devState t m => Sys2Proof.Machine.execDevState t m s
  | .devConfig t m => Sys2Proof.Machine.execDevConfig t m s
  | .devSnap t m => Sys2Proof.Machine.execDevSnap t m s
  | .devSnapClear t m => Sys2Proof.Machine.execDevSnapClear t m s
  | .devRestart t m => Sys2Proof.Machine.execDevRestart t m s
  | .devSafe t m => Sys2Proof.Machine.execDevSafe t m s
  | .ethConfig t m => Sys2Proof.Machine.execEthConfig t m s
  | .ethEnable t m => Sys2Proof.Machine.execEthEnable t m s
  | .ethDisable t m => Sys2Proof.Machine.execEthDisable t m s
  | .ethStatus t m => Sys2Proof.Machine.execEthStatus t m s
  | .ethPauseConfig t m => Sys2Proof.Machine.execEthPauseConfig t m s
  | .ethWakePattern t m => Sys2Proof.Machine.execEthWakePattern t m s
  | .ethStepdownConfig t m => Sys2Proof.Machine.execEthStepdownConfig t m s
  | .busConfig t m => Sys2Proof.Machine.execBusConfig t m s
  | .busEnable t m => Sys2Proof.Machine.execBusEnable t m s
  | .busDisable t m => Sys2Proof.Machine.execBusDisable t m s
  | .busFilterLoad t m => Sys2Proof.Machine.execBusFilterLoad t m s
  | .busRecover t m => Sys2Proof.Machine.execBusRecover t m s
  | .busMode t m => Sys2Proof.Machine.execBusMode t m s
  | .busStatus t m => Sys2Proof.Machine.execBusStatus t m s
  | .parseGraphLoad t m => Sys2Proof.Machine.execParseGraphLoad t m s
  | .parseSelect t m => Sys2Proof.Machine.execParseSelect t m s
  | .ruleStage t m => Sys2Proof.Machine.execRuleStage t m s
  | .ruleCommit t m fate => Sys2Proof.Machine.execRuleCommit t m fate s
  | .ruleStatus t m => Sys2Proof.Machine.execRuleStatus t m s
  | .policerConfig t m => Sys2Proof.Machine.execPolicerConfig t m s
  | .tblRouteAdd t m => Sys2Proof.Machine.execTblRouteAdd t m s
  | .tblRouteDel t m => Sys2Proof.Machine.execTblRouteDel t m s
  | .tblL2Config t m => Sys2Proof.Machine.execTblL2Config t m s
  | .tblL2Flush t m => Sys2Proof.Machine.execTblL2Flush t m s
  | .tblDirectWrite t m => Sys2Proof.Machine.execTblDirectWrite t m s
  | .tblRead t m => Sys2Proof.Machine.execTblRead t m s
  | .swPoolConfig t m => Sys2Proof.Machine.execSwPoolConfig t m s
  | .swClassConfig t m => Sys2Proof.Machine.execSwClassConfig t m s
  | .swPortConfig t m => Sys2Proof.Machine.execSwPortConfig t m s
  | .swSchedConfig t m => Sys2Proof.Machine.execSwSchedConfig t m s
  | .swStatus t m => Sys2Proof.Machine.execSwStatus t m s
  | .sigMapLoad t m => Sys2Proof.Machine.execSigMapLoad t m s
  | .sigMapCommit t m fate => Sys2Proof.Machine.execSigMapCommit t m fate s
  | .sigRead t m => Sys2Proof.Machine.execSigRead t m s
  | .sigWrite t m => Sys2Proof.Machine.execSigWrite t m s
  | .sigTriggerFire t m => Sys2Proof.Machine.execSigTriggerFire t m s
  | .sigStatus t m => Sys2Proof.Machine.execSigStatus t m s
  | .timeDomainConfig t m => Sys2Proof.Machine.execTimeDomainConfig t m s
  | .timeServoConfig t m => Sys2Proof.Machine.execTimeServoConfig t m s
  | .timeTriggerSet t m => Sys2Proof.Machine.execTimeTriggerSet t m s
  | .timeTriggerClear t m => Sys2Proof.Machine.execTimeTriggerClear t m s
  | .timeCaptureRead t m => Sys2Proof.Machine.execTimeCaptureRead t m s
  | .timeStatus t m => Sys2Proof.Machine.execTimeStatus t m s
  | .audPortConfig t m => Sys2Proof.Machine.execAudPortConfig t m s
  | .audStreamConfig t m => Sys2Proof.Machine.execAudStreamConfig t m s
  | .audRouteSet t m => Sys2Proof.Machine.execAudRouteSet t m s
  | .audZoneConfig t m => Sys2Proof.Machine.execAudZoneConfig t m s
  | .audAnnounceStart t m => Sys2Proof.Machine.execAudAnnounceStart t m s
  | .audAnnounceStop t m => Sys2Proof.Machine.execAudAnnounceStop t m s
  | .audLibraryLoad t m => Sys2Proof.Machine.execAudLibraryLoad t m s
  | .tideQueueConfig t m => Sys2Proof.Machine.execTideQueueConfig t m s
  | .tideQueueReset t m => Sys2Proof.Machine.execTideQueueReset t m s
  | .dmaRingConfig t m => Sys2Proof.Machine.execDmaRingConfig t m s
  | .dmaRingEnable t m => Sys2Proof.Machine.execDmaRingEnable t m s
  | .dmaRingDisable t m => Sys2Proof.Machine.execDmaRingDisable t m s
  | .keyDerive t m => Sys2Proof.Machine.execKeyDerive t m s
  | .keyRevoke t m => Sys2Proof.Machine.execKeyRevoke t m s
  | .keyAttrSet t m => Sys2Proof.Machine.execKeyAttrSet t m s
  | .keyInfo t m => Sys2Proof.Machine.execKeyInfo t m s
  | .keyEnrol t m verified => Sys2Proof.Machine.execKeyEnrol t m verified s
  | .keyTamperConfig t m => Sys2Proof.Machine.execKeyTamperConfig t m s
  | .faultConfig t m => Sys2Proof.Machine.execFaultConfig t m s
  | .faultForce t m => Sys2Proof.Machine.execFaultForce t m s
  | .faultRead t m => Sys2Proof.Machine.execFaultRead t m s
  | .faultClear t m => Sys2Proof.Machine.execFaultClear t m s
  | .twinConfig t m => Sys2Proof.Machine.execTwinConfig t m s
  | .twinEnable t m => Sys2Proof.Machine.execTwinEnable t m s
  | .twinDisable t m => Sys2Proof.Machine.execTwinDisable t m s
  | .twinHandover t m => Sys2Proof.Machine.execTwinHandover t m s
  | .twinStatus t m => Sys2Proof.Machine.execTwinStatus t m s
  | .cwConfig t m => Sys2Proof.Machine.execCwConfig t m s
  | .cwIdSet t m => Sys2Proof.Machine.execCwIdSet t m s
  | .cwTopology t m => Sys2Proof.Machine.execCwTopology t m s
  | .cwRemoteRead t m => Sys2Proof.Machine.execCwRemoteRead t m s
  | .cwRemoteWrite t m => Sys2Proof.Machine.execCwRemoteWrite t m s
  | .cwRemoteLock t m => Sys2Proof.Machine.execCwRemoteLock t m s
  | .wakeFilterSet t m => Sys2Proof.Machine.execWakeFilterSet t m s
  | .sleepConfig t m => Sys2Proof.Machine.execSleepConfig t m s
  | .sleepRequest t m => Sys2Proof.Machine.execSleepRequest t m s
  | .sleepStatus t m => Sys2Proof.Machine.execSleepStatus t m s
  | .updateBegin t m => Sys2Proof.Machine.execUpdateBegin t m s
  | .updateWrite t m => Sys2Proof.Machine.execUpdateWrite t m s
  | .updateFinish t m => Sys2Proof.Machine.execUpdateFinish t m s
  | .updateActivate t m => Sys2Proof.Machine.execUpdateActivate t m s
  | .updateConfirm t m => Sys2Proof.Machine.execUpdateConfirm t m s
  | .updateRevert t m => Sys2Proof.Machine.execUpdateRevert t m s
  | .updateStatus t m => Sys2Proof.Machine.execUpdateStatus t m s
  | .mbxRing t m value => Sys2Proof.Machine.execMbxRing t m value s
  | .mbxAccept t m => Sys2Proof.Machine.execMbxAccept t m s
  | .commandStart t m => Sys2Proof.Machine.execCommandStart t m s
  | .longestTimeExpiry t m => Sys2Proof.Machine.execLongestTimeExpiry t m s
  | .mbxDoneClear t m value => Sys2Proof.Machine.execMbxDoneClear t m value s
  | .mbxAbort t m value firmware => Sys2Proof.Machine.execMbxAbort t m value firmware s
  | .abortWatchdog t m => Sys2Proof.Machine.execAbortWatchdog t m s
  | .commandFirmwareWaitTimeout t m => Sys2Proof.Machine.execCommandFirmwareWaitTimeout t m s
  | .evtLogRelease t value => Sys2Proof.Machine.execEvtLogRelease t value s
  | .evtMaskWrite t k value => Sys2Proof.Machine.execEvtMaskWrite t k value s
  | .msixVectorUnmask t what => Sys2Proof.Machine.execMsixVectorUnmask t what s
  | .registerWrite t bar off data be => Sys2Proof.Machine.execRegisterWrite t bar off data be s
  | .spiWriteTransaction t mosi spare => Sys2Proof.Machine.execSpiWriteTransaction t mosi spare s
  | .spiReadTransaction t mosi late => Sys2Proof.Machine.execSpiReadTransaction t mosi late s
  | .spiStatusRead t => Sys2Proof.Machine.execSpiStatusRead t s
  | .spiTransactionTimeout t => Sys2Proof.Machine.execSpiTransactionTimeout t s
  | .pcieCompletionTimeout t r read => Sys2Proof.Machine.execPcieCompletionTimeout t r read s
  | .perstN t level => Sys2Proof.Machine.execPerstN t level s
  | .tqCurWrite t q value => Sys2Proof.Machine.execTqCurWrite t q value s
  | .tqMarkWrite t q value => Sys2Proof.Machine.execTqMarkWrite t q value s
  | .tqReleaseWrite t q value => Sys2Proof.Machine.execTqReleaseWrite t q value s
  | .tqClearMark t q => Sys2Proof.Machine.execTqClearMark t q s
  | .tqRewind t q => Sys2Proof.Machine.execTqRewind t q s
  | .ringTailWrite t r value => Sys2Proof.Machine.execRingTailWrite t r value s
  | .ciphLockWrite t e value => Sys2Proof.Machine.execCiphLockWrite t e value s
  | .ciphStart t e => Sys2Proof.Machine.execCiphStart t e s
  | .ciphCancel t e => Sys2Proof.Machine.execCiphCancel t e s
  | .ciphInWrite t e value => Sys2Proof.Machine.execCiphInWrite t e value s
  | .ciphOutRelWrite t e value => Sys2Proof.Machine.execCiphOutRelWrite t e value s
  | .ciphJobDone t e => Sys2Proof.Machine.execCiphJobDone t e s
  | .lockIdleRelease t e => Sys2Proof.Machine.execLockIdleRelease t e s
  | .internalEngineClaim t e => Sys2Proof.Machine.execInternalEngineClaim t e s
  | .ingressFrameStart t p frame arrival => Sys2Proof.Machine.execIngressFrameStart t p frame arrival s
  | .graphRewriteDone t => Sys2Proof.Machine.execGraphRewriteDone t s
  | .tableRewriteDone t table index => Sys2Proof.Machine.execTableRewriteDone t table index s
  | .frameAdmission t f => Sys2Proof.Machine.execFrameAdmission t f s
  | .versionExpiry t f => Sys2Proof.Machine.execVersionExpiry t f s
  | .ingressVerdict t f cut => Sys2Proof.Machine.execIngressVerdict t f cut s
  | .learnEventProcess t => Sys2Proof.Machine.execLearnEventProcess t s
  | .l2MoveWindowEnd t entry => Sys2Proof.Machine.execL2MoveWindowEnd t entry s
  | .l2AgeingScan t => Sys2Proof.Machine.execL2AgeingScan t s
  | .egressDequeue t p => Sys2Proof.Machine.execEgressDequeue t p s
  | .cutThroughFcsDue t p bodyShort => Sys2Proof.Machine.execCutThroughFcsDue t p bodyShort s
  | .egressTransmitEnd t p => Sys2Proof.Machine.execEgressTransmitEnd t p s
  | .ageingHeadCheck t egress => Sys2Proof.Machine.execAgeingHeadCheck t egress s
  | .linkDown t p => Sys2Proof.Machine.execLinkDown t p s
  | .linkUp t p => Sys2Proof.Machine.execLinkUp t p s
  | .holdWindowEnd t p => Sys2Proof.Machine.execHoldWindowEnd t p s
  | .speedChanged t p rateMb half => Sys2Proof.Machine.execSpeedChanged t p rateMb half s
  | .remoteFault t p on => Sys2Proof.Machine.execRemoteFault t p on s
  | .pauseReceived t p pause => Sys2Proof.Machine.execPauseReceived t p pause s
  | .pauseExpiry t p => Sys2Proof.Machine.execPauseExpiry t p s
  | .pausedLong t p => Sys2Proof.Machine.execPausedLong t p s
  | .pauseRefresh t p => Sys2Proof.Machine.execPauseRefresh t p s
  | .collision t p late => Sys2Proof.Machine.execCollision t p late s
  | .backoffExpiry t p => Sys2Proof.Machine.execBackoffExpiry t p s
  | .plcaStatusChange t p up => Sys2Proof.Machine.execPlcaStatusChange t p up s
  | .stepDecision t p sentBytes peerBytes => Sys2Proof.Machine.execStepDecision t p sentBytes peerBytes s
  | .stepMessageReceived t p body => Sys2Proof.Machine.execStepMessageReceived t p body s
  | .stepRequestTimeout t p => Sys2Proof.Machine.execStepRequestTimeout t p s
  | .stepRelockDone t p => Sys2Proof.Machine.execStepRelockDone t p s
  | .stepRelockFail t p => Sys2Proof.Machine.execStepRelockFail t p s
  | .stepLinkLoss t p => Sys2Proof.Machine.execStepLinkLoss t p s
  | .busFrameEvaluation t b frame exception parity => Sys2Proof.Machine.execBusFrameEvaluation t b frame exception parity s
  | .busFrameValid t b => Sys2Proof.Machine.execBusFrameValid t b s
  | .busError t b kind asTransmitter acked step => Sys2Proof.Machine.execBusError t b kind asTransmitter acked step s
  | .busArbitrationStart t b lost => Sys2Proof.Machine.execBusArbitrationStart t b lost s
  | .busTxValid t b => Sys2Proof.Machine.execBusTxValid t b s
  | .busRecoveryOccurrence t b => Sys2Proof.Machine.execBusRecoveryOccurrence t b s
  | .stuckDominant t b => Sys2Proof.Machine.execStuckDominant t b s
  | .busIntegrationDone t b => Sys2Proof.Machine.execBusIntegrationDone t b s
  | .busModeEffect t b => Sys2Proof.Machine.execBusModeEffect t b s
  | .drainLimitExpiry t b => Sys2Proof.Machine.execDrainLimitExpiry t b s
  | .sourceFrameCommit t => Sys2Proof.Machine.execSourceFrameCommit t s
  | .signalOverrun t => Sys2Proof.Machine.execSignalOverrun t s
  | .freshnessExpiry t slot => Sys2Proof.Machine.execFreshnessExpiry t slot s
  | .triggerGapEnd t trig => Sys2Proof.Machine.execTriggerGapEnd t trig s
  | .secWaitExpiry t b => Sys2Proof.Machine.execSecWaitExpiry t b s
  | .mapVersionExpiry t => Sys2Proof.Machine.execMapVersionExpiry t s
  | .timeMessageReceived t p message stamp => Sys2Proof.Machine.execTimeMessageReceived t p message stamp s
  | .domainTimeout t d announce => Sys2Proof.Machine.execDomainTimeout t d announce s
  | .referenceLost t => Sys2Proof.Machine.execReferenceLost t s
  | .referenceReturn t => Sys2Proof.Machine.execReferenceReturn t s
  | .followUpTableExpiry t p => Sys2Proof.Machine.execFollowUpTableExpiry t p s
  | .timeTriggerFire t n => Sys2Proof.Machine.execTimeTriggerFire t n s
  | .timeOutPulseEnd t pin => Sys2Proof.Machine.execTimeOutPulseEnd t pin s
  | .timeInCapture t pin rising => Sys2Proof.Machine.execTimeInCapture t pin rising s
  | .tdmNoFrame t a => Sys2Proof.Machine.execTdmNoFrame t a s
  | .audioBlockCompute t => Sys2Proof.Machine.execAudioBlockCompute t s
  | .aafStreamLost t stream => Sys2Proof.Machine.execAafStreamLost t stream s
  | .dmaRxTransfer t r descs fail => Sys2Proof.Machine.execDmaRxTransfer t r descs fail s
  | .rxStarveTimeout t r => Sys2Proof.Machine.execRxStarveTimeout t r s
  | .rxEventTimer t r => Sys2Proof.Machine.execRxEventTimer t r s
  | .dmaTxFrame t r descs data read => Sys2Proof.Machine.execDmaTxFrame t r descs data read s
  | .tideEccScrub t q corrected bad => Sys2Proof.Machine.execTideEccScrub t q corrected bad s
  | .entropyHealthFail t => Sys2Proof.Machine.execEntropyHealthFail t s
  | .tamperAlarm t monitor => Sys2Proof.Machine.execTamperAlarm t monitor s
  | .faultSourceEntry t src target spec => Sys2Proof.Machine.execFaultSourceEntry t src target spec s
  | .faultSourceQuiet t src => Sys2Proof.Machine.execFaultSourceQuiet t src s
  | .brokenPair t src high => Sys2Proof.Machine.execBrokenPair t src high s
  | .arbitrationWindowClose t => Sys2Proof.Machine.execArbitrationWindowClose t s
  | .quietPeriodEnd t src => Sys2Proof.Machine.execQuietPeriodEnd t src s
  | .budgetWindowEnd t src => Sys2Proof.Machine.execBudgetWindowEnd t src s
  | .unitRestartEscalation t island unit => Sys2Proof.Machine.execUnitRestartEscalation t island unit s
  | .faultPersistLatch t src => Sys2Proof.Machine.execFaultPersistLatch t src s
  | .unitRestartDone t island unit => Sys2Proof.Machine.execUnitRestartDone t island unit s
  | .islandRestartDone t island => Sys2Proof.Machine.execIslandRestartDone t island s
  | .handshakeTimeout t near far => Sys2Proof.Machine.execHandshakeTimeout t near far s
  | .channelResetTimeout t channel => Sys2Proof.Machine.execChannelResetTimeout t channel s
  | .glitchStorm t group on => Sys2Proof.Machine.execGlitchStorm t group on s
  | .timerRecalibration t ok => Sys2Proof.Machine.execTimerRecalibration t ok s
  | .mdioTimeout t island => Sys2Proof.Machine.execMdioTimeout t island s
  | .lpddrTrainingTimeout t => Sys2Proof.Machine.execLpddrTrainingTimeout t s
  | .supplyWarning t supply => Sys2Proof.Machine.execSupplyWarning t supply s
  | .brownOut t => Sys2Proof.Machine.execBrownOut t s
  | .powerOn t => Sys2Proof.Machine.execPowerOn t s
  | .resetN t level straps => Sys2Proof.Machine.execResetN t level straps s
  | .pwrEnRetry t => Sys2Proof.Machine.execPwrEnRetry t s
  | .vddAonLoss t => Sys2Proof.Machine.execVddAonLoss t s
  | .jtagInstruction t load => Sys2Proof.Machine.execJtagInstruction t load s
  | .pufRegeneration t result => Sys2Proof.Machine.execPufRegeneration t result s
  | .loaderImageCheck t running staging => Sys2Proof.Machine.execLoaderImageCheck t running staging s
  | .swapPageStep t => Sys2Proof.Machine.execSwapPageStep t s
  | .firmwareStart t => Sys2Proof.Machine.execFirmwareStart t s
  | .firmwareReady t => Sys2Proof.Machine.execFirmwareReady t s
  | .firmwareHeartbeat t => Sys2Proof.Machine.execFirmwareHeartbeat t s
  | .activateReboot t => Sys2Proof.Machine.execActivateReboot t s
  | .updateChunkReceived t body => Sys2Proof.Machine.execUpdateChunkReceived t body s
  | .activationReportSend t => Sys2Proof.Machine.execActivationReportSend t s
  | .activationReportReceived t dev body => Sys2Proof.Machine.execActivationReportReceived t dev body s
  | .actWaitExpiry t => Sys2Proof.Machine.execActWaitExpiry t s
  | .activationOrderReceived t body => Sys2Proof.Machine.execActivationOrderReceived t body s
  | .selfSwapbackTimeout t => Sys2Proof.Machine.execSelfSwapbackTimeout t s
  | .leaseRenewal t => Sys2Proof.Machine.execLeaseRenewal t s
  | .leaseLapse t => Sys2Proof.Machine.execLeaseLapse t s
  | .tokenClaim t => Sys2Proof.Machine.execTokenClaim t s
  | .leaseInChange t reading => Sys2Proof.Machine.execLeaseInChange t reading s
  | .twinHelloSend t => Sys2Proof.Machine.execTwinHelloSend t s
  | .twinHelloReceived t body => Sys2Proof.Machine.execTwinHelloReceived t body s
  | .twinRenewReceived t body => Sys2Proof.Machine.execTwinRenewReceived t body s
  | .twinMirrorReceived t body => Sys2Proof.Machine.execTwinMirrorReceived t body s
  | .twinHealthSend t => Sys2Proof.Machine.execTwinHealthSend t s
  | .twinHealthReceived t body => Sys2Proof.Machine.execTwinHealthReceived t body s
  | .healthReportTimeout t => Sys2Proof.Machine.execHealthReportTimeout t s
  | .twinHandoverReceived t => Sys2Proof.Machine.execTwinHandoverReceived t s
  | .handoverBusesIdle t => Sys2Proof.Machine.execHandoverBusesIdle t s
  | .twinResyncReceived t body => Sys2Proof.Machine.execTwinResyncReceived t body s
  | .twinTsyncSend t => Sys2Proof.Machine.execTwinTsyncSend t s
  | .twinTsyncReceived t body => Sys2Proof.Machine.execTwinTsyncReceived t body s
  | .twinLinkDown t => Sys2Proof.Machine.execTwinLinkDown t s
  | .shadowTimeout t b => Sys2Proof.Machine.execShadowTimeout t b s
  | .bistSlice t pass => Sys2Proof.Machine.execBistSlice t pass s
  | .causewayFrameReceive t p frame arrival => Sys2Proof.Machine.execCausewayFrameReceive t p frame arrival s
  | .cwHelloSend t p => Sys2Proof.Machine.execCwHelloSend t p s
  | .cwHelloReceived t p body => Sys2Proof.Machine.execCwHelloReceived t p body s
  | .cwEngineClaim t p => Sys2Proof.Machine.execCwEngineClaim t p s
  | .neighbourLost t p => Sys2Proof.Machine.execNeighbourLost t p s
  | .topologySend t => Sys2Proof.Machine.execTopologySend t s
  | .topologyReceived t p body => Sys2Proof.Machine.execTopologyReceived t p body s
  | .deviceUnheard t id => Sys2Proof.Machine.execDeviceUnheard t id s
  | .remoteRequestReceived t dev body => Sys2Proof.Machine.execRemoteRequestReceived t dev body s
  | .remoteCompletionReceived t dev body => Sys2Proof.Machine.execRemoteCompletionReceived t dev body s
  | .remoteTimeout t m => Sys2Proof.Machine.execRemoteTimeout t m s
  | .remoteCacheExpiry t => Sys2Proof.Machine.execRemoteCacheExpiry t s
  | .lockRequestReceived t dev body => Sys2Proof.Machine.execLockRequestReceived t dev body s
  | .lockGrantReceived t dev body => Sys2Proof.Machine.execLockGrantReceived t dev body s
  | .writeAndUnlockReceived t dev body => Sys2Proof.Machine.execWriteAndUnlockReceived t dev body s
  | .lockRetryReceived t dev body => Sys2Proof.Machine.execLockRetryReceived t dev body s
  | .lockBackoffExpiry t m => Sys2Proof.Machine.execLockBackoffExpiry t m s
  | .farLockExpiry t => Sys2Proof.Machine.execFarLockExpiry t s
  | .cwEventReceived t dev body => Sys2Proof.Machine.execCwEventReceived t dev body s
  | .peerCommandReceived t body => Sys2Proof.Machine.execPeerCommandReceived t body s
  | .consentLapStart t => Sys2Proof.Machine.execConsentLapStart t s
  | .busLapMessageReceived t b body => Sys2Proof.Machine.execBusLapMessageReceived t b body s
  | .nodeSlotTimeout t b => Sys2Proof.Machine.execNodeSlotTimeout t b s
  | .deviceLapReceived t dev body => Sys2Proof.Machine.execDeviceLapReceived t dev body s
  | .lapTimeout t => Sys2Proof.Machine.execLapTimeout t s
  | .sleepCancelReceived t dev body => Sys2Proof.Machine.execSleepCancelReceived t dev body s
  | .wakeRequest t stim => Sys2Proof.Machine.execWakeRequest t stim s
  | .sleepSettle t => Sys2Proof.Machine.execSleepSettle t s
  | .sleepPowerOff t => Sys2Proof.Machine.execSleepPowerOff t s
  | .wakeSource t stims => Sys2Proof.Machine.execWakeSource t stims s
  | .ringLost t => Sys2Proof.Machine.execRingLost t s
  | .falseWakeCheck t => Sys2Proof.Machine.execFalseWakeCheck t s
  | .pcieLinkStateChange t width speed up => Sys2Proof.Machine.execPcieLinkStateChange t width speed up s
  | .pathDelayRequestSend t d => Sys2Proof.Machine.execPathDelayRequestSend t d s
  | .slewEnd t => Sys2Proof.Machine.execSlewEnd t s
  | .brokenPairRestored t src => Sys2Proof.Machine.execBrokenPairRestored t src s
  | .coreSupplyInRange t => Sys2Proof.Machine.execCoreSupplyInRange t s
  | .safeStateOutputRelease t => Sys2Proof.Machine.execSafeStateOutputRelease t s
  | .twinSleepCommitReceived t body => Sys2Proof.Machine.execTwinSleepCommitReceived t body s

end Sys2Proof.Machine
end

