-- ==== Sys2Proof/WellFormed.lean ====
section
/-! DEFINITION. Well-formed commands: operands that the outside can present. -/

namespace Sys2Proof

/-- The size of an address space that a register write names: BAR0, BAR2 (R61), or the configuration space, which has
the number 0xFF in this model (log entry 21). -/
def barSize (bar : Nat) : Nat :=
  if bar = 0 then 0x10000 else if bar = 2 then 0x800000 else if bar = 0xFF then 0x1000 else 0

/-- A bus frame that ISO 11898-1 can carry: 0 classical, 1 FD, 2 XL (R104, R122). -/
def BusFrame.wf (f : BusFrame) : Bool :=
  decide (f.kind ≤ 2) && decide (f.id < if f.xtd then 2 ^ 29 else 2 ^ 11) &&
    decide (f.data.length ≤ if f.kind = 0 then 8 else if f.kind = 1 then 64 else 2048) &&
    (!f.remote || (f.kind == 0 && f.data.isEmpty))

/-- Entries of lookup tables whose parity check fails at this command: a table number and an index. -/
def parityWf (l : List (Nat × Nat)) : Bool := l.all fun x => decide (x.1 ≤ 9)

/-- The units of an island (R619). -/
def islandUnits (i : Nat) : Nat := [42, 41, 12, 2, 12, 12, 7].getD i 0

/-- A device that a causeway message can come from (R519). -/
def devWf (d : Nat) : Bool := decide (1 ≤ d) && decide (d ≤ 254)

/-- What a partner may answer: the statuses of R92, a unit that exists. -/
def Partner.wf : Partner → Bool
  | .ready => true
  | .refused st _ => [3, 4, 8, 9].contains st
  | .silent => true
  | .faulted i u fs => decide (i ≤ 6) && decide (u < islandUnits i) && decide (fs < 65536)

/-- What a wake detector can see. -/
def WakeStim.wf : WakeStim → Bool
  | .busFrame _ f dlc => f.wf && decide (dlc ≤ 15)
  | .busError _ => true
  | .busWakeUp _ => true
  | .ethFrame _ _ _ => true
  | .segment _ _ => true
  | .spiSelect _ => true
  | .alarm => true
  | .leaseChange _ => true

/-- A command is well-formed: each operand is one that the spec's hardware can be given. Operands whose type already
says so need no check. -/
def Instr.wf : Instr → Bool
  | .registerWrite _ bar off data be =>
    decide (0 < barSize bar) && decide (off + data.length ≤ barSize bar) && decide (be < 16)
  | .ruleCommit _ _ fate => fate.stuck.all [128, 130].contains && fate.partner.wf
  | .sigMapCommit _ _ fate => fate.stuck.all [134, 192].contains && fate.partner.wf
  | .ingressFrameStart _ _ _ x => parityWf x.parity
  | .causewayFrameReceive _ _ _ x => parityWf x.parity
  | .busFrameEvaluation _ _ f _ parity => f.wf && parityWf parity
  | .busError _ _ kind tx _ step => (step != .arbStuff || (kind == .stuff && tx)) && (step != .flagBit || kind == .bit)
  | .speedChanged _ _ rate _ => [10, 100, 1000, 2500, 5000, 10000].contains rate
  | .pauseReceived _ _ x => x.dst.length == 6 && decide (x.quanta ≤ 65535)
  | .freshnessExpiry _ slot => decide (slot ≤ 131071)
  | .dmaRxTransfer _ _ descs _ => descs.length % 16 == 0
  | .dmaTxFrame _ _ descs _ x => descs.length % 16 == 0 && parityWf x.parity
  | .unitRestartEscalation _ i u => decide (u.val < islandUnits i)
  | .unitRestartDone _ i u => decide (u.val < islandUnits i)
  | .supplyWarning _ n => decide (n < 13)
  | .resetN _ _ straps => decide (straps < 16)
  | .pufRegeneration _ x => decide (x.sets < 4)
  | .activationReportReceived _ d _ => devWf d
  | .remoteRequestReceived _ d _ => devWf d
  | .remoteCompletionReceived _ d _ => devWf d
  | .lockRequestReceived _ d _ => devWf d
  | .lockGrantReceived _ d _ => devWf d
  | .writeAndUnlockReceived _ d _ => devWf d
  | .lockRetryReceived _ d _ => devWf d
  | .cwEventReceived _ d _ => devWf d
  | .deviceLapReceived _ d _ => devWf d
  | .sleepCancelReceived _ d _ => devWf d
  | .wakeRequest _ w => w.wf
  | .wakeSource _ l => l.all WakeStim.wf
  | .pcieLinkStateChange _ width speed _ => decide (width ≤ 2) && decide (speed ≤ 3)
  | .devIdentify _ _ => true
  | .devState _ _ => true
  | .devConfig _ _ => true
  | .devSnap _ _ => true
  | .devSnapClear _ _ => true
  | .devRestart _ _ => true
  | .devSafe _ _ => true
  | .ethConfig _ _ => true
  | .ethEnable _ _ => true
  | .ethDisable _ _ => true
  | .ethStatus _ _ => true
  | .ethPauseConfig _ _ => true
  | .ethWakePattern _ _ => true
  | .ethStepdownConfig _ _ => true
  | .busConfig _ _ => true
  | .busEnable _ _ => true
  | .busDisable _ _ => true
  | .busFilterLoad _ _ => true
  | .busRecover _ _ => true
  | .busMode _ _ => true
  | .busStatus _ _ => true
  | .parseGraphLoad _ _ => true
  | .parseSelect _ _ => true
  | .ruleStage _ _ => true
  | .ruleStatus _ _ => true
  | .policerConfig _ _ => true
  | .tblRouteAdd _ _ => true
  | .tblRouteDel _ _ => true
  | .tblL2Config _ _ => true
  | .tblL2Flush _ _ => true
  | .tblDirectWrite _ _ => true
  | .tblRead _ _ => true
  | .swPoolConfig _ _ => true
  | .swClassConfig _ _ => true
  | .swPortConfig _ _ => true
  | .swSchedConfig _ _ => true
  | .swStatus _ _ => true
  | .sigMapLoad _ _ => true
  | .sigRead _ _ => true
  | .sigWrite _ _ => true
  | .sigTriggerFire _ _ => true
  | .sigStatus _ _ => true
  | .timeDomainConfig _ _ => true
  | .timeServoConfig _ _ => true
  | .timeTriggerSet _ _ => true
  | .timeTriggerClear _ _ => true
  | .timeCaptureRead _ _ => true
  | .timeStatus _ _ => true
  | .audPortConfig _ _ => true
  | .audStreamConfig _ _ => true
  | .audRouteSet _ _ => true
  | .audZoneConfig _ _ => true
  | .audAnnounceStart _ _ => true
  | .audAnnounceStop _ _ => true
  | .audLibraryLoad _ _ => true
  | .tideQueueConfig _ _ => true
  | .tideQueueReset _ _ => true
  | .dmaRingConfig _ _ => true
  | .dmaRingEnable _ _ => true
  | .dmaRingDisable _ _ => true
  | .keyDerive _ _ => true
  | .keyRevoke _ _ => true
  | .keyAttrSet _ _ => true
  | .keyInfo _ _ => true
  | .keyEnrol _ _ _ => true
  | .keyTamperConfig _ _ => true
  | .faultConfig _ _ => true
  | .faultForce _ _ => true
  | .faultRead _ _ => true
  | .faultClear _ _ => true
  | .twinConfig _ _ => true
  | .twinEnable _ _ => true
  | .twinDisable _ _ => true
  | .twinHandover _ _ => true
  | .twinStatus _ _ => true
  | .cwConfig _ _ => true
  | .cwIdSet _ _ => true
  | .cwTopology _ _ => true
  | .cwRemoteRead _ _ => true
  | .cwRemoteWrite _ _ => true
  | .cwRemoteLock _ _ => true
  | .wakeFilterSet _ _ => true
  | .sleepConfig _ _ => true
  | .sleepRequest _ _ => true
  | .sleepStatus _ _ => true
  | .updateBegin _ _ => true
  | .updateWrite _ _ => true
  | .updateFinish _ _ => true
  | .updateActivate _ _ => true
  | .updateConfirm _ _ => true
  | .updateRevert _ _ => true
  | .updateStatus _ _ => true
  | .mbxRing _ _ _ => true
  | .mbxAccept _ _ => true
  | .commandStart _ _ => true
  | .longestTimeExpiry _ _ => true
  | .mbxDoneClear _ _ _ => true
  | .mbxAbort _ _ _ _ => true
  | .abortWatchdog _ _ => true
  | .commandFirmwareWaitTimeout _ _ => true
  | .evtLogRelease _ _ => true
  | .evtMaskWrite _ _ _ => true
  | .msixVectorUnmask _ _ => true
  | .spiWriteTransaction _ _ _ => true
  | .spiReadTransaction _ _ _ => true
  | .spiStatusRead _ => true
  | .spiTransactionTimeout _ => true
  | .pcieCompletionTimeout _ _ x => x.descs.length % 16 == 0
  | .perstN _ _ => true
  | .tqCurWrite _ _ _ => true
  | .tqMarkWrite _ _ _ => true
  | .tqReleaseWrite _ _ _ => true
  | .tqClearMark _ _ => true
  | .tqRewind _ _ => true
  | .ringTailWrite _ _ _ => true
  | .ciphLockWrite _ _ _ => true
  | .ciphStart _ _ => true
  | .ciphCancel _ _ => true
  | .ciphInWrite _ _ _ => true
  | .ciphOutRelWrite _ _ _ => true
  | .ciphJobDone _ _ => true
  | .lockIdleRelease _ _ => true
  | .internalEngineClaim _ _ => true
  | .graphRewriteDone _ => true
  | .tableRewriteDone _ _ _ => true
  | .frameAdmission _ _ => true
  | .versionExpiry _ _ => true
  | .ingressVerdict _ _ _ => true
  | .learnEventProcess _ => true
  | .l2MoveWindowEnd _ _ => true
  | .l2AgeingScan _ => true
  | .egressDequeue _ _ => true
  | .cutThroughFcsDue _ _ _ => true
  | .egressTransmitEnd _ _ => true
  | .ageingHeadCheck _ _ => true
  | .linkDown _ _ => true
  | .linkUp _ _ => true
  | .holdWindowEnd _ _ => true
  | .remoteFault _ _ _ => true
  | .pauseExpiry _ _ => true
  | .pausedLong _ _ => true
  | .pauseRefresh _ _ => true
  | .collision _ _ _ => true
  | .backoffExpiry _ _ => true
  | .plcaStatusChange _ _ _ => true
  | .stepDecision _ _ _ _ => true
  | .stepMessageReceived _ _ _ => true
  | .stepRequestTimeout _ _ => true
  | .stepRelockDone _ _ => true
  | .stepRelockFail _ _ => true
  | .stepLinkLoss _ _ => true
  | .busFrameValid _ _ => true
  | .busArbitrationStart _ _ _ => true
  | .busTxValid _ _ => true
  | .busRecoveryOccurrence _ _ => true
  | .stuckDominant _ _ => true
  | .busIntegrationDone _ _ => true
  | .busModeEffect _ _ => true
  | .drainLimitExpiry _ _ => true
  | .sourceFrameCommit _ => true
  | .signalOverrun _ => true
  | .triggerGapEnd _ _ => true
  | .secWaitExpiry _ _ => true
  | .mapVersionExpiry _ => true
  | .timeMessageReceived _ _ _ _ => true
  | .domainTimeout _ _ _ => true
  | .referenceLost _ => true
  | .referenceReturn _ => true
  | .followUpTableExpiry _ _ => true
  | .timeTriggerFire _ _ => true
  | .timeOutPulseEnd _ _ => true
  | .timeInCapture _ _ _ => true
  | .tdmNoFrame _ _ => true
  | .audioBlockCompute _ => true
  | .aafStreamLost _ _ => true
  | .rxStarveTimeout _ _ => true
  | .rxEventTimer _ _ => true
  | .tideEccScrub _ _ _ _ => true
  | .entropyHealthFail _ => true
  | .tamperAlarm _ _ => true
  | .faultSourceEntry _ _ _ _ => true
  | .faultSourceQuiet _ _ => true
  | .brokenPair _ _ _ => true
  | .arbitrationWindowClose _ => true
  | .quietPeriodEnd _ _ => true
  | .budgetWindowEnd _ _ => true
  | .faultPersistLatch _ _ => true
  | .islandRestartDone _ _ => true
  | .handshakeTimeout _ _ _ => true
  | .channelResetTimeout _ _ => true
  | .brownOut _ => true
  | .glitchStorm _ _ _ => true
  | .timerRecalibration _ _ => true
  | .mdioTimeout _ _ => true
  | .lpddrTrainingTimeout _ => true
  | .powerOn _ => true
  | .pwrEnRetry _ => true
  | .vddAonLoss _ => true
  | .jtagInstruction _ _ => true
  | .loaderImageCheck _ _ _ => true
  | .swapPageStep _ => true
  | .firmwareStart _ => true
  | .firmwareReady _ => true
  | .firmwareHeartbeat _ => true
  | .activateReboot _ => true
  | .updateChunkReceived _ _ => true
  | .activationReportSend _ => true
  | .actWaitExpiry _ => true
  | .activationOrderReceived _ _ => true
  | .selfSwapbackTimeout _ => true
  | .leaseRenewal _ => true
  | .leaseLapse _ => true
  | .tokenClaim _ => true
  | .leaseInChange _ _ => true
  | .twinHelloSend _ => true
  | .twinHelloReceived _ _ => true
  | .twinRenewReceived _ _ => true
  | .twinMirrorReceived _ _ => true
  | .twinHealthSend _ => true
  | .twinHealthReceived _ _ => true
  | .healthReportTimeout _ => true
  | .twinHandoverReceived _ => true
  | .handoverBusesIdle _ => true
  | .twinResyncReceived _ _ => true
  | .twinTsyncSend _ => true
  | .twinTsyncReceived _ _ => true
  | .twinLinkDown _ => true
  | .shadowTimeout _ _ => true
  | .bistSlice _ _ => true
  | .cwHelloSend _ _ => true
  | .cwHelloReceived _ _ _ => true
  | .cwEngineClaim _ _ => true
  | .neighbourLost _ _ => true
  | .topologySend _ => true
  | .topologyReceived _ _ _ => true
  | .deviceUnheard _ _ => true
  | .remoteTimeout _ _ => true
  | .remoteCacheExpiry _ => true
  | .lockBackoffExpiry _ _ => true
  | .farLockExpiry _ => true
  | .peerCommandReceived _ _ => true
  | .consentLapStart _ => true
  | .busLapMessageReceived _ _ _ => true
  | .nodeSlotTimeout _ _ => true
  | .lapTimeout _ => true
  | .sleepSettle _ => true
  | .sleepPowerOff _ => true
  | .ringLost _ => true
  | .falseWakeCheck _ => true
  | .pathDelayRequestSend _ _ => true
  | .slewEnd _ => true
  | .brokenPairRestored _ _ => true
  | .coreSupplyInRange _ => true
  | .safeStateOutputRelease _ => true
  | .twinSleepCommitReceived _ _ => true

end Sys2Proof
end

