-- ==== Sys2Proof/Safety.lean ====
section
/-! DEFINITION. What a safe run is: no command stops the device, and what always holds of its state. -/

namespace Sys2Proof.Machine

open Sys2Proof

/-- A step stops: it faults or it is refused. -/
def Stops (s : State) : Prop :=
  match step s with
  | .next _ => False
  | .fault _ => True
  | .refused _ => True

/-- What every step keeps: the windows are in their canonical form (R75, log entry 5), and every command that waits is
well-formed. -/
def State.inv (s : State) : Bool := Memory.wf s.windows && s.pending.all Instr.wf

/-- The areas of the state. Every field of `State` lies in one of them, but for the queue, the instant, the free values
drawn and what has been sent, of which every command's next state is accounted for apart. -/
inductive Area where
  /-- The windows of BAR2 (R75). -/
  | windows
  /-- The host interface: link, vectors, masks, configuration space, SPI, all but `events` (R60 to R79). -/
  | host
  /-- The event log, the status bits, the pending vectors (R63, R78, R79). -/
  | events
  /-- The mailboxes (R82) and the order in which they were accepted. -/
  | mbx
  /-- The islands (R17 to R24). -/
  | islands
  /-- The channels of the strait fabric (R18, R20). -/
  | chans
  /-- The units (R468). -/
  | units
  /-- The counters (R21, R594). -/
  | ctrs
  /-- The Ethernet ports with their parsers, queues and steps, all but `links`. -/
  | eth
  /-- The counter of sealed frames of each causeway port, and the messages of this device that wait there. -/
  | links
  /-- The bus controllers. -/
  | buses
  /-- Parse graphs, rules, policers. -/
  | parse
  /-- The tables. -/
  | tbl
  /-- The switch core: frames, messages, pool. -/
  | sw
  /-- The signal engine. -/
  | sig
  /-- The time unit. -/
  | time
  /-- The audio router. -/
  | aud
  /-- Tide queues and rings. -/
  | tide
  /-- Key store, engines, tamper inputs. -/
  | sec
  /-- The fault collector. -/
  | flt
  /-- The twin. -/
  | twin
  /-- The causeway: identity, peers, remote access. -/
  | cw
  /-- Sleep and wake. -/
  | slp
  /-- Supplies, straps, start, update. -/
  | boot
  deriving DecidableEq, Repr

/-- All areas. -/
def Area.all : List Area := [.windows, .host, .events, .mbx, .islands, .chans, .units, .ctrs, .eth, .links, .buses, .parse, .tbl,
  .sw, .sig, .time, .aud, .tide, .sec, .flt, .twin, .cw, .slp, .boot]

/-- All areas but those of a list. -/
def Area.but (l : List Area) : List Area := Area.all.filter fun x => !l.contains x

/-- What the occurrence of an event moves: the log and status bits, counters, the message to the master, sent or waiting at
its port (R78, R79, R531). -/
def Area.told : List Area := [.events, .ctrs, .links]

/-- The areas of a list, and what the occurrence of an event moves. -/
def Area.telling (l : List Area) : List Area := Area.told ++ l

/-- An area stands as it was. -/
def Area.same (x : Area) (a b : State) : Prop :=
  match x with
  | .windows => b.windows = a.windows
  | .host => b.host = { a.host with
      evtStatus := b.host.evtStatus, evtSetAt := b.host.evtSetAt, evtLogWr := b.host.evtLogWr
      evtLogFull := b.host.evtLogFull, evtLogLost := b.host.evtLogLost, log := b.host.log, msix := { a.host.msix with pend := b.host.msix.pend } }
  | .events => b.host.evtStatus = a.host.evtStatus ∧ b.host.evtSetAt = a.host.evtSetAt ∧
      b.host.evtLogWr = a.host.evtLogWr ∧
      b.host.evtLogFull = a.host.evtLogFull ∧ b.host.evtLogLost = a.host.evtLogLost ∧ b.host.log = a.host.log ∧
      b.host.msix.pend = a.host.msix.pend
  | .mbx => b.mbx = a.mbx ∧ b.mbxOrder = a.mbxOrder
  | .islands => b.islands = a.islands
  | .chans => b.chans = a.chans
  | .units => b.units = a.units
  | .ctrs => b.ctrs = a.ctrs
  | .eth => ∀ p, b.port p = { a.port p with cw := { (a.port p).cw with
      linkTx := (b.port p).cw.linkTx, waiting := (b.port p).cw.waiting } }
  | .links => ∀ p, (b.port p).cw.linkTx = (a.port p).cw.linkTx ∧ (b.port p).cw.waiting = (a.port p).cw.waiting
  | .buses => b.buses = a.buses
  | .parse => b.parse = a.parse
  | .tbl => b.tbl = a.tbl
  | .sw => b.sw = a.sw
  | .sig => b.sig = a.sig
  | .time => b.time = a.time
  | .aud => b.aud = a.aud
  | .tide => b.tide = a.tide
  | .sec => b.sec = a.sec
  | .flt => b.flt = a.flt
  | .twin => b.twin = a.twin
  | .cw => b.cw = a.cw
  | .slp => b.slp = a.slp
  | .boot => b.boot = a.boot

/-- What an occurrence leaves as it was: every part of the device but the event registers, the counters, what has been
sent, the free values drawn, and the counter of sealed frames and the waiting messages of the causeway port that the message
to the master takes. -/
structure Tells (a b : State) : Prop where
  /-- `pending` stands. -/
  pending : b.pending = a.pending
  /-- `now` stands. -/
  now : b.now = a.now
  /-- `windows` stands. -/
  windows : b.windows = a.windows
  /-- `mbx` stands. -/
  mbx : b.mbx = a.mbx
  /-- `mbxOrder` stands. -/
  mbxOrder : b.mbxOrder = a.mbxOrder
  /-- `islands` stands. -/
  islands : b.islands = a.islands
  /-- `chans` stands. -/
  chans : b.chans = a.chans
  /-- `units` stands. -/
  units : b.units = a.units
  /-- `buses` stands. -/
  buses : b.buses = a.buses
  /-- `parse` stands. -/
  parse : b.parse = a.parse
  /-- `tbl` stands. -/
  tbl : b.tbl = a.tbl
  /-- `sw` stands. -/
  sw : b.sw = a.sw
  /-- `sig` stands. -/
  sig : b.sig = a.sig
  /-- `time` stands. -/
  time : b.time = a.time
  /-- `aud` stands. -/
  aud : b.aud = a.aud
  /-- `tide` stands. -/
  tide : b.tide = a.tide
  /-- `sec` stands. -/
  sec : b.sec = a.sec
  /-- `flt` stands. -/
  flt : b.flt = a.flt
  /-- `twin` stands. -/
  twin : b.twin = a.twin
  /-- `cw` stands. -/
  cw : b.cw = a.cw
  /-- `slp` stands. -/
  slp : b.slp = a.slp
  /-- `boot` stands. -/
  boot : b.boot = a.boot
  /-- Of a port, only the link counter and the waiting messages may move. -/
  port : ∀ p, b.port p = { a.port p with cw := { (a.port p).cw with
      linkTx := (b.port p).cw.linkTx, waiting := (b.port p).cw.waiting } }
  /-- Of the host interface, only the log, the status bits and the pending vectors may move. -/
  host : b.host = { a.host with
    evtStatus := b.host.evtStatus, evtSetAt := b.host.evtSetAt, evtLogWr := b.host.evtLogWr
    evtLogFull := b.host.evtLogFull, evtLogLost := b.host.evtLogLost, log := b.host.log, msix := { a.host.msix with pend := b.host.msix.pend } }
  /-- No status bit falls. -/
  rises : ∀ k, a.host.evtStatus.getLsbD k = true → b.host.evtStatus.getLsbD k = true
  /-- What has been sent stays sent. -/
  sent : a.sent <:+ b.sent

/-- A mailbox after its final response (R86 step 6). -/
def Mbx.ended (b : Mbx) (r : Reply) (now : Nat) : Mbx := { b with
  resp := respBytes b.tagCode.1 b.tagCode.2 r false, done := true, mstate := 4, setAt := b.setAt.set 0 now
  running := false, deferred := false, committed := false, prepared := false, waiting := [], abortAt := none
  stopping := false, req := none, aux := [] }

/-- The state that an answer from a mailbox leaves, but for what an occurrence of an event may move: the payload in the
window, the mailbox ended, all else as it was (R84, R86 step 6), but for the reset that a committed activation counts from
here (R577). -/
def State.answered (s : State) (m : Nat) (r : Reply) : State :=
  let a := if (s.mb m).committed then s.rebootClock (s.mb m).req else s
  (a.setWindow (4096 * m) r.payload).modMb m fun _ => (s.mb m).ended r a.now

/-- The host has placed a request in a mailbox, and firmware is to run it now: accepted, executing, not yet begun
(R86 step 4). -/
def Ready (s : State) (t m code : Nat) (r : Req) : Prop :=
  ((s.tick t).mb m).req = some r ∧ ((s.tick t).mb m).mstate = 1 ∧ ((s.tick t).mb m).running = false ∧ r.code = code ∧
    (s.tick t).fwUp = true ∧ (s.tick t).functionCheck r = none

end Sys2Proof.Machine
end

