-- ==== Sys2Proof/Certificates/Slice0/Obligations.lean ====
section
/-! DEFINITION. The statements for the provers. -/

namespace Sys2Proof.Machine

open Sys2Proof

/-- A command that is checked, takes effect and answers at once: what runs it, its code, its check, its effect. -/
structure CmdForm where
  /-- The command of a mailbox. -/
  make : Nat → Fin 8 → Instr
  /-- Group and operation (R98, R99). -/
  code : Nat
  /-- The failing answer, if any. -/
  check : State → List Byte → Check
  /-- The effect and the answer. -/
  effect : State → List Byte → State × Reply

/-- A command that only reads: what runs it, its code, its check, its answer. -/
structure QueryForm where
  /-- The command of a mailbox. -/
  make : Nat → Fin 8 → Instr
  /-- Group and operation (R98, R99). -/
  code : Nat
  /-- The failing answer, if any. -/
  check : State → List Byte → Check
  /-- What it answers. -/
  answer : State → List Byte → Reply

/-- A command that is checked and starts its effect. -/
structure StartForm where
  /-- The command of a mailbox. -/
  make : Nat → Fin 8 → Instr
  /-- Group and operation (R98, R99). -/
  code : Nat
  /-- The failing answer, if any. -/
  check : State → List Byte → Check
  /-- What begins, in the mailbox that runs it. -/
  start : Nat → State → List Byte → State

/-- Whose completion is shown: the command runs where it is `Ready`. A request that a check refuses changes nothing
but its mailbox's answer; one that passes has its effect, and the mailbox answers in the state that the effect leaves.
The answer itself moves only what an occurrence moves. -/
def CmdForm.Runs (f : CmdForm) : Prop :=
  ∀ (s : State) (t : Nat) (m : Fin 8) (r : Req), Ready s t m f.code r →
    (∀ x, f.check (s.tick t) r.payload = some x → (s.tick t).cw.peerIn.contains m.val = false →
      ∃ u : State, exec (f.make t m) s = .next u ∧ Tells ((s.tick t).answered m x) u) ∧
    (f.check (s.tick t) r.payload = none → ∃ u : State, exec (f.make t m) s = .next u ∧
      u = (f.effect (s.tick t) r.payload).1.complete m (f.effect (s.tick t) r.payload).2 ∧
      ((f.effect (s.tick t) r.payload).1.cw.peerIn.contains m.val = false →
        Tells ((f.effect (s.tick t) r.payload).1.answered m (f.effect (s.tick t) r.payload).2) u))

/-- A command that only reads: whatever it answers, nothing but the answer changes. -/
def QueryForm.Runs (f : QueryForm) : Prop :=
  ∀ (s : State) (t : Nat) (m : Fin 8) (r : Req), Ready s t m f.code r → (s.tick t).cw.peerIn.contains m.val = false →
    (∀ x, f.check (s.tick t) r.payload = some x →
      ∃ u : State, exec (f.make t m) s = .next u ∧ Tells ((s.tick t).answered m x) u) ∧
    (f.check (s.tick t) r.payload = none →
      ∃ u : State, exec (f.make t m) s = .next u ∧ Tells ((s.tick t).answered m (f.answer (s.tick t) r.payload)) u)

/-- A command that starts its effect: refused as the others are, or begun with its mailbox marked as running. -/
def StartForm.Runs (f : StartForm) : Prop :=
  ∀ (s : State) (t : Nat) (m : Fin 8) (r : Req), Ready s t m f.code r →
    (∀ x, f.check (s.tick t) r.payload = some x → (s.tick t).cw.peerIn.contains m.val = false →
      ∃ u : State, exec (f.make t m) s = .next u ∧ Tells ((s.tick t).answered m x) u) ∧
    (f.check (s.tick t) r.payload = none →
      exec (f.make t m) s =
        .next (f.start m ((s.tick t).modMb m fun b => { b with running := true }) r.payload))

/-- A command that is checked, takes effect and answers at once, where what else happens at its instant comes before it or
after it. -/
structure InstantForm extends CmdForm where
  /-- What comes before it at its instant. -/
  before : State → Nat → State
  /-- What ends its instant. -/
  after : State → State

/-- Whose completion is shown: as a `CmdForm`, between what comes before it and what ends its instant. -/
def InstantForm.Runs (f : InstantForm) : Prop :=
  ∀ (s : State) (t : Nat) (m : Fin 8) (r : Req), Ready (f.before s t) t m f.code r → let a := (f.before s t).tick t
    (∀ x, f.check a r.payload = some x → a.cw.peerIn.contains m.val = false →
      ∃ u : State, exec (f.make t m) s = .next (f.after u) ∧ Tells (a.answered m x) u) ∧
    (f.check a r.payload = none → ∃ u : State, exec (f.make t m) s = .next (f.after u) ∧
      u = (f.effect a r.payload).1.complete m (f.effect a r.payload).2 ∧
      ((f.effect a r.payload).1.cw.peerIn.contains m.val = false →
        Tells ((f.effect a r.payload).1.answered m (f.effect a r.payload).2) u))

/-- Commands that are checked, take effect and answer at once:
Ethernet ports and bus controllers, groups 0x02 and 0x03 (R143, R184). -/
def portForms : List CmdForm := [
  ⟨.ethConfig, 0x0201, checkEthConfig, effectEthConfig⟩,
  ⟨.ethPauseConfig, 0x0205, checkEthPauseConfig, effectEthPauseConfig⟩,
  ⟨.ethWakePattern, 0x0206, checkEthWakePattern, effectEthWakePattern⟩,
  ⟨.ethStepdownConfig, 0x0207, checkEthStepdownConfig, effectEthStepdownConfig⟩,
  ⟨.busConfig, 0x0301, checkBusConfig, effectBusConfig⟩,
  ⟨.busEnable, 0x0302, checkBusEnable, effectBusEnable⟩,
  ⟨.busFilterLoad, 0x0304, checkBusFilterLoad, effectBusFilterLoad⟩,
  ⟨.busRecover, 0x0305, checkBusByte, effectBusRecover⟩,
  ⟨.busMode, 0x0306, checkBusMode, effectBusMode⟩]

/-- Commands that are checked, take effect and answer at once:
parser, tables and switch core, groups 0x04 to 0x06 (R219, R249, R287). -/
def forwardForms : List CmdForm := [
  ⟨.parseGraphLoad, 0x0401, checkParseGraphLoad, effectParseGraphLoad⟩,
  ⟨.parseSelect, 0x0402, checkParseSelect, effectParseSelect⟩,
  ⟨.ruleStage, 0x0403, checkRuleStage, effectRuleStage⟩,
  ⟨.policerConfig, 0x0406, checkPolicerConfig, effectPolicerConfig⟩,
  ⟨.tblRouteAdd, 0x0501, (fun _ p => routeLayout p true), effectTblRouteAdd⟩,
  ⟨.tblRouteDel, 0x0502, (fun _ p => routeLayout p false), effectTblRouteDel⟩,
  ⟨.tblL2Config, 0x0503, checkTblL2Config, effectTblL2Config⟩,
  ⟨.tblL2Flush, 0x0504, checkTblL2Flush, effectTblL2Flush⟩,
  ⟨.tblDirectWrite, 0x0505, checkTblDirectWrite, effectTblDirectWrite⟩,
  ⟨.swPoolConfig, 0x0601, checkSwPoolConfig, effectSwPoolConfig⟩,
  ⟨.swClassConfig, 0x0602, checkSwClassConfig, effectSwClassConfig⟩,
  ⟨.swPortConfig, 0x0603, checkSwPortConfig, effectSwPortConfig⟩,
  ⟨.swSchedConfig, 0x0604, checkSwSchedConfig, effectSwSchedConfig⟩]

/-- Commands that are checked, take effect and answer at once:
signal engine, time unit and audio router, groups 0x07 to 0x09 (R337, R368, R391). -/
def mediaForms : List CmdForm := [
  ⟨.sigMapLoad, 0x0701, checkSigMapLoad, effectSigMapLoad⟩,
  ⟨.timeServoConfig, 0x0802, checkTimeServoConfig, effectTimeServoConfig⟩,
  ⟨.timeTriggerSet, 0x0803, checkTimeTriggerSet, effectTimeTriggerSet⟩,
  ⟨.timeTriggerClear, 0x0804, checkTimeTriggerClear, effectTimeTriggerClear⟩,
  ⟨.timeCaptureRead, 0x0805, (fun _ p => firstFail [needLen (p.length == 2), needField p 0 1 0 7, needField p 1 1 1 16]),
    effectTimeCaptureRead⟩,
  ⟨.audPortConfig, 0x0901, checkAudPortConfig, effectAudPortConfig⟩,
  ⟨.audStreamConfig, 0x0902, checkAudStreamConfig, effectAudStreamConfig⟩,
  ⟨.audRouteSet, 0x0903, checkAudRouteSet, (fun s p => ((s.routeSet p).mirrorOut 4 ([3] ++ p), .ok))⟩,
  ⟨.audZoneConfig, 0x0904, checkAudZoneConfig, (fun s p => ((s.zoneSet p).mirrorOut 4 ([4] ++ p), .ok))⟩,
  ⟨.audAnnounceStart, 0x0905, checkAudAnnounceStart, effectAudAnnounceStart⟩,
  ⟨.audAnnounceStop, 0x0906, (fun _ p => firstFail [needLen (p.length == 1), needField p 0 1 0 63]),
    (fun s p => ((s.announceStop (le p 0 1)).mirrorOut 4 ([6] ++ p), .ok))⟩,
  ⟨.audLibraryLoad, 0x0907, checkAudLibraryLoad, effectAudLibraryLoad⟩]

/-- The commands of the signal engine whose instant ends with the firings it holds (R317), and `time.domain.config`, which an
automatic change of its instant precedes (R357). -/
def instantForms : List InstantForm := [
  ⟨⟨.sigWrite, 0x0704, checkSigWrite, effectSigWrite⟩, fun s _ => s, State.fireFlush⟩,
  ⟨⟨.sigTriggerFire, 0x0705, checkSigTriggerFire, effectSigTriggerFire⟩, fun s _ => s, State.fireFlush⟩,
  ⟨⟨.timeDomainConfig, 0x0801, checkTimeDomainConfig, effectTimeDomainConfig⟩, fun s t => (s.tick t).domTimeouts [],
    fun s => s⟩]

/-- Commands that are checked, take effect and answer at once:
device, tide queues and rings, keys, fault collector, groups 0x01 and 0x0A to 0x0C (R98, R421, R457, R480). -/
def hostForms : List CmdForm := [
  ⟨.devConfig, 0x0103, checkDevConfig, effectDevConfig⟩,
  ⟨.devSnap, 0x0104, checkDevSnap, effectDevSnap⟩,
  ⟨.devSnapClear, 0x0105, checkDevSnapClear, effectDevSnapClear⟩,
  ⟨.tideQueueConfig, 0x0A01, checkTideQueueConfig, effectTideQueueConfig⟩,
  ⟨.tideQueueReset, 0x0A02, checkTideQueueReset, effectTideQueueReset⟩,
  ⟨.dmaRingConfig, 0x0A03, checkDmaRingConfig, effectDmaRingConfig⟩,
  ⟨.dmaRingEnable, 0x0A04, checkDmaRingEnable, effectDmaRingEnable⟩,
  ⟨.dmaRingDisable, 0x0A05, checkRingByte, effectDmaRingDisable⟩,
  ⟨.keyDerive, 0x0B01, checkKeyDerive, effectKeyDerive⟩,
  ⟨.keyRevoke, 0x0B02, checkKeyRevoke, effectKeyRevoke⟩,
  ⟨.keyAttrSet, 0x0B03, checkKeyAttrSet, effectKeyAttrSet⟩,
  ⟨fun t m => .keyEnrol t m true, 0x0B05, checkKeyEnrol, effectKeyEnrol true⟩,
  ⟨fun t m => .keyEnrol t m false, 0x0B05, checkKeyEnrol, effectKeyEnrol false⟩,
  ⟨.keyTamperConfig, 0x0B06, checkKeyTamperConfig, effectKeyTamperConfig⟩,
  ⟨.faultConfig, 0x0C01, checkFaultConfig, effectFaultConfig⟩,
  ⟨.faultForce, 0x0C02, checkFaultForce, effectFaultForce⟩,
  ⟨.faultRead, 0x0C03, checkFaultRead, effectFaultRead⟩,
  ⟨.faultClear, 0x0C04, checkFaultClear, effectFaultClear⟩]

/-- Commands that are checked, take effect and answer at once:
twin, causeway and sleep, groups 0x0D to 0x0F (R503, R533, R561). -/
def systemForms : List CmdForm := [
  ⟨.twinConfig, 0x0D01, checkTwinConfig, effectTwinConfig⟩,
  ⟨.twinEnable, 0x0D02, checkEmpty, effectTwinEnable⟩,
  ⟨.twinDisable, 0x0D03, checkTwinDisable, effectTwinDisable⟩,
  ⟨.twinStatus, 0x0D05, checkEmpty, effectTwinStatus⟩,
  ⟨.cwConfig, 0x0E01, checkCwConfig, effectCwConfig⟩,
  ⟨.cwIdSet, 0x0E02, checkCwIdSet, effectCwIdSet⟩,
  ⟨.wakeFilterSet, 0x0F01, checkWakeFilterSet, effectWakeFilterSet⟩,
  ⟨.sleepConfig, 0x0F02, checkSleepConfig, effectSleepConfig⟩,
  ⟨.sleepRequest, 0x0F03, checkSleepRequest, effectSleepRequest⟩]

/-- The commands that only read. -/
def queryForms : List QueryForm := [
  ⟨.devIdentify, 0x0101, checkDevIdentify, answerDevIdentify⟩,
  ⟨.devState, 0x0102, checkDevState, answerDevState⟩,
  ⟨.ethStatus, 0x0204, checkPortByte, answerEthStatus⟩,
  ⟨.busStatus, 0x0307, checkBusByte, answerBusStatus⟩,
  ⟨.ruleStatus, 0x0405, (fun _ p => needLen p.isEmpty), answerRuleStatus⟩,
  ⟨.tblRead, 0x0506, checkTblRead, answerTblRead⟩,
  ⟨.swStatus, 0x0605, checkSwStatus, answerSwStatus⟩,
  ⟨.sigRead, 0x0703, checkSigRead, answerSigRead⟩,
  ⟨.sigStatus, 0x0706, checkEmpty, answerSigStatus⟩,
  ⟨.timeStatus, 0x0806, (fun _ p => needLen p.isEmpty), answerTimeStatus⟩,
  ⟨.keyInfo, 0x0B04, checkKeyInfo, answerKeyInfo⟩,
  ⟨.cwTopology, 0x0E03, checkEmpty, answerCwTopology⟩,
  ⟨.sleepStatus, 0x0F04, checkSleepStatus, answerSleepStatus⟩,
  ⟨.updateStatus, 0x1007, checkUpdateStatus, answerUpdateStatus⟩]

/-- The commands whose effect begins with the command and ends with a later event, or that end within it. -/
def startForms : List StartForm := [
  ⟨.devRestart, 0x0106, checkDevRestart, fun m s p => s.hostRestart m (le p 0 1) (le p 1 1)⟩,
  ⟨.devSafe, 0x0107, checkDevSafe, fun m s _ => (s.complete m .ok).safeState⟩,
  ⟨.ethEnable, 0x0202, checkEthEnable, fun _ => startEthEnable⟩,
  ⟨.ethDisable, 0x0203, checkPortByte, fun _ => startEthDisable⟩,
  ⟨.busDisable, 0x0303, checkBusByte, fun _ => startBusDisable⟩,
  ⟨.twinHandover, 0x0D04, checkTwinHandover,
    fun m s _ => s.modTwin fun w => { w with handover := some (s.mb m).acceptedAt }⟩,
  ⟨.cwRemoteRead, 0x0E04, checkCwRemoteRead, fun m s p => s.requestSend m 0 p⟩,
  ⟨.cwRemoteWrite, 0x0E05, checkCwRemoteWrite, fun m s p => s.requestSend m 1 p⟩,
  ⟨.cwRemoteLock, 0x0E06, checkCwRemoteLock, fun m s p => (s.runBegin m 2 p (lockFields p)).lockBegin m⟩,
  ⟨.updateBegin, 0x1001, checkUpdateBegin, fun _ => startUpdateBegin⟩,
  ⟨.updateWrite, 0x1002, checkUpdateWrite, fun _ => startUpdateWrite⟩,
  ⟨.updateFinish, 0x1003, checkUpdateFinish, fun _ => startUpdateFinish⟩,
  ⟨.updateActivate, 0x1004, checkUpdateActivate, fun _ => startUpdateActivate⟩,
  ⟨.updateConfirm, 0x1005, checkUpdateConfirm, fun _ => startUpdateConfirm⟩,
  ⟨.updateRevert, 0x1006, checkUpdateRevert, fun _ => startUpdateRevert⟩]

/-- The rows of all mailbox commands with their codes, but for those of `instantForms`. -/
def commandRows : List ((Nat → Fin 8 → Instr) × Nat) :=
  ((portForms ++ forwardForms ++ mediaForms ++ hostForms ++ systemForms).map fun f => (f.make, f.code)) ++
    (queryForms.map fun f => (f.make, f.code)) ++ (startForms.map fun f => (f.make, f.code)) ++
    [(fun t m => .ruleCommit t m ⟨[], .ready⟩, 0x0404), (fun t m => .sigMapCommit t m ⟨[], .ready⟩, 0x0702)]

/-- The areas that a command may move: no other changes by its row (its frame). -/
def moves (c : Instr) : List Area :=
  match c with
  | .spiStatusRead .. | .twinTsyncSend .. => []
  | .channelResetTimeout .. => [.chans]
  | .remoteCacheExpiry .. => [.cw]
  | .budgetWindowEnd .. => [.flt]
  | .mbxDoneClear .. => [.mbx]
  | .ciphOutRelWrite .. => [.sec]
  | .l2MoveWindowEnd .. => [.tbl]
  | .ringTailWrite .. => [.tide]
  | .timeOutPulseEnd .. | .slewEnd .. => [.time]
  | .twinRenewReceived .. | .twinTsyncReceived .. => [.twin]
  | .pwrEnRetry .. | .swapPageStep .. => [.ctrs, .boot]
  | .cwHelloSend .. => [.ctrs, .links]
  | .ciphLockWrite .. | .ciphCancel .. | .ciphInWrite .. => [.ctrs, .sec]
  | .backoffExpiry .. | .followUpTableExpiry .. => [.eth, .links]
  | .evtLogRelease .. | .evtMaskWrite .. | .msixVectorUnmask .. | .pcieLinkStateChange .. => [.host, .events]
  | .mbxRing .. => [.mbx, .ctrs]
  | .faultSourceQuiet .. => [.sec, .flt]
  | .tableRewriteDone .. => [.tbl, .flt]
  | .cutThroughFcsDue .. | .stepRequestTimeout .. => [.ctrs, .eth, .links]
  | .cwEventReceived .. => Area.told
  | .spiTransactionTimeout .. => [.host, .events, .ctrs]
  | .perstN .. => [.host, .events, .tide]
  | .safeStateOutputRelease .. => [.time, .aud, .boot]
  | .wakeSource .. => [.ctrs, .buses, .slp, .boot]
  | .pausedLong .. | .pauseRefresh .. | .plcaStatusChange .. => Area.telling [.eth]
  | .tdmNoFrame .. | .aafStreamLost .. => Area.telling [.aud]
  | .stuckDominant .. => Area.telling [.buses]
  | .arbitrationWindowClose .. | .quietPeriodEnd .. => Area.telling [.flt]
  | .ciphStart .. | .ciphJobDone .. | .lockIdleRelease .. => Area.telling [.sec]
  | .sleepCancelReceived .. => Area.telling [.slp]
  | .tqCurWrite .. | .tqMarkWrite .. | .tqReleaseWrite .. | .tqClearMark .. | .tqRewind .. | .rxStarveTimeout ..
  | .rxEventTimer .. => Area.telling [.tide]
  | .timeInCapture .. => Area.telling [.time]
  | .twinHealthReceived .. | .healthReportTimeout .. => Area.telling [.twin]
  | .commandStart .. => Area.telling [.mbx]
  | .falseWakeCheck .. => [.host, .events, .ctrs, .slp]
  | .coreSupplyInRange .. => [.islands, .units, .time, .boot]
  | .pauseReceived .. | .pauseExpiry .. | .stepDecision .. | .stepMessageReceived .. | .stepRelockDone ..
  | .stepRelockFail .. => Area.telling [.eth, .sec]
  | .ringLost .. => Area.telling [.eth, .slp]
  | .holdWindowEnd .. => Area.telling [.eth, .sw]
  | .learnEventProcess .. | .l2AgeingScan .. => Area.telling [.eth, .tbl]
  | .lapTimeout .. | .twinSleepCommitReceived .. => Area.telling [.buses, .slp]
  | .graphRewriteDone .. => Area.telling [.parse, .flt]
  | .updateChunkReceived .. => Area.telling [.sec, .boot]
  | .topologySend .. | .lockGrantReceived .. | .farLockExpiry .. => Area.telling [.sec, .cw]
  | .signalOverrun .. => Area.telling [.sig, .sec]
  | .ageingHeadCheck .. => Area.telling [.eth, .buses, .sw]
  | .cwEngineClaim .. => Area.telling [.eth, .sw, .sec]
  | .deviceUnheard .. => Area.telling [.eth, .tbl, .cw]
  | .consentLapStart .. | .busLapMessageReceived .. | .nodeSlotTimeout .. | .deviceLapReceived .. | .wakeRequest .. =>
    Area.telling [.buses, .sec, .slp]
  | .secWaitExpiry .. => Area.telling [.buses, .sig, .sec]
  | .referenceReturn .. => Area.telling [.time, .flt, .twin]
  | .busRecoveryOccurrence .. | .busIntegrationDone .. | .busModeEffect .. => Area.telling [.chans, .eth, .buses, .sw]
  | .topologyReceived .. => Area.telling [.eth, .tbl, .sec, .cw]
  | .mapVersionExpiry .. => Area.telling [.buses, .sw, .sig, .sec]
  | .devIdentify .. | .devState .. | .ethStatus .. | .busStatus .. | .ruleStatus .. | .tblRead .. | .swStatus ..
  | .sigRead .. | .timeStatus .. | .keyInfo .. | .faultRead .. | .twinStatus .. | .cwTopology .. | .sleepStatus ..
  | .updateStatus .. | .commandFirmwareWaitTimeout .. => Area.telling [.windows, .mbx, .cw, .boot]
  | .audioBlockCompute .. => Area.telling [.chans, .eth, .buses, .sw, .aud]
  | .pathDelayRequestSend .. => Area.telling [.chans, .eth, .buses, .sw, .time]
  | .shadowTimeout .. => Area.telling [.chans, .eth, .buses, .sw, .twin]
  | .cwHelloReceived .. | .neighbourLost .. => Area.telling [.eth, .tbl, .sw, .sec, .cw]
  | .ethPauseConfig .. | .ethWakePattern .. | .swSchedConfig .. | .speedChanged .. =>
    Area.telling [.windows, .mbx, .eth, .cw, .boot]
  | .audPortConfig .. | .audStreamConfig .. | .audRouteSet .. | .audZoneConfig .. | .audAnnounceStart ..
  | .audAnnounceStop .. | .audLibraryLoad .. => Area.telling [.windows, .mbx, .aud, .cw, .boot]
  | .busEnable .. | .busFilterLoad .. | .busRecover .. | .busMode .. | .wakeFilterSet .. =>
    Area.telling [.windows, .mbx, .buses, .cw, .boot]
  | .faultConfig .. => Area.telling [.windows, .mbx, .flt, .cw, .boot]
  | .parseGraphLoad .. | .parseSelect .. | .ruleStage .. | .policerConfig .. =>
    Area.telling [.windows, .mbx, .parse, .cw, .boot]
  | .keyDerive .. | .keyRevoke .. | .keyAttrSet .. | .cwRemoteRead .. | .cwRemoteWrite .. | .cwRemoteLock ..
  | .updateBegin .. | .updateFinish .. | .updateActivate .. | .updateConfirm .. | .updateRevert ..
  | .remoteTimeout .. | .lockRequestReceived .. | .lockRetryReceived .. | .lockBackoffExpiry .. =>
    Area.telling [.windows, .mbx, .sec, .cw, .boot]
  | .sigMapLoad .. | .sigStatus .. => Area.telling [.windows, .mbx, .sig, .cw, .boot]
  | .swClassConfig .. => Area.telling [.windows, .mbx, .sw, .cw, .boot]
  | .tblRouteAdd .. | .tblRouteDel .. => Area.telling [.windows, .mbx, .tbl, .cw, .boot]
  | .tideQueueConfig .. | .tideQueueReset .. | .dmaRingConfig .. | .dmaRingEnable .. | .dmaRingDisable .. =>
    Area.telling [.windows, .mbx, .tide, .cw, .boot]
  | .timeServoConfig .. | .timeCaptureRead .. => Area.telling [.windows, .mbx, .time, .cw, .boot]
  | .twinConfig .. | .twinHandover .. => Area.telling [.windows, .mbx, .twin, .cw, .boot]
  | .devSnap .. => Area.telling [.windows, .host, .mbx, .cw, .boot]
  | .internalEngineClaim .. => Area.telling [.chans, .eth, .buses, .sw, .sig, .sec]
  | .egressDequeue .. => Area.telling [.chans, .eth, .buses, .sw, .time, .sec]
  | .timeMessageReceived .. | .tokenClaim .. | .twinHealthSend .. | .twinHandoverReceived .. | .twinLinkDown .. =>
    Area.telling [.chans, .eth, .buses, .sw, .time, .twin]
  | .ethStepdownConfig .. => Area.telling [.windows, .mbx, .eth, .sec, .cw, .boot]
  | .ethEnable .. | .linkUp .. => Area.telling [.windows, .mbx, .eth, .sw, .cw, .boot]
  | .tblL2Config .. | .tblL2Flush .. => Area.telling [.windows, .mbx, .eth, .tbl, .cw, .boot]
  | .sleepConfig .. => Area.telling [.windows, .mbx, .buses, .cw, .slp, .boot]
  | .ruleCommit .. => Area.telling [.windows, .mbx, .parse, .sec, .cw, .boot]
  | .sleepRequest .. | .mbxAccept .. => Area.telling [.windows, .mbx, .sec, .cw, .slp, .boot]
  | .tblDirectWrite .. => Area.telling [.windows, .mbx, .tbl, .sig, .cw, .boot]
  | .sourceFrameCommit .. | .freshnessExpiry .. | .triggerGapEnd .. =>
    Area.telling [.chans, .eth, .buses, .sw, .sig, .tide, .sec]
  | .swPoolConfig .. | .swPortConfig .. => Area.telling [.windows, .mbx, .eth, .buses, .sw, .cw, .boot]
  | .cwIdSet .. => Area.telling [.windows, .mbx, .eth, .tbl, .sec, .cw, .boot]
  | .firmwareStart .. => Area.telling [.windows, .mbx, .parse, .sec, .cw, .slp, .boot]
  | .twinResyncReceived .. => Area.telling [.buses, .parse, .tbl, .sw, .sig, .aud, .sec, .twin]
  | .busConfig .. => Area.telling [.windows, .mbx, .chans, .eth, .buses, .sw, .cw, .boot]
  | .ethConfig .. | .cwConfig .. => Area.telling [.windows, .mbx, .eth, .tbl, .sw, .sec, .cw, .boot]
  | .sigMapCommit .. => Area.telling [.windows, .mbx, .buses, .sw, .sig, .sec, .cw, .boot]
  | .timeTriggerFire .. => Area.telling [.chans, .eth, .buses, .sw, .sig, .time, .aud, .tide, .sec]
  | .twinMirrorReceived .. => Area.telling [.eth, .buses, .parse, .tbl, .sw, .sig, .aud, .sec, .twin]
  | .firmwareHeartbeat .. | .leaseRenewal .. | .leaseInChange .. | .twinHelloSend .. =>
    Area.telling [.chans, .eth, .buses, .parse, .tbl, .sw, .sig, .time, .tide, .twin]
  | .twinDisable .. | .leaseLapse .. | .handoverBusesIdle .. =>
    Area.telling [.windows, .mbx, .chans, .eth, .buses, .sw, .time, .twin, .cw, .boot]
  | .sigWrite .. | .sigTriggerFire .. =>
    Area.telling [.windows, .mbx, .chans, .eth, .buses, .sw, .sig, .tide, .sec, .cw, .boot]
  | .unitRestartDone .. => Area.telling [.windows, .mbx, .chans, .units, .eth, .buses, .sw, .sec, .flt, .cw, .boot]
  | .devSnapClear .. => Area.telling [.windows, .host, .mbx, .buses, .tbl, .sw, .sig, .aud, .sec, .cw, .boot]
  | .twinHelloReceived .. => Area.but [.windows, .host, .mbx, .islands, .units, .aud, .flt, .cw, .boot]
  | .timeTriggerSet .. | .timeTriggerClear .. => Area.but [.host, .islands, .units, .parse, .tbl, .flt, .twin, .slp]
  | .jtagInstruction .. => Area.but [.windows, .host, .mbx, .chans, .units, .time, .slp]
  | .twinEnable .. => Area.but [.host, .islands, .units, .aud, .sec, .flt, .slp]
  | .firmwareReady .. => Area.but [.host, .islands, .units, .aud, .flt]
  | .devConfig .. => Area.but [.host, .units, .time, .slp]
  | .devSafe .. => Area.but [.host, .units, .slp]
  | .devRestart .. | .longestTimeExpiry .. => Area.but [.host, .time, .slp]
  | .ethDisable .. | .busDisable .. | .timeDomainConfig .. | .keyEnrol .. | .faultForce .. | .faultClear ..
  | .updateWrite .. | .mbxAbort .. | .abortWatchdog .. | .ingressFrameStart .. | .versionExpiry ..
  | .egressTransmitEnd .. | .linkDown .. | .remoteFault .. | .collision .. | .stepLinkLoss ..
  | .busFrameEvaluation .. | .busError .. | .busArbitrationStart .. | .busTxValid .. | .drainLimitExpiry ..
  | .domainTimeout .. | .referenceLost .. | .dmaRxTransfer .. | .dmaTxFrame .. | .tideEccScrub ..
  | .entropyHealthFail .. | .brokenPair .. | .unitRestartEscalation .. | .faultPersistLatch ..
  | .islandRestartDone .. | .glitchStorm .. | .timerRecalibration .. | .mdioTimeout .. | .lpddrTrainingTimeout ..
  | .supplyWarning .. | .bistSlice .. | .causewayFrameReceive .. | .peerCommandReceived .. | .brokenPairRestored .. =>
    Area.but [.host, .slp]
  | .keyTamperConfig .. | .frameAdmission .. | .ingressVerdict .. | .busFrameValid .. | .tamperAlarm ..
  | .faultSourceEntry .. | .handshakeTimeout .. | .pufRegeneration .. | .loaderImageCheck .. | .sleepSettle .. =>
    Area.but [.host]
  | .registerWrite .. | .spiWriteTransaction .. | .spiReadTransaction .. | .pcieCompletionTimeout ..
  | .remoteRequestReceived .. | .remoteCompletionReceived .. | .writeAndUnlockReceived .. => Area.but [.slp]
  | .brownOut .. | .powerOn .. | .resetN .. | .vddAonLoss .. | .activateReboot .. | .activationReportSend ..
  | .activationReportReceived .. | .actWaitExpiry .. | .activationOrderReceived .. | .selfSwapbackTimeout ..
  | .sleepPowerOff .. => Area.all

end Sys2Proof.Machine

open Sys2Proof Sys2Proof.Machine

/-! The whole machine. -/

/-- O1. A step runs the command at the front of the queue on the rest of the queue (the row's own rule of a block). -/
def Obligations.StepRunsTheFrontCommand : Prop :=
  ∀ (c : Instr) (l : List Instr) (s : State), step { s with pending := c :: l } = exec c { s with pending := l }

/-- O2. The invariant holds at reset. -/
def Obligations.ResetKeepsTheInvariant : Prop := State.reset.inv = true

/-- O3. Every step keeps the invariant: the windows in canonical form, every waiting command well-formed. -/
def Obligations.EveryStepKeepsTheInvariant : Prop :=
  ∀ s s' : State, s.inv = true → step s = .next s' → s'.inv = true

/-- O4. A step takes exactly the command at the front, time never runs back, free values are drawn forward only, and
what has been sent stays sent; on an empty queue the block idles and nothing changes, time included (the model's choices,
log entries 2 to 4). -/
def Obligations.StepTakesOneCommandAndNeverRunsBack : Prop :=
  (∀ s : State, s.pending = [] → step s = .next s) ∧
  ∀ (c : Instr) (l : List Instr) (s s' : State), s.pending = c :: l → step s = .next s' →
    s'.pending = l ∧ s.now ≤ s'.now ∧ s.draws ≤ s'.draws ∧ s.sent <:+ s'.sent

/-- O5. The frame of every command: whatever its operands and the state, each area of the state that the table
`moves` does not list for its row stands as it was. The areas cover every field but the queue, the instant, the
count of free values and the journal of what is sent, which O4 speaks of. -/
def Obligations.EveryCommandLeavesTheOtherAreas : Prop :=
  ∀ (c : Instr) (s u : State), exec c s = .next u → ∀ x, x ∉ moves c → x.same s u

/-- O6. Every well-formed command completes from every state: no command is refused and none faults. -/
def Obligations.WellFormedCommandsAlwaysComplete : Prop :=
  ∀ (c : Instr) (s : State), c.wf = true → ∃ u : State, exec c s = .next u ∧ u.pending = s.pending

/-- O7. The one stop of the model: a register write outside BAR0, BAR2 and the configuration space, at no address that
the spec gives the device, and nothing else. -/
def Obligations.OnlyAMissingAddressStops : Prop :=
  ∀ (c : Instr) (s : State),
    (∀ r, exec c s ≠ .refused r) ∧
    ∀ f, exec c s = .fault f ↔ ∃ t bar off data be, c = .registerWrite t bar off data be ∧ f = .noSuchAddress ∧
      ¬(off + data.length ≤ barSize bar ∧ 0 < barSize bar)

/-! The host's registers (03). -/

/-- O8. The registers of R76 and R77 at reset, and the mailbox registers of R82: the values that their tables give. -/
def Obligations.RegistersAtReset : Prop :=
  State.reset.host.scratch = 0 ∧ State.reset.boot.state = 0 ∧ State.reset.host.pcieUp = false ∧
  State.reset.host.pcieWidth = 0 ∧ State.reset.host.pcieSpeed = 0 ∧ State.reset.host.evtStatus = 0 ∧
  State.reset.host.evtMask = BitVec.allOnes 128 ∧ State.reset.host.evtLogWr = 0 ∧ State.reset.host.evtLogRd = 0 ∧
  State.reset.host.evtLogLost = 0 ∧ State.reset.host.intPinEn = true ∧
  (∀ e, State.reset.host.evtVec.get 0 e = 0) ∧ State.reset.host.msix.enable = false ∧
  State.reset.host.msix.fmask = false ∧ State.reset.host.msix.vmask = BitVec.allOnes 32 ∧
  (∀ m, (State.reset.mb m).mstate = 0 ∧ (State.reset.mb m).done = false ∧ (State.reset.mb m).interim = false ∧
    (State.reset.mb m).dropped = false)

/-- O9. BAR0 (R62, R74, R76): `SCRATCH` takes a whole aligned word and has no other effect; any access that is not
an aligned word with four byte enables is discarded and counted in `host_bad_access`; the reserved ranges ignore
writes. Complete: registerWrite. The model's choices here: log entry 67. -/
def Obligations.Bar0TakesAlignedWords : Prop :=
  ∀ (s : State) (t : Nat), let a := s.tick t
    a.hostReach = true →
    (∀ data : List Byte, data.length = 4 → exec (.registerWrite t 0 0x20 data 15) s =
      .next { a with host := { a.host with scratch := BitVec.ofNat 32 (leNum data) } }) ∧
    (∀ (off be : Nat) (data : List Byte), off + data.length ≤ 0x10000 →
      ¬(data.length = 4 ∧ off % 4 = 0 ∧ be % 16 = 15) →
      exec (.registerWrite t 0 off data be) s = .next (a.count 1 0 ctrDevHostBadAccess)) ∧
    (∀ (off : Nat) (data : List Byte), off % 4 = 0 → data.length = 4 →
      (off < 0x20 ∨ (0x20 < off ∧ off < 0x100) ∨ (0x200 ≤ off ∧ off < 0x400) ∨ (0x420 ≤ off ∧ off < 0x1000) ∨
        (0x5C00 ≤ off ∧ off < 0x6000) ∨ (0x6200 ≤ off ∧ off < 0x10000)) →
      exec (.registerWrite t 0 off data 15) s = .next a)

/-- O10. A byte written to the window of an open mailbox reads back, and every other byte of every window stays;
while the mailbox does not take writes the byte is discarded (R75, R86, R87). The canonical form is O3's. The
model's choices here: log entry 5. -/
def Obligations.WindowByteWrites : Prop :=
  ∀ (s : State) (t a : Nat) (v : Byte), Memory.wf s.windows = true → (s.tick t).hostReach = true → a < 0x8000 →
    ((s.mb (a / 4096)).takesWrites = true → ∃ u : State, exec (.registerWrite t 2 a [v] 1) s = .next u ∧
      u.windowByte a = v ∧ ∀ b, b ≠ a → u.windowByte b = s.windowByte b) ∧
    ((s.mb (a / 4096)).takesWrites = false → exec (.registerWrite t 2 a [v] 1) s = .next (s.tick t))

/-- O11. While the host does not reach the device, no register write has an effect (R539, R606): the register rows,
the queue, ring and engine registers, the doorbells, the event registers, the SPI slave. The model's choices here:
log entry 67. -/
def Obligations.NothingIsWrittenOutOfReach : Prop :=
  ∀ (s : State) (t : Nat), (s.tick t).hostReach = false →
    (∀ bar off data be, 0 < barSize bar → off + data.length ≤ barSize bar →
      exec (.registerWrite t bar off data be) s = .next (s.tick t)) ∧
    (∀ m v, exec (.mbxRing t m v) s = .next (s.tick t)) ∧ (∀ m v, exec (.mbxDoneClear t m v) s = .next (s.tick t)) ∧
    (∀ m v f, exec (.mbxAbort t m v f) s = .next (s.tick t)) ∧
    (∀ v, exec (.evtLogRelease t v) s = .next (s.tick t)) ∧ (∀ k v, exec (.evtMaskWrite t k v) s = .next (s.tick t)) ∧
    (∀ w, exec (.msixVectorUnmask t w) s = .next (s.tick t)) ∧
    (∀ d f, exec (.spiWriteTransaction t d f) s = .next (s.tick t)) ∧
    (∀ d f, exec (.spiReadTransaction t d f) s = .next (s.tick t)) ∧ exec (.spiStatusRead t) s = .next (s.tick t) ∧
    exec (.spiTransactionTimeout t) s = .next (s.tick t) ∧
    (∀ q v, exec (.tqCurWrite t q v) s = .next (s.tick t)) ∧ (∀ q v, exec (.tqMarkWrite t q v) s = .next (s.tick t)) ∧
    (∀ q v, exec (.tqReleaseWrite t q v) s = .next (s.tick t)) ∧ (∀ q, exec (.tqClearMark t q) s = .next (s.tick t)) ∧
    (∀ q, exec (.tqRewind t q) s = .next (s.tick t)) ∧ (∀ r v, exec (.ringTailWrite t r v) s = .next (s.tick t)) ∧
    (∀ e v, exec (.ciphLockWrite t e v) s = .next (s.tick t)) ∧ (∀ e, exec (.ciphStart t e) s = .next (s.tick t)) ∧
    (∀ e, exec (.ciphCancel t e) s = .next (s.tick t)) ∧ (∀ e v, exec (.ciphInWrite t e v) s = .next (s.tick t)) ∧
    (∀ e v, exec (.ciphOutRelWrite t e v) s = .next (s.tick t))

/-- O12. The event registers: a W1C write clears exactly the status bits written with 1 whose source does not occur at
the same instant; a mask write sets one mask register and no status bit; a write of the read index releases records;
nothing else of the device changes but the vectors that an unmasked source sends; unmasking a vector or the function
leaves no pending vector that may go (R6, R8, R63, R77, R78). Complete: evtMaskWrite, evtLogRelease, msixVectorUnmask.
The model's choices here: log entry 7. -/
def Obligations.EventRegisterWrites : Prop :=
  ∀ (s : State) (t : Nat), (s.tick t).hostReach = true →
    (∀ (k : Fin 4) (data : List Byte), data.length = 4 → ∃ u : State,
      exec (.registerWrite t 0 (0x100 + 4 * k) data 15) s = .next u ∧
      u = { s.tick t with
        sent := u.sent
        host := { s.host with
          evtStatus := u.host.evtStatus, evtSetAt := u.host.evtSetAt
          msix := { s.host.msix with pend := u.host.msix.pend } } } ∧
      ∀ e < 128, u.host.evtStatus.getLsbD e =
        (s.host.evtStatus.getLsbD e && !(decide (e / 32 = k) && (leNum data).testBit (e % 32) &&
          decide ((s.host.evtSetAt.find e).map Prod.fst ≠ some (s.tick t).now)))) ∧
    (∀ (k : Fin 4) (v : Word), ∃ u : State, exec (.evtMaskWrite t k v) s = .next u ∧
      u.host.evtStatus = s.host.evtStatus ∧ u.windows = s.windows ∧ u.mbx = s.mbx ∧
      ∀ e < 128, u.host.evtMask.getLsbD e =
        if e / 32 = k then v.getLsbD (e % 32) else s.host.evtMask.getLsbD e) ∧
    (∀ v : Word, exec (.evtLogRelease t v) s =
      .next { s.tick t with host := { s.host with evtLogRd := v.toNat % 256, evtLogFull := false } }) ∧
    (s.host.perst = false → ∀ w : MsixUnmask, ∃ u : State, exec (.msixVectorUnmask t w) s = .next u ∧
      u.host.evtStatus = s.host.evtStatus ∧ u.windows = s.windows ∧
      ∀ v < 32, u.host.msix.enable = true → u.host.msix.fmask = false → u.host.msix.vmask.getLsbD v = false →
        u.host.msix.pend.getLsbD v = false)

/-- O13. The occurrence of an event: its status bit reads 1, its record stands at the index that `EVT_LOG_WR` had, and no
status bit falls; of the rest of the device nothing changes but counters, the log and what is sent (R78, R79). -/
def Obligations.OccurrenceOfAnEvent : Prop :=
  ∀ (s : State) (ev mbx unit detail : Nat), ev < 128 →
    Tells s (s.raise ev mbx unit detail) ∧ (s.raise ev mbx unit detail).host.evtStatus.getLsbD ev = true ∧
    (s.host.evtLogFull = false →
      (s.raise ev mbx unit detail).host.log.get {} s.host.evtLogWr =
        { evt := ev, mbx := mbx, unit := unit, detail := detail % 2 ^ 32, time := s.activeNs } ∧
      (s.raise ev mbx unit detail).host.evtLogWr = (s.host.evtLogWr + 1) % 256)

/-- O14. `PERST_N` low stops every ring and resets the endpoint; the link going down resets the endpoint (the model's
reading of PCI Express Base 3.0, log entry 22); a link that comes up reports its width and speed (R60, R76, R606).
Complete: perstN, pcieLinkStateChange. -/
def Obligations.EndpointResets : Prop :=
  (∀ (s : State) (t : Nat), ∃ u : State, exec (.perstN t false) s = .next u ∧ (∀ r < 48, (u.ring r).rstate = 0) ∧
    u.host = { s.host.endpointReset with perst := true } ∧ u.windows = s.windows) ∧
  (∀ (s : State) (t : Nat), exec (.perstN t true) s = .next { s.tick t with host := { s.host with perst := false } }) ∧
  (∀ (s : State) (t w v : Nat), exec (.pcieLinkStateChange t w v false) s =
    .next { s.tick t with host := s.host.endpointReset }) ∧
  (∀ (s : State) (t w v : Nat), (s.tick t).hostReach = true → s.host.perst = false → 1 ≤ w → w ≤ 2 → 1 ≤ v → v ≤ 3 →
    exec (.pcieLinkStateChange t w v true) s =
      .next { s.tick t with host := { s.host with pcieUp := true, pcieWidth := w, pcieSpeed := v } })

/-- O15. An SPI transaction that is abandoned sets `LEN_ERR` and has no other effect; its count is the one of R102.
Complete: spiTransactionTimeout. -/
def Obligations.AbandonedSpiTransaction : Prop :=
  ∀ (s : State) (t : Nat), (s.tick t).hostReach = true →
    exec (.spiTransactionTimeout t) s = .next (((s.tick t).count 1 0 ctrDevSpiLenErr).modHost fun h => { h with
      spi := { status := 4, seen := h.spi.seen } })

/-- O16. The SPI slave: a status read sends the status and its CRC and changes nothing else; a transaction of no
bytes and one of an unlisted opcode set their bit and have no other effect; a read and a write run as R67 to R69
(R66, R70). Complete: spiStatusRead, spiReadTransaction, spiWriteTransaction. The model's choices here: log entry 20. -/
def Obligations.SpiTransactions : Prop :=
  ∀ (s : State) (t : Nat), (s.tick t).hostReach = true →
    (exec (.spiStatusRead t) s = .next ((s.tick t).send
      (.spi (leBytes 1 s.host.spi.status.toNat ++ leBytes 1 (crc8 (leBytes 1 s.host.spi.status.toNat)))))) ∧
    (∀ f, exec (.spiReadTransaction t [] f) s = .next ((s.tick t).spiEnd { len := true })) ∧
    (∀ mosi f, mosi ≠ [] → le mosi 0 1 < 0x40 ∨ 0xC0 < le mosi 0 1 →
      exec (.spiWriteTransaction t mosi f) s = .next ((s.tick t).spiEnd { opc := true })) ∧
    (∀ mosi f, mosi ≠ [] → 0x40 ≤ le mosi 0 1 → le mosi 0 1 ≤ 0x7F →
      exec (.spiReadTransaction t mosi f) s = .next ((s.tick t).spiRead (le mosi 0 1 - 0x3F) mosi f)) ∧
    (∀ mosi f, mosi ≠ [] → 0x80 ≤ le mosi 0 1 → le mosi 0 1 ≤ 0xBF →
      exec (.spiWriteTransaction t mosi f) s = .next ((s.tick t).spiWrite (le mosi 0 1 - 0x7F) mosi f))

/-- O17. `HOST_INT_N` (R72): low exactly while `INT_PIN_EN` is 1 and some unmasked status bit is 1, whatever else the state
holds. -/
def Obligations.HostIntFollowsUnmaskedEvents : Prop :=
  ∀ s : State, s.hostIntLow = true ↔
    s.host.intPinEn = true ∧ ∃ e, e < 128 ∧ s.host.evtStatus.getLsbD e = true ∧ s.host.evtMask.getLsbD e = false

/-! The mailbox commands (03). -/

/-- O18. The commands of Ethernet ports, bus controllers, parser, tables and switch core that answer at once (R143,
R184, R219, R249, R287; listed in `portForms` and `forwardForms`) complete: where a mailbox executes such a request
and its function is available, exec answers a next state. A request that the command's check refuses leaves the
check's status in the mailbox and changes nothing else but what the event of the answer moves; an accepted one has
the command's effect, and the mailbox answers in the state it leaves. -/
def Obligations.ForwardingCommandsComplete : Prop := ∀ f ∈ portForms ++ forwardForms, f.Runs

/-- O19. The same of the commands of the signal engine, the time unit and the audio router (R337, R368, R391;
listed in `mediaForms`), and of those among them whose instant holds more than the command (R317, R357; `instantForms`). -/
def Obligations.MediaCommandsComplete : Prop := (∀ f ∈ mediaForms, f.Runs) ∧ ∀ f ∈ instantForms, f.Runs

/-- O20. The same of the commands of the device, the tide queues and rings, the key store, the fault collector, the
twin, the causeway and the sleep manager that answer at once (R98, R421, R457, R480, R503, R533, R561; listed in
`hostForms` and `systemForms`). The model's choices here: log entry 6. -/
def Obligations.SystemCommandsComplete : Prop := ∀ f ∈ hostForms ++ systemForms, f.Runs

/-- O21. The commands that only read (R9, R98, R99; listed in `queryForms`) complete with their answer or with the
status of the check that refuses them, and change nothing but what an answer moves: the mailbox, its window, and
what the event of the answer moves. -/
def Obligations.ReadingCommandsChangeNothing : Prop := ∀ f ∈ queryForms, f.Runs

/-- O22. The commands whose effect begins with them and ends with a later command, or within them (R86, R98, R99;
listed in `startForms`): refused as the others are, or begun in a mailbox that is marked as running. The model's
choices here: log entries 15, 23 and 65. -/
def Obligations.BeginningCommandsBegin : Prop := ∀ f ∈ startForms, f.Runs

/-- O23. The two-phase commits of rules and of the signal map (R92, R93, R216, R334): refused with no effect; waiting
while the older version is live or while the device that the commit spans has not answered; ended with the answer of one
that does not prepare; prepared alone where only that is asked; else committed, and complete at once, or with the entries
of the units where the other device's fault, or waiting for the units that have not switched. Complete: ruleCommit,
sigMapCommit. The model's choices here: log entries 13, 29 and 30. -/
def Obligations.TwoPhaseCommitsComplete : Prop :=
  ∀ (s : State) (t : Nat) (m : Fin 8) (r : Req) (stuck : List Nat) (p : Partner), let a := s.tick t
    (Ready s t m 0x0404 r →
      (∀ x, checkRuleCommit a m r.payload = some x → exec (.ruleCommit t m ⟨stuck, p⟩) s = .next (a.complete m x)) ∧
      (checkRuleCommit a m r.payload = none →
        (a.ruleStaged = false → exec (.ruleCommit t m ⟨stuck, p⟩) s =
          .next (a.complete m (effectRuleCommit a (bit r.flags 1)).2)) ∧
        (a.ruleStaged = true → a.oldLive = true → exec (.ruleCommit t m ⟨stuck, p⟩) s = .next (a.prepares m)) ∧
        (a.ruleStaged = true → a.oldLive = false →
          (a.partnerOf 1 p = .silent → exec (.ruleCommit t m ⟨stuck, p⟩) s = .next (a.prepares m)) ∧
          (∀ st d, a.partnerOf 1 p = .refused st d →
            exec (.ruleCommit t m ⟨stuck, p⟩) s = .next (a.complete m { status := st, detail := d })) ∧
          (∀ i n fs, a.partnerOf 1 p = .faulted i n fs → bit r.flags 1 = false → exec (.ruleCommit t m ⟨stuck, p⟩) s =
            .next ((effectRuleCommit a false).1.commitFinish m (a.commitUnits 1 [⟨2, 0⟩, ⟨2, 2⟩] (.faulted i n fs))
              (stuck.filter [128, 130].contains) (effectRuleCommit a false).2)) ∧
          (a.partnerOf 1 p = .ready → bit r.flags 1 = true →
            exec (.ruleCommit t m ⟨stuck, p⟩) s = .next (a.complete m (effectRuleCommit a true).2)) ∧
          (a.partnerOf 1 p = .ready → bit r.flags 1 = false → stuck.filter [128, 130].contains = [] →
            exec (.ruleCommit t m ⟨stuck, p⟩) s =
              .next ((effectRuleCommit a false).1.complete m (effectRuleCommit a false).2) ∧
            (effectRuleCommit a false).1.parse.cur.ver = (a.parse.cur.ver + 1) % 65536 ∧
            (effectRuleCommit a false).1.parse.cur.rules.map (·.id) =
              (a.parse.staged.getD a.parse.cur.rules).map (·.id) ∧
            (effectRuleCommit a false).1.parse.old = a.parse.cur ∧ (effectRuleCommit a false).1.parse.staged = none) ∧
          (a.partnerOf 1 p = .ready → bit r.flags 1 = false → stuck.filter [128, 130].contains ≠ [] →
            ∃ u : State, exec (.ruleCommit t m ⟨stuck, p⟩) s = .next u ∧ (u.mb m).committed = true ∧
              (u.mb m).running = true ∧ (u.mb m).aux = stuck.filter [128, 130].contains)))) ∧
    (Ready s t m 0x0702 r →
      (∀ x, checkSigMapCommit a m r.payload = some x → exec (.sigMapCommit t m ⟨stuck, p⟩) s = .next (a.complete m x)) ∧
      (checkSigMapCommit a m r.payload = none →
        (a.sig.hasStaged = false → exec (.sigMapCommit t m ⟨stuck, p⟩) s =
          .next (a.complete m (effectSigMapCommit a (bit r.flags 1)).2)) ∧
        (∀ o, a.sig.hasStaged = true → a.sig.old = some o → a.mapMayExpire o = false →
          exec (.sigMapCommit t m ⟨stuck, p⟩) s = .next (a.prepares m)) ∧
        (a.sig.hasStaged = true → a.sig.old = none →
          (a.partnerOf 2 p = .silent → exec (.sigMapCommit t m ⟨stuck, p⟩) s = .next (a.prepares m)) ∧
          (∀ st d, a.partnerOf 2 p = .refused st d →
            exec (.sigMapCommit t m ⟨stuck, p⟩) s = .next (a.complete m { status := st, detail := d })) ∧
          (∀ i n fs, a.partnerOf 2 p = .faulted i n fs → bit r.flags 1 = false → exec (.sigMapCommit t m ⟨stuck, p⟩) s =
            .next ((effectSigMapCommit a false).1.commitFinish m (a.commitUnits 2 [⟨2, 6⟩, ⟨3, 0⟩] (.faulted i n fs))
              (stuck.filter [134, 192].contains) (effectSigMapCommit a false).2)) ∧
          (a.partnerOf 2 p = .ready → bit r.flags 1 = true →
            exec (.sigMapCommit t m ⟨stuck, p⟩) s = .next (a.complete m (effectSigMapCommit a true).2)) ∧
          (a.partnerOf 2 p = .ready → bit r.flags 1 = false → stuck.filter [134, 192].contains = [] →
            exec (.sigMapCommit t m ⟨stuck, p⟩) s =
              .next ((effectSigMapCommit a false).1.complete m (effectSigMapCommit a false).2) ∧
            (effectSigMapCommit a false).1.sig.cur = a.sig.pendingMap ∧
            (effectSigMapCommit a false).1.sig.old = some a.sig.cur ∧
            (effectSigMapCommit a false).1.sig.hasStaged = false) ∧
          (a.partnerOf 2 p = .ready → bit r.flags 1 = false → stuck.filter [134, 192].contains ≠ [] →
            ∃ u : State, exec (.sigMapCommit t m ⟨stuck, p⟩) s = .next u ∧ (u.mb m).committed = true ∧
              (u.mb m).running = true ∧ (u.mb m).aux = stuck.filter [134, 192].contains))))

/-- O24. A command's row does nothing unless its mailbox executes a request of its code and firmware runs; a request
that the function check refuses is answered with that check's status and has no effect; the device state decides
first: in the safe state and while installing nothing runs, in start-up and SEALED only group 0x01 and `update.status`
(R85, R86 step 4, R568, R570, R620). -/
def Obligations.CommandsRunOnlyInTheirMailbox : Prop :=
  (∀ f ∈ commandRows, ∀ (s : State) (t : Nat) (m : Fin 8), let a := s.tick t
    ((∀ r, (a.mb m).req = some r → ¬((a.mb m).mstate = 1 ∧ (a.mb m).running = false ∧ r.code = f.2 ∧ a.fwUp = true)) →
      exec (f.1 t m) s = .next a) ∧
    (∀ r x, (a.mb m).req = some r → (a.mb m).mstate = 1 → (a.mb m).running = false → r.code = f.2 → a.fwUp = true →
      a.functionCheck r = some x → a.cw.peerIn.contains m.val = false →
      ∃ u : State, exec (f.1 t m) s = .next u ∧ Tells (a.answered m x) u)) ∧
  (∀ f ∈ instantForms, ∀ (s : State) (t : Nat) (m : Fin 8), let a := (f.before s t).tick t
    (∀ r, (a.mb m).req = some r → ¬((a.mb m).mstate = 1 ∧ (a.mb m).running = false ∧ r.code = f.code ∧ a.fwUp = true)) →
      exec (f.make t m) s = .next (f.after a)) ∧
  (∀ (s : State) (r : Req),
    (s.boot.state = 4 ∨ s.boot.state = 5 → s.functionCheck r = some .busy) ∧
    (s.boot.state = 0 → r.code / 256 ≠ 1 → r.code ≠ 0x1007 → s.functionCheck r = some .busy) ∧
    (s.boot.state = 2 → r.code / 256 ≠ 1 → r.code ≠ 0x1007 → s.functionCheck r = some .denied) ∧
    (s.boot.state ≠ 4 → s.boot.state ≠ 5 → r.code / 256 = 1 → s.functionCheck r = none))

/-- O25. The doorbell, whole (R87): the four cases in which it is ignored, with `DROPPED` set and counted and nothing
else changed; otherwise pending; while it is, and until `MSTATE` is 0, the envelope and the window take no writes. Complete:
mbxRing. -/
def Obligations.DoorbellIsPendingOrIgnored : Prop :=
  ∀ (s : State) (t : Nat) (m : Fin 8) (v : Word), let a := s.tick t
    a.hostReach = true →
    (v.getLsbD 0 = true →
      ((a.mb m).ringing = true ∨ (a.mb m).mstate ≠ 0 ∨ a.islandUp 5 = false ∨ a.boot.state = 4 →
        exec (.mbxRing t m v) s =
          .next ((a.modMb m fun b => { b with dropped := true, setAt := b.setAt.set 2 a.now }).count 1 0
            ctrDevMbxDropped)) ∧
      ((a.mb m).ringing = false → (a.mb m).mstate = 0 → a.islandUp 5 = true → a.boot.state ≠ 4 →
        exec (.mbxRing t m v) s = .next (a.modMb m fun b => { b with ringing := true, rungAt := a.now }))) ∧
    (v.getLsbD 0 = false → exec (.mbxRing t m v) s = .next a) ∧
    (a.islandUp 5 = false → exec (.mbxAccept t m) s = .next a) ∧
    ((a.mb m).ringing = false → exec (.mbxAccept t m) s = .next a) ∧
    ((a.mb m).ringing = true ∨ (a.mb m).mstate ≠ 0 →
      (∀ off data, off < 16 → off % 4 = 0 → data.length = 4 →
        exec (.registerWrite t 0 (0x1000 + 0x200 * m + off) data 15) s = .next a) ∧
      (∀ off x, off < 4096 → exec (.registerWrite t 2 (4096 * m + off) [x] 1) s = .next a))

/-- O26. Acceptance (R86 step 3): envelope and payload are latched as they stand, `MSTATE` is 1, the doorbell is no
longer pending; before firmware has started nothing more happens (R568), and once it runs it checks the envelope.
Complete: mbxAccept. -/
def Obligations.AcceptanceLatchesTheRequest : Prop :=
  ∀ (s : State) (t : Nat) (m : Fin 8), let a := s.tick t
    let u := a.latchCommand m
    a.hostReach = true → a.islandUp 5 = true → (a.mb m).ringing = true → a.forwardsMbx m = false →
      (a.fwUp = false → exec (.mbxAccept t m) s = .next u.heard) ∧
      (a.fwUp = true → exec (.mbxAccept t m) s = .next (u.heard.envelopeJudge m)) ∧
      (u.mb m).ringing = false ∧ (u.mb m).mstate = 1 ∧ (u.mb m).acceptedAt = a.now ∧ (u.mb m).running = false ∧
      (u.mb m).req = some {
        tag := le (a.mb m).cmd 0 1, code := le (a.mb m).cmd 1 2, len := le (a.mb m).cmd 3 2
        flags := le (a.mb m).cmd 5 2, payload := a.window (4096 * m) (min (le (a.mb m).cmd 3 2) 4096) } ∧
      u.windows = a.windows ∧ (∀ k : Fin 8, k ≠ m → u.mb k = a.mb k) ∧
      u.heard.mbx = u.mbx ∧ u.heard.windows = u.windows

/-- O27. A code that neither table lists: the envelope check refuses it with `INVALID` and `DETAIL` 0x8000_0001, and the
mailbox answers so (R100). The index holds the 94 commands of R98 and R99. -/
def Obligations.UnlistedCodeIsInvalid : Prop :=
  (cmdIndexLow ++ cmdIndexMid ++ cmdIndexHigh).length = 94 ∧
  (∀ (cmd payload : List Byte), le cmd 3 2 ≤ 4096 → le cmd 12 4 = crc32 (fitBytes 12 cmd ++ payload) →
    cmdRow (le cmd 1 2) = none → envelopeCheck cmd payload = some (.invalid 0x80000001)) ∧
  (∀ (s : State) (m : Fin 8) (r : Req), (s.mb m).req = some r → (s.mb m).mstate = 1 → (s.mb m).running = false →
    le (s.mb m).cmd 3 2 ≤ 4096 → le (s.mb m).cmd 12 4 = crc32 (fitBytes 12 (s.mb m).cmd ++ r.payload) →
    cmdRow (le (s.mb m).cmd 1 2) = none → s.cw.peerIn.contains m.val = false →
    Tells (s.answered m (.invalid 0x80000001)) (s.envelopeJudge m))

/-- O28. Completion (R84, R86 steps 6 and 7): the payload stands in the window, `MBX_RESP` holds the response,
`MSTATE` is 4, `DONE` is 1, EVn is raised unless `QUIET`; a write of 1 to `DONE` returns `MSTATE` to 0 and clears that
flag alone, but for a flag that the device sets at that instant (R8). Complete: mbxDoneClear. -/
def Obligations.CompletionAnswersTheMailbox : Prop :=
  (∀ (s : State) (m : Fin 8) (r : Reply), s.cw.peerIn.contains m.val = false →
    Tells (s.answered m r) (s.complete m r) ∧ ((s.complete m r).mb m).done = true ∧
    ((s.complete m r).mb m).mstate = 4 ∧ ((s.complete m r).mb m).req = none ∧
    ((s.complete m r).mb m).resp = respBytes (s.mb m).tagCode.1 (s.mb m).tagCode.2 r false ∧
    (∀ k : Fin 8, k ≠ m → (s.complete m r).mb k = s.mb k) ∧
    ((s.mb m).quiet = false → (s.complete m r).host.evtStatus.getLsbD m = true)) ∧
  (∀ (s : State) (t : Nat) (m : Fin 8) (v : Word), let a := s.tick t
    a.hostReach = true → ∃ u : State, exec (.mbxDoneClear t m v) s = .next u ∧
      u = (a.modMb m fun _ => u.mb m) ∧
      let gone (k : Nat) : Bool := v.getLsbD k && decide ((a.mb m).setAt.find k ≠ some a.now)
      (u.mb m) = { a.mb m with
        done := (a.mb m).done && !gone 0, interim := (a.mb m).interim && !gone 1
        dropped := (a.mb m).dropped && !gone 2
        mstate := if (a.mb m).mstate = 4 ∧ gone 0 = true then 0 else (a.mb m).mstate })

/-- O29. Waiting and expiry (R90, R97, R568): a waiting command starts once none is ahead of it on its functions; one
whose longest time expires before its commit point completes with `TIMEOUT`; one past it restarts the units that have
not switched and gives the interim response `PARTIAL`; one that waited 2 s for firmware ends with `TIMEOUT` too.
Complete: commandStart, longestTimeExpiry, commandFirmwareWaitTimeout. The model's choices here: log entries 63
and 65. -/
def Obligations.CommandsStartAndExpire : Prop :=
  ∀ (s : State) (t : Nat) (m : Fin 8) (r : Req), let a := s.tick t
    (a.mb m).req = some r →
    ((a.mb m).waits = true → a.ahead m r = [] → a.fwUp = true →
      (∃ u : State, exec (.commandStart t m) s = .next u ∧ (u.mb m).mstate = 1 ∧ (u.mb m).startedAt = a.now ∧
        (u.mb m).req = some r) ∧
      (isDisable r.code = false →
        exec (.commandStart t m) s = .next (a.modMb m fun b => { b with mstate := 1, startedAt := a.now }))) ∧
    (a.ahead m r ≠ [] → exec (.commandStart t m) s = .next a) ∧
    ((a.mb m).mstate = 1 → (a.mb m).startedAt + a.longestNs m r ≤ a.now → a.fwUp = true →
      ((a.mb m).committed = false → (a.mb m).running = false → a.cw.peerIn.contains m.val = false →
        a.remoteRun m = none → ∃ u : State, exec (.longestTimeExpiry t m) s = .next u ∧
          Tells ((a.modCw fun c => { c with fwdMbx := c.fwdMbx.filter (· != m.val) }).answered m
            { status := stTimeout }) u ∧ (u.mb m).mstate = 4 ∧ (u.mb m).done = true) ∧
      ((a.mb m).committed = false → exec (.longestTimeExpiry t m) s = .next (a.expire m r)) ∧
      ((a.mb m).committed = true → exec (.longestTimeExpiry t m) s =
        .next (((a.restartStuck m).interim m { status := stPartial, rflags := 2 }).relayLate m))) ∧
    (a.now < (a.mb m).startedAt + a.longestNs m r → exec (.longestTimeExpiry t m) s = .next a) ∧
    ((a.mb m).mstate = 1 → a.boot.fwRunning = false → a.boot.state = 0 →
      (a.mb m).acceptedAt + 2000000000 ≤ a.now →
      exec (.commandFirmwareWaitTimeout t m) s = .next (a.complete m { status := stTimeout })) ∧
    (a.now < (a.mb m).acceptedAt + 2000000000 → exec (.commandFirmwareWaitTimeout t m) s = .next a)

/-- O30. The abort doorbell (R95, R96): nothing where no command is outstanding; a waiting command ends with
`ABORTED`; an executing one is at `MSTATE` 3 with the watchdog running until firmware stops it, and 1.5 ms later the
watchdog ends it. Complete: mbxAbort, abortWatchdog. The model's choices here: log entry 65. -/
def Obligations.AbortEndsTheCommand : Prop :=
  ∀ (s : State) (t : Nat) (m : Fin 8) (v : Word) (firmware : Bool), let a := s.tick t
    (a.hostReach = true →
      ((a.mb m).outstanding = false → exec (.mbxAbort t m v firmware) s = .next a) ∧
      (v.getLsbD 0 = false → exec (.mbxAbort t m v firmware) s = .next a) ∧
      ((a.mb m).mstate = 5 → v.getLsbD 0 = true →
        exec (.mbxAbort t m v firmware) s = .next (a.complete m { status := stAborted })) ∧
      ((a.mb m).mstate = 1 → v.getLsbD 0 = true → a.cw.fwdMbx.contains m.val = false → firmware = false →
        exec (.mbxAbort t m v firmware) s =
          .next (a.modMb m fun b => { b with mstate := 3, abortAt := some a.now })) ∧
      ((a.mb m).mstate = 1 → v.getLsbD 0 = true → a.cw.fwdMbx.contains m.val = false → firmware = true → a.fwUp = true →
        exec (.mbxAbort t m v firmware) s =
          .next ((a.modMb m fun b => { b with mstate := 3, abortAt := some a.now }).abortEnd m false))) ∧
    (∀ w, (a.mb m).abortAt = some w → (a.mb m).mstate = 3 →
      (w + 1500000 ≤ a.now → exec (.abortWatchdog t m) s = .next (a.abortEnd m true)) ∧
      (a.now < w + 1500000 → exec (.abortWatchdog t m) s = .next a))

/-! Tide queues, DMA rings, engines (10, 11). -/

/-- What a queue's registers show of it: WR, RD, CUR, MARK with MARK_SET, POS_ERR, and its packets. -/
def TqFace (x : TideQ) : Nat × Nat × Nat × Nat × Bool × Bool × List TqPacket :=
  (x.wr, x.rd, x.cur, x.mark, x.markSet, x.posErr, x.packets)

/-- A command leaves queue `q` with the face that `f` makes of it, and changes nothing else. -/
def FacesOf (c : Instr) (s : State) (t : Nat) (q : Fin 64) (f : TideQ → TideQ) : Prop :=
  ∃ u : State, exec c s = .next u ∧ u = (s.tick t).modTq q (fun _ => u.tq q) ∧ TqFace (u.tq q) = TqFace (f ((s.tick t).tq q))

/-- O31. The position registers of a tide queue (R398, R399, R401, R402): a position within its bounds is taken, CUR
behind MARK clears the mark, and nothing else changes; one outside sets `POS_ERR` alone; the queues of a ring take none;
queue 0 has no registers. Complete: tqCurWrite, tqMarkWrite, tqReleaseWrite, tqClearMark, tqRewind. The model's choices
here: log entries 10, 33, 67 and 75. -/
def Obligations.TideQueueRegisters : Prop :=
  ∀ (s : State) (t : Nat) (q : Fin 64) (v : Word), let a := s.tick t
    let x := a.tq q
    let bad := fun x : TideQ => { x with posErr := true }
    a.hostReach = true → a.tideUp = true →
    (q.val = 0 → exec (.tqCurWrite t q v) s = .next a ∧ exec (.tqMarkWrite t q v) s = .next a ∧
      exec (.tqReleaseWrite t q v) s = .next a ∧ exec (.tqClearMark t q) s = .next a ∧ exec (.tqRewind t q) s = .next a) ∧
    (q.val ≠ 0 → a.dmaOwned q = true → ∀ c ∈ [Instr.tqCurWrite t q v, .tqMarkWrite t q v, .tqReleaseWrite t q v,
      .tqClearMark t q, .tqRewind t q], FacesOf c s t q bad) ∧
    (q.val ≠ 0 → a.dmaOwned q = false →
      (posWithin x.rd v.toNat x.wr = true → FacesOf (.tqCurWrite t q v) s t q fun x => { x with
        cur := v.toNat, markSet := x.markSet && decide (posDiff x.rd x.mark ≤ posDiff x.rd v.toNat) }) ∧
      (posWithin x.rd v.toNat x.wr = false → FacesOf (.tqCurWrite t q v) s t q bad) ∧
      (posWithin x.rd v.toNat x.cur = true →
        FacesOf (.tqMarkWrite t q v) s t q fun x => { x with mark := v.toNat, markSet := true }) ∧
      (posWithin x.rd v.toNat x.cur = false → FacesOf (.tqMarkWrite t q v) s t q bad) ∧
      FacesOf (.tqClearMark t q) s t q (fun x => { x with markSet := false }) ∧
      (x.markSet = true → FacesOf (.tqRewind t q) s t q fun x => { x with cur := x.mark }) ∧
      (x.markSet = false → FacesOf (.tqRewind t q) s t q bad) ∧
      (¬(x.lostAt = some a.now ∧ posWithin x.lostFrom v.toNat x.rd = true) →
        (posWithin x.rd v.toNat x.cur = true → v.toNat = x.wr ∨ (∃ p ∈ x.packets, p.pos = v.toNat) →
          ∃ u : State, exec (.tqReleaseWrite t q v) s = .next u ∧ (u.tq q).rd = v.toNat ∧ (u.tq q).cur = x.cur ∧
            (u.tq q).wr = x.wr ∧ (u.tq q).posErr = x.posErr ∧
            (u.tq q).packets = x.packets.filter (fun k => decide (posDiff x.rd v.toNat ≤ posDiff x.rd k.pos)) ∧
            u.windows = a.windows) ∧
        (posWithin x.rd v.toNat x.cur = false ∨ (v.toNat ≠ x.wr ∧ ∀ p ∈ x.packets, p.pos ≠ v.toNat) →
          ∃ u : State, exec (.tqReleaseWrite t q v) s = .next u ∧ TqFace (u.tq q) = TqFace (bad x))))

/-- O32. A packet of a tide queue (R398, R404, R405): a committed packet takes its place at WR, which moves past it by
the packet's words; a rewound one leaves no trace but its count. The register writes of the same instant come after it
(R409), so the rest stands where there are none. -/
def Obligations.TidePacketsCommitOrRewind : Prop :=
  ∀ (s : State) (q : Fin 64) (key : Nat) (bytes : List Byte), (∃ o ∈ (s.tq q).opened, o.key = key) →
    let u := s.tqCommit q key bytes
    ((u.tq q).wr = posAdd (s.tq q).wr (wordsOf bytes.length) ∧ (∀ k : Fin 64, k ≠ q → u.tq k = s.tq k) ∧
      ((s.tq q).wroteAt ≠ some s.now →
        (u.tq q).packets = (s.tq q).packets ++ [{ pos := (s.tq q).wr, bytes := bytes }] ∧
        (u.tq q).rd = (s.tq q).rd ∧ (u.tq q).cur = (s.tq q).cur ∧ (u.tq q).mark = (s.tq q).mark)) ∧
    s.tqRewind q key =
      (s.modTq q fun x => { x with opened := x.opened.filter fun o => o.key != key }).count 10 q ctrTqSpecRewound

/-- O33. `RING_TAIL` (R413, R416), the event timer (R415, R418), the starve timeout (R416), the errors of a ring
(R64, R419), receive transfers and transmit frames (R415, R417, R418) and the scrub of a queue (R411). Complete:
ringTailWrite, rxEventTimer, rxStarveTimeout, pcieCompletionTimeout, dmaRxTransfer, dmaTxFrame, tideEccScrub. The model's
choices here: log entries 21 and 54. -/
def Obligations.RingsAndTheirTimers : Prop :=
  ∀ (s : State) (t : Nat), let a := s.tick t
    (∀ (r : Fin 48) (v : Word), a.hostReach = true → a.unitUp ⟨5, 6⟩ = true →
      ((a.ring r).size ≤ v.toNat % 65536 →
        exec (.ringTailWrite t r v) s =
          .next (a.modRing r fun x => { x with tailErr := true, setAt := x.setAt.set 5 a.now })) ∧
      (v.toNat % 65536 < (a.ring r).size → (a.ring r).rstate ≠ 2 →
        exec (.ringTailWrite t r v) s = .next (a.modRing r fun x => { x with tail := v.toNat % 65536 })) ∧
      (v.toNat % 65536 < (a.ring r).size → (a.ring r).rstate = 2 →
        (a.ring r).xferUsed < (v.toNat % 65536 + (a.ring r).size - (a.ring r).head) % (a.ring r).size →
        exec (.ringTailWrite t r v) s = .next (a.modRing r fun x => { x with
          tail := v.toNat % 65536, rstate := 1, paused := none }))) ∧
    (∀ r : Fin 48, (a.ring r).unannounced ≠ 0 → (a.ring r).evtUs ≠ 0 →
      (a.ring r).firstAt + (a.ring r).evtUs * 1000 ≤ a.now → ∃ u : State, exec (.rxEventTimer t r) s = .next u ∧
        Tells (a.modRing r fun x => { x with unannounced := 0 }) u ∧
        u.host.evtStatus.getLsbD (if r.val < 32 then 99 else 100) = true) ∧
    (∀ (r : Fin 32) (w : Nat) (p : TqPacket), (a.ring r).paused = some w → (a.ring r).rstate = 2 →
      ((a.tq (a.ring r).queue).packets.find? fun p => some p.pos == (a.ring r).xferPos) = some p →
      w + (a.ring r).starveUs * 1000 ≤ a.now → ∃ u : State, exec (.rxStarveTimeout t r) s = .next u ∧
        (u.ring r).starveDrop = true ∧ (u.ring r).rstate = 1 ∧ (u.ring r).paused = none ∧
        u.host.evtStatus.getLsbD 101 = true) ∧
    (∀ (r : Fin 48) (descs : List Byte), a.dmaUp = true → (a.ring r).rstate = 1 → ∃ u : State,
      exec (.pcieCompletionTimeout t r ⟨false, descs⟩) s = .next u ∧
      (u.ring r).rstate = 3 ∧ (u.ring r).errCause = 1 ∧ (u.ring r).error = true ∧
      u.host.evtStatus.getLsbD 102 = true) ∧
    (∀ (r : Fin 16) (d : List Byte), a.dmaUp = true → (a.ring (32 + r)).rstate = 1 → (a.ring (32 + r)).owned ≠ 0 →
      a.sevOf 14 ≤ 1 → a.tbl.told = [] → d.length = 16 → txDescOk d true = true → bit (le d 10 1) 1 = true → ∃ u : State,
      exec (.pcieCompletionTimeout t ⟨32 + r, by omega⟩ ⟨true, d⟩) s = .next u ∧ (u.ring (32 + r)).rstate = 3 ∧
      (u.ring (32 + r)).errCause = 2 ∧ (u.ring (32 + r)).head = ((a.ring (32 + r)).head + 1) % (a.ring (32 + r)).size ∧
      Sent.dma ((a.ring (32 + r)).descAddr 0 + 15) (leBytes 1 130) ∈ u.sent) ∧
    (∀ (r : Fin 32) (descs : List Byte), a.dmaUp = true → (a.ring r).rstate = 1 →
      exec (.dmaRxTransfer t r descs false) s = .next (a.rxTransfer r descs false) ∧
      ((∀ p ∈ (a.tq (a.ring r).queue).packets, p.pos ≠ (a.tq (a.ring r).queue).cur) →
        exec (.dmaRxTransfer t r descs false) s = .next a) ∧
      (∀ (p : TqPacket) (d : List Byte), ((a.tq (a.ring r).queue).packets.find? fun p =>
          p.pos == (a.tq (a.ring r).queue).cur) = some p → p.bad = [] → (a.ring r).owned ≠ 0 → descs = d → d.length = 16 →
        rxDescOk d = true → p.bytes.length ≤ le d 8 2 → (a.ring r).xferUsed = 0 → (a.ring r).xferBytes = 0 →
        ∃ u : State, exec (.dmaRxTransfer t r descs false) s = .next u ∧ Sent.dma (le d 0 8) p.bytes ∈ u.sent)) ∧
    (∀ (r : Fin 16) (descs data : List Byte) (fail : Bool) (par : List (Nat × Nat)), a.dmaUp = true →
      (a.ring (32 + r)).rstate = 1 → (a.ring (32 + r)).owned ≠ 0 →
      exec (.dmaTxFrame t r descs data ⟨fail, par⟩) s =
        .next (a.txRead (32 + r) ((a.ring (32 + r)).frameDescs descs) data fail par) ∧
      (∀ d, descs = d → d.length = 16 → txDescOk d true = true → bit (le d 10 1) 1 = true → fail = false →
        exec (.dmaTxFrame t r descs data ⟨fail, par⟩) s =
          .next (a.txFrame (32 + r) 1 d (fitBytes (le d 8 2) data) (bit (le d 10 1) 2) par))) ∧
    (∀ (q : Fin 64) (n : Nat), a.tideUp = true → 0 < n → ∃ u : State, exec (.tideEccScrub t q n []) s = .next u ∧
      u.ctr 10 q ctrTqTqEccCorrected = (a.ctr 10 q ctrTqTqEccCorrected).add a.now n ∧ (u.tq q).eccBad = (a.tq q).eccBad ∧
      (u.tq q).rd = (a.tq q).rd ∧ (u.tq q).wr = (a.tq q).wr ∧ u.host = a.host)

/-- O34. An engine of the Security Island (R428, R430 to R436): who takes and gives up the lock, `CANCEL`, a
register written without a job, the output pointer, the idle release. Complete: ciphLockWrite, ciphStart, ciphCancel,
ciphInWrite, ciphOutRelWrite, ciphJobDone, lockIdleRelease, internalEngineClaim. The model's choices here: log entry 32. -/
def Obligations.EngineRegisters : Prop :=
  ∀ (s : State) (t : Nat) (e : Fin 8) (v : Word), let a := s.tick t
    let x := a.engine e
    a.unitUp ⟨4, e⟩ = true →
    (a.hostReach = true →
      (x.lock = 0 → 1 ≤ v.toNat % 256 → v.toNat % 256 ≤ 0x7F → a.engineNext e = none →
        ∃ u : State, exec (.ciphLockWrite t e v) s = .next u ∧ u = a.modEngine e (fun _ => u.engine e) ∧
          u.engine e = { x with
            lastUse := a.now, lock := v.toNat % 256, jerr := 0, jstate := 0, tamperAbort := false
            idleReleased := false, regErr := false, parentRevoked := false, tagFail := false, done := false }) ∧
      (x.hostHeld = true → v.toNat % 256 = 0 → x.jstate ≠ 1 → ∃ u : State, exec (.ciphLockWrite t e v) s = .next u ∧
        (u.engine e).lock = 0 ∧ (u.engine e).keyRegs = {} ∧ (u.engine e).key = [] ∧ (u.engine e).out = [] ∧
        (∀ k : Fin 8, k ≠ e → u.engine k = a.engine k)) ∧
      (x.hostHeld = false → exec (.ciphStart t e) s = .next a ∧ exec (.ciphCancel t e) s = .next a ∧
        exec (.ciphInWrite t e v) s = .next a ∧ exec (.ciphOutRelWrite t e v) s = .next a) ∧
      (x.hostHeld = true → x.jstate = 1 →
        (∃ u : State, exec (.ciphStart t e) s = .next u ∧ u = a.modEngine e fun _ => { x with
          lastUse := a.now, regErr := true, setAt := x.setAt.set 7 a.now }) ∧
        (∃ u : State, exec (.ciphCancel t e) s = .next u ∧ (u.engine e).jstate = 3 ∧ (u.engine e).jerr = 5 ∧
          (u.engine e).out = [] ∧ (u.engine e).key = [] ∧ (u.engine e).lock = x.lock) ∧
        (x.inputDone = false → x.inFree = 4096 → x.aadIn.length < x.aadPadded → ∃ u : State,
          exec (.ciphInWrite t e v) s = .next u ∧
          u = a.modEngine e fun _ => { x with lastUse := a.now, aadIn := x.aadIn ++ leBytes 4 v.toNat })) ∧
      (x.hostHeld = true → x.outRel ≤ v.toNat → v.toNat ≤ x.outAvail → ∃ u : State,
        exec (.ciphOutRelWrite t e v) s = .next u ∧ u = a.modEngine e fun _ => { x with lastUse := a.now, outRel := v.toNat }) ∧
      (x.hostHeld = true → x.jstate ≠ 1 → inRange x.tagLen 4 16 = true → x.decrypt = false → x.keySrc = false →
        ((List.range (if x.key256 then 8 else 4)).all fun i => (x.keyRegs.find i).isSome) = true → ∃ u : State,
        exec (.ciphStart t e) s = .next u ∧ (u.engine e).jstate = 1 ∧ (u.engine e).aadIn = [] ∧
          (u.engine e).textIn = [] ∧ (u.engine e).key = wordBytes x.keyRegs (if x.key256 then 8 else 4) ∧
          u = a.modEngine e fun _ => u.engine e)) ∧
    (x.jstate = 1 → x.inputDone = true → x.jobDecrypt = false → ∃ u : State, exec (.ciphJobDone t e) s = .next u ∧
      (u.engine e).jstate = 2 ∧ (u.engine e).jerr = 0 ∧ (u.engine e).done = true ∧ (u.engine e).key = [] ∧
      (u.engine e).out = (gcm x.key (wordBytes x.iv 3) (x.aadIn.take x.jobAad) x.textIn false).1 ∧
      u.host.evtStatus.getLsbD 104 = true) ∧
    (x.hostHeld = true → x.lastUse + x.idleMs * 1000000 ≤ a.now → ∃ u : State, exec (.lockIdleRelease t e) s = .next u ∧
      (u.engine e).lock = 0 ∧ (u.engine e).idleReleased = true ∧ u.host.evtStatus.getLsbD 106 = true) ∧
    (∀ w, x.lock = 0 → a.engineNext e = some w → w.1 < 0x90 → w.2.2 < 256 → exec (.internalEngineClaim t e) s =
      .next ((a.modSec fun z => { z with engWait := z.engWait.erase w }).claimFrame e w.2.2))

/-- O35. A revocation (R447): the slot and every valid slot below it are empty, their handles' generation has moved on,
their keys are gone; every slot outside stays as it is. -/
def Obligations.RevocationEmptiesTheSubtree : Prop :=
  ∀ (s : State) (k : Nat), k < 256 →
    let l := k :: s.keyDescendants k
    let u := (s.keyRevoke k).1
    (∀ j ∈ l, (u.keySlot j).valid = false ∧ (u.keySlot j).key = [] ∧ (u.keySlot j).recipe = none) ∧
    (u.keySlot k).gen ≠ (s.keySlot k).gen ∧ (u.keySlot k).gen ≠ 0 ∧
    (∀ j, j ∉ l → u.keySlot j = s.keySlot j) ∧ (s.keyRevoke k).2 = l.length ∧
    u.host.evtStatus.getLsbD 107 = true ∧ u.windows = s.windows

/-! The forwarding path (06 to 08). -/

/-- O36. Learning and the L2 table (R237, R238, R241, R242, R243, R248): a learn event of an address known on its port
marks its entry; a flush removes exactly the entries it matches; a move window that has run out closes; the scan
removes the entries not hit since the last and clears the marks of the rest; a standby that mirrors learned entries takes
both from its partner; a rewrite ends the badness of its entry, or of the graph memory, alone (R47 to R49, R195).
Complete: learnEventProcess, l2MoveWindowEnd, l2AgeingScan, graphRewriteDone, tableRewriteDone. The model's choices
here: log entry 13. -/
def Obligations.TheL2TableLearnsAgesAndFlushes : Prop :=
  (∀ (s : State) (e : LearnEv) (i : Nat), s.l2Find e.vid e.mac = some i → (s.l2e i).port = e.port →
    s.learn e = s.modL2e i fun x => { x with hit := true }) ∧
  (∀ (s : State) (port vid : Option Nat),
    (∀ c, c ∈ (s.l2Flush port vid).1.tbl.l2.cells ↔ c ∈ s.tbl.l2.cells ∧
      ¬((∀ p, port = some p → c.2.port = p) ∧ (∀ v, vid = some v → c.2.vid = v))) ∧
    (s.l2Flush port vid).1.windows = s.windows) ∧
  (∀ (s : State) (t : Nat), let a := s.tick t
    (∀ (e : LearnEv), (a.tbl.learnQ.find? fun e => !a.bucketBad e.vid e.mac) = some e → e.mirrored = true →
      exec (.learnEventProcess t) s =
        .next ((a.modTbl fun x => { x with learnQ := x.learnQ.erase e }).learn e)) ∧
    (∀ (e : LearnEv), (a.tbl.learnQ.find? fun e => !a.bucketBad e.vid e.mac) = some e → e.mirrored = false →
      exec (.learnEventProcess t) s =
        .next (((a.modTbl fun x => { x with learnQ := x.learnQ.erase e }).learn e).mirrorOut 0
          ([1] ++ leBytes 1 e.port ++ leBytes 2 e.vid ++ e.mac))) ∧
    (a.tbl.learnQ = [] → exec (.learnEventProcess t) s = .next a) ∧
    (∀ i : Fin 65536, ((a.l2e i).window = true → (a.l2e i).timer ≤ a.rtcMs → a.standbyMirrors 0 = false →
      exec (.l2MoveWindowEnd t i) s =
        .next ((a.modL2e i fun x => { x with window := false, frozen := false, moves := 0 }).mirrorOut 0
          ([5] ++ leBytes 1 0 ++ leBytes 2 i))) ∧
      (a.rtcMs < (a.l2e i).timer → exec (.l2MoveWindowEnd t i) s = .next a) ∧
      (a.standbyMirrors 0 = true → exec (.l2MoveWindowEnd t i) s = .next a)) ∧
    (a.tbl.ageS ≠ 0 → a.tbl.ageAt + a.tbl.ageS * 1000000000 ≤ a.now → a.standbyMirrors 0 = false →
      ∃ u : State, exec (.l2AgeingScan t) s = .next u ∧
      u.tbl.l2 = (a.tbl.l2.filter fun _ e => e.hit || e.frozen).map (fun _ e => { e with hit := false }) ∧
      u.tbl.ageAt = a.now ∧ u.windows = a.windows) ∧
    (a.tbl.ageS = 0 ∨ a.standbyMirrors 0 = true → exec (.l2AgeingScan t) s = .next a) ∧
    (a.parse.graphFault = true → exec (.graphRewriteDone t) s =
      .next (((a.modParse fun p => { p with graphFault := false }).parserUpdate 1).quieten 98)) ∧
    (a.parse.graphFault = false → exec (.graphRewriteDone t) s = .next a) ∧
    (∀ (k : Fin 8) (i : Nat), a.tbl.bad.contains (k.val, i) = true → ∃ u : State, exec (.tableRewriteDone t k i) s = .next u ∧
      (k.val, i) ∉ u.tbl.bad ∧ (∀ e, e ≠ (k.val, i) → (e ∈ u.tbl.bad ↔ e ∈ a.tbl.bad)) ∧ u.windows = a.windows) ∧
    (∀ (k : Fin 8) (i : Nat), a.tbl.bad.contains (k.val, i) = false → exec (.tableRewriteDone t k i) s = .next a))

/-- O37. Arrival, verdict, admission and expiry of a frame (R35, R36, R214, R215, R263, R268, R511): a port in service
takes a frame, one out of service takes nothing; a frame is admitted once; a verdict is given once; a frame not fixed
40 µs after its stamp is discarded with a spoiled verdict. Complete: ingressFrameStart, causewayFrameReceive,
ingressVerdict, frameAdmission, versionExpiry. The model's choices here: log entries 25 and 75. -/
def Obligations.FramesArriveAndAreJudged : Prop :=
  ∀ (s : State) (t : Nat), let a := s.tick t
    (∀ (p : Fin 24) (b : List Byte) (e : Entry) (par : List (Nat × Nat)),
      exec (.ingressFrameStart t p b ⟨e, par⟩) s = .next (a.ingress p b e par) ∧
      ((a.port p).enabled = true → (a.port p).linkUp = true → (a.port p).portSleep = false →
        a.unitUp (portUnit p) = true → ((a.ingress p b e par).port p).rx.isSome = true) ∧
      ((a.port p).enabled = false ∨ (a.port p).linkUp = false ∨ (a.port p).portSleep = true ∨
        a.unitUp (portUnit p) = false → exec (.ingressFrameStart t p b ⟨e, par⟩) s = .next a) ∧
      ((a.port p).cfg.causeway = true → exec (.causewayFrameReceive t p b ⟨e, par⟩) s = .next (a.ingress p b e par)) ∧
      ((a.port p).cfg.causeway = false → exec (.causewayFrameReceive t p b ⟨e, par⟩) s = .next a)) ∧
    (∀ (f : Nat) (cut : Bool), exec (.ingressVerdict t f cut) s = .next (a.verdict f cut) ∧
      ((a.frame f).verdict ≠ 0 → exec (.ingressVerdict t f cut) s = .next a)) ∧
    (a.pending = [] → ∀ f, exec (.frameAdmission t f) s = .next (a.frameAdmit f) ∧
      ((a.frame f).fixed = true → exec (.frameAdmission t f) s = .next a) ∧
      ((a.sw.frames.find f).isSome = true → (a.frame f).fixed = false → (a.frame f).verdict ≠ 2 →
        (a.frame f).dropRx = 1 → (a.frame f).portOk = false → exec (.frameAdmission t f) s =
          .next ((a.modFrame f fun x => { x with fixed := true }).retire f))) ∧
    (∀ f, (a.sw.frames.find f).isSome = true → (a.frame f).fixed = false → (a.frame f).placed = false →
      (a.frame f).verdict = 0 → (a.frame f).atNs + 40000 ≤ a.now → exec (.versionExpiry t f) s =
        .next ((a.count 4 0 ctrParseVerExpired).spoilFrame f).toldFlush) ∧
    (∀ f, a.now < (a.frame f).atNs + 40000 → exec (.versionExpiry t f) s = .next a)

/-- O38. The egress side of a port (R41, R269, R274, R282): nothing leaves while the device is dark; the FCS of a
cut-through frame is decided once, stomped where its verdict is not confirmed; at the end the frame leaves with its
FCS, correct or stomped, and is counted; the age check runs over held and paused ports and controllers that cannot send.
Complete: egressDequeue, cutThroughFcsDue, egressTransmitEnd, ageingHeadCheck. The model's choices here: log
entry 50. -/
def Obligations.EgressSendsWhatItDecides : Prop :=
  ∀ (s : State) (t : Nat) (p : Fin 24), let a := s.tick t
    (a.lightsOut = true → exec (.egressDequeue t p) s = .next a) ∧
    (a.lightsOut = false → exec (.egressDequeue t p) s = .next (a.dequeue p)) ∧
    (∀ x, (a.port p).tx = some x → x.ct = true → x.fcsSent = false → ∃ (u : State) (y : TxNow),
      exec (.cutThroughFcsDue t p false) s = .next u ∧ (u.port p).tx = some y ∧ y.fcsSent = true ∧
        y.bytes = fitBytes x.bytes.length x.bytes ∧
        y.stomp = ((a.frame x.frame).verdict == 0 || (a.frame x.frame).verdict == 2) ∧ u.windows = a.windows) ∧
    ((a.port p).tx = none → exec (.cutThroughFcsDue t p false) s = .next a ∧
      exec (.egressTransmitEnd t p) s = .next a) ∧
    (∀ x, (a.port p).tx = some x → x.ct = false → x.backoffUntil = none → ∃ u : State, exec (.egressTransmitEnd t p) s = .next u ∧
      Sent.eth p (x.bytes ++ (if x.stomp then stompBytes x.bytes else fcsBytes x.bytes)) (!x.stomp) ∈ u.sent) ∧
    (∀ e : Fin 56, e.val < 24 →
      ((a.port e).pz.pausedUntil = none → (a.port e).eg.holdUntil = none → exec (.ageingHeadCheck t e) s = .next a) ∧
      ((a.port e).pz.pausedUntil.isSome = true ∨ (a.port e).eg.holdUntil.isSome = true →
        exec (.ageingHeadCheck t e) s = .next ((List.range 8).foldl
          (fun s c => s.ageQueue e c (((a.port e).eg.queues.cells.map fun c => c.2.length).sum)) (a.creditRun e a.now)))) ∧
    (∀ e : Fin 56, 24 ≤ e.val → a.busCannotSend (e.val - 24) = true → exec (.ageingHeadCheck t e) s =
      .next (a.ageDeep (e.val - 24) ((a.bus (e.val - 24)).tx.deep.length)))

/-! Ethernet ports (05). -/

/-- O39. Link, speed and remote fault (R152, R154, R158, R180, R191, R279, R280): a link that comes up or goes down
does so once; a negotiated speed is taken in mode 4 alone; the end of the hold window flushes the port's queues; the
status of PLCA and of a remote fault is reported once per change, the latter in the modes that have it. Complete: linkUp,
linkDown, speedChanged, holdWindowEnd, remoteFault, plcaStatusChange. The model's choices here: log entries 18 and 51. -/
def Obligations.LinksChangeOnce : Prop :=
  ∀ (s : State) (t : Nat) (p : Fin 24), let a := s.tick t
    let x := a.port p
    (x.faultIgnored a.now = false → x.cfg.mode ≠ 5 ∨ x.remoteFault = true →
      exec (.linkDown t p) s = .next (((a.linkLost p).toldFlush).ethEnabled p) ∧
      (x.linkUp = true → (((a.linkLost p).toldFlush).ethEnabled p |>.port p).linkUp = false)) ∧
    (x.faultIgnored a.now = true → exec (.linkDown t p) s = .next a) ∧
    (x.enabled = true → x.portSleep = false → x.cfg.mode ≠ 5 ∨ x.remoteFault = false → a.unitUp (portUnit p) = true →
      exec (.linkUp t p) s = .next ((a.linkRaised p).ethEnabled p) ∧ (((a.linkRaised p).ethEnabled p).port p).linkUp = true) ∧
    (x.enabled = false → exec (.linkUp t p) s = .next a) ∧
    (∀ (rate : Nat) (half : Bool), x.enabled = true → x.cfg.mode = 4 → rate = 10 ∨ rate = 100 ∨ (rate = 1000 ∧ half = false) →
      (rate ≠ x.rateMb ∨ half ≠ x.half → exec (.speedChanged t p rate half) s =
        .next ((((a.creditRun p a.now).modPort p fun x => { x with rateMb := rate, half := half }).raiseOf
          50 (portUnit p) p).ethEnabled p)) ∧
      (rate = x.rateMb → half = x.half → exec (.speedChanged t p rate half) s = .next (a.ethEnabled p))) ∧
    (∀ (rate : Nat) (half : Bool), x.cfg.mode ≠ 4 → exec (.speedChanged t p rate half) s = .next a) ∧
    (∀ u, x.eg.holdUntil = some u → (u ≤ a.now → exec (.holdWindowEnd t p) s = .next (a.portFlush p) ∧
        ((a.portFlush p).port p).eg.holdUntil = none) ∧
      (a.now < u → exec (.holdWindowEnd t p) s = .next a)) ∧
    (∀ on : Bool, on = x.remoteFault ∨ (x.cfg.mode ≠ 1 ∧ x.cfg.mode ≠ 5) → exec (.remoteFault t p on) s = .next a) ∧
    (x.remoteFault = false → x.cfg.mode = 1 → x.faultIgnored a.now = false → ∃ u : State,
      exec (.remoteFault t p true) s = .next u ∧ (u.port p).remoteFault = true ∧ (u.port p).linkUp = x.linkUp ∧
        u.host.evtStatus.getLsbD 58 = true ∧ u.windows = a.windows) ∧
    (x.remoteFault = true → x.cfg.mode = 1 → exec (.remoteFault t p false) s =
      .next (a.modPort p fun x => { x with remoteFault := false })) ∧
    (∀ up : Bool, x.cfg.mode = 5 → x.cfg.plcaNode ≠ 0xFF → up ≠ x.plcaActive → ∃ u : State,
      exec (.plcaStatusChange t p up) s = .next u ∧ (u.port p).plcaActive = up ∧
        u.host.evtStatus.getLsbD 53 = true ∧ u.windows = a.windows ∧ u.buses = a.buses) ∧
    (∀ up : Bool, x.cfg.mode ≠ 5 → exec (.plcaStatusChange t p up) s = .next a)

/-- O40. PAUSE (R163 to R167, R191): one to another destination does nothing; one received on a port that does not act
on PAUSE is counted alone; one of zero quanta ends a pause; a pause ends at its time and not before, at a frame boundary;
a long one raises EV052 once; a port that has not fallen below its low watermark asks again at half the time it asked
for. Complete: pauseReceived, pauseExpiry, pausedLong, pauseRefresh. The model's choices here: log entry 73. -/
def Obligations.PauseStartsAndEnds : Prop :=
  ∀ (s : State) (t : Nat) (p : Fin 24), let a := s.tick t
    let x := a.port p
    (∀ d q, pauseDst x.cfg.mac d = false → exec (.pauseReceived t p ⟨d, q⟩) s = .next a) ∧
    (∀ d q, pauseDst x.cfg.mac d = true → x.cfg.pauseRxEn = false →
      exec (.pauseReceived t p ⟨d, q⟩) s = .next (a.count 2 p ctrEthRxPause)) ∧
    (∀ d q, pauseDst x.cfg.mac d = true → x.cfg.pauseRxEn = true → x.linkUp = true → x.pz.pausedUntil = none →
      q % 65536 ≠ 0 → ∃ u : State,
      exec (.pauseReceived t p ⟨d, q⟩) s = .next u ∧ (u.port p).pz.pausedFrom = a.now ∧ (u.port p).pz.pausedAt = a.now ∧
        (u.port p).pz.pausedUntil = some (a.now + bitNs (q % 65536 * 512) x.txKbps) ∧ (u.port p).cfg = x.cfg ∧
        u.windows = a.windows ∧ u.buses = a.buses ∧ u.host = a.host) ∧
    (∀ d q u, pauseDst x.cfg.mac d = true → x.cfg.pauseRxEn = true → x.linkUp = true → x.pz.pausedUntil = some u →
      q % 65536 = 0 → ∃ v : State, exec (.pauseReceived t p ⟨d, q⟩) s = .next (v.boundary p) ∧
        (v.port p).pz.pausedUntil = none) ∧
    (∀ u, x.pz.pausedUntil = some u → u ≤ a.now → exec (.pauseExpiry t p) s = .next ((a.pauseEnd p u).boundary p) ∧
      ((a.pauseEnd p u).port p).pz.pausedUntil = none ∧ ((a.pauseEnd p u).port p).pz.pausedLong = false) ∧
    (∀ u, x.pz.pausedUntil = some u → a.now < u → exec (.pauseExpiry t p) s = .next a) ∧
    (∀ u, x.pz.pausedUntil = some u → a.now < u → x.pz.pausedLong = false → x.pz.pausedAt + 10000000 < a.now → ∃ v : State,
      exec (.pausedLong t p) s = .next v ∧
        Tells (a.modPort p fun x => { x with pz := { x.pz with pausedLong := true } }) v ∧
        v.host.evtStatus.getLsbD 52 = true) ∧
    (x.pz.pausedLong = true → exec (.pausedLong t p) s = .next a) ∧
    (x.pz.pauseHigh = true → x.pz.lowWm * 1024 ≤ a.shareCells p * 256 → x.cfg.pauseTxEn = true → x.half = false →
      0 < x.pz.pauseSentNs → x.pz.pauseSentAt + x.pz.pauseSentNs / 2 ≤ a.now → exec (.pauseRefresh t p) s =
        .next ((a.modPort p fun x => { x with pz := { x.pz with pauseWant := some x.pz.quanta } }).pauseSend p)) ∧
    (x.pz.pauseHigh = false → exec (.pauseRefresh t p) s = .next a)

/-- O41. Half duplex (R159): a full-duplex port has no collisions; a late one and the sixteenth attempt discard the
frame with their counts and events; any other waits a whole number of slot times below two to the power of the
attempts, which the back-off's end takes away, unless the port is paused. Complete: collision, backoffExpiry. The
model's choices here: log entry 3. -/
def Obligations.CollisionsBackOff : Prop :=
  ∀ (s : State) (t : Nat) (p : Fin 24) (y : TxNow), let a := s.tick t
    let x := a.port p
    x.tx = some y →
    (∀ late, x.half = false → exec (.collision t p late) s = .next a) ∧
    (x.half = true → x.plcaActive = false → y.backoffUntil = none →
      exec (.collision t p true) s = .next ((((a.count 2 p ctrEthCollisions).count 2 p ctrEthLateCollisions).raiseOf 55
        (portUnit p) p).txDiscard p) ∧
      (15 ≤ y.attempts → exec (.collision t p false) s = .next ((((a.count 2 p ctrEthCollisions).count 2 p
        ctrEthExcessCollisions).raiseOf 54 (portUnit p) p).txDiscard p)) ∧
      (y.attempts < 15 → ∃ (u : State) (k : Nat), exec (.collision t p false) s = .next u ∧ k < 2 ^ min (y.attempts + 1) 10 ∧
        (u.port p).tx = some { y with
          attempts := y.attempts + 1, backoffUntil := some (a.now + k * bitNs 512 x.txKbps) } ∧
        u.windows = a.windows ∧ u.host = a.host ∧ u.buses = a.buses)) ∧
    (∀ u, y.backoffUntil = some u → u ≤ a.now → x.paused a.now = false → exec (.backoffExpiry t p) s =
      .next (a.modPort p fun x => { x with tx := some { y with backoffUntil := none, atNs := a.now } })) ∧
    (∀ u, y.backoffUntil = some u → a.now < u → exec (.backoffExpiry t p) s = .next a)

/-- O42. Speed step-down of a causeway (R178 to R182, R189): who asks, what a request that times out leaves, what a
finished and a failed step leave, a link without lock at either rate. Complete: stepDecision, stepMessageReceived,
stepRequestTimeout, stepRelockDone, stepRelockFail, stepLinkLoss. The model's choices here: log entries 17 and 51. -/
def Obligations.StepsOfACauseway : Prop :=
  ∀ (s : State) (t : Nat) (p : Fin 24), let a := s.tick t
    let x := a.port p
    let y := x.step
    (∀ sent peer : Nat, y.stepUpThenOff = false → x.stepAble = true → y.phase = 0 →
      (y.stepped = false → y.barred 1 a.now = false → max sent peer < y.downPct * 12500 * y.windowMs →
        exec (.stepDecision t p sent peer) s = .next (a.stepAsk p 1)) ∧
      (y.stepped = true → y.barred 0 a.now = false → 250000 < max sent peer →
        exec (.stepDecision t p sent peer) s = .next (a.stepAsk p 0))) ∧
    (∀ sent peer : Nat, y.stepUpThenOff = false → x.stepAble = false → exec (.stepDecision t p sent peer) s = .next a) ∧
    (∀ body, exec (.stepMessageReceived t p body) s = .next (a.stepMessage p (le body 0 1) (le body 1 1) (be body 2 2))) ∧
    (∀ body, le body 0 1 = 3 → y.phase = 1 → y.seq = be body 2 2 → ∃ u : State,
      exec (.stepMessageReceived t p body) s = .next u ∧ (u.port p).step.phase = 0 ∧
        (u.port p).step.barred y.target a.now = decide (0 < y.windowMs)) ∧
    (y.phase = 1 → y.since + 1000000 ≤ a.now → ∃ u : State, exec (.stepRequestTimeout t p) s = .next u ∧
      (u.port p).step.phase = 0 ∧ (u.port p).step.barred y.target a.now = decide (0 < y.windowMs) ∧
      (u.port p).step.barred y.target (a.now + y.windowMs * 1000000) = false ∧ (u.port p).linkUp = x.linkUp ∧
      (u.port p).rateMb = x.rateMb ∧ u.host = a.host ∧ u.windows = a.windows) ∧
    (y.phase ≠ 1 → exec (.stepRequestTimeout t p) s = .next a) ∧
    (y.phase = 3 → y.txDone = true → y.rxStepped = (y.target == 1) → y.asked = none → y.stepUpThenOff = false →
      ∃ u : State, exec (.stepRelockDone t p) s = .next u ∧
      (u.port p).step.phase = 0 ∧ (u.port p).step.stepped = (y.target == 1) ∧ u.host.evtStatus.getLsbD 56 = true) ∧
    (∀ w, y.phase = 3 → y.rxDone = false → y.swRxAt = some w →
      (w + 100000 ≤ a.now → ∃ v : State, exec (.stepRelockFail t p) s = .next (v.stepFlush p) ∧
        (v.port p).step.phase = 2 ∧ (v.port p).step.target = 1 - y.target ∧ (v.port p).step.returning = true ∧
        v.host.evtStatus.getLsbD 57 = true) ∧
      (a.now < w + 100000 → exec (.stepRelockFail t p) s = .next a)) ∧
    (∀ w, y.lockLost = some w →
      (w + 1000000 ≤ a.now → exec (.stepLinkLoss t p) s = .next ((a.modPort p fun x => { x with
        step := { x.step with lockLost := none } }).linkLost p).toldFlush) ∧
      (a.now < w + 1000000 → exec (.stepLinkLoss t p) s = .next a)) ∧
    (y.lockLost = none → exec (.stepLinkLoss t p) s = .next a)

/-! Bus controllers (04) and the signal engine (09). -/

/-- O43. What a controller in service does with its frames (R105, R106, R112, R116, R120 to R122, R125, R127, R130):
evaluation, validity, errors, arbitration, transmission; a controller out of service does none of them; one in restricted
operation, one that waits for integration and one held by a dominant bus sends nothing; none receives what it sends.
Complete: busFrameEvaluation, busFrameValid, busError, busArbitrationStart, busTxValid. The model's choices here: log
entries 52 and 72. -/
def Obligations.BusFramesRunOnALiveController : Prop :=
  ∀ (s : State) (t : Nat) (b : Fin 32), let a := s.tick t
    let x := a.bus b
    (a.busLive b = true →
      (∀ f e par, x.errWait = false → x.stuck = false → x.tx.engagedBuf = none →
        exec (.busFrameEvaluation t b f e par) s = .next (a.busEvaluate b (frameMsg f) e par)) ∧
      (∀ f e par, x.tx.engagedBuf.isSome = true → exec (.busFrameEvaluation t b f e par) s = .next a) ∧
      (∀ r, x.rx = some r → exec (.busFrameValid t b) s = .next (a.busRxValid b r)) ∧
      (x.errWait = false →
        (∀ k acked dom xl, exec (.busError t b k false acked (.frame dom xl)) s =
          .next (a.busFail b k false acked (.frame dom xl))) ∧
        (∀ k tx acked step, step = .flagBit ∨ step = .firstDominant ∨ step = .dominantRun →
          exec (.busError t b k tx acked step) s = .next (a.busAfterFlag b tx step))) ∧
      (∀ lost, x.restricted = false → x.wantMode ≠ some true → a.twin.role.holder = true → x.stuck = false →
        x.errWait = false → x.tx.aborting = false → x.tx.engagedBuf = none → a.lightsOut = false →
        exec (.busArbitrationStart t b lost) s = .next (a.busArbitrate b lost)) ∧
      (∀ n m, x.tx.engagedBuf = some n → (x.tx.buf n).msg = some m →
        exec (.busTxValid t b) s = .next (a.busSent b n m) ∧
        ∃ brs, Sent.bus b { m with brs := brs } ∈ (a.busSent b n m).sent)) ∧
    (a.busLive b = false →
      (∀ f e par, exec (.busFrameEvaluation t b f e par) s = .next a) ∧ exec (.busFrameValid t b) s = .next a ∧
      (∀ k tx acked step, exec (.busError t b k tx acked step) s = .next a) ∧
      (∀ lost, exec (.busArbitrationStart t b lost) s = .next a) ∧ exec (.busTxValid t b) s = .next a) ∧
    (∀ lost, x.restricted = true ∨ x.stuck = true ∨ x.errWait = true →
      exec (.busArbitrationStart t b lost) s = .next a)

/-- O44. Bus-off recovery, stuck dominant, integration, modes and draining (R128, R130, R138 to R141): the 128th
occurrence and no other ends recovery, with both counters 0; a dominant level is reported once; integration ends
the waits for it. Complete: busRecoveryOccurrence, stuckDominant, busIntegrationDone, busModeEffect, drainLimitExpiry. The
model's choices here: log entries 52 and 55. -/
def Obligations.BusRecoveryAndModes : Prop :=
  ∀ (s : State) (t : Nat) (b : Fin 32), let a := s.tick t
    let x := a.bus b
    (x.enabled = true → x.busOff = true → x.recovering = true → a.unitUp (busUnit b) = true →
      (x.recovery + 1 < 128 → exec (.busRecoveryOccurrence t b) s = .next (a.modBus b fun x => { x with
        recovery := x.recovery + 1, stuck := false, errWait := false })) ∧
      (128 ≤ x.recovery + 1 → exec (.busRecoveryOccurrence t b) s = .next ((a.modBus b fun x => { x with
          recovery := x.recovery + 1, stuck := false, errWait := false }).busOn b) ∧
        ((a.busOn b).bus b).busOff = false ∧ ((a.busOn b).bus b).tec = 0 ∧ ((a.busOn b).bus b).recCount = 0)) ∧
    (x.enabled = false ∨ x.busOff = false ∨ x.recovering = false → exec (.busRecoveryOccurrence t b) s = .next a) ∧
    (x.enabled = true → x.stuck = false → a.unitUp (busUnit b) = true → ∃ u : State, exec (.stuckDominant t b) s = .next u ∧
      Tells (a.modBus b fun x => { x with stuck := true }) u ∧ u.host.evtStatus.getLsbD 38 = true) ∧
    (x.stuck = true → exec (.stuckDominant t b) s = .next a) ∧
    (x.enabled = true → a.unitUp (busUnit b) = true →
      (x.integrating = false ∨ x.busOff = true → exec (.busIntegrationDone t b) s =
        .next (a.modBus b fun x => { x with stuck := false, errWait := false })) ∧
      (x.integrating = true → x.busOff = false → exec (.busIntegrationDone t b) s =
        .next ((a.modBus b fun x => { x with stuck := false, errWait := false }).busIntegrated b))) ∧
    (x.enabled = false → exec (.busIntegrationDone t b) s = .next a) ∧
    (a.twin.frozenAt = none → x.wantMode = none → exec (.busModeEffect t b) s = .next a) ∧
    (a.twin.frozenAt = none → x.wantMode = some false → a.busLive b = true → x.tx.engagedBuf = none →
      exec (.busModeEffect t b) s = .next ((a.busModeSet b false).refill b)) ∧
    (a.twin.frozenAt = none → x.wantMode = some true → a.busLive b = true → x.tx.engagedBuf = none → a.standby = false →
      exec (.busModeEffect t b) s = .next (((a.busModeSet b true).bufReturnAll b).refill b)) ∧
    (x.tx.draining = none → exec (.drainLimitExpiry t b) s = .next a) ∧
    (∀ w, x.tx.draining = some w → x.tx.aborting = false → exec (.drainLimitExpiry t b) s = .next (a.drainStep b))

/-- O45. The error states (R127): below 256 the counters take their values and the controller is error-passive exactly
while one of them is 128 or more, EV033 and EV034 telling the change, EV032 a rise to 96; nothing else of it changes. -/
def Obligations.ErrorCountersSetTheErrorState : Prop :=
  ∀ (s : State) (b : Fin 32) (tec rc : Nat), tec < 256 → rc < 256 →
    let u := s.busCounters b tec rc
    let p := decide (128 ≤ tec) || decide (128 ≤ rc)
    u.bus b = { s.bus b with tec := tec, recCount := rc, passive := p } ∧
    (∀ k : Fin 32, k ≠ b → u.bus k = s.bus k) ∧ u.windows = s.windows ∧
    ((s.bus b).tec < 96 → 96 ≤ tec → u.host.evtStatus.getLsbD 32 = true) ∧
    ((s.bus b).passive = false → p = true → u.host.evtStatus.getLsbD 33 = true) ∧
    ((s.bus b).passive = true → p = false → u.host.evtStatus.getLsbD 34 = true) ∧
    ((s.bus b).passive = p → 96 ≤ (s.bus b).tec → 96 ≤ (s.bus b).recCount → u.host = s.host)

/-- O46. The signal engine's instants (R215, R298, R308 to R311, R317, R324, R334): the frame whose commit is due
commits, the next only after those that are overdue have gone; one that waited 1 ms is dropped with its event; an old map
ends when nothing refers to it; a freshness timer that runs out makes its slot stale; a pending firing fires at the end of
its gap; what fires at one instant fires at its end. Complete: sourceFrameCommit, signalOverrun, freshnessExpiry,
triggerGapEnd, secWaitExpiry, mapVersionExpiry. The model's choices here: log entries 29 and 75. -/
def Obligations.SignalEngineInstants : Prop :=
  ∀ (s : State) (t : Nat), let a := s.tick t
    let still := a.sig.lapse = [] ∧ a.sig.due = []
    (∀ w, a.nextCommit = some w → a.unitUp ⟨3, 0⟩ = true → w.engWaitFrom = none →
      (∀ w ∈ a.sig.wait, a.now < w.atNs + 1000000) → exec (.sourceFrameCommit t) s =
        .next ((a.modSig fun g => { g with wait := g.wait.erase w }).commitWait w).fireFlush) ∧
    (a.nextCommit = none → still → exec (.sourceFrameCommit t) s = .next a) ∧
    (∀ w, (a.sig.wait.find? fun w => decide (w.atNs + 1000000 ≤ a.now)) = some w → ∃ u : State,
      exec (.signalOverrun t) s = .next u ∧ u.host.evtStatus.getLsbD 74 = true) ∧
    (a.sig.wait = [] → exec (.signalOverrun t) s = .next a) ∧
    (∀ slot, a.unitUp ⟨3, 0⟩ = true → a.sigMore = false → still → exec (.freshnessExpiry t slot) s =
      .next ((sortBy (fun a b => decide (a ≤ b)) (a.freshExpiry slot).sig.due.dedup).foldl State.fire
        ((a.freshExpiry slot).modSig fun g => { g with due := [] }))) ∧
    (∀ slot e, (a.slot slot).expiry = some e → (a.slot slot).fresh = true → e ≤ a.now →
      ((a.freshExpiry slot).slot slot).fresh = false) ∧
    (∀ slot, a.unitUp ⟨3, 0⟩ = false → exec (.freshnessExpiry t slot) s = .next a) ∧
    (∀ n x, a.map.triggers.find n = some x → (a.run n).pending = true → a.inGap n x = false → a.unitUp ⟨3, 0⟩ = true →
      a.sigMore = false → still → exec (.triggerGapEnd t n) s = .next (a.fire n)) ∧
    (∀ n, (a.run n).pending = false → still → exec (.triggerGapEnd t n) s = .next a) ∧
    (∀ b : Fin 32, exec (.secWaitExpiry t b) s = .next ((a.rxNoEngine b).txNoEngine b)) ∧
    (∀ o, a.sig.old = some o → a.mapMayExpire o = true → exec (.mapVersionExpiry t) s = .next (a.mapExpire o) ∧
      (a.mapExpire o).sig.old = none) ∧
    (∀ o, a.sig.old = some o → a.mapMayExpire o = false → exec (.mapVersionExpiry t) s = .next a) ∧
    (a.sig.old = none → exec (.mapVersionExpiry t) s = .next a)

/-! Network time (09) and audio (10). -/

/-- O47. Domains and the reference (R345, R346, R350, R353, R355, R374): a message of no domain, or on a port that takes
no part, does nothing; a domain whose Sync or Announce did not come in time is in holdover with its event; the loss of
the reference stops every domain in use, its return starts them again; a Follow_Up is kept 1 s. Complete:
timeMessageReceived, pathDelayRequestSend, domainTimeout, referenceLost, referenceReturn, followUpTableExpiry. The model's
choices here: log entries 35, 36 and 75. -/
def Obligations.TimeDomainsHoldAndListen : Prop :=
  ∀ (s : State) (t : Nat), let a := s.tick t
    (∀ (p : Fin 24) (b : List Byte) (stamp : Nat),
      (a.ptpDomain p b = none ∨ 16 ≤ p.val → exec (.timeMessageReceived t p b stamp) s = .next a) ∧
      (∀ d, a.ptpDomain p b = some d → p.val < 16 → a.unitUp timeUnit = true → a.chanOpen (portUnit p).island 5 = true →
        let v := (a.cross (portUnit p).island 5).ptpCount d (bits (le b 0 1) 0 4)
        (bits (le b 0 1) 0 4 = 0 →
          exec (.timeMessageReceived t p b stamp) s = .next (v.ptpSync d p b (v.domStamp d p stamp))) ∧
        (bits (le b 0 1) 0 4 = 8 → exec (.timeMessageReceived t p b stamp) s = .next (v.ptpFollowUp d p b)) ∧
        (bits (le b 0 1) 0 4 = 11 → exec (.timeMessageReceived t p b stamp) s = .next (v.ptpAnnounce d p b)))) ∧
    (∀ d : Fin 2, (a.dom d).dstate = .disabled ∨ (a.dom d).dstate = .fault →
      exec (.pathDelayRequestSend t d) s = .next a) ∧
    (∀ d : Fin 2, (a.dom d).dstate ≠ .disabled → (a.dom d).dstate ≠ .fault → (a.dom d).profile ≠ 1 →
      let v := a.modDom d fun x => { x with reqSeq := ((a.dom d).reqSeq + 1) % 65536 }
      ((a.dom d).slavePort = 0xFF → exec (.pathDelayRequestSend t d) s = .next v) ∧
      ((a.dom d).slavePort ≤ 23 → exec (.pathDelayRequestSend t d) s = .next ((v.ptpSend d (a.dom d).slavePort
        (ptpMessage 2 1 (a.dom d).num false 0 (a.dom d).slavePort (((a.dom d).reqSeq + 1) % 65536)
          (List.replicate 10 0))).count 8 (0x10000 + d) ctrDomDelayReqTx))) ∧
    (a.pending = [] → ∀ d : Fin 2,
      ((a.dom d).dstate = .acquiring → (a.dom d).lastSync + (a.dom d).syncTimeout * (a.dom d).syncNs ≤ a.now →
        ∃ u : State, exec (.domainTimeout t d false) s = .next u ∧ (u.dom d).dstate = .holdover ∧ (u.dom d).goodRun = 0 ∧
          (u.dom d).clock = (a.dom d).clock ∧ u.host.evtStatus.getLsbD 81 = true ∧ u.windows = a.windows) ∧
      ((a.dom d).dstate = .listening → ∀ ann, exec (.domainTimeout t d ann) s = .next a)) ∧
    (a.time.refOk = false → exec (.referenceLost t) s = .next a) ∧
    (a.time.refOk = true → exec (.referenceReturn t) s = .next a) ∧
    (a.time.refOk = true → (∀ d < 2, (a.dom d).dstate = .disabled) → a.time.active = none →
      exec (.referenceLost t) s = .next ((a.modTime fun x => { x with refOk := false }).report 163)) ∧
    (a.time.refOk = false → (∀ d < 2, (a.dom d).dstate = .disabled) →
      exec (.referenceReturn t) s = .next ((a.modTime fun x => { x with refOk := true }).quieten 163)) ∧
    (a.time.refOk = false → (a.dom 0).dstate = .fault → (a.dom 1).dstate = .disabled →
      exec (.referenceReturn t) s = .next (((a.modTime fun x => { x with refOk := true }).domListen 0).quieten 163)) ∧
    (∀ p : Fin 24, exec (.followUpTableExpiry t p) s = .next (a.modPort p fun x => { x with
      followUp := x.followUp.filter fun e => decide (a.now ≤ e.atNs + 1000000000) }))

/-- O48. Slews, pins and captures (R358, R364, R365): a slew ends at its instant and not before; a pulse ends at
its time on the pin's inactive level; a capture takes the active time of its edge, the seventeenth is lost with one
event; a trigger that is due fires (R317, R359 to R364). Complete: slewEnd, timeOutPulseEnd, timeInCapture,
timeTriggerFire. The model's choices here: log entries 34 and 75. -/
def Obligations.SlewsPinsAndCaptures : Prop :=
  ∀ (s : State) (t : Nat), let a := s.tick t
    (∀ w, a.time.slew = some w → (a.slewEndNs w ≤ a.now →
        exec (.slewEnd t) s = .next (a.modTime fun x => { x with slew := none })) ∧
      (a.now < a.slewEndNs w → exec (.slewEnd t) s = .next a)) ∧
    (a.time.slew = none → exec (.slewEnd t) s = .next a) ∧
    (∀ (k : Fin 8) (e : Nat), (a.timeOut k).pulseEnd = some e →
      (e ≤ a.activeNs → exec (.timeOutPulseEnd t k) s =
        .next (a.pinLevel k fun o => { o with level := !o.pol, pulseEnd := none })) ∧
      (a.activeNs < e → exec (.timeOutPulseEnd t k) s = .next a)) ∧
    (∀ (k : Fin 8) (rising : Bool), let x := a.timeIn k
      (bit x.edges (if rising then 0 else 1) = false → exec (.timeInCapture t k rising) s = .next a) ∧
      (bit x.edges (if rising then 0 else 1) = true → x.caps.length < 16 → ∃ u : State, exec (.timeInCapture t k rising) s = .next u ∧
        (u.timeIn k).caps = x.caps ++ [{
          ns := (a.activeAt a.now).toNat / 65536 % 2 ^ 64, frac := (a.activeAt a.now).toNat % 65536
          edge := flag (!rising), unset := a.time.active.isNone }] ∧ (u.timeIn k).lost = x.lost ∧ u.host = a.host) ∧
      (bit x.edges (if rising then 0 else 1) = true → 16 ≤ x.caps.length → x.overflow = false → ∃ u : State,
        exec (.timeInCapture t k rising) s = .next u ∧ (u.timeIn k).caps = x.caps ∧
          (u.timeIn k).lost = min 0xFFFF (x.lost + 1) ∧ u.host.evtStatus.getLsbD 87 = true) ∧
      (bit x.edges (if rising then 0 else 1) = true → 16 ≤ x.caps.length → x.overflow = true → ∃ u : State,
        exec (.timeInCapture t k rising) s = .next u ∧ (u.timeIn k).caps = x.caps ∧ u.host = a.host)) ∧
    (∀ n : Fin 32, a.trigDue n = false → exec (.timeTriggerFire t n) s = .next a.fireFlush) ∧
    (∀ n : Fin 32, a.trigDue n = true → (a.trig n).targets = 0 → exec (.timeTriggerFire t n) s =
      .next ((((a.count 8 (0x20000 + n) ctrTrigTrigFired).firePins n).each
        (((a.count 8 (0x20000 + n) ctrTrigTrigFired).firePins n).firePorts n)
          fun s p => s.tdmFrame p (a.trig n).period).afterFire n).fireFlush)

/-- O49. Audio (R379, R382, R383): a port that has had no frame start for two periods stops with its event and its
samples go; a listener without frames for 10 ms is lost with its event (R381); a block is computed once (R378). Complete:
tdmNoFrame, aafStreamLost, audioBlockCompute. The model's choices here: log entry 37. -/
def Obligations.AudioSourcesStop : Prop :=
  ∀ (s : State) (t : Nat), let a := s.tick t
    (∀ k : Fin 8, let x := a.tdm k
      (x.enable = true → a.unitUp (tdmUnit k) = true → x.noFrame = false → (a.trig x.trig).period ≠ 0 →
        x.lastFrame + 2 * (a.trig x.trig).period ≤ a.now → ∃ u : State, exec (.tdmNoFrame t k) s = .next u ∧
          (u.tdm k).noFrame = true ∧ (u.tdm k).running = false ∧ (u.tdm k).sdo = [] ∧
          u.host.evtStatus.getLsbD 88 = true ∧
          (∀ y ∈ u.aud.inputs, y ∈ a.aud.inputs ∧
            ¬(y.src = 0 ∧ x.inBase ≤ y.chan ∧ y.chan < x.inBase + x.slots))) ∧
      (x.enable = false → exec (.tdmNoFrame t k) s = .next a)) ∧
    (∀ k : Fin 128, 64 ≤ k.val → (a.aaf k).enable = true → (a.aaf k).lost = false →
      (a.aaf k).lastAt + 10000000 ≤ a.now → ∃ u : State, exec (.aafStreamLost t k) s = .next u ∧ (u.aaf k).lost = true ∧
        u.host.evtStatus.getLsbD 89 = true ∧ (∀ y ∈ u.aud.inputs, y ∈ a.aud.inputs ∧ ¬(y.src = 1 ∧ y.sidx = k.val))) ∧
    (∀ k : Fin 128, k.val < 64 → exec (.aafStreamLost t k) s = .next a) ∧
    (a.unitUp audioUnit = true → a.aud.block ≠ ((a.activeNs / 1000000 + 2) * 1000000 : Nat) →
      exec (.audioBlockCompute t) s = .next (a.computeBlock ((a.activeNs / 1000000 + 2) * 1000000 : Nat))) ∧
    (a.aud.block = ((a.activeNs / 1000000 + 2) * 1000000 : Nat) → exec (.audioBlockCompute t) s = .next a)

/-! Faults (14), tampering and entropy (12). -/

/-- O50. A source enters fault or reads quiet again (R438, R449, R463 to R468, R474, R475): what each row does, by
the kind of the source; a reserved source does nothing. Complete: faultSourceEntry, faultSourceQuiet, tamperAlarm,
entropyHealthFail, brokenPair, brokenPairRestored, arbitrationWindowClose, quietPeriodEnd, budgetWindowEnd,
faultPersistLatch. The model's choices here: log entries 44, 48, 64 and 75. -/
def Obligations.FaultSourcesEnterAndReturn : Prop :=
  ∀ (s : State) (t : Nat), let a := s.tick t
    (∀ (n : Fin 256) (target : Nat) (spec : Bool), exec (.faultSourceEntry t n target spec) s =
      .next (a.sourceEnters n target spec)) ∧
    (∀ k : Fin 7, exec (.tamperAlarm t k) s = .next (a.tamperEnter k)) ∧
    (a.islandUp 4 = true → exec (.entropyHealthFail t) s = .next a.entropyFails) ∧
    (a.islandUp 4 = false → exec (.entropyHealthFail t) s = .next a) ∧
    exec (.faultSourceQuiet t 144) s = .next ((a.modSec fun x => { x with entropyOk := true }).quieten 144) ∧
    (∀ n : Fin 256, inRange n 147 153 = true → exec (.faultSourceQuiet t n) s = .next (a.tamperLeave (n - 147))) ∧
    (∀ n : Fin 256, inRange n 147 153 = false → n.val ≠ 144 → (srcRow n).isSome = true →
      exec (.faultSourceQuiet t n) s = .next (a.quieten n)) ∧
    (∀ n : Fin 256, srcRow n = none → exec (.faultSourceQuiet t n) s = .next a ∧
      (∀ high, exec (.brokenPair t n high) s = .next a) ∧ exec (.brokenPairRestored t n) s = .next a) ∧
    (∀ (n : Fin 256) (high : Bool), (srcRow n).isSome = true → (a.src n).force = 0 → exec (.brokenPair t n high) s =
      .next ((a.modSrc n fun x => { x with pair := if high then 3 else 0, pairAt := a.now }).breakPair n)) ∧
    (∀ n : Fin 256, (srcRow n).isSome = true → (a.src n).force = 0 → wireSource n = n →
      exec (.brokenPairRestored t n) s = .next (a.modSrc n fun x => { x with
        pair := 1, pairAt := a.now, st := if x.st == .broken then .quiet else x.st })) ∧
    (∀ n : Fin 256, (srcRow n).isSome = true → (a.src n).force = 0 → wireSource n ≠ n →
      exec (.brokenPairRestored t n) s = .next (((a.modSrc n fun x => { x with
        pair := 1, pairAt := a.now, st := if x.st == .broken then .quiet else x.st }).wireQuiet
          (wireSource n)).readAgain (wireSource n))) ∧
    (∀ w, a.flt.windowOpen = some w → (w + 200 ≤ a.now → exec (.arbitrationWindowClose t) s = .next a.closeWindow) ∧
      (a.now < w + 200 → exec (.arbitrationWindowClose t) s = .next a)) ∧
    (∀ (n : Fin 256) (q : Nat), a.quietSince n = some q → a.faultMore n = false →
      (q + (a.src n).quietMs * 1000000 ≤ a.now → exec (.quietPeriodEnd t n) s = .next (a.recover n)) ∧
      (a.now < q + (a.src n).quietMs * 1000000 → exec (.quietPeriodEnd t n) s = .next a)) ∧
    (∀ n : Fin 256, (a.budgetOpen n = true → exec (.budgetWindowEnd t n) s = .next a) ∧
      (a.budgetOpen n = false → exec (.budgetWindowEnd t n) s =
        .next (a.modSrc n fun x => { x with windowAt := none, inWindow := 0 }))) ∧
    (∀ (n : Fin 256) (r : Nat), (a.src n).returnedAt = some r → (a.src n).st = .fault → (a.src n).reading = 2 →
      a.evaluated n = true → r + 1000000000 ≤ a.now → exec (.faultPersistLatch t n) s =
        .next (((a.modSrc n fun x => { x with st := .latched, quietFrom := none }).latchEvent n).faultAction n
          (a.src n).entrySev true))

/-- O51. The action of a source (R24, R468, R470, R471): none below severity 2; units at 2; the island at 3, which
for the Always-On Island is the safe state; the safe state at 4; in the safe state nothing more. The model's
choices here: log entry 44. -/
def Obligations.FaultActionsBySeverity : Prop :=
  ∀ (s : State) (n : Nat) (latch : Bool),
    (∀ sev, s.boot.state = 4 → s.faultAction n sev latch = s) ∧
    (∀ sev, sev ≤ 1 → s.faultAction n sev latch = s) ∧
    (s.boot.state ≠ 4 → s.faultAction n 4 latch = s.safeState ∧
      (srcRestartIsland n = 6 → s.faultAction n 3 latch = s.safeState) ∧
      (srcRestartIsland n ≠ 6 → s.faultAction n 3 true = s.holdIsland (srcRestartIsland n) n ∧
        s.faultAction n 3 false = s.restartIsland (srcRestartIsland n) n) ∧
      (∀ u, s.srcUnits n = [u] → s.faultAction n 2 true = s.holdUnit u n ∧ s.faultAction n 2 false = s.restartUnit u n)) ∧
    (∀ k, k < 256 → (srcRow k).isSome = true → srcIsland k = 6 → srcRestartIsland k = 6 ∨ k ≤ 6)

/-- O52. Units and islands that restart (R20, R21, R23, R364, R468, R469, R478, R479): the return of each, the
escalation at 50 ms, channels, storms of a pin group, recalibration, MDIO, memory training, held outputs. Complete:
unitRestartDone, unitRestartEscalation, islandRestartDone, handshakeTimeout, channelResetTimeout, glitchStorm,
timerRecalibration, mdioTimeout, lpddrTrainingTimeout, safeStateOutputRelease. The model's choices here: log entries 3,
44, 48 and 74. -/
def Obligations.RestartsReturnOrEscalate : Prop :=
  ∀ (s : State) (t : Nat), let a := s.tick t
    (∀ (i : Fin 7) (u : Fin 64), (a.unitSt i u).restarting = true → a.islandUp i = true → a.islandUp 5 = true →
      exec (.unitRestartDone t i u) s = .next (a.unitBack ⟨i, u⟩)) ∧
    (∀ (i : Fin 7) (u : Fin 64), (a.unitSt i u).restarting = false →
      exec (.unitRestartDone t i u) s = .next a ∧ exec (.unitRestartEscalation t i u) s = .next a) ∧
    (∀ (i : Fin 7) (u : Fin 64), (a.unitSt i u).restarting = true → a.islandUp 5 = true → i.val ≠ 6 →
      (a.unitSt i u).cause = 0xFF → max (a.unitSt i u).since (if i.val = 5 then 0 else (a.isl 5).backAt) + 50000000 ≤ a.now →
      exec (.unitRestartEscalation t i u) s = .next (a.restartIsland i 0xFF)) ∧
    (∀ i : Fin 7, (a.isl i).restarting = true → a.boot.state ≠ 4 → i.val = 5 ∨ a.islandUp 5 = true →
      exec (.islandRestartDone t i) s = .next (a.islandBack i).twinReview) ∧
    (∀ i : Fin 7, (a.isl i).restarting = false → exec (.islandRestartDone t i) s = .next a) ∧
    (∀ i j : Fin 7, channelWidth i j ≠ 0 → a.islandUp i = true → a.islandUp j = true → a.chanOpen i j = true →
      ∃ (v : State) (k : Nat), exec (.handshakeTimeout t i j) s = .next (v.toldFlush.pulse j k) ∧
        (v.chan i j).resetAt = some a.now) ∧
    (∀ i j : Fin 7, channelWidth i j = 0 ∨ a.islandUp j = false → exec (.handshakeTimeout t i j) s = .next a) ∧
    (∀ (i j : Fin 7) (r : Nat), (a.chan i j).resetAt = some r →
      (r + (a.isl i).straitNs ≤ a.now → exec (.channelResetTimeout t ⟨i, j⟩) s =
        .next (a.modChan i j fun _ => { closed := true })) ∧
      (a.now < r + (a.isl i).straitNs → exec (.channelResetTimeout t ⟨i, j⟩) s = .next a)) ∧
    (∀ i j : Fin 7, (a.chan i j).resetAt = none → exec (.channelResetTimeout t ⟨i, j⟩) s = .next a) ∧
    (∀ g : Fin 10, (∃ (v : State) (n : Nat), exec (.glitchStorm t g true) s = .next (v.report (192 + g)) ∧ 100 < n ∧
        v.flt = { a.flt with storm := setBit a.flt.storm g true } ∧
        v.ctrs = (a.count 12 (0x20000 + g) ctrPinGlitchesRemoved n).ctrs) ∧
      (bit a.flt.storm g = true → exec (.glitchStorm t g false) s =
        .next ((a.modFlt fun f => { f with storm := setBit f.storm g false }).quieten (192 + g))) ∧
      (bit a.flt.storm g = false → exec (.glitchStorm t g false) s = .next a)) ∧
    (a.slp.ps = .sleep ∨ a.unitUp ⟨5, 7⟩ = true → exec (.timerRecalibration t true) s = .next (a.quieten 183) ∧
      ∃ (v : State) (k : Nat), exec (.timerRecalibration t false) s = .next (v.report 183 k) ∧ v.flt = a.flt ∧
        (a.slp.ps = .sleep → 384 ≤ k)) ∧
    (a.slp.ps ≠ .sleep → a.unitUp ⟨5, 7⟩ = false → ∀ ok, exec (.timerRecalibration t ok) s = .next a) ∧
    (∀ i : Fin 2, ∃ u : State, exec (.mdioTimeout t i) s = .next u ∧ (bit a.flt.mdioRetry i = false →
      u = a.modFlt fun f => { f with mdioRetry := setBit f.mdioRetry i true })) ∧
    (exec (.lpddrTrainingTimeout t) s = .next ((a.modBoot fun b => { b with lpddr := false }).report 165)) ∧
    (∀ r, a.boot.pins.outputsHeld = some r → a.boot.state = 4 → r ≤ a.now → exec (.safeStateOutputRelease t) s =
      .next ((a.timeOutsInactive.tdmInactive).modBoot fun b => { b with pins := { b.pins with outputsHeld := none } })) ∧
    (∀ r, a.boot.pins.outputsHeld = some r → a.now < r → exec (.safeStateOutputRelease t) s = .next a)

/-! Twin (15), causeway (16), sleep (17), start-up and update (18). -/

/-- O53. The lease and the token (R489 to R493, R502): who renews and when, when a lease lapses, when a standby
claims, what a change of `LEASE_IN` does, and the handover. Complete: leaseRenewal, firmwareHeartbeat, leaseLapse,
tokenClaim, leaseInChange, handoverBusesIdle, twinHandoverReceived. The model's choices here: log entries 13, 55
and 75. -/
def Obligations.TheLeaseMovesTheToken : Prop :=
  ∀ (s : State) (t : Nat), let a := s.tick t
    let w := a.twin
    (w.role.holder = true → a.renewable = true → w.renewedAt + w.leaseUs * 250 ≤ a.now → ∃ u : State,
      exec (.leaseRenewal t) s = .next u ∧ u.twin = { w with renewedAt := a.now, seq := w.seq + 1 } ∧
        u.windows = a.windows ∧ u.buses = a.buses ∧ u.host = a.host ∧
        (w.role = .active → Sent.twin 1 (leBytes 4 (w.seq + 1)) ∈ u.sent)) ∧
    (w.role.holder = false → exec (.leaseRenewal t) s = .next a.twinReview) ∧
    (a.fwUp = true → exec (.firmwareHeartbeat t) s =
      .next (a.modTwin fun w => { w with heartbeat := some a.now }).twinReview) ∧
    (a.fwUp = false → exec (.firmwareHeartbeat t) s = .next a) ∧
    (a.leaseRuns = true → w.role = .active → a.handoverMore = false → w.renewedAt + w.leaseUs * 1000 ≤ a.now → exec (.leaseLapse t) s =
      .next (((a.count 13 0 ctrTwinLapses).setRole .frozen 1).completeOf 0x0D04 (fun _ => true) .denied)) ∧
    (w.role ≠ .active → exec (.leaseLapse t) s = .next a) ∧
    (a.now < w.renewedAt + w.leaseUs * 1000 → exec (.leaseLapse t) s = .next a) ∧
    (a.leaseRuns = true → a.mayClaim = true → exec (.tokenClaim t) s = .next (a.claim 2)) ∧
    (a.mayClaim = false → exec (.tokenClaim t) s = .next a) ∧
    (∀ l, w.leaseIn = l → exec (.leaseInChange t l) s = .next a) ∧
    (w.leaseIn ≠ .held → w.role = .active → w.sideB = true → exec (.leaseInChange t .held) s =
      .next ((a.modTwin fun w => { w with leaseIn := .held, leaseInAt := a.now }).setRole .frozen 6)) ∧
    (w.leaseIn ≠ .notHeld → w.role ≠ .active → w.handoverIn = true → exec (.leaseInChange t .notHeld) s =
      .next ((a.modTwin fun w => { w with leaseIn := .notHeld, leaseInAt := a.now }).claim 3)) ∧
    (∀ l, w.leaseIn ≠ l → w.role = .standby → w.handoverIn = false → exec (.leaseInChange t l) s =
      .next (a.modTwin fun w => { w with leaseIn := l, leaseInAt := a.now }).twinPaths.joinReview) ∧
    (∀ h, w.handover = some h → w.role = .active → a.busesIdle = true ∨ h + 100000000 ≤ a.now →
      exec (.handoverBusesIdle t) s = .next ((((a.setRole .standby 3).send (.twin 4 [])).count 13 0
        ctrTwinHandovers).completeOf 0x0D04 (fun _ => true) .ok)) ∧
    (w.handover = none → exec (.handoverBusesIdle t) s = .next a) ∧
    (a.standby = true → w.leaseIn = .notHeld → exec (.twinHandoverReceived t) s = .next (a.claim 3)) ∧
    (a.standby = true → w.leaseIn ≠ .notHeld → exec (.twinHandoverReceived t) s =
      .next (a.modTwin fun w => { w with handoverIn := true })) ∧
    (a.standby = false → exec (.twinHandoverReceived t) s = .next a)

/-- O54. The messages of the twin link (R488, R494, R496 to R501): what a standby takes and a device in another
role leaves, mirrored changes, resynchronisation, health, BIST slices, shadows. Complete: twinRenewReceived,
twinMirrorReceived, twinResyncReceived, twinTsyncReceived, twinTsyncSend, twinHelloSend, twinHelloReceived, twinLinkDown,
twinHealthReceived, healthReportTimeout, bistSlice, twinHealthSend, shadowTimeout. The model's choices here: log entries
13, 55 and 56. -/
def Obligations.TwinMessagesReachTheirRole : Prop :=
  ∀ (s : State) (t : Nat) (body : List Byte), let a := s.tick t
    let w := a.twin
    (a.standby = true → exec (.twinRenewReceived t body) s = .next (a.modTwin fun w => { w with claimFrom := some a.now })) ∧
    (w.role = .standby → w.stale = false → bit w.mirror (le body 0 1) = true → ∃ (v : State) (n : Nat),
      exec (.twinMirrorReceived t body) s = .next (v.takeMirror (le body 0 1) (body.drop 1)) ∧ n ≤ 200 ∧
        v.twin = { w with lag := max w.lag n } ∧ v.windows = a.windows ∧ v.tbl = a.tbl ∧ v.parse = a.parse ∧ v.sig = a.sig) ∧
    (w.role = .resyncing → exec (.twinResyncReceived t body) s =
      .next ((a.each (bulkParts body.length body) fun s p => s.takeBulk p.1 p.2).modTwin fun w => { w with
        resyncDone := true, stale := false })) ∧
    (a.standby = true → bit w.mirror 3 = true → le body 0 1 = 3 → exec (.twinTsyncReceived t body) s = .next (a.takeTime body)) ∧
    (a.standby = false → exec (.twinRenewReceived t body) s = .next a ∧ exec (.twinTsyncReceived t body) s = .next a ∧
      (∀ b, exec (.shadowTimeout t b) s = .next a) ∧ (∀ p, exec (.bistSlice t p) s = .next a) ∧
      (w.role ≠ .resyncing → exec (.twinMirrorReceived t body) s = .next a ∧ exec (.twinResyncReceived t body) s = .next a ∧
        exec (.twinHealthSend t) s = .next a)) ∧
    (w.role.paired = true → w.linkUp = true → a.unitUp ⟨0, 41⟩ = true →
      exec (.twinTsyncSend t) s = .next (a.send (.twin 6 a.tsyncBody))) ∧
    (a.twinReview.twin.role.paired = true → a.twinReview.unitUp ⟨0, 41⟩ = true → exec (.twinHelloSend t) s =
      .next (a.twinReview.send (.twin 0 a.twinReview.twinHello))) ∧
    (w.role.paired = false → exec (.twinHelloReceived t body) s = .next a ∧ exec (.twinTsyncSend t) s = .next a) ∧
    (w.role = .standby → a.unitUp ⟨0, 41⟩ = true → bit (le body 9 1) 1 = false → w.linkUp = true →
      exec (.twinHelloReceived t body) s = .next (a.modTwin fun w => { w with
        linkUp := true, partner := some (roleOf (le body 0 1)), partnerOk := decide (le body 2 4 = w.leaseUs ∧
          le body 6 2 = w.guardUs ∧ le body 8 1 = w.mirror ∧ le body 1 1 ≠ flag w.sideB)
        partnerConsent := bit (le body 9 1) 0, resyncSent := false
        copied := w.copied && (le body 0 1 == 2 || le body 0 1 == 5) }).joinReview) ∧
    (w.role = .resyncing → exec (.twinLinkDown t) s =
      .next ((a.modTwin fun w => { w with linkUp := false, resyncSent := false, copied := false }).setRole .joining 4)) ∧
    (w.role ≠ .resyncing → w.linkUp = false → exec (.twinLinkDown t) s =
      .next (a.modTwin fun w => { w with linkUp := false, resyncSent := false, copied := false })) ∧
    (w.role ≠ .active → exec (.twinHealthReceived t body) s = .next a ∧ exec (.healthReportTimeout t) s = .next a) ∧
    (w.role = .active → w.reportAt = none → w.report = none → bit (healthOf body).flags 3 = false →
      exec (.twinHealthReceived t body) s = .next
        ((a.modTwin fun w => { w with reportAt := some a.now, reportMissed := false }).takeReport (healthOf body))) ∧
    (w.role = .active → w.reportMissed = false → max w.roleAt (w.reportAt.getD 0) + 300000000 ≤ a.now → ∃ u : State,
      exec (.healthReportTimeout t) s = .next u ∧ Tells (a.modTwin fun w => { w with reportMissed := true }) u ∧
        u.host.evtStatus.getLsbD 115 = true) ∧
    (a.standby = true → (∃ u : State, exec (.bistSlice t true) s = .next u ∧ u.twin = { w with slices := w.slices + 1 } ∧
        u.host = a.host ∧ u.flt = a.flt) ∧
      (∃ (v : State) (n k : Nat), exec (.bistSlice t false) s = .next (v.report n k) ∧ v.twin = { w with
        slices := w.slices + 1, bistFails := min 0xFFFF (w.bistFails + 1) })) ∧
    (w.role = .standby → ∃ v : State, exec (.twinHealthSend t) s = .next (v.takeReport a.healthNow) ∧
      Sent.twin 3 (a.healthNow.bytes ++ leBytes 1 w.worstBus) ∈ v.sent ∧ v.twin.repSeq = (w.repSeq + 1) % 65536 ∧
      v.twin.slices = 0 ∧ v.twin.role = .standby) ∧
    (∀ b : Fin 32, a.standby = true → (a.bus b).tx.held3 = [] → (a.bus b).tx.deep = [] →
      exec (.shadowTimeout t b) s = .next (a.refill b))

/-- O55. The causeway (R510, R511, R520 to R524, R526, R531): greetings, topology, neighbours and devices not heard,
engines of an encrypting port, events that reach the master; firmware does all of it. Complete: cwHelloSend,
cwHelloReceived, topologySend, topologyReceived, cwEngineClaim, neighbourLost, deviceUnheard, cwEventReceived. The model's
choices here: log entries 15 and 57. -/
def Obligations.CausewayKeepsItsChain : Prop :=
  ∀ (s : State) (t : Nat), let a := s.tick t
    (∀ p : Fin 24, ((a.port p).cfg.causeway = true → a.fwUp = true →
        exec (.cwHelloSend t p) s = .next (a.cwLink p (a.helloBody p) true)) ∧
      ((a.port p).cfg.causeway = false ∨ a.fwUp = false → exec (.cwHelloSend t p) s = .next a)) ∧
    (∀ (p : Fin 24) (body : List Byte),
      (a.cwControl p body 1 = true → (a.port p).linkUp = true → exec (.cwHelloReceived t p body) s =
        .next (a.takeHello p (outerHead body) (field body 6 6) (body.drop 30))) ∧
      (a.cwControl p body 2 = true → exec (.topologyReceived t p body) s = .next (a.takeTopology (body.drop 30))) ∧
      (a.cwControl p body 1 = false → exec (.cwHelloReceived t p body) s = .next a) ∧
      (a.cwControl p body 2 = false → exec (.topologyReceived t p body) s = .next a)) ∧
    (∀ p : Fin 24, (a.port p).cfg.causeway = false → exec (.cwEngineClaim t p) s = .next a) ∧
    (∀ (p : Fin 24) (e : Nat), (a.port p).cfg.causeway = true → (a.port p).cw.enc = true → (a.port p).cw.engTx = none →
      a.engineHigh (a.keySlot (handleSlot ((a.port p).cw.handle 0))).engines = some e → ∃ v : State,
      exec (.cwEngineClaim t p) s = .next (v.encJudge p) ∧ (v.port p).cw.engTx = some e ∧
        (v.engine e).lock = cwClient p 0) ∧
    (exec (.topologySend t) s = .next a.topologySend) ∧
    (a.cw.id = 0 ∨ a.fwUp = false → exec (.topologySend t) s = .next a) ∧
    (a.cw.id ≠ 0 → a.fwUp = true → ∃ u : State, exec (.topologySend t) s = .next u ∧ u.cw.topoAt = a.now) ∧
    (∀ p : Fin 24, a.fwUp = true → (a.port p).cw.nbUp = true →
      ((a.port p).cw.nbHeard + 30000000 ≤ a.now → exec (.neighbourLost t p) s = .next (a.nbLost p) ∧
        ((a.nbLost p).port p).cw.nbUp = false) ∧
      (a.now < (a.port p).cw.nbHeard + 30000000 → exec (.neighbourLost t p) s = .next a)) ∧
    (∀ (d : Fin 256) (x : Peer), a.fwUp = true → a.cw.peers.find d = some x →
      (x.heard + 300000000 ≤ a.now → exec (.deviceUnheard t d) s =
        .next ((a.modCw fun c => { c with peers := c.peers.erase d }).chainSettle a.chain)) ∧
      (a.now < x.heard + 300000000 → exec (.deviceUnheard t d) s = .next a)) ∧
    (∀ (d : Nat) (body : List Byte), (a.fwUp = true → a.isMaster = true → ∃ u : State,
        exec (.cwEventReceived t d body) s = .next u ∧ Tells a u ∧ u.host.evtStatus.getLsbD 116 = true) ∧
      (a.isMaster = false → exec (.cwEventReceived t d body) s = .next a))

/-- O56. Remote access and its locks (R516, R527 to R530): what a far device serves, what an initiator does with
the answers, timeouts, back-off, stored completions and locks that end. Complete: remoteRequestReceived,
lockRequestReceived, writeAndUnlockReceived, lockGrantReceived, lockRetryReceived, remoteCompletionReceived,
peerCommandReceived, remoteCacheExpiry, farLockExpiry, lockBackoffExpiry, remoteTimeout. The model's choices here: log
entries 15, 23 and 68. -/
def Obligations.RemoteAccessIsServedAndEnds : Prop :=
  ∀ (s : State) (t dev : Nat) (body : List Byte), let a := s.tick t
    (a.fwUp = true →
      (le body 0 1 = 0 → 13 ≤ body.length → exec (.remoteRequestReceived t dev body) s = .next (a.farServe dev body)) ∧
      (le body 0 1 = 2 → dev ≠ a.cw.id → a.farStored dev (be body 7 4) = none →
        (a.lockTarget (le body 1 1) (be body 2 4) = stOk → exec (.lockRequestReceived t dev body) s =
          .next (a.lockAsk (le body 1 1) (be body 2 4) dev (le body 6 1) ((a.hopsTo dev).getD 0) (be body 7 4))) ∧
        (∀ st, a.lockTarget (le body 1 1) (be body 2 4) = st → st ≠ stOk → exec (.lockRequestReceived t dev body) s =
          .next (a.farDone dev (be body 7 4) (lockContent (le body 1 1) (be body 2 4))
            (doneBody (be body 7 4) st 0 [])))) ∧
      (le body 0 1 = 4 → exec (.writeAndUnlockReceived t dev body) s = .next (a.unlockServe dev body)) ∧
      (∀ r, le body 0 1 = 3 → a.lockRun dev (le body 6 1) = some r →
        exec (.lockGrantReceived t dev body) s = .next (a.grantTake r (be body 7 8))) ∧
      (le body 0 1 = 3 → a.lockRun dev (le body 6 1) = none → exec (.lockGrantReceived t dev body) s =
        .next (a.unlockSend dev 0 (le body 1 1) (be body 2 4) (le body 6 1) 2 0)) ∧
      (∀ r, le body 0 1 = 5 → a.lockRun dev (le body 1 1) = some r →
        exec (.lockRetryReceived t dev body) s = .next (a.retryRun r.mbx)) ∧
      (∀ r, le body 0 1 = 1 → (a.cw.runs.find? fun r => r.dev == dev && r.reqId == be body 1 4 && decide (r.phase ≤ 1)) =
          some r → exec (.remoteCompletionReceived t dev body) s =
        .next (a.remoteAnswer r (le body 5 1) (be body 6 4) (body.drop 10)))) ∧
    (a.fwUp = false → exec (.remoteRequestReceived t dev body) s = .next a ∧
      exec (.lockRequestReceived t dev body) s = .next a ∧ exec (.writeAndUnlockReceived t dev body) s = .next a ∧
      exec (.lockGrantReceived t dev body) s = .next a ∧ exec (.lockRetryReceived t dev body) s = .next a ∧
      exec (.remoteCompletionReceived t dev body) s = .next a ∧ exec (.peerCommandReceived t body) s = .next a ∧
      exec (.farLockExpiry t) s = .next a) ∧
    (exec (.remoteCacheExpiry t) s = .next (a.modCw fun c => { c with
      stored := c.stored.filter fun x => decide (a.now < x.atNs + 1000000000) })) ∧
    (a.cw.locks = [] → exec (.farLockExpiry t) s = .next a) ∧
    (∀ l, a.fwUp = true → a.cw.locks = [l] → l.owner ≠ a.cw.id → l.granted + hopLimitNs l.hops ≤ a.now →
      exec (.farLockExpiry t) s = .next ((a.count 14 0 ctrCwCwLockExpired).lockFree l.space l.addr)) ∧
    (∀ (m : Fin 8) (r : RemoteRun), a.fwUp = true → a.remoteRun m = some r →
      (r.phase = 2 → r.backoffUntil ≤ a.now → exec (.lockBackoffExpiry t m) s = .next (a.lockBegin m)) ∧
      (a.now < r.backoffUntil → exec (.lockBackoffExpiry t m) s = .next a) ∧
      (r.phase ≤ 1 → r.sentAt + hopLimitNs r.hops ≤ a.now → exec (.remoteTimeout t m) s =
        .next (((a.remoteEnd m).1.count 14 0 ctrCwRemoteTimeout).complete m {
          status := stTimeout, rflags := flag (a.remoteEnd m).2 3 })) ∧
      (a.now < r.sentAt + hopLimitNs r.hops → exec (.remoteTimeout t m) s = .next a)) ∧
    (∀ m : Fin 8, a.remoteRun m = none → exec (.lockBackoffExpiry t m) s = .next a ∧ exec (.remoteTimeout t m) s = .next a) ∧
    (le body 0 1 = 7 → a.isPeer = true → a.fwUp = true → le body 1 1 = 0 → le body 2 1 < 8 →
      exec (.peerCommandReceived t body) s = .next (a.peerRun (le body 2 1) (field body 3 16) (body.drop 19)))

/-- O57. Agreement on sleep, sleep entry and wake (R542, R545, R548 to R557, R560). Complete: consentLapStart,
busLapMessageReceived, nodeSlotTimeout, deviceLapReceived, sleepCancelReceived, lapTimeout, sleepSettle, sleepPowerOff,
wakeSource, wakeRequest, ringLost, falseWakeCheck, twinSleepCommitReceived. The model's choices here: log entries 58
and 59. -/
def Obligations.SleepIsAgreedAndEnds : Prop :=
  ∀ (s : State) (t : Nat), let a := s.tick t
    let z := a.slp
    (a.ringUp = true → a.leads = true → a.consentBase = true → z.lapRunning = false →
      z.lapSeq = 0 ∨ z.lapAt + z.lapInterval * 100000000 ≤ a.now → exec (.consentLapStart t) s =
        .next ((a.count 15 0 ctrSlpLapsStarted).lapJoin ((z.lapSeq + 1) % 65536) 0 true)) ∧
    (a.leads = false ∨ a.consentBase = false ∨ z.lapRunning = true → exec (.consentLapStart t) s = .next a) ∧
    (∀ (b : Fin 32) (body : List Byte) (l : BusLap), (a.bus b).wk.lap = some l → a.fwUp = true → a.busLive b = true →
      exec (.busLapMessageReceived t b body) s = .next (a.busLapTake b body l) ∧
      (l.opened = true → a.busSends b = true → l.atNs + (a.bus b).wk.nodeSlotMs * 1000000 ≤ a.now →
        exec (.nodeSlotTimeout t b) s = .next (a.busLapSkip b l)) ∧
      (l.opened = false → exec (.nodeSlotTimeout t b) s = .next a) ∧
      (a.now < l.atNs + (a.bus b).wk.nodeSlotMs * 1000000 → exec (.nodeSlotTimeout t b) s = .next a)) ∧
    (∀ (dev : Nat) (body : List Byte), a.ringUp = true → a.cw.id ≠ 0 → body.length = 36 → le body 0 1 = 5 →
      a.leads = false → (le body 1 1 = 1 → exec (.deviceLapReceived t dev body) s =
          .next (a.lapJoin (be body 2 2) (BitVec.ofNat 256 (le body 4 32)) false)) ∧
        (le body 1 1 = 2 → exec (.deviceLapReceived t dev body) s =
          .next (a.lapPass 2 (be body 2 2) (BitVec.ofNat 256 (le body 4 32))).commitHere)) ∧
    (∀ (dev : Nat) (body : List Byte), a.ringUp = true → a.cw.id ≠ 0 → body.length = 36 → le body 0 1 = 5 →
      a.leads = true → le body 1 1 = 1 → z.lapRunning = true → z.lapHeld = false → be body 2 2 = z.lapSeq →
      exec (.deviceLapReceived t dev body) s = .next (a.lapReturn (BitVec.ofNat 256 (le body 4 32)))) ∧
    (∀ (dev : Nat) (body : List Byte), a.fwUp = true → body.length = 36 → le body 0 1 = 5 → le body 1 1 = 3 →
      (a.leads = true → exec (.sleepCancelReceived t dev body) s = .next a.cancelTake) ∧
      (a.leads = false → exec (.sleepCancelReceived t dev body) s = .next a)) ∧
    (a.ringUp = true → z.lapRunning = true → z.lapAt + z.lapTimeout * 10000000 ≤ a.now → ∃ u : State,
      exec (.lapTimeout t) s = .next u ∧ u.slp.lapRunning = false ∧ u.slp.bitSet = false ∧
        u.host.evtStatus.getLsbD 121 = true) ∧
    (z.lapRunning = false → exec (.lapTimeout t) s = .next a) ∧
    (∀ c, z.commitAt = some c → z.ps = .entry → z.settled = false → c + z.settleMs * 1000000 ≤ a.now →
      exec (.sleepSettle t) s = .next a.settle) ∧
    (z.commitAt = none → exec (.sleepSettle t) s = .next a) ∧
    (z.ps = .entry → z.settled = true → exec (.sleepPowerOff t) s = .next a.powerOff ∧
      (z.latchedWake = none → a.powerOff.hostReach = false ∧ a.powerOff.slp.ps = .sleep ∧ a.powerOff.windows = [] ∧
        a.powerOff.boot.pins.pwrEn = false)) ∧
    (z.ps ≠ .entry → exec (.sleepPowerOff t) s = .next a) ∧
    (∀ l, z.ps = .sleep → exec (.wakeSource t l) s = .next ((a.wakeStims l).1.wakeBy (a.wakeStims l).2)) ∧
    (∀ l, z.ps ≠ .sleep → exec (.wakeSource t l) s = .next a) ∧
    (∀ x c, (a.wakeDetect x).2 = some c → exec (.wakeRequest t x) s =
      .next ((a.wakeDetect x).1.wakeReq (causeRecord c))) ∧
    (∀ x, (a.wakeDetect x).2 = none → exec (.wakeRequest t x) s = .next (a.wakeDetect x).1) ∧
    (a.ringUp = true → a.leads = false → z.joined = true → z.bitSet = true → z.cancelSent = false →
      z.lapAt + 2 * z.lapTimeout * 10000000 ≤ a.now → ∃ v : State, exec (.ringLost t) s = .next v.awake ∧
        v.slp.record.cause = 11 ∧ v.slp.hostConsent = false ∧ v.slp.joined = false ∧ v.host = a.host ∧
        v.windows = a.windows) ∧
    (z.joined = false → exec (.ringLost t) s = .next a) ∧
    (∀ w, z.wokeAt = some w → w + 200000000 ≤ a.now →
      (z.valid = true → exec (.falseWakeCheck t) s = .next (a.modSlp fun z => { z with wokeAt := none, valid := false })) ∧
      (z.valid = false → exec (.falseWakeCheck t) s =
        .next (((a.modSlp fun z => { z with wokeAt := none, valid := false }).falseWake z.record.cause).markFalse))) ∧
    (z.wokeAt = none → exec (.falseWakeCheck t) s = .next a) ∧
    (∀ body, a.standby = true → z.ps = .service → a.unitUp ⟨0, 41⟩ = true →
      exec (.twinSleepCommitReceived t body) s = .next (a.sleepEnter false))

/-- O58. Supplies, reset and the start (R567 to R571, R578 to R582, R597, R601 to R604, R606, R616). Complete: powerOn,
vddAonLoss, resetN, pwrEnRetry, coreSupplyInRange, brownOut, supplyWarning, jtagInstruction, pufRegeneration, swapPageStep,
loaderImageCheck, firmwareStart, firmwareReady. The model's choices here: log entries 60 to 62. -/
def Obligations.TheDeviceStartsAndSeals : Prop :=
  ∀ (s : State) (t : Nat), let a := s.tick t
    let p := a.boot.pins
    (p.aonOn = false → ∃ u : State, exec (.powerOn t) s = .next u ∧ u.boot.pins.aonOn = true ∧ u.boot.pins.pwrEn = false ∧
      u.boot.pins.resetLow = true ∧ u.faultNLow = true ∧ u.hostReach = false ∧ u.windows = [] ∧ u.ctrs = {}) ∧
    (p.aonOn = true → exec (.powerOn t) s = .next a) ∧
    (∃ u : State, exec (.vddAonLoss t) s = .next u ∧ u.boot.pins.aonOn = false ∧ u.hostReach = false ∧ u.windows = [] ∧
      u.ctrs = {} ∧ u.sec.record = {} ∧ u.slp.record = {}) ∧
    (p.aonOn = true → p.resetLow = false → ∀ straps, ∃ u : State, exec (.resetN t false straps) s = .next u ∧ u.windows = [] ∧
      u.hostReach = false ∧ u.faultNLow = true ∧ u.boot.pins.pwrEn = false ∧ u.twin = a.twin.fresh a.now ∧
      u.boot.fwRunning = false ∧ ∀ m, u.mb m = {}) ∧
    (p.aonOn = true → p.resetLow = true → ∀ straps, bit straps 3 = false → exec (.resetN t true straps) s =
      .next (((a.modPins fun p => { p with
        resetLow := false, strap := strapRole straps, flashMode := bit straps 2, testEn := false }).modPins fun p => { p with
          pwrEn := true, pwrSince := a.now, firstStart := false }).modBoot fun b => { b with phase := .core })) ∧
    (p.aonOn = true → p.pwrEn = true → p.coreOk = false → p.brown = false → p.pwrSince + 10000000 ≤ a.now →
      exec (.pwrEnRetry t) s =
        .next ((a.count 16 0 ctrBootPwrRetries).modPins fun p => { p with pwrSince := a.now + 100000000 })) ∧
    (p.coreOk = true → exec (.pwrEnRetry t) s = .next a ∧ exec (.coreSupplyInRange t) s = .next a) ∧
    (p.aonOn = true → p.pwrEn = true → p.pwrSince ≤ a.now → p.coreOk = false → p.resetLow = false → ∃ u : State,
      exec (.coreSupplyInRange t) s = .next u ∧ u.boot.pins.coreOk = true ∧ u.time = a.time.settled a.now ∧
        (∀ i < 6, (a.isl i).latchedBy = none → (a.isl i).hold = false → (u.isl i).power = .on) ∧ u.ctrs = a.ctrs) ∧
    (p.aonOn = true → p.pwrEn = true → p.coreOk = true → ∃ (u : State) (straps : Nat), straps < 16 ∧ exec (.brownOut t) s = .next u ∧
      u.boot.pins.pwrEn = true ∧ u.boot.pins.coreOk = false ∧ u.hostReach = false ∧ u.windows = [] ∧
      u.boot.fwRunning = false ∧ u.boot.pins.strap = strapRole straps ∧
      u.boot.phase = (if bit straps 3 then .off else .core) ∧
      u.ctr 16 0 ctrBootBrownouts = (a.ctr 16 0 ctrBootBrownouts).add a.now 1) ∧
    (∀ k n, supplySource k = some n → k ≠ 11 → exec (.supplyWarning t k) s = .next (a.report n)) ∧
    (∀ i, p.aonOn = true → p.resetLow = false → jtagIsolates i = false → exec (.jtagInstruction t i) s =
      .next (a.modPins fun p => { p with jtag := i })) ∧
    (∀ i, p.aonOn = true → p.resetLow = false → jtagIsolates i = true → p.jtagHeld = false →
      exec (.jtagInstruction t i) s = .next (a.modPins fun p => { p with jtag := i }).jtagIsolate) ∧
    (∀ ok sets, a.boot.phase = .core → p.coreOk = true → exec (.pufRegeneration t ⟨ok, sets⟩) s = .next (a.pufStart ok sets)) ∧
    (∀ ok sets, a.boot.phase ≠ .core → a.sec.enrolled = false → exec (.pufRegeneration t ⟨ok, sets⟩) s = .next a) ∧
    (∀ w, a.boot.swap = some w → a.boot.phase = .loader → exec (.swapPageStep t) s = .next (a.swapStep w)) ∧
    (a.boot.swap = none → exec (.swapPageStep t) s = .next a) ∧
    (∀ r g, a.boot.phase = .loader → a.boot.swap = none → exec (.loaderImageCheck t r g) s = .next (a.loaderCheck r g)) ∧
    (a.boot.phase = .ready → a.sec.alarms ≠ 0 → exec (.firmwareStart t) s = .next (a.sealDevice 1)) ∧
    (a.boot.phase = .ready → a.sec.alarms = 0 → a.sec.enrolled = false → ∃ v : State, exec (.firmwareStart t) s =
      .next (v.settingsConvert.pendRaise.each (List.range 8) State.firmwareTakes) ∧
        v = a.modBoot fun b => { b with fwRunning := true, phase := .firmware }) ∧
    (a.boot.phase ≠ .ready → exec (.firmwareStart t) s = .next a) ∧
    (a.boot.phase = .firmware → a.fwUp = true → a.sec.alarms = 0 → a.boot.d.imgState ≠ 3 → exec (.firmwareReady t) s =
      .next (a.install.modBoot fun b => { b with phase := .done }).enterService) ∧
    (a.boot.phase ≠ .firmware → exec (.firmwareReady t) s = .next a)

/-- O59. Activation and update of a cascade (R576, R577, R583, R584). Complete: activateReboot, updateChunkReceived,
activationOrderReceived, activationReportReceived, activationReportSend, actWaitExpiry, selfSwapbackTimeout. The model's
choices here: log entries 15 and 63. -/
def Obligations.UpdateOrdersAreTaken : Prop :=
  ∀ (s : State) (t : Nat) (body : List Byte), let a := s.tick t
    (∀ r, a.boot.rebootAt = some r → (r ≤ a.now → exec (.activateReboot t) s = .next a.selfReset ∧
        a.selfReset.boot.phase = .core ∧ a.selfReset.windows = [] ∧ a.selfReset.boot.fwRunning = false) ∧
      (a.now < r → exec (.activateReboot t) s = .next a)) ∧
    (a.boot.rebootAt = none → exec (.activateReboot t) s = .next a) ∧
    (a.fwUp = true → le body 0 1 = 4 →
      (6 ≤ body.length → exec (.updateChunkReceived t body) s = .next ((a.targetStep (le body 1 1) (body.drop 6)).1.tell
        (a.targetStep (le body 1 1) (body.drop 6)).1.cw.master 3
          (relayBody (be body 2 4) (a.targetStep (le body 1 1) (body.drop 6)).2))) ∧
      exec (.activationOrderReceived t body) s = .next (a.takeOrder (le body 1 1) (body.drop 2)) ∧
      (∀ dev, a.updMaster = true → le body 1 1 = 1 → be body 2 4 = a.boot.d.actId → a.boot.d.members.contains dev = true →
        exec (.activationReportReceived t dev body) s = .next (a.masterReport dev (be body 6 4) (le body 10 1)))) ∧
    (a.fwUp = false → exec (.updateChunkReceived t body) s = .next a ∧ exec (.activationOrderReceived t body) s = .next a ∧
      (∀ dev, exec (.activationReportReceived t dev body) s = .next a)) ∧
    (a.reportDue = false → exec (.activationReportSend t) s = .next a) ∧
    (a.reportDue = true → (a.modBoot fun b => { b with reportAt := some a.now }).updMaster = false →
      exec (.activationReportSend t) s = .next ((a.modBoot fun b => { b with reportAt := some a.now }).tell a.cw.master 2
        (updBody 1 (beBytes 4 a.boot.d.actId ++ beBytes 4 a.boot.d.runVer ++
          leBytes 1 (a.modBoot fun b => { b with reportAt := some a.now }).ownResult)))) ∧
    (∀ w, a.boot.trialAt = some w → a.fwUp = true → a.boot.state = 5 →
      (a.updMaster = true → w + a.boot.actWait * 1000000000 ≤ a.now → exec (.actWaitExpiry t) s = .next a.orderBack) ∧
      (a.now < w + a.boot.actWait * 1000000000 → exec (.actWaitExpiry t) s = .next a) ∧
      (w + 2 * a.boot.actWait * 1000000000 ≤ a.now → ∃ (v : State) (c : Nat), exec (.selfSwapbackTimeout t) s =
        .next (v.swapBackHere c true) ∧ c < 256 ∧ v.boot = a.boot)) ∧
    (a.boot.trialAt = none → exec (.actWaitExpiry t) s = .next a ∧ exec (.selfSwapbackTimeout t) s = .next a)

/-- O60. `sw.class.config`, whole (R289): its layout is 32 bytes, eight limits in µs; it is accepted exactly when every
limit lies from 100 to 10 000 000; each class has its limit then, and 100 000 before any was set. -/
def Obligations.ClassAgeLimits : Prop :=
  (∀ (s : State) (p : List Byte), checkSwClassConfig s p = none ↔
    p.length = 32 ∧ ∀ c < 8, 100 ≤ le p (4 * c) 4 ∧ le p (4 * c) 4 ≤ 10000000) ∧
  (∀ (s : State) (p : List Byte) (c : Nat), c < 8 → (effectSwClassConfig s p).1.ageNs c = le p (4 * c) 4 * 1000) ∧
  (∀ (s : State) (p : List Byte), ∃ w, (effectSwClassConfig s p).1 = { s with sw := w } ∧
    w = { s.sw with ageLimit := w.ageLimit }) ∧
  (∀ c < 8, State.reset.ageNs c = 100000 * 1000)
end

