-- ==== Sys2Proof/Laws/Dispatch.lean ====
section
/-! SUPPORT. `exec` on each command is that command's meaning: one lemma per constructor of `Instr`. -/

set_option Elab.async false

namespace Sys2Proof.Machine

open Sys2Proof

@[simp] theorem exec_devIdentify (t : Nat) (m : Fin 8) (s : State) : exec (.devIdentify t m) s =
    execDevIdentify t m s := rfl
@[simp] theorem exec_devState (t : Nat) (m : Fin 8) (s : State) : exec (.devState t m) s =
    execDevState t m s := rfl
@[simp] theorem exec_devConfig (t : Nat) (m : Fin 8) (s : State) : exec (.devConfig t m) s =
    execDevConfig t m s := rfl
@[simp] theorem exec_devSnap (t : Nat) (m : Fin 8) (s : State) : exec (.devSnap t m) s =
    execDevSnap t m s := rfl
@[simp] theorem exec_devSnapClear (t : Nat) (m : Fin 8) (s : State) : exec (.devSnapClear t m) s =
    execDevSnapClear t m s := rfl
@[simp] theorem exec_devRestart (t : Nat) (m : Fin 8) (s : State) : exec (.devRestart t m) s =
    execDevRestart t m s := rfl
@[simp] theorem exec_devSafe (t : Nat) (m : Fin 8) (s : State) : exec (.devSafe t m) s =
    execDevSafe t m s := rfl
@[simp] theorem exec_ethConfig (t : Nat) (m : Fin 8) (s : State) : exec (.ethConfig t m) s =
    execEthConfig t m s := rfl
@[simp] theorem exec_ethEnable (t : Nat) (m : Fin 8) (s : State) : exec (.ethEnable t m) s =
    execEthEnable t m s := rfl
@[simp] theorem exec_ethDisable (t : Nat) (m : Fin 8) (s : State) : exec (.ethDisable t m) s =
    execEthDisable t m s := rfl
@[simp] theorem exec_ethStatus (t : Nat) (m : Fin 8) (s : State) : exec (.ethStatus t m) s =
    execEthStatus t m s := rfl
@[simp] theorem exec_ethPauseConfig (t : Nat) (m : Fin 8) (s : State) : exec (.ethPauseConfig t m) s =
    execEthPauseConfig t m s := rfl
@[simp] theorem exec_ethWakePattern (t : Nat) (m : Fin 8) (s : State) : exec (.ethWakePattern t m) s =
    execEthWakePattern t m s := rfl
@[simp] theorem exec_ethStepdownConfig (t : Nat) (m : Fin 8) (s : State) : exec (.ethStepdownConfig t m) s =
    execEthStepdownConfig t m s := rfl
@[simp] theorem exec_busConfig (t : Nat) (m : Fin 8) (s : State) : exec (.busConfig t m) s =
    execBusConfig t m s := rfl
@[simp] theorem exec_busEnable (t : Nat) (m : Fin 8) (s : State) : exec (.busEnable t m) s =
    execBusEnable t m s := rfl
@[simp] theorem exec_busDisable (t : Nat) (m : Fin 8) (s : State) : exec (.busDisable t m) s =
    execBusDisable t m s := rfl
@[simp] theorem exec_busFilterLoad (t : Nat) (m : Fin 8) (s : State) : exec (.busFilterLoad t m) s =
    execBusFilterLoad t m s := rfl
@[simp] theorem exec_busRecover (t : Nat) (m : Fin 8) (s : State) : exec (.busRecover t m) s =
    execBusRecover t m s := rfl
@[simp] theorem exec_busMode (t : Nat) (m : Fin 8) (s : State) : exec (.busMode t m) s =
    execBusMode t m s := rfl
@[simp] theorem exec_busStatus (t : Nat) (m : Fin 8) (s : State) : exec (.busStatus t m) s =
    execBusStatus t m s := rfl
@[simp] theorem exec_parseGraphLoad (t : Nat) (m : Fin 8) (s : State) : exec (.parseGraphLoad t m) s =
    execParseGraphLoad t m s := rfl
@[simp] theorem exec_parseSelect (t : Nat) (m : Fin 8) (s : State) : exec (.parseSelect t m) s =
    execParseSelect t m s := rfl
@[simp] theorem exec_ruleStage (t : Nat) (m : Fin 8) (s : State) : exec (.ruleStage t m) s =
    execRuleStage t m s := rfl
@[simp] theorem exec_ruleCommit (t : Nat) (m : Fin 8) (fate : CommitFate) (s : State) : exec (.ruleCommit t m fate) s =
    execRuleCommit t m fate s := rfl
@[simp] theorem exec_ruleStatus (t : Nat) (m : Fin 8) (s : State) : exec (.ruleStatus t m) s =
    execRuleStatus t m s := rfl
@[simp] theorem exec_policerConfig (t : Nat) (m : Fin 8) (s : State) : exec (.policerConfig t m) s =
    execPolicerConfig t m s := rfl
@[simp] theorem exec_tblRouteAdd (t : Nat) (m : Fin 8) (s : State) : exec (.tblRouteAdd t m) s =
    execTblRouteAdd t m s := rfl
@[simp] theorem exec_tblRouteDel (t : Nat) (m : Fin 8) (s : State) : exec (.tblRouteDel t m) s =
    execTblRouteDel t m s := rfl
@[simp] theorem exec_tblL2Config (t : Nat) (m : Fin 8) (s : State) : exec (.tblL2Config t m) s =
    execTblL2Config t m s := rfl
@[simp] theorem exec_tblL2Flush (t : Nat) (m : Fin 8) (s : State) : exec (.tblL2Flush t m) s =
    execTblL2Flush t m s := rfl
@[simp] theorem exec_tblDirectWrite (t : Nat) (m : Fin 8) (s : State) : exec (.tblDirectWrite t m) s =
    execTblDirectWrite t m s := rfl
@[simp] theorem exec_tblRead (t : Nat) (m : Fin 8) (s : State) : exec (.tblRead t m) s =
    execTblRead t m s := rfl
@[simp] theorem exec_swPoolConfig (t : Nat) (m : Fin 8) (s : State) : exec (.swPoolConfig t m) s =
    execSwPoolConfig t m s := rfl
@[simp] theorem exec_swClassConfig (t : Nat) (m : Fin 8) (s : State) : exec (.swClassConfig t m) s =
    execSwClassConfig t m s := rfl
@[simp] theorem exec_swPortConfig (t : Nat) (m : Fin 8) (s : State) : exec (.swPortConfig t m) s =
    execSwPortConfig t m s := rfl
@[simp] theorem exec_swSchedConfig (t : Nat) (m : Fin 8) (s : State) : exec (.swSchedConfig t m) s =
    execSwSchedConfig t m s := rfl
@[simp] theorem exec_swStatus (t : Nat) (m : Fin 8) (s : State) : exec (.swStatus t m) s =
    execSwStatus t m s := rfl
@[simp] theorem exec_sigMapLoad (t : Nat) (m : Fin 8) (s : State) : exec (.sigMapLoad t m) s =
    execSigMapLoad t m s := rfl
@[simp] theorem exec_sigMapCommit (t : Nat) (m : Fin 8) (fate : CommitFate) (s : State) : exec (.sigMapCommit t m fate) s =
    execSigMapCommit t m fate s := rfl
@[simp] theorem exec_sigRead (t : Nat) (m : Fin 8) (s : State) : exec (.sigRead t m) s =
    execSigRead t m s := rfl
@[simp] theorem exec_sigWrite (t : Nat) (m : Fin 8) (s : State) : exec (.sigWrite t m) s =
    execSigWrite t m s := rfl
@[simp] theorem exec_sigTriggerFire (t : Nat) (m : Fin 8) (s : State) : exec (.sigTriggerFire t m) s =
    execSigTriggerFire t m s := rfl
@[simp] theorem exec_sigStatus (t : Nat) (m : Fin 8) (s : State) : exec (.sigStatus t m) s =
    execSigStatus t m s := rfl
@[simp] theorem exec_timeDomainConfig (t : Nat) (m : Fin 8) (s : State) : exec (.timeDomainConfig t m) s =
    execTimeDomainConfig t m s := rfl
@[simp] theorem exec_timeServoConfig (t : Nat) (m : Fin 8) (s : State) : exec (.timeServoConfig t m) s =
    execTimeServoConfig t m s := rfl
@[simp] theorem exec_timeTriggerSet (t : Nat) (m : Fin 8) (s : State) : exec (.timeTriggerSet t m) s =
    execTimeTriggerSet t m s := rfl
@[simp] theorem exec_timeTriggerClear (t : Nat) (m : Fin 8) (s : State) : exec (.timeTriggerClear t m) s =
    execTimeTriggerClear t m s := rfl
@[simp] theorem exec_timeCaptureRead (t : Nat) (m : Fin 8) (s : State) : exec (.timeCaptureRead t m) s =
    execTimeCaptureRead t m s := rfl
@[simp] theorem exec_timeStatus (t : Nat) (m : Fin 8) (s : State) : exec (.timeStatus t m) s =
    execTimeStatus t m s := rfl
@[simp] theorem exec_audPortConfig (t : Nat) (m : Fin 8) (s : State) : exec (.audPortConfig t m) s =
    execAudPortConfig t m s := rfl
@[simp] theorem exec_audStreamConfig (t : Nat) (m : Fin 8) (s : State) : exec (.audStreamConfig t m) s =
    execAudStreamConfig t m s := rfl
@[simp] theorem exec_audRouteSet (t : Nat) (m : Fin 8) (s : State) : exec (.audRouteSet t m) s =
    execAudRouteSet t m s := rfl
@[simp] theorem exec_audZoneConfig (t : Nat) (m : Fin 8) (s : State) : exec (.audZoneConfig t m) s =
    execAudZoneConfig t m s := rfl
@[simp] theorem exec_audAnnounceStart (t : Nat) (m : Fin 8) (s : State) : exec (.audAnnounceStart t m) s =
    execAudAnnounceStart t m s := rfl
@[simp] theorem exec_audAnnounceStop (t : Nat) (m : Fin 8) (s : State) : exec (.audAnnounceStop t m) s =
    execAudAnnounceStop t m s := rfl
@[simp] theorem exec_audLibraryLoad (t : Nat) (m : Fin 8) (s : State) : exec (.audLibraryLoad t m) s =
    execAudLibraryLoad t m s := rfl
@[simp] theorem exec_tideQueueConfig (t : Nat) (m : Fin 8) (s : State) : exec (.tideQueueConfig t m) s =
    execTideQueueConfig t m s := rfl
@[simp] theorem exec_tideQueueReset (t : Nat) (m : Fin 8) (s : State) : exec (.tideQueueReset t m) s =
    execTideQueueReset t m s := rfl
@[simp] theorem exec_dmaRingConfig (t : Nat) (m : Fin 8) (s : State) : exec (.dmaRingConfig t m) s =
    execDmaRingConfig t m s := rfl
@[simp] theorem exec_dmaRingEnable (t : Nat) (m : Fin 8) (s : State) : exec (.dmaRingEnable t m) s =
    execDmaRingEnable t m s := rfl
@[simp] theorem exec_dmaRingDisable (t : Nat) (m : Fin 8) (s : State) : exec (.dmaRingDisable t m) s =
    execDmaRingDisable t m s := rfl
@[simp] theorem exec_keyDerive (t : Nat) (m : Fin 8) (s : State) : exec (.keyDerive t m) s =
    execKeyDerive t m s := rfl
@[simp] theorem exec_keyRevoke (t : Nat) (m : Fin 8) (s : State) : exec (.keyRevoke t m) s =
    execKeyRevoke t m s := rfl
@[simp] theorem exec_keyAttrSet (t : Nat) (m : Fin 8) (s : State) : exec (.keyAttrSet t m) s =
    execKeyAttrSet t m s := rfl
@[simp] theorem exec_keyInfo (t : Nat) (m : Fin 8) (s : State) : exec (.keyInfo t m) s =
    execKeyInfo t m s := rfl
@[simp] theorem exec_keyEnrol (t : Nat) (m : Fin 8) (verified : Bool) (s : State) : exec (.keyEnrol t m verified) s =
    execKeyEnrol t m verified s := rfl
@[simp] theorem exec_keyTamperConfig (t : Nat) (m : Fin 8) (s : State) : exec (.keyTamperConfig t m) s =
    execKeyTamperConfig t m s := rfl
@[simp] theorem exec_faultConfig (t : Nat) (m : Fin 8) (s : State) : exec (.faultConfig t m) s =
    execFaultConfig t m s := rfl
@[simp] theorem exec_faultForce (t : Nat) (m : Fin 8) (s : State) : exec (.faultForce t m) s =
    execFaultForce t m s := rfl
@[simp] theorem exec_faultRead (t : Nat) (m : Fin 8) (s : State) : exec (.faultRead t m) s =
    execFaultRead t m s := rfl
@[simp] theorem exec_faultClear (t : Nat) (m : Fin 8) (s : State) : exec (.faultClear t m) s =
    execFaultClear t m s := rfl
@[simp] theorem exec_twinConfig (t : Nat) (m : Fin 8) (s : State) : exec (.twinConfig t m) s =
    execTwinConfig t m s := rfl
@[simp] theorem exec_twinEnable (t : Nat) (m : Fin 8) (s : State) : exec (.twinEnable t m) s =
    execTwinEnable t m s := rfl
@[simp] theorem exec_twinDisable (t : Nat) (m : Fin 8) (s : State) : exec (.twinDisable t m) s =
    execTwinDisable t m s := rfl
@[simp] theorem exec_twinHandover (t : Nat) (m : Fin 8) (s : State) : exec (.twinHandover t m) s =
    execTwinHandover t m s := rfl
@[simp] theorem exec_twinStatus (t : Nat) (m : Fin 8) (s : State) : exec (.twinStatus t m) s =
    execTwinStatus t m s := rfl
@[simp] theorem exec_cwConfig (t : Nat) (m : Fin 8) (s : State) : exec (.cwConfig t m) s =
    execCwConfig t m s := rfl
@[simp] theorem exec_cwIdSet (t : Nat) (m : Fin 8) (s : State) : exec (.cwIdSet t m) s =
    execCwIdSet t m s := rfl
@[simp] theorem exec_cwTopology (t : Nat) (m : Fin 8) (s : State) : exec (.cwTopology t m) s =
    execCwTopology t m s := rfl
@[simp] theorem exec_cwRemoteRead (t : Nat) (m : Fin 8) (s : State) : exec (.cwRemoteRead t m) s =
    execCwRemoteRead t m s := rfl
@[simp] theorem exec_cwRemoteWrite (t : Nat) (m : Fin 8) (s : State) : exec (.cwRemoteWrite t m) s =
    execCwRemoteWrite t m s := rfl
@[simp] theorem exec_cwRemoteLock (t : Nat) (m : Fin 8) (s : State) : exec (.cwRemoteLock t m) s =
    execCwRemoteLock t m s := rfl
@[simp] theorem exec_wakeFilterSet (t : Nat) (m : Fin 8) (s : State) : exec (.wakeFilterSet t m) s =
    execWakeFilterSet t m s := rfl
@[simp] theorem exec_sleepConfig (t : Nat) (m : Fin 8) (s : State) : exec (.sleepConfig t m) s =
    execSleepConfig t m s := rfl
@[simp] theorem exec_sleepRequest (t : Nat) (m : Fin 8) (s : State) : exec (.sleepRequest t m) s =
    execSleepRequest t m s := rfl
@[simp] theorem exec_sleepStatus (t : Nat) (m : Fin 8) (s : State) : exec (.sleepStatus t m) s =
    execSleepStatus t m s := rfl
@[simp] theorem exec_updateBegin (t : Nat) (m : Fin 8) (s : State) : exec (.updateBegin t m) s =
    execUpdateBegin t m s := rfl
@[simp] theorem exec_updateWrite (t : Nat) (m : Fin 8) (s : State) : exec (.updateWrite t m) s =
    execUpdateWrite t m s := rfl
@[simp] theorem exec_updateFinish (t : Nat) (m : Fin 8) (s : State) : exec (.updateFinish t m) s =
    execUpdateFinish t m s := rfl
@[simp] theorem exec_updateActivate (t : Nat) (m : Fin 8) (s : State) : exec (.updateActivate t m) s =
    execUpdateActivate t m s := rfl
@[simp] theorem exec_updateConfirm (t : Nat) (m : Fin 8) (s : State) : exec (.updateConfirm t m) s =
    execUpdateConfirm t m s := rfl
@[simp] theorem exec_updateRevert (t : Nat) (m : Fin 8) (s : State) : exec (.updateRevert t m) s =
    execUpdateRevert t m s := rfl
@[simp] theorem exec_updateStatus (t : Nat) (m : Fin 8) (s : State) : exec (.updateStatus t m) s =
    execUpdateStatus t m s := rfl
@[simp] theorem exec_mbxRing (t : Nat) (m : Fin 8) (value : Word) (s : State) : exec (.mbxRing t m value) s =
    execMbxRing t m value s := rfl
@[simp] theorem exec_mbxAccept (t : Nat) (m : Fin 8) (s : State) : exec (.mbxAccept t m) s =
    execMbxAccept t m s := rfl
@[simp] theorem exec_commandStart (t : Nat) (m : Fin 8) (s : State) : exec (.commandStart t m) s =
    execCommandStart t m s := rfl
@[simp] theorem exec_longestTimeExpiry (t : Nat) (m : Fin 8) (s : State) : exec (.longestTimeExpiry t m) s =
    execLongestTimeExpiry t m s := rfl
@[simp] theorem exec_mbxDoneClear (t : Nat) (m : Fin 8) (value : Word) (s : State) : exec (.mbxDoneClear t m value) s =
    execMbxDoneClear t m value s := rfl
@[simp] theorem exec_mbxAbort (t : Nat) (m : Fin 8) (value : Word) (firmware : Bool) (s : State) : exec (.mbxAbort t m value firmware) s =
    execMbxAbort t m value firmware s := rfl
@[simp] theorem exec_abortWatchdog (t : Nat) (m : Fin 8) (s : State) : exec (.abortWatchdog t m) s =
    execAbortWatchdog t m s := rfl
@[simp] theorem exec_commandFirmwareWaitTimeout (t : Nat) (m : Fin 8) (s : State) : exec (.commandFirmwareWaitTimeout t m) s =
    execCommandFirmwareWaitTimeout t m s := rfl
@[simp] theorem exec_evtLogRelease (t : Nat) (value : Word) (s : State) : exec (.evtLogRelease t value) s =
    execEvtLogRelease t value s := rfl
@[simp] theorem exec_evtMaskWrite (t : Nat) (k : Fin 4) (value : Word) (s : State) : exec (.evtMaskWrite t k value) s =
    execEvtMaskWrite t k value s := rfl
@[simp] theorem exec_msixVectorUnmask (t : Nat) (what : MsixUnmask) (s : State) : exec (.msixVectorUnmask t what) s =
    execMsixVectorUnmask t what s := rfl
@[simp] theorem exec_registerWrite (t : Nat) (bar : Nat) (off : Nat) (data : List Byte) (be : Nat) (s : State) : exec (.registerWrite t bar off data be) s =
    execRegisterWrite t bar off data be s := rfl
@[simp] theorem exec_spiWriteTransaction (t : Nat) (mosi : List Byte) (spare : Bool) (s : State) : exec (.spiWriteTransaction t mosi spare) s =
    execSpiWriteTransaction t mosi spare s := rfl
@[simp] theorem exec_spiReadTransaction (t : Nat) (mosi : List Byte) (late : Bool) (s : State) : exec (.spiReadTransaction t mosi late) s =
    execSpiReadTransaction t mosi late s := rfl
@[simp] theorem exec_spiStatusRead (t : Nat) (s : State) : exec (.spiStatusRead t) s =
    execSpiStatusRead t s := rfl
@[simp] theorem exec_spiTransactionTimeout (t : Nat) (s : State) : exec (.spiTransactionTimeout t) s =
    execSpiTransactionTimeout t s := rfl
@[simp] theorem exec_pcieCompletionTimeout (t : Nat) (r : Fin 48) (read : TimedRead) (s : State) : exec (.pcieCompletionTimeout t r read) s =
    execPcieCompletionTimeout t r read s := rfl
@[simp] theorem exec_perstN (t : Nat) (level : Bool) (s : State) : exec (.perstN t level) s =
    execPerstN t level s := rfl
@[simp] theorem exec_tqCurWrite (t : Nat) (q : Fin 64) (value : Word) (s : State) : exec (.tqCurWrite t q value) s =
    execTqCurWrite t q value s := rfl
@[simp] theorem exec_tqMarkWrite (t : Nat) (q : Fin 64) (value : Word) (s : State) : exec (.tqMarkWrite t q value) s =
    execTqMarkWrite t q value s := rfl
@[simp] theorem exec_tqReleaseWrite (t : Nat) (q : Fin 64) (value : Word) (s : State) : exec (.tqReleaseWrite t q value) s =
    execTqReleaseWrite t q value s := rfl
@[simp] theorem exec_tqClearMark (t : Nat) (q : Fin 64) (s : State) : exec (.tqClearMark t q) s =
    execTqClearMark t q s := rfl
@[simp] theorem exec_tqRewind (t : Nat) (q : Fin 64) (s : State) : exec (.tqRewind t q) s =
    execTqRewind t q s := rfl
@[simp] theorem exec_ringTailWrite (t : Nat) (r : Fin 48) (value : Word) (s : State) : exec (.ringTailWrite t r value) s =
    execRingTailWrite t r value s := rfl
@[simp] theorem exec_ciphLockWrite (t : Nat) (e : Fin 8) (value : Word) (s : State) : exec (.ciphLockWrite t e value) s =
    execCiphLockWrite t e value s := rfl
@[simp] theorem exec_ciphStart (t : Nat) (e : Fin 8) (s : State) : exec (.ciphStart t e) s =
    execCiphStart t e s := rfl
@[simp] theorem exec_ciphCancel (t : Nat) (e : Fin 8) (s : State) : exec (.ciphCancel t e) s =
    execCiphCancel t e s := rfl
@[simp] theorem exec_ciphInWrite (t : Nat) (e : Fin 8) (value : Word) (s : State) : exec (.ciphInWrite t e value) s =
    execCiphInWrite t e value s := rfl
@[simp] theorem exec_ciphOutRelWrite (t : Nat) (e : Fin 8) (value : Word) (s : State) : exec (.ciphOutRelWrite t e value) s =
    execCiphOutRelWrite t e value s := rfl
@[simp] theorem exec_ciphJobDone (t : Nat) (e : Fin 8) (s : State) : exec (.ciphJobDone t e) s =
    execCiphJobDone t e s := rfl
@[simp] theorem exec_lockIdleRelease (t : Nat) (e : Fin 8) (s : State) : exec (.lockIdleRelease t e) s =
    execLockIdleRelease t e s := rfl
@[simp] theorem exec_internalEngineClaim (t : Nat) (e : Fin 8) (s : State) : exec (.internalEngineClaim t e) s =
    execInternalEngineClaim t e s := rfl
@[simp] theorem exec_ingressFrameStart (t : Nat) (p : Fin 24) (frame : List Byte) (arrival : Arrival) (s : State) : exec (.ingressFrameStart t p frame arrival) s =
    execIngressFrameStart t p frame arrival s := rfl
@[simp] theorem exec_graphRewriteDone (t : Nat) (s : State) : exec (.graphRewriteDone t) s =
    execGraphRewriteDone t s := rfl
@[simp] theorem exec_tableRewriteDone (t : Nat) (table : Fin 8) (index : Nat) (s : State) : exec (.tableRewriteDone t table index) s =
    execTableRewriteDone t table index s := rfl
@[simp] theorem exec_frameAdmission (t : Nat) (f : Nat) (s : State) : exec (.frameAdmission t f) s =
    execFrameAdmission t f s := rfl
@[simp] theorem exec_versionExpiry (t : Nat) (f : Nat) (s : State) : exec (.versionExpiry t f) s =
    execVersionExpiry t f s := rfl
@[simp] theorem exec_ingressVerdict (t : Nat) (f : Nat) (cut : Bool) (s : State) : exec (.ingressVerdict t f cut) s =
    execIngressVerdict t f cut s := rfl
@[simp] theorem exec_learnEventProcess (t : Nat) (s : State) : exec (.learnEventProcess t) s =
    execLearnEventProcess t s := rfl
@[simp] theorem exec_l2MoveWindowEnd (t : Nat) (entry : Fin 65536) (s : State) : exec (.l2MoveWindowEnd t entry) s =
    execL2MoveWindowEnd t entry s := rfl
@[simp] theorem exec_l2AgeingScan (t : Nat) (s : State) : exec (.l2AgeingScan t) s =
    execL2AgeingScan t s := rfl
@[simp] theorem exec_egressDequeue (t : Nat) (p : Fin 24) (s : State) : exec (.egressDequeue t p) s =
    execEgressDequeue t p s := rfl
@[simp] theorem exec_cutThroughFcsDue (t : Nat) (p : Fin 24) (bodyShort : Bool) (s : State) : exec (.cutThroughFcsDue t p bodyShort) s =
    execCutThroughFcsDue t p bodyShort s := rfl
@[simp] theorem exec_egressTransmitEnd (t : Nat) (p : Fin 24) (s : State) : exec (.egressTransmitEnd t p) s =
    execEgressTransmitEnd t p s := rfl
@[simp] theorem exec_ageingHeadCheck (t : Nat) (egress : Fin 56) (s : State) : exec (.ageingHeadCheck t egress) s =
    execAgeingHeadCheck t egress s := rfl
@[simp] theorem exec_linkDown (t : Nat) (p : Fin 24) (s : State) : exec (.linkDown t p) s =
    execLinkDown t p s := rfl
@[simp] theorem exec_linkUp (t : Nat) (p : Fin 24) (s : State) : exec (.linkUp t p) s =
    execLinkUp t p s := rfl
@[simp] theorem exec_holdWindowEnd (t : Nat) (p : Fin 24) (s : State) : exec (.holdWindowEnd t p) s =
    execHoldWindowEnd t p s := rfl
@[simp] theorem exec_speedChanged (t : Nat) (p : Fin 24) (rateMb : Nat) (half : Bool) (s : State) : exec (.speedChanged t p rateMb half) s =
    execSpeedChanged t p rateMb half s := rfl
@[simp] theorem exec_remoteFault (t : Nat) (p : Fin 24) (on : Bool) (s : State) : exec (.remoteFault t p on) s =
    execRemoteFault t p on s := rfl
@[simp] theorem exec_pauseReceived (t : Nat) (p : Fin 24) (pause : PauseFrame) (s : State) : exec (.pauseReceived t p pause) s =
    execPauseReceived t p pause s := rfl
@[simp] theorem exec_pauseExpiry (t : Nat) (p : Fin 24) (s : State) : exec (.pauseExpiry t p) s =
    execPauseExpiry t p s := rfl
@[simp] theorem exec_pausedLong (t : Nat) (p : Fin 24) (s : State) : exec (.pausedLong t p) s =
    execPausedLong t p s := rfl
@[simp] theorem exec_pauseRefresh (t : Nat) (p : Fin 24) (s : State) : exec (.pauseRefresh t p) s =
    execPauseRefresh t p s := rfl
@[simp] theorem exec_collision (t : Nat) (p : Fin 24) (late : Bool) (s : State) : exec (.collision t p late) s =
    execCollision t p late s := rfl
@[simp] theorem exec_backoffExpiry (t : Nat) (p : Fin 24) (s : State) : exec (.backoffExpiry t p) s =
    execBackoffExpiry t p s := rfl
@[simp] theorem exec_plcaStatusChange (t : Nat) (p : Fin 24) (up : Bool) (s : State) : exec (.plcaStatusChange t p up) s =
    execPlcaStatusChange t p up s := rfl
@[simp] theorem exec_stepDecision (t : Nat) (p : Fin 24) (sentBytes : Nat) (peerBytes : Nat) (s : State) : exec (.stepDecision t p sentBytes peerBytes) s =
    execStepDecision t p sentBytes peerBytes s := rfl
@[simp] theorem exec_stepMessageReceived (t : Nat) (p : Fin 24) (body : List Byte) (s : State) : exec (.stepMessageReceived t p body) s =
    execStepMessageReceived t p body s := rfl
@[simp] theorem exec_stepRequestTimeout (t : Nat) (p : Fin 24) (s : State) : exec (.stepRequestTimeout t p) s =
    execStepRequestTimeout t p s := rfl
@[simp] theorem exec_stepRelockDone (t : Nat) (p : Fin 24) (s : State) : exec (.stepRelockDone t p) s =
    execStepRelockDone t p s := rfl
@[simp] theorem exec_stepRelockFail (t : Nat) (p : Fin 24) (s : State) : exec (.stepRelockFail t p) s =
    execStepRelockFail t p s := rfl
@[simp] theorem exec_stepLinkLoss (t : Nat) (p : Fin 24) (s : State) : exec (.stepLinkLoss t p) s =
    execStepLinkLoss t p s := rfl
@[simp] theorem exec_busFrameEvaluation (t : Nat) (b : Fin 32) (frame : BusFrame) (exception : Bool) (parity : List (Nat × Nat)) (s : State) : exec (.busFrameEvaluation t b frame exception parity) s =
    execBusFrameEvaluation t b frame exception parity s := rfl
@[simp] theorem exec_busFrameValid (t : Nat) (b : Fin 32) (s : State) : exec (.busFrameValid t b) s =
    execBusFrameValid t b s := rfl
@[simp] theorem exec_busError (t : Nat) (b : Fin 32) (kind : BusErr) (asTransmitter acked : Bool) (step : BusStep) (s : State) : exec (.busError t b kind asTransmitter acked step) s =
    execBusError t b kind asTransmitter acked step s := rfl
@[simp] theorem exec_busArbitrationStart (t : Nat) (b : Fin 32) (lost : Bool) (s : State) : exec (.busArbitrationStart t b lost) s =
    execBusArbitrationStart t b lost s := rfl
@[simp] theorem exec_busTxValid (t : Nat) (b : Fin 32) (s : State) : exec (.busTxValid t b) s =
    execBusTxValid t b s := rfl
@[simp] theorem exec_busRecoveryOccurrence (t : Nat) (b : Fin 32) (s : State) : exec (.busRecoveryOccurrence t b) s =
    execBusRecoveryOccurrence t b s := rfl
@[simp] theorem exec_stuckDominant (t : Nat) (b : Fin 32) (s : State) : exec (.stuckDominant t b) s =
    execStuckDominant t b s := rfl
@[simp] theorem exec_busIntegrationDone (t : Nat) (b : Fin 32) (s : State) : exec (.busIntegrationDone t b) s =
    execBusIntegrationDone t b s := rfl
@[simp] theorem exec_busModeEffect (t : Nat) (b : Fin 32) (s : State) : exec (.busModeEffect t b) s =
    execBusModeEffect t b s := rfl
@[simp] theorem exec_drainLimitExpiry (t : Nat) (b : Fin 32) (s : State) : exec (.drainLimitExpiry t b) s =
    execDrainLimitExpiry t b s := rfl
@[simp] theorem exec_sourceFrameCommit (t : Nat) (s : State) : exec (.sourceFrameCommit t) s =
    execSourceFrameCommit t s := rfl
@[simp] theorem exec_signalOverrun (t : Nat) (s : State) : exec (.signalOverrun t) s =
    execSignalOverrun t s := rfl
@[simp] theorem exec_freshnessExpiry (t : Nat) (slot : Nat) (s : State) : exec (.freshnessExpiry t slot) s =
    execFreshnessExpiry t slot s := rfl
@[simp] theorem exec_triggerGapEnd (t : Nat) (trig : Nat) (s : State) : exec (.triggerGapEnd t trig) s =
    execTriggerGapEnd t trig s := rfl
@[simp] theorem exec_secWaitExpiry (t : Nat) (b : Fin 32) (s : State) : exec (.secWaitExpiry t b) s =
    execSecWaitExpiry t b s := rfl
@[simp] theorem exec_mapVersionExpiry (t : Nat) (s : State) : exec (.mapVersionExpiry t) s =
    execMapVersionExpiry t s := rfl
@[simp] theorem exec_timeMessageReceived (t : Nat) (p : Fin 24) (message : List Byte) (stamp : Nat) (s : State) : exec (.timeMessageReceived t p message stamp) s =
    execTimeMessageReceived t p message stamp s := rfl
@[simp] theorem exec_domainTimeout (t : Nat) (d : Fin 2) (announce : Bool) (s : State) : exec (.domainTimeout t d announce) s =
    execDomainTimeout t d announce s := rfl
@[simp] theorem exec_referenceLost (t : Nat) (s : State) : exec (.referenceLost t) s =
    execReferenceLost t s := rfl
@[simp] theorem exec_referenceReturn (t : Nat) (s : State) : exec (.referenceReturn t) s =
    execReferenceReturn t s := rfl
@[simp] theorem exec_followUpTableExpiry (t : Nat) (p : Fin 24) (s : State) : exec (.followUpTableExpiry t p) s =
    execFollowUpTableExpiry t p s := rfl
@[simp] theorem exec_timeTriggerFire (t : Nat) (n : Fin 32) (s : State) : exec (.timeTriggerFire t n) s =
    execTimeTriggerFire t n s := rfl
@[simp] theorem exec_timeOutPulseEnd (t : Nat) (pin : Fin 8) (s : State) : exec (.timeOutPulseEnd t pin) s =
    execTimeOutPulseEnd t pin s := rfl
@[simp] theorem exec_timeInCapture (t : Nat) (pin : Fin 8) (rising : Bool) (s : State) : exec (.timeInCapture t pin rising) s =
    execTimeInCapture t pin rising s := rfl
@[simp] theorem exec_tdmNoFrame (t : Nat) (a : Fin 8) (s : State) : exec (.tdmNoFrame t a) s =
    execTdmNoFrame t a s := rfl
@[simp] theorem exec_audioBlockCompute (t : Nat) (s : State) : exec (.audioBlockCompute t) s =
    execAudioBlockCompute t s := rfl
@[simp] theorem exec_aafStreamLost (t : Nat) (stream : Fin 128) (s : State) : exec (.aafStreamLost t stream) s =
    execAafStreamLost t stream s := rfl
@[simp] theorem exec_dmaRxTransfer (t : Nat) (r : Fin 32) (descs : List Byte) (fail : Bool) (s : State) : exec (.dmaRxTransfer t r descs fail) s =
    execDmaRxTransfer t r descs fail s := rfl
@[simp] theorem exec_rxStarveTimeout (t : Nat) (r : Fin 32) (s : State) : exec (.rxStarveTimeout t r) s =
    execRxStarveTimeout t r s := rfl
@[simp] theorem exec_rxEventTimer (t : Nat) (r : Fin 48) (s : State) : exec (.rxEventTimer t r) s =
    execRxEventTimer t r s := rfl
@[simp] theorem exec_dmaTxFrame (t : Nat) (r : Fin 16) (descs : List Byte) (data : List Byte) (read : TxRead) (s : State) : exec (.dmaTxFrame t r descs data read) s =
    execDmaTxFrame t r descs data read s := rfl
@[simp] theorem exec_tideEccScrub (t : Nat) (q : Fin 64) (corrected : Nat) (bad : List Nat) (s : State) : exec (.tideEccScrub t q corrected bad) s =
    execTideEccScrub t q corrected bad s := rfl
@[simp] theorem exec_entropyHealthFail (t : Nat) (s : State) : exec (.entropyHealthFail t) s =
    execEntropyHealthFail t s := rfl
@[simp] theorem exec_tamperAlarm (t : Nat) (monitor : Fin 7) (s : State) : exec (.tamperAlarm t monitor) s =
    execTamperAlarm t monitor s := rfl
@[simp] theorem exec_faultSourceEntry (t : Nat) (src : Fin 256) (target : Nat) (spec : Bool) (s : State) : exec (.faultSourceEntry t src target spec) s =
    execFaultSourceEntry t src target spec s := rfl
@[simp] theorem exec_faultSourceQuiet (t : Nat) (src : Fin 256) (s : State) : exec (.faultSourceQuiet t src) s =
    execFaultSourceQuiet t src s := rfl
@[simp] theorem exec_brokenPair (t : Nat) (src : Fin 256) (high : Bool) (s : State) : exec (.brokenPair t src high) s =
    execBrokenPair t src high s := rfl
@[simp] theorem exec_arbitrationWindowClose (t : Nat) (s : State) : exec (.arbitrationWindowClose t) s =
    execArbitrationWindowClose t s := rfl
@[simp] theorem exec_quietPeriodEnd (t : Nat) (src : Fin 256) (s : State) : exec (.quietPeriodEnd t src) s =
    execQuietPeriodEnd t src s := rfl
@[simp] theorem exec_budgetWindowEnd (t : Nat) (src : Fin 256) (s : State) : exec (.budgetWindowEnd t src) s =
    execBudgetWindowEnd t src s := rfl
@[simp] theorem exec_unitRestartEscalation (t : Nat) (island : Fin 7) (unit : Fin 64) (s : State) : exec (.unitRestartEscalation t island unit) s =
    execUnitRestartEscalation t island unit s := rfl
@[simp] theorem exec_faultPersistLatch (t : Nat) (src : Fin 256) (s : State) : exec (.faultPersistLatch t src) s =
    execFaultPersistLatch t src s := rfl
@[simp] theorem exec_unitRestartDone (t : Nat) (island : Fin 7) (unit : Fin 64) (s : State) : exec (.unitRestartDone t island unit) s =
    execUnitRestartDone t island unit s := rfl
@[simp] theorem exec_islandRestartDone (t : Nat) (island : Fin 7) (s : State) : exec (.islandRestartDone t island) s =
    execIslandRestartDone t island s := rfl
@[simp] theorem exec_handshakeTimeout (t : Nat) (near : Fin 7) (far : Fin 7) (s : State) : exec (.handshakeTimeout t near far) s =
    execHandshakeTimeout t near far s := rfl
@[simp] theorem exec_channelResetTimeout (t : Nat) (channel : Channel) (s : State) : exec (.channelResetTimeout t channel) s =
    execChannelResetTimeout t channel s := rfl
@[simp] theorem exec_glitchStorm (t : Nat) (group : Fin 10) (on : Bool) (s : State) : exec (.glitchStorm t group on) s =
    execGlitchStorm t group on s := rfl
@[simp] theorem exec_timerRecalibration (t : Nat) (ok : Bool) (s : State) : exec (.timerRecalibration t ok) s =
    execTimerRecalibration t ok s := rfl
@[simp] theorem exec_mdioTimeout (t : Nat) (island : Fin 2) (s : State) : exec (.mdioTimeout t island) s =
    execMdioTimeout t island s := rfl
@[simp] theorem exec_lpddrTrainingTimeout (t : Nat) (s : State) : exec (.lpddrTrainingTimeout t) s =
    execLpddrTrainingTimeout t s := rfl
@[simp] theorem exec_supplyWarning (t : Nat) (supply : Nat) (s : State) : exec (.supplyWarning t supply) s =
    execSupplyWarning t supply s := rfl
@[simp] theorem exec_brownOut (t : Nat) (s : State) : exec (.brownOut t) s =
    execBrownOut t s := rfl
@[simp] theorem exec_powerOn (t : Nat) (s : State) : exec (.powerOn t) s =
    execPowerOn t s := rfl
@[simp] theorem exec_resetN (t : Nat) (level : Bool) (straps : Nat) (s : State) : exec (.resetN t level straps) s =
    execResetN t level straps s := rfl
@[simp] theorem exec_pwrEnRetry (t : Nat) (s : State) : exec (.pwrEnRetry t) s =
    execPwrEnRetry t s := rfl
@[simp] theorem exec_vddAonLoss (t : Nat) (s : State) : exec (.vddAonLoss t) s =
    execVddAonLoss t s := rfl
@[simp] theorem exec_jtagInstruction (t : Nat) (load : JtagInstr) (s : State) : exec (.jtagInstruction t load) s =
    execJtagInstruction t load s := rfl
@[simp] theorem exec_pufRegeneration (t : Nat) (result : PufResult) (s : State) : exec (.pufRegeneration t result) s =
    execPufRegeneration t result s := rfl
@[simp] theorem exec_loaderImageCheck (t : Nat) (running : Bool) (staging : Bool) (s : State) : exec (.loaderImageCheck t running staging) s =
    execLoaderImageCheck t running staging s := rfl
@[simp] theorem exec_swapPageStep (t : Nat) (s : State) : exec (.swapPageStep t) s =
    execSwapPageStep t s := rfl
@[simp] theorem exec_firmwareStart (t : Nat) (s : State) : exec (.firmwareStart t) s =
    execFirmwareStart t s := rfl
@[simp] theorem exec_firmwareReady (t : Nat) (s : State) : exec (.firmwareReady t) s =
    execFirmwareReady t s := rfl
@[simp] theorem exec_firmwareHeartbeat (t : Nat) (s : State) : exec (.firmwareHeartbeat t) s =
    execFirmwareHeartbeat t s := rfl
@[simp] theorem exec_activateReboot (t : Nat) (s : State) : exec (.activateReboot t) s =
    execActivateReboot t s := rfl
@[simp] theorem exec_updateChunkReceived (t : Nat) (body : List Byte) (s : State) : exec (.updateChunkReceived t body) s =
    execUpdateChunkReceived t body s := rfl
@[simp] theorem exec_activationReportSend (t : Nat) (s : State) : exec (.activationReportSend t) s =
    execActivationReportSend t s := rfl
@[simp] theorem exec_activationReportReceived (t : Nat) (dev : Nat) (body : List Byte) (s : State) : exec (.activationReportReceived t dev body) s =
    execActivationReportReceived t dev body s := rfl
@[simp] theorem exec_actWaitExpiry (t : Nat) (s : State) : exec (.actWaitExpiry t) s =
    execActWaitExpiry t s := rfl
@[simp] theorem exec_activationOrderReceived (t : Nat) (body : List Byte) (s : State) : exec (.activationOrderReceived t body) s =
    execActivationOrderReceived t body s := rfl
@[simp] theorem exec_selfSwapbackTimeout (t : Nat) (s : State) : exec (.selfSwapbackTimeout t) s =
    execSelfSwapbackTimeout t s := rfl
@[simp] theorem exec_leaseRenewal (t : Nat) (s : State) : exec (.leaseRenewal t) s =
    execLeaseRenewal t s := rfl
@[simp] theorem exec_leaseLapse (t : Nat) (s : State) : exec (.leaseLapse t) s =
    execLeaseLapse t s := rfl
@[simp] theorem exec_tokenClaim (t : Nat) (s : State) : exec (.tokenClaim t) s =
    execTokenClaim t s := rfl
@[simp] theorem exec_leaseInChange (t : Nat) (reading : LeasePair) (s : State) : exec (.leaseInChange t reading) s =
    execLeaseInChange t reading s := rfl
@[simp] theorem exec_twinHelloSend (t : Nat) (s : State) : exec (.twinHelloSend t) s =
    execTwinHelloSend t s := rfl
@[simp] theorem exec_twinHelloReceived (t : Nat) (body : List Byte) (s : State) : exec (.twinHelloReceived t body) s =
    execTwinHelloReceived t body s := rfl
@[simp] theorem exec_twinRenewReceived (t : Nat) (body : List Byte) (s : State) : exec (.twinRenewReceived t body) s =
    execTwinRenewReceived t body s := rfl
@[simp] theorem exec_twinMirrorReceived (t : Nat) (body : List Byte) (s : State) : exec (.twinMirrorReceived t body) s =
    execTwinMirrorReceived t body s := rfl
@[simp] theorem exec_twinHealthSend (t : Nat) (s : State) : exec (.twinHealthSend t) s =
    execTwinHealthSend t s := rfl
@[simp] theorem exec_twinHealthReceived (t : Nat) (body : List Byte) (s : State) : exec (.twinHealthReceived t body) s =
    execTwinHealthReceived t body s := rfl
@[simp] theorem exec_healthReportTimeout (t : Nat) (s : State) : exec (.healthReportTimeout t) s =
    execHealthReportTimeout t s := rfl
@[simp] theorem exec_twinHandoverReceived (t : Nat) (s : State) : exec (.twinHandoverReceived t) s =
    execTwinHandoverReceived t s := rfl
@[simp] theorem exec_handoverBusesIdle (t : Nat) (s : State) : exec (.handoverBusesIdle t) s =
    execHandoverBusesIdle t s := rfl
@[simp] theorem exec_twinResyncReceived (t : Nat) (body : List Byte) (s : State) : exec (.twinResyncReceived t body) s =
    execTwinResyncReceived t body s := rfl
@[simp] theorem exec_twinTsyncSend (t : Nat) (s : State) : exec (.twinTsyncSend t) s =
    execTwinTsyncSend t s := rfl
@[simp] theorem exec_twinTsyncReceived (t : Nat) (body : List Byte) (s : State) : exec (.twinTsyncReceived t body) s =
    execTwinTsyncReceived t body s := rfl
@[simp] theorem exec_twinLinkDown (t : Nat) (s : State) : exec (.twinLinkDown t) s =
    execTwinLinkDown t s := rfl
@[simp] theorem exec_shadowTimeout (t : Nat) (b : Fin 32) (s : State) : exec (.shadowTimeout t b) s =
    execShadowTimeout t b s := rfl
@[simp] theorem exec_bistSlice (t : Nat) (pass : Bool) (s : State) : exec (.bistSlice t pass) s =
    execBistSlice t pass s := rfl
@[simp] theorem exec_causewayFrameReceive (t : Nat) (p : Fin 24) (frame : List Byte) (arrival : Arrival) (s : State) : exec (.causewayFrameReceive t p frame arrival) s =
    execCausewayFrameReceive t p frame arrival s := rfl
@[simp] theorem exec_cwHelloSend (t : Nat) (p : Fin 24) (s : State) : exec (.cwHelloSend t p) s =
    execCwHelloSend t p s := rfl
@[simp] theorem exec_cwHelloReceived (t : Nat) (p : Fin 24) (body : List Byte) (s : State) : exec (.cwHelloReceived t p body) s =
    execCwHelloReceived t p body s := rfl
@[simp] theorem exec_cwEngineClaim (t : Nat) (p : Fin 24) (s : State) : exec (.cwEngineClaim t p) s =
    execCwEngineClaim t p s := rfl
@[simp] theorem exec_neighbourLost (t : Nat) (p : Fin 24) (s : State) : exec (.neighbourLost t p) s =
    execNeighbourLost t p s := rfl
@[simp] theorem exec_topologySend (t : Nat) (s : State) : exec (.topologySend t) s =
    execTopologySend t s := rfl
@[simp] theorem exec_topologyReceived (t : Nat) (p : Fin 24) (body : List Byte) (s : State) : exec (.topologyReceived t p body) s =
    execTopologyReceived t p body s := rfl
@[simp] theorem exec_deviceUnheard (t : Nat) (id : Fin 256) (s : State) : exec (.deviceUnheard t id) s =
    execDeviceUnheard t id s := rfl
@[simp] theorem exec_remoteRequestReceived (t : Nat) (dev : Nat) (body : List Byte) (s : State) : exec (.remoteRequestReceived t dev body) s =
    execRemoteRequestReceived t dev body s := rfl
@[simp] theorem exec_remoteCompletionReceived (t : Nat) (dev : Nat) (body : List Byte) (s : State) : exec (.remoteCompletionReceived t dev body) s =
    execRemoteCompletionReceived t dev body s := rfl
@[simp] theorem exec_remoteTimeout (t : Nat) (m : Fin 8) (s : State) : exec (.remoteTimeout t m) s =
    execRemoteTimeout t m s := rfl
@[simp] theorem exec_remoteCacheExpiry (t : Nat) (s : State) : exec (.remoteCacheExpiry t) s =
    execRemoteCacheExpiry t s := rfl
@[simp] theorem exec_lockRequestReceived (t : Nat) (dev : Nat) (body : List Byte) (s : State) : exec (.lockRequestReceived t dev body) s =
    execLockRequestReceived t dev body s := rfl
@[simp] theorem exec_lockGrantReceived (t : Nat) (dev : Nat) (body : List Byte) (s : State) : exec (.lockGrantReceived t dev body) s =
    execLockGrantReceived t dev body s := rfl
@[simp] theorem exec_writeAndUnlockReceived (t : Nat) (dev : Nat) (body : List Byte) (s : State) : exec (.writeAndUnlockReceived t dev body) s =
    execWriteAndUnlockReceived t dev body s := rfl
@[simp] theorem exec_lockRetryReceived (t : Nat) (dev : Nat) (body : List Byte) (s : State) : exec (.lockRetryReceived t dev body) s =
    execLockRetryReceived t dev body s := rfl
@[simp] theorem exec_lockBackoffExpiry (t : Nat) (m : Fin 8) (s : State) : exec (.lockBackoffExpiry t m) s =
    execLockBackoffExpiry t m s := rfl
@[simp] theorem exec_farLockExpiry (t : Nat) (s : State) : exec (.farLockExpiry t) s =
    execFarLockExpiry t s := rfl
@[simp] theorem exec_cwEventReceived (t : Nat) (dev : Nat) (body : List Byte) (s : State) : exec (.cwEventReceived t dev body) s =
    execCwEventReceived t dev body s := rfl
@[simp] theorem exec_peerCommandReceived (t : Nat) (body : List Byte) (s : State) : exec (.peerCommandReceived t body) s =
    execPeerCommandReceived t body s := rfl
@[simp] theorem exec_consentLapStart (t : Nat) (s : State) : exec (.consentLapStart t) s =
    execConsentLapStart t s := rfl
@[simp] theorem exec_busLapMessageReceived (t : Nat) (b : Fin 32) (body : List Byte) (s : State) : exec (.busLapMessageReceived t b body) s =
    execBusLapMessageReceived t b body s := rfl
@[simp] theorem exec_nodeSlotTimeout (t : Nat) (b : Fin 32) (s : State) : exec (.nodeSlotTimeout t b) s =
    execNodeSlotTimeout t b s := rfl
@[simp] theorem exec_deviceLapReceived (t : Nat) (dev : Nat) (body : List Byte) (s : State) : exec (.deviceLapReceived t dev body) s =
    execDeviceLapReceived t dev body s := rfl
@[simp] theorem exec_lapTimeout (t : Nat) (s : State) : exec (.lapTimeout t) s =
    execLapTimeout t s := rfl
@[simp] theorem exec_sleepCancelReceived (t : Nat) (dev : Nat) (body : List Byte) (s : State) : exec (.sleepCancelReceived t dev body) s =
    execSleepCancelReceived t dev body s := rfl
@[simp] theorem exec_wakeRequest (t : Nat) (stim : WakeStim) (s : State) : exec (.wakeRequest t stim) s =
    execWakeRequest t stim s := rfl
@[simp] theorem exec_sleepSettle (t : Nat) (s : State) : exec (.sleepSettle t) s =
    execSleepSettle t s := rfl
@[simp] theorem exec_sleepPowerOff (t : Nat) (s : State) : exec (.sleepPowerOff t) s =
    execSleepPowerOff t s := rfl
@[simp] theorem exec_wakeSource (t : Nat) (stims : List WakeStim) (s : State) : exec (.wakeSource t stims) s =
    execWakeSource t stims s := rfl
@[simp] theorem exec_ringLost (t : Nat) (s : State) : exec (.ringLost t) s =
    execRingLost t s := rfl
@[simp] theorem exec_falseWakeCheck (t : Nat) (s : State) : exec (.falseWakeCheck t) s =
    execFalseWakeCheck t s := rfl
@[simp] theorem exec_pcieLinkStateChange (t : Nat) (width : Nat) (speed : Nat) (up : Bool) (s : State) : exec (.pcieLinkStateChange t width speed up) s =
    execPcieLinkStateChange t width speed up s := rfl
@[simp] theorem exec_pathDelayRequestSend (t : Nat) (d : Fin 2) (s : State) : exec (.pathDelayRequestSend t d) s =
    execPathDelayRequestSend t d s := rfl
@[simp] theorem exec_slewEnd (t : Nat) (s : State) : exec (.slewEnd t) s =
    execSlewEnd t s := rfl
@[simp] theorem exec_brokenPairRestored (t : Nat) (src : Fin 256) (s : State) : exec (.brokenPairRestored t src) s =
    execBrokenPairRestored t src s := rfl
@[simp] theorem exec_coreSupplyInRange (t : Nat) (s : State) : exec (.coreSupplyInRange t) s =
    execCoreSupplyInRange t s := rfl
@[simp] theorem exec_safeStateOutputRelease (t : Nat) (s : State) : exec (.safeStateOutputRelease t) s =
    execSafeStateOutputRelease t s := rfl
@[simp] theorem exec_twinSleepCommitReceived (t : Nat) (body : List Byte) (s : State) : exec (.twinSleepCommitReceived t body) s =
    execTwinSleepCommitReceived t body s := rfl

end Sys2Proof.Machine
end

