-- ==== Sys2Proof/Laws/Tab.lean ====
section
/-! SUPPORT. Sparse tables and the payload windows: what a read gives after a write. -/

set_option Elab.async false

namespace Sys2Proof.Machine

open Sys2Proof

theorem assocFind_set_same {α : Type} (k : Nat) (v : α) (l : List (Nat × α)) : assocFind k (assocSet k v l) = some v := by
  induction l with
  | nil => simp [assocSet, assocFind]
  | cons c r ih =>
    obtain ⟨j, w⟩ := c
    unfold assocSet
    split
    · simp [assocFind]
    · split
      · simp [assocFind]
      · have h : ¬j = k := fun e => ‹¬k = j› e.symm
        simp [assocFind, h, ih]

theorem assocFind_set_ne {α : Type} {i k : Nat} (h : i ≠ k) (v : α) (l : List (Nat × α)) :
    assocFind i (assocSet k v l) = assocFind i l := by
  induction l with
  | nil => simp [assocSet, assocFind, h.symm]
  | cons c r ih =>
    obtain ⟨j, w⟩ := c
    unfold assocSet
    split
    · simp [assocFind, h.symm]
    · split
      · subst k
        simp [assocFind, h.symm]
      · simp [assocFind, ih]

@[simp] theorem Tab.get_set_same {α : Type} (d : α) (t : Tab α) (k : Nat) (v : α) : (t.set k v).get d k = v := by
  simp [Tab.get, Tab.find, Tab.set, assocFind_set_same]

@[simp] theorem Tab.get_set_ne {α : Type} (d : α) (t : Tab α) {i k : Nat} (h : i ≠ k) (v : α) :
    (t.set k v).get d i = t.get d i := by
  simp [Tab.get, Tab.find, Tab.set, assocFind_set_ne h]

@[simp] theorem Tab.get_modify_same {α : Type} (d : α) (t : Tab α) (k : Nat) (f : α → α) :
    (t.modify d k f).get d k = f (t.get d k) := Tab.get_set_same d t k _

@[simp] theorem Tab.get_modify_ne {α : Type} (d : α) (t : Tab α) {i k : Nat} (h : i ≠ k) (f : α → α) :
    (t.modify d k f).get d i = t.get d i := Tab.get_set_ne d t h _

/-- A byte of the windows reads as the last write to it. -/
theorem cellByte_write_same (a : Nat) (v : Byte) {lo : Nat} {m : List Host.Cell} (h : cellsFrom lo m = true) :
    cellByte a (cellWrite a v m) = v := by
  induction m generalizing lo with
  | nil =>
    unfold cellWrite
    split
    · exact ‹v = 0›.symm
    · simp [cellByte]
  | cons c r ih =>
    obtain ⟨k, w⟩ := c
    have hr : cellsFrom (k + 1) r = true := by
      simp only [cellsFrom, Bool.and_eq_true] at h
      exact h.2
    have hz : ∀ {l : Nat} {n : List Host.Cell}, cellsFrom l n = true → a < l → cellByte a n = 0 := by
      intro l n
      induction n generalizing l with
      | nil => intros; rfl
      | cons d q iq =>
        intro e g
        simp only [cellsFrom, Bool.and_eq_true, decide_eq_true_eq] at e
        have : ¬d.1 = a := by omega
        simp [cellByte, this, iq e.2 (by omega)]
    unfold cellWrite
    split
    · split
      · have : ¬k = a := by omega
        simp [cellByte, this, hz hr (by omega), ‹v = 0›]
      · simp [cellByte]
    · split
      · split
        · subst k
          simp [hz hr (by omega), ‹v = 0›]
        · simp [cellByte]
      · have : ¬k = a := fun e => ‹¬a = k› e.symm
        simp [cellByte, this, ih hr]

/-- A write of a byte leaves every other byte of the windows. -/
theorem cellByte_write_ne {i a : Nat} (h : i ≠ a) (v : Byte) (m : List Host.Cell) :
    cellByte i (cellWrite a v m) = cellByte i m := by
  induction m with
  | nil =>
    unfold cellWrite
    split
    · rfl
    · simp [cellByte, h.symm]
  | cons c r ih =>
    obtain ⟨k, w⟩ := c
    unfold cellWrite
    split
    · split
      · rfl
      · simp [cellByte, h.symm]
    · split
      · split
        · subst k
          simp [cellByte, h.symm]
        · subst k
          simp [cellByte, h.symm]
      · simp [cellByte, ih]

/-- A write of bytes leaves every byte outside them. -/
theorem cellByte_writes_ne {i a : Nat} {bs : List Byte} {m : List Host.Cell} (h : i < a ∨ a + bs.length ≤ i) :
    cellByte i (cellsWrite a bs m) = cellByte i m := by
  induction bs generalizing a m with
  | nil => rfl
  | cons b r ih =>
    simp only [List.length_cons] at h
    rw [cellsWrite, ih (by omega), cellByte_write_ne (by omega)]

end Sys2Proof.Machine
end

