-- ==== Sys2Proof/Laws/State.lean ====
section
/-! SUPPORT. What each named update of the state leaves and sets, field by field; what an accessor reads after it. -/

set_option Elab.async false

namespace Sys2Proof.Machine

open Sys2Proof

@[simp] theorem State.tick_fields (s : State) (t : Nat) :
    (s.tick t).pending = s.pending ∧ (s.tick t).draws = s.draws ∧ (s.tick t).windows = s.windows ∧
    (s.tick t).sent = s.sent ∧ (s.tick t).host = s.host ∧ (s.tick t).mbx = s.mbx ∧
    (s.tick t).mbxOrder = s.mbxOrder ∧ (s.tick t).ctrs = s.ctrs ∧ (s.tick t).islands = s.islands ∧
    (s.tick t).units = s.units ∧ (s.tick t).buses = s.buses ∧ (s.tick t).eth = s.eth ∧ (s.tick t).parse = s.parse ∧
    (s.tick t).tbl = s.tbl ∧ (s.tick t).sw = s.sw ∧ (s.tick t).sig = s.sig ∧ (s.tick t).time = s.time ∧
    (s.tick t).aud = s.aud ∧ (s.tick t).tide = s.tide ∧ (s.tick t).sec = s.sec ∧ (s.tick t).flt = s.flt ∧
    (s.tick t).twin = s.twin ∧ (s.tick t).cw = s.cw ∧ (s.tick t).slp = s.slp ∧ (s.tick t).boot = s.boot ∧
    (s.tick t).now = max s.now t :=
  ⟨rfl, rfl, rfl, rfl, rfl, rfl, rfl, rfl, rfl, rfl, rfl, rfl, rfl,
    rfl, rfl, rfl, rfl, rfl, rfl, rfl, rfl, rfl, rfl, rfl, rfl, rfl⟩

@[simp] theorem State.draw_fields (s : State) :
    (s.draw.2).pending = s.pending ∧ (s.draw.2).now = s.now ∧ (s.draw.2).windows = s.windows ∧
    (s.draw.2).sent = s.sent ∧ (s.draw.2).host = s.host ∧ (s.draw.2).mbx = s.mbx ∧
    (s.draw.2).mbxOrder = s.mbxOrder ∧ (s.draw.2).ctrs = s.ctrs ∧ (s.draw.2).islands = s.islands ∧
    (s.draw.2).units = s.units ∧ (s.draw.2).buses = s.buses ∧ (s.draw.2).eth = s.eth ∧ (s.draw.2).parse = s.parse ∧
    (s.draw.2).tbl = s.tbl ∧ (s.draw.2).sw = s.sw ∧ (s.draw.2).sig = s.sig ∧ (s.draw.2).time = s.time ∧
    (s.draw.2).aud = s.aud ∧ (s.draw.2).tide = s.tide ∧ (s.draw.2).sec = s.sec ∧ (s.draw.2).flt = s.flt ∧
    (s.draw.2).twin = s.twin ∧ (s.draw.2).cw = s.cw ∧ (s.draw.2).slp = s.slp ∧ (s.draw.2).boot = s.boot ∧
    (s.draw.2).draws = s.draws + 1 :=
  ⟨rfl, rfl, rfl, rfl, rfl, rfl, rfl, rfl, rfl, rfl, rfl, rfl, rfl,
    rfl, rfl, rfl, rfl, rfl, rfl, rfl, rfl, rfl, rfl, rfl, rfl, rfl⟩

@[simp] theorem State.drawBelow_fields (s : State) (n : Nat) :
    (s.drawBelow n).2.pending = s.pending ∧ (s.drawBelow n).2.now = s.now ∧
    (s.drawBelow n).2.windows = s.windows ∧ (s.drawBelow n).2.sent = s.sent ∧
    (s.drawBelow n).2.host = s.host ∧ (s.drawBelow n).2.mbx = s.mbx ∧
    (s.drawBelow n).2.mbxOrder = s.mbxOrder ∧ (s.drawBelow n).2.ctrs = s.ctrs ∧
    (s.drawBelow n).2.islands = s.islands ∧ (s.drawBelow n).2.units = s.units ∧
    (s.drawBelow n).2.buses = s.buses ∧ (s.drawBelow n).2.eth = s.eth ∧
    (s.drawBelow n).2.parse = s.parse ∧ (s.drawBelow n).2.tbl = s.tbl ∧ (s.drawBelow n).2.sw = s.sw ∧
    (s.drawBelow n).2.sig = s.sig ∧ (s.drawBelow n).2.time = s.time ∧ (s.drawBelow n).2.aud = s.aud ∧
    (s.drawBelow n).2.tide = s.tide ∧ (s.drawBelow n).2.sec = s.sec ∧ (s.drawBelow n).2.flt = s.flt ∧
    (s.drawBelow n).2.twin = s.twin ∧ (s.drawBelow n).2.cw = s.cw ∧ (s.drawBelow n).2.slp = s.slp ∧
    (s.drawBelow n).2.boot = s.boot ∧ (s.drawBelow n).2.draws = s.draws + 1 :=
  ⟨rfl, rfl, rfl, rfl, rfl, rfl, rfl, rfl, rfl, rfl, rfl, rfl, rfl,
    rfl, rfl, rfl, rfl, rfl, rfl, rfl, rfl, rfl, rfl, rfl, rfl, rfl⟩

@[simp] theorem State.drawBytes_fields (s : State) (n : Nat) :
    (s.drawBytes n).2.pending = s.pending ∧ (s.drawBytes n).2.now = s.now ∧
    (s.drawBytes n).2.windows = s.windows ∧ (s.drawBytes n).2.sent = s.sent ∧
    (s.drawBytes n).2.host = s.host ∧ (s.drawBytes n).2.mbx = s.mbx ∧
    (s.drawBytes n).2.mbxOrder = s.mbxOrder ∧ (s.drawBytes n).2.ctrs = s.ctrs ∧
    (s.drawBytes n).2.islands = s.islands ∧ (s.drawBytes n).2.units = s.units ∧
    (s.drawBytes n).2.buses = s.buses ∧ (s.drawBytes n).2.eth = s.eth ∧
    (s.drawBytes n).2.parse = s.parse ∧ (s.drawBytes n).2.tbl = s.tbl ∧ (s.drawBytes n).2.sw = s.sw ∧
    (s.drawBytes n).2.sig = s.sig ∧ (s.drawBytes n).2.time = s.time ∧ (s.drawBytes n).2.aud = s.aud ∧
    (s.drawBytes n).2.tide = s.tide ∧ (s.drawBytes n).2.sec = s.sec ∧ (s.drawBytes n).2.flt = s.flt ∧
    (s.drawBytes n).2.twin = s.twin ∧ (s.drawBytes n).2.cw = s.cw ∧ (s.drawBytes n).2.slp = s.slp ∧
    (s.drawBytes n).2.boot = s.boot ∧ (s.drawBytes n).2.draws = s.draws + 1 :=
  ⟨rfl, rfl, rfl, rfl, rfl, rfl, rfl, rfl, rfl, rfl, rfl, rfl, rfl,
    rfl, rfl, rfl, rfl, rfl, rfl, rfl, rfl, rfl, rfl, rfl, rfl, rfl⟩

@[simp] theorem State.send_fields (s : State) (x : Sent) :
    (s.send x).pending = s.pending ∧ (s.send x).now = s.now ∧ (s.send x).draws = s.draws ∧
    (s.send x).windows = s.windows ∧ (s.send x).host = s.host ∧ (s.send x).mbx = s.mbx ∧
    (s.send x).mbxOrder = s.mbxOrder ∧ (s.send x).ctrs = s.ctrs ∧ (s.send x).islands = s.islands ∧
    (s.send x).units = s.units ∧ (s.send x).buses = s.buses ∧ (s.send x).eth = s.eth ∧ (s.send x).parse = s.parse ∧
    (s.send x).tbl = s.tbl ∧ (s.send x).sw = s.sw ∧ (s.send x).sig = s.sig ∧ (s.send x).time = s.time ∧
    (s.send x).aud = s.aud ∧ (s.send x).tide = s.tide ∧ (s.send x).sec = s.sec ∧ (s.send x).flt = s.flt ∧
    (s.send x).twin = s.twin ∧ (s.send x).cw = s.cw ∧ (s.send x).slp = s.slp ∧ (s.send x).boot = s.boot ∧
    (s.send x).sent = x :: s.sent :=
  ⟨rfl, rfl, rfl, rfl, rfl, rfl, rfl, rfl, rfl, rfl, rfl, rfl, rfl,
    rfl, rfl, rfl, rfl, rfl, rfl, rfl, rfl, rfl, rfl, rfl, rfl, rfl⟩

@[simp] theorem State.setWindow_fields (s : State) (a : Nat) (bs : List Byte) :
    (s.setWindow a bs).pending = s.pending ∧ (s.setWindow a bs).now = s.now ∧ (s.setWindow a bs).draws = s.draws ∧
    (s.setWindow a bs).sent = s.sent ∧ (s.setWindow a bs).host = s.host ∧ (s.setWindow a bs).mbx = s.mbx ∧
    (s.setWindow a bs).mbxOrder = s.mbxOrder ∧ (s.setWindow a bs).ctrs = s.ctrs ∧
    (s.setWindow a bs).islands = s.islands ∧ (s.setWindow a bs).units = s.units ∧
    (s.setWindow a bs).buses = s.buses ∧ (s.setWindow a bs).eth = s.eth ∧ (s.setWindow a bs).parse = s.parse ∧
    (s.setWindow a bs).tbl = s.tbl ∧ (s.setWindow a bs).sw = s.sw ∧ (s.setWindow a bs).sig = s.sig ∧
    (s.setWindow a bs).time = s.time ∧ (s.setWindow a bs).aud = s.aud ∧ (s.setWindow a bs).tide = s.tide ∧
    (s.setWindow a bs).sec = s.sec ∧ (s.setWindow a bs).flt = s.flt ∧ (s.setWindow a bs).twin = s.twin ∧
    (s.setWindow a bs).cw = s.cw ∧ (s.setWindow a bs).slp = s.slp ∧ (s.setWindow a bs).boot = s.boot ∧
    (s.setWindow a bs).windows = cellsWrite a bs s.windows :=
  ⟨rfl, rfl, rfl, rfl, rfl, rfl, rfl, rfl, rfl, rfl, rfl, rfl, rfl,
    rfl, rfl, rfl, rfl, rfl, rfl, rfl, rfl, rfl, rfl, rfl, rfl, rfl⟩

@[simp] theorem State.setWindowByte_fields (s : State) (a : Nat) (v : Byte) :
    (s.setWindowByte a v).pending = s.pending ∧ (s.setWindowByte a v).now = s.now ∧
    (s.setWindowByte a v).draws = s.draws ∧ (s.setWindowByte a v).sent = s.sent ∧
    (s.setWindowByte a v).host = s.host ∧ (s.setWindowByte a v).mbx = s.mbx ∧
    (s.setWindowByte a v).mbxOrder = s.mbxOrder ∧ (s.setWindowByte a v).ctrs = s.ctrs ∧
    (s.setWindowByte a v).islands = s.islands ∧ (s.setWindowByte a v).units = s.units ∧
    (s.setWindowByte a v).buses = s.buses ∧ (s.setWindowByte a v).eth = s.eth ∧
    (s.setWindowByte a v).parse = s.parse ∧ (s.setWindowByte a v).tbl = s.tbl ∧ (s.setWindowByte a v).sw = s.sw ∧
    (s.setWindowByte a v).sig = s.sig ∧ (s.setWindowByte a v).time = s.time ∧ (s.setWindowByte a v).aud = s.aud ∧
    (s.setWindowByte a v).tide = s.tide ∧ (s.setWindowByte a v).sec = s.sec ∧ (s.setWindowByte a v).flt = s.flt ∧
    (s.setWindowByte a v).twin = s.twin ∧ (s.setWindowByte a v).cw = s.cw ∧ (s.setWindowByte a v).slp = s.slp ∧
    (s.setWindowByte a v).boot = s.boot ∧ (s.setWindowByte a v).windows = cellWrite a v s.windows :=
  ⟨rfl, rfl, rfl, rfl, rfl, rfl, rfl, rfl, rfl, rfl, rfl, rfl, rfl,
    rfl, rfl, rfl, rfl, rfl, rfl, rfl, rfl, rfl, rfl, rfl, rfl, rfl⟩

@[simp] theorem State.modMb_fields (s : State) (i : Nat) (f : Mbx → Mbx) :
    (s.modMb i f).pending = s.pending ∧ (s.modMb i f).now = s.now ∧ (s.modMb i f).draws = s.draws ∧
    (s.modMb i f).windows = s.windows ∧ (s.modMb i f).sent = s.sent ∧ (s.modMb i f).host = s.host ∧
    (s.modMb i f).mbxOrder = s.mbxOrder ∧ (s.modMb i f).ctrs = s.ctrs ∧ (s.modMb i f).islands = s.islands ∧
    (s.modMb i f).units = s.units ∧ (s.modMb i f).buses = s.buses ∧ (s.modMb i f).eth = s.eth ∧
    (s.modMb i f).parse = s.parse ∧ (s.modMb i f).tbl = s.tbl ∧ (s.modMb i f).sw = s.sw ∧
    (s.modMb i f).sig = s.sig ∧ (s.modMb i f).time = s.time ∧ (s.modMb i f).aud = s.aud ∧
    (s.modMb i f).tide = s.tide ∧ (s.modMb i f).sec = s.sec ∧ (s.modMb i f).flt = s.flt ∧
    (s.modMb i f).twin = s.twin ∧ (s.modMb i f).cw = s.cw ∧ (s.modMb i f).slp = s.slp ∧
    (s.modMb i f).boot = s.boot ∧ (s.modMb i f).mbx = s.mbx.modify {} i f :=
  ⟨rfl, rfl, rfl, rfl, rfl, rfl, rfl, rfl, rfl, rfl, rfl, rfl, rfl,
    rfl, rfl, rfl, rfl, rfl, rfl, rfl, rfl, rfl, rfl, rfl, rfl, rfl⟩

@[simp] theorem State.modIsl_fields (s : State) (i : Nat) (f : Island → Island) :
    (s.modIsl i f).pending = s.pending ∧ (s.modIsl i f).now = s.now ∧ (s.modIsl i f).draws = s.draws ∧
    (s.modIsl i f).windows = s.windows ∧ (s.modIsl i f).sent = s.sent ∧ (s.modIsl i f).host = s.host ∧
    (s.modIsl i f).mbx = s.mbx ∧ (s.modIsl i f).mbxOrder = s.mbxOrder ∧ (s.modIsl i f).ctrs = s.ctrs ∧
    (s.modIsl i f).units = s.units ∧ (s.modIsl i f).buses = s.buses ∧ (s.modIsl i f).eth = s.eth ∧
    (s.modIsl i f).parse = s.parse ∧ (s.modIsl i f).tbl = s.tbl ∧ (s.modIsl i f).sw = s.sw ∧
    (s.modIsl i f).sig = s.sig ∧ (s.modIsl i f).time = s.time ∧ (s.modIsl i f).aud = s.aud ∧
    (s.modIsl i f).tide = s.tide ∧ (s.modIsl i f).sec = s.sec ∧ (s.modIsl i f).flt = s.flt ∧
    (s.modIsl i f).twin = s.twin ∧ (s.modIsl i f).cw = s.cw ∧ (s.modIsl i f).slp = s.slp ∧
    (s.modIsl i f).boot = s.boot ∧ (s.modIsl i f).islands = s.islands.modify {} i f :=
  ⟨rfl, rfl, rfl, rfl, rfl, rfl, rfl, rfl, rfl, rfl, rfl, rfl, rfl,
    rfl, rfl, rfl, rfl, rfl, rfl, rfl, rfl, rfl, rfl, rfl, rfl, rfl⟩

@[simp] theorem State.modUnitSt_fields (s : State) (i u : Nat) (f : UnitSt → UnitSt) :
    (s.modUnitSt i u f).pending = s.pending ∧ (s.modUnitSt i u f).now = s.now ∧
    (s.modUnitSt i u f).draws = s.draws ∧ (s.modUnitSt i u f).windows = s.windows ∧
    (s.modUnitSt i u f).sent = s.sent ∧ (s.modUnitSt i u f).host = s.host ∧ (s.modUnitSt i u f).mbx = s.mbx ∧
    (s.modUnitSt i u f).mbxOrder = s.mbxOrder ∧ (s.modUnitSt i u f).ctrs = s.ctrs ∧
    (s.modUnitSt i u f).islands = s.islands ∧ (s.modUnitSt i u f).buses = s.buses ∧
    (s.modUnitSt i u f).eth = s.eth ∧ (s.modUnitSt i u f).parse = s.parse ∧ (s.modUnitSt i u f).tbl = s.tbl ∧
    (s.modUnitSt i u f).sw = s.sw ∧ (s.modUnitSt i u f).sig = s.sig ∧ (s.modUnitSt i u f).time = s.time ∧
    (s.modUnitSt i u f).aud = s.aud ∧ (s.modUnitSt i u f).tide = s.tide ∧ (s.modUnitSt i u f).sec = s.sec ∧
    (s.modUnitSt i u f).flt = s.flt ∧ (s.modUnitSt i u f).twin = s.twin ∧ (s.modUnitSt i u f).cw = s.cw ∧
    (s.modUnitSt i u f).slp = s.slp ∧ (s.modUnitSt i u f).boot = s.boot ∧
    (s.modUnitSt i u f).units = s.units.modify {} (i * 64 + u) f :=
  ⟨rfl, rfl, rfl, rfl, rfl, rfl, rfl, rfl, rfl, rfl, rfl, rfl, rfl,
    rfl, rfl, rfl, rfl, rfl, rfl, rfl, rfl, rfl, rfl, rfl, rfl, rfl⟩

@[simp] theorem State.modBus_fields (s : State) (i : Nat) (f : Bus → Bus) :
    (s.modBus i f).pending = s.pending ∧ (s.modBus i f).now = s.now ∧ (s.modBus i f).draws = s.draws ∧
    (s.modBus i f).windows = s.windows ∧ (s.modBus i f).sent = s.sent ∧ (s.modBus i f).host = s.host ∧
    (s.modBus i f).mbx = s.mbx ∧ (s.modBus i f).mbxOrder = s.mbxOrder ∧ (s.modBus i f).ctrs = s.ctrs ∧
    (s.modBus i f).islands = s.islands ∧ (s.modBus i f).units = s.units ∧ (s.modBus i f).eth = s.eth ∧
    (s.modBus i f).parse = s.parse ∧ (s.modBus i f).tbl = s.tbl ∧ (s.modBus i f).sw = s.sw ∧
    (s.modBus i f).sig = s.sig ∧ (s.modBus i f).time = s.time ∧ (s.modBus i f).aud = s.aud ∧
    (s.modBus i f).tide = s.tide ∧ (s.modBus i f).sec = s.sec ∧ (s.modBus i f).flt = s.flt ∧
    (s.modBus i f).twin = s.twin ∧ (s.modBus i f).cw = s.cw ∧ (s.modBus i f).slp = s.slp ∧
    (s.modBus i f).boot = s.boot ∧ (s.modBus i f).buses = s.buses.modify {} i f :=
  ⟨rfl, rfl, rfl, rfl, rfl, rfl, rfl, rfl, rfl, rfl, rfl, rfl, rfl,
    rfl, rfl, rfl, rfl, rfl, rfl, rfl, rfl, rfl, rfl, rfl, rfl, rfl⟩

@[simp] theorem State.modPort_fields (s : State) (i : Nat) (f : Eth → Eth) :
    (s.modPort i f).pending = s.pending ∧ (s.modPort i f).now = s.now ∧ (s.modPort i f).draws = s.draws ∧
    (s.modPort i f).windows = s.windows ∧ (s.modPort i f).sent = s.sent ∧ (s.modPort i f).host = s.host ∧
    (s.modPort i f).mbx = s.mbx ∧ (s.modPort i f).mbxOrder = s.mbxOrder ∧ (s.modPort i f).ctrs = s.ctrs ∧
    (s.modPort i f).islands = s.islands ∧ (s.modPort i f).units = s.units ∧ (s.modPort i f).buses = s.buses ∧
    (s.modPort i f).parse = s.parse ∧ (s.modPort i f).tbl = s.tbl ∧ (s.modPort i f).sw = s.sw ∧
    (s.modPort i f).sig = s.sig ∧ (s.modPort i f).time = s.time ∧ (s.modPort i f).aud = s.aud ∧
    (s.modPort i f).tide = s.tide ∧ (s.modPort i f).sec = s.sec ∧ (s.modPort i f).flt = s.flt ∧
    (s.modPort i f).twin = s.twin ∧ (s.modPort i f).cw = s.cw ∧ (s.modPort i f).slp = s.slp ∧
    (s.modPort i f).boot = s.boot ∧ (s.modPort i f).eth = s.eth.modify {} i f :=
  ⟨rfl, rfl, rfl, rfl, rfl, rfl, rfl, rfl, rfl, rfl, rfl, rfl, rfl,
    rfl, rfl, rfl, rfl, rfl, rfl, rfl, rfl, rfl, rfl, rfl, rfl, rfl⟩

@[simp] theorem State.modPolicer_fields (s : State) (i : Nat) (g : Policer → Policer) :
    (s.modPolicer i g).pending = s.pending ∧ (s.modPolicer i g).now = s.now ∧ (s.modPolicer i g).draws = s.draws ∧
    (s.modPolicer i g).windows = s.windows ∧ (s.modPolicer i g).sent = s.sent ∧ (s.modPolicer i g).host = s.host ∧
    (s.modPolicer i g).mbx = s.mbx ∧ (s.modPolicer i g).mbxOrder = s.mbxOrder ∧ (s.modPolicer i g).ctrs = s.ctrs ∧
    (s.modPolicer i g).islands = s.islands ∧ (s.modPolicer i g).units = s.units ∧
    (s.modPolicer i g).buses = s.buses ∧ (s.modPolicer i g).eth = s.eth ∧ (s.modPolicer i g).tbl = s.tbl ∧
    (s.modPolicer i g).sw = s.sw ∧ (s.modPolicer i g).sig = s.sig ∧ (s.modPolicer i g).time = s.time ∧
    (s.modPolicer i g).aud = s.aud ∧ (s.modPolicer i g).tide = s.tide ∧ (s.modPolicer i g).sec = s.sec ∧
    (s.modPolicer i g).flt = s.flt ∧ (s.modPolicer i g).twin = s.twin ∧ (s.modPolicer i g).cw = s.cw ∧
    (s.modPolicer i g).slp = s.slp ∧ (s.modPolicer i g).boot = s.boot ∧
    (s.modPolicer i g).parse = { s.parse with policers := s.parse.policers.modify {} i g } :=
  ⟨rfl, rfl, rfl, rfl, rfl, rfl, rfl, rfl, rfl, rfl, rfl, rfl, rfl,
    rfl, rfl, rfl, rfl, rfl, rfl, rfl, rfl, rfl, rfl, rfl, rfl, rfl⟩

@[simp] theorem State.modL2e_fields (s : State) (i : Nat) (g : L2Ent → L2Ent) :
    (s.modL2e i g).pending = s.pending ∧ (s.modL2e i g).now = s.now ∧ (s.modL2e i g).draws = s.draws ∧
    (s.modL2e i g).windows = s.windows ∧ (s.modL2e i g).sent = s.sent ∧ (s.modL2e i g).host = s.host ∧
    (s.modL2e i g).mbx = s.mbx ∧ (s.modL2e i g).mbxOrder = s.mbxOrder ∧ (s.modL2e i g).ctrs = s.ctrs ∧
    (s.modL2e i g).islands = s.islands ∧ (s.modL2e i g).units = s.units ∧ (s.modL2e i g).buses = s.buses ∧
    (s.modL2e i g).eth = s.eth ∧ (s.modL2e i g).parse = s.parse ∧ (s.modL2e i g).sw = s.sw ∧
    (s.modL2e i g).sig = s.sig ∧ (s.modL2e i g).time = s.time ∧ (s.modL2e i g).aud = s.aud ∧
    (s.modL2e i g).tide = s.tide ∧ (s.modL2e i g).sec = s.sec ∧ (s.modL2e i g).flt = s.flt ∧
    (s.modL2e i g).twin = s.twin ∧ (s.modL2e i g).cw = s.cw ∧ (s.modL2e i g).slp = s.slp ∧
    (s.modL2e i g).boot = s.boot ∧ (s.modL2e i g).tbl = { s.tbl with l2 := s.tbl.l2.modify {} i g } :=
  ⟨rfl, rfl, rfl, rfl, rfl, rfl, rfl, rfl, rfl, rfl, rfl, rfl, rfl,
    rfl, rfl, rfl, rfl, rfl, rfl, rfl, rfl, rfl, rfl, rfl, rfl, rfl⟩

@[simp] theorem State.modVlan_fields (s : State) (i : Nat) (g : VlanEnt → VlanEnt) :
    (s.modVlan i g).pending = s.pending ∧ (s.modVlan i g).now = s.now ∧ (s.modVlan i g).draws = s.draws ∧
    (s.modVlan i g).windows = s.windows ∧ (s.modVlan i g).sent = s.sent ∧ (s.modVlan i g).host = s.host ∧
    (s.modVlan i g).mbx = s.mbx ∧ (s.modVlan i g).mbxOrder = s.mbxOrder ∧ (s.modVlan i g).ctrs = s.ctrs ∧
    (s.modVlan i g).islands = s.islands ∧ (s.modVlan i g).units = s.units ∧ (s.modVlan i g).buses = s.buses ∧
    (s.modVlan i g).eth = s.eth ∧ (s.modVlan i g).parse = s.parse ∧ (s.modVlan i g).sw = s.sw ∧
    (s.modVlan i g).sig = s.sig ∧ (s.modVlan i g).time = s.time ∧ (s.modVlan i g).aud = s.aud ∧
    (s.modVlan i g).tide = s.tide ∧ (s.modVlan i g).sec = s.sec ∧ (s.modVlan i g).flt = s.flt ∧
    (s.modVlan i g).twin = s.twin ∧ (s.modVlan i g).cw = s.cw ∧ (s.modVlan i g).slp = s.slp ∧
    (s.modVlan i g).boot = s.boot ∧ (s.modVlan i g).tbl = { s.tbl with vlans := s.tbl.vlans.modify {} i g } :=
  ⟨rfl, rfl, rfl, rfl, rfl, rfl, rfl, rfl, rfl, rfl, rfl, rfl, rfl,
    rfl, rfl, rfl, rfl, rfl, rfl, rfl, rfl, rfl, rfl, rfl, rfl, rfl⟩

@[simp] theorem State.modStream_fields (s : State) (i : Nat) (g : StreamEnt → StreamEnt) :
    (s.modStream i g).pending = s.pending ∧ (s.modStream i g).now = s.now ∧ (s.modStream i g).draws = s.draws ∧
    (s.modStream i g).windows = s.windows ∧ (s.modStream i g).sent = s.sent ∧ (s.modStream i g).host = s.host ∧
    (s.modStream i g).mbx = s.mbx ∧ (s.modStream i g).mbxOrder = s.mbxOrder ∧ (s.modStream i g).ctrs = s.ctrs ∧
    (s.modStream i g).islands = s.islands ∧ (s.modStream i g).units = s.units ∧ (s.modStream i g).buses = s.buses ∧
    (s.modStream i g).eth = s.eth ∧ (s.modStream i g).parse = s.parse ∧ (s.modStream i g).sw = s.sw ∧
    (s.modStream i g).sig = s.sig ∧ (s.modStream i g).time = s.time ∧ (s.modStream i g).aud = s.aud ∧
    (s.modStream i g).tide = s.tide ∧ (s.modStream i g).sec = s.sec ∧ (s.modStream i g).flt = s.flt ∧
    (s.modStream i g).twin = s.twin ∧ (s.modStream i g).cw = s.cw ∧ (s.modStream i g).slp = s.slp ∧
    (s.modStream i g).boot = s.boot ∧ (s.modStream i g).tbl = { s.tbl with streams := s.tbl.streams.modify {} i g } :=
  ⟨rfl, rfl, rfl, rfl, rfl, rfl, rfl, rfl, rfl, rfl, rfl, rfl, rfl,
    rfl, rfl, rfl, rfl, rfl, rfl, rfl, rfl, rfl, rfl, rfl, rfl, rfl⟩

@[simp] theorem State.modHop_fields (s : State) (i : Nat) (g : NextHop → NextHop) :
    (s.modHop i g).pending = s.pending ∧ (s.modHop i g).now = s.now ∧ (s.modHop i g).draws = s.draws ∧
    (s.modHop i g).windows = s.windows ∧ (s.modHop i g).sent = s.sent ∧ (s.modHop i g).host = s.host ∧
    (s.modHop i g).mbx = s.mbx ∧ (s.modHop i g).mbxOrder = s.mbxOrder ∧ (s.modHop i g).ctrs = s.ctrs ∧
    (s.modHop i g).islands = s.islands ∧ (s.modHop i g).units = s.units ∧ (s.modHop i g).buses = s.buses ∧
    (s.modHop i g).eth = s.eth ∧ (s.modHop i g).parse = s.parse ∧ (s.modHop i g).sw = s.sw ∧
    (s.modHop i g).sig = s.sig ∧ (s.modHop i g).time = s.time ∧ (s.modHop i g).aud = s.aud ∧
    (s.modHop i g).tide = s.tide ∧ (s.modHop i g).sec = s.sec ∧ (s.modHop i g).flt = s.flt ∧
    (s.modHop i g).twin = s.twin ∧ (s.modHop i g).cw = s.cw ∧ (s.modHop i g).slp = s.slp ∧
    (s.modHop i g).boot = s.boot ∧ (s.modHop i g).tbl = { s.tbl with hops := s.tbl.hops.modify {} i g } :=
  ⟨rfl, rfl, rfl, rfl, rfl, rfl, rfl, rfl, rfl, rfl, rfl, rfl, rfl,
    rfl, rfl, rfl, rfl, rfl, rfl, rfl, rfl, rfl, rfl, rfl, rfl, rfl⟩

@[simp] theorem State.modFrame_fields (s : State) (i : Nat) (g : Frame → Frame) :
    (s.modFrame i g).pending = s.pending ∧ (s.modFrame i g).now = s.now ∧ (s.modFrame i g).draws = s.draws ∧
    (s.modFrame i g).windows = s.windows ∧ (s.modFrame i g).sent = s.sent ∧ (s.modFrame i g).host = s.host ∧
    (s.modFrame i g).mbx = s.mbx ∧ (s.modFrame i g).mbxOrder = s.mbxOrder ∧ (s.modFrame i g).ctrs = s.ctrs ∧
    (s.modFrame i g).islands = s.islands ∧ (s.modFrame i g).units = s.units ∧ (s.modFrame i g).buses = s.buses ∧
    (s.modFrame i g).eth = s.eth ∧ (s.modFrame i g).parse = s.parse ∧ (s.modFrame i g).tbl = s.tbl ∧
    (s.modFrame i g).sig = s.sig ∧ (s.modFrame i g).time = s.time ∧ (s.modFrame i g).aud = s.aud ∧
    (s.modFrame i g).tide = s.tide ∧ (s.modFrame i g).sec = s.sec ∧ (s.modFrame i g).flt = s.flt ∧
    (s.modFrame i g).twin = s.twin ∧ (s.modFrame i g).cw = s.cw ∧ (s.modFrame i g).slp = s.slp ∧
    (s.modFrame i g).boot = s.boot ∧ (s.modFrame i g).sw = { s.sw with frames := s.sw.frames.modify {} i g } :=
  ⟨rfl, rfl, rfl, rfl, rfl, rfl, rfl, rfl, rfl, rfl, rfl, rfl, rfl,
    rfl, rfl, rfl, rfl, rfl, rfl, rfl, rfl, rfl, rfl, rfl, rfl, rfl⟩

@[simp] theorem State.modPool_fields (s : State) (i : Nat) (g : Pool → Pool) :
    (s.modPool i g).pending = s.pending ∧ (s.modPool i g).now = s.now ∧ (s.modPool i g).draws = s.draws ∧
    (s.modPool i g).windows = s.windows ∧ (s.modPool i g).sent = s.sent ∧ (s.modPool i g).host = s.host ∧
    (s.modPool i g).mbx = s.mbx ∧ (s.modPool i g).mbxOrder = s.mbxOrder ∧ (s.modPool i g).ctrs = s.ctrs ∧
    (s.modPool i g).islands = s.islands ∧ (s.modPool i g).units = s.units ∧ (s.modPool i g).buses = s.buses ∧
    (s.modPool i g).eth = s.eth ∧ (s.modPool i g).parse = s.parse ∧ (s.modPool i g).tbl = s.tbl ∧
    (s.modPool i g).sig = s.sig ∧ (s.modPool i g).time = s.time ∧ (s.modPool i g).aud = s.aud ∧
    (s.modPool i g).tide = s.tide ∧ (s.modPool i g).sec = s.sec ∧ (s.modPool i g).flt = s.flt ∧
    (s.modPool i g).twin = s.twin ∧ (s.modPool i g).cw = s.cw ∧ (s.modPool i g).slp = s.slp ∧
    (s.modPool i g).boot = s.boot ∧ (s.modPool i g).sw = { s.sw with pools := s.sw.pools.modify {} i g } :=
  ⟨rfl, rfl, rfl, rfl, rfl, rfl, rfl, rfl, rfl, rfl, rfl, rfl, rfl,
    rfl, rfl, rfl, rfl, rfl, rfl, rfl, rfl, rfl, rfl, rfl, rfl, rfl⟩

@[simp] theorem State.modSlot_fields (s : State) (i : Nat) (g : Slot → Slot) :
    (s.modSlot i g).pending = s.pending ∧ (s.modSlot i g).now = s.now ∧ (s.modSlot i g).draws = s.draws ∧
    (s.modSlot i g).windows = s.windows ∧ (s.modSlot i g).sent = s.sent ∧ (s.modSlot i g).host = s.host ∧
    (s.modSlot i g).mbx = s.mbx ∧ (s.modSlot i g).mbxOrder = s.mbxOrder ∧ (s.modSlot i g).ctrs = s.ctrs ∧
    (s.modSlot i g).islands = s.islands ∧ (s.modSlot i g).units = s.units ∧ (s.modSlot i g).buses = s.buses ∧
    (s.modSlot i g).eth = s.eth ∧ (s.modSlot i g).parse = s.parse ∧ (s.modSlot i g).tbl = s.tbl ∧
    (s.modSlot i g).sw = s.sw ∧ (s.modSlot i g).time = s.time ∧ (s.modSlot i g).aud = s.aud ∧
    (s.modSlot i g).tide = s.tide ∧ (s.modSlot i g).sec = s.sec ∧ (s.modSlot i g).flt = s.flt ∧
    (s.modSlot i g).twin = s.twin ∧ (s.modSlot i g).cw = s.cw ∧ (s.modSlot i g).slp = s.slp ∧
    (s.modSlot i g).boot = s.boot ∧ (s.modSlot i g).sig = { s.sig with slots := s.sig.slots.modify {} i g } :=
  ⟨rfl, rfl, rfl, rfl, rfl, rfl, rfl, rfl, rfl, rfl, rfl, rfl, rfl,
    rfl, rfl, rfl, rfl, rfl, rfl, rfl, rfl, rfl, rfl, rfl, rfl, rfl⟩

@[simp] theorem State.modRun_fields (s : State) (i : Nat) (g : TrigRun → TrigRun) :
    (s.modRun i g).pending = s.pending ∧ (s.modRun i g).now = s.now ∧ (s.modRun i g).draws = s.draws ∧
    (s.modRun i g).windows = s.windows ∧ (s.modRun i g).sent = s.sent ∧ (s.modRun i g).host = s.host ∧
    (s.modRun i g).mbx = s.mbx ∧ (s.modRun i g).mbxOrder = s.mbxOrder ∧ (s.modRun i g).ctrs = s.ctrs ∧
    (s.modRun i g).islands = s.islands ∧ (s.modRun i g).units = s.units ∧ (s.modRun i g).buses = s.buses ∧
    (s.modRun i g).eth = s.eth ∧ (s.modRun i g).parse = s.parse ∧ (s.modRun i g).tbl = s.tbl ∧
    (s.modRun i g).sw = s.sw ∧ (s.modRun i g).time = s.time ∧ (s.modRun i g).aud = s.aud ∧
    (s.modRun i g).tide = s.tide ∧ (s.modRun i g).sec = s.sec ∧ (s.modRun i g).flt = s.flt ∧
    (s.modRun i g).twin = s.twin ∧ (s.modRun i g).cw = s.cw ∧ (s.modRun i g).slp = s.slp ∧
    (s.modRun i g).boot = s.boot ∧ (s.modRun i g).sig = { s.sig with runs := s.sig.runs.modify {} i g } :=
  ⟨rfl, rfl, rfl, rfl, rfl, rfl, rfl, rfl, rfl, rfl, rfl, rfl, rfl,
    rfl, rfl, rfl, rfl, rfl, rfl, rfl, rfl, rfl, rfl, rfl, rfl, rfl⟩

@[simp] theorem State.modDom_fields (s : State) (i : Nat) (g : Domain → Domain) :
    (s.modDom i g).pending = s.pending ∧ (s.modDom i g).now = s.now ∧ (s.modDom i g).draws = s.draws ∧
    (s.modDom i g).windows = s.windows ∧ (s.modDom i g).sent = s.sent ∧ (s.modDom i g).host = s.host ∧
    (s.modDom i g).mbx = s.mbx ∧ (s.modDom i g).mbxOrder = s.mbxOrder ∧ (s.modDom i g).ctrs = s.ctrs ∧
    (s.modDom i g).islands = s.islands ∧ (s.modDom i g).units = s.units ∧ (s.modDom i g).buses = s.buses ∧
    (s.modDom i g).eth = s.eth ∧ (s.modDom i g).parse = s.parse ∧ (s.modDom i g).tbl = s.tbl ∧
    (s.modDom i g).sw = s.sw ∧ (s.modDom i g).sig = s.sig ∧ (s.modDom i g).aud = s.aud ∧
    (s.modDom i g).tide = s.tide ∧ (s.modDom i g).sec = s.sec ∧ (s.modDom i g).flt = s.flt ∧
    (s.modDom i g).twin = s.twin ∧ (s.modDom i g).cw = s.cw ∧ (s.modDom i g).slp = s.slp ∧
    (s.modDom i g).boot = s.boot ∧ (s.modDom i g).time = { s.time with doms := s.time.doms.modify {} i g } :=
  ⟨rfl, rfl, rfl, rfl, rfl, rfl, rfl, rfl, rfl, rfl, rfl, rfl, rfl,
    rfl, rfl, rfl, rfl, rfl, rfl, rfl, rfl, rfl, rfl, rfl, rfl, rfl⟩

@[simp] theorem State.modTrig_fields (s : State) (i : Nat) (g : TimeTrig → TimeTrig) :
    (s.modTrig i g).pending = s.pending ∧ (s.modTrig i g).now = s.now ∧ (s.modTrig i g).draws = s.draws ∧
    (s.modTrig i g).windows = s.windows ∧ (s.modTrig i g).sent = s.sent ∧ (s.modTrig i g).host = s.host ∧
    (s.modTrig i g).mbx = s.mbx ∧ (s.modTrig i g).mbxOrder = s.mbxOrder ∧ (s.modTrig i g).ctrs = s.ctrs ∧
    (s.modTrig i g).islands = s.islands ∧ (s.modTrig i g).units = s.units ∧ (s.modTrig i g).buses = s.buses ∧
    (s.modTrig i g).eth = s.eth ∧ (s.modTrig i g).parse = s.parse ∧ (s.modTrig i g).tbl = s.tbl ∧
    (s.modTrig i g).sw = s.sw ∧ (s.modTrig i g).sig = s.sig ∧ (s.modTrig i g).aud = s.aud ∧
    (s.modTrig i g).tide = s.tide ∧ (s.modTrig i g).sec = s.sec ∧ (s.modTrig i g).flt = s.flt ∧
    (s.modTrig i g).twin = s.twin ∧ (s.modTrig i g).cw = s.cw ∧ (s.modTrig i g).slp = s.slp ∧
    (s.modTrig i g).boot = s.boot ∧ (s.modTrig i g).time = { s.time with trigs := s.time.trigs.modify {} i g } :=
  ⟨rfl, rfl, rfl, rfl, rfl, rfl, rfl, rfl, rfl, rfl, rfl, rfl, rfl,
    rfl, rfl, rfl, rfl, rfl, rfl, rfl, rfl, rfl, rfl, rfl, rfl, rfl⟩

@[simp] theorem State.modTimeOut_fields (s : State) (i : Nat) (g : TimeOut → TimeOut) :
    (s.modTimeOut i g).pending = s.pending ∧ (s.modTimeOut i g).now = s.now ∧ (s.modTimeOut i g).draws = s.draws ∧
    (s.modTimeOut i g).windows = s.windows ∧ (s.modTimeOut i g).sent = s.sent ∧ (s.modTimeOut i g).host = s.host ∧
    (s.modTimeOut i g).mbx = s.mbx ∧ (s.modTimeOut i g).mbxOrder = s.mbxOrder ∧ (s.modTimeOut i g).ctrs = s.ctrs ∧
    (s.modTimeOut i g).islands = s.islands ∧ (s.modTimeOut i g).units = s.units ∧
    (s.modTimeOut i g).buses = s.buses ∧ (s.modTimeOut i g).eth = s.eth ∧ (s.modTimeOut i g).parse = s.parse ∧
    (s.modTimeOut i g).tbl = s.tbl ∧ (s.modTimeOut i g).sw = s.sw ∧ (s.modTimeOut i g).sig = s.sig ∧
    (s.modTimeOut i g).aud = s.aud ∧ (s.modTimeOut i g).tide = s.tide ∧ (s.modTimeOut i g).sec = s.sec ∧
    (s.modTimeOut i g).flt = s.flt ∧ (s.modTimeOut i g).twin = s.twin ∧ (s.modTimeOut i g).cw = s.cw ∧
    (s.modTimeOut i g).slp = s.slp ∧ (s.modTimeOut i g).boot = s.boot ∧
    (s.modTimeOut i g).time = { s.time with outs := s.time.outs.modify {} i g } :=
  ⟨rfl, rfl, rfl, rfl, rfl, rfl, rfl, rfl, rfl, rfl, rfl, rfl, rfl,
    rfl, rfl, rfl, rfl, rfl, rfl, rfl, rfl, rfl, rfl, rfl, rfl, rfl⟩

@[simp] theorem State.modTimeIn_fields (s : State) (i : Nat) (g : TimeIn → TimeIn) :
    (s.modTimeIn i g).pending = s.pending ∧ (s.modTimeIn i g).now = s.now ∧ (s.modTimeIn i g).draws = s.draws ∧
    (s.modTimeIn i g).windows = s.windows ∧ (s.modTimeIn i g).sent = s.sent ∧ (s.modTimeIn i g).host = s.host ∧
    (s.modTimeIn i g).mbx = s.mbx ∧ (s.modTimeIn i g).mbxOrder = s.mbxOrder ∧ (s.modTimeIn i g).ctrs = s.ctrs ∧
    (s.modTimeIn i g).islands = s.islands ∧ (s.modTimeIn i g).units = s.units ∧ (s.modTimeIn i g).buses = s.buses ∧
    (s.modTimeIn i g).eth = s.eth ∧ (s.modTimeIn i g).parse = s.parse ∧ (s.modTimeIn i g).tbl = s.tbl ∧
    (s.modTimeIn i g).sw = s.sw ∧ (s.modTimeIn i g).sig = s.sig ∧ (s.modTimeIn i g).aud = s.aud ∧
    (s.modTimeIn i g).tide = s.tide ∧ (s.modTimeIn i g).sec = s.sec ∧ (s.modTimeIn i g).flt = s.flt ∧
    (s.modTimeIn i g).twin = s.twin ∧ (s.modTimeIn i g).cw = s.cw ∧ (s.modTimeIn i g).slp = s.slp ∧
    (s.modTimeIn i g).boot = s.boot ∧ (s.modTimeIn i g).time = { s.time with ins := s.time.ins.modify {} i g } :=
  ⟨rfl, rfl, rfl, rfl, rfl, rfl, rfl, rfl, rfl, rfl, rfl, rfl, rfl,
    rfl, rfl, rfl, rfl, rfl, rfl, rfl, rfl, rfl, rfl, rfl, rfl, rfl⟩

@[simp] theorem State.modTdm_fields (s : State) (i : Nat) (g : TdmPort → TdmPort) :
    (s.modTdm i g).pending = s.pending ∧ (s.modTdm i g).now = s.now ∧ (s.modTdm i g).draws = s.draws ∧
    (s.modTdm i g).windows = s.windows ∧ (s.modTdm i g).sent = s.sent ∧ (s.modTdm i g).host = s.host ∧
    (s.modTdm i g).mbx = s.mbx ∧ (s.modTdm i g).mbxOrder = s.mbxOrder ∧ (s.modTdm i g).ctrs = s.ctrs ∧
    (s.modTdm i g).islands = s.islands ∧ (s.modTdm i g).units = s.units ∧ (s.modTdm i g).buses = s.buses ∧
    (s.modTdm i g).eth = s.eth ∧ (s.modTdm i g).parse = s.parse ∧ (s.modTdm i g).tbl = s.tbl ∧
    (s.modTdm i g).sw = s.sw ∧ (s.modTdm i g).sig = s.sig ∧ (s.modTdm i g).time = s.time ∧
    (s.modTdm i g).tide = s.tide ∧ (s.modTdm i g).sec = s.sec ∧ (s.modTdm i g).flt = s.flt ∧
    (s.modTdm i g).twin = s.twin ∧ (s.modTdm i g).cw = s.cw ∧ (s.modTdm i g).slp = s.slp ∧
    (s.modTdm i g).boot = s.boot ∧ (s.modTdm i g).aud = { s.aud with ports := s.aud.ports.modify {} i g } :=
  ⟨rfl, rfl, rfl, rfl, rfl, rfl, rfl, rfl, rfl, rfl, rfl, rfl, rfl,
    rfl, rfl, rfl, rfl, rfl, rfl, rfl, rfl, rfl, rfl, rfl, rfl, rfl⟩

@[simp] theorem State.modAaf_fields (s : State) (i : Nat) (g : AafStream → AafStream) :
    (s.modAaf i g).pending = s.pending ∧ (s.modAaf i g).now = s.now ∧ (s.modAaf i g).draws = s.draws ∧
    (s.modAaf i g).windows = s.windows ∧ (s.modAaf i g).sent = s.sent ∧ (s.modAaf i g).host = s.host ∧
    (s.modAaf i g).mbx = s.mbx ∧ (s.modAaf i g).mbxOrder = s.mbxOrder ∧ (s.modAaf i g).ctrs = s.ctrs ∧
    (s.modAaf i g).islands = s.islands ∧ (s.modAaf i g).units = s.units ∧ (s.modAaf i g).buses = s.buses ∧
    (s.modAaf i g).eth = s.eth ∧ (s.modAaf i g).parse = s.parse ∧ (s.modAaf i g).tbl = s.tbl ∧
    (s.modAaf i g).sw = s.sw ∧ (s.modAaf i g).sig = s.sig ∧ (s.modAaf i g).time = s.time ∧
    (s.modAaf i g).tide = s.tide ∧ (s.modAaf i g).sec = s.sec ∧ (s.modAaf i g).flt = s.flt ∧
    (s.modAaf i g).twin = s.twin ∧ (s.modAaf i g).cw = s.cw ∧ (s.modAaf i g).slp = s.slp ∧
    (s.modAaf i g).boot = s.boot ∧ (s.modAaf i g).aud = { s.aud with streams := s.aud.streams.modify {} i g } :=
  ⟨rfl, rfl, rfl, rfl, rfl, rfl, rfl, rfl, rfl, rfl, rfl, rfl, rfl,
    rfl, rfl, rfl, rfl, rfl, rfl, rfl, rfl, rfl, rfl, rfl, rfl, rfl⟩

@[simp] theorem State.modXpoint_fields (s : State) (i : Nat) (g : XPoint → XPoint) :
    (s.modXpoint i g).pending = s.pending ∧ (s.modXpoint i g).now = s.now ∧ (s.modXpoint i g).draws = s.draws ∧
    (s.modXpoint i g).windows = s.windows ∧ (s.modXpoint i g).sent = s.sent ∧ (s.modXpoint i g).host = s.host ∧
    (s.modXpoint i g).mbx = s.mbx ∧ (s.modXpoint i g).mbxOrder = s.mbxOrder ∧ (s.modXpoint i g).ctrs = s.ctrs ∧
    (s.modXpoint i g).islands = s.islands ∧ (s.modXpoint i g).units = s.units ∧ (s.modXpoint i g).buses = s.buses ∧
    (s.modXpoint i g).eth = s.eth ∧ (s.modXpoint i g).parse = s.parse ∧ (s.modXpoint i g).tbl = s.tbl ∧
    (s.modXpoint i g).sw = s.sw ∧ (s.modXpoint i g).sig = s.sig ∧ (s.modXpoint i g).time = s.time ∧
    (s.modXpoint i g).tide = s.tide ∧ (s.modXpoint i g).sec = s.sec ∧ (s.modXpoint i g).flt = s.flt ∧
    (s.modXpoint i g).twin = s.twin ∧ (s.modXpoint i g).cw = s.cw ∧ (s.modXpoint i g).slp = s.slp ∧
    (s.modXpoint i g).boot = s.boot ∧ (s.modXpoint i g).aud = { s.aud with xpoints := s.aud.xpoints.modify {} i g } :=
  ⟨rfl, rfl, rfl, rfl, rfl, rfl, rfl, rfl, rfl, rfl, rfl, rfl, rfl,
    rfl, rfl, rfl, rfl, rfl, rfl, rfl, rfl, rfl, rfl, rfl, rfl, rfl⟩

@[simp] theorem State.modZone_fields (s : State) (i : Nat) (g : Zone → Zone) :
    (s.modZone i g).pending = s.pending ∧ (s.modZone i g).now = s.now ∧ (s.modZone i g).draws = s.draws ∧
    (s.modZone i g).windows = s.windows ∧ (s.modZone i g).sent = s.sent ∧ (s.modZone i g).host = s.host ∧
    (s.modZone i g).mbx = s.mbx ∧ (s.modZone i g).mbxOrder = s.mbxOrder ∧ (s.modZone i g).ctrs = s.ctrs ∧
    (s.modZone i g).islands = s.islands ∧ (s.modZone i g).units = s.units ∧ (s.modZone i g).buses = s.buses ∧
    (s.modZone i g).eth = s.eth ∧ (s.modZone i g).parse = s.parse ∧ (s.modZone i g).tbl = s.tbl ∧
    (s.modZone i g).sw = s.sw ∧ (s.modZone i g).sig = s.sig ∧ (s.modZone i g).time = s.time ∧
    (s.modZone i g).tide = s.tide ∧ (s.modZone i g).sec = s.sec ∧ (s.modZone i g).flt = s.flt ∧
    (s.modZone i g).twin = s.twin ∧ (s.modZone i g).cw = s.cw ∧ (s.modZone i g).slp = s.slp ∧
    (s.modZone i g).boot = s.boot ∧ (s.modZone i g).aud = { s.aud with zones := s.aud.zones.modify {} i g } :=
  ⟨rfl, rfl, rfl, rfl, rfl, rfl, rfl, rfl, rfl, rfl, rfl, rfl, rfl,
    rfl, rfl, rfl, rfl, rfl, rfl, rfl, rfl, rfl, rfl, rfl, rfl, rfl⟩

@[simp] theorem State.modAnn_fields (s : State) (i : Nat) (g : Announce → Announce) :
    (s.modAnn i g).pending = s.pending ∧ (s.modAnn i g).now = s.now ∧ (s.modAnn i g).draws = s.draws ∧
    (s.modAnn i g).windows = s.windows ∧ (s.modAnn i g).sent = s.sent ∧ (s.modAnn i g).host = s.host ∧
    (s.modAnn i g).mbx = s.mbx ∧ (s.modAnn i g).mbxOrder = s.mbxOrder ∧ (s.modAnn i g).ctrs = s.ctrs ∧
    (s.modAnn i g).islands = s.islands ∧ (s.modAnn i g).units = s.units ∧ (s.modAnn i g).buses = s.buses ∧
    (s.modAnn i g).eth = s.eth ∧ (s.modAnn i g).parse = s.parse ∧ (s.modAnn i g).tbl = s.tbl ∧
    (s.modAnn i g).sw = s.sw ∧ (s.modAnn i g).sig = s.sig ∧ (s.modAnn i g).time = s.time ∧
    (s.modAnn i g).tide = s.tide ∧ (s.modAnn i g).sec = s.sec ∧ (s.modAnn i g).flt = s.flt ∧
    (s.modAnn i g).twin = s.twin ∧ (s.modAnn i g).cw = s.cw ∧ (s.modAnn i g).slp = s.slp ∧
    (s.modAnn i g).boot = s.boot ∧ (s.modAnn i g).aud = { s.aud with anns := s.aud.anns.modify {} i g } :=
  ⟨rfl, rfl, rfl, rfl, rfl, rfl, rfl, rfl, rfl, rfl, rfl, rfl, rfl,
    rfl, rfl, rfl, rfl, rfl, rfl, rfl, rfl, rfl, rfl, rfl, rfl, rfl⟩

@[simp] theorem State.modLibMsg_fields (s : State) (i : Nat) (g : LibMsg → LibMsg) :
    (s.modLibMsg i g).pending = s.pending ∧ (s.modLibMsg i g).now = s.now ∧ (s.modLibMsg i g).draws = s.draws ∧
    (s.modLibMsg i g).windows = s.windows ∧ (s.modLibMsg i g).sent = s.sent ∧ (s.modLibMsg i g).host = s.host ∧
    (s.modLibMsg i g).mbx = s.mbx ∧ (s.modLibMsg i g).mbxOrder = s.mbxOrder ∧ (s.modLibMsg i g).ctrs = s.ctrs ∧
    (s.modLibMsg i g).islands = s.islands ∧ (s.modLibMsg i g).units = s.units ∧ (s.modLibMsg i g).buses = s.buses ∧
    (s.modLibMsg i g).eth = s.eth ∧ (s.modLibMsg i g).parse = s.parse ∧ (s.modLibMsg i g).tbl = s.tbl ∧
    (s.modLibMsg i g).sw = s.sw ∧ (s.modLibMsg i g).sig = s.sig ∧ (s.modLibMsg i g).time = s.time ∧
    (s.modLibMsg i g).tide = s.tide ∧ (s.modLibMsg i g).sec = s.sec ∧ (s.modLibMsg i g).flt = s.flt ∧
    (s.modLibMsg i g).twin = s.twin ∧ (s.modLibMsg i g).cw = s.cw ∧ (s.modLibMsg i g).slp = s.slp ∧
    (s.modLibMsg i g).boot = s.boot ∧ (s.modLibMsg i g).aud = { s.aud with lib := s.aud.lib.modify {} i g } :=
  ⟨rfl, rfl, rfl, rfl, rfl, rfl, rfl, rfl, rfl, rfl, rfl, rfl, rfl,
    rfl, rfl, rfl, rfl, rfl, rfl, rfl, rfl, rfl, rfl, rfl, rfl, rfl⟩

@[simp] theorem State.modTq_fields (s : State) (i : Nat) (g : TideQ → TideQ) :
    (s.modTq i g).pending = s.pending ∧ (s.modTq i g).now = s.now ∧ (s.modTq i g).draws = s.draws ∧
    (s.modTq i g).windows = s.windows ∧ (s.modTq i g).sent = s.sent ∧ (s.modTq i g).host = s.host ∧
    (s.modTq i g).mbx = s.mbx ∧ (s.modTq i g).mbxOrder = s.mbxOrder ∧ (s.modTq i g).ctrs = s.ctrs ∧
    (s.modTq i g).islands = s.islands ∧ (s.modTq i g).units = s.units ∧ (s.modTq i g).buses = s.buses ∧
    (s.modTq i g).eth = s.eth ∧ (s.modTq i g).parse = s.parse ∧ (s.modTq i g).tbl = s.tbl ∧
    (s.modTq i g).sw = s.sw ∧ (s.modTq i g).sig = s.sig ∧ (s.modTq i g).time = s.time ∧ (s.modTq i g).aud = s.aud ∧
    (s.modTq i g).sec = s.sec ∧ (s.modTq i g).flt = s.flt ∧ (s.modTq i g).twin = s.twin ∧ (s.modTq i g).cw = s.cw ∧
    (s.modTq i g).slp = s.slp ∧ (s.modTq i g).boot = s.boot ∧
    (s.modTq i g).tide = { s.tide with qs := s.tide.qs.modify {} i g } :=
  ⟨rfl, rfl, rfl, rfl, rfl, rfl, rfl, rfl, rfl, rfl, rfl, rfl, rfl,
    rfl, rfl, rfl, rfl, rfl, rfl, rfl, rfl, rfl, rfl, rfl, rfl, rfl⟩

@[simp] theorem State.modRing_fields (s : State) (i : Nat) (g : Ring → Ring) :
    (s.modRing i g).pending = s.pending ∧ (s.modRing i g).now = s.now ∧ (s.modRing i g).draws = s.draws ∧
    (s.modRing i g).windows = s.windows ∧ (s.modRing i g).sent = s.sent ∧ (s.modRing i g).host = s.host ∧
    (s.modRing i g).mbx = s.mbx ∧ (s.modRing i g).mbxOrder = s.mbxOrder ∧ (s.modRing i g).ctrs = s.ctrs ∧
    (s.modRing i g).islands = s.islands ∧ (s.modRing i g).units = s.units ∧ (s.modRing i g).buses = s.buses ∧
    (s.modRing i g).eth = s.eth ∧ (s.modRing i g).parse = s.parse ∧ (s.modRing i g).tbl = s.tbl ∧
    (s.modRing i g).sw = s.sw ∧ (s.modRing i g).sig = s.sig ∧ (s.modRing i g).time = s.time ∧
    (s.modRing i g).aud = s.aud ∧ (s.modRing i g).sec = s.sec ∧ (s.modRing i g).flt = s.flt ∧
    (s.modRing i g).twin = s.twin ∧ (s.modRing i g).cw = s.cw ∧ (s.modRing i g).slp = s.slp ∧
    (s.modRing i g).boot = s.boot ∧ (s.modRing i g).tide = { s.tide with rings := s.tide.rings.modify {} i g } :=
  ⟨rfl, rfl, rfl, rfl, rfl, rfl, rfl, rfl, rfl, rfl, rfl, rfl, rfl,
    rfl, rfl, rfl, rfl, rfl, rfl, rfl, rfl, rfl, rfl, rfl, rfl, rfl⟩

@[simp] theorem State.modEngine_fields (s : State) (i : Nat) (g : Engine → Engine) :
    (s.modEngine i g).pending = s.pending ∧ (s.modEngine i g).now = s.now ∧ (s.modEngine i g).draws = s.draws ∧
    (s.modEngine i g).windows = s.windows ∧ (s.modEngine i g).sent = s.sent ∧ (s.modEngine i g).host = s.host ∧
    (s.modEngine i g).mbx = s.mbx ∧ (s.modEngine i g).mbxOrder = s.mbxOrder ∧ (s.modEngine i g).ctrs = s.ctrs ∧
    (s.modEngine i g).islands = s.islands ∧ (s.modEngine i g).units = s.units ∧ (s.modEngine i g).buses = s.buses ∧
    (s.modEngine i g).eth = s.eth ∧ (s.modEngine i g).parse = s.parse ∧ (s.modEngine i g).tbl = s.tbl ∧
    (s.modEngine i g).sw = s.sw ∧ (s.modEngine i g).sig = s.sig ∧ (s.modEngine i g).time = s.time ∧
    (s.modEngine i g).aud = s.aud ∧ (s.modEngine i g).tide = s.tide ∧ (s.modEngine i g).flt = s.flt ∧
    (s.modEngine i g).twin = s.twin ∧ (s.modEngine i g).cw = s.cw ∧ (s.modEngine i g).slp = s.slp ∧
    (s.modEngine i g).boot = s.boot ∧ (s.modEngine i g).sec = { s.sec with engines := s.sec.engines.modify {} i g } :=
  ⟨rfl, rfl, rfl, rfl, rfl, rfl, rfl, rfl, rfl, rfl, rfl, rfl, rfl,
    rfl, rfl, rfl, rfl, rfl, rfl, rfl, rfl, rfl, rfl, rfl, rfl, rfl⟩

@[simp] theorem State.modKeySlot_fields (s : State) (i : Nat) (g : KeySlot → KeySlot) :
    (s.modKeySlot i g).pending = s.pending ∧ (s.modKeySlot i g).now = s.now ∧ (s.modKeySlot i g).draws = s.draws ∧
    (s.modKeySlot i g).windows = s.windows ∧ (s.modKeySlot i g).sent = s.sent ∧ (s.modKeySlot i g).host = s.host ∧
    (s.modKeySlot i g).mbx = s.mbx ∧ (s.modKeySlot i g).mbxOrder = s.mbxOrder ∧ (s.modKeySlot i g).ctrs = s.ctrs ∧
    (s.modKeySlot i g).islands = s.islands ∧ (s.modKeySlot i g).units = s.units ∧
    (s.modKeySlot i g).buses = s.buses ∧ (s.modKeySlot i g).eth = s.eth ∧ (s.modKeySlot i g).parse = s.parse ∧
    (s.modKeySlot i g).tbl = s.tbl ∧ (s.modKeySlot i g).sw = s.sw ∧ (s.modKeySlot i g).sig = s.sig ∧
    (s.modKeySlot i g).time = s.time ∧ (s.modKeySlot i g).aud = s.aud ∧ (s.modKeySlot i g).tide = s.tide ∧
    (s.modKeySlot i g).flt = s.flt ∧ (s.modKeySlot i g).twin = s.twin ∧ (s.modKeySlot i g).cw = s.cw ∧
    (s.modKeySlot i g).slp = s.slp ∧ (s.modKeySlot i g).boot = s.boot ∧
    (s.modKeySlot i g).sec = { s.sec with slots := s.sec.slots.modify {} i g } :=
  ⟨rfl, rfl, rfl, rfl, rfl, rfl, rfl, rfl, rfl, rfl, rfl, rfl, rfl,
    rfl, rfl, rfl, rfl, rfl, rfl, rfl, rfl, rfl, rfl, rfl, rfl, rfl⟩

@[simp] theorem State.modSrc_fields (s : State) (i : Nat) (g : Src → Src) :
    (s.modSrc i g).pending = s.pending ∧ (s.modSrc i g).now = s.now ∧ (s.modSrc i g).draws = s.draws ∧
    (s.modSrc i g).windows = s.windows ∧ (s.modSrc i g).sent = s.sent ∧ (s.modSrc i g).host = s.host ∧
    (s.modSrc i g).mbx = s.mbx ∧ (s.modSrc i g).mbxOrder = s.mbxOrder ∧ (s.modSrc i g).ctrs = s.ctrs ∧
    (s.modSrc i g).islands = s.islands ∧ (s.modSrc i g).units = s.units ∧ (s.modSrc i g).buses = s.buses ∧
    (s.modSrc i g).eth = s.eth ∧ (s.modSrc i g).parse = s.parse ∧ (s.modSrc i g).tbl = s.tbl ∧
    (s.modSrc i g).sw = s.sw ∧ (s.modSrc i g).sig = s.sig ∧ (s.modSrc i g).time = s.time ∧
    (s.modSrc i g).aud = s.aud ∧ (s.modSrc i g).tide = s.tide ∧ (s.modSrc i g).sec = s.sec ∧
    (s.modSrc i g).twin = s.twin ∧ (s.modSrc i g).cw = s.cw ∧ (s.modSrc i g).slp = s.slp ∧
    (s.modSrc i g).boot = s.boot ∧ (s.modSrc i g).flt = { s.flt with srcs := s.flt.srcs.modify {} i g } :=
  ⟨rfl, rfl, rfl, rfl, rfl, rfl, rfl, rfl, rfl, rfl, rfl, rfl, rfl,
    rfl, rfl, rfl, rfl, rfl, rfl, rfl, rfl, rfl, rfl, rfl, rfl, rfl⟩

@[simp] theorem State.modPeer_fields (s : State) (i : Nat) (g : Peer → Peer) :
    (s.modPeer i g).pending = s.pending ∧ (s.modPeer i g).now = s.now ∧ (s.modPeer i g).draws = s.draws ∧
    (s.modPeer i g).windows = s.windows ∧ (s.modPeer i g).sent = s.sent ∧ (s.modPeer i g).host = s.host ∧
    (s.modPeer i g).mbx = s.mbx ∧ (s.modPeer i g).mbxOrder = s.mbxOrder ∧ (s.modPeer i g).ctrs = s.ctrs ∧
    (s.modPeer i g).islands = s.islands ∧ (s.modPeer i g).units = s.units ∧ (s.modPeer i g).buses = s.buses ∧
    (s.modPeer i g).eth = s.eth ∧ (s.modPeer i g).parse = s.parse ∧ (s.modPeer i g).tbl = s.tbl ∧
    (s.modPeer i g).sw = s.sw ∧ (s.modPeer i g).sig = s.sig ∧ (s.modPeer i g).time = s.time ∧
    (s.modPeer i g).aud = s.aud ∧ (s.modPeer i g).tide = s.tide ∧ (s.modPeer i g).sec = s.sec ∧
    (s.modPeer i g).flt = s.flt ∧ (s.modPeer i g).twin = s.twin ∧ (s.modPeer i g).slp = s.slp ∧
    (s.modPeer i g).boot = s.boot ∧ (s.modPeer i g).cw = { s.cw with peers := s.cw.peers.modify {} i g } :=
  ⟨rfl, rfl, rfl, rfl, rfl, rfl, rfl, rfl, rfl, rfl, rfl, rfl, rfl,
    rfl, rfl, rfl, rfl, rfl, rfl, rfl, rfl, rfl, rfl, rfl, rfl, rfl⟩

@[simp] theorem State.modHost_fields (s : State) (f : HostIf → HostIf) :
    (s.modHost f).pending = s.pending ∧ (s.modHost f).now = s.now ∧ (s.modHost f).draws = s.draws ∧
    (s.modHost f).windows = s.windows ∧ (s.modHost f).sent = s.sent ∧ (s.modHost f).mbx = s.mbx ∧
    (s.modHost f).mbxOrder = s.mbxOrder ∧ (s.modHost f).ctrs = s.ctrs ∧ (s.modHost f).islands = s.islands ∧
    (s.modHost f).units = s.units ∧ (s.modHost f).buses = s.buses ∧ (s.modHost f).eth = s.eth ∧
    (s.modHost f).parse = s.parse ∧ (s.modHost f).tbl = s.tbl ∧ (s.modHost f).sw = s.sw ∧
    (s.modHost f).sig = s.sig ∧ (s.modHost f).time = s.time ∧ (s.modHost f).aud = s.aud ∧
    (s.modHost f).tide = s.tide ∧ (s.modHost f).sec = s.sec ∧ (s.modHost f).flt = s.flt ∧
    (s.modHost f).twin = s.twin ∧ (s.modHost f).cw = s.cw ∧ (s.modHost f).slp = s.slp ∧
    (s.modHost f).boot = s.boot ∧ (s.modHost f).host = f s.host :=
  ⟨rfl, rfl, rfl, rfl, rfl, rfl, rfl, rfl, rfl, rfl, rfl, rfl, rfl,
    rfl, rfl, rfl, rfl, rfl, rfl, rfl, rfl, rfl, rfl, rfl, rfl, rfl⟩

@[simp] theorem State.modParse_fields (s : State) (f : Parse → Parse) :
    (s.modParse f).pending = s.pending ∧ (s.modParse f).now = s.now ∧ (s.modParse f).draws = s.draws ∧
    (s.modParse f).windows = s.windows ∧ (s.modParse f).sent = s.sent ∧ (s.modParse f).host = s.host ∧
    (s.modParse f).mbx = s.mbx ∧ (s.modParse f).mbxOrder = s.mbxOrder ∧ (s.modParse f).ctrs = s.ctrs ∧
    (s.modParse f).islands = s.islands ∧ (s.modParse f).units = s.units ∧ (s.modParse f).buses = s.buses ∧
    (s.modParse f).eth = s.eth ∧ (s.modParse f).tbl = s.tbl ∧ (s.modParse f).sw = s.sw ∧
    (s.modParse f).sig = s.sig ∧ (s.modParse f).time = s.time ∧ (s.modParse f).aud = s.aud ∧
    (s.modParse f).tide = s.tide ∧ (s.modParse f).sec = s.sec ∧ (s.modParse f).flt = s.flt ∧
    (s.modParse f).twin = s.twin ∧ (s.modParse f).cw = s.cw ∧ (s.modParse f).slp = s.slp ∧
    (s.modParse f).boot = s.boot ∧ (s.modParse f).parse = f s.parse :=
  ⟨rfl, rfl, rfl, rfl, rfl, rfl, rfl, rfl, rfl, rfl, rfl, rfl, rfl,
    rfl, rfl, rfl, rfl, rfl, rfl, rfl, rfl, rfl, rfl, rfl, rfl, rfl⟩

@[simp] theorem State.modTbl_fields (s : State) (f : Tables → Tables) :
    (s.modTbl f).pending = s.pending ∧ (s.modTbl f).now = s.now ∧ (s.modTbl f).draws = s.draws ∧
    (s.modTbl f).windows = s.windows ∧ (s.modTbl f).sent = s.sent ∧ (s.modTbl f).host = s.host ∧
    (s.modTbl f).mbx = s.mbx ∧ (s.modTbl f).mbxOrder = s.mbxOrder ∧ (s.modTbl f).ctrs = s.ctrs ∧
    (s.modTbl f).islands = s.islands ∧ (s.modTbl f).units = s.units ∧ (s.modTbl f).buses = s.buses ∧
    (s.modTbl f).eth = s.eth ∧ (s.modTbl f).parse = s.parse ∧ (s.modTbl f).sw = s.sw ∧ (s.modTbl f).sig = s.sig ∧
    (s.modTbl f).time = s.time ∧ (s.modTbl f).aud = s.aud ∧ (s.modTbl f).tide = s.tide ∧ (s.modTbl f).sec = s.sec ∧
    (s.modTbl f).flt = s.flt ∧ (s.modTbl f).twin = s.twin ∧ (s.modTbl f).cw = s.cw ∧ (s.modTbl f).slp = s.slp ∧
    (s.modTbl f).boot = s.boot ∧ (s.modTbl f).tbl = f s.tbl :=
  ⟨rfl, rfl, rfl, rfl, rfl, rfl, rfl, rfl, rfl, rfl, rfl, rfl, rfl,
    rfl, rfl, rfl, rfl, rfl, rfl, rfl, rfl, rfl, rfl, rfl, rfl, rfl⟩

@[simp] theorem State.modSw_fields (s : State) (f : Switch → Switch) :
    (s.modSw f).pending = s.pending ∧ (s.modSw f).now = s.now ∧ (s.modSw f).draws = s.draws ∧
    (s.modSw f).windows = s.windows ∧ (s.modSw f).sent = s.sent ∧ (s.modSw f).host = s.host ∧
    (s.modSw f).mbx = s.mbx ∧ (s.modSw f).mbxOrder = s.mbxOrder ∧ (s.modSw f).ctrs = s.ctrs ∧
    (s.modSw f).islands = s.islands ∧ (s.modSw f).units = s.units ∧ (s.modSw f).buses = s.buses ∧
    (s.modSw f).eth = s.eth ∧ (s.modSw f).parse = s.parse ∧ (s.modSw f).tbl = s.tbl ∧ (s.modSw f).sig = s.sig ∧
    (s.modSw f).time = s.time ∧ (s.modSw f).aud = s.aud ∧ (s.modSw f).tide = s.tide ∧ (s.modSw f).sec = s.sec ∧
    (s.modSw f).flt = s.flt ∧ (s.modSw f).twin = s.twin ∧ (s.modSw f).cw = s.cw ∧ (s.modSw f).slp = s.slp ∧
    (s.modSw f).boot = s.boot ∧ (s.modSw f).sw = f s.sw :=
  ⟨rfl, rfl, rfl, rfl, rfl, rfl, rfl, rfl, rfl, rfl, rfl, rfl, rfl,
    rfl, rfl, rfl, rfl, rfl, rfl, rfl, rfl, rfl, rfl, rfl, rfl, rfl⟩

@[simp] theorem State.modSig_fields (s : State) (f : Sig → Sig) :
    (s.modSig f).pending = s.pending ∧ (s.modSig f).now = s.now ∧ (s.modSig f).draws = s.draws ∧
    (s.modSig f).windows = s.windows ∧ (s.modSig f).sent = s.sent ∧ (s.modSig f).host = s.host ∧
    (s.modSig f).mbx = s.mbx ∧ (s.modSig f).mbxOrder = s.mbxOrder ∧ (s.modSig f).ctrs = s.ctrs ∧
    (s.modSig f).islands = s.islands ∧ (s.modSig f).units = s.units ∧ (s.modSig f).buses = s.buses ∧
    (s.modSig f).eth = s.eth ∧ (s.modSig f).parse = s.parse ∧ (s.modSig f).tbl = s.tbl ∧ (s.modSig f).sw = s.sw ∧
    (s.modSig f).time = s.time ∧ (s.modSig f).aud = s.aud ∧ (s.modSig f).tide = s.tide ∧ (s.modSig f).sec = s.sec ∧
    (s.modSig f).flt = s.flt ∧ (s.modSig f).twin = s.twin ∧ (s.modSig f).cw = s.cw ∧ (s.modSig f).slp = s.slp ∧
    (s.modSig f).boot = s.boot ∧ (s.modSig f).sig = f s.sig :=
  ⟨rfl, rfl, rfl, rfl, rfl, rfl, rfl, rfl, rfl, rfl, rfl, rfl, rfl,
    rfl, rfl, rfl, rfl, rfl, rfl, rfl, rfl, rfl, rfl, rfl, rfl, rfl⟩

@[simp] theorem State.modTime_fields (s : State) (f : Time → Time) :
    (s.modTime f).pending = s.pending ∧ (s.modTime f).now = s.now ∧ (s.modTime f).draws = s.draws ∧
    (s.modTime f).windows = s.windows ∧ (s.modTime f).sent = s.sent ∧ (s.modTime f).host = s.host ∧
    (s.modTime f).mbx = s.mbx ∧ (s.modTime f).mbxOrder = s.mbxOrder ∧ (s.modTime f).ctrs = s.ctrs ∧
    (s.modTime f).islands = s.islands ∧ (s.modTime f).units = s.units ∧ (s.modTime f).buses = s.buses ∧
    (s.modTime f).eth = s.eth ∧ (s.modTime f).parse = s.parse ∧ (s.modTime f).tbl = s.tbl ∧
    (s.modTime f).sw = s.sw ∧ (s.modTime f).sig = s.sig ∧ (s.modTime f).aud = s.aud ∧ (s.modTime f).tide = s.tide ∧
    (s.modTime f).sec = s.sec ∧ (s.modTime f).flt = s.flt ∧ (s.modTime f).twin = s.twin ∧ (s.modTime f).cw = s.cw ∧
    (s.modTime f).slp = s.slp ∧ (s.modTime f).boot = s.boot ∧ (s.modTime f).time = f s.time :=
  ⟨rfl, rfl, rfl, rfl, rfl, rfl, rfl, rfl, rfl, rfl, rfl, rfl, rfl,
    rfl, rfl, rfl, rfl, rfl, rfl, rfl, rfl, rfl, rfl, rfl, rfl, rfl⟩

@[simp] theorem State.modAud_fields (s : State) (f : Audio → Audio) :
    (s.modAud f).pending = s.pending ∧ (s.modAud f).now = s.now ∧ (s.modAud f).draws = s.draws ∧
    (s.modAud f).windows = s.windows ∧ (s.modAud f).sent = s.sent ∧ (s.modAud f).host = s.host ∧
    (s.modAud f).mbx = s.mbx ∧ (s.modAud f).mbxOrder = s.mbxOrder ∧ (s.modAud f).ctrs = s.ctrs ∧
    (s.modAud f).islands = s.islands ∧ (s.modAud f).units = s.units ∧ (s.modAud f).buses = s.buses ∧
    (s.modAud f).eth = s.eth ∧ (s.modAud f).parse = s.parse ∧ (s.modAud f).tbl = s.tbl ∧ (s.modAud f).sw = s.sw ∧
    (s.modAud f).sig = s.sig ∧ (s.modAud f).time = s.time ∧ (s.modAud f).tide = s.tide ∧ (s.modAud f).sec = s.sec ∧
    (s.modAud f).flt = s.flt ∧ (s.modAud f).twin = s.twin ∧ (s.modAud f).cw = s.cw ∧ (s.modAud f).slp = s.slp ∧
    (s.modAud f).boot = s.boot ∧ (s.modAud f).aud = f s.aud :=
  ⟨rfl, rfl, rfl, rfl, rfl, rfl, rfl, rfl, rfl, rfl, rfl, rfl, rfl,
    rfl, rfl, rfl, rfl, rfl, rfl, rfl, rfl, rfl, rfl, rfl, rfl, rfl⟩

@[simp] theorem State.modTide_fields (s : State) (f : Tide → Tide) :
    (s.modTide f).pending = s.pending ∧ (s.modTide f).now = s.now ∧ (s.modTide f).draws = s.draws ∧
    (s.modTide f).windows = s.windows ∧ (s.modTide f).sent = s.sent ∧ (s.modTide f).host = s.host ∧
    (s.modTide f).mbx = s.mbx ∧ (s.modTide f).mbxOrder = s.mbxOrder ∧ (s.modTide f).ctrs = s.ctrs ∧
    (s.modTide f).islands = s.islands ∧ (s.modTide f).units = s.units ∧ (s.modTide f).buses = s.buses ∧
    (s.modTide f).eth = s.eth ∧ (s.modTide f).parse = s.parse ∧ (s.modTide f).tbl = s.tbl ∧
    (s.modTide f).sw = s.sw ∧ (s.modTide f).sig = s.sig ∧ (s.modTide f).time = s.time ∧ (s.modTide f).aud = s.aud ∧
    (s.modTide f).sec = s.sec ∧ (s.modTide f).flt = s.flt ∧ (s.modTide f).twin = s.twin ∧ (s.modTide f).cw = s.cw ∧
    (s.modTide f).slp = s.slp ∧ (s.modTide f).boot = s.boot ∧ (s.modTide f).tide = f s.tide :=
  ⟨rfl, rfl, rfl, rfl, rfl, rfl, rfl, rfl, rfl, rfl, rfl, rfl, rfl,
    rfl, rfl, rfl, rfl, rfl, rfl, rfl, rfl, rfl, rfl, rfl, rfl, rfl⟩

@[simp] theorem State.modSec_fields (s : State) (f : Sec → Sec) :
    (s.modSec f).pending = s.pending ∧ (s.modSec f).now = s.now ∧ (s.modSec f).draws = s.draws ∧
    (s.modSec f).windows = s.windows ∧ (s.modSec f).sent = s.sent ∧ (s.modSec f).host = s.host ∧
    (s.modSec f).mbx = s.mbx ∧ (s.modSec f).mbxOrder = s.mbxOrder ∧ (s.modSec f).ctrs = s.ctrs ∧
    (s.modSec f).islands = s.islands ∧ (s.modSec f).units = s.units ∧ (s.modSec f).buses = s.buses ∧
    (s.modSec f).eth = s.eth ∧ (s.modSec f).parse = s.parse ∧ (s.modSec f).tbl = s.tbl ∧ (s.modSec f).sw = s.sw ∧
    (s.modSec f).sig = s.sig ∧ (s.modSec f).time = s.time ∧ (s.modSec f).aud = s.aud ∧ (s.modSec f).tide = s.tide ∧
    (s.modSec f).flt = s.flt ∧ (s.modSec f).twin = s.twin ∧ (s.modSec f).cw = s.cw ∧ (s.modSec f).slp = s.slp ∧
    (s.modSec f).boot = s.boot ∧ (s.modSec f).sec = f s.sec :=
  ⟨rfl, rfl, rfl, rfl, rfl, rfl, rfl, rfl, rfl, rfl, rfl, rfl, rfl,
    rfl, rfl, rfl, rfl, rfl, rfl, rfl, rfl, rfl, rfl, rfl, rfl, rfl⟩

@[simp] theorem State.modFlt_fields (s : State) (f : Faults → Faults) :
    (s.modFlt f).pending = s.pending ∧ (s.modFlt f).now = s.now ∧ (s.modFlt f).draws = s.draws ∧
    (s.modFlt f).windows = s.windows ∧ (s.modFlt f).sent = s.sent ∧ (s.modFlt f).host = s.host ∧
    (s.modFlt f).mbx = s.mbx ∧ (s.modFlt f).mbxOrder = s.mbxOrder ∧ (s.modFlt f).ctrs = s.ctrs ∧
    (s.modFlt f).islands = s.islands ∧ (s.modFlt f).units = s.units ∧ (s.modFlt f).buses = s.buses ∧
    (s.modFlt f).eth = s.eth ∧ (s.modFlt f).parse = s.parse ∧ (s.modFlt f).tbl = s.tbl ∧ (s.modFlt f).sw = s.sw ∧
    (s.modFlt f).sig = s.sig ∧ (s.modFlt f).time = s.time ∧ (s.modFlt f).aud = s.aud ∧ (s.modFlt f).tide = s.tide ∧
    (s.modFlt f).sec = s.sec ∧ (s.modFlt f).twin = s.twin ∧ (s.modFlt f).cw = s.cw ∧ (s.modFlt f).slp = s.slp ∧
    (s.modFlt f).boot = s.boot ∧ (s.modFlt f).flt = f s.flt :=
  ⟨rfl, rfl, rfl, rfl, rfl, rfl, rfl, rfl, rfl, rfl, rfl, rfl, rfl,
    rfl, rfl, rfl, rfl, rfl, rfl, rfl, rfl, rfl, rfl, rfl, rfl, rfl⟩

@[simp] theorem State.modTwin_fields (s : State) (f : Twin → Twin) :
    (s.modTwin f).pending = s.pending ∧ (s.modTwin f).now = s.now ∧ (s.modTwin f).draws = s.draws ∧
    (s.modTwin f).windows = s.windows ∧ (s.modTwin f).sent = s.sent ∧ (s.modTwin f).host = s.host ∧
    (s.modTwin f).mbx = s.mbx ∧ (s.modTwin f).mbxOrder = s.mbxOrder ∧ (s.modTwin f).ctrs = s.ctrs ∧
    (s.modTwin f).islands = s.islands ∧ (s.modTwin f).units = s.units ∧ (s.modTwin f).buses = s.buses ∧
    (s.modTwin f).eth = s.eth ∧ (s.modTwin f).parse = s.parse ∧ (s.modTwin f).tbl = s.tbl ∧
    (s.modTwin f).sw = s.sw ∧ (s.modTwin f).sig = s.sig ∧ (s.modTwin f).time = s.time ∧ (s.modTwin f).aud = s.aud ∧
    (s.modTwin f).tide = s.tide ∧ (s.modTwin f).sec = s.sec ∧ (s.modTwin f).flt = s.flt ∧ (s.modTwin f).cw = s.cw ∧
    (s.modTwin f).slp = s.slp ∧ (s.modTwin f).boot = s.boot ∧ (s.modTwin f).twin = f s.twin :=
  ⟨rfl, rfl, rfl, rfl, rfl, rfl, rfl, rfl, rfl, rfl, rfl, rfl, rfl,
    rfl, rfl, rfl, rfl, rfl, rfl, rfl, rfl, rfl, rfl, rfl, rfl, rfl⟩

@[simp] theorem State.modCw_fields (s : State) (f : Cw → Cw) :
    (s.modCw f).pending = s.pending ∧ (s.modCw f).now = s.now ∧ (s.modCw f).draws = s.draws ∧
    (s.modCw f).windows = s.windows ∧ (s.modCw f).sent = s.sent ∧ (s.modCw f).host = s.host ∧
    (s.modCw f).mbx = s.mbx ∧ (s.modCw f).mbxOrder = s.mbxOrder ∧ (s.modCw f).ctrs = s.ctrs ∧
    (s.modCw f).islands = s.islands ∧ (s.modCw f).units = s.units ∧ (s.modCw f).buses = s.buses ∧
    (s.modCw f).eth = s.eth ∧ (s.modCw f).parse = s.parse ∧ (s.modCw f).tbl = s.tbl ∧ (s.modCw f).sw = s.sw ∧
    (s.modCw f).sig = s.sig ∧ (s.modCw f).time = s.time ∧ (s.modCw f).aud = s.aud ∧ (s.modCw f).tide = s.tide ∧
    (s.modCw f).sec = s.sec ∧ (s.modCw f).flt = s.flt ∧ (s.modCw f).twin = s.twin ∧ (s.modCw f).slp = s.slp ∧
    (s.modCw f).boot = s.boot ∧ (s.modCw f).cw = f s.cw :=
  ⟨rfl, rfl, rfl, rfl, rfl, rfl, rfl, rfl, rfl, rfl, rfl, rfl, rfl,
    rfl, rfl, rfl, rfl, rfl, rfl, rfl, rfl, rfl, rfl, rfl, rfl, rfl⟩

@[simp] theorem State.modSlp_fields (s : State) (f : Sleep → Sleep) :
    (s.modSlp f).pending = s.pending ∧ (s.modSlp f).now = s.now ∧ (s.modSlp f).draws = s.draws ∧
    (s.modSlp f).windows = s.windows ∧ (s.modSlp f).sent = s.sent ∧ (s.modSlp f).host = s.host ∧
    (s.modSlp f).mbx = s.mbx ∧ (s.modSlp f).mbxOrder = s.mbxOrder ∧ (s.modSlp f).ctrs = s.ctrs ∧
    (s.modSlp f).islands = s.islands ∧ (s.modSlp f).units = s.units ∧ (s.modSlp f).buses = s.buses ∧
    (s.modSlp f).eth = s.eth ∧ (s.modSlp f).parse = s.parse ∧ (s.modSlp f).tbl = s.tbl ∧ (s.modSlp f).sw = s.sw ∧
    (s.modSlp f).sig = s.sig ∧ (s.modSlp f).time = s.time ∧ (s.modSlp f).aud = s.aud ∧ (s.modSlp f).tide = s.tide ∧
    (s.modSlp f).sec = s.sec ∧ (s.modSlp f).flt = s.flt ∧ (s.modSlp f).twin = s.twin ∧ (s.modSlp f).cw = s.cw ∧
    (s.modSlp f).boot = s.boot ∧ (s.modSlp f).slp = f s.slp :=
  ⟨rfl, rfl, rfl, rfl, rfl, rfl, rfl, rfl, rfl, rfl, rfl, rfl, rfl,
    rfl, rfl, rfl, rfl, rfl, rfl, rfl, rfl, rfl, rfl, rfl, rfl, rfl⟩

@[simp] theorem State.modBoot_fields (s : State) (f : Boot → Boot) :
    (s.modBoot f).pending = s.pending ∧ (s.modBoot f).now = s.now ∧ (s.modBoot f).draws = s.draws ∧
    (s.modBoot f).windows = s.windows ∧ (s.modBoot f).sent = s.sent ∧ (s.modBoot f).host = s.host ∧
    (s.modBoot f).mbx = s.mbx ∧ (s.modBoot f).mbxOrder = s.mbxOrder ∧ (s.modBoot f).ctrs = s.ctrs ∧
    (s.modBoot f).islands = s.islands ∧ (s.modBoot f).units = s.units ∧ (s.modBoot f).buses = s.buses ∧
    (s.modBoot f).eth = s.eth ∧ (s.modBoot f).parse = s.parse ∧ (s.modBoot f).tbl = s.tbl ∧
    (s.modBoot f).sw = s.sw ∧ (s.modBoot f).sig = s.sig ∧ (s.modBoot f).time = s.time ∧ (s.modBoot f).aud = s.aud ∧
    (s.modBoot f).tide = s.tide ∧ (s.modBoot f).sec = s.sec ∧ (s.modBoot f).flt = s.flt ∧
    (s.modBoot f).twin = s.twin ∧ (s.modBoot f).cw = s.cw ∧ (s.modBoot f).slp = s.slp ∧
    (s.modBoot f).boot = f s.boot :=
  ⟨rfl, rfl, rfl, rfl, rfl, rfl, rfl, rfl, rfl, rfl, rfl, rfl, rfl,
    rfl, rfl, rfl, rfl, rfl, rfl, rfl, rfl, rfl, rfl, rfl, rfl, rfl⟩

@[simp] theorem State.mb_modMb (s : State) (i : Nat) (f : Mbx → Mbx) :
    (s.modMb i f).mb i = f (s.mb i) := Tab.get_modify_same _ _ _ _

theorem State.mb_modMb_ne (s : State) {j i : Nat} (h : j ≠ i) (f : Mbx → Mbx) :
    (s.modMb i f).mb j = s.mb j := Tab.get_modify_ne _ _ h _

@[simp] theorem State.isl_modIsl (s : State) (i : Nat) (f : Island → Island) :
    (s.modIsl i f).isl i = f (s.isl i) := Tab.get_modify_same _ _ _ _

theorem State.isl_modIsl_ne (s : State) {j i : Nat} (h : j ≠ i) (f : Island → Island) :
    (s.modIsl i f).isl j = s.isl j := Tab.get_modify_ne _ _ h _

@[simp] theorem State.unitSt_modUnitSt (s : State) (i u : Nat) (f : UnitSt → UnitSt) :
    (s.modUnitSt i u f).unitSt i u = f (s.unitSt i u) := Tab.get_modify_same _ _ _ _

@[simp] theorem State.bus_modBus (s : State) (i : Nat) (f : Bus → Bus) :
    (s.modBus i f).bus i = f (s.bus i) := Tab.get_modify_same _ _ _ _

theorem State.bus_modBus_ne (s : State) {j i : Nat} (h : j ≠ i) (f : Bus → Bus) :
    (s.modBus i f).bus j = s.bus j := Tab.get_modify_ne _ _ h _

@[simp] theorem State.port_modPort (s : State) (i : Nat) (f : Eth → Eth) :
    (s.modPort i f).port i = f (s.port i) := Tab.get_modify_same _ _ _ _

theorem State.port_modPort_ne (s : State) {j i : Nat} (h : j ≠ i) (f : Eth → Eth) :
    (s.modPort i f).port j = s.port j := Tab.get_modify_ne _ _ h _

@[simp] theorem State.policer_modPolicer (s : State) (i : Nat) (g : Policer → Policer) :
    (s.modPolicer i g).policer i = g (s.policer i) := Tab.get_modify_same _ _ _ _

theorem State.policer_modPolicer_ne (s : State) {j i : Nat} (h : j ≠ i) (g : Policer → Policer) :
    (s.modPolicer i g).policer j = s.policer j := Tab.get_modify_ne _ _ h _

@[simp] theorem State.l2e_modL2e (s : State) (i : Nat) (g : L2Ent → L2Ent) :
    (s.modL2e i g).l2e i = g (s.l2e i) := Tab.get_modify_same _ _ _ _

theorem State.l2e_modL2e_ne (s : State) {j i : Nat} (h : j ≠ i) (g : L2Ent → L2Ent) :
    (s.modL2e i g).l2e j = s.l2e j := Tab.get_modify_ne _ _ h _

@[simp] theorem State.vlan_modVlan (s : State) (i : Nat) (g : VlanEnt → VlanEnt) :
    (s.modVlan i g).vlan i = g (s.vlan i) := Tab.get_modify_same _ _ _ _

theorem State.vlan_modVlan_ne (s : State) {j i : Nat} (h : j ≠ i) (g : VlanEnt → VlanEnt) :
    (s.modVlan i g).vlan j = s.vlan j := Tab.get_modify_ne _ _ h _

@[simp] theorem State.stream_modStream (s : State) (i : Nat) (g : StreamEnt → StreamEnt) :
    (s.modStream i g).stream i = g (s.stream i) := Tab.get_modify_same _ _ _ _

theorem State.stream_modStream_ne (s : State) {j i : Nat} (h : j ≠ i) (g : StreamEnt → StreamEnt) :
    (s.modStream i g).stream j = s.stream j := Tab.get_modify_ne _ _ h _

@[simp] theorem State.hop_modHop (s : State) (i : Nat) (g : NextHop → NextHop) :
    (s.modHop i g).hop i = g (s.hop i) := Tab.get_modify_same _ _ _ _

theorem State.hop_modHop_ne (s : State) {j i : Nat} (h : j ≠ i) (g : NextHop → NextHop) :
    (s.modHop i g).hop j = s.hop j := Tab.get_modify_ne _ _ h _

@[simp] theorem State.frame_modFrame (s : State) (i : Nat) (g : Frame → Frame) :
    (s.modFrame i g).frame i = g (s.frame i) := Tab.get_modify_same _ _ _ _

theorem State.frame_modFrame_ne (s : State) {j i : Nat} (h : j ≠ i) (g : Frame → Frame) :
    (s.modFrame i g).frame j = s.frame j := Tab.get_modify_ne _ _ h _

@[simp] theorem State.pool_modPool (s : State) (i : Nat) (g : Pool → Pool) :
    (s.modPool i g).pool i = g (s.pool i) := Tab.get_modify_same _ _ _ _

theorem State.pool_modPool_ne (s : State) {j i : Nat} (h : j ≠ i) (g : Pool → Pool) :
    (s.modPool i g).pool j = s.pool j := Tab.get_modify_ne _ _ h _

@[simp] theorem State.slot_modSlot (s : State) (i : Nat) (g : Slot → Slot) :
    (s.modSlot i g).slot i = g (s.slot i) := Tab.get_modify_same _ _ _ _

theorem State.slot_modSlot_ne (s : State) {j i : Nat} (h : j ≠ i) (g : Slot → Slot) :
    (s.modSlot i g).slot j = s.slot j := Tab.get_modify_ne _ _ h _

@[simp] theorem State.run_modRun (s : State) (i : Nat) (g : TrigRun → TrigRun) :
    (s.modRun i g).run i = g (s.run i) := Tab.get_modify_same _ _ _ _

theorem State.run_modRun_ne (s : State) {j i : Nat} (h : j ≠ i) (g : TrigRun → TrigRun) :
    (s.modRun i g).run j = s.run j := Tab.get_modify_ne _ _ h _

@[simp] theorem State.dom_modDom (s : State) (i : Nat) (g : Domain → Domain) :
    (s.modDom i g).dom i = g (s.dom i) := Tab.get_modify_same _ _ _ _

theorem State.dom_modDom_ne (s : State) {j i : Nat} (h : j ≠ i) (g : Domain → Domain) :
    (s.modDom i g).dom j = s.dom j := Tab.get_modify_ne _ _ h _

@[simp] theorem State.trig_modTrig (s : State) (i : Nat) (g : TimeTrig → TimeTrig) :
    (s.modTrig i g).trig i = g (s.trig i) := Tab.get_modify_same _ _ _ _

theorem State.trig_modTrig_ne (s : State) {j i : Nat} (h : j ≠ i) (g : TimeTrig → TimeTrig) :
    (s.modTrig i g).trig j = s.trig j := Tab.get_modify_ne _ _ h _

@[simp] theorem State.timeOut_modTimeOut (s : State) (i : Nat) (g : TimeOut → TimeOut) :
    (s.modTimeOut i g).timeOut i = g (s.timeOut i) := Tab.get_modify_same _ _ _ _

theorem State.timeOut_modTimeOut_ne (s : State) {j i : Nat} (h : j ≠ i) (g : TimeOut → TimeOut) :
    (s.modTimeOut i g).timeOut j = s.timeOut j := Tab.get_modify_ne _ _ h _

@[simp] theorem State.timeIn_modTimeIn (s : State) (i : Nat) (g : TimeIn → TimeIn) :
    (s.modTimeIn i g).timeIn i = g (s.timeIn i) := Tab.get_modify_same _ _ _ _

theorem State.timeIn_modTimeIn_ne (s : State) {j i : Nat} (h : j ≠ i) (g : TimeIn → TimeIn) :
    (s.modTimeIn i g).timeIn j = s.timeIn j := Tab.get_modify_ne _ _ h _

@[simp] theorem State.tdm_modTdm (s : State) (i : Nat) (g : TdmPort → TdmPort) :
    (s.modTdm i g).tdm i = g (s.tdm i) := Tab.get_modify_same _ _ _ _

theorem State.tdm_modTdm_ne (s : State) {j i : Nat} (h : j ≠ i) (g : TdmPort → TdmPort) :
    (s.modTdm i g).tdm j = s.tdm j := Tab.get_modify_ne _ _ h _

@[simp] theorem State.aaf_modAaf (s : State) (i : Nat) (g : AafStream → AafStream) :
    (s.modAaf i g).aaf i = g (s.aaf i) := Tab.get_modify_same _ _ _ _

theorem State.aaf_modAaf_ne (s : State) {j i : Nat} (h : j ≠ i) (g : AafStream → AafStream) :
    (s.modAaf i g).aaf j = s.aaf j := Tab.get_modify_ne _ _ h _

@[simp] theorem State.xpoint_modXpoint (s : State) (i : Nat) (g : XPoint → XPoint) :
    (s.modXpoint i g).xpoint i = g (s.xpoint i) := Tab.get_modify_same _ _ _ _

theorem State.xpoint_modXpoint_ne (s : State) {j i : Nat} (h : j ≠ i) (g : XPoint → XPoint) :
    (s.modXpoint i g).xpoint j = s.xpoint j := Tab.get_modify_ne _ _ h _

@[simp] theorem State.zone_modZone (s : State) (i : Nat) (g : Zone → Zone) :
    (s.modZone i g).zone i = g (s.zone i) := Tab.get_modify_same _ _ _ _

theorem State.zone_modZone_ne (s : State) {j i : Nat} (h : j ≠ i) (g : Zone → Zone) :
    (s.modZone i g).zone j = s.zone j := Tab.get_modify_ne _ _ h _

@[simp] theorem State.ann_modAnn (s : State) (i : Nat) (g : Announce → Announce) :
    (s.modAnn i g).ann i = g (s.ann i) := Tab.get_modify_same _ _ _ _

theorem State.ann_modAnn_ne (s : State) {j i : Nat} (h : j ≠ i) (g : Announce → Announce) :
    (s.modAnn i g).ann j = s.ann j := Tab.get_modify_ne _ _ h _

@[simp] theorem State.libMsg_modLibMsg (s : State) (i : Nat) (g : LibMsg → LibMsg) :
    (s.modLibMsg i g).libMsg i = g (s.libMsg i) := Tab.get_modify_same _ _ _ _

theorem State.libMsg_modLibMsg_ne (s : State) {j i : Nat} (h : j ≠ i) (g : LibMsg → LibMsg) :
    (s.modLibMsg i g).libMsg j = s.libMsg j := Tab.get_modify_ne _ _ h _

@[simp] theorem State.tq_modTq (s : State) (i : Nat) (g : TideQ → TideQ) :
    (s.modTq i g).tq i = g (s.tq i) := Tab.get_modify_same _ _ _ _

theorem State.tq_modTq_ne (s : State) {j i : Nat} (h : j ≠ i) (g : TideQ → TideQ) :
    (s.modTq i g).tq j = s.tq j := Tab.get_modify_ne _ _ h _

@[simp] theorem State.ring_modRing (s : State) (i : Nat) (g : Ring → Ring) :
    (s.modRing i g).ring i = g (s.ring i) := Tab.get_modify_same _ _ _ _

theorem State.ring_modRing_ne (s : State) {j i : Nat} (h : j ≠ i) (g : Ring → Ring) :
    (s.modRing i g).ring j = s.ring j := Tab.get_modify_ne _ _ h _

@[simp] theorem State.engine_modEngine (s : State) (i : Nat) (g : Engine → Engine) :
    (s.modEngine i g).engine i = g (s.engine i) := Tab.get_modify_same _ _ _ _

theorem State.engine_modEngine_ne (s : State) {j i : Nat} (h : j ≠ i) (g : Engine → Engine) :
    (s.modEngine i g).engine j = s.engine j := Tab.get_modify_ne _ _ h _

@[simp] theorem State.keySlot_modKeySlot (s : State) (i : Nat) (g : KeySlot → KeySlot) :
    (s.modKeySlot i g).keySlot i = g (s.keySlot i) := Tab.get_modify_same _ _ _ _

theorem State.keySlot_modKeySlot_ne (s : State) {j i : Nat} (h : j ≠ i) (g : KeySlot → KeySlot) :
    (s.modKeySlot i g).keySlot j = s.keySlot j := Tab.get_modify_ne _ _ h _

@[simp] theorem State.src_modSrc (s : State) (i : Nat) (g : Src → Src) :
    (s.modSrc i g).src i = g (s.src i) := Tab.get_modify_same _ _ _ _

theorem State.src_modSrc_ne (s : State) {j i : Nat} (h : j ≠ i) (g : Src → Src) :
    (s.modSrc i g).src j = s.src j := Tab.get_modify_ne _ _ h _

@[simp] theorem State.peer_modPeer (s : State) (i : Nat) (g : Peer → Peer) :
    (s.modPeer i g).peer i = g (s.peer i) := Tab.get_modify_same _ _ _ _

theorem State.peer_modPeer_ne (s : State) {j i : Nat} (h : j ≠ i) (g : Peer → Peer) :
    (s.modPeer i g).peer j = s.peer j := Tab.get_modify_ne _ _ h _

end Sys2Proof.Machine
end

