-- ==== Sys2Proof/Laws/Keeps.lean ====
section
/-! SUPPORT. What no operation of a command disturbs, and the lemmas that carry it through the shapes of a definition. -/

set_option Elab.async false

namespace Sys2Proof.Machine

open Sys2Proof

/-- The areas of one list are among those of another. -/
def Within (p l : List Area) : Prop := ∀ x ∈ p, x ∈ l

theorem Within.m {p q l : List Area} (h : Within p l) (e : (q.all fun x => p.contains x) = true) : Within q l := by
  intro x hx
  rw [List.all_eq_true] at e
  exact h x (List.elem_iff.1 (e x hx))

theorem Within.any (p : List Area) : Within p Area.all := by
  intro x _
  cases x <;> decide

/-- What no operation of a command disturbs: the queue, the instant, and the canonical form of the windows; free values
are only drawn forward, what has been sent stays sent (log entries 2 to 5), and every area outside the list stands. -/
structure Keeps (l : List Area) (a b : State) : Prop where
  /-- The queue is the command's to leave alone. -/
  pending : b.pending = a.pending
  /-- The instant stands. -/
  now : b.now = a.now
  /-- Free values are drawn forward. -/
  draws : a.draws ≤ b.draws
  /-- What has been sent stays sent. -/
  sent : a.sent <:+ b.sent
  /-- The windows keep their canonical form. -/
  wf : Memory.wf a.windows = true → Memory.wf b.windows = true
  /-- Every other area stands. -/
  same : ∀ x, x ∉ l → x.same a b

theorem Area.same_refl (x : Area) (a : State) : x.same a a := by
  cases x <;> simp [Area.same]

theorem Area.same_trans {x : Area} {a b c : State} (h : x.same a b) (k : x.same b c) : x.same a c := by
  cases x
  case host => simp only [Area.same] at h k ⊢; rw [k, h]
  case eth => simp only [Area.same] at h k ⊢; intro p; rw [k p, h p]
  case links => simp only [Area.same] at h k ⊢; intro p; exact ⟨(k p).1.trans (h p).1, (k p).2.trans (h p).2⟩
  case mbx => simp only [Area.same] at h k ⊢; exact ⟨k.1.trans h.1, k.2.trans h.2⟩
  case events => simp only [Area.same] at h k ⊢; simp [k, h]
  all_goals exact Eq.trans k h

theorem Keeps.refl {l : List Area} (a : State) : Keeps l a a :=
  ⟨rfl, rfl, Nat.le_refl _, List.suffix_refl _, id, fun x _ => x.same_refl a⟩

theorem Keeps.trans {l : List Area} {a b c : State} (h : Keeps l a b) (k : Keeps l b c) : Keeps l a c :=
  ⟨k.pending.trans h.pending, k.now.trans h.now, Nat.le_trans h.draws k.draws, h.sent.trans k.sent, fun w => k.wf (h.wf w),
    fun x e => Area.same_trans (h.same x e) (k.same x e)⟩

theorem Keeps.within {p l : List Area} {a b : State} (hw : Within p l) (h : Keeps p a b) : Keeps l a b :=
  ⟨h.pending, h.now, h.draws, h.sent, h.wf, fun x e => h.same x fun k => e (hw x k)⟩

/-- What an outcome keeps where it is a next state. -/
def NextKeeps (l : List Area) (z : State) (o : Host.Outcome State Fault Refusal) : Prop :=
  match o with
  | .next s => Keeps l z s
  | .fault _ => True
  | .refused _ => True

/-- A change of fields: the areas that it names are in the list. -/
theorem keeps_same {p l : List Area} {z a : State} {host : HostIf} {mbx : Tab Mbx} {mbxOrder : Nat} {ctrs : Tab Ctr}
    {islands : Tab Island} {chans : Tab Chan} {units : Tab UnitSt} {buses : Tab Bus} {eth : Tab Eth} {parse : Parse} {tbl : Tables} {sw :
    Switch} {sig : Sig} {time : Time} {aud : Audio} {tide : Tide} {sec : Sec} {flt : Faults} {twin : Twin} {cw : Cw}
    {slp : Sleep} {boot : Boot} (hw : Within p l) (h : Keeps l z a)
    (k : ∀ x, x ∉ p → x.same a { a with
      host := host, mbx := mbx, mbxOrder := mbxOrder, ctrs := ctrs, islands := islands, chans := chans, units := units, buses :=
      buses, eth := eth, parse := parse, tbl := tbl, sw := sw, sig := sig, time := time, aud := aud, tide := tide,
      sec := sec, flt := flt, twin := twin, cw := cw, slp := slp, boot := boot } := by
        intro x hx
        cases x <;> first
          | exact absurd (by decide) hx
          | exact rfl
          | exact ⟨rfl, rfl⟩
          | exact fun _ => rfl
          | exact fun _ => ⟨rfl, rfl⟩
          | exact ⟨rfl, rfl, rfl, rfl, rfl, rfl, rfl⟩) :
    Keeps l z { a with
      host := host, mbx := mbx, mbxOrder := mbxOrder, ctrs := ctrs, islands := islands, chans := chans, units := units, buses :=
      buses, eth := eth, parse := parse, tbl := tbl, sw := sw, sig := sig, time := time, aud := aud, tide := tide,
      sec := sec, flt := flt, twin := twin, cw := cw, slp := slp, boot := boot } :=
  h.trans ⟨rfl, rfl, Nat.le_refl _, List.suffix_refl _, id, fun x e => k x fun m => e (hw x m)⟩

/-- The log, the status bits and the pending vectors. -/
theorem keeps_events {l : List Area} {z a : State} {x : HostIf} (hw : Within [.events] l) (h : Keeps l z a) (e : x = { a.host with
    evtStatus := x.evtStatus, evtSetAt := x.evtSetAt, evtLogWr := x.evtLogWr
    evtLogFull := x.evtLogFull, evtLogLost := x.evtLogLost, log := x.log, msix := { a.host.msix with pend := x.msix.pend } }) :
    Keeps l z { a with host := x } := by
  refine h.trans ⟨rfl, rfl, Nat.le_refl _, List.suffix_refl _, id, fun y k => ?_⟩
  cases y
  case events => exact absurd (hw _ (by decide)) k
  case host => exact e
  case mbx => exact ⟨rfl, rfl⟩
  case eth => exact fun _ => rfl
  case links => exact fun _ => ⟨rfl, rfl⟩
  all_goals exact rfl

/-- The counter of sealed frames and the waiting messages of a port. -/
theorem keeps_link {l : List Area} {z a : State} {p c : Nat} {w : List (CwHead × List Byte × Bool)} (hw : Within [.links] l)
    (h : Keeps l z a) :
    Keeps l z (a.modPort p fun y => { y with cw := { y.cw with linkTx := c, waiting := w } }) := by
  refine h.trans ⟨rfl, rfl, Nat.le_refl _, List.suffix_refl _, id, fun x e => ?_⟩
  cases x
  case links => exact absurd (hw _ (by decide)) e
  case eth =>
    intro q
    by_cases h : q = p
    · subst h
      simp
    · simp [State.port_modPort_ne _ h]
  case mbx => exact ⟨rfl, rfl⟩
  case events => exact ⟨rfl, rfl, rfl, rfl, rfl, rfl, rfl⟩
  all_goals exact rfl

theorem keeps_mk1 {ar : List Area} {β : Type} {z a : State} {b : β} (h : Keeps ar z a) : Keeps ar z (a, b).1 := h

theorem keeps_mk2 {ar : List Area} {β : Type} {z a : State} {b : β} (h : Keeps ar z a) : Keeps ar z (b, a).2 := h

theorem keeps_fst {ar : List Area} {β : Type} {z a : State} {b : β} {p : State × β} (e : p = (a, b)) (h : Keeps ar z p.1) : Keeps ar z a := by
  subst e; exact h

theorem keeps_snd {ar : List Area} {β : Type} {z a : State} {b : β} {p : β × State} (e : p = (b, a)) (h : Keeps ar z p.2) : Keeps ar z a := by
  subst e; exact h

/-- What an optional state keeps where there is one. -/
def OptKeeps (ar : List Area) (z : State) (o : Option State) : Prop :=
  match o with
  | some s => Keeps ar z s
  | none => True

theorem keeps_some {ar : List Area} {z a : State} (h : Keeps ar z a) : OptKeeps ar z (some a) := h

theorem keeps_none {ar : List Area} {z : State} : OptKeeps ar z none := trivial

theorem keeps_of_some {ar : List Area} {z a : State} {o : Option State} (e : o = some a) (h : OptKeeps ar z o) : Keeps ar z a := by
  subst e; exact h

theorem keeps_findSome {ar : List Area} {α : Type} {z : State} {f : α → Option State} {l : List α} (h : ∀ x, OptKeeps ar z (f x)) :
    OptKeeps ar z (l.findSome? f) := by
  induction l with
  | nil => trivial
  | cons x r ih =>
    rw [List.findSome?_cons]
    split
    · exact keeps_some (keeps_of_some ‹_› (h x))
    · exact ih

theorem keeps_ite {ar : List Area} {z a b : State} {c : Prop} [Decidable c] (h : Keeps ar z a) (k : Keeps ar z b) :
    Keeps ar z (if c then a else b) := by
  split <;> assumption

theorem keeps_ite1 {ar : List Area} {β : Type} {z : State} {a b : State × β} {c : Prop} [Decidable c] (h : Keeps ar z a.1) (k : Keeps ar z b.1) :
    Keeps ar z (if c then a else b).1 := by
  split <;> assumption

theorem keeps_ite2 {ar : List Area} {β : Type} {z : State} {a b : β × State} {c : Prop} [Decidable c] (h : Keeps ar z a.2) (k : Keeps ar z b.2) :
    Keeps ar z (if c then a else b).2 := by
  split <;> assumption

theorem keeps_iteO {ar : List Area} {z : State} {a b : Option State} {c : Prop} [Decidable c] (h : OptKeeps ar z a) (k : OptKeeps ar z b) :
    OptKeeps ar z (if c then a else b) := by
  split <;> assumption

theorem keeps_iteN {ar : List Area} {z : State} {a b : Host.Outcome State Fault Refusal} {c : Prop} [Decidable c] (h : NextKeeps ar z a)
    (k : NextKeeps ar z b) : NextKeeps ar z (if c then a else b) := by
  split <;> assumption

theorem keeps_next {ar : List Area} {z a : State} (h : Keeps ar z a) : NextKeeps ar z (.next a) := h

theorem keeps_stop {ar : List Area} {z : State} {f : Fault} : NextKeeps ar z (.fault f) := trivial

theorem keeps_foldl {ar : List Area} {α : Type} {z s : State} {f : State → α → State} {l : List α}
    (h : ∀ a x, Keeps ar z a → Keeps ar z (f a x)) (k : Keeps ar z s) : Keeps ar z (l.foldl f s) := by
  induction l generalizing s with
  | nil => exact k
  | cons x r ih => exact ih (h s x k)

theorem keeps_foldl_fst {ar : List Area} {α β : Type} {z : State} {s : State × β} {f : State × β → α → State × β} {l : List α}
    (h : ∀ a x, Keeps ar z a.1 → Keeps ar z (f a x).1) (k : Keeps ar z s.1) : Keeps ar z (l.foldl f s).1 := by
  induction l generalizing s with
  | nil => exact k
  | cons x r ih => exact ih (h s x k)

theorem keeps_foldl_snd {ar : List Area} {α β : Type} {z : State} {s : β × State} {f : β × State → α → β × State} {l : List α}
    (h : ∀ a x, Keeps ar z a.2 → Keeps ar z (f a x).2) (k : Keeps ar z s.2) : Keeps ar z (l.foldl f s).2 := by
  induction l generalizing s with
  | nil => exact k
  | cons x r ih => exact ih (h s x k)

theorem State.each_keeps {ar : List Area} {α : Type} {z s : State} {l : List α} {f : State → α → State} (h : ∀ a x, Keeps ar z a → Keeps ar z (f a x))
    (k : Keeps ar z s) : Keeps ar z (s.each l f) := keeps_foldl h k

/-! The canonical form of the windows. -/

theorem cellsFrom_cons {lo k : Nat} {v : Byte} {r : List Host.Cell} :
    cellsFrom lo ((k, v) :: r) = true ↔ (lo ≤ k ∧ v ≠ 0#8) ∧ cellsFrom (k + 1) r = true := by
  simp [cellsFrom]

theorem cellsFrom_le {lo hi : Nat} {m : List Host.Cell} (h : lo ≤ hi) (e : cellsFrom hi m = true) : cellsFrom lo m = true := by
  cases m with
  | nil => rfl
  | cons c r =>
    rw [cellsFrom_cons] at e ⊢
    exact ⟨⟨Nat.le_trans h e.1.1, e.1.2⟩, e.2⟩

theorem cellWrite_from {a lo : Nat} {v : Byte} {m : List Host.Cell} (ha : lo ≤ a) (e : cellsFrom lo m = true) :
    cellsFrom lo (cellWrite a v m) = true := by
  induction m generalizing lo with
  | nil =>
    unfold cellWrite
    split
    · rfl
    · rw [cellsFrom_cons]
      exact ⟨⟨ha, ‹_›⟩, rfl⟩
  | cons c r ih =>
    obtain ⟨k, w⟩ := c
    have e' := cellsFrom_cons.1 e
    unfold cellWrite
    split
    · split
      · exact e
      · rw [cellsFrom_cons]
        exact ⟨⟨ha, ‹_›⟩, cellsFrom_cons.2 ⟨⟨‹a < k›, e'.1.2⟩, e'.2⟩⟩
    · split
      · split
        · exact cellsFrom_le (Nat.le_succ_of_le e'.1.1) e'.2
        · rw [cellsFrom_cons]
          exact ⟨⟨ha, ‹_›⟩, ‹a = k› ▸ e'.2⟩
      · exact cellsFrom_cons.2 ⟨e'.1, ih (by omega) e'.2⟩

/-- Every write of a byte keeps the canonical form. -/
theorem cellWrite_wf {a : Nat} {v : Byte} {m : List Host.Cell} (h : Memory.wf m = true) : Memory.wf (cellWrite a v m) = true :=
  cellWrite_from (Nat.zero_le a) h

/-- Every write of bytes keeps the canonical form. -/
theorem cellsWrite_wf {bs : List Byte} {a : Nat} {m : List Host.Cell} (h : Memory.wf m = true) :
    Memory.wf (cellsWrite a bs m) = true := by
  induction bs generalizing a m with
  | nil => exact h
  | cons b r ih => exact ih (cellWrite_wf h)

theorem State.draw_keeps {ar : List Area} {z s : State} (h : Keeps ar z s) : Keeps ar z s.draw.2 :=
  h.trans ⟨rfl, rfl, Nat.le_succ _, List.suffix_refl _, id, fun x _ => Area.same_refl x s⟩

theorem State.drawBelow_keeps {ar : List Area} {z s : State} {n : Nat} (h : Keeps ar z s) : Keeps ar z (s.drawBelow n).2 :=
  h.trans ⟨rfl, rfl, Nat.le_succ _, List.suffix_refl _, id, fun x _ => Area.same_refl x s⟩

theorem State.drawBytes_keeps {ar : List Area} {z s : State} {n : Nat} (h : Keeps ar z s) : Keeps ar z (s.drawBytes n).2 :=
  h.trans ⟨rfl, rfl, Nat.le_succ _, List.suffix_refl _, id, fun x _ => Area.same_refl x s⟩

theorem State.send_keeps {ar : List Area} {z s : State} {x : Sent} (h : Keeps ar z s) : Keeps ar z (s.send x) :=
  h.trans ⟨rfl, rfl, Nat.le_refl _, List.suffix_cons _ _, id, fun x _ => Area.same_refl x s⟩

theorem keeps_windows {ar : List Area} {z s : State} {m : List Host.Cell} (hw : Within [.windows] ar) (h : Keeps ar z s)
    (k : Memory.wf s.windows = true → Memory.wf m = true) : Keeps ar z { s with windows := m } := by
  refine h.trans ⟨rfl, rfl, Nat.le_refl _, List.suffix_refl _, k, fun x e => ?_⟩
  cases x
  case windows => exact absurd (hw _ (by decide)) e
  all_goals first
    | exact rfl
    | exact ⟨rfl, rfl⟩
    | exact fun _ => rfl
    | exact fun _ => ⟨rfl, rfl⟩
    | exact ⟨rfl, rfl, rfl, rfl, rfl, rfl, rfl⟩

theorem State.setWindow_keeps {ar : List Area} (hw : Within [.windows] ar) {z s : State} {a : Nat} {bs : List Byte}
    (h : Keeps ar z s) : Keeps ar z (s.setWindow a bs) :=
  keeps_windows hw h cellsWrite_wf

theorem State.setWindowByte_keeps {ar : List Area} (hw : Within [.windows] ar) {z s : State} {a : Nat} {v : Byte}
    (h : Keeps ar z s) : Keeps ar z (s.setWindowByte a v) :=
  keeps_windows hw h cellWrite_wf

end Sys2Proof.Machine
end

