-- ==== Sys2Proof/Laws/KeepsOps.lean ====
section
/-! SUPPORT. What the operations of Ops, Chain, Flags, Mailbox, Buffer, Tide keep, and which areas they may move. -/

set_option Elab.async false

namespace Sys2Proof.Machine

open Sys2Proof

theorem State.modMb_keeps {ar : List Area} (hw : Within [.mbx] ar) {z a0 : State} {a1} {a2} (h1 : Keeps ar z a0) :
    Keeps ar z (State.modMb a0 a1 a2) := by
  unfold State.modMb
  exact keeps_same hw h1

theorem State.modIsl_keeps {ar : List Area} (hw : Within [.islands] ar) {z a0 : State} {a1} {a2} (h1 : Keeps ar z a0) :
    Keeps ar z (State.modIsl a0 a1 a2) := by
  unfold State.modIsl
  exact keeps_same hw h1

theorem State.modChan_keeps {ar : List Area} (hw : Within [.chans] ar) {z a0 : State} {a1} {a2} {a3} (h1 : Keeps ar z
    a0) :
    Keeps ar z (State.modChan a0 a1 a2 a3) := by
  unfold State.modChan
  exact keeps_same hw h1

theorem State.cross_keeps {ar : List Area} (hw : Within [.chans] ar) {z a0 : State} {a1} {a2} (h1 : Keeps ar z a0) :
    Keeps ar z (State.cross a0 a1 a2) := by
  unfold State.cross
  exact keeps_ite (State.modChan_keeps (hw.m rfl) h1) h1

theorem State.chansBack_keeps {ar : List Area} (hw : Within [.chans] ar) {z a0 : State} {a1} (h1 : Keeps ar z a0) :
    Keeps ar z (State.chansBack a0 a1) := by
  unfold State.chansBack
  exact keeps_same hw h1

theorem State.modUnitSt_keeps {ar : List Area} (hw : Within [.units] ar) {z a0 : State} {a1} {a2} {a3} (h1 : Keeps ar
    z a0) :
    Keeps ar z (State.modUnitSt a0 a1 a2 a3) := by
  unfold State.modUnitSt
  exact keeps_same hw h1

theorem State.modBus_keeps {ar : List Area} (hw : Within [.buses] ar) {z a0 : State} {a1} {a2} (h1 : Keeps ar z a0) :
    Keeps ar z (State.modBus a0 a1 a2) := by
  unfold State.modBus
  exact keeps_same hw h1

theorem State.modPort_keeps {ar : List Area} (hw : Within [.eth, .links] ar) {z a0 : State} {a1} {a2} (h1 : Keeps ar
    z a0) :
    Keeps ar z (State.modPort a0 a1 a2) := by
  unfold State.modPort
  exact keeps_same hw h1

theorem State.modPolicer_keeps {ar : List Area} (hw : Within [.parse] ar) {z a0 : State} {a1} {a2} (h1 : Keeps ar z
    a0) :
    Keeps ar z (State.modPolicer a0 a1 a2) := by
  unfold State.modPolicer
  exact keeps_same hw h1

theorem State.modL2e_keeps {ar : List Area} (hw : Within [.tbl] ar) {z a0 : State} {a1} {a2} (h1 : Keeps ar z a0) :
    Keeps ar z (State.modL2e a0 a1 a2) := by
  unfold State.modL2e
  exact keeps_same hw h1

theorem State.modVlan_keeps {ar : List Area} (hw : Within [.tbl] ar) {z a0 : State} {a1} {a2} (h1 : Keeps ar z a0) :
    Keeps ar z (State.modVlan a0 a1 a2) := by
  unfold State.modVlan
  exact keeps_same hw h1

theorem State.modStream_keeps {ar : List Area} (hw : Within [.tbl] ar) {z a0 : State} {a1} {a2} (h1 : Keeps ar z a0) :
    Keeps ar z (State.modStream a0 a1 a2) := by
  unfold State.modStream
  exact keeps_same hw h1

theorem State.modHop_keeps {ar : List Area} (hw : Within [.tbl] ar) {z a0 : State} {a1} {a2} (h1 : Keeps ar z a0) :
    Keeps ar z (State.modHop a0 a1 a2) := by
  unfold State.modHop
  exact keeps_same hw h1

theorem State.modFrame_keeps {ar : List Area} (hw : Within [.sw] ar) {z a0 : State} {a1} {a2} (h1 : Keeps ar z a0) :
    Keeps ar z (State.modFrame a0 a1 a2) := by
  unfold State.modFrame
  exact keeps_same hw h1

theorem State.modPool_keeps {ar : List Area} (hw : Within [.sw] ar) {z a0 : State} {a1} {a2} (h1 : Keeps ar z a0) :
    Keeps ar z (State.modPool a0 a1 a2) := by
  unfold State.modPool
  exact keeps_same hw h1

theorem State.modSlot_keeps {ar : List Area} (hw : Within [.sig] ar) {z a0 : State} {a1} {a2} (h1 : Keeps ar z a0) :
    Keeps ar z (State.modSlot a0 a1 a2) := by
  unfold State.modSlot
  exact keeps_same hw h1

theorem State.modRun_keeps {ar : List Area} (hw : Within [.sig] ar) {z a0 : State} {a1} {a2} (h1 : Keeps ar z a0) :
    Keeps ar z (State.modRun a0 a1 a2) := by
  unfold State.modRun
  exact keeps_same hw h1

theorem State.modDom_keeps {ar : List Area} (hw : Within [.time] ar) {z a0 : State} {a1} {a2} (h1 : Keeps ar z a0) :
    Keeps ar z (State.modDom a0 a1 a2) := by
  unfold State.modDom
  exact keeps_same hw h1

theorem State.modTrig_keeps {ar : List Area} (hw : Within [.time] ar) {z a0 : State} {a1} {a2} (h1 : Keeps ar z a0) :
    Keeps ar z (State.modTrig a0 a1 a2) := by
  unfold State.modTrig
  exact keeps_same hw h1

theorem State.modTimeOut_keeps {ar : List Area} (hw : Within [.time] ar) {z a0 : State} {a1} {a2} (h1 : Keeps ar z a0) :
    Keeps ar z (State.modTimeOut a0 a1 a2) := by
  unfold State.modTimeOut
  exact keeps_same hw h1

theorem State.modTimeIn_keeps {ar : List Area} (hw : Within [.time] ar) {z a0 : State} {a1} {a2} (h1 : Keeps ar z a0) :
    Keeps ar z (State.modTimeIn a0 a1 a2) := by
  unfold State.modTimeIn
  exact keeps_same hw h1

theorem State.modTdm_keeps {ar : List Area} (hw : Within [.aud] ar) {z a0 : State} {a1} {a2} (h1 : Keeps ar z a0) :
    Keeps ar z (State.modTdm a0 a1 a2) := by
  unfold State.modTdm
  exact keeps_same hw h1

theorem State.modAaf_keeps {ar : List Area} (hw : Within [.aud] ar) {z a0 : State} {a1} {a2} (h1 : Keeps ar z a0) :
    Keeps ar z (State.modAaf a0 a1 a2) := by
  unfold State.modAaf
  exact keeps_same hw h1

theorem State.modXpoint_keeps {ar : List Area} (hw : Within [.aud] ar) {z a0 : State} {a1} {a2} (h1 : Keeps ar z a0) :
    Keeps ar z (State.modXpoint a0 a1 a2) := by
  unfold State.modXpoint
  exact keeps_same hw h1

theorem State.modZone_keeps {ar : List Area} (hw : Within [.aud] ar) {z a0 : State} {a1} {a2} (h1 : Keeps ar z a0) :
    Keeps ar z (State.modZone a0 a1 a2) := by
  unfold State.modZone
  exact keeps_same hw h1

theorem State.modAnn_keeps {ar : List Area} (hw : Within [.aud] ar) {z a0 : State} {a1} {a2} (h1 : Keeps ar z a0) :
    Keeps ar z (State.modAnn a0 a1 a2) := by
  unfold State.modAnn
  exact keeps_same hw h1

theorem State.modLibMsg_keeps {ar : List Area} (hw : Within [.aud] ar) {z a0 : State} {a1} {a2} (h1 : Keeps ar z a0) :
    Keeps ar z (State.modLibMsg a0 a1 a2) := by
  unfold State.modLibMsg
  exact keeps_same hw h1

theorem State.modTq_keeps {ar : List Area} (hw : Within [.tide] ar) {z a0 : State} {a1} {a2} (h1 : Keeps ar z a0) :
    Keeps ar z (State.modTq a0 a1 a2) := by
  unfold State.modTq
  exact keeps_same hw h1

theorem State.modRing_keeps {ar : List Area} (hw : Within [.tide] ar) {z a0 : State} {a1} {a2} (h1 : Keeps ar z a0) :
    Keeps ar z (State.modRing a0 a1 a2) := by
  unfold State.modRing
  exact keeps_same hw h1

theorem State.modEngine_keeps {ar : List Area} (hw : Within [.sec] ar) {z a0 : State} {a1} {a2} (h1 : Keeps ar z a0) :
    Keeps ar z (State.modEngine a0 a1 a2) := by
  unfold State.modEngine
  exact keeps_same hw h1

theorem State.modKeySlot_keeps {ar : List Area} (hw : Within [.sec] ar) {z a0 : State} {a1} {a2} (h1 : Keeps ar z a0) :
    Keeps ar z (State.modKeySlot a0 a1 a2) := by
  unfold State.modKeySlot
  exact keeps_same hw h1

theorem State.modSrc_keeps {ar : List Area} (hw : Within [.flt] ar) {z a0 : State} {a1} {a2} (h1 : Keeps ar z a0) :
    Keeps ar z (State.modSrc a0 a1 a2) := by
  unfold State.modSrc
  exact keeps_same hw h1

theorem State.modPeer_keeps {ar : List Area} (hw : Within [.cw] ar) {z a0 : State} {a1} {a2} (h1 : Keeps ar z a0) :
    Keeps ar z (State.modPeer a0 a1 a2) := by
  unfold State.modPeer
  exact keeps_same hw h1

theorem State.modHost_keeps {ar : List Area} (hw : Within [.host, .events] ar) {z a0 : State} {a1} (h1 : Keeps ar z
    a0) :
    Keeps ar z (State.modHost a0 a1) := by
  unfold State.modHost
  exact keeps_same hw h1

theorem State.modParse_keeps {ar : List Area} (hw : Within [.parse] ar) {z a0 : State} {a1} (h1 : Keeps ar z a0) :
    Keeps ar z (State.modParse a0 a1) := by
  unfold State.modParse
  exact keeps_same hw h1

theorem State.modTbl_keeps {ar : List Area} (hw : Within [.tbl] ar) {z a0 : State} {a1} (h1 : Keeps ar z a0) :
    Keeps ar z (State.modTbl a0 a1) := by
  unfold State.modTbl
  exact keeps_same hw h1

theorem State.modSw_keeps {ar : List Area} (hw : Within [.sw] ar) {z a0 : State} {a1} (h1 : Keeps ar z a0) :
    Keeps ar z (State.modSw a0 a1) := by
  unfold State.modSw
  exact keeps_same hw h1

theorem State.modSig_keeps {ar : List Area} (hw : Within [.sig] ar) {z a0 : State} {a1} (h1 : Keeps ar z a0) :
    Keeps ar z (State.modSig a0 a1) := by
  unfold State.modSig
  exact keeps_same hw h1

theorem State.modTime_keeps {ar : List Area} (hw : Within [.time] ar) {z a0 : State} {a1} (h1 : Keeps ar z a0) :
    Keeps ar z (State.modTime a0 a1) := by
  unfold State.modTime
  exact keeps_same hw h1

theorem State.modAud_keeps {ar : List Area} (hw : Within [.aud] ar) {z a0 : State} {a1} (h1 : Keeps ar z a0) :
    Keeps ar z (State.modAud a0 a1) := by
  unfold State.modAud
  exact keeps_same hw h1

theorem State.modTide_keeps {ar : List Area} (hw : Within [.tide] ar) {z a0 : State} {a1} (h1 : Keeps ar z a0) :
    Keeps ar z (State.modTide a0 a1) := by
  unfold State.modTide
  exact keeps_same hw h1

theorem State.modSec_keeps {ar : List Area} (hw : Within [.sec] ar) {z a0 : State} {a1} (h1 : Keeps ar z a0) :
    Keeps ar z (State.modSec a0 a1) := by
  unfold State.modSec
  exact keeps_same hw h1

theorem State.modFlt_keeps {ar : List Area} (hw : Within [.flt] ar) {z a0 : State} {a1} (h1 : Keeps ar z a0) :
    Keeps ar z (State.modFlt a0 a1) := by
  unfold State.modFlt
  exact keeps_same hw h1

theorem State.modTwin_keeps {ar : List Area} (hw : Within [.twin] ar) {z a0 : State} {a1} (h1 : Keeps ar z a0) :
    Keeps ar z (State.modTwin a0 a1) := by
  unfold State.modTwin
  exact keeps_same hw h1

theorem State.modCw_keeps {ar : List Area} (hw : Within [.cw] ar) {z a0 : State} {a1} (h1 : Keeps ar z a0) :
    Keeps ar z (State.modCw a0 a1) := by
  unfold State.modCw
  exact keeps_same hw h1

theorem State.modSlp_keeps {ar : List Area} (hw : Within [.slp] ar) {z a0 : State} {a1} (h1 : Keeps ar z a0) :
    Keeps ar z (State.modSlp a0 a1) := by
  unfold State.modSlp
  exact keeps_same hw h1

theorem State.modBoot_keeps {ar : List Area} (hw : Within [.boot] ar) {z a0 : State} {a1} (h1 : Keeps ar z a0) :
    Keeps ar z (State.modBoot a0 a1) := by
  unfold State.modBoot
  exact keeps_same hw h1

theorem State.heard_keeps {ar : List Area} (hw : Within [.slp] ar) {z a0 : State} (h1 : Keeps ar z a0) :
    Keeps ar z (State.heard a0) := by
  unfold State.heard
  exact State.modSlp_keeps (hw.m rfl) h1

theorem State.hostWrites_keeps {ar : List Area} {z s : State} {t : Nat} {f : State → State} (h : Keeps ar z (s.tick
    t)) (hf : ∀ x0, Keeps ar z x0 → Keeps ar z (f x0)) :
    Keeps ar z (s.hostWrites t f) := by
  unfold State.hostWrites
  extract_lets -underBinder -merge +onlyGivenNames v1
  have k2 : Keeps ar z v1 := h
  clear_value v1
  exact keeps_ite (hf _ k2) k2

theorem State.count_keeps {ar : List Area} (hw : Within [.ctrs] ar) {z a0 : State} {a1} {a2} {a3} {a4} (h1 : Keeps ar
    z a0) :
    Keeps ar z (State.count a0 a1 a2 a3 a4) := by
  unfold State.count
  exact keeps_same hw h1

theorem State.cwSeal_keeps {ar : List Area} (hw : Within [.links] ar) {z a0 : State} {a1} {a2} {a3} {a4} (h1 : Keeps
    ar z a0) :
    Keeps ar z (State.cwSeal a0 a1 a2 a3 a4).1 := by
  unfold State.cwSeal
  extract_lets v1
  exact keeps_ite1 (keeps_mk1 h1) (keeps_link hw h1 (w := v1.waiting))

theorem State.cwOuter_keeps {ar : List Area} (hw : Within [.links] ar) {z a0 : State} {a1} {a2} {a3} {a4} (h1 : Keeps
    ar z a0) :
    Keeps ar z (State.cwOuter a0 a1 a2 a3 a4).1 := by
  unfold State.cwOuter
  split
  rename_i v1 v2 v3 e4
  have k5 : Keeps ar z v2 := keeps_fst e4 (State.cwSeal_keeps (hw.m rfl) h1)
  exact keeps_mk1 k5

theorem State.cwPut_keeps {ar : List Area} (hw : Within [.ctrs, .links] ar) {z a0 : State} {a1} {a2} {a3} {a4} (h1 :
    Keeps ar z a0) :
    Keeps ar z (State.cwPut a0 a1 a2 a3 a4) := by
  unfold State.cwPut
  split
  rename_i v1 v2 v3 e4
  have k5 : Keeps ar z v2 := keeps_fst e4 (State.cwOuter_keeps (hw.m rfl) h1)
  exact State.count_keeps (hw.m rfl) (State.count_keeps (hw.m rfl) (State.send_keeps k5))

theorem State.magicSend_keeps {ar : List Area} (hw : Within [.ctrs, .eth, .links] ar) {z a0 : State} {a1} (h1 : Keeps
    ar z a0) :
    Keeps ar z (State.magicSend a0 a1) := by
  unfold State.magicSend
  extract_lets -underBinder -merge +onlyGivenNames v1
  clear_value v1
  refine keeps_ite h1 ?_
  extract_lets -underBinder -merge +onlyGivenNames v2
  clear_value v2
  extract_lets -underBinder -merge +onlyGivenNames v3
  have k4 : Keeps ar z v3 := State.modPort_keeps (hw.m rfl) h1
  clear_value v3
  exact State.count_keeps (hw.m rfl) (State.count_keeps (hw.m rfl) (State.send_keeps k4))

theorem State.cwWait_keeps {ar : List Area} (hw : Within [.links] ar) {z a0 : State} {a1} {a2} {a3} {a4} (h1 : Keeps
    ar z a0) :
    Keeps ar z (State.cwWait a0 a1 a2 a3 a4) := by
  exact keeps_link hw h1 (c := (a0.port a1).cw.linkTx) (w := (a0.port a1).cw.waiting ++ [(a2, a3, a4)])

theorem State.cwSend_keeps {ar : List Area} (hw : Within [.ctrs, .links] ar) {z a0 : State} {a1} {a2} {a3} {a4} (h1 :
    Keeps ar z a0) :
    Keeps ar z (State.cwSend a0 a1 a2 a3 a4) := by
  unfold State.cwSend
  extract_lets -underBinder -merge +onlyGivenNames v1
  clear_value v1
  exact keeps_ite h1 (keeps_ite (State.cwPut_keeps (hw.m rfl) h1) (State.cwWait_keeps (hw.m rfl) h1))

theorem State.cwFlush_keeps {ar : List Area} (hw : Within [.ctrs, .eth, .links] ar) {z a0 : State} {a1} (h1 : Keeps
    ar z a0) :
    Keeps ar z (State.cwFlush a0 a1) := by
  unfold State.cwFlush
  refine keeps_ite h1 ?_
  extract_lets -underBinder -merge +onlyGivenNames v1
  clear_value v1
  exact State.magicSend_keeps (hw.m rfl) (keeps_foldl (fun v2 v3 k4 => keeps_ite k4 (State.cwPut_keeps (hw.m rfl)
      k4)) (State.modPort_keeps (hw.m rfl)
    h1))

theorem State.cwLink_keeps {ar : List Area} (hw : Within [.ctrs, .links] ar) {z a0 : State} {a1} {a2} {a3} (h1 :
    Keeps ar z a0) :
    Keeps ar z (State.cwLink a0 a1 a2 a3) := by
  unfold State.cwLink
  exact State.cwSend_keeps (hw.m rfl) h1

theorem State.cwTo_keeps {ar : List Area} (hw : Within [.ctrs, .links] ar) {z a0 : State} {a1} {a2} {a3} (h1 : Keeps
    ar z a0) :
    Keeps ar z (State.cwTo a0 a1 a2 a3) := by
  unfold State.cwTo
  refine keeps_ite h1 ?_
  split
  · exact h1
  · exact State.cwSend_keeps (hw.m rfl) h1

theorem State.cwBroadcast_keeps {ar : List Area} (hw : Within [.ctrs, .links] ar) {z a0 : State} {a1} (h1 : Keeps ar
    z a0) :
    Keeps ar z (State.cwBroadcast a0 a1) := by
  unfold State.cwBroadcast
  exact keeps_ite h1 (keeps_foldl (fun v1 v2 k3 => State.cwSend_keeps (hw.m rfl) k3) h1)

theorem State.msixRequest_keeps {ar : List Area} (hw : Within [.events] ar) {z a0 : State} {a1} (h1 : Keeps ar z a0) :
    Keeps ar z (State.msixRequest a0 a1) := by
  unfold State.msixRequest
  extract_lets x
  exact keeps_ite h1 (keeps_ite (keeps_events hw h1 rfl) (State.send_keeps h1))

theorem State.sendVector_keeps {ar : List Area} (hw : Within [.events] ar) {z a0 : State} {a1} (h1 : Keeps ar z a0) :
    Keeps ar z (State.sendVector a0 a1) := by
  unfold State.sendVector
  exact State.msixRequest_keeps (hw.m rfl) h1

theorem State.msixFlush_keeps {ar : List Area} (hw : Within [.events] ar) {z a0 : State} (h1 : Keeps ar z a0) :
    Keeps ar z (State.msixFlush a0) := by
  unfold State.msixFlush
  refine keeps_foldl ?_ h1
  intro v1 v2 k3
  extract_lets x
  exact keeps_ite (State.send_keeps (keeps_events hw k3 rfl)) k3

theorem State.logWrite_keeps {ar : List Area} (hw : Within [.events, .ctrs] ar) {z a0 : State} {a1} (h1 : Keeps ar z
    a0) :
    Keeps ar z (State.logWrite a0 a1).1 := by
  unfold State.logWrite
  extract_lets v1 v2 v3 v4
  have k5 : Keeps ar z v4 := keeps_events (hw.m rfl) h1 rfl
  clear_value v4
  exact keeps_mk1 (keeps_ite (State.count_keeps (hw.m rfl) k5) k5)

theorem State.evtSet_keeps {ar : List Area} (hw : Within [.events] ar) {z a0 : State} {a1} (h1 : Keeps ar z a0) :
    Keeps ar z (State.evtSet a0 a1) := by
  unfold State.evtSet
  extract_lets v1 v2 v3 v4
  have k5 : Keeps ar z v4 := keeps_events hw h1 rfl
  clear_value v4
  exact keeps_ite (State.sendVector_keeps hw k5) k5

theorem State.occur_keeps {ar : List Area} (hw : Within Area.told ar) {z a0 : State} {a1} (h1 : Keeps ar z a0) :
    Keeps ar z (State.occur a0 a1).1 := by
  unfold State.occur
  split
  rename_i v1 v2 v3 e4
  have k5 : Keeps ar z v2 := keeps_fst e4 (State.logWrite_keeps (hw.m rfl) h1)
  extract_lets -underBinder -merge +onlyGivenNames v6
  have k7 : Keeps ar z v6 := State.evtSet_keeps (hw.m rfl) k5
  clear_value v6
  exact keeps_mk1 (keeps_ite (State.count_keeps (hw.m rfl) (State.cwTo_keeps (hw.m rfl) k7)) k7)

theorem State.raise_keeps {ar : List Area} (hw : Within Area.told ar) {z a0 : State} {a1} {a2} {a3} {a4} (h1 : Keeps
    ar z a0) :
    Keeps ar z (State.raise a0 a1 a2 a3 a4) := by
  unfold State.raise
  split
  rename_i v1 v2 v3 e4
  have k5 : Keeps ar z v2 := keeps_fst e4 (State.occur_keeps (hw.m rfl) h1)
  exact keeps_ite (State.occur_keeps (hw.m rfl) k5) k5

theorem State.raiseOf_keeps {ar : List Area} (hw : Within Area.told ar) {z a0 : State} {a1} {a2} {a3} (h1 : Keeps ar
    z a0) :
    Keeps ar z (State.raiseOf a0 a1 a2 a3) := by
  unfold State.raiseOf
  exact State.raise_keeps (hw.m rfl) h1

theorem State.setDevState_keeps {ar : List Area} (hw : Within (Area.telling [.boot]) ar) {z a0 : State} {a1} (h1 :
    Keeps ar z a0) :
    Keeps ar z (State.setDevState a0 a1) := by
  unfold State.setDevState
  exact keeps_ite h1 (State.raise_keeps (hw.m rfl) (keeps_same hw h1))

theorem State.evtClear_keeps {ar : List Area} (hw : Within [.events] ar) {z a0 : State} {a1} {a2} (h1 : Keeps ar z a0) :
    Keeps ar z (State.evtClear a0 a1 a2) := by
  unfold State.evtClear
  extract_lets v1 v2 v3 v4 v5 v6
  have k7 : Keeps ar z v6 := keeps_events hw h1 rfl
  clear_value v6
  exact keeps_foldl (fun _ _ k => State.sendVector_keeps hw k) k7

theorem State.evtMaskWrite_keeps {ar : List Area} (hw : Within [.host, .events] ar) {z a0 : State} {a1} {a2} (h1 :
    Keeps ar z a0) :
    Keeps ar z (State.evtMaskWrite a0 a1 a2) := by
  unfold State.evtMaskWrite
  extract_lets -underBinder -merge +onlyGivenNames v1 v2 v3
  clear_value v1 v2 v3
  extract_lets -underBinder -merge +onlyGivenNames v4
  have k5 : Keeps ar z v4 := keeps_same hw h1
  clear_value v4
  exact keeps_foldl (fun v6 v7 k8 => State.sendVector_keeps (hw.m rfl) k8) k5

theorem State.evtRelease_keeps {ar : List Area} (hw : Within [.host, .events] ar) {z a0 : State} {a1} (h1 : Keeps ar
    z a0) :
    Keeps ar z (State.evtRelease a0 a1) := by
  unfold State.evtRelease
  exact keeps_same hw h1

theorem State.peerAnswer_keeps {ar : List Area} (hw : Within [.ctrs, .links] ar) {z a0 : State} {a1} {a2} {a3} (h1 :
    Keeps ar z a0) :
    Keeps ar z (State.peerAnswer a0 a1 a2 a3) := by
  unfold State.peerAnswer
  exact State.cwTo_keeps (hw.m rfl) h1

theorem State.interim_keeps {ar : List Area} (hw : Within (Area.telling [.mbx]) ar) {z a0 : State} {a1} {a2} (h1 :
    Keeps ar z a0) :
    Keeps ar z (State.interim a0 a1 a2) := by
  unfold State.interim
  extract_lets -underBinder -merge +onlyGivenNames v1
  clear_value v1
  refine keeps_ite (State.peerAnswer_keeps (hw.m rfl) (State.modMb_keeps (hw.m rfl) h1)) ?_
  split
  rename_i v2 v3 v4 e5
  have k6 : Keeps ar z v4 := keeps_snd e5 (State.draw_keeps h1)
  exact State.raise_keeps (hw.m rfl) (State.modMb_keeps (hw.m rfl) k6)

theorem State.rebootClock_keeps {ar : List Area} (hw : Within [.boot] ar) {z a0 : State} {a1} (h1 : Keeps ar z a0) :
    Keeps ar z (State.rebootClock a0 a1) := by
  unfold State.rebootClock
  exact keeps_ite (State.modBoot_keeps (hw.m rfl) h1) h1

theorem State.complete_keeps {ar : List Area} (hw : Within (Area.telling [.windows, .mbx, .cw, .boot]) ar) {z a0 :
    State} {a1} {a2} (h1 : Keeps ar z a0) :
    Keeps ar z (State.complete a0 a1 a2) := by
  unfold State.complete
  extract_lets -underBinder -merge +onlyGivenNames v1
  clear_value v1
  extract_lets -underBinder -merge +onlyGivenNames v2
  have k3 : Keeps ar z v2 := keeps_ite (State.rebootClock_keeps (hw.m rfl) h1) h1
  clear_value v2
  extract_lets -underBinder -merge +onlyGivenNames v4
  clear_value v4
  refine keeps_ite ?_ ?_
  · extract_lets -underBinder -merge +onlyGivenNames v5
    have k6 : Keeps ar z v5 := State.modMb_keeps (hw.m rfl) k3
    clear_value v5
    exact State.modCw_keeps (hw.m rfl) (State.peerAnswer_keeps (hw.m rfl) k6)
  · extract_lets -underBinder -merge +onlyGivenNames v7
    have k8 : Keeps ar z v7 := State.setWindow_keeps (hw.m rfl) k3
    clear_value v7
    extract_lets -underBinder -merge +onlyGivenNames v9
    have k10 : Keeps ar z v9 := State.modMb_keeps (hw.m rfl) k8
    clear_value v9
    extract_lets -underBinder -merge +onlyGivenNames v11
    have k12 : Keeps ar z v11 := by
      unfold v11
      refine keeps_ite k10 ?_
      split
      rename_i v13 v14 v15 e16
      have k17 : Keeps ar z v15 := keeps_snd e16 (State.draw_keeps k10)
      exact State.raise_keeps (hw.m rfl) k17
    clear_value v11
    refine keeps_ite ?_ k12
    split
    rename_i v18 v19 v20 e21
    have k22 : Keeps ar z v20 := keeps_snd e21 (State.draw_keeps k12)
    exact State.raise_keeps (hw.m rfl) k22

theorem State.deferCommand_keeps {ar : List Area} (hw : Within (Area.telling [.mbx]) ar) {z a0 : State} {a1} (h1 :
    Keeps ar z a0) :
    Keeps ar z (State.deferCommand a0 a1) := by
  unfold State.deferCommand
  exact State.interim_keeps (hw.m rfl) (State.modMb_keeps (hw.m rfl) h1)

theorem State.waitBehind_keeps {ar : List Area} (hw : Within (Area.telling [.mbx]) ar) {z a0 : State} {a1} {a2} (h1 :
    Keeps ar z a0) :
    Keeps ar z (State.waitBehind a0 a1 a2) := by
  unfold State.waitBehind
  extract_lets -underBinder -merge +onlyGivenNames v1
  clear_value v1
  exact keeps_ite h1 (keeps_ite (State.deferCommand_keeps (hw.m rfl) h1) (State.modMb_keeps (hw.m rfl) h1))

theorem State.queueJudge_keeps {ar : List Area} (hw : Within (Area.telling [.mbx]) ar) {z a0 : State} {a1} {a2} (h1 :
    Keeps ar z a0) :
    Keeps ar z (State.queueJudge a0 a1 a2) := by
  unfold State.queueJudge
  refine keeps_foldl ?_ (State.waitBehind_keeps (hw.m rfl) h1)
  intro v1 v2 k3
  extract_lets -underBinder -merge +onlyGivenNames v4
  clear_value v4
  refine keeps_ite ?_ k3
  split
  · exact State.waitBehind_keeps (hw.m rfl) k3
  · exact k3

theorem State.envelopeJudge_keeps {ar : List Area} (hw : Within (Area.telling [.windows, .mbx, .cw, .boot]) ar) {z a0
    : State} {a1} (h1 : Keeps ar z a0) :
    Keeps ar z (State.envelopeJudge a0 a1) := by
  unfold State.envelopeJudge
  split
  · exact h1
  · refine keeps_ite h1 ?_
    split
    · exact State.complete_keeps (hw.m rfl) h1
    · exact State.queueJudge_keeps (hw.m rfl) h1

theorem State.firmwareTakes_keeps {ar : List Area} (hw : Within (Area.telling [.windows, .mbx, .cw, .boot]) ar) {z a0
    : State} {a1} (h1 : Keeps ar z a0) :
    Keeps ar z (State.firmwareTakes a0 a1) := by
  unfold State.firmwareTakes
  exact State.envelopeJudge_keeps (hw.m rfl) (State.modMb_keeps (hw.m rfl) h1)

theorem State.command_keeps {ar : List Area} (hw : Within (Area.telling [.windows, .mbx, .cw, .boot]) ar) {z s :
    State} {t m code : Nat} {f : State → Req → State} (h : Keeps ar z (s.tick t)) (hf : ∀
    x0 x1, Keeps ar z x0 → Keeps ar z (f x0 x1)) :
    Keeps ar z (s.command t m code f) := by
  unfold State.command
  extract_lets -underBinder -merge +onlyGivenNames v1
  have k2 : Keeps ar z v1 := h
  clear_value v1
  split
  · exact k2
  · refine keeps_ite ?_ k2
    split
    · exact State.complete_keeps (hw.m rfl) k2
    · exact hf _ _ k2

theorem State.simple_keeps {ar : List Area} (hw : Within (Area.telling [.windows, .mbx, .cw, .boot]) ar) {z s :
    State} {t m code : Nat} {c : State → List Byte → Check} {f : State → List Byte →
    State × Reply} (h : Keeps ar z (s.tick t)) (hf : ∀ x0 x1, Keeps ar z x0 → Keeps ar z (f x0 x1).1) :
    Keeps ar z (s.simple t m code c f) := by
  unfold State.simple
  refine State.command_keeps (hw.m rfl) h ?_
  intro v1 v2 k3
  split
  · exact State.complete_keeps (hw.m rfl) k3
  · split
    rename_i v4 v5 v6 e7
    have k8 : Keeps ar z v5 := keeps_fst e7 (hf _ _ k3)
    exact State.complete_keeps (hw.m rfl) k8

theorem State.query_keeps {ar : List Area} (hw : Within (Area.telling [.windows, .mbx, .cw, .boot]) ar) {z s : State}
    {t m code : Nat} {c : State → List Byte → Check} {f : State → List Byte →
    Reply} (h : Keeps ar z (s.tick t)) :
    Keeps ar z (s.query t m code c f) := by
  unfold State.query
  exact State.simple_keeps (hw.m rfl) h (fun v1 v2 k3 => keeps_mk1 k3)

theorem State.begins_keeps {ar : List Area} (hw : Within (Area.telling [.windows, .mbx, .cw, .boot]) ar) {z s :
    State} {t m code : Nat} {c : State → List Byte → Check} {f : State → List Byte →
    State} (h : Keeps ar z (s.tick t)) (hf : ∀ x0 x1, Keeps ar z x0 → Keeps ar z (f x0 x1)) :
    Keeps ar z (s.begins t m code c f) := by
  unfold State.begins
  refine State.command_keeps (hw.m rfl) h ?_
  intro v1 v2 k3
  split
  · exact State.complete_keeps (hw.m rfl) k3
  · exact hf _ _ (State.modMb_keeps (hw.m rfl) k3)

theorem State.prepares_keeps {ar : List Area} (hw : Within [.mbx] ar) {z a0 : State} {a1} (h1 : Keeps ar z a0) :
    Keeps ar z (State.prepares a0 a1) := by
  unfold State.prepares
  exact State.modMb_keeps (hw.m rfl) h1

theorem State.commitEnd_keeps {ar : List Area} (hw : Within (Area.telling [.windows, .mbx, .cw, .boot]) ar) {z a0 :
    State} {a1} {a2} (h1 : Keeps ar z a0) :
    Keeps ar z (State.commitEnd a0 a1 a2) := by
  unfold State.commitEnd
  extract_lets -underBinder -merge +onlyGivenNames v1
  clear_value v1
  exact keeps_ite (State.complete_keeps (hw.m rfl) h1) (State.complete_keeps (hw.m rfl) h1)

theorem State.commitWaits_keeps {ar : List Area} (hw : Within [.mbx] ar) {z a0 : State} {a1} {a2} {a3} (h1 : Keeps ar
    z a0) :
    Keeps ar z (State.commitWaits a0 a1 a2 a3) := by
  unfold State.commitWaits
  exact State.modMb_keeps (hw.m rfl) h1

theorem State.commitReturn_keeps {ar : List Area} (hw : Within (Area.telling [.windows, .mbx, .cw, .boot]) ar) {z a0
    : State} {a1} (h1 : Keeps ar z a0) :
    Keeps ar z (State.commitReturn a0 a1) := by
  unfold State.commitReturn
  refine keeps_foldl ?_ h1
  intro v1 v2 k3
  extract_lets -underBinder -merge +onlyGivenNames v4
  clear_value v4
  refine keeps_ite ?_ k3
  extract_lets -underBinder -merge +onlyGivenNames v5
  clear_value v5
  extract_lets -underBinder -merge +onlyGivenNames v6
  have k7 : Keeps ar z v6 := State.modMb_keeps (hw.m rfl) k3
  clear_value v6
  exact keeps_ite (State.commitEnd_keeps (hw.m rfl) k7) k7

theorem State.commitFault_keeps {ar : List Area} (hw : Within [.mbx] ar) {z a0 : State} {a1} {a2} {a3} (h1 : Keeps ar
    z a0) :
    Keeps ar z (State.commitFault a0 a1 a2 a3) := by
  unfold State.commitFault
  exact State.modMb_keeps (hw.m rfl) h1

theorem State.completeOf_keeps {ar : List Area} (hw : Within (Area.telling [.windows, .mbx, .cw, .boot]) ar) {z a0 :
    State} {a1} {a2} {a3} (h1 : Keeps ar z a0) :
    Keeps ar z (State.completeOf a0 a1 a2 a3) := by
  unfold State.completeOf
  exact keeps_foldl (fun v1 v2 k3 => State.complete_keeps (hw.m rfl) k3) h1

theorem State.abortedOf_keeps {ar : List Area} (hw : Within (Area.telling [.windows, .mbx, .cw, .boot]) ar) {z a0 :
    State} {a1} (h1 : Keeps ar z a0) :
    Keeps ar z (State.abortedOf a0 a1) := by
  unfold State.abortedOf
  exact keeps_foldl (fun v1 v2 k3 => keeps_ite (State.complete_keeps (hw.m rfl) k3) k3) h1

theorem State.poolJudge_keeps {ar : List Area} (hw : Within (Area.telling [.sw]) ar) {z a0 : State} {a1} (h1 : Keeps
    ar z a0) :
    Keeps ar z (State.poolJudge a0 a1) := by
  unfold State.poolJudge
  extract_lets -underBinder -merge +onlyGivenNames v1
  clear_value v1
  exact keeps_ite (State.raiseOf_keeps (hw.m rfl) (State.modPool_keeps (hw.m rfl) h1)) (keeps_ite
      (State.modPool_keeps (hw.m rfl) h1) h1)

theorem State.pauseSend_keeps {ar : List Area} (hw : Within (Area.telling [.eth]) ar) {z a0 : State} {a1} (h1 : Keeps
    ar z a0) :
    Keeps ar z (State.pauseSend a0 a1) := by
  unfold State.pauseSend
  extract_lets -underBinder -merge +onlyGivenNames v1
  clear_value v1
  split
  · exact h1
  · refine keeps_ite (State.modPort_keeps (hw.m rfl) h1) ?_
    refine keeps_ite h1 ?_
    extract_lets -underBinder -merge +onlyGivenNames v2
    have k3 : Keeps ar z v2 := State.modPort_keeps (hw.m rfl) h1
    clear_value v2
    extract_lets -underBinder -merge +onlyGivenNames v4
    clear_value v4
    extract_lets -underBinder -merge +onlyGivenNames v5
    have k6 : Keeps ar z v5 := State.count_keeps (hw.m rfl) (State.send_keeps k3)
    clear_value v5
    extract_lets -underBinder -merge +onlyGivenNames v7
    have k8 : Keeps ar z v7 := State.count_keeps (hw.m rfl) (State.count_keeps (hw.m rfl) k6)
    clear_value v7
    exact keeps_ite (State.raiseOf_keeps (hw.m rfl) k8) k8

theorem State.pauseJudge_keeps {ar : List Area} (hw : Within (Area.telling [.eth]) ar) {z a0 : State} {a1} (h1 :
    Keeps ar z a0) :
    Keeps ar z (State.pauseJudge a0 a1) := by
  unfold State.pauseJudge
  extract_lets -underBinder -merge +onlyGivenNames v1 v2
  clear_value v1 v2
  exact keeps_ite (State.pauseSend_keeps (hw.m rfl) (State.modPort_keeps (hw.m rfl) h1)) (keeps_ite
      (State.pauseSend_keeps (hw.m rfl)
    (State.modPort_keeps (hw.m rfl) h1)) h1)

theorem State.setCells_keeps {ar : List Area} (hw : Within (Area.telling [.eth, .sw]) ar) {z a0 : State} {a1} {a2}
    (h1 : Keeps ar z a0) :
    Keeps ar z (State.setCells a0 a1 a2) := by
  unfold State.setCells
  extract_lets -underBinder -merge +onlyGivenNames v1
  clear_value v1
  extract_lets -underBinder -merge +onlyGivenNames v2
  have k3 : Keeps ar z v2 := State.modFrame_keeps (hw.m rfl) h1
  clear_value v2
  extract_lets -underBinder -merge +onlyGivenNames v4
  have k5 : Keeps ar z v4 := State.modPool_keeps (hw.m rfl) k3
  clear_value v4
  extract_lets -underBinder -merge +onlyGivenNames v6
  have k7 : Keeps ar z v6 := State.poolJudge_keeps (hw.m rfl) k5
  clear_value v6
  exact keeps_ite (State.pauseJudge_keeps (hw.m rfl) k7) k7

theorem State.countAt_keeps {ar : List Area} (hw : Within [.ctrs, .sw] ar) {z a0 : State} {a1} {a2} {a3} {a4} (h1 :
    Keeps ar z a0) :
    Keeps ar z (State.countAt a0 a1 a2 a3 a4) := by
  unfold State.countAt
  extract_lets -underBinder -merge +onlyGivenNames v1
  clear_value v1
  exact keeps_ite (State.count_keeps (hw.m rfl) h1) (keeps_ite (State.modFrame_keeps (hw.m rfl) h1) h1)

theorem State.retire_keeps {ar : List Area} (hw : Within [.sw] ar) {z a0 : State} {a1} (h1 : Keeps ar z a0) :
    Keeps ar z (State.retire a0 a1) := by
  unfold State.retire
  extract_lets -underBinder -merge +onlyGivenNames v1
  clear_value v1
  exact keeps_ite (State.modSw_keeps (hw.m rfl) h1) h1

theorem State.releaseRef_keeps {ar : List Area} (hw : Within (Area.telling [.eth, .sw]) ar) {z a0 : State} {a1} (h1 :
    Keeps ar z a0) :
    Keeps ar z (State.releaseRef a0 a1) := by
  unfold State.releaseRef
  extract_lets -underBinder -merge +onlyGivenNames v1
  clear_value v1
  extract_lets -underBinder -merge +onlyGivenNames v2
  have k3 : Keeps ar z v2 := State.modFrame_keeps (hw.m rfl) h1
  clear_value v2
  exact keeps_ite (State.retire_keeps (hw.m rfl) (State.setCells_keeps (hw.m rfl) k3)) k3

theorem State.modTx_keeps {ar : List Area} (hw : Within [.buses] ar) {z a0 : State} {a1} {a2} (h1 : Keeps ar z a0) :
    Keeps ar z (State.modTx a0 a1 a2) := by
  unfold State.modTx
  exact State.modBus_keeps (hw.m rfl) h1

theorem State.busAged_keeps {ar : List Area} (hw : Within (Area.telling [.eth, .sw]) ar) {z a0 : State} {a1} {a2} (h1
    : Keeps ar z a0) :
    Keeps ar z (State.busAged a0 a1 a2) := by
  unfold State.busAged
  exact State.raiseOf_keeps (hw.m rfl) (State.count_keeps (hw.m rfl) (State.releaseRef_keeps (hw.m rfl) h1))

theorem State.deepTake_keeps {ar : List Area} (hw : Within [.buses] ar) {z a0 : State} {a1} {a2} (h1 : Keeps ar z a0) :
    Keeps ar z (State.deepTake a0 a1 a2) := by
  unfold State.deepTake
  exact State.modTx_keeps (hw.m rfl) h1

theorem State.deepReturn_keeps {ar : List Area} (hw : Within [.buses] ar) {z a0 : State} {a1} {a2} (h1 : Keeps ar z
    a0) :
    Keeps ar z (State.deepReturn a0 a1 a2) := by
  unfold State.deepReturn
  exact State.modBus_keeps (hw.m rfl) h1

theorem State.bufReturn_keeps {ar : List Area} (hw : Within [.buses] ar) {z a0 : State} {a1} {a2} (h1 : Keeps ar z a0) :
    Keeps ar z (State.bufReturn a0 a1 a2) := by
  unfold State.bufReturn
  split
  · exact h1
  · exact State.deepReturn_keeps (hw.m rfl) (State.modTx_keeps (hw.m rfl) h1)

theorem State.refillStep_keeps {ar : List Area} (hw : Within (Area.telling [.chans, .eth, .buses, .sw]) ar) {z a0 :
    State} {a1} (h1 : Keeps ar z a0) :
    OptKeeps ar z (State.refillStep a0 a1) := by
  unfold State.refillStep
  extract_lets -underBinder -merge +onlyGivenNames v1
  clear_value v1
  split
  · exact keeps_none
  · extract_lets -underBinder -merge +onlyGivenNames v2 v3 v4
    clear_value v2 v3 v4
    split
    · exact keeps_none
    · exact keeps_iteO (keeps_some (State.busAged_keeps (hw.m rfl) (State.deepTake_keeps (hw.m rfl) h1))) (keeps_some
        (State.modTx_keeps (hw.m rfl)
        (State.bufReturn_keeps (hw.m rfl) (State.deepTake_keeps (hw.m rfl) (State.cross_keeps (hw.m rfl) h1)))))

theorem State.refillLoop_keeps {ar : List Area} (hw : Within (Area.telling [.chans, .eth, .buses, .sw]) ar) {z a0 :
    State} {a1} {a2} (h1 : Keeps ar z a0) :
    Keeps ar z (State.refillLoop a0 a1 a2) := by
  induction a2 generalizing a0
  · unfold State.refillLoop
    exact h1
  · rename_i w0 ih
    unfold State.refillLoop
    split
    · rename_i v1 e2
      exact h1
    · rename_i v3 v4 e5
      have k6 : Keeps ar z v4 := keeps_of_some e5 (State.refillStep_keeps (hw.m rfl) h1)
      exact ih k6

theorem State.refillOrder_keeps {ar : List Area} (hw : Within [.buses] ar) {z a0 : State} {a1} (h1 : Keeps ar z a0) :
    Keeps ar z (State.refillOrder a0 a1) := by
  unfold State.refillOrder
  extract_lets -underBinder -merge +onlyGivenNames v1 v2 v3 v4
  clear_value v1 v2 v3 v4
  exact keeps_foldl (fun v5 v6 k7 => State.modTx_keeps (hw.m rfl) k7) h1

theorem State.refill_keeps {ar : List Area} (hw : Within (Area.telling [.chans, .eth, .buses, .sw]) ar) {z a0 :
    State} {a1} (h1 : Keeps ar z a0) :
    Keeps ar z (State.refill a0 a1) := by
  unfold State.refill
  exact keeps_ite (State.refillOrder_keeps (hw.m rfl) (State.refillLoop_keeps (hw.m rfl) h1)) h1

theorem State.portTake_keeps {ar : List Area} (hw : Within [.eth, .links] ar) {z a0 : State} {a1} {a2} {a3} (h1 :
    Keeps ar z a0) (h4 : ∀ x0 x1, Keeps ar z x0 → Keeps ar z (a3
    x0 x1)) :
    Keeps ar z (State.portTake a0 a1 a2 a3) := by
  unfold State.portTake
  refine keeps_foldl ?_ h1
  intro v1 v2 k3
  extract_lets -underBinder -merge +onlyGivenNames v4 v5
  clear_value v4 v5
  refine keeps_ite k3 ?_
  extract_lets -underBinder -merge +onlyGivenNames v6
  have k7 : Keeps ar z v6 := State.modPort_keeps (hw.m rfl) k3
  clear_value v6
  exact keeps_foldl (fun v8 v9 k10 => h4 _ _ k10) k7

theorem State.busTake_keeps {ar : List Area} (hw : Within [.buses, .sw] ar) {z a0 : State} {a1} {a2} (h1 : Keeps ar z
    a0) (h3 : ∀ x0, Keeps ar z x0 → Keeps ar z (a2 x0)) :
    Keeps ar z (State.busTake a0 a1 a2) := by
  unfold State.busTake
  extract_lets -underBinder -merge +onlyGivenNames v1
  have k2 : Keeps ar z v1 := keeps_ite (h3 _ (State.modFrame_keeps (hw.m rfl) h1)) h1
  clear_value v1
  exact keeps_foldl (fun v3 v4 k5 => keeps_ite (h3 _ (State.modTx_keeps (hw.m rfl) k5)) k5) k2

theorem State.evict_keeps {ar : List Area} (hw : Within (Area.telling [.eth, .buses, .sw]) ar) {z a0 : State} {a1}
    (h1 : Keeps ar z a0) :
    Keeps ar z (State.evict a0 a1) := by
  unfold State.evict
  extract_lets -underBinder -merge +onlyGivenNames v1
  clear_value v1
  extract_lets -underBinder -merge +onlyGivenNames v2
  have k3 : Keeps ar z v2 := keeps_foldl (fun v4 v5 k6 => State.portTake_keeps (hw.m rfl) k6 (fun v7 v8 k9 =>
      State.countAt_keeps (hw.m rfl)
    k9)) h1
  clear_value v2
  extract_lets -underBinder -merge +onlyGivenNames v10
  have k11 : Keeps ar z v10 := State.busTake_keeps (hw.m rfl) k3 (fun v12 k13 => State.countAt_keeps (hw.m rfl) k13)
  clear_value v10
  extract_lets -underBinder -merge +onlyGivenNames v14
  have k15 : Keeps ar z v14 := State.countAt_keeps (hw.m rfl) k11
  clear_value v14
  extract_lets -underBinder -merge +onlyGivenNames v16
  have k17 : Keeps ar z v16 := State.setCells_keeps (hw.m rfl) (State.modFrame_keeps (hw.m rfl) k15)
  clear_value v16
  exact State.retire_keeps (hw.m rfl) k17

theorem State.evictFor_keeps {ar : List Area} (hw : Within (Area.telling [.eth, .buses, .sw]) ar) {z a0 : State} {a1}
    {a2} {a3} (h1 : Keeps ar z a0) :
    Keeps ar z (State.evictFor a0 a1 a2 a3) := by
  induction a3 generalizing a0
  · unfold State.evictFor
    exact h1
  · rename_i w0 w1 ih
    unfold State.evictFor
    exact keeps_ite h1 (ih (State.evict_keeps (hw.m rfl) h1))

theorem State.creditRun_keeps {ar : List Area} (hw : Within [.eth, .links] ar) {z a0 : State} {a1} {a2} (h1 : Keeps
    ar z a0) :
    Keeps ar z (State.creditRun a0 a1 a2) := by
  unfold State.creditRun
  exact State.modPort_keeps (hw.m rfl) h1

theorem State.enqueue_keeps {ar : List Area} (hw : Within [.eth, .links] ar) {z a0 : State} {a1} {a2} {a3} (h1 :
    Keeps ar z a0) :
    Keeps ar z (State.enqueue a0 a1 a2 a3) := by
  unfold State.enqueue
  exact State.modPort_keeps (hw.m rfl) (State.creditRun_keeps (hw.m rfl) h1)

theorem State.deepArrive_keeps {ar : List Area} (hw : Within [.buses] ar) {z a0 : State} {a1} {a2} (h1 : Keeps ar z
    a0) :
    Keeps ar z (State.deepArrive a0 a1 a2) := by
  unfold State.deepArrive
  exact State.modBus_keeps (hw.m rfl) h1

theorem State.deepEvict_keeps {ar : List Area} (hw : Within (Area.telling [.eth, .buses, .sw]) ar) {z a0 : State}
    {a1} {a2} (h1 : Keeps ar z a0) :
    Keeps ar z (State.deepEvict a0 a1 a2) := by
  unfold State.deepEvict
  exact State.count_keeps (hw.m rfl) (State.releaseRef_keeps (hw.m rfl) (State.deepTake_keeps (hw.m rfl) h1))

theorem State.queueFull_keeps {ar : List Area} (hw : Within Area.told ar) {z a0 : State} {a1} {a2} (h1 : Keeps ar z
    a0) :
    Keeps ar z (State.queueFull a0 a1 a2) := by
  unfold State.queueFull
  exact State.raiseOf_keeps (hw.m rfl) h1

theorem State.deepEnter_keeps {ar : List Area} (hw : Within (Area.telling [.chans, .eth, .buses, .sw]) ar) {z a0 :
    State} {a1} {a2} (h1 : Keeps ar z a0) :
    Keeps ar z (State.deepEnter a0 a1 a2).1 := by
  unfold State.deepEnter
  split
  · exact keeps_mk1 (State.queueFull_keeps (hw.m rfl) (State.count_keeps (hw.m rfl) h1))
  · exact keeps_mk1 (State.refill_keeps (hw.m rfl) (State.deepArrive_keeps (hw.m rfl) (State.queueFull_keeps (hw.m
      rfl) (State.deepEvict_keeps (hw.m rfl) h1))))
  · exact keeps_mk1 (State.refill_keeps (hw.m rfl) (State.deepArrive_keeps (hw.m rfl) h1))

theorem State.admitTo_keeps {ar : List Area} (hw : Within (Area.telling [.chans, .eth, .buses, .sw]) ar) {z a0 :
    State} {a1} {a2} {a3} {a4} (h1 : Keeps ar z a0) :
    Keeps ar z (State.admitTo a0 a1 a2 a3 a4) := by
  unfold State.admitTo
  extract_lets -underBinder -merge +onlyGivenNames v1 v2
  clear_value v1 v2
  refine keeps_ite h1 ?_
  extract_lets -underBinder -merge +onlyGivenNames v3 v4 v5 v6
  clear_value v3 v4 v5 v6
  split
  · exact State.deepEnter_keeps (hw.m rfl) h1
  · refine keeps_ite (State.countAt_keeps (hw.m rfl) h1) ?_
    extract_lets -underBinder -merge +onlyGivenNames v7
    have k8 : Keeps ar z v7 := by
      unfold v7
      split
      · rename_i v9 v10 v11 v12 v13 e14
        exact State.queueFull_keeps (hw.m rfl) (State.deepEvict_keeps (hw.m rfl) h1)
      · exact h1
    clear_value v7
    extract_lets -underBinder -merge +onlyGivenNames v16
    have k17 : Keeps ar z v16 := State.evictFor_keeps (hw.m rfl) k8
    clear_value v16
    extract_lets -underBinder -merge +onlyGivenNames v18
    have k19 : Keeps ar z v18 := State.modFrame_keeps (hw.m rfl) k17
    clear_value v18
    extract_lets -underBinder -merge +onlyGivenNames v20
    have k21 : Keeps ar z v20 := State.modSw_keeps (hw.m rfl) k19
    clear_value v20
    extract_lets -underBinder -merge +onlyGivenNames v22
    have k23 : Keeps ar z v22 := State.countAt_keeps (hw.m rfl) (State.setCells_keeps (hw.m rfl) k21)
    clear_value v22
    extract_lets -underBinder -merge +onlyGivenNames v24
    have k25 : Keeps ar z v24 := keeps_ite (State.setCells_keeps (hw.m rfl) k23) k23
    clear_value v24
    extract_lets -underBinder -merge +onlyGivenNames v26
    have k27 : Keeps ar z v26 := by
      unfold v26
      refine keeps_foldl ?_ k25
      intro v28 v29 k30
      extract_lets -underBinder -merge +onlyGivenNames v31
      clear_value v31
      extract_lets -underBinder -merge +onlyGivenNames v32
      have k33 : Keeps ar z v32 := State.enqueue_keeps (hw.m rfl) k30
      clear_value v32
      exact keeps_ite (State.countAt_keeps (hw.m rfl) k33) k33
    clear_value v26
    extract_lets -underBinder -merge +onlyGivenNames v34
    have k35 : Keeps ar z v34 := by
      unfold v34
      split
      · rename_i v36 v37
        exact State.enqueue_keeps (hw.m rfl) k27
      · rename_i v39
        exact k27
    clear_value v34
    split
    · exact keeps_ite (State.refill_keeps (hw.m rfl) (State.deepArrive_keeps (hw.m rfl) k35)) (State.modFrame_keeps
        (hw.m rfl) k35)
    · exact k35

theorem State.neighbourPorts_keeps {ar : List Area} (hw : Within [.ctrs, .sw] ar) {z a0 : State} {a1} {a2} (h1 :
    Keeps ar z a0) :
    Keeps ar z (State.neighbourPorts a0 a1 a2).1 := by
  unfold State.neighbourPorts
  extract_lets -underBinder -merge +onlyGivenNames v1
  clear_value v1
  refine keeps_ite1 (keeps_mk1 h1) ?_
  extract_lets -underBinder -merge +onlyGivenNames v2 v3
  clear_value v2 v3
  extract_lets -underBinder -merge +onlyGivenNames v4
  have k5 : Keeps ar z v4 := keeps_foldl (fun v6 v7 k8 => State.countAt_keeps (hw.m rfl) k8) h1
  clear_value v4
  extract_lets -underBinder -merge +onlyGivenNames v9
  clear_value v9
  exact keeps_mk1 k5

theorem State.admitRef_keeps {ar : List Area} (hw : Within (Area.telling [.chans, .eth, .buses, .sw]) ar) {z a0 :
    State} {a1} {a2} {a3} {a4} {a5} (h1 : Keeps ar z a0) :
    Keeps ar z (State.admitRef a0 a1 a2 a3 a4 a5) := by
  unfold State.admitRef
  refine keeps_ite h1 ?_
  extract_lets -underBinder -merge +onlyGivenNames v1 v2 v3 v4
  clear_value v1 v2 v3 v4
  extract_lets -underBinder -merge +onlyGivenNames v5
  have k6 : Keeps ar z v5 := keeps_foldl (fun v7 v8 k9 => State.countAt_keeps (hw.m rfl) k9) h1
  clear_value v5
  extract_lets -underBinder -merge +onlyGivenNames v10 v11 v12
  clear_value v10 v11 v12
  split
  rename_i v13 v14 v15 e16
  have k17 : Keeps ar z v14 := keeps_fst e16 (State.neighbourPorts_keeps (hw.m rfl) k6)
  split
  rename_i v18 v19 v20 e21
  have k22 : Keeps ar z v19 := keeps_fst e21 (State.neighbourPorts_keeps (hw.m rfl) k17)
  extract_lets -underBinder -merge +onlyGivenNames v23
  clear_value v23
  extract_lets -underBinder -merge +onlyGivenNames v24
  have k25 : Keeps ar z v24 := keeps_foldl (fun v26 v27 k28 => State.countAt_keeps (hw.m rfl) k28) k22
  clear_value v24
  exact State.admitTo_keeps (hw.m rfl) k25

theorem State.frameWhole_keeps {ar : List Area} (hw : Within (Area.telling [.eth, .sw]) ar) {z a0 : State} {a1} (h1 :
    Keeps ar z a0) :
    Keeps ar z (State.frameWhole a0 a1) := by
  unfold State.frameWhole
  extract_lets -underBinder -merge +onlyGivenNames v1
  clear_value v1
  extract_lets -underBinder -merge +onlyGivenNames v2
  have k3 : Keeps ar z v2 := State.modFrame_keeps (hw.m rfl) h1
  clear_value v2
  exact keeps_ite (State.setCells_keeps (hw.m rfl) k3) k3

theorem State.frameConfirm_keeps {ar : List Area} (hw : Within [.ctrs, .sw] ar) {z a0 : State} {a1} (h1 : Keeps ar z
    a0) :
    Keeps ar z (State.frameConfirm a0 a1) := by
  unfold State.frameConfirm
  extract_lets -underBinder -merge +onlyGivenNames v1
  clear_value v1
  extract_lets -underBinder -merge +onlyGivenNames v2
  have k3 : Keeps ar z v2 := State.modFrame_keeps (hw.m rfl) h1
  clear_value v2
  extract_lets -underBinder -merge +onlyGivenNames v4
  have k5 : Keeps ar z v4 := keeps_foldl (fun v6 v7 k8 => State.count_keeps (hw.m rfl) k8) k3
  clear_value v4
  exact State.retire_keeps (hw.m rfl) k5

theorem State.frameSpoil_keeps {ar : List Area} (hw : Within (Area.telling [.eth, .buses, .sw]) ar) {z a0 : State}
    {a1} (h1 : Keeps ar z a0) :
    Keeps ar z (State.frameSpoil a0 a1) := by
  unfold State.frameSpoil
  extract_lets -underBinder -merge +onlyGivenNames v1
  have k2 : Keeps ar z v1 := State.modFrame_keeps (hw.m rfl) h1
  clear_value v1
  extract_lets -underBinder -merge +onlyGivenNames v3
  have k4 : Keeps ar z v3 := keeps_foldl (fun v5 v6 k7 => State.portTake_keeps (hw.m rfl) k7 (fun v8 v9 k10 =>
    State.releaseRef_keeps (hw.m rfl) k10)) k2
  clear_value v3
  exact State.retire_keeps (hw.m rfl) (State.busTake_keeps (hw.m rfl) k4 (fun v11 k12 => State.releaseRef_keeps (hw.m
      rfl) k12))

theorem State.newFrame_keeps {ar : List Area} (hw : Within [.sw] ar) {z a0 : State} {a1} (h1 : Keeps ar z a0) :
    Keeps ar z (State.newFrame a0 a1).1 := by
  unfold State.newFrame
  extract_lets -underBinder -merge +onlyGivenNames v1
  clear_value v1
  exact keeps_mk1 (State.modSw_keeps (hw.m rfl) h1)

theorem State.ageQueue_keeps {ar : List Area} (hw : Within (Area.telling [.eth, .sw]) ar) {z a0 : State} {a1} {a2}
    {a3} (h1 : Keeps ar z a0) :
    Keeps ar z (State.ageQueue a0 a1 a2 a3) := by
  induction a3 generalizing a0
  · unfold State.ageQueue
    exact h1
  · rename_i w0 ih
    unfold State.ageQueue
    split
    · exact h1
    · refine keeps_ite ?_ h1
      extract_lets -underBinder -merge +onlyGivenNames v1
      have k2 : Keeps ar z v1 := State.modPort_keeps (hw.m rfl) h1
      clear_value v1
      exact ih (State.releaseRef_keeps (hw.m rfl) (State.countAt_keeps (hw.m rfl) k2))

theorem State.ageDeep_keeps {ar : List Area} (hw : Within (Area.telling [.eth, .buses, .sw]) ar) {z a0 : State} {a1}
    {a2} (h1 : Keeps ar z a0) :
    Keeps ar z (State.ageDeep a0 a1 a2) := by
  induction a2 generalizing a0
  · unfold State.ageDeep
    exact h1
  · rename_i w0 ih
    unfold State.ageDeep
    split
    · exact h1
    · exact keeps_ite (ih (State.busAged_keeps (hw.m rfl) (State.deepTake_keeps (hw.m rfl) h1))) h1

theorem State.flushPort_keeps {ar : List Area} (hw : Within (Area.telling [.eth, .sw]) ar) {z a0 : State} {a1} (h1 :
    Keeps ar z a0) :
    Keeps ar z (State.flushPort a0 a1).1 := by
  unfold State.flushPort
  refine keeps_foldl_fst ?_ (keeps_mk1 h1)
  intro v1 v2 k3
  extract_lets -underBinder -merge +onlyGivenNames v4
  clear_value v4
  extract_lets -underBinder -merge +onlyGivenNames v5
  have k6 : Keeps ar z v5 := State.modPort_keeps (hw.m rfl) k3
  clear_value v5
  exact keeps_mk1 (keeps_foldl (fun v7 v8 k9 => State.releaseRef_keeps (hw.m rfl) (State.countAt_keeps (hw.m rfl)
      k9)) k6)

theorem State.tqLevel_keeps {ar : List Area} (hw : Within (Area.telling [.tide]) ar) {z a0 : State} {a1} (h1 : Keeps
    ar z a0) :
    Keeps ar z (State.tqLevel a0 a1) := by
  unfold State.tqLevel
  extract_lets -underBinder -merge +onlyGivenNames v1
  clear_value v1
  exact keeps_ite h1 (keeps_ite (State.modTq_keeps (hw.m rfl) h1) (keeps_ite (State.raiseOf_keeps (hw.m rfl)
      (State.modTq_keeps (hw.m rfl) h1)) h1))

theorem State.ringAbandon_keeps {ar : List Area} (hw : Within [.ctrs, .tide] ar) {z a0 : State} {a1} {a2} (h1 : Keeps
    ar z a0) :
    Keeps ar z (State.ringAbandon a0 a1 a2) := by
  unfold State.ringAbandon
  refine keeps_foldl ?_ h1
  intro v1 v2 k3
  extract_lets -underBinder -merge +onlyGivenNames v4
  clear_value v4
  exact keeps_ite (State.count_keeps (hw.m rfl) (State.modRing_keeps (hw.m rfl) k3)) k3

theorem State.tqOverwrite_keeps {ar : List Area} (hw : Within (Area.telling [.tide]) ar) {z a0 : State} {a1} (h1 :
    Keeps ar z a0) :
    Keeps ar z (State.tqOverwrite a0 a1) := by
  unfold State.tqOverwrite
  extract_lets -underBinder -merge +onlyGivenNames v1
  clear_value v1
  split
  · exact h1
  · extract_lets -underBinder -merge +onlyGivenNames v2 v3 v4
    clear_value v2 v3 v4
    extract_lets -underBinder -merge +onlyGivenNames v5
    have k6 : Keeps ar z v5 := State.modTq_keeps (hw.m rfl) h1
    clear_value v5
    extract_lets -underBinder -merge +onlyGivenNames v7
    have k8 : Keeps ar z v7 := State.count_keeps (hw.m rfl) k6
    clear_value v7
    extract_lets -underBinder -merge +onlyGivenNames v9
    have k10 : Keeps ar z v9 := keeps_ite k8 (State.raiseOf_keeps (hw.m rfl) k8)
    clear_value v9
    exact State.ringAbandon_keeps (hw.m rfl) k10

theorem State.tqMakeRoom_keeps {ar : List Area} (hw : Within (Area.telling [.tide]) ar) {z a0 : State} {a1} {a2} {a3}
    (h1 : Keeps ar z a0) :
    Keeps ar z (State.tqMakeRoom a0 a1 a2 a3) := by
  induction a3 generalizing a0
  · unfold State.tqMakeRoom
    exact h1
  · rename_i w0 ih
    unfold State.tqMakeRoom
    extract_lets -underBinder -merge +onlyGivenNames v1
    clear_value v1
    exact keeps_ite h1 (keeps_ite h1 (ih (State.tqOverwrite_keeps (hw.m rfl) h1)))

theorem State.tqReleaseTo_keeps {ar : List Area} (hw : Within (Area.telling [.tide]) ar) {z a0 : State} {a1} {a2} (h1
    : Keeps ar z a0) :
    Keeps ar z (State.tqReleaseTo a0 a1 a2) := by
  unfold State.tqReleaseTo
  extract_lets -underBinder -merge +onlyGivenNames v1 v2
  clear_value v1 v2
  exact State.tqLevel_keeps (hw.m rfl) (State.modTq_keeps (hw.m rfl) h1)

theorem State.tqPosErr_keeps {ar : List Area} (hw : Within [.tide] ar) {z a0 : State} {a1} (h1 : Keeps ar z a0) :
    Keeps ar z (State.tqPosErr a0 a1) := by
  unfold State.tqPosErr
  exact State.modTq_keeps (hw.m rfl) h1

theorem State.tqMoveCur_keeps {ar : List Area} (hw : Within [.tide] ar) {z a0 : State} {a1} {a2} (h1 : Keeps ar z a0) :
    Keeps ar z (State.tqMoveCur a0 a1 a2) := by
  unfold State.tqMoveCur
  exact keeps_ite (State.modTq_keeps (hw.m rfl) h1) (State.tqPosErr_keeps (hw.m rfl) h1)

theorem State.tqMoveMark_keeps {ar : List Area} (hw : Within [.tide] ar) {z a0 : State} {a1} {a2} (h1 : Keeps ar z a0) :
    Keeps ar z (State.tqMoveMark a0 a1 a2) := by
  unfold State.tqMoveMark
  exact keeps_ite (State.modTq_keeps (hw.m rfl) h1) (State.tqPosErr_keeps (hw.m rfl) h1)

theorem State.tqRelease_keeps {ar : List Area} (hw : Within (Area.telling [.tide]) ar) {z a0 : State} {a1} {a2} (h1 :
    Keeps ar z a0) :
    Keeps ar z (State.tqRelease a0 a1 a2) := by
  unfold State.tqRelease
  extract_lets -underBinder -merge +onlyGivenNames v1
  clear_value v1
  exact keeps_ite h1 (keeps_ite (State.tqReleaseTo_keeps (hw.m rfl) h1) (State.tqPosErr_keeps (hw.m rfl) h1))

theorem State.tqToMark_keeps {ar : List Area} (hw : Within [.tide] ar) {z a0 : State} {a1} (h1 : Keeps ar z a0) :
    Keeps ar z (State.tqToMark a0 a1) := by
  unfold State.tqToMark
  exact keeps_ite (State.modTq_keeps (hw.m rfl) h1) (State.tqPosErr_keeps (hw.m rfl) h1)

theorem State.tqPosition_keeps {ar : List Area} (hw : Within (Area.telling [.tide]) ar) {z a0 : State} {a1} {a2} {a3}
    (h1 : Keeps ar z a0) :
    Keeps ar z (State.tqPosition a0 a1 a2 a3) := by
  unfold State.tqPosition
  exact keeps_ite (State.tqMoveCur_keeps (hw.m rfl) h1) (keeps_ite (State.tqMoveMark_keeps (hw.m rfl) h1) (keeps_ite
      (State.tqRelease_keeps (hw.m rfl)
    h1) (keeps_ite (State.tqToMark_keeps (hw.m rfl) h1) (State.modTq_keeps (hw.m rfl) h1))))

theorem State.tqWrite_keeps {ar : List Area} (hw : Within (Area.telling [.tide]) ar) {z a0 : State} {a1} {a2} {a3}
    (h1 : Keeps ar z a0) :
    Keeps ar z (State.tqWrite a0 a1 a2 a3) := by
  unfold State.tqWrite
  exact State.tqPosition_keeps (hw.m rfl) (State.modTq_keeps (hw.m rfl) h1)

theorem State.tqRedo_keeps {ar : List Area} (hw : Within (Area.telling [.tide]) ar) {z a0 : State} {a1} {a2} (h1 :
    Keeps ar z a0) :
    Keeps ar z (State.tqRedo a0 a1 a2) := by
  unfold State.tqRedo
  exact State.tqLevel_keeps (hw.m rfl) (keeps_foldl (fun v1 v2 k3 => State.tqWrite_keeps (hw.m rfl) k3) h1)

theorem State.tqTake_keeps {ar : List Area} (hw : Within (Area.telling [.tide]) ar) {z a0 : State} {a1} {a2} {a3} (h1
    : Keeps ar z a0) :
    Keeps ar z (State.tqTake a0 a1 a2 a3).1 := by
  unfold State.tqTake
  refine keeps_ite1 (keeps_mk1 h1) ?_
  refine keeps_ite1 (keeps_mk1 (State.count_keeps (hw.m rfl) h1)) ?_
  extract_lets -underBinder -merge +onlyGivenNames v1 v2
  clear_value v1 v2
  refine keeps_ite1 ?_ ?_
  · extract_lets -underBinder -merge +onlyGivenNames v3
    have k4 : Keeps ar z v3 := State.tqMakeRoom_keeps (hw.m rfl) h1
    clear_value v3
    exact keeps_mk1 (State.count_keeps (hw.m rfl) k4)
  · extract_lets -underBinder -merge +onlyGivenNames v5
    have k6 : Keeps ar z v5 := State.tqMakeRoom_keeps (hw.m rfl) h1
    clear_value v5
    exact keeps_ite1 (keeps_mk1 (State.modTq_keeps (hw.m rfl) k6)) (keeps_mk1 (State.count_keeps (hw.m rfl) k6))

theorem State.tqAppend_keeps {ar : List Area} (hw : Within [.ctrs, .tide] ar) {z a0 : State} {a1} {a2} {a3} (h1 :
    Keeps ar z a0) :
    Keeps ar z (State.tqAppend a0 a1 a2 a3) := by
  unfold State.tqAppend
  extract_lets -underBinder -merge +onlyGivenNames v1
  clear_value v1
  refine keeps_ite ?_ h1
  extract_lets -underBinder -merge +onlyGivenNames v2
  clear_value v2
  extract_lets -underBinder -merge +onlyGivenNames v3
  have k4 : Keeps ar z v3 := State.modTq_keeps (hw.m rfl) h1
  clear_value v3
  exact State.count_keeps (hw.m rfl) (State.count_keeps (hw.m rfl) k4)

theorem State.tqOpen_keeps {ar : List Area} (hw : Within (Area.telling [.tide]) ar) {z a0 : State} {a1} {a2} {a3} (h1
    : Keeps ar z a0) :
    Keeps ar z (State.tqOpen a0 a1 a2 a3).1 := by
  unfold State.tqOpen
  extract_lets -underBinder -merge +onlyGivenNames v1
  clear_value v1
  split
  rename_i v2 v3 v4 e5
  have k6 : Keeps ar z v3 := keeps_fst e5 (State.tqTake_keeps (hw.m rfl) (State.modTq_keeps (hw.m rfl) h1))
  exact keeps_mk1 (State.tqRedo_keeps (hw.m rfl) k6)

theorem State.tqCommit_keeps {ar : List Area} (hw : Within (Area.telling [.tide]) ar) {z a0 : State} {a1} {a2} {a3}
    (h1 : Keeps ar z a0) :
    Keeps ar z (State.tqCommit a0 a1 a2 a3) := by
  unfold State.tqCommit
  extract_lets -underBinder -merge +onlyGivenNames v1
  clear_value v1
  exact State.tqRedo_keeps (hw.m rfl) (State.tqAppend_keeps (hw.m rfl) (State.modTq_keeps (hw.m rfl) h1))

theorem State.tqRewind_keeps {ar : List Area} (hw : Within [.ctrs, .tide] ar) {z a0 : State} {a1} {a2} (h1 : Keeps ar
    z a0) :
    Keeps ar z (State.tqRewind a0 a1 a2) := by
  unfold State.tqRewind
  exact keeps_ite (State.count_keeps (hw.m rfl) (State.modTq_keeps (hw.m rfl) h1)) h1

theorem State.tqPut_keeps {ar : List Area} (hw : Within (Area.telling [.tide]) ar) {z a0 : State} {a1} {a2} {a3} (h1
    : Keeps ar z a0) :
    Keeps ar z (State.tqPut a0 a1 a2 a3).1 := by
  unfold State.tqPut
  extract_lets -underBinder -merge +onlyGivenNames v1
  clear_value v1
  split
  · rename_i v2 v3 e4
    have k5 : Keeps ar z v3 := keeps_fst e4 (State.tqTake_keeps (hw.m rfl) (State.modTq_keeps (hw.m rfl) h1))
    exact keeps_mk1 (State.tqRedo_keeps (hw.m rfl) (State.tqAppend_keeps (hw.m rfl) k5))
  · rename_i v6 v7 v8 e9 e10
    have k11 : Keeps ar z v7 := keeps_fst e10 (State.tqTake_keeps (hw.m rfl) (State.modTq_keeps (hw.m rfl) h1))
    exact keeps_mk1 (State.tqRedo_keeps (hw.m rfl) k11)

theorem State.tqGuard_keeps {ar : List Area} (hw : Within [.tide] ar) {z a0 : State} {a1} {a2} (h1 : Keeps ar z a0)
    (h3 : ∀ x0, Keeps ar z x0 → Keeps ar z (a2 x0)) :
    Keeps ar z (State.tqGuard a0 a1 a2) := by
  unfold State.tqGuard
  exact keeps_ite h1 (keeps_ite (State.tqPosErr_keeps (hw.m rfl) h1) (h3 _ h1))

theorem State.tqWriteCur_keeps {ar : List Area} (hw : Within (Area.telling [.tide]) ar) {z a0 : State} {a1} {a2} (h1
    : Keeps ar z a0) :
    Keeps ar z (State.tqWriteCur a0 a1 a2) := by
  unfold State.tqWriteCur
  exact State.tqGuard_keeps (hw.m rfl) h1 (fun v1 k2 => State.tqWrite_keeps (hw.m rfl) k2)

theorem State.tqWriteMark_keeps {ar : List Area} (hw : Within (Area.telling [.tide]) ar) {z a0 : State} {a1} {a2} (h1
    : Keeps ar z a0) :
    Keeps ar z (State.tqWriteMark a0 a1 a2) := by
  unfold State.tqWriteMark
  exact State.tqGuard_keeps (hw.m rfl) h1 (fun v1 k2 => State.tqWrite_keeps (hw.m rfl) k2)

theorem State.tqWriteRelease_keeps {ar : List Area} (hw : Within (Area.telling [.tide]) ar) {z a0 : State} {a1} {a2}
    (h1 : Keeps ar z a0) :
    Keeps ar z (State.tqWriteRelease a0 a1 a2) := by
  unfold State.tqWriteRelease
  exact State.tqGuard_keeps (hw.m rfl) h1 (fun v1 k2 => State.tqLevel_keeps (hw.m rfl) (State.tqWrite_keeps (hw.m rfl) k2))

theorem State.tqRewindCur_keeps {ar : List Area} (hw : Within (Area.telling [.tide]) ar) {z a0 : State} {a1} (h1 :
    Keeps ar z a0) :
    Keeps ar z (State.tqRewindCur a0 a1) := by
  unfold State.tqRewindCur
  exact State.tqGuard_keeps (hw.m rfl) h1 (fun v1 k2 => State.tqWrite_keeps (hw.m rfl) k2)

theorem State.tqClearMark_keeps {ar : List Area} (hw : Within (Area.telling [.tide]) ar) {z a0 : State} {a1} (h1 :
    Keeps ar z a0) :
    Keeps ar z (State.tqClearMark a0 a1) := by
  unfold State.tqClearMark
  exact State.tqGuard_keeps (hw.m rfl) h1 (fun v1 k2 => State.tqWrite_keeps (hw.m rfl) k2)

theorem State.tqWriteStatus_keeps {ar : List Area} (hw : Within [.tide] ar) {z a0 : State} {a1} {a2} (h1 : Keeps ar z
    a0) :
    Keeps ar z (State.tqWriteStatus a0 a1 a2) := by
  unfold State.tqWriteStatus
  exact keeps_ite h1 (State.modTq_keeps (hw.m rfl) h1)

theorem State.tqReset_keeps {ar : List Area} (hw : Within (Area.telling [.tide]) ar) {z a0 : State} {a1} (h1 : Keeps
    ar z a0) :
    Keeps ar z (State.tqReset a0 a1).1 := by
  unfold State.tqReset
  extract_lets -underBinder -merge +onlyGivenNames v1
  clear_value v1
  extract_lets -underBinder -merge +onlyGivenNames v2
  have k3 : Keeps ar z v2 := State.modTq_keeps (hw.m rfl) h1
  clear_value v2
  exact keeps_mk1 (State.tqLevel_keeps (hw.m rfl) (State.count_keeps (hw.m rfl) k3))

theorem State.tideQueuesRestart_keeps {ar : List Area} (hw : Within [.ctrs, .tide] ar) {z a0 : State} (h1 : Keeps ar
    z a0) :
    Keeps ar z (State.tideQueuesRestart a0) := by
  unfold State.tideQueuesRestart
  exact keeps_foldl (fun v1 v2 k3 => State.modTq_keeps (hw.m rfl) (State.count_keeps (hw.m rfl) (State.count_keeps
      (hw.m rfl) k3))) h1

theorem State.ringsRestart_keeps {ar : List Area} (hw : Within [.tide] ar) {z a0 : State} (h1 : Keeps ar z a0) :
    Keeps ar z (State.ringsRestart a0) := by
  unfold State.ringsRestart
  exact keeps_foldl (fun v1 v2 k3 => State.modRing_keeps (hw.m rfl) k3) h1

theorem State.tqEcc_keeps {ar : List Area} (hw : Within (Area.telling [.tide]) ar) {z a0 : State} {a1} {a2} {a3} (h1
    : Keeps ar z a0) :
    Keeps ar z (State.tqEcc a0 a1 a2 a3) := by
  unfold State.tqEcc
  extract_lets -underBinder -merge +onlyGivenNames v1
  have k2 : Keeps ar z v1 := keeps_ite h1 (State.count_keeps (hw.m rfl) h1)
  clear_value v1
  exact keeps_ite k2 (State.raiseOf_keeps (hw.m rfl) (State.modTq_keeps (hw.m rfl) (State.count_keeps (hw.m rfl) k2)))

theorem execTqCurWrite_keeps {ar : List Area} (hw : Within (Area.telling [.tide]) ar) {z : State} {t : Nat} {a1} {a2}
    {s : State} (h : Keeps ar z (s.tick t)) :
    NextKeeps ar z (execTqCurWrite t a1 a2 s) := by
  unfold execTqCurWrite
  exact keeps_next (State.hostWrites_keeps h (fun v1 k2 => State.tqWriteCur_keeps (hw.m rfl) k2))

theorem execTqMarkWrite_keeps {ar : List Area} (hw : Within (Area.telling [.tide]) ar) {z : State} {t : Nat} {a1}
    {a2} {s : State} (h : Keeps ar z (s.tick t)) :
    NextKeeps ar z (execTqMarkWrite t a1 a2 s) := by
  unfold execTqMarkWrite
  exact keeps_next (State.hostWrites_keeps h (fun v1 k2 => State.tqWriteMark_keeps (hw.m rfl) k2))

theorem execTqReleaseWrite_keeps {ar : List Area} (hw : Within (Area.telling [.tide]) ar) {z : State} {t : Nat} {a1}
    {a2} {s : State} (h : Keeps ar z (s.tick t)) :
    NextKeeps ar z (execTqReleaseWrite t a1 a2 s) := by
  unfold execTqReleaseWrite
  exact keeps_next (State.hostWrites_keeps h (fun v1 k2 => State.tqWriteRelease_keeps (hw.m rfl) k2))

theorem execTqClearMark_keeps {ar : List Area} (hw : Within (Area.telling [.tide]) ar) {z : State} {t : Nat} {a1} {s
    : State} (h : Keeps ar z (s.tick t)) :
    NextKeeps ar z (execTqClearMark t a1 s) := by
  unfold execTqClearMark
  exact keeps_next (State.hostWrites_keeps h (fun v1 k2 => State.tqClearMark_keeps (hw.m rfl) k2))

theorem execTqRewind_keeps {ar : List Area} (hw : Within (Area.telling [.tide]) ar) {z : State} {t : Nat} {a1} {s :
    State} (h : Keeps ar z (s.tick t)) :
    NextKeeps ar z (execTqRewind t a1 s) := by
  unfold execTqRewind
  exact keeps_next (State.hostWrites_keeps h (fun v1 k2 => State.tqRewindCur_keeps (hw.m rfl) k2))

theorem effectTideQueueConfig_keeps {ar : List Area} (hw : Within [.tide] ar) {z a0 : State} {a1} (h1 : Keeps ar z a0) :
    Keeps ar z (effectTideQueueConfig a0 a1).1 := by
  unfold effectTideQueueConfig
  exact keeps_mk1 (State.modTq_keeps (hw.m rfl) h1)

theorem execTideQueueConfig_keeps {ar : List Area} (hw : Within (Area.telling [.windows, .mbx, .tide, .cw, .boot])
    ar) {z : State} {t : Nat} {a1} {s : State} (h : Keeps ar z (s.tick t)) :
    NextKeeps ar z (execTideQueueConfig t a1 s) := by
  unfold execTideQueueConfig
  exact keeps_next (State.simple_keeps (hw.m rfl) h (fun v1 v2 k3 => effectTideQueueConfig_keeps (hw.m rfl) k3))

theorem effectTideQueueReset_keeps {ar : List Area} (hw : Within (Area.telling [.tide]) ar) {z a0 : State} {a1} (h1 :
    Keeps ar z a0) :
    Keeps ar z (effectTideQueueReset a0 a1).1 := by
  unfold effectTideQueueReset
  split
  rename_i v1 v2 v3 e4
  have k5 : Keeps ar z v2 := keeps_fst e4 (State.tqReset_keeps (hw.m rfl) h1)
  exact keeps_mk1 k5

theorem execTideQueueReset_keeps {ar : List Area} (hw : Within (Area.telling [.windows, .mbx, .tide, .cw, .boot]) ar)
    {z : State} {t : Nat} {a1} {s : State} (h : Keeps ar z (s.tick t)) :
    NextKeeps ar z (execTideQueueReset t a1 s) := by
  unfold execTideQueueReset
  exact keeps_next (State.simple_keeps (hw.m rfl) h (fun v1 v2 k3 => effectTideQueueReset_keeps (hw.m rfl) k3))

end Sys2Proof.Machine
end

