-- ==== Sys2Proof/Laws/KeepsCipher.lean ====
section
/-! SUPPORT. What the operations of Cipher, Signal, TableOps, Neighbour keep, and which areas they may move. -/

set_option Elab.async false

namespace Sys2Proof.Machine

open Sys2Proof

theorem State.jobEnd_keeps {ar : List Area} (hw : Within [.ctrs, .sec] ar) {z a0 : State} {a1} {a2} {a3} (h1 : Keeps
    ar z a0) :
    Keeps ar z (State.jobEnd a0 a1 a2 a3) := by
  unfold State.jobEnd
  extract_lets -underBinder -merge +onlyGivenNames v1
  clear_value v1
  extract_lets -underBinder -merge +onlyGivenNames v2
  have k3 : Keeps ar z v2 := State.modEngine_keeps (hw.m rfl) h1
  clear_value v2
  exact State.count_keeps (hw.m rfl) (State.count_keeps (hw.m rfl) (State.count_keeps (hw.m rfl) k3))

theorem State.engineRelease_keeps {ar : List Area} (hw : Within [.ctrs, .sec] ar) {z a0 : State} {a1} (h1 : Keeps ar
    z a0) :
    Keeps ar z (State.engineRelease a0 a1) := by
  unfold State.engineRelease
  extract_lets -underBinder -merge +onlyGivenNames v1
  have k2 : Keeps ar z v1 := keeps_ite (State.jobEnd_keeps (hw.m rfl) h1) h1
  clear_value v1
  exact State.modEngine_keeps (hw.m rfl) k2

theorem State.engineTake_keeps {ar : List Area} (hw : Within [.sec] ar) {z a0 : State} {a1} {a2} (h1 : Keeps ar z a0) :
    Keeps ar z (State.engineTake a0 a1 a2) := by
  unfold State.engineTake
  exact State.modEngine_keeps (hw.m rfl) h1

theorem State.ciphLock_keeps {ar : List Area} (hw : Within [.ctrs, .sec] ar) {z a0 : State} {a1} {a2} (h1 : Keeps ar
    z a0) :
    Keeps ar z (State.ciphLock a0 a1 a2) := by
  unfold State.ciphLock
  refine keeps_ite h1 ?_
  extract_lets -underBinder -merge +onlyGivenNames v1 v2
  clear_value v1 v2
  extract_lets -underBinder -merge +onlyGivenNames v3
  have k4 : Keeps ar z v3 := State.modEngine_keeps (hw.m rfl) h1
  clear_value v3
  exact keeps_ite (keeps_ite (State.modEngine_keeps (hw.m rfl) k4) k4) (keeps_ite (keeps_ite
      (State.engineRelease_keeps (hw.m rfl) k4)
    (keeps_ite k4 (State.modEngine_keeps (hw.m rfl) k4))) k4)

theorem State.keyFail_keeps {ar : List Area} (hw : Within (Area.telling [.sec]) ar) {z a0 : State} {a1} {a2} (h1 :
    Keeps ar z a0) :
    Keeps ar z (State.keyFail a0 a1 a2) := by
  unfold State.keyFail
  extract_lets -underBinder -merge +onlyGivenNames v1
  have k2 : Keeps ar z v1 := State.count_keeps (hw.m rfl) h1
  clear_value v1
  extract_lets -underBinder -merge +onlyGivenNames v3
  clear_value v3
  exact keeps_ite k2 (State.raiseOf_keeps (hw.m rfl) (State.modKeySlot_keeps (hw.m rfl) k2))

theorem State.keyUse_keeps {ar : List Area} (hw : Within (Area.telling [.sec]) ar) {z a0 : State} {a1} (h1 : Keeps ar
    z a0) :
    Keeps ar z (State.keyUse a0 a1) := by
  unfold State.keyUse
  extract_lets -underBinder -merge +onlyGivenNames v1
  have k2 : Keeps ar z v1 := State.modKeySlot_keeps (hw.m rfl) h1
  clear_value v1
  extract_lets -underBinder -merge +onlyGivenNames v3
  clear_value v3
  exact keeps_ite (State.raiseOf_keeps (hw.m rfl) (State.count_keeps (hw.m rfl) k2)) k2

theorem State.keyLoad_keeps {ar : List Area} (hw : Within (Area.telling [.sec]) ar) {z a0 : State} {a1} {a2} (h1 :
    Keeps ar z a0) :
    Keeps ar z (State.keyLoad a0 a1 a2) := by
  unfold State.keyLoad
  extract_lets -underBinder -merge +onlyGivenNames v1
  have k2 : Keeps ar z v1 := State.keyUse_keeps (hw.m rfl) h1
  clear_value v1
  exact State.count_keeps (hw.m rfl) (State.modEngine_keeps (hw.m rfl) k2)

theorem State.keyEmpty_keeps {ar : List Area} (hw : Within [.sec] ar) {z a0 : State} {a1} (h1 : Keeps ar z a0) :
    Keeps ar z (State.keyEmpty a0 a1) := by
  unfold State.keyEmpty
  extract_lets -underBinder -merge +onlyGivenNames v1
  have k2 : Keeps ar z v1 := keeps_foldl (fun v3 v4 k5 => State.modKeySlot_keeps (hw.m rfl) k5) h1
  clear_value v1
  refine keeps_foldl ?_ k2
  intro v6 v7 k8
  split
  · exact keeps_ite (State.modEngine_keeps (hw.m rfl) k8) k8
  · exact k8

theorem State.keyRevoke_keeps {ar : List Area} (hw : Within (Area.telling [.sec]) ar) {z a0 : State} {a1} (h1 : Keeps
    ar z a0) :
    Keeps ar z (State.keyRevoke a0 a1).1 := by
  unfold State.keyRevoke
  extract_lets -underBinder -merge +onlyGivenNames v1
  clear_value v1
  extract_lets -underBinder -merge +onlyGivenNames v2
  have k3 : Keeps ar z v2 := State.count_keeps (hw.m rfl) (State.keyEmpty_keeps (hw.m rfl) h1)
  clear_value v2
  exact keeps_mk1 (State.raiseOf_keeps (hw.m rfl) k3)

theorem State.keyWipeHost_keeps {ar : List Area} (hw : Within (Area.telling [.sec]) ar) {z a0 : State} (h1 : Keeps ar
    z a0) :
    Keeps ar z (State.keyWipeHost a0) := by
  unfold State.keyWipeHost
  extract_lets -underBinder -merge +onlyGivenNames v1
  clear_value v1
  extract_lets -underBinder -merge +onlyGivenNames v2
  have k3 : Keeps ar z v2 := State.count_keeps (hw.m rfl) (State.keyEmpty_keeps (hw.m rfl) h1)
  clear_value v2
  exact State.raiseOf_keeps (hw.m rfl) k3

theorem State.keyRoot_keeps {ar : List Area} (hw : Within [.sec] ar) {z a0 : State} (h1 : Keeps ar z a0) :
    Keeps ar z (State.keyRoot a0) := by
  unfold State.keyRoot
  extract_lets -underBinder -merge +onlyGivenNames v1
  have k2 : Keeps ar z v1 := State.modKeySlot_keeps (hw.m rfl) h1
  clear_value v1
  exact State.modKeySlot_keeps (hw.m rfl) k2

theorem State.keyRecreateOne_keeps {ar : List Area} (hw : Within [.sec] ar) {z a0 : State} {a1} (h1 : Keeps ar z a0) :
    Keeps ar z (State.keyRecreateOne a0 a1) := by
  unfold State.keyRecreateOne
  extract_lets -underBinder -merge +onlyGivenNames v1
  clear_value v1
  split
  · exact State.modKeySlot_keeps (hw.m rfl) h1
  · extract_lets -underBinder -merge +onlyGivenNames v2
    clear_value v2
    exact State.modKeySlot_keeps (hw.m rfl) h1

theorem State.keyRecreate_keeps {ar : List Area} (hw : Within (Area.telling [.sec]) ar) {z a0 : State} (h1 : Keeps ar
    z a0) :
    Keeps ar z (State.keyRecreate a0) := by
  unfold State.keyRecreate
  extract_lets -underBinder -merge +onlyGivenNames v1
  have k2 : Keeps ar z v1 := keeps_ite (State.modSec_keeps (hw.m rfl) (State.count_keeps (hw.m rfl)
      (State.keyWipeHost_keeps (hw.m rfl) h1))) h1
  clear_value v1
  refine keeps_foldl ?_ k2
  intro v3 v4 k5
  refine keeps_foldl ?_ k5
  intro v6 v7 k8
  split
  · exact keeps_ite (State.keyRecreateOne_keeps (hw.m rfl) k8) k8
  · exact keeps_ite (State.keyRecreateOne_keeps (hw.m rfl) k8) k8

theorem State.securityReset_keeps {ar : List Area} (hw : Within [.ctrs, .sec] ar) {z a0 : State} (h1 : Keeps ar z a0) :
    Keeps ar z (State.securityReset a0) := by
  unfold State.securityReset
  extract_lets -underBinder -merge +onlyGivenNames v1
  have k2 : Keeps ar z v1 := keeps_foldl (fun v3 v4 k5 => State.engineRelease_keeps (hw.m rfl) k5) h1
  clear_value v1
  extract_lets -underBinder -merge +onlyGivenNames v6
  have k7 : Keeps ar z v6 := keeps_foldl (fun v8 v9 k10 => State.modEngine_keeps (hw.m rfl) k10) k2
  clear_value v6
  exact keeps_foldl (fun v11 v12 k13 => State.modKeySlot_keeps (hw.m rfl) k13) k7

theorem State.ciphStart_keeps {ar : List Area} (hw : Within (Area.telling [.sec]) ar) {z a0 : State} {a1} (h1 : Keeps
    ar z a0) :
    Keeps ar z (State.ciphStart a0 a1) := by
  unfold State.ciphStart
  extract_lets -underBinder -merge +onlyGivenNames v1
  clear_value v1
  refine keeps_ite h1 ?_
  extract_lets -underBinder -merge +onlyGivenNames v2
  have k3 : Keeps ar z v2 := State.modEngine_keeps (hw.m rfl) h1
  clear_value v2
  refine keeps_ite (State.modEngine_keeps (hw.m rfl) k3) ?_
  extract_lets -underBinder -merge +onlyGivenNames v4
  have k5 : Keeps ar z v4 := State.modEngine_keeps (hw.m rfl) k3
  clear_value v4
  extract_lets -underBinder -merge +onlyGivenNames v6
  clear_value v6
  exact keeps_ite (State.jobEnd_keeps (hw.m rfl) k5) (keeps_ite (State.jobEnd_keeps (hw.m rfl) k5) (keeps_ite (keeps_ite
    (State.modEngine_keeps (hw.m rfl) k5) (State.jobEnd_keeps (hw.m rfl) k5)) (keeps_ite (State.modEngine_keeps (hw.m
        rfl) (State.keyLoad_keeps (hw.m rfl) k5))
    (State.jobEnd_keeps (hw.m rfl) (State.keyFail_keeps (hw.m rfl) k5)))))

theorem State.ciphCancel_keeps {ar : List Area} (hw : Within [.ctrs, .sec] ar) {z a0 : State} {a1} (h1 : Keeps ar z
    a0) :
    Keeps ar z (State.ciphCancel a0 a1) := by
  unfold State.ciphCancel
  extract_lets -underBinder -merge +onlyGivenNames v1
  clear_value v1
  exact keeps_ite h1 (keeps_ite (State.modEngine_keeps (hw.m rfl) (State.jobEnd_keeps (hw.m rfl) h1))
      (State.modEngine_keeps (hw.m rfl) h1))

theorem State.ciphIn_keeps {ar : List Area} (hw : Within [.ctrs, .sec] ar) {z a0 : State} {a1} {a2} (h1 : Keeps ar z
    a0) :
    Keeps ar z (State.ciphIn a0 a1 a2) := by
  unfold State.ciphIn
  extract_lets -underBinder -merge +onlyGivenNames v1
  clear_value v1
  refine keeps_ite h1 ?_
  extract_lets -underBinder -merge +onlyGivenNames v2
  have k3 : Keeps ar z v2 := State.modEngine_keeps (hw.m rfl) h1
  clear_value v2
  extract_lets -underBinder -merge +onlyGivenNames v4
  clear_value v4
  exact keeps_ite (State.modEngine_keeps (hw.m rfl) k3) (keeps_ite (State.modEngine_keeps (hw.m rfl) k3) (keeps_ite
      (State.modEngine_keeps (hw.m rfl)
    (State.jobEnd_keeps (hw.m rfl) k3)) (keeps_ite (State.modEngine_keeps (hw.m rfl) k3) (State.modEngine_keeps (hw.m
        rfl) k3))))

theorem State.ciphOutRel_keeps {ar : List Area} (hw : Within [.sec] ar) {z a0 : State} {a1} {a2} (h1 : Keeps ar z a0) :
    Keeps ar z (State.ciphOutRel a0 a1 a2) := by
  unfold State.ciphOutRel
  extract_lets -underBinder -merge +onlyGivenNames v1
  clear_value v1
  refine keeps_ite h1 ?_
  extract_lets -underBinder -merge +onlyGivenNames v2
  have k3 : Keeps ar z v2 := State.modEngine_keeps (hw.m rfl) h1
  clear_value v2
  exact keeps_ite (State.modEngine_keeps (hw.m rfl) k3) (State.modEngine_keeps (hw.m rfl) k3)

theorem State.ciphDone_keeps {ar : List Area} (hw : Within (Area.telling [.sec]) ar) {z a0 : State} {a1} (h1 : Keeps
    ar z a0) :
    Keeps ar z (State.ciphDone a0 a1) := by
  unfold State.ciphDone
  extract_lets -underBinder -merge +onlyGivenNames v1
  clear_value v1
  refine keeps_ite ?_ h1
  split
  extract_lets -underBinder -merge +onlyGivenNames v2
  clear_value v2
  extract_lets -underBinder -merge +onlyGivenNames v3
  have k4 : Keeps ar z v3 := State.modEngine_keeps (hw.m rfl) h1
  clear_value v3
  extract_lets -underBinder -merge +onlyGivenNames v5
  have k6 : Keeps ar z v5 := State.jobEnd_keeps (hw.m rfl) k4
  clear_value v5
  extract_lets -underBinder -merge +onlyGivenNames v7
  have k8 : Keeps ar z v7 := keeps_ite (State.count_keeps (hw.m rfl) k6) k6
  clear_value v7
  extract_lets -underBinder -merge +onlyGivenNames v9
  have k10 : Keeps ar z v9 := State.count_keeps (hw.m rfl) k8
  clear_value v9
  extract_lets -underBinder -merge +onlyGivenNames v11
  have k12 : Keeps ar z v11 := keeps_ite k8 (keeps_ite k10 (State.count_keeps (hw.m rfl) k10))
  clear_value v11
  extract_lets -underBinder -merge +onlyGivenNames v13
  have k14 : Keeps ar z v13 := State.modEngine_keeps (hw.m rfl) k12
  clear_value v13
  extract_lets -underBinder -merge +onlyGivenNames v15
  have k16 : Keeps ar z v15 := State.raiseOf_keeps (hw.m rfl) k14
  clear_value v15
  exact keeps_ite k16 (State.raiseOf_keeps (hw.m rfl) k16)

theorem State.ciphWrite_keeps {ar : List Area} (hw : Within (Area.telling [.sec]) ar) {z a0 : State} {a1} {a2} {a3}
    (h1 : Keeps ar z a0) :
    Keeps ar z (State.ciphWrite a0 a1 a2 a3) := by
  unfold State.ciphWrite
  extract_lets -underBinder -merge +onlyGivenNames v1
  clear_value v1
  refine keeps_ite (State.ciphLock_keeps (hw.m rfl) h1) ?_
  refine keeps_ite h1 ?_
  extract_lets -underBinder -merge +onlyGivenNames v2
  have k3 : Keeps ar z v2 := State.modEngine_keeps (hw.m rfl) h1
  clear_value v2
  refine keeps_ite k3 ?_
  refine keeps_ite (keeps_ite (State.modEngine_keeps (hw.m rfl) k3) k3) ?_
  refine keeps_ite (State.modEngine_keeps (hw.m rfl) k3) ?_
  refine keeps_ite (State.modEngine_keeps (hw.m rfl) k3) ?_
  refine keeps_ite (State.modEngine_keeps (hw.m rfl) k3) ?_
  refine keeps_ite (State.modEngine_keeps (hw.m rfl) k3) ?_
  refine keeps_ite ?_ (keeps_ite (State.modEngine_keeps (hw.m rfl) k3) (keeps_ite (State.modEngine_keeps (hw.m rfl)
      k3) (keeps_ite
    (State.ciphOutRel_keeps (hw.m rfl) k3) (keeps_ite (State.modEngine_keeps (hw.m rfl) k3) (keeps_ite
        (State.modEngine_keeps (hw.m rfl) k3)
    (keeps_ite (State.modEngine_keeps (hw.m rfl) k3) (keeps_ite (State.ciphIn_keeps (hw.m rfl) k3) k3)))))))
  extract_lets -underBinder -merge +onlyGivenNames v4
  have k5 : Keeps ar z v4 := keeps_ite (State.ciphCancel_keeps (hw.m rfl) k3) k3
  clear_value v4
  exact keeps_ite (State.ciphStart_keeps (hw.m rfl) k5) k5

theorem execCiphLockWrite_keeps {ar : List Area} (hw : Within [.ctrs, .sec] ar) {z : State} {t : Nat} {a1} {a2} {s :
    State} (h : Keeps ar z (s.tick t)) :
    NextKeeps ar z (execCiphLockWrite t a1 a2 s) := by
  unfold execCiphLockWrite
  exact keeps_next (State.hostWrites_keeps h (fun v1 k2 => State.ciphLock_keeps (hw.m rfl) k2))

theorem execCiphStart_keeps {ar : List Area} (hw : Within (Area.telling [.sec]) ar) {z : State} {t : Nat} {a1} {s :
    State} (h : Keeps ar z (s.tick t)) :
    NextKeeps ar z (execCiphStart t a1 s) := by
  unfold execCiphStart
  exact keeps_next (State.hostWrites_keeps h (fun v1 k2 => State.ciphStart_keeps (hw.m rfl) k2))

theorem execCiphCancel_keeps {ar : List Area} (hw : Within [.ctrs, .sec] ar) {z : State} {t : Nat} {a1} {s : State}
    (h : Keeps ar z (s.tick t)) :
    NextKeeps ar z (execCiphCancel t a1 s) := by
  unfold execCiphCancel
  exact keeps_next (State.hostWrites_keeps h (fun v1 k2 => State.ciphCancel_keeps (hw.m rfl) k2))

theorem execCiphInWrite_keeps {ar : List Area} (hw : Within [.ctrs, .sec] ar) {z : State} {t : Nat} {a1} {a2} {s :
    State} (h : Keeps ar z (s.tick t)) :
    NextKeeps ar z (execCiphInWrite t a1 a2 s) := by
  unfold execCiphInWrite
  exact keeps_next (State.hostWrites_keeps h (fun v1 k2 => State.ciphIn_keeps (hw.m rfl) k2))

theorem execCiphOutRelWrite_keeps {ar : List Area} (hw : Within [.sec] ar) {z : State} {t : Nat} {a1} {a2} {s :
    State} (h : Keeps ar z (s.tick t)) :
    NextKeeps ar z (execCiphOutRelWrite t a1 a2 s) := by
  unfold execCiphOutRelWrite
  exact keeps_next (State.hostWrites_keeps h (fun v1 k2 => State.ciphOutRel_keeps (hw.m rfl) k2))

theorem execCiphJobDone_keeps {ar : List Area} (hw : Within (Area.telling [.sec]) ar) {z : State} {t : Nat} {a1} {s :
    State} (h : Keeps ar z (s.tick t)) :
    NextKeeps ar z (execCiphJobDone t a1 s) := by
  unfold execCiphJobDone
  exact keeps_next (State.ciphDone_keeps (hw.m rfl) h)

theorem execLockIdleRelease_keeps {ar : List Area} (hw : Within (Area.telling [.sec]) ar) {z : State} {t : Nat} {a1}
    {s : State} (h : Keeps ar z (s.tick t)) :
    NextKeeps ar z (execLockIdleRelease t a1 s) := by
  unfold execLockIdleRelease
  extract_lets -underBinder -merge +onlyGivenNames v1
  have k2 : Keeps ar z v1 := h
  clear_value v1
  extract_lets -underBinder -merge +onlyGivenNames v3
  clear_value v3
  exact keeps_next (keeps_ite (State.raiseOf_keeps (hw.m rfl) (State.count_keeps (hw.m rfl) (State.modEngine_keeps
      (hw.m rfl)
    (State.engineRelease_keeps (hw.m rfl) k2)))) k2)

theorem effectKeyDerive_keeps {ar : List Area} (hw : Within (Area.telling [.sec]) ar) {z a0 : State} {a1} (h1 : Keeps
    ar z a0) :
    Keeps ar z (effectKeyDerive a0 a1).1 := by
  unfold effectKeyDerive
  split
  · exact keeps_mk1 h1
  · extract_lets -underBinder -merge +onlyGivenNames v1 v2 v3 v4 v5 v6 v7 v8 v9
    clear_value v1 v2 v3 v4 v5 v6 v7 v8 v9
    extract_lets -underBinder -merge +onlyGivenNames v10
    have k11 : Keeps ar z v10 := keeps_ite (State.count_keeps (hw.m rfl) h1) (State.count_keeps (hw.m rfl)
        (State.keyUse_keeps (hw.m rfl) h1))
    clear_value v10
    extract_lets -underBinder -merge +onlyGivenNames v12
    have k13 : Keeps ar z v12 := State.modKeySlot_keeps (hw.m rfl) k11
    clear_value v12
    exact keeps_mk1 k13

theorem execKeyDerive_keeps {ar : List Area} (hw : Within (Area.telling [.windows, .mbx, .sec, .cw, .boot]) ar) {z :
    State} {t : Nat} {a1} {s : State} (h : Keeps ar z (s.tick t)) :
    NextKeeps ar z (execKeyDerive t a1 s) := by
  unfold execKeyDerive
  exact keeps_next (State.simple_keeps (hw.m rfl) h (fun v1 v2 k3 => effectKeyDerive_keeps (hw.m rfl) k3))

theorem effectKeyRevoke_keeps {ar : List Area} (hw : Within (Area.telling [.sec]) ar) {z a0 : State} {a1} (h1 : Keeps
    ar z a0) :
    Keeps ar z (effectKeyRevoke a0 a1).1 := by
  unfold effectKeyRevoke
  extract_lets -underBinder -merge +onlyGivenNames v1
  clear_value v1
  refine keeps_ite1 ?_ (keeps_mk1 h1)
  split
  rename_i v2 v3 v4 e5
  have k6 : Keeps ar z v3 := keeps_fst e5 (State.keyRevoke_keeps (hw.m rfl) h1)
  exact keeps_mk1 k6

theorem execKeyRevoke_keeps {ar : List Area} (hw : Within (Area.telling [.windows, .mbx, .sec, .cw, .boot]) ar) {z :
    State} {t : Nat} {a1} {s : State} (h : Keeps ar z (s.tick t)) :
    NextKeeps ar z (execKeyRevoke t a1 s) := by
  unfold execKeyRevoke
  exact keeps_next (State.simple_keeps (hw.m rfl) h (fun v1 v2 k3 => effectKeyRevoke_keeps (hw.m rfl) k3))

theorem effectKeyAttrSet_keeps {ar : List Area} (hw : Within (Area.telling [.sec]) ar) {z a0 : State} {a1} (h1 :
    Keeps ar z a0) :
    Keeps ar z (effectKeyAttrSet a0 a1).1 := by
  unfold effectKeyAttrSet
  extract_lets -underBinder -merge +onlyGivenNames v1 v2 v3
  clear_value v1 v2 v3
  extract_lets -underBinder -merge +onlyGivenNames v4
  have k5 : Keeps ar z v4 := State.modKeySlot_keeps (hw.m rfl) h1
  clear_value v4
  extract_lets -underBinder -merge +onlyGivenNames v6
  have k7 : Keeps ar z v6 := keeps_foldl (fun v8 v9 k10 => State.modKeySlot_keeps (hw.m rfl) k10) k5
  clear_value v6
  extract_lets -underBinder -merge +onlyGivenNames v11
  clear_value v11
  extract_lets -underBinder -merge +onlyGivenNames v12
  have k13 : Keeps ar z v12 := keeps_ite (State.raiseOf_keeps (hw.m rfl) (State.count_keeps (hw.m rfl) k7)) k7
  clear_value v12
  exact keeps_mk1 k13

theorem execKeyAttrSet_keeps {ar : List Area} (hw : Within (Area.telling [.windows, .mbx, .sec, .cw, .boot]) ar) {z :
    State} {t : Nat} {a1} {s : State} (h : Keeps ar z (s.tick t)) :
    NextKeeps ar z (execKeyAttrSet t a1 s) := by
  unfold execKeyAttrSet
  exact keeps_next (State.simple_keeps (hw.m rfl) h (fun v1 v2 k3 => effectKeyAttrSet_keeps (hw.m rfl) k3))

theorem execKeyInfo_keeps {ar : List Area} (hw : Within (Area.telling [.windows, .mbx, .cw, .boot]) ar) {z : State}
    {t : Nat} {a1} {s : State} (h : Keeps ar z (s.tick t)) :
    NextKeeps ar z (execKeyInfo t a1 s) := by
  unfold execKeyInfo
  exact keeps_next (State.query_keeps (hw.m rfl) h)

theorem State.sigOps_keeps {ar : List Area} (hw : Within [.sig] ar) {z a0 : State} {a1} (h1 : Keeps ar z a0) :
    Keeps ar z (State.sigOps a0 a1) := by
  unfold State.sigOps
  exact State.modSig_keeps (hw.m rfl) h1

theorem State.rangeEvent_keeps {ar : List Area} (hw : Within (Area.telling [.sig]) ar) {z a0 : State} {a1} (h1 :
    Keeps ar z a0) :
    Keeps ar z (State.rangeEvent a0 a1) := by
  unfold State.rangeEvent
  exact keeps_ite h1 (State.raiseOf_keeps (hw.m rfl) (State.modSig_keeps (hw.m rfl) h1))

theorem State.staleUp_keeps {ar : List Area} (hw : Within (Area.telling [.sig]) ar) {z a0 : State} {a1} (h1 : Keeps
    ar z a0) :
    Keeps ar z (State.staleUp a0 a1) := by
  unfold State.staleUp
  extract_lets -underBinder -merge +onlyGivenNames v1
  have k2 : Keeps ar z v1 := State.modSig_keeps (hw.m rfl) h1
  clear_value v1
  exact keeps_ite (State.raiseOf_keeps (hw.m rfl) k2) k2

theorem State.packAll_keeps {ar : List Area} (hw : Within (Area.telling [.sig]) ar) {z a0 : State} {a1} {a2} (h1 :
    Keeps ar z a0) :
    Keeps ar z (State.packAll a0 a1 a2).1 := by
  induction a2 generalizing a0 a1
  · unfold State.packAll
    exact keeps_mk1 h1
  · rename_i w0 w1 ih
    unfold State.packAll
    split
    extract_lets -underBinder -merge +onlyGivenNames v1
    have k2 : Keeps ar z v1 := State.sigOps_keeps (hw.m rfl) (State.count_keeps (hw.m rfl) h1)
    clear_value v1
    extract_lets -underBinder -merge +onlyGivenNames v3
    have k4 : Keeps ar z v3 := keeps_ite (State.rangeEvent_keeps (hw.m rfl) (State.count_keeps (hw.m rfl) k2)) k2
    clear_value v3
    exact ih k4

theorem State.composeDrop_keeps {ar : List Area} (hw : Within (Area.telling [.sig]) ar) {z a0 : State} {a1} (h1 :
    Keeps ar z a0) :
    Keeps ar z (State.composeDrop a0 a1) := by
  unfold State.composeDrop
  extract_lets -underBinder -merge +onlyGivenNames v1
  have k2 : Keeps ar z v1 := State.count_keeps (hw.m rfl) h1
  clear_value v1
  exact keeps_ite k2 (State.raiseOf_keeps (hw.m rfl) (State.modSig_keeps (hw.m rfl) k2))

theorem State.withdraw_keeps {ar : List Area} (hw : Within (Area.telling [.eth, .buses, .sw]) ar) {z a0 : State} {a1}
    (h1 : Keeps ar z a0) :
    Keeps ar z (State.withdraw a0 a1) := by
  unfold State.withdraw
  extract_lets -underBinder -merge +onlyGivenNames v1
  have k2 : Keeps ar z v1 := keeps_foldl (fun v3 v4 k5 => State.portTake_keeps (hw.m rfl) k5 (fun v6 v7 k8 => k8)) h1
  clear_value v1
  extract_lets -underBinder -merge +onlyGivenNames v9
  have k10 : Keeps ar z v9 := State.busTake_keeps (hw.m rfl) k2 (fun v11 k12 => k12)
  clear_value v9
  exact State.retire_keeps (hw.m rfl) (State.setCells_keeps (hw.m rfl) (State.modFrame_keeps (hw.m rfl) k10))

theorem State.queueComposed_keeps {ar : List Area} (hw : Within (Area.telling [.chans, .eth, .buses, .sw, .sig]) ar)
    {z a0 : State} {a1} {a2} {a3} {a4} {a5} (h1 : Keeps ar z a0) :
    Keeps ar z (State.queueComposed a0 a1 a2 a3 a4 a5) := by
  unfold State.queueComposed
  refine keeps_ite h1 ?_
  extract_lets -underBinder -merge +onlyGivenNames v1
  have k2 : Keeps ar z v1 := State.cross_keeps (hw.m rfl) h1
  clear_value v1
  extract_lets -underBinder -merge +onlyGivenNames v3
  clear_value v3
  extract_lets -underBinder -merge +onlyGivenNames v4
  have k5 : Keeps ar z v4 := keeps_foldl (fun v6 v7 k8 => State.count_keeps (hw.m rfl) (State.withdraw_keeps (hw.m
      rfl) k8)) k2
  clear_value v4
  split
  rename_i v9 v10 v11 e12
  have k13 : Keeps ar z v10 := keeps_fst e12 (State.newFrame_keeps (hw.m rfl) k5)
  extract_lets -underBinder -merge +onlyGivenNames v14
  have k15 : Keeps ar z v14 := State.admitRef_keeps (hw.m rfl) k13
  clear_value v14
  exact keeps_ite (State.count_keeps (hw.m rfl) k15) (keeps_ite (State.retire_keeps (hw.m rfl)
      (State.composeDrop_keeps (hw.m rfl) k15))
    (State.retire_keeps (hw.m rfl) k15))

theorem State.queueMsg_keeps {ar : List Area} (hw : Within (Area.telling [.chans, .eth, .buses, .sw, .sig]) ar) {z a0
    : State} {a1} {a2} {a3} {a4} (h1 : Keeps ar z a0) :
    Keeps ar z (State.queueMsg a0 a1 a2 a3 a4) := by
  unfold State.queueMsg
  exact State.queueComposed_keeps (hw.m rfl) h1

theorem State.secNoEngine_keeps {ar : List Area} (hw : Within Area.told ar) {z a0 : State} {a1} (h1 : Keeps ar z a0) :
    Keeps ar z (State.secNoEngine a0 a1) := by
  unfold State.secNoEngine
  exact State.raiseOf_keeps (hw.m rfl) (State.count_keeps (hw.m rfl) (State.count_keeps (hw.m rfl) h1))

theorem State.secKeyFail_keeps {ar : List Area} (hw : Within (Area.telling [.sec]) ar) {z a0 : State} {a1} {a2} {a3}
    (h1 : Keeps ar z a0) :
    Keeps ar z (State.secKeyFail a0 a1 a2 a3) := by
  unfold State.secKeyFail
  exact State.raiseOf_keeps (hw.m rfl) (State.count_keeps (hw.m rfl) (State.count_keeps (hw.m rfl)
      (State.keyFail_keeps (hw.m rfl) h1)))

theorem State.secUse_keeps {ar : List Area} (hw : Within (Area.telling [.sec]) ar) {z a0 : State} {a1} {a2} (h1 :
    Keeps ar z a0) :
    Keeps ar z (State.secUse a0 a1 a2) := by
  unfold State.secUse
  exact State.modEngine_keeps (hw.m rfl) (State.keyLoad_keeps (hw.m rfl) h1)

theorem State.secSend_keeps {ar : List Area} (hw : Within (Area.telling [.chans, .eth, .buses, .sw, .sig, .sec]) ar)
    {z a0 : State} {a1} {a2} {a3} {a4} {a5} (h1 : Keeps ar z a0) :
    Keeps ar z (State.secSend a0 a1 a2 a3 a4 a5) := by
  unfold State.secSend
  extract_lets -underBinder -merge +onlyGivenNames v1
  clear_value v1
  refine keeps_ite (State.secKeyFail_keeps (hw.m rfl) h1) ?_
  extract_lets -underBinder -merge +onlyGivenNames v2
  clear_value v2
  extract_lets -underBinder -merge +onlyGivenNames v3
  have k4 : Keeps ar z v3 := State.secUse_keeps (hw.m rfl) h1
  clear_value v3
  extract_lets -underBinder -merge +onlyGivenNames v5
  clear_value v5
  extract_lets -underBinder -merge +onlyGivenNames v6
  have k7 : Keeps ar z v6 := State.modSlot_keeps (hw.m rfl) k4
  clear_value v6
  extract_lets -underBinder -merge +onlyGivenNames v8
  clear_value v8
  split
  extract_lets -underBinder -merge +onlyGivenNames v9
  clear_value v9
  exact State.queueMsg_keeps (hw.m rfl) k7

theorem State.secRelease_keeps {ar : List Area} (hw : Within (Area.telling [.chans, .eth, .buses, .sw, .sig, .sec])
    ar) {z a0 : State} {a1} {a2} {a3} {a4} (h1 : Keeps ar z a0) :
    Keeps ar z (State.secRelease a0 a1 a2 a3 a4) := by
  unfold State.secRelease
  extract_lets -underBinder -merge +onlyGivenNames v1
  clear_value v1
  split
  · exact State.secSend_keeps (hw.m rfl) h1
  · exact State.modSec_keeps (hw.m rfl) (State.modSig_keeps (hw.m rfl) h1)

theorem State.composeBus_keeps {ar : List Area} (hw : Within (Area.telling [.chans, .eth, .buses, .sw, .sig, .sec])
    ar) {z a0 : State} {a1} {a2} {a3} {a4} (h1 : Keeps ar z a0) :
    Keeps ar z (State.composeBus a0 a1 a2 a3 a4) := by
  unfold State.composeBus
  extract_lets -underBinder -merge +onlyGivenNames v1
  clear_value v1
  split
  rename_i v2 v3 v4 e5
  have k6 : Keeps ar z v3 := keeps_fst e5 (State.packAll_keeps (hw.m rfl) h1)
  extract_lets -underBinder -merge +onlyGivenNames v7
  clear_value v7
  exact keeps_ite (State.secRelease_keeps (hw.m rfl) k6) (State.queueMsg_keeps (hw.m rfl) k6)

theorem State.divert_keeps {ar : List Area} (hw : Within (Area.telling [.chans, .eth, .buses, .sw, .sig, .sec]) ar)
    {z a0 : State} {a1} {a2} {a3} (h1 : Keeps ar z a0) :
    Keeps ar z (State.divert a0 a1 a2 a3) := by
  unfold State.divert
  extract_lets -underBinder -merge +onlyGivenNames v1 v2 v3
  clear_value v1 v2 v3
  split
  · exact State.count_keeps (hw.m rfl) h1
  · refine keeps_ite (State.count_keeps (hw.m rfl) h1) ?_
    refine keeps_ite (State.count_keeps (hw.m rfl) h1) ?_
    split
    · exact State.count_keeps (hw.m rfl) h1
    · extract_lets -underBinder -merge +onlyGivenNames v4
      have k5 : Keeps ar z v4 := State.count_keeps (hw.m rfl) (State.composeBus_keeps (hw.m rfl) h1)
      clear_value v4
      exact keeps_ite k5 (State.raiseOf_keeps (hw.m rfl) (State.modTx_keeps (hw.m rfl) k5))

theorem State.compose_keeps {ar : List Area} (hw : Within (Area.telling [.chans, .eth, .buses, .sw, .sig, .tide,
    .sec]) ar) {z a0 : State} {a1} (h1 : Keeps ar z a0) :
    Keeps ar z (State.compose a0 a1) := by
  unfold State.compose
  split
  · exact h1
  · extract_lets -underBinder -merge +onlyGivenNames v1
    have k2 : Keeps ar z v1 := State.count_keeps (hw.m rfl) h1
    clear_value v1
    refine keeps_ite ?_ ?_
    · extract_lets -underBinder -merge +onlyGivenNames v3
      clear_value v3
      extract_lets -underBinder -merge +onlyGivenNames v4
      have k5 : Keeps ar z v4 := State.composeBus_keeps (hw.m rfl) k2
      clear_value v4
      exact keeps_ite (State.divert_keeps (hw.m rfl) k5) k5
    · split
      rename_i v6 v7 v8 e9
      have k10 : Keeps ar z v7 := keeps_fst e9 (State.packAll_keeps (hw.m rfl) k2)
      refine keeps_ite ?_ ?_
      · extract_lets -underBinder -merge +onlyGivenNames v11 v12
        clear_value v11 v12
        exact State.queueComposed_keeps (hw.m rfl) k10
      · refine keeps_ite ?_ k10
        extract_lets -underBinder -merge +onlyGivenNames v13
        clear_value v13
        refine keeps_ite k10 ?_
        split
        · rename_i v14 v15 e16
          have k17 : Keeps ar z v15 := keeps_fst e16 (State.tqPut_keeps (hw.m rfl) (State.cross_keeps (hw.m rfl) k10))
          exact State.count_keeps (hw.m rfl) k17
        · rename_i v18 v19 e20
          have k21 : Keeps ar z v19 := keeps_fst e20 (State.tqPut_keeps (hw.m rfl) (State.cross_keeps (hw.m rfl) k10))
          exact State.composeDrop_keeps (hw.m rfl) k21
        · rename_i v22 v23 e24
          have k25 : Keeps ar z v23 := keeps_fst e24 (State.tqPut_keeps (hw.m rfl) (State.cross_keeps (hw.m rfl) k10))
          exact k25

theorem State.fire_keeps {ar : List Area} (hw : Within (Area.telling [.chans, .eth, .buses, .sw, .sig, .tide, .sec])
    ar) {z a0 : State} {a1} (h1 : Keeps ar z a0) :
    Keeps ar z (State.fire a0 a1) := by
  unfold State.fire
  split
  · exact h1
  · exact keeps_ite h1 (State.compose_keeps (hw.m rfl) (State.modRun_keeps (hw.m rfl) h1))

theorem State.fireDue_keeps {ar : List Area} (hw : Within [.sig] ar) {z a0 : State} {a1} (h1 : Keeps ar z a0) :
    Keeps ar z (State.fireDue a0 a1) := by
  unfold State.fireDue
  exact State.modSig_keeps (hw.m rfl) h1

theorem State.changes_keeps {ar : List Area} (hw : Within [.sig] ar) {z a0 : State} {a1} {a2} (h1 : Keeps ar z a0) :
    Keeps ar z (State.changes a0 a1 a2) := by
  unfold State.changes
  extract_lets -underBinder -merge +onlyGivenNames v1 v2 v3
  clear_value v1 v2 v3
  extract_lets -underBinder -merge +onlyGivenNames v4
  have k5 : Keeps ar z v4 := keeps_foldl (fun v6 v7 k8 => State.modRun_keeps (hw.m rfl) k8) h1
  clear_value v4
  exact State.fireDue_keeps (hw.m rfl) k5

theorem State.periodic_keeps {ar : List Area} (hw : Within [.sig] ar) {z a0 : State} {a1} (h1 : Keeps ar z a0) :
    Keeps ar z (State.periodic a0 a1) := by
  unfold State.periodic
  extract_lets -underBinder -merge +onlyGivenNames v1 v2
  clear_value v1 v2
  extract_lets -underBinder -merge +onlyGivenNames v3
  have k4 : Keeps ar z v3 := keeps_foldl (fun v5 v6 k7 => State.modRun_keeps (hw.m rfl) k7) h1
  clear_value v3
  exact State.fireDue_keeps (hw.m rfl) k4

theorem State.specStart_keeps {ar : List Area} (hw : Within [.sig] ar) {z a0 : State} {a1} {a2} {a3} {a4} {a5} (h1 :
    Keeps ar z a0) :
    Keeps ar z (State.specStart a0 a1 a2 a3 a4 a5).1 := by
  unfold State.specStart
  refine keeps_ite1 (keeps_mk1 h1) ?_
  split
  · exact keeps_mk1 h1
  · extract_lets -underBinder -merge +onlyGivenNames v1 v2 v3
    clear_value v1 v2 v3
    exact keeps_mk1 (State.modSig_keeps (hw.m rfl) h1)

theorem State.specEnd_keeps {ar : List Area} (hw : Within [.ctrs, .sig] ar) {z a0 : State} {a1} {a2} {a3} (h1 : Keeps
    ar z a0) :
    Keeps ar z (State.specEnd a0 a1 a2 a3) := by
  unfold State.specEnd
  refine keeps_ite h1 ?_
  extract_lets -underBinder -merge +onlyGivenNames v1
  clear_value v1
  extract_lets -underBinder -merge +onlyGivenNames v2
  have k3 : Keeps ar z v2 := State.modSig_keeps (hw.m rfl) h1
  clear_value v2
  extract_lets -underBinder -merge +onlyGivenNames v4
  have k5 : Keeps ar z v4 := keeps_ite (State.count_keeps (hw.m rfl) k3) k3
  clear_value v4
  exact keeps_ite k5 (State.count_keeps (hw.m rfl) k5)

theorem State.specRelease_keeps {ar : List Area} (hw : Within [.ctrs, .sig] ar) {z a0 : State} {a1} {a2} {a3} (h1 :
    Keeps ar z a0) :
    Keeps ar z (State.specRelease a0 a1 a2 a3) := by
  unfold State.specRelease
  extract_lets -underBinder -merge +onlyGivenNames v1 v2 v3
  clear_value v1 v2 v3
  extract_lets -underBinder -merge +onlyGivenNames v4
  have k5 : Keeps ar z v4 := State.modSig_keeps (hw.m rfl) h1
  clear_value v4
  extract_lets -underBinder -merge +onlyGivenNames v6
  have k7 : Keeps ar z v6 := keeps_ite k5 (State.count_keeps (hw.m rfl) k5)
  clear_value v6
  exact keeps_ite k7 (State.count_keeps (hw.m rfl) k7)

theorem State.unstale_keeps {ar : List Area} (hw : Within [.sig] ar) {z a0 : State} {a1} (h1 : Keeps ar z a0) :
    Keeps ar z (State.unstale a0 a1) := by
  unfold State.unstale
  exact keeps_ite (State.modSig_keeps (hw.m rfl) (State.modSlot_keeps (hw.m rfl) h1)) h1

theorem State.commitValue_keeps {ar : List Area} (hw : Within (Area.telling [.sig]) ar) {z a0 : State} {a1} {a2} {a3}
    (h1 : Keeps ar z a0) :
    Keeps ar z (State.commitValue a0 a1 a2 a3) := by
  unfold State.commitValue
  extract_lets -underBinder -merge +onlyGivenNames v1
  have k2 : Keeps ar z v1 := State.sigOps_keeps (hw.m rfl) (State.count_keeps (hw.m rfl) h1)
  clear_value v1
  extract_lets -underBinder -merge +onlyGivenNames v3
  have k4 : Keeps ar z v3 := keeps_ite (State.count_keeps (hw.m rfl) k2) k2
  clear_value v3
  extract_lets -underBinder -merge +onlyGivenNames v5
  have k6 : Keeps ar z v5 := keeps_ite (State.count_keeps (hw.m rfl) k4) k4
  clear_value v5
  extract_lets -underBinder -merge +onlyGivenNames v7
  have k8 : Keeps ar z v7 := keeps_ite (State.rangeEvent_keeps (hw.m rfl) k6) k6
  clear_value v7
  split
  · exact State.modSlot_keeps (hw.m rfl) k8
  · exact State.modSlot_keeps (hw.m rfl) (State.unstale_keeps (hw.m rfl) k8)

theorem State.commitData_keeps {ar : List Area} (hw : Within (Area.telling [.sig]) ar) {z a0 : State} {a1} {a2} {a3}
    (h1 : Keeps ar z a0) :
    Keeps ar z (State.commitData a0 a1 a2 a3) := by
  unfold State.commitData
  exact keeps_foldl (fun v1 v2 k3 => keeps_ite k3 (keeps_ite (State.commitValue_keeps (hw.m rfl) k3)
      (State.count_keeps (hw.m rfl) k3))) h1

theorem State.commitFrame_keeps {ar : List Area} (hw : Within (Area.telling [.sig]) ar) {z a0 : State} {a1} {a2} {a3}
    {a4} (h1 : Keeps ar z a0) :
    Keeps ar z (State.commitFrame a0 a1 a2 a3 a4) := by
  unfold State.commitFrame
  extract_lets -underBinder -merge +onlyGivenNames v1
  clear_value v1
  extract_lets -underBinder -merge +onlyGivenNames v2
  have k3 : Keeps ar z v2 := by
    unfold v2
    split
    · rename_i v4 v5
      exact State.modSlot_keeps (hw.m rfl) h1
    · rename_i v7
      exact h1
  clear_value v2
  extract_lets -underBinder -merge +onlyGivenNames v9
  have k10 : Keeps ar z v9 := keeps_ite k3 (State.commitData_keeps (hw.m rfl) k3)
  clear_value v9
  extract_lets -underBinder -merge +onlyGivenNames v11 v12
  clear_value v11 v12
  extract_lets -underBinder -merge +onlyGivenNames v13
  have k14 : Keeps ar z v13 := State.specRelease_keeps (hw.m rfl) (State.count_keeps (hw.m rfl) k10)
  clear_value v13
  exact State.changes_keeps (hw.m rfl) k14

theorem State.secFail_keeps {ar : List Area} (hw : Within (Area.telling [.sig]) ar) {z a0 : State} {a1} {a2} {a3} (h1
    : Keeps ar z a0) :
    Keeps ar z (State.secFail a0 a1 a2 a3) := by
  unfold State.secFail
  exact State.raiseOf_keeps (hw.m rfl) (State.count_keeps (hw.m rfl) (State.count_keeps (hw.m rfl)
      (State.specEnd_keeps (hw.m rfl) h1)))

theorem State.secFree_keeps {ar : List Area} (hw : Within [.ctrs, .sec] ar) {z a0 : State} {a1} (h1 : Keeps ar z a0) :
    Keeps ar z (State.secFree a0 a1) := by
  unfold State.secFree
  split
  · exact State.engineRelease_keeps (hw.m rfl) h1
  · exact h1

theorem State.secRevoked_keeps {ar : List Area} (hw : Within [.ctrs] ar) {z a0 : State} {a1} (h1 : Keeps ar z a0) :
    Keeps ar z (State.secRevoked a0 a1) := by
  unfold State.secRevoked
  split
  · exact keeps_ite (State.count_keeps (hw.m rfl) h1) h1
  · exact h1

theorem State.commitSecured_keeps {ar : List Area} (hw : Within (Area.telling [.sig, .sec]) ar) {z a0 : State} {a1}
    {a2} {a3} (h1 : Keeps ar z a0) :
    Keeps ar z (State.commitSecured a0 a1 a2 a3) := by
  unfold State.commitSecured
  extract_lets -underBinder -merge +onlyGivenNames v1
  clear_value v1
  refine keeps_ite (State.secFree_keeps (hw.m rfl) (State.secKeyFail_keeps (hw.m rfl) (State.specEnd_keeps (hw.m rfl)
      h1))) ?_
  refine keeps_ite (State.secNoEngine_keeps (hw.m rfl) (State.specEnd_keeps (hw.m rfl) h1)) ?_
  refine keeps_ite (State.secFree_keeps (hw.m rfl) (State.specEnd_keeps (hw.m rfl) h1)) ?_
  extract_lets -underBinder -merge +onlyGivenNames v2 v3 v4 v5
  clear_value v2 v3 v4 v5
  refine keeps_ite (State.secFree_keeps (hw.m rfl) (State.secFail_keeps (hw.m rfl) h1)) ?_
  extract_lets -underBinder -merge +onlyGivenNames v6
  clear_value v6
  split
  extract_lets -underBinder -merge +onlyGivenNames v7
  clear_value v7
  extract_lets -underBinder -merge +onlyGivenNames v8
  have k9 : Keeps ar z v8 := State.secRevoked_keeps (hw.m rfl) h1
  clear_value v8
  extract_lets -underBinder -merge +onlyGivenNames v10
  clear_value v10
  exact keeps_ite (State.commitFrame_keeps (hw.m rfl) (State.count_keeps (hw.m rfl) (State.secFree_keeps (hw.m rfl)
      k9))) (State.secFree_keeps (hw.m rfl)
    (State.secFail_keeps (hw.m rfl) k9))

theorem State.commitWait_keeps {ar : List Area} (hw : Within (Area.telling [.sig, .sec]) ar) {z a0 : State} {a1} (h1
    : Keeps ar z a0) :
    Keeps ar z (State.commitWait a0 a1) := by
  unfold State.commitWait
  split
  · exact State.specEnd_keeps (hw.m rfl) h1
  · extract_lets -underBinder -merge +onlyGivenNames v1
    clear_value v1
    exact keeps_ite (State.commitSecured_keeps (hw.m rfl) h1) (State.commitFrame_keeps (hw.m rfl) h1)

theorem State.freshExpiry_keeps {ar : List Area} (hw : Within (Area.telling [.sig]) ar) {z a0 : State} {a1} (h1 :
    Keeps ar z a0) :
    Keeps ar z (State.freshExpiry a0 a1) := by
  unfold State.freshExpiry
  extract_lets -underBinder -merge +onlyGivenNames v1
  clear_value v1
  split
  · exact h1
  · refine keeps_ite ?_ h1
    extract_lets -underBinder -merge +onlyGivenNames v2
    have k3 : Keeps ar z v2 := State.staleUp_keeps (hw.m rfl) (State.count_keeps (hw.m rfl) (State.modSlot_keeps
        (hw.m rfl) h1))
    clear_value v2
    exact State.changes_keeps (hw.m rfl) k3

theorem State.fireFlush_keeps {ar : List Area} (hw : Within (Area.telling [.chans, .eth, .buses, .sw, .sig, .tide,
    .sec]) ar) {z a0 : State} (h1 : Keeps ar z a0) :
    Keeps ar z (State.fireFlush a0) := by
  unfold State.fireFlush
  refine keeps_ite h1 ?_
  extract_lets -underBinder -merge +onlyGivenNames v1
  have k2 : Keeps ar z v1 := keeps_foldl (fun v3 v4 k5 => State.freshExpiry_keeps (hw.m rfl) k5) (State.modSig_keeps
      (hw.m rfl) h1)
  clear_value v1
  extract_lets -underBinder -merge +onlyGivenNames v6
  clear_value v6
  exact keeps_foldl (fun v7 v8 k9 => State.fire_keeps (hw.m rfl) k9) (State.modSig_keeps (hw.m rfl) k2)

theorem State.signalRestart_keeps {ar : List Area} (hw : Within [.ctrs, .buses, .sw, .sig, .sec] ar) {z a0 : State}
    (h1 : Keeps ar z a0) :
    Keeps ar z (State.signalRestart a0) := by
  unfold State.signalRestart
  extract_lets -underBinder -merge +onlyGivenNames v1 v2
  clear_value v1 v2
  extract_lets -underBinder -merge +onlyGivenNames v3
  have k4 : Keeps ar z v3 := State.each_keeps (fun v5 v6 k7 => State.count_keeps (hw.m rfl) k7) h1
  clear_value v3
  extract_lets -underBinder -merge +onlyGivenNames v8
  have k9 : Keeps ar z v8 := keeps_ite k4 (State.count_keeps (hw.m rfl) k4)
  clear_value v8
  extract_lets -underBinder -merge +onlyGivenNames v10
  have k11 : Keeps ar z v10 := State.modSig_keeps (hw.m rfl) k9
  clear_value v10
  extract_lets -underBinder -merge +onlyGivenNames v12
  have k13 : Keeps ar z v12 := keeps_same hw k11
  clear_value v12
  extract_lets -underBinder -merge +onlyGivenNames v14
  have k15 : Keeps ar z v14 := State.modSw_keeps (hw.m rfl) k13
  clear_value v14
  extract_lets -underBinder -merge +onlyGivenNames v16
  have k17 : Keeps ar z v16 := State.modSec_keeps (hw.m rfl) k15
  clear_value v16
  exact keeps_foldl (fun v18 v19 k20 => keeps_ite (State.engineRelease_keeps (hw.m rfl) k20) k20) k17

theorem State.slotReset_keeps {ar : List Area} (hw : Within [.sig] ar) {z a0 : State} {a1} {a2} (h1 : Keeps ar z a0) :
    Keeps ar z (State.slotReset a0 a1 a2) := by
  unfold State.slotReset
  exact State.modSlot_keeps (hw.m rfl) (State.unstale_keeps (hw.m rfl) h1)

theorem State.hostValue_keeps {ar : List Area} (hw : Within [.sig] ar) {z a0 : State} {a1} {a2} (h1 : Keeps ar z a0) :
    Keeps ar z (State.hostValue a0 a1 a2) := by
  unfold State.hostValue
  extract_lets -underBinder -merge +onlyGivenNames v1
  clear_value v1
  exact State.modSlot_keeps (hw.m rfl) (State.unstale_keeps (hw.m rfl) h1)

theorem State.l2Limit_keeps {ar : List Area} (hw : Within (Area.telling [.eth]) ar) {z a0 : State} {a1} (h1 : Keeps
    ar z a0) :
    Keeps ar z (State.l2Limit a0 a1) := by
  unfold State.l2Limit
  extract_lets -underBinder -merge +onlyGivenNames v1 v2
  clear_value v1 v2
  extract_lets -underBinder -merge +onlyGivenNames v3
  have k4 : Keeps ar z v3 := State.modPort_keeps (hw.m rfl) h1
  clear_value v3
  exact keeps_ite (State.raiseOf_keeps (hw.m rfl) k4) k4

theorem State.l2Flush_keeps {ar : List Area} (hw : Within (Area.telling [.eth, .tbl]) ar) {z a0 : State} {a1} {a2}
    (h1 : Keeps ar z a0) :
    Keeps ar z (State.l2Flush a0 a1 a2).1 := by
  unfold State.l2Flush
  extract_lets -underBinder -merge +onlyGivenNames v1 v2
  clear_value v1 v2
  extract_lets -underBinder -merge +onlyGivenNames v3
  have k4 : Keeps ar z v3 := State.modTbl_keeps (hw.m rfl) h1
  clear_value v3
  extract_lets -underBinder -merge +onlyGivenNames v5
  have k6 : Keeps ar z v5 := keeps_foldl (fun v7 v8 k9 => State.l2Limit_keeps (hw.m rfl) k9) k4
  clear_value v5
  exact keeps_mk1 (keeps_ite k6 (State.count_keeps (hw.m rfl) k6))

theorem State.portFlush_keeps {ar : List Area} (hw : Within (Area.telling [.eth, .sw]) ar) {z a0 : State} {a1} (h1 :
    Keeps ar z a0) :
    Keeps ar z (State.portFlush a0 a1) := by
  unfold State.portFlush
  split
  rename_i v1 v2 v3 e4
  have k5 : Keeps ar z v2 := keeps_fst e4 (State.flushPort_keeps (hw.m rfl) h1)
  extract_lets -underBinder -merge +onlyGivenNames v6
  have k7 : Keeps ar z v6 := State.modPort_keeps (hw.m rfl) k5
  clear_value v6
  exact State.raiseOf_keeps (hw.m rfl) (State.count_keeps (hw.m rfl) k7)

theorem State.holdEnter_keeps {ar : List Area} (hw : Within (Area.telling [.eth, .sw]) ar) {z a0 : State} {a1} (h1 :
    Keeps ar z a0) :
    Keeps ar z (State.holdEnter a0 a1) := by
  unfold State.holdEnter
  extract_lets -underBinder -merge +onlyGivenNames v1
  clear_value v1
  extract_lets -underBinder -merge +onlyGivenNames v2
  have k3 : Keeps ar z v2 := State.count_keeps (hw.m rfl) (State.creditRun_keeps (hw.m rfl) h1)
  clear_value v2
  exact keeps_ite (State.portFlush_keeps (hw.m rfl) k3) (State.modPort_keeps (hw.m rfl) k3)

theorem State.holdLeave_keeps {ar : List Area} (hw : Within [.ctrs, .eth, .links] ar) {z a0 : State} {a1} (h1 : Keeps
    ar z a0) :
    Keeps ar z (State.holdLeave a0 a1) := by
  unfold State.holdLeave
  extract_lets -underBinder -merge +onlyGivenNames v1
  clear_value v1
  extract_lets -underBinder -merge +onlyGivenNames v2
  have k3 : Keeps ar z v2 := State.modPort_keeps (hw.m rfl) (State.creditRun_keeps (hw.m rfl) h1)
  clear_value v2
  exact keeps_ite (State.count_keeps (hw.m rfl) k3) k3

theorem State.cwKeyTx_keeps {ar : List Area} (hw : Within (Area.telling [.sec]) ar) {z a0 : State} {a1} (h1 : Keeps
    ar z a0) :
    Keeps ar z (State.cwKeyTx a0 a1).1 := by
  unfold State.cwKeyTx
  exact keeps_ite1 (keeps_mk1 h1) (keeps_mk1 (State.keyFail_keeps (hw.m rfl) h1))

theorem State.tellPort_keeps {ar : List Area} (hw : Within (Area.telling [.sec]) ar) {z a0 : State} {a1} {a2} {a3}
    (h1 : Keeps ar z a0) :
    Keeps ar z (State.tellPort a0 a1 a2 a3) := by
  unfold State.tellPort
  split
  rename_i v1 v2 v3 e4
  have k5 : Keeps ar z v2 := keeps_fst e4 (State.cwKeyTx_keeps (hw.m rfl) h1)
  exact keeps_ite (State.cwSend_keeps (hw.m rfl) k5) k5

theorem State.tellLink_keeps {ar : List Area} (hw : Within (Area.telling [.sec]) ar) {z a0 : State} {a1} {a2} (h1 :
    Keeps ar z a0) :
    Keeps ar z (State.tellLink a0 a1 a2) := by
  unfold State.tellLink
  exact State.tellPort_keeps (hw.m rfl) h1

theorem State.tell_keeps {ar : List Area} (hw : Within (Area.telling [.sec]) ar) {z a0 : State} {a1} {a2} {a3} (h1 :
    Keeps ar z a0) :
    Keeps ar z (State.tell a0 a1 a2 a3) := by
  unfold State.tell
  refine keeps_ite h1 ?_
  split
  · exact State.count_keeps (hw.m rfl) h1
  · exact State.tellPort_keeps (hw.m rfl) h1

theorem State.tellAll_keeps {ar : List Area} (hw : Within (Area.telling [.sec]) ar) {z a0 : State} {a1} (h1 : Keeps
    ar z a0) :
    Keeps ar z (State.tellAll a0 a1) := by
  unfold State.tellAll
  exact keeps_ite h1 (keeps_foldl (fun v1 v2 k3 => State.tellPort_keeps (hw.m rfl) k3) h1)

theorem State.topologySend_keeps {ar : List Area} (hw : Within (Area.telling [.sec, .cw]) ar) {z a0 : State} (h1 :
    Keeps ar z a0) :
    Keeps ar z (State.topologySend a0) := by
  unfold State.topologySend
  extract_lets -underBinder -merge +onlyGivenNames v1 v2
  clear_value v1 v2
  exact keeps_ite h1 (State.tellAll_keeps (hw.m rfl) (State.modCw_keeps (hw.m rfl) h1))

theorem State.hello_keeps {ar : List Area} (hw : Within [.ctrs, .links] ar) {z a0 : State} {a1} (h1 : Keeps ar z a0) :
    Keeps ar z (State.hello a0 a1) := by
  unfold State.hello
  exact keeps_ite h1 (State.cwLink_keeps (hw.m rfl) h1)

theorem State.cwLinkEvent_keeps {ar : List Area} (hw : Within Area.told ar) {z a0 : State} {a1} {a2} (h1 : Keeps ar z
    a0) :
    Keeps ar z (State.cwLinkEvent a0 a1 a2) := by
  unfold State.cwLinkEvent
  exact State.raiseOf_keeps (hw.m rfl) h1

theorem State.chainSettle_keeps {ar : List Area} (hw : Within (Area.telling [.eth, .tbl, .cw]) ar) {z a0 : State}
    {a1} (h1 : Keeps ar z a0) :
    Keeps ar z (State.chainSettle a0 a1) := by
  unfold State.chainSettle
  extract_lets -underBinder -merge +onlyGivenNames v1 v2 v3 v4 v5
  clear_value v1 v2 v3 v4 v5
  extract_lets -underBinder -merge +onlyGivenNames v6
  have k7 : Keeps ar z v6 := State.modCw_keeps (hw.m rfl) h1
  clear_value v6
  extract_lets -underBinder -merge +onlyGivenNames v8
  have k9 : Keeps ar z v8 := keeps_ite (State.each_keeps (fun v10 v11 k12 => State.l2Flush_keeps (hw.m rfl) k12) k7) k7
  clear_value v8
  exact keeps_ite (State.raise_keeps (hw.m rfl) k9) k9

theorem State.cwClaim_keeps {ar : List Area} (hw : Within [.eth, .links, .sec] ar) {z a0 : State} {a1} {a2} (h1 :
    Keeps ar z a0) :
    Keeps ar z (State.cwClaim a0 a1 a2) := by
  unfold State.cwClaim
  extract_lets -underBinder -merge +onlyGivenNames v1
  clear_value v1
  refine keeps_ite h1 ?_
  extract_lets -underBinder -merge +onlyGivenNames v2
  clear_value v2
  split
  · exact State.modPort_keeps (hw.m rfl) (State.engineTake_keeps (hw.m rfl) h1)
  · exact keeps_ite h1 (State.modSec_keeps (hw.m rfl) h1)

theorem State.cwUnclaim_keeps {ar : List Area} (hw : Within [.ctrs, .eth, .links, .sec] ar) {z a0 : State} {a1} (h1 :
    Keeps ar z a0) :
    Keeps ar z (State.cwUnclaim a0 a1) := by
  unfold State.cwUnclaim
  extract_lets -underBinder -merge +onlyGivenNames v1
  clear_value v1
  extract_lets -underBinder -merge +onlyGivenNames v2
  have k3 : Keeps ar z v2 := State.each_keeps (fun v4 v5 k6 => State.engineRelease_keeps (hw.m rfl) k6) h1
  clear_value v2
  extract_lets -underBinder -merge +onlyGivenNames v7
  have k8 : Keeps ar z v7 := State.modSec_keeps (hw.m rfl) k3
  clear_value v7
  exact State.modPort_keeps (hw.m rfl) k8

theorem State.cwDerive_keeps {ar : List Area} (hw : Within (Area.telling [.sec]) ar) {z a0 : State} {a1} {a2} {a3}
    (h1 : Keeps ar z a0) :
    Keeps ar z (State.cwDerive a0 a1 a2 a3).1 := by
  unfold State.cwDerive
  extract_lets -underBinder -merge +onlyGivenNames v1
  clear_value v1
  refine keeps_ite1 (keeps_mk1 (State.keyFail_keeps (hw.m rfl) h1)) ?_
  extract_lets -underBinder -merge +onlyGivenNames v2
  clear_value v2
  exact keeps_mk1 (State.keyUse_keeps (hw.m rfl) h1)

theorem State.cwSession_keeps {ar : List Area} (hw : Within (Area.telling [.eth, .sec]) ar) {z a0 : State} {a1} (h1 :
    Keeps ar z a0) :
    Keeps ar z (State.cwSession a0 a1) := by
  unfold State.cwSession
  extract_lets -underBinder -merge +onlyGivenNames v1
  clear_value v1
  refine keeps_ite h1 ?_
  split
  rename_i v2 v3 v4 e5
  have k6 : Keeps ar z v3 := keeps_fst e5 (State.cwDerive_keeps (hw.m rfl) h1)
  split
  rename_i v7 v8 v9 e10
  have k11 : Keeps ar z v8 := keeps_fst e10 (State.cwDerive_keeps (hw.m rfl) k6)
  exact State.modPort_keeps (hw.m rfl) k11

theorem State.encJudge_keeps {ar : List Area} (hw : Within (Area.telling [.eth, .sw]) ar) {z a0 : State} {a1} (h1 :
    Keeps ar z a0) :
    Keeps ar z (State.encJudge a0 a1) := by
  unfold State.encJudge
  extract_lets -underBinder -merge +onlyGivenNames v1 v2
  clear_value v1 v2
  refine keeps_ite h1 ?_
  extract_lets -underBinder -merge +onlyGivenNames v3
  have k4 : Keeps ar z v3 := State.modPort_keeps (hw.m rfl) h1
  clear_value v3
  extract_lets -underBinder -merge +onlyGivenNames v5
  have k6 : Keeps ar z v5 := keeps_ite (State.cwLinkEvent_keeps (hw.m rfl) k4) k4
  clear_value v5
  exact keeps_ite k6 (keeps_ite (State.holdEnter_keeps (hw.m rfl) k6) (State.holdLeave_keeps (hw.m rfl) k6))

theorem State.cwNonce_keeps {ar : List Area} (hw : Within (Area.telling [.eth, .sw]) ar) {z a0 : State} {a1} (h1 :
    Keeps ar z a0) :
    Keeps ar z (State.cwNonce a0 a1) := by
  unfold State.cwNonce
  split
  rename_i v1 v2 v3 e4
  have k5 : Keeps ar z v3 := keeps_snd e4 (State.drawBytes_keeps h1)
  exact State.encJudge_keeps (hw.m rfl) (State.modPort_keeps (hw.m rfl) k5)

theorem State.nbLost_keeps {ar : List Area} (hw : Within (Area.telling [.eth, .tbl, .sw, .sec, .cw]) ar) {z a0 :
    State} {a1} (h1 : Keeps ar z a0) :
    Keeps ar z (State.nbLost a0 a1) := by
  unfold State.nbLost
  refine keeps_ite h1 ?_
  extract_lets -underBinder -merge +onlyGivenNames v1
  clear_value v1
  extract_lets -underBinder -merge +onlyGivenNames v2
  have k3 : Keeps ar z v2 := State.modPort_keeps (hw.m rfl) h1
  clear_value v2
  exact State.topologySend_keeps (hw.m rfl) (State.chainSettle_keeps (hw.m rfl) (State.encJudge_keeps (hw.m rfl)
      (State.cwLinkEvent_keeps (hw.m rfl) k3)))

theorem State.cwLinkUp_keeps {ar : List Area} (hw : Within (Area.telling [.eth, .sw]) ar) {z a0 : State} {a1} (h1 :
    Keeps ar z a0) :
    Keeps ar z (State.cwLinkUp a0 a1) := by
  unfold State.cwLinkUp
  exact keeps_ite h1 (State.hello_keeps (hw.m rfl) (State.cwNonce_keeps (hw.m rfl) h1))

theorem State.cwRenew_keeps {ar : List Area} (hw : Within (Area.telling [.eth, .tbl, .sw, .sec, .cw]) ar) {z a0 :
    State} {a1} (h1 : Keeps ar z a0) :
    Keeps ar z (State.cwRenew a0 a1) := by
  unfold State.cwRenew
  extract_lets -underBinder -merge +onlyGivenNames v1
  have k2 : Keeps ar z v1 := State.cwUnclaim_keeps (hw.m rfl) (State.nbLost_keeps (hw.m rfl) h1)
  clear_value v1
  extract_lets -underBinder -merge +onlyGivenNames v3
  have k4 : Keeps ar z v3 := State.cwClaim_keeps (hw.m rfl) (State.cwClaim_keeps (hw.m rfl) k2)
  clear_value v3
  exact State.hello_keeps (hw.m rfl) (State.encJudge_keeps (hw.m rfl) (State.cwNonce_keeps (hw.m rfl) k4))

theorem State.encReview_keeps {ar : List Area} (hw : Within (Area.telling [.eth, .sw]) ar) {z a0 : State} (h1 : Keeps
    ar z a0) :
    Keeps ar z (State.encReview a0) := by
  unfold State.encReview
  refine State.each_keeps ?_ h1
  intro v1 v2 k3
  extract_lets -underBinder -merge +onlyGivenNames v4 v5
  clear_value v4 v5
  exact keeps_ite (State.encJudge_keeps (hw.m rfl) (State.modPort_keeps (hw.m rfl) k3)) k3

theorem State.encResume_keeps {ar : List Area} (hw : Within (Area.telling [.eth, .sw, .sec]) ar) {z a0 : State} {a1}
    (h1 : Keeps ar z a0) :
    Keeps ar z (State.encResume a0 a1) := by
  unfold State.encResume
  refine State.each_keeps ?_ h1
  intro v1 v2 k3
  extract_lets -underBinder -merge +onlyGivenNames v4
  clear_value v4
  exact keeps_ite (State.hello_keeps (hw.m rfl) (State.cwNonce_keeps (hw.m rfl) (State.cwClaim_keeps (hw.m rfl)
      (State.cwClaim_keeps (hw.m rfl) k3)))) k3

end Sys2Proof.Machine
end

