-- ==== Sys2Proof/Laws/KeepsFlow.lean ====
section
/-! SUPPORT. What the operations of Flow, Collector, Parse, Tables keep, and which areas they may move. -/

set_option Elab.async false

namespace Sys2Proof.Machine

open Sys2Proof

theorem State.lookupsDrop_keeps {ar : List Area} (hw : Within [.ctrs, .tbl, .sw] ar) {z a0 : State} {a1} (h1 : Keeps
    ar z a0) :
    Keeps ar z (State.lookupsDrop a0 a1) := by
  unfold State.lookupsDrop
  extract_lets -underBinder -merge +onlyGivenNames v1
  clear_value v1
  extract_lets -underBinder -merge +onlyGivenNames v2
  have k3 : Keeps ar z v2 := State.modTbl_keeps (hw.m rfl) h1
  clear_value v2
  exact State.each_keeps (fun v4 v5 k6 => State.count_keeps (hw.m rfl) k6) (State.modFrame_keeps (hw.m rfl) k3)

theorem State.policeDebit_keeps {ar : List Area} (hw : Within [.parse, .sw] ar) {z a0 : State} {a1} (h1 : Keeps ar z
    a0) :
    Keeps ar z (State.policeDebit a0 a1) := by
  unfold State.policeDebit
  extract_lets -underBinder -merge +onlyGivenNames v1
  clear_value v1
  exact keeps_ite h1 (State.modFrame_keeps (hw.m rfl) (State.modPolicer_keeps (hw.m rfl) h1))

theorem State.policeCount_keeps {ar : List Area} (hw : Within [.ctrs] ar) {z a0 : State} {a1} (h1 : Keeps ar z a0) :
    Keeps ar z (State.policeCount a0 a1) := by
  unfold State.policeCount
  extract_lets -underBinder -merge +onlyGivenNames v1
  clear_value v1
  refine keeps_ite h1 ?_
  extract_lets -underBinder -merge +onlyGivenNames v2
  clear_value v2
  exact State.count_keeps (hw.m rfl) (State.count_keeps (hw.m rfl) h1)

theorem State.spoilFrame_keeps {ar : List Area} (hw : Within (Area.telling [.eth, .buses, .parse, .tbl, .sw, .sig,
    .tide]) ar) {z a0 : State} {a1} (h1 : Keeps ar z a0) :
    Keeps ar z (State.spoilFrame a0 a1) := by
  unfold State.spoilFrame
  extract_lets -underBinder -merge +onlyGivenNames v1
  clear_value v1
  refine keeps_ite h1 ?_
  extract_lets -underBinder -merge +onlyGivenNames v2
  have k3 : Keeps ar z v2 := State.each_keeps (fun v4 v5 k6 => State.tqRewind_keeps (hw.m rfl) k6) h1
  clear_value v2
  extract_lets -underBinder -merge +onlyGivenNames v7
  have k8 : Keeps ar z v7 := State.policeDebit_keeps (hw.m rfl) (State.lookupsDrop_keeps (hw.m rfl) k3)
  clear_value v7
  extract_lets -underBinder -merge +onlyGivenNames v9
  have k10 : Keeps ar z v9 := State.specEnd_keeps (hw.m rfl) k8
  clear_value v9
  exact State.frameSpoil_keeps (hw.m rfl) k10

theorem State.mirrorOut_keeps {ar : List Area} {z a0 : State} {a1} {a2} (h1 : Keeps ar z a0) :
    Keeps ar z (State.mirrorOut a0 a1 a2) := by
  unfold State.mirrorOut
  exact keeps_ite (State.send_keeps h1) h1

theorem State.txCut_keeps {ar : List Area} (hw : Within (Area.telling [.eth, .sw]) ar) {z a0 : State} {a1} (h1 :
    Keeps ar z a0) :
    Keeps ar z (State.txCut a0 a1) := by
  unfold State.txCut
  split
  · exact h1
  · extract_lets -underBinder -merge +onlyGivenNames v1
    have k2 : Keeps ar z v1 := State.send_keeps (State.modPort_keeps (hw.m rfl) h1)
    clear_value v1
    exact State.releaseRef_keeps (hw.m rfl) (State.count_keeps (hw.m rfl) k2)

theorem State.linkLost_keeps {ar : List Area} (hw : Within (Area.telling [.eth, .buses, .parse, .tbl, .sw, .sig,
    .tide, .sec, .cw]) ar) {z a0 : State} {a1} (h1 : Keeps ar z a0) :
    Keeps ar z (State.linkLost a0 a1) := by
  unfold State.linkLost
  extract_lets -underBinder -merge +onlyGivenNames v1
  clear_value v1
  refine keeps_ite h1 ?_
  extract_lets -underBinder -merge +onlyGivenNames v2
  have k3 : Keeps ar z v2 := State.txCut_keeps (hw.m rfl) (State.creditRun_keeps (hw.m rfl) h1)
  clear_value v2
  extract_lets -underBinder -merge +onlyGivenNames v4
  have k5 : Keeps ar z v4 := by
    unfold v4
    split
    · exact State.spoilFrame_keeps (hw.m rfl) k3
    · exact k3
  clear_value v4
  extract_lets -underBinder -merge +onlyGivenNames v6
  have k7 : Keeps ar z v6 := State.modPort_keeps (hw.m rfl) k5
  clear_value v6
  extract_lets -underBinder -merge +onlyGivenNames v8
  have k9 : Keeps ar z v8 := State.raiseOf_keeps (hw.m rfl) k7
  clear_value v8
  extract_lets -underBinder -merge +onlyGivenNames v10
  have k11 : Keeps ar z v10 := keeps_ite (State.mirrorOut_keeps (State.l2Flush_keeps (hw.m rfl) k9)) k9
  clear_value v10
  extract_lets -underBinder -merge +onlyGivenNames v12
  have k13 : Keeps ar z v12 := keeps_ite k11 (State.holdEnter_keeps (hw.m rfl) k11)
  clear_value v12
  exact State.encJudge_keeps (hw.m rfl) (State.nbLost_keeps (hw.m rfl) k13)

theorem State.linkRaised_keeps {ar : List Area} (hw : Within (Area.telling [.eth, .sw]) ar) {z a0 : State} {a1} (h1 :
    Keeps ar z a0) :
    Keeps ar z (State.linkRaised a0 a1) := by
  unfold State.linkRaised
  extract_lets -underBinder -merge +onlyGivenNames v1
  clear_value v1
  refine keeps_ite h1 ?_
  extract_lets -underBinder -merge +onlyGivenNames v2
  have k3 : Keeps ar z v2 := State.modPort_keeps (hw.m rfl) h1
  clear_value v2
  extract_lets -underBinder -merge +onlyGivenNames v4
  have k5 : Keeps ar z v4 := keeps_ite k3 (State.holdLeave_keeps (hw.m rfl) k3)
  clear_value v4
  extract_lets -underBinder -merge +onlyGivenNames v6
  have k7 : Keeps ar z v6 := keeps_ite (State.send_keeps k5) k5
  clear_value v6
  exact State.pauseSend_keeps (hw.m rfl) (State.cwLinkUp_keeps (hw.m rfl) (State.raiseOf_keeps (hw.m rfl) k7))

theorem State.busRxSpoil_keeps {ar : List Area} (hw : Within (Area.telling [.eth, .buses, .parse, .tbl, .sw, .sig,
    .tide, .sec]) ar) {z a0 : State} {a1} (h1 : Keeps ar z a0) :
    Keeps ar z (State.busRxSpoil a0 a1) := by
  unfold State.busRxSpoil
  split
  · exact h1
  · extract_lets -underBinder -merge +onlyGivenNames v1
    have k2 : Keeps ar z v1 := State.modBus_keeps (hw.m rfl) h1
    clear_value v1
    refine keeps_ite ?_ (keeps_ite (State.tqRewind_keeps (hw.m rfl) k2) (keeps_ite (State.spoilFrame_keeps (hw.m rfl)
        k2) k2))
    extract_lets -underBinder -merge +onlyGivenNames v3
    have k4 : Keeps ar z v3 := by
      unfold v3
      split
      · exact State.engineRelease_keeps (hw.m rfl) k2
      · exact k2
    clear_value v3
    extract_lets -underBinder -merge +onlyGivenNames v5
    have k6 : Keeps ar z v5 := State.modSec_keeps (hw.m rfl) k4
    clear_value v5
    extract_lets -underBinder -merge +onlyGivenNames v7
    have k8 : Keeps ar z v7 := State.modTbl_keeps (hw.m rfl) k6
    clear_value v7
    exact State.count_keeps (hw.m rfl) (State.specEnd_keeps (hw.m rfl) k8)

theorem State.bufReturnAll_keeps {ar : List Area} (hw : Within [.buses] ar) {z a0 : State} {a1} (h1 : Keeps ar z a0) :
    Keeps ar z (State.bufReturnAll a0 a1) := by
  unfold State.bufReturnAll
  extract_lets -underBinder -merge +onlyGivenNames v1
  have k2 : Keeps ar z v1 := State.modTx_keeps (hw.m rfl) h1
  clear_value v1
  exact State.bufReturn_keeps (hw.m rfl) (State.bufReturn_keeps (hw.m rfl) (State.bufReturn_keeps (hw.m rfl) k2))

theorem State.busIsolate_keeps {ar : List Area} (hw : Within (Area.telling [.eth, .buses, .parse, .tbl, .sw, .sig,
    .tide, .sec]) ar) {z a0 : State} {a1} (h1 : Keeps ar z a0) :
    Keeps ar z (State.busIsolate a0 a1) := by
  unfold State.busIsolate
  extract_lets -underBinder -merge +onlyGivenNames v1
  have k2 : Keeps ar z v1 := State.bufReturnAll_keeps (hw.m rfl) (State.busRxSpoil_keeps (hw.m rfl) h1)
  clear_value v1
  exact State.modBus_keeps (hw.m rfl) k2

theorem State.busReload_keeps {ar : List Area} (hw : Within (Area.telling [.buses]) ar) {z a0 : State} {a1} (h1 :
    Keeps ar z a0) :
    Keeps ar z (State.busReload a0 a1) := by
  unfold State.busReload
  extract_lets -underBinder -merge +onlyGivenNames v1
  clear_value v1
  extract_lets -underBinder -merge +onlyGivenNames v2
  have k3 : Keeps ar z v2 := State.modBus_keeps (hw.m rfl) h1
  clear_value v2
  exact keeps_ite (State.raiseOf_keeps (hw.m rfl) k3) k3

theorem State.ringStop_keeps {ar : List Area} (hw : Within [.tide] ar) {z a0 : State} {a1} (h1 : Keeps ar z a0) :
    Keeps ar z (State.ringStop a0 a1) := by
  unfold State.ringStop
  exact State.modRing_keeps (hw.m rfl) h1

theorem State.audioRestart_keeps {ar : List Area} (hw : Within [.aud] ar) {z a0 : State} (h1 : Keeps ar z a0) :
    Keeps ar z (State.audioRestart a0) := by
  unfold State.audioRestart
  exact State.modAud_keeps (hw.m rfl) h1

theorem State.txStarve_keeps {ar : List Area} (hw : Within [.ctrs, .eth, .links] ar) {z a0 : State} {a1} {a2} (h1 :
    Keeps ar z a0) :
    Keeps ar z (State.txStarve a0 a1 a2) := by
  unfold State.txStarve
  split
  · exact h1
  · refine keeps_ite h1 ?_
    split
    rename_i v1 v2 v3 e4
    have k5 : Keeps ar z v3 := keeps_snd e4 (State.drawBelow_keeps h1)
    extract_lets -underBinder -merge +onlyGivenNames v6
    have k7 : Keeps ar z v6 := State.modPort_keeps (hw.m rfl) k5
    clear_value v6
    exact keeps_ite (State.count_keeps (hw.m rfl) k7) k7

theorem State.bufferClear_keeps {ar : List Area} (hw : Within (Area.telling [.eth, .buses, .parse, .tbl, .sw, .sig,
    .tide]) ar) {z a0 : State} (h1 : Keeps ar z a0) :
    Keeps ar z (State.bufferClear a0) := by
  unfold State.bufferClear
  extract_lets -underBinder -merge +onlyGivenNames v1
  have k2 : Keeps ar z v1 := State.each_keeps (fun v3 v4 k5 => State.count_keeps (hw.m rfl) k5) h1
  clear_value v1
  extract_lets -underBinder -merge +onlyGivenNames v6
  clear_value v6
  extract_lets -underBinder -merge +onlyGivenNames v7
  have k8 : Keeps ar z v7 := State.each_keeps (fun v9 v10 k11 => State.spoilFrame_keeps (hw.m rfl) k11) k2
  clear_value v7
  extract_lets -underBinder -merge +onlyGivenNames v12
  have k13 : Keeps ar z v12 := State.each_keeps (fun v14 v15 k16 => State.txStarve_keeps (hw.m rfl) k16) k8
  clear_value v12
  extract_lets -underBinder -merge +onlyGivenNames v17
  have k18 : Keeps ar z v17 := State.each_keeps (fun v19 v20 k21 => State.modPort_keeps (hw.m rfl) k21) k13
  clear_value v17
  extract_lets -underBinder -merge +onlyGivenNames v22
  have k23 : Keeps ar z v22 := State.each_keeps (fun v24 v25 k26 => State.modTx_keeps (hw.m rfl) k26) k18
  clear_value v22
  extract_lets -underBinder -merge +onlyGivenNames v27
  clear_value v27
  extract_lets -underBinder -merge +onlyGivenNames v28
  have k29 : Keeps ar z v28 := State.modSw_keeps (hw.m rfl) k23
  clear_value v28
  exact State.each_keeps (fun v30 v31 k32 => State.pauseJudge_keeps (hw.m rfl) k32) (keeps_foldl (fun v33 v34 k35 =>
    State.poolJudge_keeps (hw.m rfl) k35) k29)

theorem State.undo_keeps {ar : List Area} (hw : Within (Area.telling [.chans, .eth, .buses, .sw, .twin, .boot]) ar)
    {z a0 : State} {a1} {a2} (h1 : Keeps ar z a0) :
    Keeps ar z (State.undo a0 a1 a2) := by
  unfold State.undo
  extract_lets -underBinder -merge +onlyGivenNames v1
  clear_value v1
  refine keeps_ite (State.modPort_keeps (hw.m rfl) h1) ?_
  refine keeps_ite (State.modPort_keeps (hw.m rfl) h1) ?_
  refine keeps_ite ?_ (keeps_ite (State.modTwin_keeps (hw.m rfl) h1) (keeps_ite (State.modBoot_keeps (hw.m rfl) h1) h1))
  extract_lets -underBinder -merge +onlyGivenNames v2
  have k3 : Keeps ar z v2 := State.modTx_keeps (hw.m rfl) h1
  clear_value v2
  exact keeps_ite k3 (State.refill_keeps (hw.m rfl) k3)

theorem State.commandsFault_keeps {ar : List Area} (hw : Within (Area.telling [.windows, .mbx, .chans, .eth, .buses,
    .sw, .twin, .cw, .boot]) ar) {z a0 : State} {a1} {a2} (h1 : Keeps ar z a0) :
    Keeps ar z (State.commandsFault a0 a1 a2) := by
  unfold State.commandsFault
  refine keeps_foldl ?_ h1
  intro v1 v2 k3
  split
  · exact keeps_ite (State.complete_keeps (hw.m rfl) (keeps_ite (State.undo_keeps (hw.m rfl) k3) k3)) (keeps_ite
      (State.commitFault_keeps (hw.m rfl)
      k3) k3)
  · exact k3

theorem State.tdmStop_keeps {ar : List Area} (hw : Within [.aud] ar) {z a0 : State} {a1} (h1 : Keeps ar z a0) :
    Keeps ar z (State.tdmStop a0 a1) := by
  unfold State.tdmStop
  exact State.modTdm_keeps (hw.m rfl) h1

theorem State.controlIsolate_keeps {ar : List Area} (hw : Within (Area.telling [.tide, .flt, .twin, .boot]) ar) {z a0
    : State} (h1 : Keeps ar z a0) :
    Keeps ar z (State.controlIsolate a0) := by
  unfold State.controlIsolate
  extract_lets -underBinder -merge +onlyGivenNames v1
  have k2 : Keeps ar z v1 := State.modTwin_keeps (hw.m rfl) (State.modBoot_keeps (hw.m rfl) h1)
  clear_value v1
  extract_lets -underBinder -merge +onlyGivenNames v3
  have k4 : Keeps ar z v3 := State.ringsRestart_keeps (hw.m rfl) (State.tideQueuesRestart_keeps (hw.m rfl)
      (State.setDevState_keeps (hw.m rfl) k2))
  clear_value v3
  exact State.modFlt_keeps (hw.m rfl) k4

theorem State.wireQuiet_keeps {ar : List Area} (hw : Within [.flt] ar) {z a0 : State} {a1} (h1 : Keeps ar z a0) :
    Keeps ar z (State.wireQuiet a0 a1) := by
  unfold State.wireQuiet
  exact keeps_ite h1 (State.modSrc_keeps (hw.m rfl) h1)

theorem State.cipherCut_keeps {ar : List Area} (hw : Within (Area.telling [.eth, .buses, .parse, .tbl, .sw, .sig,
    .tide]) ar) {z a0 : State} (h1 : Keeps ar z a0) :
    Keeps ar z (State.cipherCut a0) := by
  unfold State.cipherCut
  exact State.each_keeps (fun v1 v2 k3 => State.txStarve_keeps (hw.m rfl) (State.each_keeps (fun v4 v5 k6 =>
    State.spoilFrame_keeps (hw.m rfl) k6) k3)) h1

theorem State.isolateEffects_keeps {ar : List Area} (hw : Within (Area.but [.windows, .host, .mbx, .islands, .chans,
    .units, .time, .slp]) ar) {z a0 : State} {a1} (h1 : Keeps ar z a0) :
    Keeps ar z (State.isolateEffects a0 a1) := by
  unfold State.isolateEffects
  extract_lets -underBinder -merge +onlyGivenNames v1
  have k2 : Keeps ar z v1 := State.modFlt_keeps (hw.m rfl) h1
  clear_value v1
  extract_lets -underBinder -merge +onlyGivenNames v3
  have k4 : Keeps ar z v3 := keeps_ite k2 (State.wireQuiet_keeps (hw.m rfl) k2)
  clear_value v3
  refine keeps_ite ?_ (keeps_ite (State.bufferClear_keeps (hw.m rfl) k4) (keeps_ite (State.audioRestart_keeps (hw.m rfl)
    (State.signalRestart_keeps (hw.m rfl) k4)) (keeps_ite (State.encReview_keeps (hw.m rfl)
        (State.securityReset_keeps (hw.m rfl)
    (State.cipherCut_keeps (hw.m rfl) k4))) (keeps_ite (State.controlIsolate_keeps (hw.m rfl) k4) k4))))
  extract_lets -underBinder -merge +onlyGivenNames v5
  have k6 : Keeps ar z v5 := State.each_keeps (fun v7 v8 k9 => State.linkLost_keeps (hw.m rfl) k9) k4
  clear_value v5
  extract_lets -underBinder -merge +onlyGivenNames v10
  have k11 : Keeps ar z v10 := State.each_keeps (fun v12 v13 k14 => State.busIsolate_keeps (hw.m rfl) k14) k6
  clear_value v10
  exact State.each_keeps (fun v15 v16 k17 => State.tdmStop_keeps (hw.m rfl) k17) k11

theorem State.unitEffects_keeps {ar : List Area} (hw : Within (Area.telling [.eth, .buses, .parse, .tbl, .sw, .sig,
    .aud, .tide, .sec, .cw]) ar) {z a0 : State} {a1} (h1 : Keeps ar z a0) :
    Keeps ar z (State.unitEffects a0 a1) := by
  unfold State.unitEffects
  extract_lets -underBinder -merge +onlyGivenNames v1
  clear_value v1
  exact keeps_ite (keeps_ite (State.busIsolate_keeps (hw.m rfl) h1) (keeps_ite (State.each_keeps (fun v2 v3 k4 =>
    State.linkLost_keeps (hw.m rfl) k4) h1) (keeps_ite (State.each_keeps (fun v5 v6 k7 => State.linkLost_keeps (hw.m
        rfl) k7) h1)
    (keeps_ite (State.tdmStop_keeps (hw.m rfl) h1) (keeps_ite (State.each_keeps (fun v8 v9 k10 =>
        State.linkLost_keeps (hw.m rfl) k10) h1)
    (keeps_ite (State.each_keeps (fun v11 v12 k13 => State.linkLost_keeps (hw.m rfl) k13) h1) h1)))))) (keeps_ite
        (keeps_ite
    (State.modTbl_keeps (hw.m rfl) h1) (keeps_ite (State.bufferClear_keeps (hw.m rfl) h1) (keeps_ite
        (State.each_keeps (fun v14 v15 k16 =>
    State.spoilFrame_keeps (hw.m rfl) k16) h1) h1))) (keeps_ite (keeps_ite (State.signalRestart_keeps (hw.m rfl) h1)
    (State.audioRestart_keeps (hw.m rfl) h1)) (keeps_ite (keeps_ite (State.encReview_keeps (hw.m rfl)
        (State.engineRelease_keeps (hw.m rfl) h1)) h1)
    (keeps_ite (keeps_ite (State.tideQueuesRestart_keeps (hw.m rfl) h1) (keeps_ite (State.ringsRestart_keeps (hw.m
        rfl) h1) h1)) h1))))

theorem State.restartIsland_keeps {ar : List Area} (hw : Within (Area.but [.host, .time, .slp]) ar) {z a0 : State}
    {a1} {a2} (h1 : Keeps ar z a0) :
    Keeps ar z (State.restartIsland a0 a1 a2) := by
  unfold State.restartIsland
  extract_lets -underBinder -merge +onlyGivenNames v1
  clear_value v1
  refine keeps_ite h1 ?_
  extract_lets -underBinder -merge +onlyGivenNames v2
  have k3 : Keeps ar z v2 := State.modIsl_keeps (hw.m rfl) h1
  clear_value v2
  extract_lets -underBinder -merge +onlyGivenNames v4
  have k5 : Keeps ar z v4 := keeps_same hw k3
  clear_value v4
  exact State.commandsFault_keeps (hw.m rfl) (State.isolateEffects_keeps (hw.m rfl) k5)

theorem State.restartUnit_keeps {ar : List Area} (hw : Within (Area.but [.host, .islands, .time, .flt, .slp]) ar) {z
    a0 : State} {a1} {a2} (h1 : Keeps ar z a0) :
    Keeps ar z (State.restartUnit a0 a1 a2) := by
  unfold State.restartUnit
  extract_lets -underBinder -merge +onlyGivenNames v1
  clear_value v1
  refine keeps_ite h1 ?_
  extract_lets -underBinder -merge +onlyGivenNames v2
  have k3 : Keeps ar z v2 := State.modUnitSt_keeps (hw.m rfl) h1
  clear_value v2
  exact State.commandsFault_keeps (hw.m rfl) (State.unitEffects_keeps (hw.m rfl) k3)

theorem State.holdIsland_keeps {ar : List Area} (hw : Within (Area.but [.host, .units, .time, .slp]) ar) {z a0 :
    State} {a1} {a2} (h1 : Keeps ar z a0) :
    Keeps ar z (State.holdIsland a0 a1 a2) := by
  unfold State.holdIsland
  extract_lets -underBinder -merge +onlyGivenNames v1
  clear_value v1
  refine keeps_ite h1 ?_
  extract_lets -underBinder -merge +onlyGivenNames v2
  clear_value v2
  extract_lets -underBinder -merge +onlyGivenNames v3
  have k4 : Keeps ar z v3 := State.modIsl_keeps (hw.m rfl) h1
  clear_value v3
  exact State.commandsFault_keeps (hw.m rfl) (keeps_ite (State.isolateEffects_keeps (hw.m rfl) k4) k4)

theorem State.holdUnit_keeps {ar : List Area} (hw : Within (Area.but [.host, .islands, .time, .flt, .slp]) ar) {z a0
    : State} {a1} {a2} (h1 : Keeps ar z a0) :
    Keeps ar z (State.holdUnit a0 a1 a2) := by
  unfold State.holdUnit
  extract_lets -underBinder -merge +onlyGivenNames v1
  clear_value v1
  refine keeps_ite h1 ?_
  extract_lets -underBinder -merge +onlyGivenNames v2
  have k3 : Keeps ar z v2 := State.modUnitSt_keeps (hw.m rfl) h1
  clear_value v2
  exact State.commandsFault_keeps (hw.m rfl) (keeps_ite k3 (State.unitEffects_keeps (hw.m rfl) k3))

theorem State.timeOutsInactive_keeps {ar : List Area} (hw : Within [.time] ar) {z a0 : State} (h1 : Keeps ar z a0) :
    Keeps ar z (State.timeOutsInactive a0) := by
  unfold State.timeOutsInactive
  exact State.modTime_keeps (hw.m rfl) h1

theorem State.tdmInactive_keeps {ar : List Area} (hw : Within [.aud] ar) {z a0 : State} (h1 : Keeps ar z a0) :
    Keeps ar z (State.tdmInactive a0) := by
  unfold State.tdmInactive
  exact State.modAud_keeps (hw.m rfl) h1

theorem State.safeState_keeps {ar : List Area} (hw : Within (Area.but [.host, .units, .slp]) ar) {z a0 : State} (h1 :
    Keeps ar z a0) :
    Keeps ar z (State.safeState a0) := by
  unfold State.safeState
  refine keeps_ite h1 ?_
  extract_lets -underBinder -merge +onlyGivenNames v1
  have k2 : Keeps ar z v1 := State.setDevState_keeps (hw.m rfl) h1
  clear_value v1
  extract_lets -underBinder -merge +onlyGivenNames v3
  clear_value v3
  extract_lets -underBinder -merge +onlyGivenNames v4
  have k5 : Keeps ar z v4 := by
    unfold v4
    refine State.each_keeps ?_ k2
    intro v6 v7 k8
    extract_lets -underBinder -merge +onlyGivenNames v9
    clear_value v9
    extract_lets -underBinder -merge +onlyGivenNames v10
    have k11 : Keeps ar z v10 := State.modIsl_keeps (hw.m rfl) k8
    clear_value v10
    exact State.commandsFault_keeps (hw.m rfl) (keeps_ite (State.isolateEffects_keeps (hw.m rfl) k11) k11)
  clear_value v4
  extract_lets -underBinder -merge +onlyGivenNames v12
  have k13 : Keeps ar z v12 := State.each_keeps (fun v14 v15 k16 => State.modBus_keeps (hw.m rfl) k16) k5
  clear_value v12
  extract_lets -underBinder -merge +onlyGivenNames v17
  have k18 : Keeps ar z v17 := State.each_keeps (fun v19 v20 k21 => State.modEngine_keeps (hw.m rfl) k21) k13
  clear_value v17
  extract_lets -underBinder -merge +onlyGivenNames v22
  have k23 : Keeps ar z v22 := State.each_keeps (fun v24 v25 k26 => keeps_ite (State.modMb_keeps (hw.m rfl) k26) k26)
      k18
  clear_value v22
  refine keeps_ite ?_ (State.tdmInactive_keeps (hw.m rfl) (State.timeOutsInactive_keeps (hw.m rfl) k23))
  extract_lets -underBinder -merge +onlyGivenNames v27
  have k28 : Keeps ar z v27 := State.modAud_keeps (hw.m rfl) k23
  clear_value v27
  exact State.modBoot_keeps (hw.m rfl) k28

theorem State.closeWindow_keeps {ar : List Area} (hw : Within (Area.telling [.flt]) ar) {z a0 : State} (h1 : Keeps ar
    z a0) :
    Keeps ar z (State.closeWindow a0) := by
  unfold State.closeWindow
  split
  · exact State.modFlt_keeps (hw.m rfl) h1
  · extract_lets -underBinder -merge +onlyGivenNames v1
    have k2 : Keeps ar z v1 := State.count_keeps (hw.m rfl) h1
    clear_value v1
    extract_lets -underBinder -merge +onlyGivenNames v3
    have k4 : Keeps ar z v3 := keeps_ite k2 (State.count_keeps (hw.m rfl) k2)
    clear_value v3
    extract_lets -underBinder -merge +onlyGivenNames v5
    have k6 : Keeps ar z v5 := State.modFlt_keeps (hw.m rfl) k4
    clear_value v5
    refine keeps_ite k6 ?_
    extract_lets -underBinder -merge +onlyGivenNames v7
    clear_value v7
    exact State.raise_keeps (hw.m rfl) (State.modFlt_keeps (hw.m rfl) k6)

theorem State.joinWindow_keeps {ar : List Area} (hw : Within (Area.telling [.flt]) ar) {z a0 : State} {a1} (h1 :
    Keeps ar z a0) :
    Keeps ar z (State.joinWindow a0 a1) := by
  unfold State.joinWindow
  extract_lets -underBinder -merge +onlyGivenNames v1
  have k2 : Keeps ar z v1 := by
    unfold v1
    split
    · exact keeps_ite (State.closeWindow_keeps (hw.m rfl) h1) h1
    · exact h1
  clear_value v1
  exact keeps_ite (State.modFlt_keeps (hw.m rfl) k2) (State.modFlt_keeps (hw.m rfl) k2)

theorem State.faultAction_keeps {ar : List Area} (hw : Within (Area.but [.host, .slp]) ar) {z a0 : State} {a1} {a2}
    {a3} (h1 : Keeps ar z a0) :
    Keeps ar z (State.faultAction a0 a1 a2 a3) := by
  unfold State.faultAction
  extract_lets -underBinder -merge +onlyGivenNames v1
  clear_value v1
  exact keeps_ite h1 (keeps_ite (State.safeState_keeps (hw.m rfl) h1) (keeps_ite (keeps_ite (State.holdIsland_keeps
      (hw.m rfl) h1)
    (State.restartIsland_keeps (hw.m rfl) h1)) (keeps_ite (State.each_keeps (fun v2 v3 k4 => keeps_ite
        (State.holdUnit_keeps (hw.m rfl) k4)
    (State.restartUnit_keeps (hw.m rfl) k4)) h1) h1)))

theorem State.latchEvent_keeps {ar : List Area} (hw : Within Area.told ar) {z a0 : State} {a1} (h1 : Keeps ar z a0) :
    Keeps ar z (State.latchEvent a0 a1) := by
  unfold State.latchEvent
  exact State.raise_keeps (hw.m rfl) (State.count_keeps (hw.m rfl) h1)

theorem State.enterFault_keeps {ar : List Area} (hw : Within (Area.but [.host, .slp]) ar) {z a0 : State} {a1} {a2}
    {a3} (h1 : Keeps ar z a0) :
    Keeps ar z (State.enterFault a0 a1 a2 a3) := by
  unfold State.enterFault
  extract_lets -underBinder -merge +onlyGivenNames v1
  clear_value v1
  refine keeps_ite h1 ?_
  extract_lets -underBinder -merge +onlyGivenNames v2
  extract_lets -underBinder -merge +onlyGivenNames v3 v4
  clear_value v3 v4
  extract_lets -underBinder -merge +onlyGivenNames v5
  have k6 : Keeps ar z v5 := State.modSrc_keeps (hw.m rfl) h1
  clear_value v5
  extract_lets -underBinder -merge +onlyGivenNames v7
  have k8 : Keeps ar z v7 := keeps_ite (State.wireQuiet_keeps (hw.m rfl) k6) k6
  clear_value v7
  extract_lets -underBinder -merge +onlyGivenNames v9
  have k10 : Keeps ar z v9 := State.count_keeps (hw.m rfl) k8
  clear_value v9
  extract_lets -underBinder -merge +onlyGivenNames v11
  have k12 : Keeps ar z v11 := keeps_ite (State.count_keeps (hw.m rfl) k10) k10
  clear_value v11
  extract_lets -underBinder -merge +onlyGivenNames v13
  have k14 : Keeps ar z v13 := State.joinWindow_keeps (hw.m rfl) k12
  clear_value v13
  extract_lets -underBinder -merge +onlyGivenNames v15
  have k16 : Keeps ar z v15 := keeps_ite (State.raise_keeps (hw.m rfl) k14) k14
  clear_value v15
  extract_lets -underBinder -merge +onlyGivenNames v17
  have k18 : Keeps ar z v17 := keeps_ite (State.latchEvent_keeps (hw.m rfl) k16) k16
  clear_value v17
  exact State.faultAction_keeps (hw.m rfl) k18

theorem State.reportOne_keeps {ar : List Area} (hw : Within (Area.but [.host, .slp]) ar) {z a0 : State} {a1} {a2}
    {a3} (h1 : Keeps ar z a0) :
    Keeps ar z (State.reportOne a0 a1 a2 a3) := by
  unfold State.reportOne
  extract_lets -underBinder -merge +onlyGivenNames v1
  have k2 : Keeps ar z v1 := State.modSrc_keeps (hw.m rfl) h1
  clear_value v1
  exact keeps_ite (State.enterFault_keeps (hw.m rfl) k2) k2

theorem State.quieten_keeps {ar : List Area} (hw : Within [.flt] ar) {z a0 : State} {a1} (h1 : Keeps ar z a0) :
    Keeps ar z (State.quieten a0 a1) := by
  unfold State.quieten
  extract_lets -underBinder -merge +onlyGivenNames v1
  have k2 : Keeps ar z v1 := State.modSrc_keeps (hw.m rfl) h1
  clear_value v1
  extract_lets -underBinder -merge +onlyGivenNames v3
  clear_value v3
  exact keeps_ite (State.modSrc_keeps (hw.m rfl) k2) k2

theorem State.toldFlush_keeps {ar : List Area} (hw : Within (Area.but [.host, .slp]) ar) {z a0 : State} (h1 : Keeps
    ar z a0) :
    Keeps ar z (State.toldFlush a0) := by
  unfold State.toldFlush
  refine State.each_keeps ?_ (State.modTbl_keeps (hw.m rfl) h1)
  intro v1 v2 k3
  extract_lets -underBinder -merge +onlyGivenNames v4
  have k5 : Keeps ar z v4 := State.reportOne_keeps (hw.m rfl) k3
  clear_value v4
  exact keeps_ite k5 (State.quieten_keeps (hw.m rfl) k5)

theorem State.report_keeps {ar : List Area} (hw : Within (Area.but [.host, .slp]) ar) {z a0 : State} {a1} {a2} {a3}
    (h1 : Keeps ar z a0) :
    Keeps ar z (State.report a0 a1 a2 a3) := by
  unfold State.report
  exact State.toldFlush_keeps (hw.m rfl) (State.reportOne_keeps (hw.m rfl) h1)

theorem State.pulse_keeps {ar : List Area} (hw : Within (Area.but [.host, .slp]) ar) {z a0 : State} {a1} {a2} {a3}
    (h1 : Keeps ar z a0) :
    Keeps ar z (State.pulse a0 a1 a2 a3) := by
  unfold State.pulse
  exact State.quieten_keeps (hw.m rfl) (State.report_keeps (hw.m rfl) h1)

theorem State.wireReport_keeps {ar : List Area} (hw : Within (Area.but [.host, .slp]) ar) {z a0 : State} {a1} {a2}
    (h1 : Keeps ar z a0) :
    Keeps ar z (State.wireReport a0 a1 a2) := by
  unfold State.wireReport
  extract_lets -underBinder -merge +onlyGivenNames v1
  clear_value v1
  extract_lets -underBinder -merge +onlyGivenNames v2
  have k3 : Keeps ar z v2 := State.report_keeps (hw.m rfl) h1
  clear_value v2
  exact keeps_ite (State.raise_keeps (hw.m rfl) k3) k3

theorem State.breakPair_keeps {ar : List Area} (hw : Within (Area.but [.host, .slp]) ar) {z a0 : State} {a1} (h1 :
    Keeps ar z a0) :
    Keeps ar z (State.breakPair a0 a1) := by
  unfold State.breakPair
  extract_lets -underBinder -merge +onlyGivenNames v1
  clear_value v1
  refine keeps_ite h1 ?_
  extract_lets -underBinder -merge +onlyGivenNames v2
  clear_value v2
  extract_lets -underBinder -merge +onlyGivenNames v3
  extract_lets -underBinder -merge +onlyGivenNames v4
  have k5 : Keeps ar z v4 := State.modSrc_keeps (hw.m rfl) h1
  clear_value v4
  extract_lets -underBinder -merge +onlyGivenNames v6
  have k7 : Keeps ar z v6 := State.count_keeps (hw.m rfl) k5
  clear_value v6
  extract_lets -underBinder -merge +onlyGivenNames v8
  have k9 : Keeps ar z v8 := State.joinWindow_keeps (hw.m rfl) k7
  clear_value v8
  exact keeps_ite k9 (State.wireReport_keeps (hw.m rfl) k9)

theorem State.noteReturn_keeps {ar : List Area} (hw : Within [.flt] ar) {z a0 : State} {a1} (h1 : Keeps ar z a0) :
    Keeps ar z (State.noteReturn a0 a1) := by
  unfold State.noteReturn
  exact State.modFlt_keeps (hw.m rfl) h1

theorem State.unitBack_keeps {ar : List Area} (hw : Within (Area.telling [.windows, .mbx, .chans, .units, .eth,
    .buses, .sw, .sec, .flt, .cw, .boot]) ar) {z a0 : State} {a1} (h1 : Keeps ar z a0) :
    Keeps ar z (State.unitBack a0 a1) := by
  unfold State.unitBack
  extract_lets -underBinder -merge +onlyGivenNames v1
  clear_value v1
  extract_lets -underBinder -merge +onlyGivenNames v2
  have k3 : Keeps ar z v2 := State.modUnitSt_keeps (hw.m rfl) h1
  clear_value v2
  extract_lets -underBinder -merge +onlyGivenNames v4
  have k5 : Keeps ar z v4 := State.count_keeps (hw.m rfl) k3
  clear_value v4
  extract_lets -underBinder -merge +onlyGivenNames v6
  have k7 : Keeps ar z v6 := keeps_ite (State.busReload_keeps (hw.m rfl) k5) (keeps_ite (State.encResume_keeps (hw.m
      rfl) k5) k5)
  clear_value v6
  extract_lets -underBinder -merge +onlyGivenNames v8
  have k9 : Keeps ar z v8 := State.chansBack_keeps (hw.m rfl) k7
  clear_value v8
  extract_lets -underBinder -merge +onlyGivenNames v10
  have k11 : Keeps ar z v10 := State.noteReturn_keeps (hw.m rfl) k9
  clear_value v10
  exact State.commitReturn_keeps (hw.m rfl) (State.raise_keeps (hw.m rfl) k11)

theorem State.islandEffects_keeps {ar : List Area} (hw : Within (Area.but [.host, .slp]) ar) {z a0 : State} {a1} (h1
    : Keeps ar z a0) :
    Keeps ar z (State.islandEffects a0 a1) := by
  unfold State.islandEffects
  refine keeps_ite (State.each_keeps (fun v1 v2 k3 => State.busReload_keeps (hw.m rfl) k3) h1) ?_
  refine keeps_ite (keeps_ite h1 (State.encResume_keeps (hw.m rfl) h1)) ?_
  refine keeps_ite ?_ h1
  extract_lets -underBinder -merge +onlyGivenNames v4
  have k5 : Keeps ar z v4 := State.modBoot_keeps (hw.m rfl) h1
  clear_value v4
  extract_lets -underBinder -merge +onlyGivenNames v6
  have k7 : Keeps ar z v6 := State.setDevState_keeps (hw.m rfl) k5
  clear_value v6
  extract_lets -underBinder -merge +onlyGivenNames v8
  have k9 : Keeps ar z v8 := State.each_keeps (fun v10 v11 k12 => keeps_ite (State.complete_keeps (hw.m rfl) k12)
      k12) k7
  clear_value v8
  exact State.pulse_keeps (hw.m rfl) k9

theorem State.islandBack_keeps {ar : List Area} (hw : Within (Area.but [.host, .slp]) ar) {z a0 : State} {a1} (h1 :
    Keeps ar z a0) :
    Keeps ar z (State.islandBack a0 a1) := by
  unfold State.islandBack
  extract_lets -underBinder -merge +onlyGivenNames v1
  clear_value v1
  extract_lets -underBinder -merge +onlyGivenNames v2
  have k3 : Keeps ar z v2 := State.modIsl_keeps (hw.m rfl) h1
  clear_value v2
  extract_lets -underBinder -merge +onlyGivenNames v4
  have k5 : Keeps ar z v4 := State.chansBack_keeps (hw.m rfl) k3
  clear_value v4
  extract_lets -underBinder -merge +onlyGivenNames v6
  have k7 : Keeps ar z v6 := State.count_keeps (hw.m rfl) k5
  clear_value v6
  extract_lets -underBinder -merge +onlyGivenNames v8
  have k9 : Keeps ar z v8 := State.islandEffects_keeps (hw.m rfl) k7
  clear_value v8
  extract_lets -underBinder -merge +onlyGivenNames v10
  have k11 : Keeps ar z v10 := State.noteReturn_keeps (hw.m rfl) k9
  clear_value v10
  exact State.commitReturn_keeps (hw.m rfl) (State.raise_keeps (hw.m rfl) k11)

theorem State.passHold_keeps {ar : List Area} (hw : Within [.islands, .units] ar) {z a0 : State} {a1} (h1 : Keeps ar
    z a0) :
    Keeps ar z (State.passHold a0 a1) := by
  unfold State.passHold
  extract_lets -underBinder -merge +onlyGivenNames v1
  have k2 : Keeps ar z v1 := by
    unfold v1
    refine State.each_keeps ?_ h1
    intro v3 v4 k5
    refine keeps_ite ?_ k5
    split
    · exact State.modIsl_keeps (hw.m rfl) k5
    · exact k5
  clear_value v1
  refine State.each_keeps ?_ k2
  intro v6 v7 k8
  refine keeps_ite ?_ k8
  split
  · exact State.modUnitSt_keeps (hw.m rfl) k8
  · exact k8

theorem State.clearLatch_keeps {ar : List Area} (hw : Within (Area.but [.host, .slp]) ar) {z a0 : State} {a1} (h1 :
    Keeps ar z a0) :
    Keeps ar z (State.clearLatch a0 a1) := by
  unfold State.clearLatch
  extract_lets -underBinder -merge +onlyGivenNames v1
  have k2 : Keeps ar z v1 := State.passHold_keeps (hw.m rfl) (State.modSrc_keeps (hw.m rfl) h1)
  clear_value v1
  extract_lets -underBinder -merge +onlyGivenNames v3 v4
  clear_value v3 v4
  extract_lets -underBinder -merge +onlyGivenNames v5
  have k6 : Keeps ar z v5 := State.each_keeps (fun v7 v8 k9 => State.modIsl_keeps (hw.m rfl) k9) k2
  clear_value v5
  extract_lets -underBinder -merge +onlyGivenNames v10
  have k11 : Keeps ar z v10 := State.each_keeps (fun v12 v13 k14 => State.modUnitSt_keeps (hw.m rfl) k14) k6
  clear_value v10
  exact keeps_ite (keeps_ite (State.enterFault_keeps (hw.m rfl) k11) k11) (State.modSrc_keeps (hw.m rfl) k11)

theorem State.parserUpdate_keeps {ar : List Area} (hw : Within (Area.telling [.parse]) ar) {z a0 : State} {a1} (h1 :
    Keeps ar z a0) :
    Keeps ar z (State.parserUpdate a0 a1) := by
  unfold State.parserUpdate
  exact keeps_ite h1 (State.raiseOf_keeps (hw.m rfl) (State.modParse_keeps (hw.m rfl) h1))

theorem State.graphBad_keeps {ar : List Area} (hw : Within (Area.but [.host, .slp]) ar) {z a0 : State} {a1} (h1 :
    Keeps ar z a0) :
    Keeps ar z (State.graphBad a0 a1) := by
  unfold State.graphBad
  exact State.report_keeps (hw.m rfl) (State.parserUpdate_keeps (hw.m rfl) (State.modParse_keeps (hw.m rfl) h1))

theorem effectRuleStage_keeps {ar : List Area} (hw : Within [.parse] ar) {z a0 : State} {a1} (h1 : Keeps ar z a0) :
    Keeps ar z (effectRuleStage a0 a1).1 := by
  unfold effectRuleStage
  extract_lets -underBinder -merge +onlyGivenNames v1 v2
  clear_value v1 v2
  exact keeps_mk1 (State.modParse_keeps (hw.m rfl) h1)

theorem execRuleStage_keeps {ar : List Area} (hw : Within (Area.telling [.windows, .mbx, .parse, .cw, .boot]) ar) {z
    : State} {t : Nat} {a1} {s : State} (h : Keeps ar z (s.tick t)) :
    NextKeeps ar z (execRuleStage t a1 s) := by
  unfold execRuleStage
  exact keeps_next (State.simple_keeps (hw.m rfl) h (fun v1 v2 k3 => effectRuleStage_keeps (hw.m rfl) k3))

theorem State.spanOut_keeps {ar : List Area} (hw : Within (Area.telling [.sec]) ar) {z a0 : State} {a1} {a2} (h1 :
    Keeps ar z a0) :
    Keeps ar z (State.spanOut a0 a1 a2) := by
  unfold State.spanOut
  extract_lets -underBinder -merge +onlyGivenNames v1
  have k2 : Keeps ar z v1 := State.mirrorOut_keeps h1
  clear_value v1
  refine keeps_ite ?_ k2
  split
  · exact State.tell_keeps (hw.m rfl) k2
  · exact k2

theorem State.ruleSwitch_keeps {ar : List Area} (hw : Within [.ctrs, .parse] ar) {z a0 : State} {a1} {a2} {a3} (h1 :
    Keeps ar z a0) :
    Keeps ar z (State.ruleSwitch a0 a1 a2 a3) := by
  unfold State.ruleSwitch
  extract_lets -underBinder -merge +onlyGivenNames v1 v2 v3
  clear_value v1 v2 v3
  extract_lets -underBinder -merge +onlyGivenNames v4
  have k5 : Keeps ar z v4 := State.modParse_keeps (hw.m rfl) h1
  clear_value v4
  exact keeps_same hw k5

theorem effectRuleCommit_keeps {ar : List Area} (hw : Within (Area.telling [.parse, .sec]) ar) {z a0 : State} {a1}
    (h1 : Keeps ar z a0) :
    Keeps ar z (effectRuleCommit a0 a1).1 := by
  unfold effectRuleCommit
  extract_lets -underBinder -merge +onlyGivenNames v1 v2 v3 v4
  clear_value v1 v2 v3 v4
  refine keeps_ite1 (keeps_mk1 h1) ?_
  refine keeps_ite1 (keeps_mk1 h1) ?_
  extract_lets -underBinder -merge +onlyGivenNames v5
  have k6 : Keeps ar z v5 := State.ruleSwitch_keeps (hw.m rfl) h1
  clear_value v5
  extract_lets -underBinder -merge +onlyGivenNames v7
  have k8 : Keeps ar z v7 := State.modParse_keeps (hw.m rfl) k6
  clear_value v7
  extract_lets -underBinder -merge +onlyGivenNames v9
  have k10 : Keeps ar z v9 := State.spanOut_keeps (hw.m rfl) k8
  clear_value v9
  exact keeps_mk1 (State.raiseOf_keeps (hw.m rfl) (State.parserUpdate_keeps (hw.m rfl) k10))

theorem State.commitFinish_keeps {ar : List Area} (hw : Within (Area.telling [.windows, .mbx, .cw, .boot]) ar) {z a0
    : State} {a1} {a2} {a3} {a4} (h1 : Keeps ar z a0) :
    Keeps ar z (State.commitFinish a0 a1 a2 a3 a4) := by
  unfold State.commitFinish
  refine keeps_ite (State.complete_keeps (hw.m rfl) h1) ?_
  extract_lets -underBinder -merge +onlyGivenNames v1
  have k2 : Keeps ar z v1 := State.commitWaits_keeps (hw.m rfl) h1
  clear_value v1
  exact keeps_ite (State.commitEnd_keeps (hw.m rfl) k2) k2

theorem execRuleCommit_keeps {ar : List Area} (hw : Within (Area.telling [.windows, .mbx, .parse, .sec, .cw, .boot])
    ar) {z : State} {t : Nat} {a1} {a2} {s : State} (h : Keeps ar z (s.tick t)) :
    NextKeeps ar z (execRuleCommit t a1 a2 s) := by
  unfold execRuleCommit
  refine keeps_next ?_
  refine State.command_keeps (hw.m rfl) h ?_
  intro v1 v2 k3
  split
  · exact State.complete_keeps (hw.m rfl) k3
  · extract_lets -underBinder -merge +onlyGivenNames v4 v5
    clear_value v4 v5
    refine keeps_ite (State.complete_keeps (hw.m rfl) k3) ?_
    refine keeps_ite (State.prepares_keeps (hw.m rfl) k3) ?_
    split
    · exact State.prepares_keeps (hw.m rfl) k3
    · exact State.complete_keeps (hw.m rfl) k3
    · extract_lets -underBinder -merge +onlyGivenNames v6
      clear_value v6
      split
      rename_i v7 v8 v9 e10
      have k11 : Keeps ar z v8 := keeps_fst e10 (effectRuleCommit_keeps (hw.m rfl) k3)
      exact keeps_ite (State.complete_keeps (hw.m rfl) k11) (State.commitFinish_keeps (hw.m rfl) k11)

theorem execRuleStatus_keeps {ar : List Area} (hw : Within (Area.telling [.windows, .mbx, .cw, .boot]) ar) {z :
    State} {t : Nat} {a1} {s : State} (h : Keeps ar z (s.tick t)) :
    NextKeeps ar z (execRuleStatus t a1 s) := by
  unfold execRuleStatus
  exact keeps_next (State.query_keeps (hw.m rfl) h)

theorem effectParseGraphLoad_keeps {ar : List Area} (hw : Within [.parse] ar) {z a0 : State} {a1} (h1 : Keeps ar z a0) :
    Keeps ar z (effectParseGraphLoad a0 a1).1 := by
  unfold effectParseGraphLoad
  exact keeps_mk1 (State.modParse_keeps (hw.m rfl) h1)

theorem execParseGraphLoad_keeps {ar : List Area} (hw : Within (Area.telling [.windows, .mbx, .parse, .cw, .boot])
    ar) {z : State} {t : Nat} {a1} {s : State} (h : Keeps ar z (s.tick t)) :
    NextKeeps ar z (execParseGraphLoad t a1 s) := by
  unfold execParseGraphLoad
  exact keeps_next (State.simple_keeps (hw.m rfl) h (fun v1 v2 k3 => effectParseGraphLoad_keeps (hw.m rfl) k3))

theorem effectParseSelect_keeps {ar : List Area} (hw : Within (Area.telling [.parse]) ar) {z a0 : State} {a1} (h1 :
    Keeps ar z a0) :
    Keeps ar z (effectParseSelect a0 a1).1 := by
  unfold effectParseSelect
  extract_lets -underBinder -merge +onlyGivenNames v1
  have k2 : Keeps ar z v1 := State.parserUpdate_keeps (hw.m rfl) (State.modParse_keeps (hw.m rfl) h1)
  clear_value v1
  exact keeps_mk1 k2

theorem execParseSelect_keeps {ar : List Area} (hw : Within (Area.telling [.windows, .mbx, .parse, .cw, .boot]) ar)
    {z : State} {t : Nat} {a1} {s : State} (h : Keeps ar z (s.tick t)) :
    NextKeeps ar z (execParseSelect t a1 s) := by
  unfold execParseSelect
  exact keeps_next (State.simple_keeps (hw.m rfl) h (fun v1 v2 k3 => effectParseSelect_keeps (hw.m rfl) k3))

theorem execGraphRewriteDone_keeps {ar : List Area} (hw : Within (Area.telling [.parse, .flt]) ar) {z : State} {t :
    Nat} {s : State} (h : Keeps ar z (s.tick t)) :
    NextKeeps ar z (execGraphRewriteDone t s) := by
  unfold execGraphRewriteDone
  extract_lets -underBinder -merge +onlyGivenNames v1
  have k2 : Keeps ar z v1 := h
  clear_value v1
  exact keeps_next (keeps_ite (State.quieten_keeps (hw.m rfl) (State.parserUpdate_keeps (hw.m rfl)
      (State.modParse_keeps (hw.m rfl) k2))) k2)

theorem effectPolicerConfig_keeps {ar : List Area} (hw : Within [.parse] ar) {z a0 : State} {a1} (h1 : Keeps ar z a0) :
    Keeps ar z (effectPolicerConfig a0 a1).1 := by
  unfold effectPolicerConfig
  exact keeps_mk1 (State.modPolicer_keeps (hw.m rfl) h1)

theorem execPolicerConfig_keeps {ar : List Area} (hw : Within (Area.telling [.windows, .mbx, .parse, .cw, .boot]) ar)
    {z : State} {t : Nat} {a1} {s : State} (h : Keeps ar z (s.tick t)) :
    NextKeeps ar z (execPolicerConfig t a1 s) := by
  unfold execPolicerConfig
  exact keeps_next (State.simple_keeps (hw.m rfl) h (fun v1 v2 k3 => effectPolicerConfig_keeps (hw.m rfl) k3))

theorem State.learnRefuse_keeps {ar : List Area} (hw : Within [.ctrs] ar) {z a0 : State} {a1} (h1 : Keeps ar z a0) :
    Keeps ar z (State.learnRefuse a0 a1) := by
  unfold State.learnRefuse
  exact State.count_keeps (hw.m rfl) h1

theorem State.learnNew_keeps {ar : List Area} (hw : Within (Area.telling [.eth, .tbl]) ar) {z a0 : State} {a1} (h1 :
    Keeps ar z a0) :
    Keeps ar z (State.learnNew a0 a1) := by
  unfold State.learnNew
  refine keeps_ite (State.learnRefuse_keeps (hw.m rfl) h1) ?_
  split
  · extract_lets -underBinder -merge +onlyGivenNames v1
    have k2 : Keeps ar z v1 := State.count_keeps (hw.m rfl) h1
    clear_value v1
    exact keeps_ite k2 (State.raiseOf_keeps (hw.m rfl) (State.modTbl_keeps (hw.m rfl) k2))
  · extract_lets -underBinder -merge +onlyGivenNames v3
    have k4 : Keeps ar z v3 := State.modTbl_keeps (hw.m rfl) h1
    clear_value v3
    exact State.l2Limit_keeps (hw.m rfl) (State.count_keeps (hw.m rfl) k4)

theorem State.learnMove_keeps {ar : List Area} (hw : Within (Area.telling [.eth, .tbl]) ar) {z a0 : State} {a1} {a2}
    (h1 : Keeps ar z a0) :
    Keeps ar z (State.learnMove a0 a1 a2) := by
  unfold State.learnMove
  extract_lets -underBinder -merge +onlyGivenNames v1
  clear_value v1
  refine keeps_ite (State.count_keeps (hw.m rfl) h1) ?_
  refine keeps_ite (State.learnRefuse_keeps (hw.m rfl) h1) ?_
  extract_lets -underBinder -merge +onlyGivenNames v2
  clear_value v2
  refine keeps_ite ?_ ?_
  · extract_lets -underBinder -merge +onlyGivenNames v3
    have k4 : Keeps ar z v3 := State.modL2e_keeps (hw.m rfl) h1
    clear_value v3
    exact State.l2Limit_keeps (hw.m rfl) (State.l2Limit_keeps (hw.m rfl) (State.count_keeps (hw.m rfl) k4))
  · extract_lets -underBinder -merge +onlyGivenNames v5
    have k6 : Keeps ar z v5 := State.modL2e_keeps (hw.m rfl) h1
    clear_value v5
    exact State.raiseOf_keeps (hw.m rfl) (State.l2Limit_keeps (hw.m rfl) (State.l2Limit_keeps (hw.m rfl) k6))

theorem State.learn_keeps {ar : List Area} (hw : Within (Area.telling [.eth, .tbl]) ar) {z a0 : State} {a1} (h1 :
    Keeps ar z a0) :
    Keeps ar z (State.learn a0 a1) := by
  unfold State.learn
  split
  · exact State.learnNew_keeps (hw.m rfl) h1
  · exact keeps_ite (State.modL2e_keeps (hw.m rfl) h1) (State.learnMove_keeps (hw.m rfl) h1)

theorem State.learnQueue_keeps {ar : List Area} (hw : Within [.ctrs, .tbl] ar) {z a0 : State} {a1} (h1 : Keeps ar z
    a0) :
    Keeps ar z (State.learnQueue a0 a1) := by
  unfold State.learnQueue
  exact keeps_ite h1 (keeps_ite (State.count_keeps (hw.m rfl) h1) (State.modTbl_keeps (hw.m rfl) h1))

theorem execLearnEventProcess_keeps {ar : List Area} (hw : Within (Area.telling [.eth, .tbl]) ar) {z : State} {t :
    Nat} {s : State} (h : Keeps ar z (s.tick t)) :
    NextKeeps ar z (execLearnEventProcess t s) := by
  unfold execLearnEventProcess
  extract_lets -underBinder -merge +onlyGivenNames v1
  have k2 : Keeps ar z v1 := h
  clear_value v1
  refine keeps_next ?_
  split
  · exact k2
  · extract_lets -underBinder -merge +onlyGivenNames v3
    have k4 : Keeps ar z v3 := State.learn_keeps (hw.m rfl) (State.modTbl_keeps (hw.m rfl) k2)
    clear_value v3
    exact keeps_ite k4 (State.mirrorOut_keeps k4)

theorem State.windowEnd_keeps {ar : List Area} (hw : Within [.tbl] ar) {z a0 : State} {a1} (h1 : Keeps ar z a0) :
    Keeps ar z (State.windowEnd a0 a1) := by
  unfold State.windowEnd
  exact State.modL2e_keeps (hw.m rfl) h1

theorem execL2MoveWindowEnd_keeps {ar : List Area} (hw : Within [.tbl] ar) {z : State} {t : Nat} {a1} {s : State} (h
    : Keeps ar z (s.tick t)) :
    NextKeeps ar z (execL2MoveWindowEnd t a1 s) := by
  unfold execL2MoveWindowEnd
  extract_lets -underBinder -merge +onlyGivenNames v1
  have k2 : Keeps ar z v1 := h
  clear_value v1
  extract_lets -underBinder -merge +onlyGivenNames v3
  clear_value v3
  exact keeps_next (keeps_ite (State.mirrorOut_keeps (State.windowEnd_keeps (hw.m rfl) k2)) k2)

theorem State.ageScan_keeps {ar : List Area} (hw : Within (Area.telling [.eth, .tbl]) ar) {z a0 : State} (h1 : Keeps
    ar z a0) :
    Keeps ar z (State.ageScan a0) := by
  unfold State.ageScan
  extract_lets -underBinder -merge +onlyGivenNames v1
  clear_value v1
  extract_lets -underBinder -merge +onlyGivenNames v2
  have k3 : Keeps ar z v2 := State.modTbl_keeps (hw.m rfl) h1
  clear_value v2
  exact State.each_keeps (fun v4 v5 k6 => State.l2Limit_keeps (hw.m rfl) k6) (State.count_keeps (hw.m rfl) k3)

theorem execL2AgeingScan_keeps {ar : List Area} (hw : Within (Area.telling [.eth, .tbl]) ar) {z : State} {t : Nat} {s
    : State} (h : Keeps ar z (s.tick t)) :
    NextKeeps ar z (execL2AgeingScan t s) := by
  unfold execL2AgeingScan
  extract_lets -underBinder -merge +onlyGivenNames v1
  have k2 : Keeps ar z v1 := h
  clear_value v1
  exact keeps_next (keeps_ite (State.mirrorOut_keeps (State.ageScan_keeps (hw.m rfl) k2)) k2)

theorem State.tableFound_keeps {ar : List Area} (hw : Within [.ctrs, .tbl] ar) {z a0 : State} {a1} (h1 : Keeps ar z
    a0) :
    Keeps ar z (State.tableFound a0 a1) := by
  unfold State.tableFound
  exact State.count_keeps (hw.m rfl) (State.modTbl_keeps (hw.m rfl) h1)

theorem State.tableReport_keeps {ar : List Area} (hw : Within (Area.but [.host, .slp]) ar) {z a0 : State} {a1} {a2}
    (h1 : Keeps ar z a0) :
    Keeps ar z (State.tableReport a0 a1 a2) := by
  unfold State.tableReport
  extract_lets -underBinder -merge +onlyGivenNames v1
  have k2 : Keeps ar z v1 := State.report_keeps (hw.m rfl) h1
  clear_value v1
  exact keeps_ite k2 (State.quieten_keeps (hw.m rfl) k2)

theorem State.tableBad_keeps {ar : List Area} (hw : Within (Area.but [.host, .slp]) ar) {z a0 : State} {a1} {a2} (h1
    : Keeps ar z a0) :
    Keeps ar z (State.tableBad a0 a1 a2) := by
  unfold State.tableBad
  exact keeps_ite h1 (State.tableReport_keeps (hw.m rfl) (State.tableFound_keeps (hw.m rfl) h1))

theorem execTableRewriteDone_keeps {ar : List Area} (hw : Within [.tbl, .flt] ar) {z : State} {t : Nat} {a1} {a2} {s
    : State} (h : Keeps ar z (s.tick t)) :
    NextKeeps ar z (execTableRewriteDone t a1 a2 s) := by
  unfold execTableRewriteDone
  extract_lets -underBinder -merge +onlyGivenNames v1
  have k2 : Keeps ar z v1 := h
  clear_value v1
  extract_lets -underBinder -merge +onlyGivenNames v3
  clear_value v3
  refine keeps_next ?_
  refine keeps_ite ?_ k2
  extract_lets -underBinder -merge +onlyGivenNames v4
  have k5 : Keeps ar z v4 := State.modTbl_keeps (hw.m rfl) k2
  clear_value v4
  exact keeps_ite k5 (State.quieten_keeps (hw.m rfl) k5)

theorem State.hopDrop_keeps {ar : List Area} (hw : Within [.tbl] ar) {z a0 : State} {a1} (h1 : Keeps ar z a0) :
    Keeps ar z (State.hopDrop a0 a1) := by
  unfold State.hopDrop
  exact State.modHop_keeps (hw.m rfl) h1

theorem State.spaceJudge_keeps {ar : List Area} (hw : Within (Area.telling [.tbl]) ar) {z a0 : State} (h1 : Keeps ar
    z a0) :
    Keeps ar z (State.spaceJudge a0) := by
  unfold State.spaceJudge
  extract_lets -underBinder -merge +onlyGivenNames v1
  clear_value v1
  exact keeps_ite (State.raiseOf_keeps (hw.m rfl) (State.modTbl_keeps (hw.m rfl) h1)) h1

theorem State.routeAdd_keeps {ar : List Area} (hw : Within (Area.telling [.tbl]) ar) {z a0 : State} {a1} (h1 : Keeps
    ar z a0) :
    OptKeeps ar z (State.routeAdd a0 a1) := by
  unfold State.routeAdd
  extract_lets -underBinder -merge +onlyGivenNames v1 v2 v3 v4
  clear_value v1 v2 v3 v4
  split
  · exact keeps_none
  · extract_lets -underBinder -merge +onlyGivenNames v5 v6 v7
    clear_value v5 v6 v7
    split
    · exact keeps_none
    · extract_lets -underBinder -merge +onlyGivenNames v8
      have k9 : Keeps ar z v8 := State.modHop_keeps (hw.m rfl) h1
      clear_value v8
      extract_lets -underBinder -merge +onlyGivenNames v10
      have k11 : Keeps ar z v10 := by
        unfold v10
        split
        · rename_i v12 v13
          exact State.hopDrop_keeps (hw.m rfl) k9
        · rename_i v15
          exact k9
      clear_value v10
      exact keeps_some (State.spaceJudge_keeps (hw.m rfl) (State.modTbl_keeps (hw.m rfl) k11))

theorem State.routesAdd_keeps {ar : List Area} (hw : Within (Area.telling [.tbl]) ar) {z a0 : State} {a1} (h1 : Keeps
    ar z a0) :
    Keeps ar z (State.routesAdd a0 a1).1 := by
  induction a1 generalizing a0
  · unfold State.routesAdd
    exact keeps_mk1 h1
  · rename_i w0 w1 ih
    unfold State.routesAdd
    split
    · rename_i v1 e2
      exact keeps_mk1 h1
    · rename_i v3 v4 e5
      have k6 : Keeps ar z v4 := keeps_of_some e5 (State.routeAdd_keeps (hw.m rfl) h1)
      split
      rename_i v7 v8 v9 v10 e11
      have k12 : Keeps ar z v8 := keeps_fst e11 (ih k6)
      exact keeps_mk1 k12

theorem effectTblRouteAdd_keeps {ar : List Area} (hw : Within (Area.telling [.tbl]) ar) {z a0 : State} {a1} (h1 :
    Keeps ar z a0) :
    Keeps ar z (effectTblRouteAdd a0 a1).1 := by
  unfold effectTblRouteAdd
  split
  rename_i v1 v2 v3 v4 e5
  have k6 : Keeps ar z v2 := keeps_fst e5 (State.routesAdd_keeps (hw.m rfl) h1)
  exact keeps_mk1 k6

theorem execTblRouteAdd_keeps {ar : List Area} (hw : Within (Area.telling [.windows, .mbx, .tbl, .cw, .boot]) ar) {z
    : State} {t : Nat} {a1} {s : State} (h : Keeps ar z (s.tick t)) :
    NextKeeps ar z (execTblRouteAdd t a1 s) := by
  unfold execTblRouteAdd
  exact keeps_next (State.simple_keeps (hw.m rfl) h (fun v1 v2 k3 => effectTblRouteAdd_keeps (hw.m rfl) k3))

theorem State.routeDel_keeps {ar : List Area} (hw : Within [.tbl] ar) {z a0 : State} {a1} (h1 : Keeps ar z a0) :
    Keeps ar z (State.routeDel a0 a1).1 := by
  unfold State.routeDel
  extract_lets -underBinder -merge +onlyGivenNames v1
  clear_value v1
  split
  · exact keeps_mk1 h1
  · extract_lets -underBinder -merge +onlyGivenNames v2 v3
    clear_value v2 v3
    exact keeps_mk1 (State.modTbl_keeps (hw.m rfl) (State.hopDrop_keeps (hw.m rfl) h1))

theorem effectTblRouteDel_keeps {ar : List Area} (hw : Within [.tbl] ar) {z a0 : State} {a1} (h1 : Keeps ar z a0) :
    Keeps ar z (effectTblRouteDel a0 a1).1 := by
  unfold effectTblRouteDel
  split
  rename_i v1 v2 v3 e4
  have k5 : Keeps ar z v2 := by
    refine keeps_fst e4 ?_
    refine keeps_foldl_fst ?_ (keeps_mk1 h1)
    intro v6 v7 k8
    split
    rename_i v9 v10 v11 e12
    have k13 : Keeps ar z v10 := keeps_fst e12 (State.routeDel_keeps (hw.m rfl) k8)
    exact keeps_mk1 k13
  exact keeps_mk1 k5

theorem execTblRouteDel_keeps {ar : List Area} (hw : Within (Area.telling [.windows, .mbx, .tbl, .cw, .boot]) ar) {z
    : State} {t : Nat} {a1} {s : State} (h : Keeps ar z (s.tick t)) :
    NextKeeps ar z (execTblRouteDel t a1 s) := by
  unfold execTblRouteDel
  exact keeps_next (State.simple_keeps (hw.m rfl) h (fun v1 v2 k3 => effectTblRouteDel_keeps (hw.m rfl) k3))

theorem effectTblL2Config_keeps {ar : List Area} (hw : Within (Area.telling [.eth, .tbl]) ar) {z a0 : State} {a1} (h1
    : Keeps ar z a0) :
    Keeps ar z (effectTblL2Config a0 a1).1 := by
  unfold effectTblL2Config
  extract_lets -underBinder -merge +onlyGivenNames v1
  clear_value v1
  exact keeps_ite1 (keeps_mk1 (State.modTbl_keeps (hw.m rfl) h1)) (keeps_mk1 (State.l2Limit_keeps (hw.m rfl)
      (State.modPort_keeps (hw.m rfl) h1)))

theorem execTblL2Config_keeps {ar : List Area} (hw : Within (Area.telling [.windows, .mbx, .eth, .tbl, .cw, .boot])
    ar) {z : State} {t : Nat} {a1} {s : State} (h : Keeps ar z (s.tick t)) :
    NextKeeps ar z (execTblL2Config t a1 s) := by
  unfold execTblL2Config
  exact keeps_next (State.simple_keeps (hw.m rfl) h (fun v1 v2 k3 => effectTblL2Config_keeps (hw.m rfl) k3))

theorem effectTblL2Flush_keeps {ar : List Area} (hw : Within (Area.telling [.eth, .tbl]) ar) {z a0 : State} {a1} (h1
    : Keeps ar z a0) :
    Keeps ar z (effectTblL2Flush a0 a1).1 := by
  unfold effectTblL2Flush
  split
  rename_i v1 v2 v3 e4
  have k5 : Keeps ar z v2 := keeps_fst e4 (State.l2Flush_keeps (hw.m rfl) h1)
  exact keeps_mk1 (State.mirrorOut_keeps k5)

theorem execTblL2Flush_keeps {ar : List Area} (hw : Within (Area.telling [.windows, .mbx, .eth, .tbl, .cw, .boot])
    ar) {z : State} {t : Nat} {a1} {s : State} (h : Keeps ar z (s.tick t)) :
    NextKeeps ar z (execTblL2Flush t a1 s) := by
  unfold execTblL2Flush
  exact keeps_next (State.simple_keeps (hw.m rfl) h (fun v1 v2 k3 => effectTblL2Flush_keeps (hw.m rfl) k3))

theorem State.directWrite_keeps {ar : List Area} (hw : Within [.tbl, .sig] ar) {z a0 : State} {a1} {a2} {a3} (h1 :
    Keeps ar z a0) :
    Keeps ar z (State.directWrite a0 a1 a2 a3) := by
  unfold State.directWrite
  extract_lets -underBinder -merge +onlyGivenNames v1
  clear_value v1
  exact keeps_ite (State.modVlan_keeps (hw.m rfl) h1) (keeps_ite (State.modStream_keeps (hw.m rfl) h1)
      (State.modSig_keeps (hw.m rfl) h1))

theorem effectTblDirectWrite_keeps {ar : List Area} (hw : Within [.tbl, .sig] ar) {z a0 : State} {a1} (h1 : Keeps ar
    z a0) :
    Keeps ar z (effectTblDirectWrite a0 a1).1 := by
  unfold effectTblDirectWrite
  extract_lets -underBinder -merge +onlyGivenNames v1
  clear_value v1
  exact keeps_mk1 (State.each_keeps (fun v2 v3 k4 => State.directWrite_keeps (hw.m rfl) k4) h1)

theorem execTblDirectWrite_keeps {ar : List Area} (hw : Within (Area.telling [.windows, .mbx, .tbl, .sig, .cw,
    .boot]) ar) {z : State} {t : Nat} {a1} {s : State} (h : Keeps ar z (s.tick t)) :
    NextKeeps ar z (execTblDirectWrite t a1 s) := by
  unfold execTblDirectWrite
  exact keeps_next (State.simple_keeps (hw.m rfl) h (fun v1 v2 k3 => effectTblDirectWrite_keeps (hw.m rfl) k3))

theorem execTblRead_keeps {ar : List Area} (hw : Within (Area.telling [.windows, .mbx, .cw, .boot]) ar) {z : State}
    {t : Nat} {a1} {s : State} (h : Keeps ar z (s.tick t)) :
    NextKeeps ar z (execTblRead t a1 s) := by
  unfold execTblRead
  exact keeps_next (State.query_keeps (hw.m rfl) h)

end Sys2Proof.Machine
end

