-- ==== Sys2Proof/Laws/KeepsClassify.lean ====
section
/-! SUPPORT. What the operations of Classify, Time, Audio keep, and which areas they may move. -/

set_option Elab.async false

namespace Sys2Proof.Machine

open Sys2Proof

theorem State.lookup_keeps {ar : List Area} (hw : Within [.ctrs, .tbl, .sw] ar) {z a0 : State} {a1} {a2} {a3} {a4}
    (h1 : Keeps ar z a0) :
    Keeps ar z (State.lookup a0 a1 a2 a3 a4).1 := by
  unfold State.lookup
  extract_lets -underBinder -merge +onlyGivenNames v1 v2 v3
  clear_value v1 v2 v3
  exact keeps_mk1 (State.modFrame_keeps (hw.m rfl) (State.each_keeps (fun v4 v5 k6 => State.tableFound_keeps (hw.m
      rfl) k6) h1))

theorem State.lookupDiscard_keeps {ar : List Area} (hw : Within (Area.but [.host, .slp]) ar) {z a0 : State} {a1} {a2}
    {a3} (h1 : Keeps ar z a0) :
    Keeps ar z (State.lookupDiscard a0 a1 a2 a3) := by
  unfold State.lookupDiscard
  extract_lets -underBinder -merge +onlyGivenNames v1
  clear_value v1
  extract_lets -underBinder -merge +onlyGivenNames v2
  have k3 : Keeps ar z v2 := State.each_keeps (fun v4 v5 k6 => State.tableBad_keeps (hw.m rfl) k6) h1
  clear_value v2
  exact State.each_keeps (fun v7 v8 k9 => State.count_keeps (hw.m rfl) k9) k3

theorem State.tableMiss_keeps {ar : List Area} (hw : Within [.ctrs, .sw] ar) {z a0 : State} {a1} {a2} (h1 : Keeps ar
    z a0) :
    Keeps ar z (State.tableMiss a0 a1 a2) := by
  unfold State.tableMiss
  exact State.countAt_keeps (hw.m rfl) h1

theorem State.ruleApply_keeps {ar : List Area} (hw : Within [.ctrs, .sw] ar) {z a0 : State} {a1} (h1 : Keeps ar z a0) :
    Keeps ar z (State.ruleApply a0 a1) := by
  unfold State.ruleApply
  extract_lets -underBinder -merge +onlyGivenNames v1
  clear_value v1
  split
  · exact State.countAt_keeps (hw.m rfl) (State.modFrame_keeps (hw.m rfl) h1)
  · extract_lets -underBinder -merge +onlyGivenNames v2 v3 v4 v5
    clear_value v2 v3 v4 v5
    extract_lets -underBinder -merge +onlyGivenNames v6
    have k7 : Keeps ar z v6 := State.modFrame_keeps (hw.m rfl) h1
    clear_value v6
    extract_lets -underBinder -merge +onlyGivenNames v8
    have k9 : Keeps ar z v8 := keeps_ite (State.countAt_keeps (hw.m rfl) k7) (keeps_ite (State.countAt_keeps (hw.m
        rfl) k7) k7)
    clear_value v8
    extract_lets -underBinder -merge +onlyGivenNames v10
    have k11 : Keeps ar z v10 := keeps_ite (State.countAt_keeps (hw.m rfl) k9) k9
    clear_value v10
    exact keeps_ite (State.countAt_keeps (hw.m rfl) k11) k11

theorem State.streamApply_keeps {ar : List Area} (hw : Within [.ctrs, .tbl, .sw] ar) {z a0 : State} {a1} {a2} (h1 :
    Keeps ar z a0) :
    Keeps ar z (State.streamApply a0 a1 a2) := by
  unfold State.streamApply
  extract_lets -underBinder -merge +onlyGivenNames v1
  clear_value v1
  refine keeps_ite h1 ?_
  split
  rename_i v2 v3 v4 e5
  have k6 : Keeps ar z v3 := keeps_fst e5 (State.lookup_keeps (hw.m rfl) h1)
  extract_lets -underBinder -merge +onlyGivenNames v7
  clear_value v7
  refine keeps_ite (State.countAt_keeps (hw.m rfl) (State.tableMiss_keeps (hw.m rfl) k6)) ?_
  extract_lets -underBinder -merge +onlyGivenNames v8
  have k9 : Keeps ar z v8 := State.modFrame_keeps (hw.m rfl) k6
  clear_value v8
  exact State.countAt_keeps (hw.m rfl) k9

theorem State.earlyDiscard_keeps {ar : List Area} (hw : Within (Area.but [.host, .slp]) ar) {z a0 : State} {a1} {a2}
    {a3} {a4} {a5} {a6} {a7} (h1 : Keeps ar z a0) :
    Keeps ar z (State.earlyDiscard a0 a1 a2 a3 a4 a5 a6 a7) := by
  unfold State.earlyDiscard
  extract_lets -underBinder -merge +onlyGivenNames v1
  have k2 : Keeps ar z v1 := by
    unfold v1
    split
    · exact h1
    · exact keeps_ite h1 (State.lookupDiscard_keeps (hw.m rfl) h1)
  clear_value v1
  extract_lets -underBinder -merge +onlyGivenNames v3
  clear_value v3
  exact State.each_keeps (fun v4 v5 k6 => State.lookupDiscard_keeps (hw.m rfl) k6) k2

theorem State.lpmApply_keeps {ar : List Area} (hw : Within [.ctrs, .tbl, .sw] ar) {z a0 : State} {a1} {a2} (h1 :
    Keeps ar z a0) :
    Keeps ar z (State.lpmApply a0 a1 a2).1 := by
  unfold State.lpmApply
  extract_lets -underBinder -merge +onlyGivenNames v1
  clear_value v1
  refine keeps_ite1 (keeps_mk1 h1) ?_
  extract_lets -underBinder -merge +onlyGivenNames v2
  clear_value v2
  split
  rename_i v3 v4 v5 e6
  have k7 : Keeps ar z v4 := keeps_fst e6 (State.lookup_keeps (hw.m rfl) h1)
  split
  · have k8 : Keeps ar z v4 := keeps_fst e6 (State.lookup_keeps (hw.m rfl) h1)
    exact keeps_mk1 k7
  · have k9 : Keeps ar z v4 := keeps_fst e6 (State.lookup_keeps (hw.m rfl) h1)
    exact keeps_mk1 k7
  · have k10 : Keeps ar z v4 := keeps_fst e6 (State.lookup_keeps (hw.m rfl) h1)
    exact keeps_mk1 k7
  · have k11 : Keeps ar z v4 := keeps_fst e6 (State.lookup_keeps (hw.m rfl) h1)
    exact keeps_mk1 k7

theorem State.vlanApply_keeps {ar : List Area} (hw : Within [.ctrs, .tbl, .sw] ar) {z a0 : State} {a1} {a2} (h1 :
    Keeps ar z a0) :
    Keeps ar z (State.vlanApply a0 a1 a2).1 := by
  unfold State.vlanApply
  extract_lets -underBinder -merge +onlyGivenNames v1 v2
  clear_value v1 v2
  refine keeps_ite1 (keeps_mk1 h1) ?_
  split
  rename_i v3 v4 v5 e6
  have k7 : Keeps ar z v4 := keeps_fst e6 (State.lookup_keeps (hw.m rfl) h1)
  extract_lets -underBinder -merge +onlyGivenNames v8
  clear_value v8
  exact keeps_ite1 (keeps_mk1 (State.countAt_keeps (hw.m rfl) (State.tableMiss_keeps (hw.m rfl) k7))) (keeps_ite1
      (keeps_mk1
    (State.countAt_keeps (hw.m rfl) k7)) (keeps_mk1 k7))

theorem State.learnApply_keeps {ar : List Area} (hw : Within [.ctrs, .tbl, .sw] ar) {z a0 : State} {a1} {a2} (h1 :
    Keeps ar z a0) :
    Keeps ar z (State.learnApply a0 a1 a2).1 := by
  unfold State.learnApply
  extract_lets -underBinder -merge +onlyGivenNames v1 v2
  clear_value v1 v2
  refine keeps_ite1 (keeps_mk1 h1) ?_
  split
  rename_i v3 v4 v5 e6
  have k7 : Keeps ar z v4 := keeps_fst e6 (State.lookup_keeps (hw.m rfl) h1)
  refine keeps_ite1 (keeps_mk1 (State.tableMiss_keeps (hw.m rfl) k7)) ?_
  refine keeps_ite1 (keeps_mk1 (State.modFrame_keeps (hw.m rfl) k7)) ?_
  extract_lets -underBinder -merge +onlyGivenNames v8
  have k9 : Keeps ar z v8 := State.tableMiss_keeps (hw.m rfl) k7
  clear_value v8
  refine keeps_ite1 ?_ (keeps_mk1 (State.modFrame_keeps (hw.m rfl) k9))
  extract_lets -underBinder -merge +onlyGivenNames v10
  clear_value v10
  exact keeps_mk1 (State.countAt_keeps (hw.m rfl) k9)

theorem State.setEgress_keeps {ar : List Area} (hw : Within [.sw] ar) {z a0 : State} {a1} {a2} {a3} (h1 : Keeps ar z
    a0) :
    Keeps ar z (State.setEgress a0 a1 a2 a3) := by
  unfold State.setEgress
  extract_lets -underBinder -merge +onlyGivenNames v1
  clear_value v1
  exact State.modFrame_keeps (hw.m rfl) h1

theorem State.toFirmware_keeps {ar : List Area} (hw : Within [.sw] ar) {z a0 : State} {a1} {a2} (h1 : Keeps ar z a0) :
    Keeps ar z (State.toFirmware a0 a1 a2) := by
  unfold State.toFirmware
  exact State.modFrame_keeps (hw.m rfl) h1

theorem State.routeApply_keeps {ar : List Area} (hw : Within [.ctrs, .sw] ar) {z a0 : State} {a1} {a2} (h1 : Keeps ar
    z a0) :
    Keeps ar z (State.routeApply a0 a1 a2) := by
  unfold State.routeApply
  extract_lets -underBinder -merge +onlyGivenNames v1
  clear_value v1
  refine keeps_ite (State.countAt_keeps (hw.m rfl) (State.toFirmware_keeps (hw.m rfl) h1)) ?_
  split
  · exact State.countAt_keeps (hw.m rfl) h1
  · exact State.countAt_keeps (hw.m rfl) (State.tableMiss_keeps (hw.m rfl) h1)
  · extract_lets -underBinder -merge +onlyGivenNames v2
    clear_value v2
    exact keeps_ite (State.toFirmware_keeps (hw.m rfl) h1) (keeps_ite h1 (State.setEgress_keeps (hw.m rfl)
        (State.modFrame_keeps (hw.m rfl) h1)))

theorem State.bridgeApply_keeps {ar : List Area} (hw : Within [.ctrs, .tbl, .sw] ar) {z a0 : State} {a1} {a2} (h1 :
    Keeps ar z a0) :
    Keeps ar z (State.bridgeApply a0 a1 a2) := by
  unfold State.bridgeApply
  extract_lets -underBinder -merge +onlyGivenNames v1 v2 v3 v4
  clear_value v1 v2 v3 v4
  refine keeps_ite (State.setEgress_keeps (hw.m rfl) h1) ?_
  split
  rename_i v5 v6 v7 e8
  have k9 : Keeps ar z v6 := keeps_fst e8 (State.lookup_keeps (hw.m rfl) h1)
  split
  · have k10 : Keeps ar z v6 := keeps_fst e8 (State.lookup_keeps (hw.m rfl) h1)
    extract_lets -underBinder -merge +onlyGivenNames v11
    clear_value v11
    exact keeps_ite (State.countAt_keeps (hw.m rfl) k9) (State.setEgress_keeps (hw.m rfl) k9)
  · have k12 : Keeps ar z v6 := keeps_fst e8 (State.lookup_keeps (hw.m rfl) h1)
    exact State.setEgress_keeps (hw.m rfl) (State.tableMiss_keeps (hw.m rfl) k9)

theorem State.forwardApply_keeps {ar : List Area} (hw : Within [.ctrs, .tbl, .sw] ar) {z a0 : State} {a1} {a2} {a3}
    (h1 : Keeps ar z a0) :
    Keeps ar z (State.forwardApply a0 a1 a2 a3) := by
  unfold State.forwardApply
  extract_lets -underBinder -merge +onlyGivenNames v1 v2
  clear_value v1 v2
  exact keeps_ite h1 (keeps_ite (keeps_ite (State.modFrame_keeps (hw.m rfl) h1) h1) (keeps_ite (State.setEgress_keeps
      (hw.m rfl) h1)
    (keeps_ite (State.countAt_keeps (hw.m rfl) h1) (keeps_ite (State.routeApply_keeps (hw.m rfl) h1)
        (State.bridgeApply_keeps (hw.m rfl) h1)))))

theorem State.classify_keeps {ar : List Area} (hw : Within [.ctrs, .tbl, .sw] ar) {z a0 : State} {a1} {a2} (h1 :
    Keeps ar z a0) :
    Keeps ar z (State.classify a0 a1 a2) := by
  unfold State.classify
  extract_lets -underBinder -merge +onlyGivenNames v1
  have k2 : Keeps ar z v1 := State.streamApply_keeps (hw.m rfl) (State.ruleApply_keeps (hw.m rfl) h1)
  clear_value v1
  split
  rename_i v3 v4 v5 e6
  have k7 : Keeps ar z v4 := keeps_fst e6 (State.lpmApply_keeps (hw.m rfl) k2)
  split
  rename_i v8 v9 v10 v11 e12
  have k13 : Keeps ar z v9 := keeps_fst e12 (State.vlanApply_keeps (hw.m rfl) k7)
  refine keeps_ite k13 ?_
  split
  rename_i v14 v15 v16 e17
  have k18 : Keeps ar z v15 := keeps_fst e17 (State.learnApply_keeps (hw.m rfl) k13)
  exact keeps_ite (State.forwardApply_keeps (hw.m rfl) k18) k18

theorem State.groundsheetTake_keeps {ar : List Area} (hw : Within [.ctrs, .sw] ar) {z a0 : State} {a1} (h1 : Keeps ar
    z a0) :
    Keeps ar z (State.groundsheetTake a0 a1) := by
  unfold State.groundsheetTake
  extract_lets -underBinder -merge +onlyGivenNames v1 v2
  clear_value v1 v2
  extract_lets -underBinder -merge +onlyGivenNames v3
  have k4 : Keeps ar z v3 := State.modFrame_keeps (hw.m rfl) h1
  clear_value v3
  exact State.countAt_keeps (hw.m rfl) k4

theorem State.parseTake_keeps {ar : List Area} (hw : Within (Area.but [.host, .slp]) ar) {z a0 : State} {a1} {a2}
    {a3} {a4} {a5} (h1 : Keeps ar z a0) :
    Keeps ar z (State.parseTake a0 a1 a2 a3 a4 a5) := by
  unfold State.parseTake
  refine keeps_ite (State.groundsheetTake_keeps (hw.m rfl) h1) ?_
  extract_lets -underBinder -merge +onlyGivenNames v1 v2 v3 v4
  clear_value v1 v2 v3 v4
  split
  · extract_lets -underBinder -merge +onlyGivenNames v5
    have k6 : Keeps ar z v5 := State.graphBad_keeps (hw.m rfl) (State.earlyDiscard_keeps (hw.m rfl) h1)
    clear_value v5
    exact State.groundsheetTake_keeps (hw.m rfl) (keeps_ite (State.modFrame_keeps (hw.m rfl) k6) k6)
  · extract_lets -underBinder -merge +onlyGivenNames v7
    have k8 : Keeps ar z v7 := State.modFrame_keeps (hw.m rfl) h1
    clear_value v7
    refine keeps_ite (State.modFrame_keeps (hw.m rfl) (State.earlyDiscard_keeps (hw.m rfl) k8)) ?_
    extract_lets -underBinder -merge +onlyGivenNames v9
    clear_value v9
    extract_lets -underBinder -merge +onlyGivenNames v10
    have k11 : Keeps ar z v10 := State.earlyDiscard_keeps (hw.m rfl) k8
    clear_value v10
    extract_lets -underBinder -merge +onlyGivenNames v12
    have k13 : Keeps ar z v12 := State.countAt_keeps (hw.m rfl) k11
    clear_value v12
    extract_lets -underBinder -merge +onlyGivenNames v14
    have k15 : Keeps ar z v14 := keeps_ite (State.countAt_keeps (hw.m rfl) k13) k13
    clear_value v14
    extract_lets -underBinder -merge +onlyGivenNames v16
    have k17 : Keeps ar z v16 := keeps_ite (State.countAt_keeps (hw.m rfl) k15) k15
    clear_value v16
    exact State.classify_keeps (hw.m rfl) k17

theorem State.openCopies_keeps {ar : List Area} (hw : Within (Area.telling [.chans, .tide]) ar) {z a0 : State} {a1}
    (h1 : Keeps ar z a0) :
    Keeps ar z (State.openCopies a0 a1) := by
  unfold State.openCopies
  extract_lets -underBinder -merge +onlyGivenNames v1
  clear_value v1
  exact keeps_ite h1 (State.each_keeps (fun v2 v3 k4 => State.tqOpen_keeps (hw.m rfl) k4) (keeps_ite h1
      (State.cross_keeps (hw.m rfl) h1)))

theorem State.bindTake_keeps {ar : List Area} (hw : Within [.chans, .sw, .sig] ar) {z a0 : State} {a1} (h1 : Keeps ar
    z a0) :
    Keeps ar z (State.bindTake a0 a1) := by
  unfold State.bindTake
  extract_lets -underBinder -merge +onlyGivenNames v1
  have k2 : Keeps ar z v1 := State.modFrame_keeps (hw.m rfl) h1
  clear_value v1
  extract_lets -underBinder -merge +onlyGivenNames v3
  clear_value v3
  split
  · exact k2
  · refine keeps_ite (State.modFrame_keeps (hw.m rfl) k2) ?_
    extract_lets -underBinder -merge +onlyGivenNames v4
    have k5 : Keeps ar z v4 := State.cross_keeps (hw.m rfl) k2
    clear_value v4
    split
    rename_i v6 v7 v8 e9
    have k10 : Keeps ar z v7 := keeps_fst e9 (State.specStart_keeps (hw.m rfl) k5)
    exact State.modFrame_keeps (hw.m rfl) k10

theorem State.takeFrame_keeps {ar : List Area} (hw : Within (Area.but [.host, .slp]) ar) {z a0 : State} {a1} {a2}
    {a3} {a4} {a5} (h1 : Keeps ar z a0) :
    Keeps ar z (State.takeFrame a0 a1 a2 a3 a4 a5).1 := by
  unfold State.takeFrame
  split
  rename_i v1 v2 v3 e4
  have k5 : Keeps ar z v2 := keeps_fst e4 (State.newFrame_keeps (hw.m rfl) h1)
  exact keeps_mk1 (State.bindTake_keeps (hw.m rfl) (State.openCopies_keeps (hw.m rfl) (State.parseTake_keeps (hw.m
      rfl) k5)))

theorem State.placeFrame_keeps {ar : List Area} (hw : Within (Area.telling [.chans, .sw, .tide]) ar) {z a0 : State}
    {a1} (h1 : Keeps ar z a0) :
    Keeps ar z (State.placeFrame a0 a1).1 := by
  unfold State.placeFrame
  split
  rename_i v1 v2 v3 e4
  have k5 : Keeps ar z v2 := keeps_fst e4 (State.newFrame_keeps (hw.m rfl) h1)
  exact keeps_mk1 (State.openCopies_keeps (hw.m rfl) k5)

theorem State.follow_keeps {ar : List Area} (hw : Within [.time, .twin] ar) {z a0 : State} {a1} {a2} {a3} (h1 : Keeps
    ar z a0) :
    Keeps ar z (State.follow a0 a1 a2 a3) := by
  unfold State.follow
  extract_lets -underBinder -merge +onlyGivenNames v1 v2 v3
  clear_value v1 v2 v3
  extract_lets -underBinder -merge +onlyGivenNames v4
  have k5 : Keeps ar z v4 := keeps_ite h1 (State.modTwin_keeps (hw.m rfl) h1)
  clear_value v4
  exact State.modTime_keeps (hw.m rfl) k5

theorem State.switchTo_keeps {ar : List Area} (hw : Within (Area.telling [.time, .twin]) ar) {z a0 : State} {a1} {a2}
    (h1 : Keeps ar z a0) :
    Keeps ar z (State.switchTo a0 a1 a2) := by
  unfold State.switchTo
  extract_lets -underBinder -merge +onlyGivenNames v1
  have k2 : Keeps ar z v1 := State.modTime_keeps (hw.m rfl) (State.follow_keeps (hw.m rfl) h1)
  clear_value v1
  exact State.raiseOf_keeps (hw.m rfl) (State.count_keeps (hw.m rfl) k2)

theorem State.activeLeft_keeps {ar : List Area} (hw : Within (Area.telling [.time, .twin]) ar) {z a0 : State} {a1}
    (h1 : Keeps ar z a0) :
    Keeps ar z (State.activeLeft a0 a1) := by
  unfold State.activeLeft
  exact keeps_ite h1 (keeps_ite (State.switchTo_keeps (hw.m rfl) h1) (State.raiseOf_keeps (hw.m rfl)
      (State.modTime_keeps (hw.m rfl) h1)))

theorem State.pinLevel_keeps {ar : List Area} (hw : Within [.time] ar) {z a0 : State} {a1} {a2} (h1 : Keeps ar z a0) :
    Keeps ar z (State.pinLevel a0 a1 a2) := by
  unfold State.pinLevel
  exact State.modTimeOut_keeps (hw.m rfl) h1

theorem State.pinsLeave_keeps {ar : List Area} (hw : Within [.time] ar) {z a0 : State} {a1} {a2} (h1 : Keeps ar z a0) :
    Keeps ar z (State.pinsLeave a0 a1 a2) := by
  unfold State.pinsLeave
  exact State.each_keeps (fun v1 v2 k3 => State.pinLevel_keeps (hw.m rfl) k3) h1

theorem State.disarm_keeps {ar : List Area} (hw : Within [.time] ar) {z a0 : State} {a1} (h1 : Keeps ar z a0) :
    Keeps ar z (State.disarm a0 a1) := by
  unfold State.disarm
  extract_lets -underBinder -merge +onlyGivenNames v1
  clear_value v1
  exact State.pinsLeave_keeps (hw.m rfl) (State.modTrig_keeps (hw.m rfl) h1)

theorem State.armAt_keeps {ar : List Area} (hw : Within (Area.telling [.time]) ar) {z a0 : State} {a1} {a2} {a3} {a4}
    (h1 : Keeps ar z a0) :
    Keeps ar z (State.armAt a0 a1 a2 a3 a4) := by
  unfold State.armAt
  extract_lets -underBinder -merge +onlyGivenNames v1
  have k2 : Keeps ar z v1 := State.modTrig_keeps (hw.m rfl) h1
  clear_value v1
  extract_lets -underBinder -merge +onlyGivenNames v3
  have k4 : Keeps ar z v3 := keeps_ite (State.count_keeps (hw.m rfl) k2) k2
  clear_value v3
  exact keeps_ite k4 (State.raiseOf_keeps (hw.m rfl) (State.count_keeps (hw.m rfl) k4))

theorem State.judgeTrig_keeps {ar : List Area} (hw : Within (Area.telling [.time]) ar) {z a0 : State} {a1} (h1 :
    Keeps ar z a0) :
    Keeps ar z (State.judgeTrig a0 a1) := by
  unfold State.judgeTrig
  extract_lets -underBinder -merge +onlyGivenNames v1
  clear_value v1
  refine keeps_ite h1 ?_
  split
  · exact State.armAt_keeps (hw.m rfl) h1
  · exact State.raiseOf_keeps (hw.m rfl) (State.count_keeps (hw.m rfl) (State.disarm_keeps (hw.m rfl) h1))

theorem State.firePins_keeps {ar : List Area} (hw : Within [.time] ar) {z a0 : State} {a1} (h1 : Keeps ar z a0) :
    Keeps ar z (State.firePins a0 a1) := by
  unfold State.firePins
  extract_lets -underBinder -merge +onlyGivenNames v1
  clear_value v1
  exact State.each_keeps (fun v2 v3 k4 => keeps_ite k4 (keeps_ite (State.modTimeOut_keeps (hw.m rfl) k4)
      (State.modTimeOut_keeps (hw.m rfl)
    k4))) h1

theorem State.afterFire_keeps {ar : List Area} (hw : Within [.time] ar) {z a0 : State} {a1} (h1 : Keeps ar z a0) :
    Keeps ar z (State.afterFire a0 a1) := by
  unfold State.afterFire
  exact State.modTrig_keeps (hw.m rfl) h1

theorem State.domListen_keeps {ar : List Area} (hw : Within (Area.telling [.time, .twin]) ar) {z a0 : State} {a1} (h1
    : Keeps ar z a0) :
    Keeps ar z (State.domListen a0 a1) := by
  unfold State.domListen
  extract_lets -underBinder -merge +onlyGivenNames v1
  clear_value v1
  extract_lets -underBinder -merge +onlyGivenNames v2
  have k3 : Keeps ar z v2 := State.modDom_keeps (hw.m rfl) h1
  clear_value v2
  exact keeps_ite (State.activeLeft_keeps (hw.m rfl) k3) k3

theorem State.domLock_keeps {ar : List Area} (hw : Within (Area.telling [.time, .twin]) ar) {z a0 : State} {a1} (h1 :
    Keeps ar z a0) :
    Keeps ar z (State.domLock a0 a1) := by
  unfold State.domLock
  extract_lets -underBinder -merge +onlyGivenNames v1
  have k2 : Keeps ar z v1 := State.raiseOf_keeps (hw.m rfl) (State.modDom_keeps (hw.m rfl) h1)
  clear_value v1
  split
  · extract_lets -underBinder -merge +onlyGivenNames v3
    have k4 : Keeps ar z v3 := keeps_ite (State.modTime_keeps (hw.m rfl) (State.follow_keeps (hw.m rfl) k2))
        (State.modTime_keeps (hw.m rfl) k2)
    clear_value v3
    exact State.each_keeps (fun v5 v6 k7 => State.judgeTrig_keeps (hw.m rfl) k7) (State.raiseOf_keeps (hw.m rfl) k4)
  · exact keeps_ite (State.modTime_keeps (hw.m rfl) k2) k2

theorem State.domAcquire_keeps {ar : List Area} (hw : Within (Area.telling [.time, .twin]) ar) {z a0 : State} {a1}
    (h1 : Keeps ar z a0) :
    Keeps ar z (State.domAcquire a0 a1) := by
  unfold State.domAcquire
  extract_lets -underBinder -merge +onlyGivenNames v1
  clear_value v1
  extract_lets -underBinder -merge +onlyGivenNames v2
  have k3 : Keeps ar z v2 := State.modDom_keeps (hw.m rfl) h1
  clear_value v2
  exact keeps_ite (State.activeLeft_keeps (hw.m rfl) k3) k3

theorem State.sample_keeps {ar : List Area} (hw : Within (Area.telling [.time, .twin]) ar) {z a0 : State} {a1} {a2}
    (h1 : Keeps ar z a0) :
    Keeps ar z (State.sample a0 a1 a2) := by
  unfold State.sample
  extract_lets -underBinder -merge +onlyGivenNames v1
  clear_value v1
  extract_lets -underBinder -merge +onlyGivenNames v2
  have k3 : Keeps ar z v2 := State.count_keeps (hw.m rfl) h1
  clear_value v2
  extract_lets -underBinder -merge +onlyGivenNames v4
  have k5 : Keeps ar z v4 := State.modDom_keeps (hw.m rfl) k3
  clear_value v4
  extract_lets -underBinder -merge +onlyGivenNames v6 v7
  clear_value v6 v7
  extract_lets -underBinder -merge +onlyGivenNames v8
  have k9 : Keeps ar z v8 := State.modDom_keeps (hw.m rfl) k5
  clear_value v8
  extract_lets -underBinder -merge +onlyGivenNames v10
  have k11 : Keeps ar z v10 := State.count_keeps (hw.m rfl) k9
  clear_value v10
  extract_lets -underBinder -merge +onlyGivenNames v12 v13
  clear_value v12 v13
  extract_lets -underBinder -merge +onlyGivenNames v14
  have k15 : Keeps ar z v14 := keeps_ite (keeps_ite (State.follow_keeps (hw.m rfl) k11) k11) (State.modDom_keeps
      (hw.m rfl) k5)
  clear_value v14
  extract_lets -underBinder -merge +onlyGivenNames v16
  clear_value v16
  extract_lets -underBinder -merge +onlyGivenNames v17
  have k18 : Keeps ar z v17 := keeps_ite (State.domAcquire_keeps (hw.m rfl) k15) (keeps_ite (State.domAcquire_keeps
      (hw.m rfl) k15) k15)
  clear_value v17
  extract_lets -underBinder -merge +onlyGivenNames v19
  have k20 : Keeps ar z v19 := State.modDom_keeps (hw.m rfl) k18
  clear_value v19
  extract_lets -underBinder -merge +onlyGivenNames v21
  clear_value v21
  exact keeps_ite (State.domLock_keeps (hw.m rfl) k20) k20

theorem State.ptpFrame_keeps {ar : List Area} {z a0 : State} {a1} {a2} {a3} (h1 : Keeps ar z a0) :
    Keeps ar z (State.ptpFrame a0 a1 a2 a3).1 := by
  unfold State.ptpFrame
  extract_lets -underBinder -merge +onlyGivenNames v1 v2 v3
  clear_value v1 v2 v3
  refine keeps_ite1 (keeps_mk1 h1) ?_
  refine keeps_ite1 ?_ ?_
  · split
    rename_i v4 v5 v6 e7
    have k8 : Keeps ar z v6 := keeps_snd e7 (State.drawBytes_keeps h1)
    extract_lets -underBinder -merge +onlyGivenNames v9
    clear_value v9
    exact keeps_mk1 k8
  · split
    rename_i v10 v11 v12 e13
    have k14 : Keeps ar z v12 := keeps_snd e13 (State.drawBytes_keeps h1)
    extract_lets -underBinder -merge +onlyGivenNames v15 v16
    clear_value v15 v16
    exact keeps_mk1 k14

theorem State.ptpSend_keeps {ar : List Area} (hw : Within (Area.telling [.chans, .eth, .buses, .sw]) ar) {z a0 :
    State} {a1} {a2} {a3} (h1 : Keeps ar z a0) :
    Keeps ar z (State.ptpSend a0 a1 a2 a3) := by
  unfold State.ptpSend
  split
  rename_i v1 v2 v3 e4
  have k5 : Keeps ar z v2 := keeps_fst e4 (State.ptpFrame_keeps h1)
  refine keeps_ite k5 ?_
  split
  rename_i v6 v7 v8 e9
  have k10 : Keeps ar z v7 := keeps_fst e9 (State.newFrame_keeps (hw.m rfl) (State.cross_keeps (hw.m rfl) k5))
  exact State.retire_keeps (hw.m rfl) (State.admitRef_keeps (hw.m rfl) k10)

theorem State.offsetSample_keeps {ar : List Area} (hw : Within (Area.telling [.time, .twin]) ar) {z a0 : State} {a1}
    {a2} {a3} {a4} {a5} (h1 : Keeps ar z a0) :
    Keeps ar z (State.offsetSample a0 a1 a2 a3 a4 a5) := by
  unfold State.offsetSample
  extract_lets -underBinder -merge +onlyGivenNames v1
  clear_value v1
  extract_lets -underBinder -merge +onlyGivenNames v2
  have k3 : Keeps ar z v2 := State.modDom_keeps (hw.m rfl) h1
  clear_value v2
  exact State.sample_keeps (hw.m rfl) k3

theorem State.ptpSync_keeps {ar : List Area} (hw : Within (Area.telling [.time, .twin]) ar) {z a0 : State} {a1} {a2}
    {a3} {a4} (h1 : Keeps ar z a0) :
    Keeps ar z (State.ptpSync a0 a1 a2 a3 a4) := by
  unfold State.ptpSync
  extract_lets -underBinder -merge +onlyGivenNames v1
  clear_value v1
  refine keeps_ite h1 ?_
  extract_lets -underBinder -merge +onlyGivenNames v2
  have k3 : Keeps ar z v2 := State.modDom_keeps (hw.m rfl) h1
  clear_value v2
  exact keeps_ite (State.modDom_keeps (hw.m rfl) k3) (State.offsetSample_keeps (hw.m rfl) (State.modDom_keeps (hw.m
      rfl) k3))

theorem State.ptpFollowUp_keeps {ar : List Area} (hw : Within (Area.telling [.time, .twin]) ar) {z a0 : State} {a1}
    {a2} {a3} (h1 : Keeps ar z a0) :
    Keeps ar z (State.ptpFollowUp a0 a1 a2 a3) := by
  unfold State.ptpFollowUp
  extract_lets -underBinder -merge +onlyGivenNames v1
  clear_value v1
  refine keeps_ite h1 ?_
  split
  · exact keeps_ite (State.offsetSample_keeps (hw.m rfl) (State.modDom_keeps (hw.m rfl) h1)) h1
  · exact h1

theorem State.setPath_keeps {ar : List Area} (hw : Within [.time] ar) {z a0 : State} {a1} {a2} {a3} (h1 : Keeps ar z
    a0) :
    Keeps ar z (State.setPath a0 a1 a2 a3) := by
  unfold State.setPath
  exact State.modDom_keeps (hw.m rfl) h1

theorem State.ptpPdelayReq_keeps {ar : List Area} (hw : Within (Area.telling [.chans, .eth, .buses, .sw]) ar) {z a0 :
    State} {a1} {a2} {a3} {a4} (h1 : Keeps ar z a0) :
    Keeps ar z (State.ptpPdelayReq a0 a1 a2 a3 a4) := by
  unfold State.ptpPdelayReq
  exact State.ptpSend_keeps (hw.m rfl) h1

theorem State.ptpPdelayResp_keeps {ar : List Area} (hw : Within [.time] ar) {z a0 : State} {a1} {a2} {a3} {a4} (h1 :
    Keeps ar z a0) :
    Keeps ar z (State.ptpPdelayResp a0 a1 a2 a3 a4) := by
  unfold State.ptpPdelayResp
  split
  · exact keeps_ite h1 (keeps_ite (State.modDom_keeps (hw.m rfl) h1) (State.setPath_keeps (hw.m rfl) h1))
  · exact h1

theorem State.ptpPdelayFollowUp_keeps {ar : List Area} (hw : Within [.time] ar) {z a0 : State} {a1} {a2} {a3} (h1 :
    Keeps ar z a0) :
    Keeps ar z (State.ptpPdelayFollowUp a0 a1 a2 a3) := by
  unfold State.ptpPdelayFollowUp
  extract_lets -underBinder -merge +onlyGivenNames v1
  clear_value v1
  split
  · refine keeps_ite h1 ?_
    extract_lets -underBinder -merge +onlyGivenNames v2
    have k3 : Keeps ar z v2 := State.modDom_keeps (hw.m rfl) h1
    clear_value v2
    exact State.setPath_keeps (hw.m rfl) k3
  · exact h1

theorem State.ptpDelayResp_keeps {ar : List Area} (hw : Within [.time] ar) {z a0 : State} {a1} {a2} {a3} (h1 : Keeps
    ar z a0) :
    Keeps ar z (State.ptpDelayResp a0 a1 a2 a3) := by
  unfold State.ptpDelayResp
  extract_lets -underBinder -merge +onlyGivenNames v1
  clear_value v1
  split
  · exact keeps_ite h1 (State.setPath_keeps (hw.m rfl) (State.modDom_keeps (hw.m rfl) h1))
  · exact h1

theorem State.ptpAnnounce_keeps {ar : List Area} (hw : Within (Area.telling [.chans, .eth, .buses, .sw, .time,
    .twin]) ar) {z a0 : State} {a1} {a2} {a3} (h1 : Keeps ar z a0) :
    Keeps ar z (State.ptpAnnounce a0 a1 a2 a3) := by
  unfold State.ptpAnnounce
  extract_lets -underBinder -merge +onlyGivenNames v1 v2 v3
  clear_value v1 v2 v3
  refine keeps_ite h1 ?_
  extract_lets -underBinder -merge +onlyGivenNames v4
  have k5 : Keeps ar z v4 := State.modDom_keeps (hw.m rfl) h1
  clear_value v4
  extract_lets -underBinder -merge +onlyGivenNames v6
  have k7 : Keeps ar z v6 := State.raiseOf_keeps (hw.m rfl) (State.count_keeps (hw.m rfl) k5)
  clear_value v6
  extract_lets -underBinder -merge +onlyGivenNames v8
  have k9 : Keeps ar z v8 := State.modDom_keeps (hw.m rfl) k7
  clear_value v8
  extract_lets -underBinder -merge +onlyGivenNames v10
  have k11 : Keeps ar z v10 := keeps_ite (State.activeLeft_keeps (hw.m rfl) k9) k5
  clear_value v10
  exact keeps_ite (State.each_keeps (fun v12 v13 k14 => State.ptpSend_keeps (hw.m rfl) k14) k11) k11

theorem State.ptpCount_keeps {ar : List Area} (hw : Within [.ctrs] ar) {z a0 : State} {a1} {a2} (h1 : Keeps ar z a0) :
    Keeps ar z (State.ptpCount a0 a1 a2) := by
  unfold State.ptpCount
  exact keeps_ite (State.count_keeps (hw.m rfl) h1) (keeps_ite (State.count_keeps (hw.m rfl) h1) (keeps_ite
      (State.count_keeps (hw.m rfl) h1) h1))

theorem execTimeMessageReceived_keeps {ar : List Area} (hw : Within (Area.telling [.chans, .eth, .buses, .sw, .time,
    .twin]) ar) {z : State} {t : Nat} {a1} {a2} {a3} {s : State} (h : Keeps ar z (s.tick t)) :
    NextKeeps ar z (execTimeMessageReceived t a1 a2 a3 s) := by
  unfold execTimeMessageReceived
  extract_lets -underBinder -merge +onlyGivenNames v1
  have k2 : Keeps ar z v1 := h
  clear_value v1
  extract_lets -underBinder -merge +onlyGivenNames v3
  clear_value v3
  refine keeps_next ?_
  split
  · exact k2
  · refine keeps_ite k2 ?_
    extract_lets -underBinder -merge +onlyGivenNames v4
    clear_value v4
    extract_lets -underBinder -merge +onlyGivenNames v5
    have k6 : Keeps ar z v5 := State.ptpCount_keeps (hw.m rfl) (State.cross_keeps (hw.m rfl) k2)
    clear_value v5
    extract_lets -underBinder -merge +onlyGivenNames v7
    clear_value v7
    exact keeps_ite (State.ptpSync_keeps (hw.m rfl) k6) (keeps_ite (State.ptpFollowUp_keeps (hw.m rfl) k6) (keeps_ite
      (State.ptpAnnounce_keeps (hw.m rfl) k6) (keeps_ite (keeps_ite (State.ptpPdelayReq_keeps (hw.m rfl) k6) (keeps_ite
      (State.ptpPdelayResp_keeps (hw.m rfl) k6) (keeps_ite (State.ptpPdelayFollowUp_keeps (hw.m rfl) k6) k6)))
          (keeps_ite
      (State.ptpDelayResp_keeps (hw.m rfl) k6) k6))))

theorem execPathDelayRequestSend_keeps {ar : List Area} (hw : Within (Area.telling [.chans, .eth, .buses, .sw,
    .time]) ar) {z : State} {t : Nat} {a1} {s : State} (h : Keeps ar z (s.tick t)) :
    NextKeeps ar z (execPathDelayRequestSend t a1 s) := by
  unfold execPathDelayRequestSend
  extract_lets -underBinder -merge +onlyGivenNames v1
  have k2 : Keeps ar z v1 := h
  clear_value v1
  extract_lets -underBinder -merge +onlyGivenNames v3
  clear_value v3
  refine keeps_next ?_
  refine keeps_ite k2 ?_
  extract_lets -underBinder -merge +onlyGivenNames v4
  clear_value v4
  extract_lets -underBinder -merge +onlyGivenNames v5
  have k6 : Keeps ar z v5 := State.modDom_keeps (hw.m rfl) k2
  clear_value v5
  exact keeps_ite (State.each_keeps (fun v7 v8 k9 => State.count_keeps (hw.m rfl) (State.ptpSend_keeps (hw.m rfl)
      k9)) k6) (keeps_ite
    (State.count_keeps (hw.m rfl) (State.ptpSend_keeps (hw.m rfl) k6)) k6)

theorem State.ptpLeaves_keeps {ar : List Area} (hw : Within (Area.telling [.chans, .eth, .buses, .sw, .time]) ar) {z
    a0 : State} {a1} {a2} (h1 : Keeps ar z a0) :
    Keeps ar z (State.ptpLeaves a0 a1 a2) := by
  unfold State.ptpLeaves
  split
  · exact h1
  · extract_lets -underBinder -merge +onlyGivenNames v1 v2
    clear_value v1 v2
    exact keeps_ite (State.modDom_keeps (hw.m rfl) h1) (keeps_ite (State.ptpSend_keeps (hw.m rfl) h1) h1)

theorem State.refLost_keeps {ar : List Area} (hw : Within (Area.but [.host, .slp]) ar) {z a0 : State} (h1 : Keeps ar
    z a0) :
    Keeps ar z (State.refLost a0) := by
  unfold State.refLost
  refine keeps_ite h1 ?_
  extract_lets -underBinder -merge +onlyGivenNames v1
  clear_value v1
  extract_lets -underBinder -merge +onlyGivenNames v2
  have k3 : Keeps ar z v2 := State.modTime_keeps (hw.m rfl) h1
  clear_value v2
  extract_lets -underBinder -merge +onlyGivenNames v4
  have k5 : Keeps ar z v4 := State.each_keeps (fun v6 v7 k8 => keeps_ite k8 (State.modDom_keeps (hw.m rfl) k8)) k3
  clear_value v4
  extract_lets -underBinder -merge +onlyGivenNames v9
  have k10 : Keeps ar z v9 := keeps_ite (State.activeLeft_keeps (hw.m rfl) k5) k5
  clear_value v9
  exact State.report_keeps (hw.m rfl) k10

theorem State.domTimeout_keeps {ar : List Area} (hw : Within (Area.telling [.time]) ar) {z a0 : State} {a1} {a2} (h1
    : Keeps ar z a0) :
    Keeps ar z (State.domTimeout a0 a1 a2) := by
  unfold State.domTimeout
  extract_lets -underBinder -merge +onlyGivenNames v1 v2
  clear_value v1 v2
  exact keeps_ite (State.raiseOf_keeps (hw.m rfl) (State.count_keeps (hw.m rfl) (State.modDom_keeps (hw.m rfl) h1))) h1

theorem State.domTimeouts_keeps {ar : List Area} (hw : Within (Area.but [.host, .slp]) ar) {z a0 : State} {a1} (h1 :
    Keeps ar z a0) :
    Keeps ar z (State.domTimeouts a0 a1) := by
  unfold State.domTimeouts
  extract_lets -underBinder -merge +onlyGivenNames v1
  have k2 : Keeps ar z v1 := keeps_ite (State.refLost_keeps (hw.m rfl) h1) h1
  clear_value v1
  extract_lets -underBinder -merge +onlyGivenNames v3 v4
  clear_value v3 v4
  extract_lets -underBinder -merge +onlyGivenNames v5
  have k6 : Keeps ar z v5 := State.each_keeps (fun v7 v8 k9 => State.domTimeout_keeps (hw.m rfl) k9) k2
  clear_value v5
  split
  · exact keeps_ite k6 (State.activeLeft_keeps (hw.m rfl) k6)
  · exact k6

theorem execDomainTimeout_keeps {ar : List Area} (hw : Within (Area.but [.host, .slp]) ar) {z : State} {t : Nat} {a1}
    {a2} {s : State} (h : Keeps ar z (s.tick t)) :
    NextKeeps ar z (execDomainTimeout t a1 a2 s) := by
  unfold execDomainTimeout
  exact keeps_next (State.domTimeouts_keeps (hw.m rfl) h)

theorem execReferenceLost_keeps {ar : List Area} (hw : Within (Area.but [.host, .slp]) ar) {z : State} {t : Nat} {s :
    State} (h : Keeps ar z (s.tick t)) :
    NextKeeps ar z (execReferenceLost t s) := by
  unfold execReferenceLost
  exact keeps_next (State.refLost_keeps (hw.m rfl) h)

theorem execReferenceReturn_keeps {ar : List Area} (hw : Within (Area.telling [.time, .flt, .twin]) ar) {z : State}
    {t : Nat} {s : State} (h : Keeps ar z (s.tick t)) :
    NextKeeps ar z (execReferenceReturn t s) := by
  unfold execReferenceReturn
  extract_lets -underBinder -merge +onlyGivenNames v1
  have k2 : Keeps ar z v1 := h
  clear_value v1
  refine keeps_next ?_
  refine keeps_ite k2 ?_
  extract_lets -underBinder -merge +onlyGivenNames v3
  have k4 : Keeps ar z v3 := State.modTime_keeps (hw.m rfl) k2
  clear_value v3
  extract_lets -underBinder -merge +onlyGivenNames v5
  have k6 : Keeps ar z v5 := State.each_keeps (fun v7 v8 k9 => keeps_ite (State.domListen_keeps (hw.m rfl) k9) k9) k4
  clear_value v5
  exact State.quieten_keeps (hw.m rfl) k6

theorem execFollowUpTableExpiry_keeps {ar : List Area} (hw : Within [.eth, .links] ar) {z : State} {t : Nat} {a1} {s
    : State} (h : Keeps ar z (s.tick t)) :
    NextKeeps ar z (execFollowUpTableExpiry t a1 s) := by
  unfold execFollowUpTableExpiry
  extract_lets -underBinder -merge +onlyGivenNames v1
  have k2 : Keeps ar z v1 := h
  clear_value v1
  exact keeps_next (State.modPort_keeps (hw.m rfl) k2)

theorem execSlewEnd_keeps {ar : List Area} (hw : Within [.time] ar) {z : State} {t : Nat} {s : State} (h : Keeps ar z
    (s.tick t)) :
    NextKeeps ar z (execSlewEnd t s) := by
  unfold execSlewEnd
  extract_lets -underBinder -merge +onlyGivenNames v1
  have k2 : Keeps ar z v1 := h
  clear_value v1
  refine keeps_next ?_
  split
  · exact keeps_ite (State.modTime_keeps (hw.m rfl) k2) k2
  · exact k2

theorem execTimeOutPulseEnd_keeps {ar : List Area} (hw : Within [.time] ar) {z : State} {t : Nat} {a1} {s : State} (h
    : Keeps ar z (s.tick t)) :
    NextKeeps ar z (execTimeOutPulseEnd t a1 s) := by
  unfold execTimeOutPulseEnd
  extract_lets -underBinder -merge +onlyGivenNames v1
  have k2 : Keeps ar z v1 := h
  clear_value v1
  refine keeps_next ?_
  split
  · exact keeps_ite (State.pinLevel_keeps (hw.m rfl) k2) k2
  · exact k2

theorem execTimeInCapture_keeps {ar : List Area} (hw : Within (Area.telling [.time]) ar) {z : State} {t : Nat} {a1}
    {a2} {s : State} (h : Keeps ar z (s.tick t)) :
    NextKeeps ar z (execTimeInCapture t a1 a2 s) := by
  unfold execTimeInCapture
  extract_lets -underBinder -merge +onlyGivenNames v1
  have k2 : Keeps ar z v1 := h
  clear_value v1
  extract_lets -underBinder -merge +onlyGivenNames v3 v4
  clear_value v3 v4
  refine keeps_next ?_
  refine keeps_ite k2 ?_
  refine keeps_ite ?_ (State.count_keeps (hw.m rfl) (State.modTimeIn_keeps (hw.m rfl) k2))
  extract_lets -underBinder -merge +onlyGivenNames v5
  have k6 : Keeps ar z v5 := State.count_keeps (hw.m rfl) (State.modTimeIn_keeps (hw.m rfl) k2)
  clear_value v5
  exact keeps_ite k6 (State.raiseOf_keeps (hw.m rfl) k6)

theorem State.domDisable_keeps {ar : List Area} (hw : Within (Area.telling [.time, .twin]) ar) {z a0 : State} {a1}
    (h1 : Keeps ar z a0) :
    Keeps ar z (State.domDisable a0 a1) := by
  unfold State.domDisable
  extract_lets -underBinder -merge +onlyGivenNames v1
  clear_value v1
  extract_lets -underBinder -merge +onlyGivenNames v2
  have k3 : Keeps ar z v2 := State.modDom_keeps (hw.m rfl) h1
  clear_value v2
  exact keeps_ite (State.modTime_keeps (hw.m rfl) k3) (keeps_ite (State.activeLeft_keeps (hw.m rfl) k3) (keeps_ite
      (State.switchTo_keeps (hw.m rfl)
    k3) k3))

theorem State.domConfig_keeps {ar : List Area} (hw : Within (Area.telling [.time, .twin]) ar) {z a0 : State} {a1}
    {a2} (h1 : Keeps ar z a0) :
    Keeps ar z (State.domConfig a0 a1 a2) := by
  unfold State.domConfig
  extract_lets -underBinder -merge +onlyGivenNames v1 v2 v3
  clear_value v1 v2 v3
  extract_lets -underBinder -merge +onlyGivenNames v4
  have k5 : Keeps ar z v4 := State.modDom_keeps (hw.m rfl) h1
  clear_value v4
  refine keeps_ite (keeps_ite (State.domDisable_keeps (hw.m rfl) k5) k5) ?_
  extract_lets -underBinder -merge +onlyGivenNames v6
  have k7 : Keeps ar z v6 := keeps_ite (keeps_ite (State.modDom_keeps (hw.m rfl) k5) (State.modDom_keeps (hw.m rfl)
      k5)) (keeps_ite
    (State.domListen_keeps (hw.m rfl) k5) k5)
  clear_value v6
  exact keeps_ite (State.switchTo_keeps (hw.m rfl) k7) k7

theorem effectTimeDomainConfig_keeps {ar : List Area} (hw : Within (Area.telling [.eth, .time, .twin]) ar) {z a0 :
    State} {a1} (h1 : Keeps ar z a0) :
    Keeps ar z (effectTimeDomainConfig a0 a1).1 := by
  unfold effectTimeDomainConfig
  extract_lets -underBinder -merge +onlyGivenNames v1
  clear_value v1
  exact keeps_ite1 (keeps_mk1 (State.domConfig_keeps (hw.m rfl) h1)) (keeps_ite1 (keeps_mk1 (State.each_keeps (fun v2
      v3 k4 =>
    State.modPort_keeps (hw.m rfl) k4) h1)) (keeps_mk1 (State.each_keeps (fun v5 v6 k7 => State.modTimeIn_keeps (hw.m
        rfl) k7) h1)))

theorem State.tick_of_le {s : State} {t : Nat} (h : t ≤ s.now) : s.tick t = s := by
  unfold State.tick
  rw [Nat.max_eq_left h]

theorem execTimeDomainConfig_keeps {ar : List Area} (hw : Within (Area.but [.host, .slp]) ar) {z : State} {t : Nat}
    {a1} {s : State} (h : Keeps ar z (s.tick t)) :
    NextKeeps ar z (execTimeDomainConfig t a1 s) := by
  unfold execTimeDomainConfig
  refine keeps_next (State.simple_keeps (hw.m rfl) ?_ (fun v1 v2 k3 => effectTimeDomainConfig_keeps (hw.m rfl) k3))
  have e : t ≤ ((s.tick t).domTimeouts []).now := by
    have g := (State.domTimeouts_keeps (ar := Area.all) (a1 := []) (Within.any _) (Keeps.refl (s.tick t))).now
    rw [g]
    exact Nat.le_max_right _ _
  rw [State.tick_of_le e]
  exact State.domTimeouts_keeps (hw.m rfl) h

theorem effectTimeServoConfig_keeps {ar : List Area} (hw : Within [.time] ar) {z a0 : State} {a1} (h1 : Keeps ar z a0) :
    Keeps ar z (effectTimeServoConfig a0 a1).1 := by
  unfold effectTimeServoConfig
  refine keeps_ite1 (keeps_mk1 (State.modDom_keeps (hw.m rfl) h1)) ?_
  extract_lets -underBinder -merge +onlyGivenNames v1
  clear_value v1
  exact keeps_mk1 (State.modTime_keeps (hw.m rfl) h1)

theorem execTimeServoConfig_keeps {ar : List Area} (hw : Within (Area.telling [.windows, .mbx, .time, .cw, .boot])
    ar) {z : State} {t : Nat} {a1} {s : State} (h : Keeps ar z (s.tick t)) :
    NextKeeps ar z (execTimeServoConfig t a1 s) := by
  unfold execTimeServoConfig
  exact keeps_next (State.simple_keeps (hw.m rfl) h (fun v1 v2 k3 => effectTimeServoConfig_keeps (hw.m rfl) k3))

theorem effectTimeCaptureRead_keeps {ar : List Area} (hw : Within [.time] ar) {z a0 : State} {a1} (h1 : Keeps ar z a0) :
    Keeps ar z (effectTimeCaptureRead a0 a1).1 := by
  unfold effectTimeCaptureRead
  extract_lets -underBinder -merge +onlyGivenNames v1 v2
  clear_value v1 v2
  exact keeps_mk1 (State.modTimeIn_keeps (hw.m rfl) h1)

theorem execTimeCaptureRead_keeps {ar : List Area} (hw : Within (Area.telling [.windows, .mbx, .time, .cw, .boot])
    ar) {z : State} {t : Nat} {a1} {s : State} (h : Keeps ar z (s.tick t)) :
    NextKeeps ar z (execTimeCaptureRead t a1 s) := by
  unfold execTimeCaptureRead
  exact keeps_next (State.simple_keeps (hw.m rfl) h (fun v1 v2 k3 => effectTimeCaptureRead_keeps (hw.m rfl) k3))

theorem execTimeStatus_keeps {ar : List Area} (hw : Within (Area.telling [.windows, .mbx, .cw, .boot]) ar) {z :
    State} {t : Nat} {a1} {s : State} (h : Keeps ar z (s.tick t)) :
    NextKeeps ar z (execTimeStatus t a1 s) := by
  unfold execTimeStatus
  exact keeps_next (State.query_keeps (hw.m rfl) h)

theorem State.putSample_keeps {ar : List Area} (hw : Within [.ctrs, .aud] ar) {z a0 : State} {a1} (h1 : Keeps ar z a0) :
    Keeps ar z (State.putSample a0 a1) := by
  unfold State.putSample
  extract_lets -underBinder -merge +onlyGivenNames v1 v2
  clear_value v1 v2
  refine keeps_ite ?_ (keeps_ite (keeps_ite (State.count_keeps (hw.m rfl) h1) h1) (State.modAud_keeps (hw.m rfl) h1))
  extract_lets -underBinder -merge +onlyGivenNames v3
  have k4 : Keeps ar z v3 := keeps_ite (State.count_keeps (hw.m rfl) h1) h1
  clear_value v3
  exact keeps_ite (State.modAud_keeps (hw.m rfl) k4) k4

theorem State.putRated_keeps {ar : List Area} (hw : Within [.ctrs, .aud] ar) {z a0 : State} {a1} {a2} (h1 : Keeps ar
    z a0) :
    Keeps ar z (State.putRated a0 a1 a2) := by
  unfold State.putRated
  refine keeps_ite (State.putSample_keeps (hw.m rfl) h1) ?_
  refine keeps_foldl ?_ h1
  intro v1 v2 k3
  split
  rename_i v4 v5 v6 e7
  have k8 : Keeps ar z v6 := keeps_snd e7 (State.drawBelow_keeps k3)
  exact State.putSample_keeps (hw.m rfl) k8

theorem State.talkOne_keeps {ar : List Area} (hw : Within (Area.telling [.chans, .eth, .buses, .sw, .aud]) ar) {z a0
    : State} {a1} (h1 : Keeps ar z a0) :
    OptKeeps ar z (State.talkOne a0 a1) := by
  unfold State.talkOne
  extract_lets -underBinder -merge +onlyGivenNames v1
  clear_value v1
  refine keeps_iteO keeps_none ?_
  extract_lets -underBinder -merge +onlyGivenNames v2
  clear_value v2
  split
  · refine keeps_iteO keeps_none ?_
    extract_lets -underBinder -merge +onlyGivenNames v3
    clear_value v3
    split
    rename_i v4 v5 v6 e7
    have k8 : Keeps ar z v6 := by
      refine keeps_snd e7 ?_
      refine keeps_foldl_snd ?_ (keeps_mk2 h1)
      intro v9 v10 k11
      refine keeps_foldl_snd ?_ k11
      intro v12 v13 k14
      refine keeps_ite2 ?_ (keeps_mk2 k14)
      split
      rename_i v15 v16 v17 e18
      have k19 : Keeps ar z v17 := keeps_snd e18 (State.drawBelow_keeps k14)
      exact keeps_mk2 k19
    extract_lets -underBinder -merge +onlyGivenNames v20 v21
    clear_value v20 v21
    extract_lets -underBinder -merge +onlyGivenNames v22
    have k23 : Keeps ar z v22 := State.count_keeps (hw.m rfl) (State.modAaf_keeps (hw.m rfl) k8)
    clear_value v22
    refine keeps_iteO (keeps_some k23) ?_
    split
    rename_i v24 v25 v26 e27
    have k28 : Keeps ar z v25 := keeps_fst e27 (State.newFrame_keeps (hw.m rfl) (State.cross_keeps (hw.m rfl) k23))
    exact keeps_some (State.retire_keeps (hw.m rfl) (State.admitRef_keeps (hw.m rfl) k28))
  · exact keeps_none

theorem State.talkLoop_keeps {ar : List Area} (hw : Within (Area.telling [.chans, .eth, .buses, .sw, .aud]) ar) {z a0
    : State} {a1} {a2} (h1 : Keeps ar z a0) :
    Keeps ar z (State.talkLoop a0 a1 a2) := by
  induction a2 generalizing a0
  · unfold State.talkLoop
    exact h1
  · rename_i w0 ih
    unfold State.talkLoop
    split
    · rename_i v1 e2
      exact h1
    · rename_i v3 v4 e5
      have k6 : Keeps ar z v4 := keeps_of_some e5 (State.talkOne_keeps (hw.m rfl) h1)
      exact ih k6

theorem State.talk_keeps {ar : List Area} (hw : Within (Area.telling [.chans, .eth, .buses, .sw, .aud]) ar) {z a0 :
    State} (h1 : Keeps ar z a0) :
    Keeps ar z (State.talk a0) := by
  unfold State.talk
  exact keeps_ite (State.each_keeps (fun v1 v2 k3 => State.talkLoop_keeps (hw.m rfl) k3) h1) h1

theorem State.tdmOut_keeps {ar : List Area} {z a0 : State} {a1} (h1 : Keeps ar z a0) :
    Keeps ar z (State.tdmOut a0 a1).2 := by
  unfold State.tdmOut
  refine keeps_foldl_snd ?_ (keeps_mk2 h1)
  intro v1 v2 k3
  refine keeps_ite2 ?_ (keeps_mk2 k3)
  split
  rename_i v4 v5 v6 e7
  have k8 : Keeps ar z v6 := keeps_snd e7 (State.drawBelow_keeps k3)
  exact keeps_mk2 k8

theorem State.tdmFrame_keeps {ar : List Area} (hw : Within (Area.telling [.chans, .eth, .buses, .sw, .aud]) ar) {z a0
    : State} {a1} {a2} (h1 : Keeps ar z a0) :
    Keeps ar z (State.tdmFrame a0 a1 a2) := by
  unfold State.tdmFrame
  extract_lets -underBinder -merge +onlyGivenNames v1 v2
  clear_value v1 v2
  refine keeps_ite h1 ?_
  extract_lets -underBinder -merge +onlyGivenNames v3
  have k4 : Keeps ar z v3 := State.modTdm_keeps (hw.m rfl) h1
  clear_value v3
  extract_lets -underBinder -merge +onlyGivenNames v5
  have k6 : Keeps ar z v5 := State.count_keeps (hw.m rfl) k4
  clear_value v5
  extract_lets -underBinder -merge +onlyGivenNames v7
  have k8 : Keeps ar z v7 := by
    unfold v7
    refine keeps_ite ?_ k6
    split
    rename_i v9 v10 v11 e12
    have k13 : Keeps ar z v11 := keeps_snd e12 (keeps_ite2 (State.tdmOut_keeps (State.cross_keeps (hw.m rfl) k6))
        (keeps_mk2 k6))
    exact State.modTdm_keeps (hw.m rfl) k13
  clear_value v7
  refine keeps_ite k8 ?_
  extract_lets -underBinder -merge +onlyGivenNames v14
  have k15 : Keeps ar z v14 := State.cross_keeps (hw.m rfl) k8
  clear_value v14
  extract_lets -underBinder -merge +onlyGivenNames v16
  clear_value v16
  extract_lets -underBinder -merge +onlyGivenNames v17
  have k18 : Keeps ar z v17 := by
    unfold v17
    refine keeps_foldl ?_ k15
    intro v19 v20 k21
    split
    rename_i v22 v23 v24 e25
    have k26 : Keeps ar z v24 := keeps_snd e25 (State.drawBelow_keeps k21)
    exact State.putRated_keeps (hw.m rfl) k26
  clear_value v17
  exact State.talk_keeps (hw.m rfl) k18

theorem State.trigFire_keeps {ar : List Area} (hw : Within (Area.telling [.chans, .eth, .buses, .sw, .sig, .time,
    .aud, .tide, .sec]) ar) {z a0 : State} {a1} (h1 : Keeps ar z a0) :
    Keeps ar z (State.trigFire a0 a1) := by
  unfold State.trigFire
  refine keeps_ite ?_ h1
  extract_lets -underBinder -merge +onlyGivenNames v1
  clear_value v1
  extract_lets -underBinder -merge +onlyGivenNames v2
  have k3 : Keeps ar z v2 := State.firePins_keeps (hw.m rfl) (State.count_keeps (hw.m rfl) h1)
  clear_value v2
  extract_lets -underBinder -merge +onlyGivenNames v4
  have k5 : Keeps ar z v4 := State.each_keeps (fun v6 v7 k8 => State.tdmFrame_keeps (hw.m rfl) k8) k3
  clear_value v4
  extract_lets -underBinder -merge +onlyGivenNames v9
  have k10 : Keeps ar z v9 := State.afterFire_keeps (hw.m rfl) k5
  clear_value v9
  exact keeps_ite (State.fireFlush_keeps (hw.m rfl) (State.periodic_keeps (hw.m rfl) k10)) k10

theorem execTimeTriggerFire_keeps {ar : List Area} (hw : Within (Area.telling [.chans, .eth, .buses, .sw, .sig,
    .time, .aud, .tide, .sec]) ar) {z : State} {t : Nat} {a1} {s : State} (h : Keeps ar z (s.tick t)) :
    NextKeeps ar z (execTimeTriggerFire t a1 s) := by
  unfold execTimeTriggerFire
  exact keeps_next (State.fireFlush_keeps (hw.m rfl) (State.trigFire_keeps (hw.m rfl) h))

theorem effectTimeTriggerSet_keeps {ar : List Area} (hw : Within (Area.telling [.chans, .eth, .buses, .sw, .sig,
    .time, .aud, .tide, .sec]) ar) {z a0 : State} {a1} (h1 : Keeps ar z a0) :
    Keeps ar z (effectTimeTriggerSet a0 a1).1 := by
  unfold effectTimeTriggerSet
  split
  · exact keeps_mk1 h1
  · extract_lets -underBinder -merge +onlyGivenNames v1
    have k2 : Keeps ar z v1 := State.trigFire_keeps (hw.m rfl) h1
    clear_value v1
    extract_lets -underBinder -merge +onlyGivenNames v3 v4 v5
    clear_value v3 v4 v5
    extract_lets -underBinder -merge +onlyGivenNames v6
    have k7 : Keeps ar z v6 := State.modTrig_keeps (hw.m rfl) (State.pinsLeave_keeps (hw.m rfl) k2)
    clear_value v6
    extract_lets -underBinder -merge +onlyGivenNames v8
    have k9 : Keeps ar z v8 := State.each_keeps (fun v10 v11 k12 => State.pinLevel_keeps (hw.m rfl) k12) k7
    clear_value v8
    extract_lets -underBinder -merge +onlyGivenNames v13
    clear_value v13
    split
    · exact keeps_mk1 (State.armAt_keeps (hw.m rfl) k9)
    · exact keeps_mk1 k9

theorem execTimeTriggerSet_keeps {ar : List Area} (hw : Within (Area.but [.host, .islands, .units, .parse, .tbl,
    .flt, .twin, .slp]) ar) {z : State} {t : Nat} {a1} {s : State} (h : Keeps ar z (s.tick t)) :
    NextKeeps ar z (execTimeTriggerSet t a1 s) := by
  unfold execTimeTriggerSet
  exact keeps_next (State.simple_keeps (hw.m rfl) h (fun v1 v2 k3 => effectTimeTriggerSet_keeps (hw.m rfl) k3))

theorem effectTimeTriggerClear_keeps {ar : List Area} (hw : Within (Area.telling [.chans, .eth, .buses, .sw, .sig,
    .time, .aud, .tide, .sec]) ar) {z a0 : State} {a1} (h1 : Keeps ar z a0) :
    Keeps ar z (effectTimeTriggerClear a0 a1).1 := by
  unfold effectTimeTriggerClear
  extract_lets -underBinder -merge +onlyGivenNames v1
  have k2 : Keeps ar z v1 := State.trigFire_keeps (hw.m rfl) h1
  clear_value v1
  exact keeps_mk1 (keeps_ite (State.disarm_keeps (hw.m rfl) k2) k2)

theorem execTimeTriggerClear_keeps {ar : List Area} (hw : Within (Area.but [.host, .islands, .units, .parse, .tbl,
    .flt, .twin, .slp]) ar) {z : State} {t : Nat} {a1} {s : State} (h : Keeps ar z (s.tick t)) :
    NextKeeps ar z (execTimeTriggerClear t a1 s) := by
  unfold execTimeTriggerClear
  exact keeps_next (State.simple_keeps (hw.m rfl) h (fun v1 v2 k3 => effectTimeTriggerClear_keeps (hw.m rfl) k3))

theorem execTdmNoFrame_keeps {ar : List Area} (hw : Within (Area.telling [.aud]) ar) {z : State} {t : Nat} {a1} {s :
    State} (h : Keeps ar z (s.tick t)) :
    NextKeeps ar z (execTdmNoFrame t a1 s) := by
  unfold execTdmNoFrame
  extract_lets -underBinder -merge +onlyGivenNames v1
  have k2 : Keeps ar z v1 := h
  clear_value v1
  extract_lets -underBinder -merge +onlyGivenNames v3 v4 v5
  clear_value v3 v4 v5
  refine keeps_next ?_
  refine keeps_ite ?_ k2
  extract_lets -underBinder -merge +onlyGivenNames v6
  have k7 : Keeps ar z v6 := State.modAud_keeps (hw.m rfl) (State.modTdm_keeps (hw.m rfl) k2)
  clear_value v6
  exact State.raiseOf_keeps (hw.m rfl) (State.count_keeps (hw.m rfl) k7)

theorem State.aafTake_keeps {ar : List Area} (hw : Within (Area.telling [.chans, .eth, .buses, .sw, .aud]) ar) {z a0
    : State} {a1} {a2} (h1 : Keeps ar z a0) :
    Keeps ar z (State.aafTake a0 a1 a2) := by
  unfold State.aafTake
  extract_lets -underBinder -merge +onlyGivenNames v1
  clear_value v1
  refine keeps_ite (State.count_keeps (hw.m rfl) h1) ?_
  extract_lets -underBinder -merge +onlyGivenNames v2 v3 v4
  clear_value v2 v3 v4
  split
  · exact h1
  · extract_lets -underBinder -merge +onlyGivenNames v5 v6
    clear_value v5 v6
    extract_lets -underBinder -merge +onlyGivenNames v7
    have k8 : Keeps ar z v7 := by
      unfold v7
      split
      · exact keeps_ite h1 (State.count_keeps (hw.m rfl) h1)
      · exact h1
    clear_value v7
    extract_lets -underBinder -merge +onlyGivenNames v9
    have k10 : Keeps ar z v9 := State.modAaf_keeps (hw.m rfl) k8
    clear_value v9
    extract_lets -underBinder -merge +onlyGivenNames v11
    have k12 : Keeps ar z v11 := State.count_keeps (hw.m rfl) k10
    clear_value v11
    extract_lets -underBinder -merge +onlyGivenNames v13
    have k14 : Keeps ar z v13 := keeps_ite (State.raiseOf_keeps (hw.m rfl) k12) k12
    clear_value v13
    extract_lets -underBinder -merge +onlyGivenNames v15
    have k16 : Keeps ar z v15 := keeps_foldl (fun v17 v18 k19 => keeps_foldl (fun v20 v21 k22 => State.putRated_keeps
        (hw.m rfl)
      k22) k19) k14
    clear_value v15
    exact State.talk_keeps (hw.m rfl) k16

theorem State.aafAccept_keeps {ar : List Area} (hw : Within (Area.telling [.chans, .eth, .buses, .sw, .aud]) ar) {z
    a0 : State} {a1} {a2} (h1 : Keeps ar z a0) :
    Keeps ar z (State.aafAccept a0 a1 a2) := by
  unfold State.aafAccept
  refine keeps_ite h1 ?_
  split
  · exact h1
  · exact State.each_keeps (fun v1 v2 k3 => State.aafTake_keeps (hw.m rfl) k3) h1

theorem execAafStreamLost_keeps {ar : List Area} (hw : Within (Area.telling [.aud]) ar) {z : State} {t : Nat} {a1} {s
    : State} (h : Keeps ar z (s.tick t)) :
    NextKeeps ar z (execAafStreamLost t a1 s) := by
  unfold execAafStreamLost
  extract_lets -underBinder -merge +onlyGivenNames v1
  have k2 : Keeps ar z v1 := h
  clear_value v1
  extract_lets -underBinder -merge +onlyGivenNames v3
  clear_value v3
  exact keeps_next (keeps_ite (State.raiseOf_keeps (hw.m rfl) (State.modAud_keeps (hw.m rfl) (State.modAaf_keeps
      (hw.m rfl) k2))) k2)

theorem State.annEnd_keeps {ar : List Area} (hw : Within (Area.telling [.aud]) ar) {z a0 : State} {a1} (h1 : Keeps ar
    z a0) :
    Keeps ar z (State.annEnd a0 a1) := by
  unfold State.annEnd
  exact State.raiseOf_keeps (hw.m rfl) (State.modAud_keeps (hw.m rfl) h1)

theorem State.annPreempt_keeps {ar : List Area} (hw : Within (Area.telling [.aud]) ar) {z a0 : State} {a1} {a2} (h1 :
    Keeps ar z a0) :
    Keeps ar z (State.annPreempt a0 a1 a2) := by
  unfold State.annPreempt
  exact keeps_ite h1 (State.raiseOf_keeps (hw.m rfl) (State.modAnn_keeps (hw.m rfl) h1))

theorem State.annPlay_keeps {ar : List Area} (hw : Within (Area.telling [.aud]) ar) {z a0 : State} {a1} {a2} (h1 :
    Keeps ar z a0) :
    Keeps ar z (State.annPlay a0 a1 a2) := by
  unfold State.annPlay
  extract_lets -underBinder -merge +onlyGivenNames v1
  clear_value v1
  extract_lets -underBinder -merge +onlyGivenNames v2
  have k3 : Keeps ar z v2 := State.modAnn_keeps (hw.m rfl) h1
  clear_value v2
  exact keeps_ite k3 (State.raiseOf_keeps (hw.m rfl) (State.count_keeps (hw.m rfl) k3))

theorem State.annJoin_keeps {ar : List Area} (hw : Within (Area.telling [.aud]) ar) {z a0 : State} {a1} {a2} (h1 :
    Keeps ar z a0) :
    Keeps ar z (State.annJoin a0 a1 a2) := by
  unfold State.annJoin
  extract_lets -underBinder -merge +onlyGivenNames v1
  clear_value v1
  exact keeps_ite (State.annPreempt_keeps (hw.m rfl) h1) (State.annPlay_keeps (hw.m rfl) h1)

theorem State.annStart_keeps {ar : List Area} (hw : Within (Area.telling [.aud]) ar) {z a0 : State} {a1} {a2} (h1 :
    Keeps ar z a0) :
    Keeps ar z (State.annStart a0 a1 a2) := by
  unfold State.annStart
  extract_lets -underBinder -merge +onlyGivenNames v1
  clear_value v1
  split
  · exact h1
  · extract_lets -underBinder -merge +onlyGivenNames v2
    have k3 : Keeps ar z v2 := State.modAnn_keeps (hw.m rfl) h1
    clear_value v2
    extract_lets -underBinder -merge +onlyGivenNames v4
    have k5 : Keeps ar z v4 := keeps_ite (State.count_keeps (hw.m rfl) k3) k3
    clear_value v4
    exact State.each_keeps (fun v6 v7 k8 => State.annJoin_keeps (hw.m rfl) k8) k5

theorem State.annPromote_keeps {ar : List Area} (hw : Within (Area.telling [.aud]) ar) {z a0 : State} {a1} (h1 :
    Keeps ar z a0) :
    Keeps ar z (State.annPromote a0 a1) := by
  unfold State.annPromote
  extract_lets -underBinder -merge +onlyGivenNames v1
  clear_value v1
  refine keeps_ite h1 ?_
  refine State.each_keeps ?_ h1
  intro v2 v3 k4
  extract_lets -underBinder -merge +onlyGivenNames v5
  clear_value v5
  exact keeps_ite k4 (State.annPlay_keeps (hw.m rfl) k4)

theorem State.annSettle_keeps {ar : List Area} (hw : Within (Area.telling [.aud]) ar) {z a0 : State} {a1} (h1 : Keeps
    ar z a0) :
    Keeps ar z (State.annSettle a0 a1) := by
  unfold State.annSettle
  extract_lets -underBinder -merge +onlyGivenNames v1
  clear_value v1
  extract_lets -underBinder -merge +onlyGivenNames v2
  have k3 : Keeps ar z v2 := State.each_keeps (fun v4 v5 k6 => keeps_ite k6 (State.annPreempt_keeps (hw.m rfl) k6)) h1
  clear_value v2
  extract_lets -underBinder -merge +onlyGivenNames v7
  clear_value v7
  refine keeps_ite k3 ?_
  extract_lets -underBinder -merge +onlyGivenNames v8
  have k9 : Keeps ar z v8 := State.modAnn_keeps (hw.m rfl) k3
  clear_value v8
  exact keeps_ite (State.annEnd_keeps (hw.m rfl) k9) k9

theorem State.zoneAim_keeps {ar : List Area} (hw : Within [.aud] ar) {z a0 : State} {a1} {a2} (h1 : Keeps ar z a0) :
    Keeps ar z (State.zoneAim a0 a1 a2) := by
  unfold State.zoneAim
  extract_lets -underBinder -merge +onlyGivenNames v1 v2 v3
  clear_value v1 v2 v3
  extract_lets -underBinder -merge +onlyGivenNames v4
  have k5 : Keeps ar z v4 := State.modZone_keeps (hw.m rfl) h1
  clear_value v4
  exact State.modAud_keeps (hw.m rfl) k5

theorem State.libValues_keeps {ar : List Area} (hw : Within (Area.telling [.aud]) ar) {z a0 : State} {a1} {a2} (h1 :
    Keeps ar z a0) :
    Keeps ar z (State.libValues a0 a1 a2).2 := by
  unfold State.libValues
  extract_lets -underBinder -merge +onlyGivenNames v1 v2 v3 v4
  clear_value v1 v2 v3 v4
  refine keeps_ite2 (keeps_mk2 h1) ?_
  refine keeps_ite2 ?_ ?_
  · extract_lets -underBinder -merge +onlyGivenNames v5
    have k6 : Keeps ar z v5 := State.count_keeps (hw.m rfl) h1
    clear_value v5
    exact keeps_mk2 (keeps_ite k6 (State.raiseOf_keeps (hw.m rfl) (State.modAnn_keeps (hw.m rfl) k6)))
  · extract_lets -underBinder -merge +onlyGivenNames v7
    clear_value v7
    split
    rename_i v8 v9 v10 e11
    have k12 : Keeps ar z v10 := by
      refine keeps_snd e11 ?_
      refine keeps_foldl_snd ?_ (keeps_mk2 h1)
      intro v13 v14 k15
      extract_lets -underBinder -merge +onlyGivenNames v16
      clear_value v16
      refine keeps_ite2 (keeps_mk2 k15) ?_
      refine keeps_ite2 ?_ (keeps_mk2 k15)
      split
      rename_i v17 v18 v19 e20
      have k21 : Keeps ar z v19 := keeps_snd e20 (State.drawBelow_keeps k15)
      exact keeps_mk2 k21
    exact keeps_mk2 (State.modAnn_keeps (hw.m rfl) k12)

theorem State.mixOutput_keeps {ar : List Area} (hw : Within (Area.telling [.aud]) ar) {z a0 : State} {a1} {a2} {a3}
    {a4} (h1 : Keeps ar z a0) :
    Keeps ar z (State.mixOutput a0 a1 a2 a3 a4).1 := by
  unfold State.mixOutput
  extract_lets -underBinder -merge +onlyGivenNames v1 v2 v3
  clear_value v1 v2 v3
  extract_lets -underBinder -merge +onlyGivenNames v4
  have k5 : Keeps ar z v4 := State.count_keeps (hw.m rfl) h1
  clear_value v4
  extract_lets -underBinder -merge +onlyGivenNames v6
  have k7 : Keeps ar z v6 := keeps_ite h1 (keeps_ite k5 (State.raiseOf_keeps (hw.m rfl) (State.modAud_keeps (hw.m
      rfl) k5)))
  clear_value v6
  exact keeps_mk1 k7

theorem State.computeBlock_keeps {ar : List Area} (hw : Within (Area.telling [.chans, .eth, .buses, .sw, .aud]) ar)
    {z a0 : State} {a1} (h1 : Keeps ar z a0) :
    Keeps ar z (State.computeBlock a0 a1) := by
  unfold State.computeBlock
  extract_lets -underBinder -merge +onlyGivenNames v1
  clear_value v1
  extract_lets -underBinder -merge +onlyGivenNames v2
  have k3 : Keeps ar z v2 := State.each_keeps (fun v4 v5 k6 => keeps_ite (State.annEnd_keeps (hw.m rfl) k6) k6) h1
  clear_value v2
  extract_lets -underBinder -merge +onlyGivenNames v7
  have k8 : Keeps ar z v7 := State.each_keeps (fun v9 v10 k11 => keeps_ite (State.annStart_keeps (hw.m rfl) k11) k11) k3
  clear_value v7
  extract_lets -underBinder -merge +onlyGivenNames v12
  have k13 : Keeps ar z v12 := State.each_keeps (fun v14 v15 k16 => keeps_ite (State.annPromote_keeps (hw.m rfl) k16)
      k16) k8
  clear_value v12
  extract_lets -underBinder -merge +onlyGivenNames v17
  have k18 : Keeps ar z v17 := State.each_keeps (fun v19 v20 k21 => keeps_ite (State.annSettle_keeps (hw.m rfl) k21)
      k21) k13
  clear_value v17
  extract_lets -underBinder -merge +onlyGivenNames v22
  have k23 : Keeps ar z v22 := State.each_keeps (fun v24 v25 k26 => State.zoneAim_keeps (hw.m rfl) k26) k18
  clear_value v22
  split
  rename_i v27 v28 v29 e30
  have k31 : Keeps ar z v28 := by
    refine keeps_fst e30 ?_
    refine keeps_foldl_fst ?_ (keeps_mk1 k23)
    intro v32 v33 k34
    split
    extract_lets -underBinder -merge +onlyGivenNames v35
    clear_value v35
    extract_lets -underBinder -merge +onlyGivenNames v36
    have k37 : Keeps ar z v36 := keeps_ite k34 (State.count_keeps (hw.m rfl) k34)
    clear_value v36
    extract_lets -underBinder -merge +onlyGivenNames v38
    have k39 : Keeps ar z v38 := keeps_ite k37 (State.count_keeps (hw.m rfl) k37)
    clear_value v38
    exact keeps_mk1 k39
  split
  rename_i v40 v41 v42 e43
  have k44 : Keeps ar z v41 := by
    refine keeps_fst e43 ?_
    refine keeps_foldl_fst ?_ (keeps_mk1 k31)
    intro v45 v46 k47
    split
    rename_i v48 v49 v50 e51
    have k52 : Keeps ar z v50 := keeps_snd e51 (State.libValues_keeps (hw.m rfl) k47)
    exact keeps_mk1 k52
  split
  rename_i v53 v54 v55 e56
  have k57 : Keeps ar z v54 := by
    refine keeps_fst e56 ?_
    refine keeps_foldl_fst ?_ (keeps_mk1 k44)
    intro v58 v59 k60
    split
    rename_i v61 v62 v63 e64
    have k65 : Keeps ar z v62 := keeps_fst e64 (State.mixOutput_keeps (hw.m rfl) k60)
    exact keeps_mk1 k65
  extract_lets -underBinder -merge +onlyGivenNames v66
  clear_value v66
  extract_lets -underBinder -merge +onlyGivenNames v67
  have k68 : Keeps ar z v67 := State.modAud_keeps (hw.m rfl) k57
  clear_value v67
  exact State.talk_keeps (hw.m rfl) k68

theorem execAudioBlockCompute_keeps {ar : List Area} (hw : Within (Area.telling [.chans, .eth, .buses, .sw, .aud])
    ar) {z : State} {t : Nat} {s : State} (h : Keeps ar z (s.tick t)) :
    NextKeeps ar z (execAudioBlockCompute t s) := by
  unfold execAudioBlockCompute
  extract_lets -underBinder -merge +onlyGivenNames v1
  have k2 : Keeps ar z v1 := h
  clear_value v1
  extract_lets -underBinder -merge +onlyGivenNames v3
  clear_value v3
  exact keeps_next (keeps_ite (State.computeBlock_keeps (hw.m rfl) k2) k2)

theorem effectAudPortConfig_keeps {ar : List Area} (hw : Within [.aud] ar) {z a0 : State} {a1} (h1 : Keeps ar z a0) :
    Keeps ar z (effectAudPortConfig a0 a1).1 := by
  unfold effectAudPortConfig
  extract_lets -underBinder -merge +onlyGivenNames v1
  clear_value v1
  extract_lets -underBinder -merge +onlyGivenNames v2
  have k3 : Keeps ar z v2 := State.modAud_keeps (hw.m rfl) h1
  clear_value v2
  exact keeps_mk1 (State.modTdm_keeps (hw.m rfl) k3)

theorem execAudPortConfig_keeps {ar : List Area} (hw : Within (Area.telling [.windows, .mbx, .aud, .cw, .boot]) ar)
    {z : State} {t : Nat} {a1} {s : State} (h : Keeps ar z (s.tick t)) :
    NextKeeps ar z (execAudPortConfig t a1 s) := by
  unfold execAudPortConfig
  exact keeps_next (State.simple_keeps (hw.m rfl) h (fun v1 v2 k3 => effectAudPortConfig_keeps (hw.m rfl) k3))

theorem effectAudStreamConfig_keeps {ar : List Area} (hw : Within [.aud] ar) {z a0 : State} {a1} (h1 : Keeps ar z a0) :
    Keeps ar z (effectAudStreamConfig a0 a1).1 := by
  unfold effectAudStreamConfig
  extract_lets -underBinder -merge +onlyGivenNames v1 v2 v3
  clear_value v1 v2 v3
  extract_lets -underBinder -merge +onlyGivenNames v4
  have k5 : Keeps ar z v4 := State.modAud_keeps (hw.m rfl) h1
  clear_value v4
  exact keeps_mk1 (State.modAaf_keeps (hw.m rfl) k5)

theorem execAudStreamConfig_keeps {ar : List Area} (hw : Within (Area.telling [.windows, .mbx, .aud, .cw, .boot]) ar)
    {z : State} {t : Nat} {a1} {s : State} (h : Keeps ar z (s.tick t)) :
    NextKeeps ar z (execAudStreamConfig t a1 s) := by
  unfold execAudStreamConfig
  exact keeps_next (State.simple_keeps (hw.m rfl) h (fun v1 v2 k3 => effectAudStreamConfig_keeps (hw.m rfl) k3))

theorem State.routeSet_keeps {ar : List Area} (hw : Within [.aud] ar) {z a0 : State} {a1} (h1 : Keeps ar z a0) :
    Keeps ar z (State.routeSet a0 a1) := by
  unfold State.routeSet
  exact State.each_keeps (fun v1 v2 k3 => State.modXpoint_keeps (hw.m rfl) k3) h1

theorem execAudRouteSet_keeps {ar : List Area} (hw : Within (Area.telling [.windows, .mbx, .aud, .cw, .boot]) ar) {z
    : State} {t : Nat} {a1} {s : State} (h : Keeps ar z (s.tick t)) :
    NextKeeps ar z (execAudRouteSet t a1 s) := by
  unfold execAudRouteSet
  exact keeps_next (State.simple_keeps (hw.m rfl) h (fun v1 v2 k3 => keeps_mk1 (State.mirrorOut_keeps
      (State.routeSet_keeps (hw.m rfl)
    k3))))

theorem State.zoneSet_keeps {ar : List Area} (hw : Within [.aud] ar) {z a0 : State} {a1} (h1 : Keeps ar z a0) :
    Keeps ar z (State.zoneSet a0 a1) := by
  unfold State.zoneSet
  exact State.modZone_keeps (hw.m rfl) h1

theorem execAudZoneConfig_keeps {ar : List Area} (hw : Within (Area.telling [.windows, .mbx, .aud, .cw, .boot]) ar)
    {z : State} {t : Nat} {a1} {s : State} (h : Keeps ar z (s.tick t)) :
    NextKeeps ar z (execAudZoneConfig t a1 s) := by
  unfold execAudZoneConfig
  exact keeps_next (State.simple_keeps (hw.m rfl) h (fun v1 v2 k3 => keeps_mk1 (State.mirrorOut_keeps
      (State.zoneSet_keeps (hw.m rfl) k3))))

theorem State.announce_keeps {ar : List Area} (hw : Within [.aud] ar) {z a0 : State} {a1} {a2} (h1 : Keeps ar z a0) :
    Keeps ar z (State.announce a0 a1 a2) := by
  unfold State.announce
  exact State.modAud_keeps (hw.m rfl) (State.modAnn_keeps (hw.m rfl) h1)

theorem effectAudAnnounceStart_keeps {ar : List Area} (hw : Within [.aud] ar) {z a0 : State} {a1} (h1 : Keeps ar z a0) :
    Keeps ar z (effectAudAnnounceStart a0 a1).1 := by
  unfold effectAudAnnounceStart
  split
  · exact keeps_mk1 h1
  · exact keeps_mk1 (State.mirrorOut_keeps (State.announce_keeps (hw.m rfl) h1))

theorem execAudAnnounceStart_keeps {ar : List Area} (hw : Within (Area.telling [.windows, .mbx, .aud, .cw, .boot])
    ar) {z : State} {t : Nat} {a1} {s : State} (h : Keeps ar z (s.tick t)) :
    NextKeeps ar z (execAudAnnounceStart t a1 s) := by
  unfold execAudAnnounceStart
  exact keeps_next (State.simple_keeps (hw.m rfl) h (fun v1 v2 k3 => effectAudAnnounceStart_keeps (hw.m rfl) k3))

theorem State.announceStop_keeps {ar : List Area} (hw : Within [.aud] ar) {z a0 : State} {a1} (h1 : Keeps ar z a0) :
    Keeps ar z (State.announceStop a0 a1) := by
  unfold State.announceStop
  exact keeps_ite (State.modAnn_keeps (hw.m rfl) h1) h1

theorem execAudAnnounceStop_keeps {ar : List Area} (hw : Within (Area.telling [.windows, .mbx, .aud, .cw, .boot]) ar)
    {z : State} {t : Nat} {a1} {s : State} (h : Keeps ar z (s.tick t)) :
    NextKeeps ar z (execAudAnnounceStop t a1 s) := by
  unfold execAudAnnounceStop
  exact keeps_next (State.simple_keeps (hw.m rfl) h (fun v1 v2 k3 => keeps_mk1 (State.mirrorOut_keeps
      (State.announceStop_keeps (hw.m rfl)
    k3))))

theorem effectAudLibraryLoad_keeps {ar : List Area} (hw : Within [.aud] ar) {z a0 : State} {a1} (h1 : Keeps ar z a0) :
    Keeps ar z (effectAudLibraryLoad a0 a1).1 := by
  unfold effectAudLibraryLoad
  exact keeps_mk1 (State.modLibMsg_keeps (hw.m rfl) h1)

theorem execAudLibraryLoad_keeps {ar : List Area} (hw : Within (Area.telling [.windows, .mbx, .aud, .cw, .boot]) ar)
    {z : State} {t : Nat} {a1} {s : State} (h : Keeps ar z (s.tick t)) :
    NextKeeps ar z (execAudLibraryLoad t a1 s) := by
  unfold execAudLibraryLoad
  exact keeps_next (State.simple_keeps (hw.m rfl) h (fun v1 v2 k3 => effectAudLibraryLoad_keeps (hw.m rfl) k3))

end Sys2Proof.Machine
end

