-- ==== Sys2Proof/Laws/KeepsEgress.lean ====
section
/-! SUPPORT. What the operations of Egress, Eth, Arrival keep, and which areas they may move. -/

set_option Elab.async false

namespace Sys2Proof.Machine

open Sys2Proof

theorem State.fuPut_keeps {ar : List Area} (hw : Within [.eth, .links] ar) {z a0 : State} {a1} {a2} {a3} {a4} (h1 :
    Keeps ar z a0) :
    Keeps ar z (State.fuPut a0 a1 a2 a3 a4) := by
  unfold State.fuPut
  exact State.modPort_keeps (hw.m rfl) h1

theorem State.tcEdit_keeps {ar : List Area} (hw : Within [.ctrs, .eth, .links, .sw] ar) {z a0 : State} {a1} {a2} {a3}
    (h1 : Keeps ar z a0) :
    Keeps ar z (State.tcEdit a0 a1 a2 a3).1 := by
  unfold State.tcEdit
  extract_lets -underBinder -merge +onlyGivenNames v1
  clear_value v1
  refine keeps_ite1 (keeps_mk1 h1) ?_
  split
  · exact keeps_mk1 h1
  · extract_lets -underBinder -merge +onlyGivenNames v2
    clear_value v2
    split
    · exact keeps_mk1 h1
    · extract_lets -underBinder -merge +onlyGivenNames v3
      clear_value v3
      extract_lets -underBinder -merge +onlyGivenNames v4
      have k5 : ∀ x0 x1, Keeps ar z x0 → Keeps ar z (v4 x0 x1).1 := by
        intro v6 v7 k8
        unfold v4
        split
        · exact keeps_mk1 (State.countAt_keeps (hw.m rfl) k8)
        · exact keeps_mk1 (State.countAt_keeps (hw.m rfl) k8)
      clear_value v4
      refine keeps_ite1 ?_ ?_
      · split
        · extract_lets -underBinder -merge +onlyGivenNames v9
          have k10 : Keeps ar z v9 := State.modPort_keeps (hw.m rfl) h1
          clear_value v9
          exact keeps_ite1 (keeps_mk1 (State.countAt_keeps (hw.m rfl) k10)) (k5 _ _ k10)
        · exact keeps_mk1 (State.countAt_keeps (hw.m rfl) h1)
      · extract_lets -underBinder -merge +onlyGivenNames v11
        have k12 : Keeps ar z v11 := keeps_ite (State.countAt_keeps (hw.m rfl) h1) h1
        clear_value v11
        exact keeps_ite1 (keeps_mk1 (State.fuPut_keeps (hw.m rfl) k12)) (k5 _ _ k12)

theorem State.cwWrap_keeps {ar : List Area} (hw : Within (Area.telling [.sec]) ar) {z a0 : State} {a1} {a2} {a3} (h1
    : Keeps ar z a0) :
    Keeps ar z (State.cwWrap a0 a1 a2 a3).1 := by
  unfold State.cwWrap
  extract_lets -underBinder -merge +onlyGivenNames v1
  clear_value v1
  refine keeps_ite1 (keeps_mk1 h1) ?_
  split
  rename_i v2 v3 v4 e5
  have k6 : Keeps ar z v3 := keeps_fst e5 (State.cwKeyTx_keeps (hw.m rfl) h1)
  refine keeps_ite1 (keeps_mk1 k6) ?_
  refine keeps_ite1 ?_ ?_
  · refine keeps_ite1 ?_ (keeps_mk1 k6)
    split
    rename_i v7 v8 v9 e10
    have k11 : Keeps ar z v8 := keeps_fst e10 (State.cwOuter_keeps (hw.m rfl) k6)
    exact keeps_mk1 k11
  · split
    rename_i v12 v13 v14 e15
    have k16 : Keeps ar z v13 := keeps_fst e15 (State.cwOuter_keeps (hw.m rfl) k6)
    exact keeps_mk1 k16

theorem State.headTake_keeps {ar : List Area} (hw : Within [.eth, .links] ar) {z a0 : State} {a1} {a2} (h1 : Keeps ar
    z a0) :
    Keeps ar z (State.headTake a0 a1 a2) := by
  unfold State.headTake
  exact State.modPort_keeps (hw.m rfl) (State.creditRun_keeps (hw.m rfl) h1)

theorem State.headDrop_keeps {ar : List Area} (hw : Within (Area.telling [.eth, .sw]) ar) {z a0 : State} {a1} {a2}
    {a3} (h1 : Keeps ar z a0) :
    OptKeeps ar z (State.headDrop a0 a1 a2 a3) := by
  unfold State.headDrop
  extract_lets -underBinder -merge +onlyGivenNames v1 v2 v3
  clear_value v1 v2 v3
  extract_lets -underBinder -merge +onlyGivenNames v4
  have k5 : ∀ x0 x1 x2, Keeps ar z (v4 x0 x1 x2) := by
    intro v6 v7 v8
    unfold v4
    exact State.releaseRef_keeps (hw.m rfl) (State.countAt_keeps (hw.m rfl) (State.headTake_keeps (hw.m rfl) h1))
  clear_value v4
  refine keeps_iteO ?_ ?_
  · refine keeps_some ?_
    refine k5 ?_ ?_ ?_
  · refine keeps_iteO ?_ ?_
    · refine keeps_some ?_
      refine k5 ?_ ?_ ?_
    · refine keeps_iteO ?_ keeps_none
      refine keeps_some ?_
      refine k5 ?_ ?_ ?_

theorem State.drrPick_keeps {ar : List Area} (hw : Within [.eth, .links] ar) {z a0 : State} {a1} {a2} (h1 : Keeps ar
    z a0) :
    Keeps ar z (State.drrPick a0 a1 a2).1 := by
  induction a2 generalizing a0
  · unfold State.drrPick
    exact keeps_mk1 h1
  · rename_i w0 ih
    unfold State.drrPick
    extract_lets -underBinder -merge +onlyGivenNames v1 v2
    clear_value v1 v2
    extract_lets -underBinder -merge +onlyGivenNames v3
    have k4 : ∀ x0, Keeps ar z x0 → Keeps ar z (v3 x0) := by
      intro v5 k6
      unfold v3
      exact State.modPort_keeps (hw.m rfl) k6
    clear_value v3
    split
    · exact ih (k4 _ h1)
    · extract_lets -underBinder -merge +onlyGivenNames v7
      clear_value v7
      extract_lets -underBinder -merge +onlyGivenNames v8
      have k9 : Keeps ar z v8 := State.modPort_keeps (hw.m rfl) h1
      clear_value v8
      exact keeps_ite1 (keeps_mk1 k9) (ih (k4 _ k9))

theorem State.pickClass_keeps {ar : List Area} (hw : Within [.eth, .links] ar) {z a0 : State} {a1} (h1 : Keeps ar z
    a0) :
    Keeps ar z (State.pickClass a0 a1).1 := by
  unfold State.pickClass
  split
  · exact keeps_mk1 h1
  · exact keeps_ite1 (State.drrPick_keeps (hw.m rfl) h1) (keeps_mk1 h1)

theorem State.startFrame_keeps {ar : List Area} (hw : Within (Area.telling [.chans, .eth, .buses, .sw, .time, .sec])
    ar) {z a0 : State} {a1} {a2} {a3} (h1 : Keeps ar z a0) :
    Keeps ar z (State.startFrame a0 a1 a2 a3) := by
  unfold State.startFrame
  extract_lets -underBinder -merge +onlyGivenNames v1
  have k2 : Keeps ar z v1 := State.cross_keeps (hw.m rfl) h1
  clear_value v1
  extract_lets -underBinder -merge +onlyGivenNames v3 v4 v5
  clear_value v3 v4 v5
  extract_lets -underBinder -merge +onlyGivenNames v6
  have k7 : Keeps ar z v6 := keeps_ite (State.modPort_keeps (hw.m rfl) k2) k2
  clear_value v6
  split
  extract_lets -underBinder -merge +onlyGivenNames v8
  have k9 : Keeps ar z v8 := keeps_ite (State.countAt_keeps (hw.m rfl) k7) k7
  clear_value v8
  split
  rename_i v10 v11 v12 e13
  have k14 : Keeps ar z v11 := keeps_fst e13 (keeps_ite1 (keeps_mk1 k9) (State.tcEdit_keeps (hw.m rfl) k9))
  split
  rename_i v15 v16 v17 e18
  have k19 : Keeps ar z v16 := keeps_fst e18 (State.cwWrap_keeps (hw.m rfl) k14)
  extract_lets -underBinder -merge +onlyGivenNames v20
  have k21 : Keeps ar z v20 := State.headTake_keeps (hw.m rfl) k19
  clear_value v20
  split
  · have k22 : Keeps ar z v16 := keeps_fst e18 (State.cwWrap_keeps (hw.m rfl) k14)
    exact State.releaseRef_keeps (hw.m rfl) k21
  · have k23 : Keeps ar z v16 := keeps_fst e18 (State.cwWrap_keeps (hw.m rfl) k14)
    extract_lets -underBinder -merge +onlyGivenNames v24
    clear_value v24
    extract_lets -underBinder -merge +onlyGivenNames v25
    have k26 : Keeps ar z v25 := State.modFrame_keeps (hw.m rfl) k21
    clear_value v25
    extract_lets -underBinder -merge +onlyGivenNames v27
    have k28 : Keeps ar z v27 := State.modPort_keeps (hw.m rfl) k26
    clear_value v27
    extract_lets -underBinder -merge +onlyGivenNames v29
    have k30 : Keeps ar z v29 := keeps_ite (State.count_keeps (hw.m rfl) k28) k28
    clear_value v29
    exact keeps_ite (State.ptpLeaves_keeps (hw.m rfl) k30) k30

theorem State.serve_keeps {ar : List Area} (hw : Within (Area.telling [.chans, .eth, .buses, .sw, .time, .sec]) ar)
    {z a0 : State} {a1} {a2} (h1 : Keeps ar z a0) :
    Keeps ar z (State.serve a0 a1 a2) := by
  induction a2 generalizing a0
  · unfold State.serve
    exact h1
  · rename_i w0 ih
    unfold State.serve
    split
    rename_i v1 v2 v3 e4
    have k5 : Keeps ar z v2 := keeps_fst e4 (State.pickClass_keeps (hw.m rfl) h1)
    split
    · have k6 : Keeps ar z v2 := keeps_fst e4 (State.pickClass_keeps (hw.m rfl) h1)
      exact k5
    · have k7 : Keeps ar z v2 := keeps_fst e4 (State.pickClass_keeps (hw.m rfl) h1)
      split
      · exact k5
      · split
        · rename_i v8 v9 e10
          have k11 : Keeps ar z v9 := keeps_of_some e10 (State.headDrop_keeps (hw.m rfl) k5)
          exact ih k11
        · rename_i v12 e13
          exact State.startFrame_keeps (hw.m rfl) k5

theorem State.stepFlush_keeps {ar : List Area} (hw : Within (Area.telling [.eth, .sec]) ar) {z a0 : State} {a1} (h1 :
    Keeps ar z a0) :
    Keeps ar z (State.stepFlush a0 a1) := by
  unfold State.stepFlush
  extract_lets -underBinder -merge +onlyGivenNames v1
  clear_value v1
  refine keeps_ite h1 ?_
  extract_lets -underBinder -merge +onlyGivenNames v2
  clear_value v2
  extract_lets -underBinder -merge +onlyGivenNames v3
  have k4 : Keeps ar z v3 := State.modPort_keeps (hw.m rfl) h1
  clear_value v3
  refine keeps_foldl ?_ k4
  intro v5 v6 k7
  extract_lets -underBinder -merge +onlyGivenNames v8
  clear_value v8
  split
  rename_i v9 v10 v11 e12
  have k13 : Keeps ar z v10 := keeps_fst e12 (State.cwKeyTx_keeps (hw.m rfl) k7)
  extract_lets -underBinder -merge +onlyGivenNames v14 v15
  clear_value v14 v15
  extract_lets -underBinder -merge +onlyGivenNames v16
  have k17 : Keeps ar z v16 := keeps_ite (State.cwPut_keeps (hw.m rfl) k13) k13
  clear_value v16
  exact keeps_ite (State.modPort_keeps (hw.m rfl) k17) k17

theorem State.boundary_keeps {ar : List Area} (hw : Within (Area.telling [.eth, .sec]) ar) {z a0 : State} {a1} (h1 :
    Keeps ar z a0) :
    Keeps ar z (State.boundary a0 a1) := by
  unfold State.boundary
  exact State.cwFlush_keeps (hw.m rfl) (State.stepFlush_keeps (hw.m rfl) (State.pauseSend_keeps (hw.m rfl) h1))

theorem State.pauseEnd_keeps {ar : List Area} (hw : Within [.ctrs, .eth, .links] ar) {z a0 : State} {a1} {a2} (h1 :
    Keeps ar z a0) :
    Keeps ar z (State.pauseEnd a0 a1 a2) := by
  unfold State.pauseEnd
  extract_lets -underBinder -merge +onlyGivenNames v1
  clear_value v1
  split
  · exact h1
  · extract_lets -underBinder -merge +onlyGivenNames v2
    clear_value v2
    extract_lets -underBinder -merge +onlyGivenNames v3
    have k4 : Keeps ar z v3 := State.modPort_keeps (hw.m rfl) (State.creditRun_keeps (hw.m rfl) h1)
    clear_value v3
    exact State.count_keeps (hw.m rfl) k4

theorem State.pauseTake_keeps {ar : List Area} (hw : Within (Area.telling [.eth, .sec]) ar) {z a0 : State} {a1} {a2}
    {a3} (h1 : Keeps ar z a0) :
    Keeps ar z (State.pauseTake a0 a1 a2 a3) := by
  unfold State.pauseTake
  extract_lets -underBinder -merge +onlyGivenNames v1
  clear_value v1
  refine keeps_ite h1 ?_
  extract_lets -underBinder -merge +onlyGivenNames v2
  have k3 : Keeps ar z v2 := State.count_keeps (hw.m rfl) h1
  clear_value v2
  refine keeps_ite k3 ?_
  extract_lets -underBinder -merge +onlyGivenNames v4
  have k5 : Keeps ar z v4 := by
    unfold v4
    split
    · exact keeps_ite (State.pauseEnd_keeps (hw.m rfl) k3) k3
    · exact k3
  clear_value v4
  refine keeps_ite (State.boundary_keeps (hw.m rfl) k5) ?_
  extract_lets -underBinder -merge +onlyGivenNames v6
  clear_value v6
  exact State.modPort_keeps (hw.m rfl) (State.creditRun_keeps (hw.m rfl) k5)

theorem State.dequeue_keeps {ar : List Area} (hw : Within (Area.telling [.chans, .eth, .buses, .sw, .time, .sec]) ar)
    {z a0 : State} {a1} (h1 : Keeps ar z a0) :
    Keeps ar z (State.dequeue a0 a1) := by
  unfold State.dequeue
  extract_lets -underBinder -merge +onlyGivenNames v1
  have k2 : Keeps ar z v1 := State.creditRun_keeps (hw.m rfl) (State.boundary_keeps (hw.m rfl) h1)
  clear_value v1
  exact keeps_ite k2 (State.serve_keeps (hw.m rfl) k2)

theorem execEgressDequeue_keeps {ar : List Area} (hw : Within (Area.telling [.chans, .eth, .buses, .sw, .time, .sec])
    ar) {z : State} {t : Nat} {a1} {s : State} (h : Keeps ar z (s.tick t)) :
    NextKeeps ar z (execEgressDequeue t a1 s) := by
  unfold execEgressDequeue
  extract_lets -underBinder -merge +onlyGivenNames v1
  have k2 : Keeps ar z v1 := h
  clear_value v1
  exact keeps_next (keeps_ite k2 (State.dequeue_keeps (hw.m rfl) k2))

theorem State.fcsDue_keeps {ar : List Area} (hw : Within [.ctrs, .eth, .links] ar) {z a0 : State} {a1} {a2} (h1 :
    Keeps ar z a0) :
    Keeps ar z (State.fcsDue a0 a1 a2) := by
  unfold State.fcsDue
  split
  · exact h1
  · refine keeps_ite h1 ?_
    extract_lets -underBinder -merge +onlyGivenNames v1 v2
    clear_value v1 v2
    split
    rename_i v3 v4 v5 e6
    have k7 : Keeps ar z v5 := keeps_snd e6 (keeps_ite2 (State.drawBelow_keeps h1) (keeps_mk2 h1))
    extract_lets -underBinder -merge +onlyGivenNames v8
    have k9 : Keeps ar z v8 := State.modPort_keeps (hw.m rfl) k7
    clear_value v8
    exact keeps_ite (State.count_keeps (hw.m rfl) k9) (keeps_ite (State.count_keeps (hw.m rfl) k9) k9)

theorem execCutThroughFcsDue_keeps {ar : List Area} (hw : Within [.ctrs, .eth, .links] ar) {z : State} {t : Nat} {a1}
    {a2} {s : State} (h : Keeps ar z (s.tick t)) :
    NextKeeps ar z (execCutThroughFcsDue t a1 a2 s) := by
  unfold execCutThroughFcsDue
  exact keeps_next (State.fcsDue_keeps (hw.m rfl) h)

theorem State.portOff_keeps {ar : List Area} (hw : Within (Area.but [.host, .slp]) ar) {z a0 : State} {a1} (h1 :
    Keeps ar z a0) :
    Keeps ar z (State.portOff a0 a1).1 := by
  unfold State.portOff
  extract_lets -underBinder -merge +onlyGivenNames v1
  clear_value v1
  extract_lets -underBinder -merge +onlyGivenNames v2
  have k3 : Keeps ar z v2 := State.pauseEnd_keeps (hw.m rfl) (State.creditRun_keeps (hw.m rfl) h1)
  clear_value v2
  extract_lets -underBinder -merge +onlyGivenNames v4
  have k5 : Keeps ar z v4 := by
    unfold v4
    split
    · exact State.spoilFrame_keeps (hw.m rfl) k3
    · exact k3
  clear_value v4
  extract_lets -underBinder -merge +onlyGivenNames v6
  have k7 : Keeps ar z v6 := State.modPort_keeps (hw.m rfl) k5
  clear_value v6
  extract_lets -underBinder -merge +onlyGivenNames v8
  have k9 : Keeps ar z v8 := keeps_ite (State.raiseOf_keeps (hw.m rfl) k7) k7
  clear_value v8
  extract_lets -underBinder -merge +onlyGivenNames v10
  have k11 : Keeps ar z v10 := keeps_ite (State.l2Flush_keeps (hw.m rfl) k9) k9
  clear_value v10
  extract_lets -underBinder -merge +onlyGivenNames v12
  have k13 : Keeps ar z v12 := State.encJudge_keeps (hw.m rfl) (State.nbLost_keeps (hw.m rfl) k11)
  clear_value v12
  split
  rename_i v14 v15 v16 e17
  have k18 : Keeps ar z v15 := keeps_fst e17 (State.flushPort_keeps (hw.m rfl) k13)
  exact keeps_mk1 (State.toldFlush_keeps (hw.m rfl) (State.abortedOf_keeps (hw.m rfl) (State.modPort_keeps (hw.m rfl)
      k18)))

theorem State.ethDisableEnd_keeps {ar : List Area} (hw : Within (Area.but [.host, .slp]) ar) {z a0 : State} {a1} (h1
    : Keeps ar z a0) :
    Keeps ar z (State.ethDisableEnd a0 a1) := by
  unfold State.ethDisableEnd
  split
  rename_i v1 v2 v3 e4
  have k5 : Keeps ar z v2 := keeps_fst e4 (State.portOff_keeps (hw.m rfl) h1)
  exact State.completeOf_keeps (hw.m rfl) k5

theorem State.transmitEnd_keeps {ar : List Area} (hw : Within (Area.but [.host, .slp]) ar) {z a0 : State} {a1} (h1 :
    Keeps ar z a0) :
    Keeps ar z (State.transmitEnd a0 a1) := by
  unfold State.transmitEnd
  extract_lets -underBinder -merge +onlyGivenNames v1
  have k2 : Keeps ar z v1 := State.fcsDue_keeps (hw.m rfl) h1
  clear_value v1
  split
  · exact k2
  · extract_lets -underBinder -merge +onlyGivenNames v3
    clear_value v3
    extract_lets -underBinder -merge +onlyGivenNames v4
    have k5 : Keeps ar z v4 := State.creditRun_keeps (hw.m rfl) k2
    clear_value v4
    extract_lets -underBinder -merge +onlyGivenNames v6
    clear_value v6
    extract_lets -underBinder -merge +onlyGivenNames v7
    have k8 : Keeps ar z v7 := State.send_keeps k5
    clear_value v7
    extract_lets -underBinder -merge +onlyGivenNames v9
    have k10 : Keeps ar z v9 := keeps_ite (State.count_keeps (hw.m rfl) k8) (State.count_keeps (hw.m rfl)
        (State.count_keeps (hw.m rfl) k8))
    clear_value v9
    extract_lets -underBinder -merge +onlyGivenNames v11
    have k12 : Keeps ar z v11 := State.countAt_keeps (hw.m rfl) k10
    clear_value v11
    extract_lets -underBinder -merge +onlyGivenNames v13
    have k14 : Keeps ar z v13 := State.modPort_keeps (hw.m rfl) k12
    clear_value v13
    extract_lets -underBinder -merge +onlyGivenNames v15
    have k16 : Keeps ar z v15 := State.boundary_keeps (hw.m rfl) (State.releaseRef_keeps (hw.m rfl) k14)
    clear_value v15
    exact keeps_ite (State.ethDisableEnd_keeps (hw.m rfl) k16) k16

theorem execEgressTransmitEnd_keeps {ar : List Area} (hw : Within (Area.but [.host, .slp]) ar) {z : State} {t : Nat}
    {a1} {s : State} (h : Keeps ar z (s.tick t)) :
    NextKeeps ar z (execEgressTransmitEnd t a1 s) := by
  unfold execEgressTransmitEnd
  exact keeps_next (State.transmitEnd_keeps (hw.m rfl) h)

theorem execAgeingHeadCheck_keeps {ar : List Area} (hw : Within (Area.telling [.eth, .buses, .sw]) ar) {z : State} {t
    : Nat} {a1} {s : State} (h : Keeps ar z (s.tick t)) :
    NextKeeps ar z (execAgeingHeadCheck t a1 s) := by
  unfold execAgeingHeadCheck
  extract_lets -underBinder -merge +onlyGivenNames v1
  have k2 : Keeps ar z v1 := h
  clear_value v1
  extract_lets -underBinder -merge +onlyGivenNames v3
  clear_value v3
  refine keeps_next ?_
  refine keeps_ite ?_ (keeps_ite (State.ageDeep_keeps (hw.m rfl) k2) k2)
  extract_lets -underBinder -merge +onlyGivenNames v4
  clear_value v4
  refine keeps_ite ?_ k2
  extract_lets -underBinder -merge +onlyGivenNames v5
  clear_value v5
  exact keeps_foldl (fun v6 v7 k8 => State.ageQueue_keeps (hw.m rfl) k8) (State.creditRun_keeps (hw.m rfl) k2)

theorem effectEthConfig_keeps {ar : List Area} (hw : Within (Area.telling [.eth, .tbl, .sw, .sec, .cw]) ar) {z a0 :
    State} {a1} (h1 : Keeps ar z a0) :
    Keeps ar z (effectEthConfig a0 a1).1 := by
  unfold effectEthConfig
  extract_lets -underBinder -merge +onlyGivenNames v1 v2 v3
  clear_value v1 v2 v3
  extract_lets -underBinder -merge +onlyGivenNames v4
  have k5 : Keeps ar z v4 := State.modPort_keeps (hw.m rfl) h1
  clear_value v4
  extract_lets -underBinder -merge +onlyGivenNames v6
  have k7 : Keeps ar z v6 := keeps_ite k5 (keeps_ite (State.encJudge_keeps (hw.m rfl) (State.cwClaim_keeps (hw.m rfl)
      (State.cwClaim_keeps (hw.m rfl)
    k5))) (State.encJudge_keeps (hw.m rfl) (State.nbLost_keeps (hw.m rfl) (State.cwUnclaim_keeps (hw.m rfl) k5))))
  clear_value v6
  exact keeps_mk1 (State.pauseJudge_keeps (hw.m rfl) k7)

theorem execEthConfig_keeps {ar : List Area} (hw : Within (Area.telling [.windows, .mbx, .eth, .tbl, .sw, .sec, .cw,
    .boot]) ar) {z : State} {t : Nat} {a1} {s : State} (h : Keeps ar z (s.tick t)) :
    NextKeeps ar z (execEthConfig t a1 s) := by
  unfold execEthConfig
  exact keeps_next (State.simple_keeps (hw.m rfl) h (fun v1 v2 k3 => effectEthConfig_keeps (hw.m rfl) k3))

theorem State.ethEnabled_keeps {ar : List Area} (hw : Within (Area.telling [.windows, .mbx, .cw, .boot]) ar) {z a0 :
    State} {a1} (h1 : Keeps ar z a0) :
    Keeps ar z (State.ethEnabled a0 a1) := by
  unfold State.ethEnabled
  exact State.completeOf_keeps (hw.m rfl) h1

theorem startEthEnable_keeps {ar : List Area} (hw : Within (Area.telling [.windows, .mbx, .eth, .sw, .cw, .boot]) ar)
    {z a0 : State} {a1} (h1 : Keeps ar z a0) :
    Keeps ar z (startEthEnable a0 a1) := by
  unfold startEthEnable
  extract_lets -underBinder -merge +onlyGivenNames v1 v2
  clear_value v1 v2
  refine keeps_ite (State.ethEnabled_keeps (hw.m rfl) h1) ?_
  extract_lets -underBinder -merge +onlyGivenNames v3
  have k4 : Keeps ar z v3 := State.modPort_keeps (hw.m rfl) h1
  clear_value v3
  exact keeps_ite (State.ethEnabled_keeps (hw.m rfl) (keeps_ite k4 (State.linkRaised_keeps (hw.m rfl) k4))) k4

theorem execEthEnable_keeps {ar : List Area} (hw : Within (Area.telling [.windows, .mbx, .eth, .sw, .cw, .boot]) ar)
    {z : State} {t : Nat} {a1} {s : State} (h : Keeps ar z (s.tick t)) :
    NextKeeps ar z (execEthEnable t a1 s) := by
  unfold execEthEnable
  exact keeps_next (State.begins_keeps (hw.m rfl) h (fun v1 v2 k3 => startEthEnable_keeps (hw.m rfl) k3))

theorem startEthDisable_keeps {ar : List Area} (hw : Within (Area.but [.host, .slp]) ar) {z a0 : State} {a1} (h1 :
    Keeps ar z a0) :
    Keeps ar z (startEthDisable a0 a1) := by
  unfold startEthDisable
  extract_lets -underBinder -merge +onlyGivenNames v1 v2
  clear_value v1 v2
  exact keeps_ite (State.completeOf_keeps (hw.m rfl) h1) (keeps_ite (State.modPort_keeps (hw.m rfl) h1)
      (State.ethDisableEnd_keeps (hw.m rfl) h1))

theorem execEthDisable_keeps {ar : List Area} (hw : Within (Area.but [.host, .slp]) ar) {z : State} {t : Nat} {a1} {s
    : State} (h : Keeps ar z (s.tick t)) :
    NextKeeps ar z (execEthDisable t a1 s) := by
  unfold execEthDisable
  exact keeps_next (State.begins_keeps (hw.m rfl) h (fun v1 v2 k3 => startEthDisable_keeps (hw.m rfl) k3))

theorem execEthStatus_keeps {ar : List Area} (hw : Within (Area.telling [.windows, .mbx, .cw, .boot]) ar) {z : State}
    {t : Nat} {a1} {s : State} (h : Keeps ar z (s.tick t)) :
    NextKeeps ar z (execEthStatus t a1 s) := by
  unfold execEthStatus
  exact keeps_next (State.query_keeps (hw.m rfl) h)

theorem effectEthPauseConfig_keeps {ar : List Area} (hw : Within (Area.telling [.eth]) ar) {z a0 : State} {a1} (h1 :
    Keeps ar z a0) :
    Keeps ar z (effectEthPauseConfig a0 a1).1 := by
  unfold effectEthPauseConfig
  extract_lets -underBinder -merge +onlyGivenNames v1
  clear_value v1
  extract_lets -underBinder -merge +onlyGivenNames v2
  have k3 : Keeps ar z v2 := State.modPort_keeps (hw.m rfl) h1
  clear_value v2
  exact keeps_mk1 (State.pauseJudge_keeps (hw.m rfl) k3)

theorem execEthPauseConfig_keeps {ar : List Area} (hw : Within (Area.telling [.windows, .mbx, .eth, .cw, .boot]) ar)
    {z : State} {t : Nat} {a1} {s : State} (h : Keeps ar z (s.tick t)) :
    NextKeeps ar z (execEthPauseConfig t a1 s) := by
  unfold execEthPauseConfig
  exact keeps_next (State.simple_keeps (hw.m rfl) h (fun v1 v2 k3 => effectEthPauseConfig_keeps (hw.m rfl) k3))

theorem effectEthWakePattern_keeps {ar : List Area} (hw : Within [.eth, .links] ar) {z a0 : State} {a1} (h1 : Keeps
    ar z a0) :
    Keeps ar z (effectEthWakePattern a0 a1).1 := by
  unfold effectEthWakePattern
  extract_lets -underBinder -merge +onlyGivenNames v1
  clear_value v1
  exact keeps_mk1 (State.modPort_keeps (hw.m rfl) h1)

theorem execEthWakePattern_keeps {ar : List Area} (hw : Within (Area.telling [.windows, .mbx, .eth, .cw, .boot]) ar)
    {z : State} {t : Nat} {a1} {s : State} (h : Keeps ar z (s.tick t)) :
    NextKeeps ar z (execEthWakePattern t a1 s) := by
  unfold execEthWakePattern
  exact keeps_next (State.simple_keeps (hw.m rfl) h (fun v1 v2 k3 => effectEthWakePattern_keeps (hw.m rfl) k3))

theorem State.stepAsk_keeps {ar : List Area} (hw : Within (Area.telling [.eth, .sec]) ar) {z a0 : State} {a1} {a2}
    (h1 : Keeps ar z a0) :
    Keeps ar z (State.stepAsk a0 a1 a2) := by
  unfold State.stepAsk
  exact State.stepFlush_keeps (hw.m rfl) (State.modPort_keeps (hw.m rfl) h1)

theorem State.stepOff_keeps {ar : List Area} (hw : Within (Area.telling [.eth, .sec]) ar) {z a0 : State} {a1} (h1 :
    Keeps ar z a0) :
    Keeps ar z (State.stepOff a0 a1) := by
  unfold State.stepOff
  extract_lets -underBinder -merge +onlyGivenNames v1
  clear_value v1
  exact keeps_ite (State.stepAsk_keeps (hw.m rfl) h1) h1

theorem effectEthStepdownConfig_keeps {ar : List Area} (hw : Within (Area.telling [.eth, .sec]) ar) {z a0 : State}
    {a1} (h1 : Keeps ar z a0) :
    Keeps ar z (effectEthStepdownConfig a0 a1).1 := by
  unfold effectEthStepdownConfig
  extract_lets -underBinder -merge +onlyGivenNames v1 v2 v3 v4
  clear_value v1 v2 v3 v4
  extract_lets -underBinder -merge +onlyGivenNames v5
  have k6 : Keeps ar z v5 := State.modPort_keeps (hw.m rfl) h1
  clear_value v5
  exact keeps_mk1 (State.stepOff_keeps (hw.m rfl) k6)

theorem execEthStepdownConfig_keeps {ar : List Area} (hw : Within (Area.telling [.windows, .mbx, .eth, .sec, .cw,
    .boot]) ar) {z : State} {t : Nat} {a1} {s : State} (h : Keeps ar z (s.tick t)) :
    NextKeeps ar z (execEthStepdownConfig t a1 s) := by
  unfold execEthStepdownConfig
  exact keeps_next (State.simple_keeps (hw.m rfl) h (fun v1 v2 k3 => effectEthStepdownConfig_keeps (hw.m rfl) k3))

theorem execStepDecision_keeps {ar : List Area} (hw : Within (Area.telling [.eth, .sec]) ar) {z : State} {t : Nat}
    {a1} {a2} {a3} {s : State} (h : Keeps ar z (s.tick t)) :
    NextKeeps ar z (execStepDecision t a1 a2 a3 s) := by
  unfold execStepDecision
  extract_lets -underBinder -merge +onlyGivenNames v1
  have k2 : Keeps ar z v1 := h
  clear_value v1
  extract_lets -underBinder -merge +onlyGivenNames v3 v4 v5 v6
  clear_value v3 v4 v5 v6
  exact keeps_next (keeps_ite (State.stepOff_keeps (hw.m rfl) k2) (keeps_ite (State.stepAsk_keeps (hw.m rfl) k2) k2))

theorem State.stepTake_keeps {ar : List Area} (hw : Within (Area.telling [.eth, .sec]) ar) {z a0 : State} {a1} {a2}
    {a3} (h1 : Keeps ar z a0) :
    Keeps ar z (State.stepTake a0 a1 a2 a3) := by
  unfold State.stepTake
  exact State.stepFlush_keeps (hw.m rfl) (State.modPort_keeps (hw.m rfl) h1)

theorem State.stepMessage_keeps {ar : List Area} (hw : Within (Area.telling [.eth, .sec]) ar) {z a0 : State} {a1}
    {a2} {a3} {a4} (h1 : Keeps ar z a0) :
    Keeps ar z (State.stepMessage a0 a1 a2 a3 a4) := by
  unfold State.stepMessage
  extract_lets -underBinder -merge +onlyGivenNames v1 v2
  clear_value v1 v2
  extract_lets -underBinder -merge +onlyGivenNames v3
  have k4 : ∀ x0 x1 x2, Keeps ar z x0 → Keeps ar z (v3 x0 x1 x2) := by
    intro v5 v6 v7 k8
    unfold v3
    exact State.stepFlush_keeps (hw.m rfl) (State.modPort_keeps (hw.m rfl) k8)
  clear_value v3
  refine keeps_ite ?_ ?_
  · refine keeps_ite (k4 _ _ _ h1) ?_
    refine keeps_ite ?_ (keeps_ite (State.stepTake_keeps (hw.m rfl) h1) (State.stepFlush_keeps (hw.m rfl)
        (State.modPort_keeps (hw.m rfl) h1)))
    extract_lets -underBinder -merge +onlyGivenNames v9
    clear_value v9
    exact keeps_ite h1 (State.stepTake_keeps (hw.m rfl) h1)
  · refine keeps_ite (keeps_ite (k4 _ _ _ h1) h1) ?_
    refine keeps_ite (keeps_ite (State.count_keeps (hw.m rfl) (State.modPort_keeps (hw.m rfl) h1)) h1) ?_
    refine keeps_ite (keeps_ite h1 (State.modPort_keeps (hw.m rfl) h1)) ?_
    refine keeps_ite ?_ h1
    refine keeps_ite h1 ?_
    extract_lets -underBinder -merge +onlyGivenNames v10
    clear_value v10
    exact k4 _ _ _ (State.modPort_keeps (hw.m rfl) h1)

theorem execStepMessageReceived_keeps {ar : List Area} (hw : Within (Area.telling [.eth, .sec]) ar) {z : State} {t :
    Nat} {a1} {a2} {s : State} (h : Keeps ar z (s.tick t)) :
    NextKeeps ar z (execStepMessageReceived t a1 a2 s) := by
  unfold execStepMessageReceived
  exact keeps_next (State.stepMessage_keeps (hw.m rfl) h)

theorem execStepRequestTimeout_keeps {ar : List Area} (hw : Within [.ctrs, .eth, .links] ar) {z : State} {t : Nat}
    {a1} {s : State} (h : Keeps ar z (s.tick t)) :
    NextKeeps ar z (execStepRequestTimeout t a1 s) := by
  unfold execStepRequestTimeout
  extract_lets -underBinder -merge +onlyGivenNames v1
  have k2 : Keeps ar z v1 := h
  clear_value v1
  extract_lets -underBinder -merge +onlyGivenNames v3
  clear_value v3
  exact keeps_next (keeps_ite (State.count_keeps (hw.m rfl) (State.modPort_keeps (hw.m rfl) k2)) k2)

theorem execStepRelockDone_keeps {ar : List Area} (hw : Within (Area.telling [.eth, .sec]) ar) {z : State} {t : Nat}
    {a1} {s : State} (h : Keeps ar z (s.tick t)) :
    NextKeeps ar z (execStepRelockDone t a1 s) := by
  unfold execStepRelockDone
  extract_lets -underBinder -merge +onlyGivenNames v1
  have k2 : Keeps ar z v1 := h
  clear_value v1
  extract_lets -underBinder -merge +onlyGivenNames v3
  clear_value v3
  refine keeps_next ?_
  refine keeps_ite ?_ k2
  extract_lets -underBinder -merge +onlyGivenNames v4
  clear_value v4
  extract_lets -underBinder -merge +onlyGivenNames v5
  have k6 : Keeps ar z v5 := State.modPort_keeps (hw.m rfl) (State.creditRun_keeps (hw.m rfl) k2)
  clear_value v5
  extract_lets -underBinder -merge +onlyGivenNames v7
  have k8 : Keeps ar z v7 := State.raiseOf_keeps (hw.m rfl) (State.count_keeps (hw.m rfl) k6)
  clear_value v7
  extract_lets -underBinder -merge +onlyGivenNames v9
  have k10 : Keeps ar z v9 := State.cwFlush_keeps (hw.m rfl) k8
  clear_value v9
  split
  · exact State.stepFlush_keeps (hw.m rfl) (State.modPort_keeps (hw.m rfl) k10)
  · exact State.stepOff_keeps (hw.m rfl) k10

theorem execStepRelockFail_keeps {ar : List Area} (hw : Within (Area.telling [.eth, .sec]) ar) {z : State} {t : Nat}
    {a1} {s : State} (h : Keeps ar z (s.tick t)) :
    NextKeeps ar z (execStepRelockFail t a1 s) := by
  unfold execStepRelockFail
  extract_lets -underBinder -merge +onlyGivenNames v1
  have k2 : Keeps ar z v1 := h
  clear_value v1
  extract_lets -underBinder -merge +onlyGivenNames v3
  clear_value v3
  refine keeps_next ?_
  refine keeps_ite ?_ k2
  extract_lets -underBinder -merge +onlyGivenNames v4
  clear_value v4
  extract_lets -underBinder -merge +onlyGivenNames v5
  have k6 : Keeps ar z v5 := State.modPort_keeps (hw.m rfl) k2
  clear_value v5
  exact State.stepFlush_keeps (hw.m rfl) (State.raiseOf_keeps (hw.m rfl) (State.count_keeps (hw.m rfl) k6))

theorem execStepLinkLoss_keeps {ar : List Area} (hw : Within (Area.but [.host, .slp]) ar) {z : State} {t : Nat} {a1}
    {s : State} (h : Keeps ar z (s.tick t)) :
    NextKeeps ar z (execStepLinkLoss t a1 s) := by
  unfold execStepLinkLoss
  extract_lets -underBinder -merge +onlyGivenNames v1
  have k2 : Keeps ar z v1 := h
  clear_value v1
  refine keeps_next ?_
  split
  · exact keeps_ite (State.toldFlush_keeps (hw.m rfl) (State.linkLost_keeps (hw.m rfl) (State.modPort_keeps (hw.m
      rfl) k2))) k2
  · exact k2

theorem execLinkDown_keeps {ar : List Area} (hw : Within (Area.but [.host, .slp]) ar) {z : State} {t : Nat} {a1} {s :
    State} (h : Keeps ar z (s.tick t)) :
    NextKeeps ar z (execLinkDown t a1 s) := by
  unfold execLinkDown
  extract_lets -underBinder -merge +onlyGivenNames v1
  have k2 : Keeps ar z v1 := h
  clear_value v1
  exact keeps_next (keeps_ite k2 (State.ethEnabled_keeps (hw.m rfl) (State.toldFlush_keeps (hw.m rfl)
      (State.linkLost_keeps (hw.m rfl) k2))))

theorem execLinkUp_keeps {ar : List Area} (hw : Within (Area.telling [.windows, .mbx, .eth, .sw, .cw, .boot]) ar) {z
    : State} {t : Nat} {a1} {s : State} (h : Keeps ar z (s.tick t)) :
    NextKeeps ar z (execLinkUp t a1 s) := by
  unfold execLinkUp
  extract_lets -underBinder -merge +onlyGivenNames v1
  have k2 : Keeps ar z v1 := h
  clear_value v1
  extract_lets -underBinder -merge +onlyGivenNames v3
  clear_value v3
  exact keeps_next (keeps_ite (State.ethEnabled_keeps (hw.m rfl) (State.linkRaised_keeps (hw.m rfl) k2)) k2)

theorem execHoldWindowEnd_keeps {ar : List Area} (hw : Within (Area.telling [.eth, .sw]) ar) {z : State} {t : Nat}
    {a1} {s : State} (h : Keeps ar z (s.tick t)) :
    NextKeeps ar z (execHoldWindowEnd t a1 s) := by
  unfold execHoldWindowEnd
  extract_lets -underBinder -merge +onlyGivenNames v1
  have k2 : Keeps ar z v1 := h
  clear_value v1
  refine keeps_next ?_
  split
  · exact keeps_ite (State.portFlush_keeps (hw.m rfl) k2) k2
  · exact k2

theorem execSpeedChanged_keeps {ar : List Area} (hw : Within (Area.telling [.windows, .mbx, .eth, .cw, .boot]) ar) {z
    : State} {t : Nat} {a1} {a2} {a3} {s : State} (h : Keeps ar z (s.tick t)) :
    NextKeeps ar z (execSpeedChanged t a1 a2 a3 s) := by
  unfold execSpeedChanged
  extract_lets -underBinder -merge +onlyGivenNames v1
  have k2 : Keeps ar z v1 := h
  clear_value v1
  extract_lets -underBinder -merge +onlyGivenNames v3 v4
  clear_value v3 v4
  exact keeps_next (keeps_ite (State.ethEnabled_keeps (hw.m rfl) (State.raiseOf_keeps (hw.m rfl) (State.modPort_keeps
      (hw.m rfl)
    (State.creditRun_keeps (hw.m rfl) k2)))) (keeps_ite (State.ethEnabled_keeps (hw.m rfl) k2) k2))

theorem execRemoteFault_keeps {ar : List Area} (hw : Within (Area.but [.host, .slp]) ar) {z : State} {t : Nat} {a1}
    {a2} {s : State} (h : Keeps ar z (s.tick t)) :
    NextKeeps ar z (execRemoteFault t a1 a2 s) := by
  unfold execRemoteFault
  extract_lets -underBinder -merge +onlyGivenNames v1
  have k2 : Keeps ar z v1 := h
  clear_value v1
  extract_lets -underBinder -merge +onlyGivenNames v3
  clear_value v3
  refine keeps_next ?_
  refine keeps_ite k2 ?_
  extract_lets -underBinder -merge +onlyGivenNames v4
  have k5 : Keeps ar z v4 := State.modPort_keeps (hw.m rfl) k2
  clear_value v4
  extract_lets -underBinder -merge +onlyGivenNames v6
  have k7 : Keeps ar z v6 := keeps_ite (State.raiseOf_keeps (hw.m rfl) k5) k5
  clear_value v6
  exact keeps_ite k7 (keeps_ite (State.toldFlush_keeps (hw.m rfl) (State.linkLost_keeps (hw.m rfl) k7)) (keeps_ite
      (State.linkRaised_keeps (hw.m rfl)
    k7) k7))

theorem execPauseReceived_keeps {ar : List Area} (hw : Within (Area.telling [.eth, .sec]) ar) {z : State} {t : Nat}
    {a1} {a2} {s : State} (h : Keeps ar z (s.tick t)) :
    NextKeeps ar z (execPauseReceived t a1 a2 s) := by
  unfold execPauseReceived
  exact keeps_next (State.pauseTake_keeps (hw.m rfl) h)

theorem execPauseExpiry_keeps {ar : List Area} (hw : Within (Area.telling [.eth, .sec]) ar) {z : State} {t : Nat}
    {a1} {s : State} (h : Keeps ar z (s.tick t)) :
    NextKeeps ar z (execPauseExpiry t a1 s) := by
  unfold execPauseExpiry
  extract_lets -underBinder -merge +onlyGivenNames v1
  have k2 : Keeps ar z v1 := h
  clear_value v1
  refine keeps_next ?_
  split
  · exact keeps_ite (State.boundary_keeps (hw.m rfl) (State.pauseEnd_keeps (hw.m rfl) k2)) k2
  · exact k2

theorem execPausedLong_keeps {ar : List Area} (hw : Within (Area.telling [.eth]) ar) {z : State} {t : Nat} {a1} {s :
    State} (h : Keeps ar z (s.tick t)) :
    NextKeeps ar z (execPausedLong t a1 s) := by
  unfold execPausedLong
  extract_lets -underBinder -merge +onlyGivenNames v1
  have k2 : Keeps ar z v1 := h
  clear_value v1
  extract_lets -underBinder -merge +onlyGivenNames v3
  clear_value v3
  exact keeps_next (keeps_ite (State.raiseOf_keeps (hw.m rfl) (State.modPort_keeps (hw.m rfl) k2)) k2)

theorem execPauseRefresh_keeps {ar : List Area} (hw : Within (Area.telling [.eth]) ar) {z : State} {t : Nat} {a1} {s
    : State} (h : Keeps ar z (s.tick t)) :
    NextKeeps ar z (execPauseRefresh t a1 s) := by
  unfold execPauseRefresh
  extract_lets -underBinder -merge +onlyGivenNames v1
  have k2 : Keeps ar z v1 := h
  clear_value v1
  extract_lets -underBinder -merge +onlyGivenNames v3
  clear_value v3
  exact keeps_next (keeps_ite (State.pauseSend_keeps (hw.m rfl) (State.modPort_keeps (hw.m rfl) k2)) k2)

theorem State.txDiscard_keeps {ar : List Area} (hw : Within (Area.but [.host, .slp]) ar) {z a0 : State} {a1} (h1 :
    Keeps ar z a0) :
    Keeps ar z (State.txDiscard a0 a1) := by
  unfold State.txDiscard
  split
  · exact h1
  · extract_lets -underBinder -merge +onlyGivenNames v1
    have k2 : Keeps ar z v1 := State.releaseRef_keeps (hw.m rfl) (State.modPort_keeps (hw.m rfl)
        (State.creditRun_keeps (hw.m rfl) h1))
    clear_value v1
    exact keeps_ite (State.ethDisableEnd_keeps (hw.m rfl) k2) (State.boundary_keeps (hw.m rfl) k2)

theorem execCollision_keeps {ar : List Area} (hw : Within (Area.but [.host, .slp]) ar) {z : State} {t : Nat} {a1}
    {a2} {s : State} (h : Keeps ar z (s.tick t)) :
    NextKeeps ar z (execCollision t a1 a2 s) := by
  unfold execCollision
  extract_lets -underBinder -merge +onlyGivenNames v1
  have k2 : Keeps ar z v1 := h
  clear_value v1
  extract_lets -underBinder -merge +onlyGivenNames v3
  clear_value v3
  refine keeps_next ?_
  split
  · refine keeps_ite k2 ?_
    extract_lets -underBinder -merge +onlyGivenNames v4
    have k5 : Keeps ar z v4 := State.count_keeps (hw.m rfl) k2
    clear_value v4
    refine keeps_ite (State.txDiscard_keeps (hw.m rfl) (State.raiseOf_keeps (hw.m rfl) (State.count_keeps (hw.m rfl)
        k5))) ?_
    refine keeps_ite (State.txDiscard_keeps (hw.m rfl) (State.raiseOf_keeps (hw.m rfl) (State.count_keeps (hw.m rfl)
        k5))) ?_
    split
    rename_i v6 v7 v8 e9
    have k10 : Keeps ar z v8 := keeps_snd e9 (State.drawBelow_keeps k5)
    exact State.modPort_keeps (hw.m rfl) k10
  · exact k2

theorem execBackoffExpiry_keeps {ar : List Area} (hw : Within [.eth, .links] ar) {z : State} {t : Nat} {a1} {s :
    State} (h : Keeps ar z (s.tick t)) :
    NextKeeps ar z (execBackoffExpiry t a1 s) := by
  unfold execBackoffExpiry
  extract_lets -underBinder -merge +onlyGivenNames v1
  have k2 : Keeps ar z v1 := h
  clear_value v1
  refine keeps_next ?_
  split
  · split
    · exact keeps_ite (State.modPort_keeps (hw.m rfl) k2) k2
    · exact k2
  · exact k2

theorem execPlcaStatusChange_keeps {ar : List Area} (hw : Within (Area.telling [.eth]) ar) {z : State} {t : Nat} {a1}
    {a2} {s : State} (h : Keeps ar z (s.tick t)) :
    NextKeeps ar z (execPlcaStatusChange t a1 a2 s) := by
  unfold execPlcaStatusChange
  extract_lets -underBinder -merge +onlyGivenNames v1
  have k2 : Keeps ar z v1 := h
  clear_value v1
  extract_lets -underBinder -merge +onlyGivenNames v3
  clear_value v3
  refine keeps_next ?_
  refine keeps_ite k2 ?_
  extract_lets -underBinder -merge +onlyGivenNames v4
  have k5 : Keeps ar z v4 := State.modPort_keeps (hw.m rfl) k2
  clear_value v4
  extract_lets -underBinder -merge +onlyGivenNames v6
  have k7 : Keeps ar z v6 := keeps_ite k5 (State.count_keeps (hw.m rfl) k5)
  clear_value v6
  exact State.raiseOf_keeps (hw.m rfl) k7

theorem State.holdFrame_keeps {ar : List Area} (hw : Within (Area.telling [.chans, .sw, .tide]) ar) {z a0 : State}
    {a1} {a2} (h1 : Keeps ar z a0) :
    Keeps ar z (State.holdFrame a0 a1 a2).1 := by
  unfold State.holdFrame
  exact State.placeFrame_keeps (hw.m rfl) h1

theorem State.cwDeliver_keeps {ar : List Area} (hw : Within (Area.but [.host, .slp]) ar) {z a0 : State} {a1} {a2}
    {a3} {a4} {a5} (h1 : Keeps ar z a0) :
    Keeps ar z (State.cwDeliver a0 a1 a2 a3 a4 a5).1 := by
  unfold State.cwDeliver
  extract_lets -underBinder -merge +onlyGivenNames v1
  clear_value v1
  exact keeps_ite1 (State.placeFrame_keeps (hw.m rfl) h1) (keeps_ite1 (State.placeFrame_keeps (hw.m rfl) h1) (keeps_ite1
    (State.takeFrame_keeps (hw.m rfl) h1) (keeps_ite1 (State.placeFrame_keeps (hw.m rfl) h1) (State.holdFrame_keeps
        (hw.m rfl) h1))))

theorem State.cwBroad_keeps {ar : List Area} (hw : Within (Area.but [.host, .slp]) ar) {z a0 : State} {a1} {a2} {a3}
    {a4} {a5} (h1 : Keeps ar z a0) :
    Keeps ar z (State.cwBroad a0 a1 a2 a3 a4 a5).1 := by
  unfold State.cwBroad
  extract_lets -underBinder -merge +onlyGivenNames v1 v2
  clear_value v1 v2
  refine keeps_ite1 (State.holdFrame_keeps (hw.m rfl) h1) ?_
  refine keeps_ite1 (State.holdFrame_keeps (hw.m rfl) h1) ?_
  refine keeps_ite1 ?_ ?_
  · split
    rename_i v3 v4 v5 e6
    have k7 : Keeps ar z v4 := keeps_fst e6 (State.cwDeliver_keeps (hw.m rfl) h1)
    exact keeps_mk1 (State.countAt_keeps (hw.m rfl) k7)
  · extract_lets -underBinder -merge +onlyGivenNames v8
    clear_value v8
    split
    rename_i v9 v10 v11 e12
    have k13 : Keeps ar z v10 := keeps_fst e12 (State.cwDeliver_keeps (hw.m rfl) h1)
    refine keeps_ite1 (keeps_mk1 k13) ?_
    split
    rename_i v14 v15 v16 e17
    have k18 : Keeps ar z v15 := keeps_fst e17 (State.placeFrame_keeps (hw.m rfl) k13)
    exact keeps_mk1 (State.modFrame_keeps (hw.m rfl) k18)

theorem State.cwScope_keeps {ar : List Area} (hw : Within (Area.but [.host, .slp]) ar) {z a0 : State} {a1} {a2} {a3}
    {a4} (h1 : Keeps ar z a0) :
    Keeps ar z (State.cwScope a0 a1 a2 a3 a4).1 := by
  unfold State.cwScope
  extract_lets -underBinder -merge +onlyGivenNames v1 v2
  clear_value v1 v2
  extract_lets -underBinder -merge +onlyGivenNames v3
  have k4 : ∀ x0, Keeps ar z (v3 x0).1 := by
    intro v5
    unfold v3
    exact State.holdFrame_keeps (hw.m rfl) h1
  clear_value v3
  refine keeps_ite1 (State.takeFrame_keeps (hw.m rfl) h1) ?_
  refine keeps_ite1 ?_ ?_
  · refine keeps_ite1 ?_ (State.takeFrame_keeps (hw.m rfl) h1)
    refine k4 ?_
  · refine keeps_ite1 ?_ ?_
    · refine k4 ?_
    · refine keeps_ite1 (State.cwBroad_keeps (hw.m rfl) h1) ?_
      refine keeps_ite1 (State.cwDeliver_keeps (hw.m rfl) h1) ?_
      refine keeps_ite1 ?_ ?_
      · refine k4 ?_
      · split
        · exact State.holdFrame_keeps (hw.m rfl) h1
        · extract_lets -underBinder -merge +onlyGivenNames v6
          clear_value v6
          split
          rename_i v7 v8 v9 e10
          have k11 : Keeps ar z v8 := keeps_fst e10 (State.placeFrame_keeps (hw.m rfl) h1)
          exact keeps_mk1 (State.countAt_keeps (hw.m rfl) k11)

theorem State.cwArrive_keeps {ar : List Area} (hw : Within (Area.but [.host, .slp]) ar) {z a0 : State} {a1} {a2} {a3}
    {a4} (h1 : Keeps ar z a0) :
    Keeps ar z (State.cwArrive a0 a1 a2 a3 a4).1 := by
  unfold State.cwArrive
  extract_lets -underBinder -merge +onlyGivenNames v1 v2 v3 v4
  clear_value v1 v2 v3 v4
  extract_lets -underBinder -merge +onlyGivenNames v5
  have k6 : ∀ x0, Keeps ar z (v5 x0).1 := by
    intro v7
    unfold v5
    exact State.holdFrame_keeps (hw.m rfl) h1
  clear_value v5
  refine keeps_ite1 ?_ ?_
  · refine k6 ?_
  · refine keeps_ite1 (State.cwScope_keeps (hw.m rfl) h1) ?_
    refine keeps_ite1 ?_ ?_
    · refine k6 ?_
    · refine keeps_ite1 ?_ (keeps_ite1 (State.holdFrame_keeps (hw.m rfl) h1) (keeps_ite1 (State.cwScope_keeps (hw.m
        rfl) h1)
        (State.cwScope_keeps (hw.m rfl) h1)))
      refine k6 ?_

theorem State.timeFrame_keeps {ar : List Area} (hw : Within (Area.telling [.chans, .sw, .tide]) ar) {z a0 : State}
    {a1} {a2} (h1 : Keeps ar z a0) :
    Keeps ar z (State.timeFrame a0 a1 a2).1 := by
  unfold State.timeFrame
  extract_lets -underBinder -merge +onlyGivenNames v1 v2 v3 v4
  clear_value v1 v2 v3 v4
  split
  rename_i v5 v6 v7 e8
  have k9 : Keeps ar z v6 := keeps_fst e8 (State.placeFrame_keeps (hw.m rfl) h1)
  exact keeps_mk1 (keeps_ite (State.countAt_keeps (hw.m rfl) k9) k9)

theorem State.crossIn_keeps {ar : List Area} (hw : Within (Area.telling [.chans, .eth, .sw, .tide]) ar) {z a0 :
    State} {a1} {a2} {a3} {a4} (h1 : Keeps ar z a0) (h5 : ∀ x0 x1, Keeps ar z x0 → Keeps ar z
    (a4 x0 x1).1) :
    Keeps ar z (State.crossIn a0 a1 a2 a3 a4).1 := by
  unfold State.crossIn
  extract_lets -underBinder -merge +onlyGivenNames v1
  clear_value v1
  extract_lets -underBinder -merge +onlyGivenNames v2
  have k3 : ∀ x0, Keeps ar z x0 → Keeps ar z (v2 x0).1 := by
    intro v4 k5
    unfold v2
    exact State.holdFrame_keeps (hw.m rfl) k5
  clear_value v2
  refine keeps_ite1 (k3 _ h1) ?_
  refine keeps_ite1 (k3 _ (State.modPort_keeps (hw.m rfl) h1)) ?_
  extract_lets -underBinder -merge +onlyGivenNames v6
  have k7 : Keeps ar z v6 := State.cross_keeps (hw.m rfl) h1
  clear_value v6
  split
  · exact k3 _ (State.count_keeps (hw.m rfl) k7)
  · exact h5 _ _ k7

theorem State.ingress_keeps {ar : List Area} (hw : Within (Area.but [.host, .slp]) ar) {z a0 : State} {a1} {a2} {a3}
    {a4} (h1 : Keeps ar z a0) :
    Keeps ar z (State.ingress a0 a1 a2 a3 a4) := by
  unfold State.ingress
  extract_lets -underBinder -merge +onlyGivenNames v1
  clear_value v1
  refine keeps_ite h1 ?_
  extract_lets -underBinder -merge +onlyGivenNames v2 v3 v4
  clear_value v2 v3 v4
  extract_lets -underBinder -merge +onlyGivenNames v5
  have k6 : ∀ x0, Keeps ar z (v5 x0).1 := by
    intro v7
    unfold v5
    exact State.holdFrame_keeps (hw.m rfl) h1
  clear_value v5
  split
  rename_i v8 v9 v10 e11
  have k12 : Keeps ar z v9 := by
    refine keeps_fst e11 ?_
    refine keeps_ite1 ?_ ?_
    · refine k6 ?_
    · refine keeps_ite1 (State.crossIn_keeps (hw.m rfl) h1 (fun v13 v14 k15 => State.timeFrame_keeps (hw.m rfl) k15)) ?_
      refine keeps_ite1 (keeps_ite1 (State.crossIn_keeps (hw.m rfl) h1 (fun v16 v17 k18 => State.cwArrive_keeps (hw.m
          rfl) k18))
        (State.holdFrame_keeps (hw.m rfl) h1)) ?_
      refine keeps_ite1 ?_ ?_
      · refine k6 ?_
      · refine keeps_ite1 ?_ (State.crossIn_keeps (hw.m rfl) h1 (fun v22 v23 k24 => State.takeFrame_keeps (hw.m rfl)
          k24))
        split
        · exact State.crossIn_keeps (hw.m rfl) h1 (fun v19 v20 k21 => State.takeFrame_keeps (hw.m rfl) k21)
        · refine k6 ?_
  exact State.modPort_keeps (hw.m rfl) k12

theorem execIngressFrameStart_keeps {ar : List Area} (hw : Within (Area.but [.host, .slp]) ar) {z : State} {t : Nat}
    {a1} {a2} {a3} {s : State} (h : Keeps ar z (s.tick t)) :
    NextKeeps ar z (execIngressFrameStart t a1 a2 a3 s) := by
  unfold execIngressFrameStart
  exact keeps_next (State.ingress_keeps (hw.m rfl) h)

theorem execCausewayFrameReceive_keeps {ar : List Area} (hw : Within (Area.but [.host, .slp]) ar) {z : State} {t :
    Nat} {a1} {a2} {a3} {s : State} (h : Keeps ar z (s.tick t))
    :
    NextKeeps ar z (execCausewayFrameReceive t a1 a2 a3 s) := by
  unfold execCausewayFrameReceive
  extract_lets -underBinder -merge +onlyGivenNames v1
  have k2 : Keeps ar z v1 := h
  clear_value v1
  exact keeps_next (keeps_ite (State.ingress_keeps (hw.m rfl) k2) k2)

theorem State.badSecond_keeps {ar : List Area} (hw : Within (Area.telling [.sec]) ar) {z a0 : State} {a1} (h1 : Keeps
    ar z a0) :
    Keeps ar z (State.badSecond a0 a1) := by
  unfold State.badSecond
  extract_lets -underBinder -merge +onlyGivenNames v1
  clear_value v1
  refine keeps_ite h1 ?_
  refine keeps_ite ?_ (keeps_ite (State.keyFail_keeps (hw.m rfl) h1) h1)
  extract_lets -underBinder -merge +onlyGivenNames v2
  clear_value v2
  exact State.raiseOf_keeps (hw.m rfl) (State.count_keeps (hw.m rfl) h1)

theorem State.learnFrom_keeps {ar : List Area} (hw : Within [.ctrs, .tbl] ar) {z a0 : State} {a1} (h1 : Keeps ar z a0) :
    Keeps ar z (State.learnFrom a0 a1) := by
  unfold State.learnFrom
  extract_lets -underBinder -merge +onlyGivenNames v1
  clear_value v1
  refine keeps_ite h1 ?_
  split
  · exact keeps_ite (State.mirrorOut_keeps (State.modL2e_keeps (hw.m rfl) h1)) (keeps_ite (State.learnQueue_keeps
      (hw.m rfl) h1) h1)
  · exact keeps_ite (State.learnQueue_keeps (hw.m rfl) h1) h1

theorem State.signalConfirm_keeps {ar : List Area} (hw : Within [.ctrs, .sig] ar) {z a0 : State} {a1} (h1 : Keeps ar
    z a0) :
    Keeps ar z (State.signalConfirm a0 a1) := by
  unfold State.signalConfirm
  extract_lets -underBinder -merge +onlyGivenNames v1
  clear_value v1
  split
  · exact h1
  · refine keeps_ite (State.specEnd_keeps (hw.m rfl) h1) ?_
    refine keeps_ite (State.specEnd_keeps (hw.m rfl) (State.count_keeps (hw.m rfl) h1)) ?_
    extract_lets -underBinder -merge +onlyGivenNames v2
    have k3 : Keeps ar z v2 := keeps_ite h1 (State.count_keeps (hw.m rfl) h1)
    clear_value v2
    exact State.modSig_keeps (hw.m rfl) k3

theorem State.ruleCount_keeps {ar : List Area} (hw : Within [.ctrs] ar) {z a0 : State} {a1} (h1 : Keeps ar z a0) :
    Keeps ar z (State.ruleCount a0 a1) := by
  unfold State.ruleCount
  split
  · exact h1
  · exact keeps_ite (State.count_keeps (hw.m rfl) h1) (State.count_keeps (hw.m rfl) h1)

theorem State.busEnter_keeps {ar : List Area} (hw : Within (Area.telling [.chans, .eth, .buses, .sw]) ar) {z a0 :
    State} {a1} (h1 : Keeps ar z a0) :
    Keeps ar z (State.busEnter a0 a1) := by
  unfold State.busEnter
  extract_lets -underBinder -merge +onlyGivenNames v1
  clear_value v1
  split
  · exact h1
  · extract_lets -underBinder -merge +onlyGivenNames v2
    have k3 : Keeps ar z v2 := State.modFrame_keeps (hw.m rfl) h1
    clear_value v2
    split
    · rename_i v4 v5 e6
      have k7 : Keeps ar z v5 := keeps_fst e6 (State.deepEnter_keeps (hw.m rfl) k3)
      exact k7
    · rename_i v8 v9 e10
      have k11 : Keeps ar z v9 := keeps_fst e10 (State.deepEnter_keeps (hw.m rfl) k3)
      exact State.releaseRef_keeps (hw.m rfl) k11

theorem State.confirmSinks_keeps {ar : List Area} (hw : Within (Area.but [.host, .slp]) ar) {z a0 : State} {a1} (h1 :
    Keeps ar z a0) :
    Keeps ar z (State.confirmSinks a0 a1) := by
  unfold State.confirmSinks
  extract_lets -underBinder -merge +onlyGivenNames v1
  clear_value v1
  extract_lets -underBinder -merge +onlyGivenNames v2
  have k3 : Keeps ar z v2 := State.each_keeps (fun v4 v5 k6 => State.tqCommit_keeps (hw.m rfl) k6) h1
  clear_value v2
  extract_lets -underBinder -merge +onlyGivenNames v7
  have k8 : Keeps ar z v7 := State.ruleCount_keeps (hw.m rfl) (State.signalConfirm_keeps (hw.m rfl)
      (State.learnFrom_keeps (hw.m rfl) k3))
  clear_value v7
  extract_lets -underBinder -merge +onlyGivenNames v9
  have k10 : Keeps ar z v9 := by
    unfold v9
    split
    · exact State.aafAccept_keeps (hw.m rfl) k8
    · exact k8
  clear_value v9
  extract_lets -underBinder -merge +onlyGivenNames v11
  have k12 : Keeps ar z v11 := State.modFrame_keeps (hw.m rfl) (State.policeCount_keeps (hw.m rfl) k10)
  clear_value v11
  extract_lets -underBinder -merge +onlyGivenNames v13
  have k14 : Keeps ar z v13 := State.frameConfirm_keeps (hw.m rfl) (State.each_keeps (fun v15 v16 k17 =>
      State.tableReport_keeps (hw.m rfl)
    k17) k12)
  clear_value v13
  exact State.busEnter_keeps (hw.m rfl) k14

theorem State.confirmFrame_keeps {ar : List Area} (hw : Within (Area.but [.host, .slp]) ar) {z a0 : State} {a1} (h1 :
    Keeps ar z a0) :
    Keeps ar z (State.confirmFrame a0 a1) := by
  unfold State.confirmFrame
  extract_lets -underBinder -merge +onlyGivenNames v1
  have k2 : Keeps ar z v1 := State.policeDebit_keeps (hw.m rfl) h1
  clear_value v1
  extract_lets -underBinder -merge +onlyGivenNames v3
  clear_value v3
  exact keeps_ite (State.confirmSinks_keeps (hw.m rfl) k2) (State.modFrame_keeps (hw.m rfl) k2)

theorem State.cwConfirm_keeps {ar : List Area} (hw : Within (Area.telling [.eth]) ar) {z a0 : State} {a1} (h1 : Keeps
    ar z a0) :
    Keeps ar z (State.cwConfirm a0 a1) := by
  unfold State.cwConfirm
  extract_lets -underBinder -merge +onlyGivenNames v1
  clear_value v1
  extract_lets -underBinder -merge +onlyGivenNames v2
  have k3 : Keeps ar z v2 := State.modPort_keeps (hw.m rfl) h1
  clear_value v2
  extract_lets -underBinder -merge +onlyGivenNames v4
  clear_value v4
  extract_lets -underBinder -merge +onlyGivenNames v5
  have k6 : Keeps ar z v5 := keeps_ite h1 (keeps_ite k3 (State.count_keeps (hw.m rfl) k3))
  clear_value v5
  exact keeps_ite (State.cwLinkEvent_keeps (hw.m rfl) k6) k6

theorem State.portConfirm_keeps {ar : List Area} (hw : Within (Area.telling [.eth, .sec, .slp]) ar) {z a0 : State}
    {a1} (h1 : Keeps ar z a0) :
    Keeps ar z (State.portConfirm a0 a1) := by
  unfold State.portConfirm
  extract_lets -underBinder -merge +onlyGivenNames v1
  clear_value v1
  refine keeps_ite (State.count_keeps (hw.m rfl) h1) ?_
  refine keeps_ite (State.count_keeps (hw.m rfl) h1) ?_
  refine keeps_ite (keeps_ite (State.pauseTake_keeps (hw.m rfl) h1) h1) ?_
  extract_lets -underBinder -merge +onlyGivenNames v2
  have k3 : Keeps ar z v2 := State.count_keeps (hw.m rfl) (State.count_keeps (hw.m rfl) h1)
  clear_value v2
  extract_lets -underBinder -merge +onlyGivenNames v4
  clear_value v4
  extract_lets -underBinder -merge +onlyGivenNames v5
  have k6 : Keeps ar z v5 := keeps_ite k3 (State.heard_keeps (hw.m rfl) k3)
  clear_value v5
  extract_lets -underBinder -merge +onlyGivenNames v7
  have k8 : Keeps ar z v7 := keeps_ite (State.count_keeps (hw.m rfl) k6) k6
  clear_value v7
  extract_lets -underBinder -merge +onlyGivenNames v9
  have k10 : Keeps ar z v9 := keeps_ite (State.count_keeps (hw.m rfl) k8) k8
  clear_value v9
  exact keeps_ite (State.count_keeps (hw.m rfl) k10) k10

theorem State.verdict_keeps {ar : List Area} (hw : Within (Area.but [.host]) ar) {z a0 : State} {a1} {a2} (h1 : Keeps
    ar z a0) :
    Keeps ar z (State.verdict a0 a1 a2) := by
  unfold State.verdict
  extract_lets -underBinder -merge +onlyGivenNames v1
  clear_value v1
  refine keeps_ite h1 ?_
  extract_lets -underBinder -merge +onlyGivenNames v2
  have k3 : Keeps ar z v2 := State.modPort_keeps (hw.m rfl) h1
  clear_value v2
  extract_lets -underBinder -merge +onlyGivenNames v4
  clear_value v4
  extract_lets -underBinder -merge +onlyGivenNames v5
  have k6 : Keeps ar z v5 := State.each_keeps (fun v7 v8 k9 => State.frameWhole_keeps (hw.m rfl) k9) k3
  clear_value v5
  extract_lets -underBinder -merge +onlyGivenNames v10
  have k11 : ∀ x0, Keeps ar z x0 → Keeps ar z (v10 x0) := by
    intro v12 k13
    unfold v10
    exact State.each_keeps (fun v14 v15 k16 => State.spoilFrame_keeps (hw.m rfl) k16) k13
  clear_value v10
  refine keeps_ite (State.toldFlush_keeps (hw.m rfl) (k11 _ k6)) ?_
  split
  · exact State.toldFlush_keeps (hw.m rfl) (k11 _ (State.badSecond_keeps (hw.m rfl) (keeps_ite k6 (State.count_keeps
      (hw.m rfl) k6))))
  · extract_lets -underBinder -merge +onlyGivenNames v17
    have k18 : Keeps ar z v17 := State.cwConfirm_keeps (hw.m rfl) (State.portConfirm_keeps (hw.m rfl) k6)
    clear_value v17
    exact keeps_ite (State.toldFlush_keeps (hw.m rfl) (k11 _ k18)) (State.each_keeps (fun v19 v20 k21 =>
      State.confirmFrame_keeps (hw.m rfl) k21) k18)

theorem execIngressVerdict_keeps {ar : List Area} (hw : Within (Area.but [.host]) ar) {z : State} {t : Nat} {a1} {a2}
    {s : State} (h : Keeps ar z (s.tick t)) :
    NextKeeps ar z (execIngressVerdict t a1 a2 s) := by
  unfold execIngressVerdict
  exact keeps_next (State.verdict_keeps (hw.m rfl) h)

theorem State.frameAdmit_keeps {ar : List Area} (hw : Within (Area.but [.host, .slp]) ar) {z a0 : State} {a1} (h1 :
    Keeps ar z a0) :
    Keeps ar z (State.frameAdmit a0 a1) := by
  unfold State.frameAdmit
  extract_lets -underBinder -merge +onlyGivenNames v1
  clear_value v1
  refine keeps_ite h1 ?_
  extract_lets -underBinder -merge +onlyGivenNames v2
  have k3 : Keeps ar z v2 := State.modFrame_keeps (hw.m rfl) h1
  clear_value v2
  extract_lets -underBinder -merge +onlyGivenNames v4
  clear_value v4
  extract_lets -underBinder -merge +onlyGivenNames v5
  have k6 : Keeps ar z v5 := keeps_ite k3 (State.admitRef_keeps (hw.m rfl) k3)
  clear_value v5
  exact State.retire_keeps (hw.m rfl) (keeps_ite (State.confirmSinks_keeps (hw.m rfl) k6) k6)

theorem State.instantFirst_keeps {ar : List Area} (hw : Within (Area.but [.host]) ar) {z a0 : State} {a1} (h1 : Keeps
    ar z a0) :
    Keeps ar z (State.instantFirst a0 a1) := by
  unfold State.instantFirst
  refine keeps_foldl ?_ h1
  intro v1 v2 k3
  split
  · exact keeps_ite (State.dequeue_keeps (hw.m rfl) k3) k3
  · exact keeps_ite (State.verdict_keeps (hw.m rfl) k3) k3
  · exact k3

theorem execFrameAdmission_keeps {ar : List Area} (hw : Within (Area.but [.host]) ar) {z : State} {t : Nat} {a1} {s :
    State} (h : Keeps ar z (s.tick t)) :
    NextKeeps ar z (execFrameAdmission t a1 s) := by
  unfold execFrameAdmission
  extract_lets -underBinder -merge +onlyGivenNames v1
  have k2 : Keeps ar z v1 := State.instantFirst_keeps (hw.m rfl) h
  clear_value v1
  exact keeps_next (State.each_keeps (fun v3 v4 k5 => State.frameAdmit_keeps (hw.m rfl) k5) k2)

theorem execVersionExpiry_keeps {ar : List Area} (hw : Within (Area.but [.host, .slp]) ar) {z : State} {t : Nat} {a1}
    {s : State} (h : Keeps ar z (s.tick t)) :
    NextKeeps ar z (execVersionExpiry t a1 s) := by
  unfold execVersionExpiry
  extract_lets -underBinder -merge +onlyGivenNames v1
  have k2 : Keeps ar z v1 := h
  clear_value v1
  extract_lets -underBinder -merge +onlyGivenNames v3
  clear_value v3
  exact keeps_next (keeps_ite (State.toldFlush_keeps (hw.m rfl) (State.spoilFrame_keeps (hw.m rfl) (State.count_keeps
      (hw.m rfl) k2))) k2)

end Sys2Proof.Machine
end

