-- ==== Sys2Proof/Laws/KeepsBus.lean ====
section
/-! SUPPORT. What the operations of Bus, Switch, SigMap keep, and which areas they may move. -/

set_option Elab.async false

namespace Sys2Proof.Machine

open Sys2Proof

theorem State.busEvent_keeps {ar : List Area} (hw : Within Area.told ar) {z a0 : State} {a1} {a2} (h1 : Keeps ar z a0) :
    Keeps ar z (State.busEvent a0 a1 a2) := by
  unfold State.busEvent
  exact State.raiseOf_keeps (hw.m rfl) h1

theorem State.busModeSet_keeps {ar : List Area} (hw : Within (Area.telling [.buses]) ar) {z a0 : State} {a1} {a2} (h1
    : Keeps ar z a0) :
    Keeps ar z (State.busModeSet a0 a1 a2) := by
  unfold State.busModeSet
  extract_lets -underBinder -merge +onlyGivenNames v1
  clear_value v1
  extract_lets -underBinder -merge +onlyGivenNames v2
  have k3 : Keeps ar z v2 := State.modBus_keeps (hw.m rfl) h1
  clear_value v2
  exact keeps_ite k3 (State.busEvent_keeps (hw.m rfl) k3)

theorem State.busStop_keeps {ar : List Area} (hw : Within (Area.but [.host, .slp]) ar) {z a0 : State} {a1} (h1 :
    Keeps ar z a0) :
    Keeps ar z (State.busStop a0 a1) := by
  unfold State.busStop
  extract_lets -underBinder -merge +onlyGivenNames v1
  clear_value v1
  extract_lets -underBinder -merge +onlyGivenNames v2
  have k3 : Keeps ar z v2 := State.modBus_keeps (hw.m rfl) (State.busRxSpoil_keeps (hw.m rfl) h1)
  clear_value v2
  exact State.toldFlush_keeps (hw.m rfl) (State.abortedOf_keeps (hw.m rfl) (State.completeOf_keeps (hw.m rfl) k3))

theorem State.drainStep_keeps {ar : List Area} (hw : Within (Area.but [.host, .slp]) ar) {z a0 : State} {a1} (h1 :
    Keeps ar z a0) :
    Keeps ar z (State.drainStep a0 a1) := by
  unfold State.drainStep
  extract_lets -underBinder -merge +onlyGivenNames v1
  clear_value v1
  split
  · exact h1
  · extract_lets -underBinder -merge +onlyGivenNames v2 v3
    clear_value v2 v3
    extract_lets -underBinder -merge +onlyGivenNames v4
    have k5 : Keeps ar z v4 := State.each_keeps (fun v6 v7 k8 => State.bufReturn_keeps (hw.m rfl) k8) h1
    clear_value v4
    extract_lets -underBinder -merge +onlyGivenNames v9
    have k10 : Keeps ar z v9 := State.modTx_keeps (hw.m rfl) k5
    clear_value v9
    extract_lets -underBinder -merge +onlyGivenNames v11
    have k12 : Keeps ar z v11 := keeps_ite k10 (State.busEvent_keeps (hw.m rfl) k10)
    clear_value v11
    extract_lets -underBinder -merge +onlyGivenNames v13
    clear_value v13
    exact keeps_ite (State.busStop_keeps (hw.m rfl) k12) k12

theorem State.busAbort_keeps {ar : List Area} (hw : Within (Area.but [.host, .slp]) ar) {z a0 : State} {a1} {a2} {a3}
    (h1 : Keeps ar z a0) :
    Keeps ar z (State.busAbort a0 a1 a2 a3) := by
  unfold State.busAbort
  refine keeps_ite h1 ?_
  extract_lets -underBinder -merge +onlyGivenNames v1
  have k2 : Keeps ar z v1 := State.modTx_keeps (hw.m rfl) h1
  clear_value v1
  exact State.drainStep_keeps (hw.m rfl) k2

theorem State.busOffEnter_keeps {ar : List Area} (hw : Within (Area.but [.host, .slp]) ar) {z a0 : State} {a1} (h1 :
    Keeps ar z a0) :
    Keeps ar z (State.busOffEnter a0 a1) := by
  unfold State.busOffEnter
  extract_lets -underBinder -merge +onlyGivenNames v1 v2
  clear_value v1 v2
  extract_lets -underBinder -merge +onlyGivenNames v3
  have k4 : Keeps ar z v3 := State.modBus_keeps (hw.m rfl) h1
  clear_value v3
  extract_lets -underBinder -merge +onlyGivenNames v5
  have k6 : Keeps ar z v5 := State.busEvent_keeps (hw.m rfl) (State.count_keeps (hw.m rfl) k4)
  clear_value v5
  extract_lets -underBinder -merge +onlyGivenNames v7
  have k8 : Keeps ar z v7 := keeps_ite (State.busModeSet_keeps (hw.m rfl) k6) k6
  clear_value v7
  extract_lets -underBinder -merge +onlyGivenNames v9
  clear_value v9
  extract_lets -underBinder -merge +onlyGivenNames v10
  have k11 : Keeps ar z v10 := by
    unfold v10
    refine keeps_ite k8 ?_
    refine State.each_keeps ?_ k8
    intro v12 v13 k14
    split
    · exact keeps_ite k14 (State.divert_keeps (hw.m rfl) k14)
    · exact k14
  clear_value v10
  exact State.drainStep_keeps (hw.m rfl) k11

theorem State.busCounters_keeps {ar : List Area} (hw : Within (Area.but [.host, .slp]) ar) {z a0 : State} {a1} {a2}
    {a3} (h1 : Keeps ar z a0) :
    Keeps ar z (State.busCounters a0 a1 a2 a3) := by
  unfold State.busCounters
  extract_lets -underBinder -merge +onlyGivenNames v1
  clear_value v1
  extract_lets -underBinder -merge +onlyGivenNames v2
  have k3 : Keeps ar z v2 := State.modBus_keeps (hw.m rfl) h1
  clear_value v2
  extract_lets -underBinder -merge +onlyGivenNames v4
  have k5 : Keeps ar z v4 := keeps_ite (State.busEvent_keeps (hw.m rfl) k3) k3
  clear_value v4
  refine keeps_ite (State.busOffEnter_keeps (hw.m rfl) k5) ?_
  extract_lets -underBinder -merge +onlyGivenNames v6
  clear_value v6
  extract_lets -underBinder -merge +onlyGivenNames v7
  have k8 : Keeps ar z v7 := State.modBus_keeps (hw.m rfl) k5
  clear_value v7
  exact keeps_ite (State.busEvent_keeps (hw.m rfl) k8) (keeps_ite (State.busEvent_keeps (hw.m rfl) k8) k8)

theorem State.noackEnd_keeps {ar : List Area} (hw : Within [.buses] ar) {z a0 : State} {a1} (h1 : Keeps ar z a0) :
    Keeps ar z (State.noackEnd a0 a1) := by
  unfold State.noackEnd
  exact State.modTx_keeps (hw.m rfl) h1

theorem State.noackCount_keeps {ar : List Area} (hw : Within (Area.telling [.buses]) ar) {z a0 : State} {a1} {a2} (h1
    : Keeps ar z a0) :
    Keeps ar z (State.noackCount a0 a1 a2) := by
  unfold State.noackCount
  extract_lets -underBinder -merge +onlyGivenNames v1
  have k2 : Keeps ar z v1 := State.modTx_keeps (hw.m rfl) h1
  clear_value v1
  extract_lets -underBinder -merge +onlyGivenNames v3
  clear_value v3
  refine keeps_ite k2 ?_
  extract_lets -underBinder -merge +onlyGivenNames v4
  have k5 : Keeps ar z v4 := State.modTx_keeps (hw.m rfl) k2
  clear_value v4
  exact State.raiseOf_keeps (hw.m rfl) (State.count_keeps (hw.m rfl) k5)

theorem State.bufDrop_keeps {ar : List Area} (hw : Within (Area.telling [.eth, .buses, .sw]) ar) {z a0 : State} {a1}
    {a2} (h1 : Keeps ar z a0) :
    Keeps ar z (State.bufDrop a0 a1 a2) := by
  unfold State.bufDrop
  split
  · exact h1
  · extract_lets -underBinder -merge +onlyGivenNames v1
    have k2 : Keeps ar z v1 := State.modTx_keeps (hw.m rfl) h1
    clear_value v1
    exact State.releaseRef_keeps (hw.m rfl) k2

theorem State.bufAge_keeps {ar : List Area} (hw : Within (Area.telling [.eth, .buses, .sw]) ar) {z a0 : State} {a1}
    (h1 : Keeps ar z a0) :
    Keeps ar z (State.bufAge a0 a1) := by
  unfold State.bufAge
  refine State.each_keeps ?_ h1
  intro v1 v2 k3
  extract_lets -underBinder -merge +onlyGivenNames v4
  clear_value v4
  split
  · exact keeps_ite k3 (State.raiseOf_keeps (hw.m rfl) (State.count_keeps (hw.m rfl) (State.bufDrop_keeps (hw.m rfl)
      k3)))
  · exact k3

theorem State.heldPlace_keeps {ar : List Area} (hw : Within [.buses] ar) {z a0 : State} {a1} {a2} (h1 : Keeps ar z a0) :
    Keeps ar z (State.heldPlace a0 a1 a2) := by
  unfold State.heldPlace
  extract_lets -underBinder -merge +onlyGivenNames v1
  clear_value v1
  refine keeps_ite h1 ?_
  split
  · exact h1
  · extract_lets -underBinder -merge +onlyGivenNames v2
    clear_value v2
    exact State.modTx_keeps (hw.m rfl) (State.bufReturn_keeps (hw.m rfl) (State.deepTake_keeps (hw.m rfl) h1))

theorem State.busOn_keeps {ar : List Area} (hw : Within (Area.telling [.chans, .eth, .buses, .sw]) ar) {z a0 : State}
    {a1} (h1 : Keeps ar z a0) :
    Keeps ar z (State.busOn a0 a1) := by
  unfold State.busOn
  extract_lets -underBinder -merge +onlyGivenNames v1
  clear_value v1
  extract_lets -underBinder -merge +onlyGivenNames v2
  have k3 : Keeps ar z v2 := State.modBus_keeps (hw.m rfl) h1
  clear_value v2
  extract_lets -underBinder -merge +onlyGivenNames v4
  have k5 : Keeps ar z v4 := State.busEvent_keeps (hw.m rfl) k3
  clear_value v4
  extract_lets -underBinder -merge +onlyGivenNames v6
  have k7 : Keeps ar z v6 := keeps_ite (State.busModeSet_keeps (hw.m rfl) k5) k5
  clear_value v6
  refine keeps_ite (State.refill_keeps (hw.m rfl) (State.bufReturnAll_keeps (hw.m rfl) k7)) ?_
  extract_lets -underBinder -merge +onlyGivenNames v8
  have k9 : Keeps ar z v8 := by
    unfold v8
    split
    · exact State.heldPlace_keeps (hw.m rfl) k7
    · exact k7
  clear_value v8
  split
  · exact State.refill_keeps (hw.m rfl) (State.modTx_keeps (hw.m rfl) k9)
  · exact keeps_ite (State.refill_keeps (hw.m rfl) (State.raiseOf_keeps (hw.m rfl) (State.count_keeps (hw.m rfl)
      (State.bufDrop_keeps (hw.m rfl) k9))))
      (State.modTx_keeps (hw.m rfl) k9)

theorem State.deepTrim_keeps {ar : List Area} (hw : Within (Area.telling [.eth, .buses, .sw]) ar) {z a0 : State} {a1}
    {a2} {a3} (h1 : Keeps ar z a0) :
    Keeps ar z (State.deepTrim a0 a1 a2 a3) := by
  induction a3 generalizing a0
  · unfold State.deepTrim
    exact h1
  · rename_i w0 ih
    unfold State.deepTrim
    extract_lets -underBinder -merge +onlyGivenNames v1
    clear_value v1
    refine keeps_ite h1 ?_
    split
    · exact h1
    · exact ih (State.deepEvict_keeps (hw.m rfl) h1)

theorem State.deepResort_keeps {ar : List Area} (hw : Within [.buses] ar) {z a0 : State} {a1} (h1 : Keeps ar z a0) :
    Keeps ar z (State.deepResort a0 a1) := by
  unfold State.deepResort
  exact State.modBus_keeps (hw.m rfl) h1

theorem effectBusConfig_keeps {ar : List Area} (hw : Within (Area.telling [.chans, .eth, .buses, .sw]) ar) {z a0 :
    State} {a1} (h1 : Keeps ar z a0) :
    Keeps ar z (effectBusConfig a0 a1).1 := by
  unfold effectBusConfig
  extract_lets -underBinder -merge +onlyGivenNames v1 v2
  clear_value v1 v2
  extract_lets -underBinder -merge +onlyGivenNames v3
  have k4 : Keeps ar z v3 := State.modBus_keeps (hw.m rfl) h1
  clear_value v3
  extract_lets -underBinder -merge +onlyGivenNames v5
  have k6 : Keeps ar z v5 := State.deepResort_keeps (hw.m rfl) k4
  clear_value v5
  exact keeps_mk1 (State.refill_keeps (hw.m rfl) (State.deepTrim_keeps (hw.m rfl) k6))

theorem execBusConfig_keeps {ar : List Area} (hw : Within (Area.telling [.windows, .mbx, .chans, .eth, .buses, .sw,
    .cw, .boot]) ar) {z : State} {t : Nat} {a1} {s : State} (h : Keeps ar z (s.tick t)) :
    NextKeeps ar z (execBusConfig t a1 s) := by
  unfold execBusConfig
  exact keeps_next (State.simple_keeps (hw.m rfl) h (fun v1 v2 k3 => effectBusConfig_keeps (hw.m rfl) k3))

theorem effectBusEnable_keeps {ar : List Area} (hw : Within [.buses] ar) {z a0 : State} {a1} (h1 : Keeps ar z a0) :
    Keeps ar z (effectBusEnable a0 a1).1 := by
  unfold effectBusEnable
  extract_lets -underBinder -merge +onlyGivenNames v1
  clear_value v1
  exact keeps_ite1 (keeps_mk1 h1) (keeps_mk1 (State.modBus_keeps (hw.m rfl) h1))

theorem execBusEnable_keeps {ar : List Area} (hw : Within (Area.telling [.windows, .mbx, .buses, .cw, .boot]) ar) {z
    : State} {t : Nat} {a1} {s : State} (h : Keeps ar z (s.tick t)) :
    NextKeeps ar z (execBusEnable t a1 s) := by
  unfold execBusEnable
  exact keeps_next (State.simple_keeps (hw.m rfl) h (fun v1 v2 k3 => effectBusEnable_keeps (hw.m rfl) k3))

theorem startBusDisable_keeps {ar : List Area} (hw : Within (Area.but [.host, .slp]) ar) {z a0 : State} {a1} (h1 :
    Keeps ar z a0) :
    Keeps ar z (startBusDisable a0 a1) := by
  unfold startBusDisable
  extract_lets -underBinder -merge +onlyGivenNames v1 v2
  clear_value v1 v2
  exact keeps_ite (State.completeOf_keeps (hw.m rfl) h1) (State.drainStep_keeps (hw.m rfl) (State.modTx_keeps (hw.m
      rfl) h1))

theorem execBusDisable_keeps {ar : List Area} (hw : Within (Area.but [.host, .slp]) ar) {z : State} {t : Nat} {a1} {s
    : State} (h : Keeps ar z (s.tick t)) :
    NextKeeps ar z (execBusDisable t a1 s) := by
  unfold execBusDisable
  exact keeps_next (State.begins_keeps (hw.m rfl) h (fun v1 v2 k3 => startBusDisable_keeps (hw.m rfl) k3))

theorem effectBusFilterLoad_keeps {ar : List Area} (hw : Within [.buses] ar) {z a0 : State} {a1} (h1 : Keeps ar z a0) :
    Keeps ar z (effectBusFilterLoad a0 a1).1 := by
  unfold effectBusFilterLoad
  exact keeps_mk1 (State.modBus_keeps (hw.m rfl) h1)

theorem execBusFilterLoad_keeps {ar : List Area} (hw : Within (Area.telling [.windows, .mbx, .buses, .cw, .boot]) ar)
    {z : State} {t : Nat} {a1} {s : State} (h : Keeps ar z (s.tick t)) :
    NextKeeps ar z (execBusFilterLoad t a1 s) := by
  unfold execBusFilterLoad
  exact keeps_next (State.simple_keeps (hw.m rfl) h (fun v1 v2 k3 => effectBusFilterLoad_keeps (hw.m rfl) k3))

theorem effectBusRecover_keeps {ar : List Area} (hw : Within [.buses] ar) {z a0 : State} {a1} (h1 : Keeps ar z a0) :
    Keeps ar z (effectBusRecover a0 a1).1 := by
  unfold effectBusRecover
  extract_lets -underBinder -merge +onlyGivenNames v1 v2
  clear_value v1 v2
  exact keeps_ite1 (keeps_mk1 h1) (keeps_mk1 (State.modBus_keeps (hw.m rfl) h1))

theorem execBusRecover_keeps {ar : List Area} (hw : Within (Area.telling [.windows, .mbx, .buses, .cw, .boot]) ar) {z
    : State} {t : Nat} {a1} {s : State} (h : Keeps ar z (s.tick t)) :
    NextKeeps ar z (execBusRecover t a1 s) := by
  unfold execBusRecover
  exact keeps_next (State.simple_keeps (hw.m rfl) h (fun v1 v2 k3 => effectBusRecover_keeps (hw.m rfl) k3))

theorem State.busOrder_keeps {ar : List Area} (hw : Within (Area.telling [.buses]) ar) {z a0 : State} {a1} {a2} (h1 :
    Keeps ar z a0) :
    Keeps ar z (State.busOrder a0 a1 a2) := by
  unfold State.busOrder
  extract_lets -underBinder -merge +onlyGivenNames v1
  clear_value v1
  exact keeps_ite (State.modBus_keeps (hw.m rfl) h1) (keeps_ite (State.busModeSet_keeps (hw.m rfl) h1)
      (State.modBus_keeps (hw.m rfl) h1))

theorem effectBusMode_keeps {ar : List Area} (hw : Within (Area.telling [.buses]) ar) {z a0 : State} {a1} (h1 : Keeps
    ar z a0) :
    Keeps ar z (effectBusMode a0 a1).1 := by
  unfold effectBusMode
  exact keeps_mk1 (State.busOrder_keeps (hw.m rfl) h1)

theorem execBusMode_keeps {ar : List Area} (hw : Within (Area.telling [.windows, .mbx, .buses, .cw, .boot]) ar) {z :
    State} {t : Nat} {a1} {s : State} (h : Keeps ar z (s.tick t)) :
    NextKeeps ar z (execBusMode t a1 s) := by
  unfold execBusMode
  exact keeps_next (State.simple_keeps (hw.m rfl) h (fun v1 v2 k3 => effectBusMode_keeps (hw.m rfl) k3))

theorem execBusStatus_keeps {ar : List Area} (hw : Within (Area.telling [.windows, .mbx, .cw, .boot]) ar) {z : State}
    {t : Nat} {a1} {s : State} (h : Keeps ar z (s.tick t)) :
    NextKeeps ar z (execBusStatus t a1 s) := by
  unfold execBusStatus
  exact keeps_next (State.query_keeps (hw.m rfl) h)

theorem State.rxEngine_keeps {ar : List Area} (hw : Within (Area.telling [.sec]) ar) {z a0 : State} {a1} {a2} {a3}
    (h1 : Keeps ar z a0) :
    Keeps ar z (State.rxEngine a0 a1 a2 a3).1 := by
  unfold State.rxEngine
  extract_lets -underBinder -merge +onlyGivenNames v1
  clear_value v1
  split
  · exact keeps_mk1 (State.modSec_keeps (hw.m rfl) h1)
  · exact keeps_ite1 (keeps_mk1 h1) (keeps_mk1 (State.keyLoad_keeps (hw.m rfl) (State.engineTake_keeps (hw.m rfl) h1)))

theorem State.rxSignal_keeps {ar : List Area} (hw : Within (Area.telling [.chans, .tbl, .sw, .sig, .sec]) ar) {z a0 :
    State} {a1} {a2} {a3} (h1 : Keeps ar z a0) :
    Keeps ar z (State.rxSignal a0 a1 a2 a3).1 := by
  unfold State.rxSignal
  extract_lets -underBinder -merge +onlyGivenNames v1 v2
  clear_value v1 v2
  refine keeps_ite1 (keeps_ite1 (keeps_mk1 h1) (keeps_mk1 (State.tableFound_keeps (hw.m rfl) h1))) ?_
  split
  · exact keeps_mk1 h1
  · refine keeps_ite1 (keeps_mk1 h1) ?_
    extract_lets -underBinder -merge +onlyGivenNames v3
    have k4 : Keeps ar z v3 := State.cross_keeps (hw.m rfl) h1
    clear_value v3
    extract_lets -underBinder -merge +onlyGivenNames v5 v6 v7 v8
    clear_value v5 v6 v7 v8
    extract_lets -underBinder -merge +onlyGivenNames v9
    have k10 : Keeps ar z v9 := State.modSw_keeps (hw.m rfl) k4
    clear_value v9
    split
    rename_i v11 v12 v13 e14
    have k15 : Keeps ar z v12 := keeps_fst e14 (State.specStart_keeps (hw.m rfl) k10)
    extract_lets -underBinder -merge +onlyGivenNames v16
    clear_value v16
    exact keeps_ite1 (State.rxEngine_keeps (hw.m rfl) k15) (keeps_mk1 k15)

theorem State.rxTake_keeps {ar : List Area} (hw : Within (Area.but [.host, .slp]) ar) {z a0 : State} {a1} {a2} {a3}
    (h1 : Keeps ar z a0) :
    Keeps ar z (State.rxTake a0 a1 a2 a3) := by
  unfold State.rxTake
  extract_lets -underBinder -merge +onlyGivenNames v1 v2
  clear_value v1 v2
  split
  rename_i v3 v4 v5 e6
  have k7 : Keeps ar z v4 := by
    refine keeps_fst e6 ?_
    refine keeps_ite1 (State.rxSignal_keeps (hw.m rfl) h1) ?_
    refine keeps_ite1 (keeps_mk1 (State.tqOpen_keeps (hw.m rfl) (State.cross_keeps (hw.m rfl) h1))) ?_
    refine keeps_ite1 ?_ (keeps_mk1 h1)
    extract_lets -underBinder -merge +onlyGivenNames v8
    have k9 : Keeps ar z v8 := State.cross_keeps (hw.m rfl) h1
    clear_value v8
    extract_lets -underBinder -merge +onlyGivenNames v10
    clear_value v10
    split
    rename_i v11 v12 v13 e14
    have k15 : Keeps ar z v12 := keeps_fst e14 (State.takeFrame_keeps (hw.m rfl) k9)
    exact keeps_mk1 k15
  exact State.modBus_keeps (hw.m rfl) k7

theorem State.rxDrop_keeps {ar : List Area} (hw : Within Area.told ar) {z a0 : State} {a1} {a2} (h1 : Keeps ar z a0) :
    Keeps ar z (State.rxDrop a0 a1 a2) := by
  unfold State.rxDrop
  exact State.raiseOf_keeps (hw.m rfl) (State.count_keeps (hw.m rfl) h1)

theorem State.rxUnmapped_keeps {ar : List Area} (hw : Within (Area.but [.host, .slp]) ar) {z a0 : State} {a1} {a2}
    (h1 : Keeps ar z a0) :
    Keeps ar z (State.rxUnmapped a0 a1 a2) := by
  unfold State.rxUnmapped
  extract_lets -underBinder -merge +onlyGivenNames v1
  have k2 : Keeps ar z v1 := keeps_ite (State.count_keeps (hw.m rfl) h1) h1
  clear_value v1
  extract_lets -underBinder -merge +onlyGivenNames v3
  have k4 : Keeps ar z v3 := State.each_keeps (fun v5 v6 k7 => State.tableReport_keeps (hw.m rfl) k7) k2
  clear_value v3
  extract_lets -underBinder -merge +onlyGivenNames v8
  have k9 : Keeps ar z v8 := State.count_keeps (hw.m rfl) k4
  clear_value v8
  exact keeps_ite k9 (State.raiseOf_keeps (hw.m rfl) (State.modBus_keeps (hw.m rfl) k9))

theorem State.rxCommit_keeps {ar : List Area} (hw : Within (Area.telling [.sig]) ar) {z a0 : State} {a1} {a2} {a3}
    (h1 : Keeps ar z a0) :
    Keeps ar z (State.rxCommit a0 a1 a2 a3) := by
  unfold State.rxCommit
  refine keeps_ite (State.rxDrop_keeps (hw.m rfl) h1) ?_
  refine keeps_ite h1 ?_
  extract_lets -underBinder -merge +onlyGivenNames v1
  have k2 : Keeps ar z v1 := keeps_ite h1 (State.count_keeps (hw.m rfl) h1)
  clear_value v1
  exact State.modSig_keeps (hw.m rfl) k2

theorem State.confirmWhole_keeps {ar : List Area} (hw : Within (Area.but [.host, .slp]) ar) {z a0 : State} {a1} (h1 :
    Keeps ar z a0) :
    Keeps ar z (State.confirmWhole a0 a1) := by
  unfold State.confirmWhole
  extract_lets -underBinder -merge +onlyGivenNames v1
  have k2 : Keeps ar z v1 := State.frameWhole_keeps (hw.m rfl) h1
  clear_value v1
  extract_lets -underBinder -merge +onlyGivenNames v3
  clear_value v3
  exact keeps_ite (State.toldFlush_keeps (hw.m rfl) (State.spoilFrame_keeps (hw.m rfl) (State.count_keeps (hw.m rfl)
      k2))) (keeps_ite
    (State.toldFlush_keeps (hw.m rfl) (State.spoilFrame_keeps (hw.m rfl) (State.count_keeps (hw.m rfl) k2)))
        (State.confirmFrame_keeps (hw.m rfl) k2))

theorem State.rxForward_keeps {ar : List Area} (hw : Within (Area.but [.host, .slp]) ar) {z a0 : State} {a1} {a2} (h1
    : Keeps ar z a0) :
    Keeps ar z (State.rxForward a0 a1 a2) := by
  unfold State.rxForward
  exact keeps_ite (State.rxDrop_keeps (hw.m rfl) h1) (State.confirmWhole_keeps (hw.m rfl) (State.modFrame_keeps (hw.m
      rfl) h1))

theorem State.mismatch_keeps {ar : List Area} (hw : Within (Area.telling [.twin]) ar) {z a0 : State} {a1} {a2} (h1 :
    Keeps ar z a0) :
    Keeps ar z (State.mismatch a0 a1 a2) := by
  unfold State.mismatch
  extract_lets -underBinder -merge +onlyGivenNames v1
  have k2 : Keeps ar z v1 := State.modTwin_keeps (hw.m rfl) h1
  clear_value v1
  exact keeps_ite k2 (State.raise_keeps (hw.m rfl) (State.modTwin_keeps (hw.m rfl) k2))

theorem State.shadow_keeps {ar : List Area} (hw : Within (Area.telling [.chans, .eth, .buses, .sw, .twin]) ar) {z a0
    : State} {a1} {a2} (h1 : Keeps ar z a0) :
    Keeps ar z (State.shadow a0 a1 a2) := by
  unfold State.shadow
  refine keeps_ite h1 ?_
  extract_lets -underBinder -merge +onlyGivenNames v1 v2 v3
  clear_value v1 v2 v3
  split
  · exact State.mismatch_keeps (hw.m rfl) (State.count_keeps (hw.m rfl) h1)
  · extract_lets -underBinder -merge +onlyGivenNames v4
    have k5 : Keeps ar z v4 := by
      unfold v4
      split
      · rename_i v6 v7 v8 e9
        exact State.bufDrop_keeps (hw.m rfl) h1
      · rename_i v11 v12 v13 e14 e15
        exact State.releaseRef_keeps (hw.m rfl) (State.deepTake_keeps (hw.m rfl) h1)
      · rename_i v17 v18 e19 e20
        exact h1
    clear_value v4
    exact State.refill_keeps (hw.m rfl) (State.modTwin_keeps (hw.m rfl) (State.count_keeps (hw.m rfl) k5))

theorem State.recAfterRx_keeps {ar : List Area} (hw : Within (Area.but [.host, .slp]) ar) {z a0 : State} {a1} (h1 :
    Keeps ar z a0) :
    Keeps ar z (State.recAfterRx a0 a1) := by
  unfold State.recAfterRx
  extract_lets -underBinder -merge +onlyGivenNames v1
  clear_value v1
  refine keeps_ite h1 ?_
  refine keeps_ite (State.busCounters_keeps (hw.m rfl) h1) ?_
  split
  rename_i v2 v3 v4 e5
  have k6 : Keeps ar z v4 := keeps_snd e5 (State.drawBelow_keeps h1)
  exact State.busCounters_keeps (hw.m rfl) k6

theorem State.busRxValid_keeps {ar : List Area} (hw : Within (Area.but [.host]) ar) {z a0 : State} {a1} {a2} (h1 :
    Keeps ar z a0) :
    Keeps ar z (State.busRxValid a0 a1 a2) := by
  unfold State.busRxValid
  extract_lets -underBinder -merge +onlyGivenNames v1
  have k2 : Keeps ar z v1 := State.count_keeps (hw.m rfl) (State.modBus_keeps (hw.m rfl) h1)
  clear_value v1
  extract_lets -underBinder -merge +onlyGivenNames v3
  have k4 : Keeps ar z v3 := State.shadow_keeps (hw.m rfl) (State.recAfterRx_keeps (hw.m rfl) (State.noackEnd_keeps
      (hw.m rfl) k2))
  clear_value v3
  extract_lets -underBinder -merge +onlyGivenNames v5
  have k6 : Keeps ar z v5 := keeps_ite (State.count_keeps (hw.m rfl) k4) (keeps_ite (State.count_keeps (hw.m rfl) k4)
      k4)
  clear_value v5
  extract_lets -underBinder -merge +onlyGivenNames v7
  have k8 : Keeps ar z v7 := keeps_ite k6 (State.heard_keeps (hw.m rfl) k6)
  clear_value v7
  refine keeps_ite ?_ (keeps_ite (keeps_ite (State.tqCommit_keeps (hw.m rfl) k8) (State.rxDrop_keeps (hw.m rfl) k8))
      (keeps_ite
    (State.rxForward_keeps (hw.m rfl) k8) k8))
  split
  · exact State.rxCommit_keeps (hw.m rfl) k8
  · exact State.rxUnmapped_keeps (hw.m rfl) k8

theorem execBusFrameValid_keeps {ar : List Area} (hw : Within (Area.but [.host]) ar) {z : State} {t : Nat} {a1} {s :
    State} (h : Keeps ar z (s.tick t)) :
    NextKeeps ar z (execBusFrameValid t a1 s) := by
  unfold execBusFrameValid
  extract_lets -underBinder -merge +onlyGivenNames v1
  have k2 : Keeps ar z v1 := h
  clear_value v1
  refine keeps_next ?_
  split
  · exact keeps_ite (State.busRxValid_keeps (hw.m rfl) k2) k2
  · exact k2

theorem State.attemptFail_keeps {ar : List Area} (hw : Within (Area.telling [.eth, .buses, .sw]) ar) {z a0 : State}
    {a1} {a2} {a3} {a4} {a5} (h1 : Keeps ar z a0) :
    Keeps ar z (State.attemptFail a0 a1 a2 a3 a4 a5) := by
  unfold State.attemptFail
  split
  · exact h1
  · extract_lets -underBinder -merge +onlyGivenNames v1
    have k2 : Keeps ar z v1 := keeps_ite (State.noackEnd_keeps (hw.m rfl) h1) (keeps_ite (State.noackCount_keeps
        (hw.m rfl) h1) h1)
    clear_value v1
    exact keeps_ite (State.count_keeps (hw.m rfl) (State.bufDrop_keeps (hw.m rfl) k2)) k2

theorem State.busStepUp_keeps {ar : List Area} (hw : Within (Area.but [.host, .slp]) ar) {z a0 : State} {a1} {a2}
    {a3} (h1 : Keeps ar z a0) :
    Keeps ar z (State.busStepUp a0 a1 a2 a3) := by
  unfold State.busStepUp
  extract_lets -underBinder -merge +onlyGivenNames v1
  clear_value v1
  exact keeps_ite h1 (keeps_ite (State.busCounters_keeps (hw.m rfl) h1) (State.busCounters_keeps (hw.m rfl) h1))

theorem State.busFail_keeps {ar : List Area} (hw : Within (Area.but [.host, .slp]) ar) {z a0 : State} {a1} {a2} {a3}
    {a4} {a5} (h1 : Keeps ar z a0) :
    Keeps ar z (State.busFail a0 a1 a2 a3 a4 a5) := by
  unfold State.busFail
  extract_lets -underBinder -merge +onlyGivenNames v1 v2
  clear_value v1 v2
  extract_lets -underBinder -merge +onlyGivenNames v3
  have k4 : Keeps ar z v3 := State.busRxSpoil_keeps (hw.m rfl) (State.count_keeps (hw.m rfl) h1)
  clear_value v3
  extract_lets -underBinder -merge +onlyGivenNames v5
  have k6 : Keeps ar z v5 := keeps_ite (State.modBus_keeps (hw.m rfl) k4) k4
  clear_value v5
  extract_lets -underBinder -merge +onlyGivenNames v7
  clear_value v7
  extract_lets -underBinder -merge +onlyGivenNames v8
  have k9 : Keeps ar z v8 := by
    unfold v8
    split
    · rename_i v10 v11
      exact State.modTx_keeps (hw.m rfl) k6
    · rename_i v13
      exact k6
  clear_value v8
  split
  rename_i v15 v16 v17 e18
  have k19 : Keeps ar z v17 := keeps_snd e18 (keeps_ite2 (State.drawBelow_keeps k9) (keeps_mk2 k9))
  extract_lets -underBinder -merge +onlyGivenNames v20
  have k21 : Keeps ar z v20 := State.busStepUp_keeps (hw.m rfl) k19
  clear_value v20
  extract_lets -underBinder -merge +onlyGivenNames v22
  have k23 : Keeps ar z v22 := by
    unfold v22
    split
    · rename_i v24 v25
      exact State.attemptFail_keeps (hw.m rfl) k21
    · rename_i v27
      exact k21
  clear_value v22
  exact State.toldFlush_keeps (hw.m rfl) (State.drainStep_keeps (hw.m rfl) (State.refill_keeps (hw.m rfl) k23))

theorem State.busAfterFlag_keeps {ar : List Area} (hw : Within (Area.but [.host, .slp]) ar) {z a0 : State} {a1} {a2}
    {a3} (h1 : Keeps ar z a0) :
    Keeps ar z (State.busAfterFlag a0 a1 a2 a3) := by
  unfold State.busAfterFlag
  refine keeps_ite h1 ?_
  extract_lets -underBinder -merge +onlyGivenNames v1
  have k2 : Keeps ar z v1 := keeps_ite (State.count_keeps (hw.m rfl) h1) h1
  clear_value v1
  exact State.drainStep_keeps (hw.m rfl) (State.refill_keeps (hw.m rfl) (State.busStepUp_keeps (hw.m rfl) k2))

theorem execBusError_keeps {ar : List Area} (hw : Within (Area.but [.host, .slp]) ar) {z : State} {t : Nat} {a1} {a2}
    {a3} {a4} {a5} {s : State} (h : Keeps ar z (s.tick t)) :
    NextKeeps ar z (execBusError t a1 a2 a3 a4 a5 s) := by
  unfold execBusError
  extract_lets -underBinder -merge +onlyGivenNames v1
  have k2 : Keeps ar z v1 := h
  clear_value v1
  refine keeps_next ?_
  refine keeps_ite k2 ?_
  split
  · exact keeps_ite k2 (State.busFail_keeps (hw.m rfl) k2)
  · exact keeps_ite k2 (State.busFail_keeps (hw.m rfl) k2)
  · exact State.busAfterFlag_keeps (hw.m rfl) k2

theorem State.busEvaluate_keeps {ar : List Area} (hw : Within (Area.but [.host, .slp]) ar) {z a0 : State} {a1} {a2}
    {a3} {a4} (h1 : Keeps ar z a0) :
    Keeps ar z (State.busEvaluate a0 a1 a2 a3 a4) := by
  unfold State.busEvaluate
  extract_lets -underBinder -merge +onlyGivenNames v1
  have k2 : Keeps ar z v1 := State.toldFlush_keeps (hw.m rfl) (State.busRxSpoil_keeps (hw.m rfl) h1)
  clear_value v1
  extract_lets -underBinder -merge +onlyGivenNames v3 v4
  clear_value v3 v4
  refine keeps_ite (keeps_ite (State.busEvent_keeps (hw.m rfl) (State.count_keeps (hw.m rfl) (State.modBus_keeps
      (hw.m rfl) k2))) (State.busFail_keeps (hw.m rfl)
    k2)) ?_
  split
  extract_lets -underBinder -merge +onlyGivenNames v5
  have k6 : Keeps ar z v5 := State.each_keeps (fun v7 v8 k9 => State.pulse_keeps (hw.m rfl) k9) k2
  clear_value v5
  split
  · exact State.rxTake_keeps (hw.m rfl) k6
  · exact State.rxTake_keeps (hw.m rfl) k6

theorem execBusFrameEvaluation_keeps {ar : List Area} (hw : Within (Area.but [.host, .slp]) ar) {z : State} {t : Nat}
    {a1} {a2} {a3} {a4} {s : State} (h : Keeps ar z (s.tick t)) :
    NextKeeps ar z (execBusFrameEvaluation t a1 a2 a3 a4 s) := by
  unfold execBusFrameEvaluation
  extract_lets -underBinder -merge +onlyGivenNames v1
  have k2 : Keeps ar z v1 := h
  clear_value v1
  exact keeps_next (keeps_ite (State.busEvaluate_keeps (hw.m rfl) k2) k2)

theorem State.busArbitrate_keeps {ar : List Area} (hw : Within (Area.but [.host, .slp]) ar) {z a0 : State} {a1} {a2}
    (h1 : Keeps ar z a0) :
    Keeps ar z (State.busArbitrate a0 a1 a2) := by
  unfold State.busArbitrate
  extract_lets -underBinder -merge +onlyGivenNames v1
  have k2 : Keeps ar z v1 := State.refill_keeps (hw.m rfl) (State.bufAge_keeps (hw.m rfl) h1)
  clear_value v1
  split
  · exact State.drainStep_keeps (hw.m rfl) k2
  · exact keeps_ite (State.count_keeps (hw.m rfl) k2) (State.modTx_keeps (hw.m rfl) k2)

theorem execBusArbitrationStart_keeps {ar : List Area} (hw : Within (Area.but [.host, .slp]) ar) {z : State} {t :
    Nat} {a1} {a2} {s : State} (h : Keeps ar z (s.tick t)) :
    NextKeeps ar z (execBusArbitrationStart t a1 a2 s) := by
  unfold execBusArbitrationStart
  extract_lets -underBinder -merge +onlyGivenNames v1
  have k2 : Keeps ar z v1 := h
  clear_value v1
  exact keeps_next (keeps_ite (State.busArbitrate_keeps (hw.m rfl) k2) k2)

theorem State.busSent_keeps {ar : List Area} (hw : Within (Area.but [.host, .slp]) ar) {z a0 : State} {a1} {a2} {a3}
    (h1 : Keeps ar z a0) :
    Keeps ar z (State.busSent a0 a1 a2 a3) := by
  unfold State.busSent
  extract_lets -underBinder -merge +onlyGivenNames v1 v2
  clear_value v1 v2
  extract_lets -underBinder -merge +onlyGivenNames v3
  have k4 : Keeps ar z v3 := State.count_keeps (hw.m rfl) (State.send_keeps h1)
  clear_value v3
  extract_lets -underBinder -merge +onlyGivenNames v5
  have k6 : Keeps ar z v5 := State.bufDrop_keeps (hw.m rfl) (State.noackEnd_keeps (hw.m rfl) k4)
  clear_value v5
  extract_lets -underBinder -merge +onlyGivenNames v7
  have k8 : Keeps ar z v7 := State.busCounters_keeps (hw.m rfl) k6
  clear_value v7
  exact State.drainStep_keeps (hw.m rfl) (State.refill_keeps (hw.m rfl) k8)

theorem execBusTxValid_keeps {ar : List Area} (hw : Within (Area.but [.host, .slp]) ar) {z : State} {t : Nat} {a1} {s
    : State} (h : Keeps ar z (s.tick t)) :
    NextKeeps ar z (execBusTxValid t a1 s) := by
  unfold execBusTxValid
  extract_lets -underBinder -merge +onlyGivenNames v1
  have k2 : Keeps ar z v1 := h
  clear_value v1
  extract_lets -underBinder -merge +onlyGivenNames v3
  clear_value v3
  refine keeps_next ?_
  split
  · exact k2
  · split
    · exact keeps_ite (State.busSent_keeps (hw.m rfl) k2) k2
    · exact k2

theorem execBusRecoveryOccurrence_keeps {ar : List Area} (hw : Within (Area.telling [.chans, .eth, .buses, .sw]) ar)
    {z : State} {t : Nat} {a1} {s : State} (h : Keeps ar z (s.tick t)) :
    NextKeeps ar z (execBusRecoveryOccurrence t a1 s) := by
  unfold execBusRecoveryOccurrence
  extract_lets -underBinder -merge +onlyGivenNames v1
  have k2 : Keeps ar z v1 := h
  clear_value v1
  extract_lets -underBinder -merge +onlyGivenNames v3
  clear_value v3
  refine keeps_next ?_
  refine keeps_ite k2 ?_
  extract_lets -underBinder -merge +onlyGivenNames v4
  have k5 : Keeps ar z v4 := State.modBus_keeps (hw.m rfl) k2
  clear_value v4
  exact keeps_ite k5 (State.busOn_keeps (hw.m rfl) k5)

theorem execStuckDominant_keeps {ar : List Area} (hw : Within (Area.telling [.buses]) ar) {z : State} {t : Nat} {a1}
    {s : State} (h : Keeps ar z (s.tick t)) :
    NextKeeps ar z (execStuckDominant t a1 s) := by
  unfold execStuckDominant
  extract_lets -underBinder -merge +onlyGivenNames v1
  have k2 : Keeps ar z v1 := h
  clear_value v1
  extract_lets -underBinder -merge +onlyGivenNames v3
  clear_value v3
  exact keeps_next (keeps_ite k2 (State.busEvent_keeps (hw.m rfl) (State.count_keeps (hw.m rfl) (State.modBus_keeps
      (hw.m rfl) k2))))

theorem State.busIntegrated_keeps {ar : List Area} (hw : Within (Area.telling [.chans, .eth, .buses, .sw]) ar) {z a0
    : State} {a1} (h1 : Keeps ar z a0) :
    Keeps ar z (State.busIntegrated a0 a1) := by
  unfold State.busIntegrated
  extract_lets -underBinder -merge +onlyGivenNames v1 v2
  clear_value v1 v2
  extract_lets -underBinder -merge +onlyGivenNames v3
  have k4 : Keeps ar z v3 := State.busModeSet_keeps (hw.m rfl) (State.modBus_keeps (hw.m rfl) h1)
  clear_value v3
  extract_lets -underBinder -merge +onlyGivenNames v5
  have k6 : Keeps ar z v5 := keeps_ite (State.busEvent_keeps (hw.m rfl) k4) k4
  clear_value v5
  extract_lets -underBinder -merge +onlyGivenNames v7
  have k8 : Keeps ar z v7 := keeps_ite (State.bufReturnAll_keeps (hw.m rfl) k6) k6
  clear_value v7
  exact State.refill_keeps (hw.m rfl) k8

theorem execBusIntegrationDone_keeps {ar : List Area} (hw : Within (Area.telling [.chans, .eth, .buses, .sw]) ar) {z
    : State} {t : Nat} {a1} {s : State} (h : Keeps ar z (s.tick t)) :
    NextKeeps ar z (execBusIntegrationDone t a1 s) := by
  unfold execBusIntegrationDone
  extract_lets -underBinder -merge +onlyGivenNames v1
  have k2 : Keeps ar z v1 := h
  clear_value v1
  extract_lets -underBinder -merge +onlyGivenNames v3
  clear_value v3
  refine keeps_next ?_
  refine keeps_ite k2 ?_
  extract_lets -underBinder -merge +onlyGivenNames v4
  have k5 : Keeps ar z v4 := State.modBus_keeps (hw.m rfl) k2
  clear_value v4
  exact keeps_ite (State.busIntegrated_keeps (hw.m rfl) k5) k5

theorem State.freezeCut_keeps {ar : List Area} (hw : Within [.buses] ar) {z a0 : State} {a1} (h1 : Keeps ar z a0) :
    Keeps ar z (State.freezeCut a0 a1) := by
  unfold State.freezeCut
  split
  · exact keeps_ite (State.modTx_keeps (hw.m rfl) h1) h1
  · exact h1

theorem execBusModeEffect_keeps {ar : List Area} (hw : Within (Area.telling [.chans, .eth, .buses, .sw]) ar) {z :
    State} {t : Nat} {a1} {s : State} (h : Keeps ar z (s.tick t)) :
    NextKeeps ar z (execBusModeEffect t a1 s) := by
  unfold execBusModeEffect
  extract_lets -underBinder -merge +onlyGivenNames v1
  have k2 : Keeps ar z v1 := State.freezeCut_keeps (hw.m rfl) h
  clear_value v1
  extract_lets -underBinder -merge +onlyGivenNames v3
  clear_value v3
  refine keeps_next ?_
  split
  · exact k2
  · refine keeps_ite k2 ?_
    extract_lets -underBinder -merge +onlyGivenNames v4
    have k5 : Keeps ar z v4 := State.busModeSet_keeps (hw.m rfl) k2
    clear_value v4
    exact State.refill_keeps (hw.m rfl) (keeps_ite (State.bufReturnAll_keeps (hw.m rfl) k5) k5)

theorem execDrainLimitExpiry_keeps {ar : List Area} (hw : Within (Area.but [.host, .slp]) ar) {z : State} {t : Nat}
    {a1} {s : State} (h : Keeps ar z (s.tick t)) :
    NextKeeps ar z (execDrainLimitExpiry t a1 s) := by
  unfold execDrainLimitExpiry
  extract_lets -underBinder -merge +onlyGivenNames v1
  have k2 : Keeps ar z v1 := h
  clear_value v1
  extract_lets -underBinder -merge +onlyGivenNames v3
  clear_value v3
  refine keeps_next ?_
  split
  · exact k2
  · exact State.drainStep_keeps (hw.m rfl) (keeps_ite (State.modTx_keeps (hw.m rfl) k2) k2)

theorem effectSwPoolConfig_keeps {ar : List Area} (hw : Within (Area.telling [.eth, .buses, .sw]) ar) {z a0 : State}
    {a1} (h1 : Keeps ar z a0) :
    Keeps ar z (effectSwPoolConfig a0 a1).1 := by
  unfold effectSwPoolConfig
  extract_lets -underBinder -merge +onlyGivenNames v1
  have k2 : Keeps ar z v1 := State.each_keeps (fun v3 v4 k5 => State.modPool_keeps (hw.m rfl) k5) h1
  clear_value v1
  extract_lets -underBinder -merge +onlyGivenNames v6
  have k7 : Keeps ar z v6 := State.each_keeps (fun v8 v9 k10 => State.modPort_keeps (hw.m rfl) k10) k2
  clear_value v6
  extract_lets -underBinder -merge +onlyGivenNames v11
  have k12 : Keeps ar z v11 := State.each_keeps (fun v13 v14 k15 => State.modTx_keeps (hw.m rfl) k15) k7
  clear_value v11
  exact keeps_mk1 (State.each_keeps (fun v16 v17 k18 => State.poolJudge_keeps (hw.m rfl) k18) k12)

theorem execSwPoolConfig_keeps {ar : List Area} (hw : Within (Area.telling [.windows, .mbx, .eth, .buses, .sw, .cw,
    .boot]) ar) {z : State} {t : Nat} {a1} {s : State} (h : Keeps ar z (s.tick t)) :
    NextKeeps ar z (execSwPoolConfig t a1 s) := by
  unfold execSwPoolConfig
  exact keeps_next (State.simple_keeps (hw.m rfl) h (fun v1 v2 k3 => effectSwPoolConfig_keeps (hw.m rfl) k3))

theorem effectSwClassConfig_keeps {ar : List Area} (hw : Within [.sw] ar) {z a0 : State} {a1} (h1 : Keeps ar z a0) :
    Keeps ar z (effectSwClassConfig a0 a1).1 := by
  unfold effectSwClassConfig
  exact keeps_mk1 (State.modSw_keeps (hw.m rfl) h1)

theorem execSwClassConfig_keeps {ar : List Area} (hw : Within (Area.telling [.windows, .mbx, .sw, .cw, .boot]) ar) {z
    : State} {t : Nat} {a1} {s : State} (h : Keeps ar z (s.tick t)) :
    NextKeeps ar z (execSwClassConfig t a1 s) := by
  unfold execSwClassConfig
  exact keeps_next (State.simple_keeps (hw.m rfl) h (fun v1 v2 k3 => effectSwClassConfig_keeps (hw.m rfl) k3))

theorem effectSwPortConfig_keeps {ar : List Area} (hw : Within [.eth, .links, .buses, .sw] ar) {z a0 : State} {a1}
    (h1 : Keeps ar z a0) :
    Keeps ar z (effectSwPortConfig a0 a1).1 := by
  unfold effectSwPortConfig
  extract_lets -underBinder -merge +onlyGivenNames v1
  clear_value v1
  exact keeps_ite1 (keeps_mk1 (State.modPort_keeps (hw.m rfl) h1)) (keeps_ite1 (keeps_mk1 (State.modTx_keeps (hw.m
      rfl) h1)) (keeps_mk1
    (State.modSw_keeps (hw.m rfl) h1)))

theorem execSwPortConfig_keeps {ar : List Area} (hw : Within (Area.telling [.windows, .mbx, .eth, .buses, .sw, .cw,
    .boot]) ar) {z : State} {t : Nat} {a1} {s : State} (h : Keeps ar z (s.tick t)) :
    NextKeeps ar z (execSwPortConfig t a1 s) := by
  unfold execSwPortConfig
  exact keeps_next (State.simple_keeps (hw.m rfl) h (fun v1 v2 k3 => effectSwPortConfig_keeps (hw.m rfl) k3))

theorem effectSwSchedConfig_keeps {ar : List Area} (hw : Within [.eth, .links] ar) {z a0 : State} {a1} (h1 : Keeps ar
    z a0) :
    Keeps ar z (effectSwSchedConfig a0 a1).1 := by
  unfold effectSwSchedConfig
  extract_lets -underBinder -merge +onlyGivenNames v1 v2
  clear_value v1 v2
  exact keeps_mk1 (State.modPort_keeps (hw.m rfl) (State.creditRun_keeps (hw.m rfl) h1))

theorem execSwSchedConfig_keeps {ar : List Area} (hw : Within (Area.telling [.windows, .mbx, .eth, .cw, .boot]) ar)
    {z : State} {t : Nat} {a1} {s : State} (h : Keeps ar z (s.tick t)) :
    NextKeeps ar z (execSwSchedConfig t a1 s) := by
  unfold execSwSchedConfig
  exact keeps_next (State.simple_keeps (hw.m rfl) h (fun v1 v2 k3 => effectSwSchedConfig_keeps (hw.m rfl) k3))

theorem execSwStatus_keeps {ar : List Area} (hw : Within (Area.telling [.windows, .mbx, .cw, .boot]) ar) {z : State}
    {t : Nat} {a1} {s : State} (h : Keeps ar z (s.tick t)) :
    NextKeeps ar z (execSwStatus t a1 s) := by
  unfold execSwStatus
  exact keeps_next (State.query_keeps (hw.m rfl) h)

theorem effectSigMapLoad_keeps {ar : List Area} (hw : Within [.sig] ar) {z a0 : State} {a1} (h1 : Keeps ar z a0) :
    Keeps ar z (effectSigMapLoad a0 a1).1 := by
  unfold effectSigMapLoad
  extract_lets -underBinder -merge +onlyGivenNames v1 v2
  clear_value v1 v2
  exact keeps_mk1 (State.modSig_keeps (hw.m rfl) h1)

theorem execSigMapLoad_keeps {ar : List Area} (hw : Within (Area.telling [.windows, .mbx, .sig, .cw, .boot]) ar) {z :
    State} {t : Nat} {a1} {s : State} (h : Keeps ar z (s.tick t)) :
    NextKeeps ar z (execSigMapLoad t a1 s) := by
  unfold execSigMapLoad
  exact keeps_next (State.simple_keeps (hw.m rfl) h (fun v1 v2 k3 => effectSigMapLoad_keeps (hw.m rfl) k3))

theorem State.slotsDrop_keeps {ar : List Area} (hw : Within [.sig] ar) {z a0 : State} {a1} (h1 : Keeps ar z a0) :
    Keeps ar z (State.slotsDrop a0 a1) := by
  unfold State.slotsDrop
  exact State.each_keeps (fun v1 v2 k3 => State.slotReset_keeps (hw.m rfl) k3) h1

theorem State.mapExpire_keeps {ar : List Area} (hw : Within (Area.telling [.buses, .sw, .sig, .sec]) ar) {z a0 :
    State} {a1} (h1 : Keeps ar z a0) :
    Keeps ar z (State.mapExpire a0 a1) := by
  unfold State.mapExpire
  extract_lets -underBinder -merge +onlyGivenNames v1 v2
  clear_value v1 v2
  extract_lets -underBinder -merge +onlyGivenNames v3
  have k4 : Keeps ar z v3 := State.each_keeps (fun v5 v6 k7 => State.secFree_keeps (hw.m rfl) (State.specEnd_keeps
      (hw.m rfl) k7)) h1
  clear_value v3
  extract_lets -underBinder -merge +onlyGivenNames v8
  have k9 : Keeps ar z v8 := by
    unfold v8
    refine State.each_keeps ?_ k4
    intro v10 v11 k12
    split
    · refine keeps_ite ?_ k12
      extract_lets -underBinder -merge +onlyGivenNames v13
      have k14 : Keeps ar z v13 := by
        unfold v13
        split
        · exact State.engineRelease_keeps (hw.m rfl) k12
        · exact k12
      clear_value v13
      exact State.modBus_keeps (hw.m rfl) (State.specEnd_keeps (hw.m rfl) k14)
    · exact k12
  clear_value v8
  extract_lets -underBinder -merge +onlyGivenNames v15
  have k16 : Keeps ar z v15 := State.each_keeps (fun v17 v18 k19 => keeps_ite (State.modFrame_keeps (hw.m rfl)
      (State.specEnd_keeps (hw.m rfl)
    k19)) k19) k9
  clear_value v15
  extract_lets -underBinder -merge +onlyGivenNames v20
  have k21 : Keeps ar z v20 := State.slotsDrop_keeps (hw.m rfl) (State.modSig_keeps (hw.m rfl) k16)
  clear_value v20
  exact keeps_ite k21 (State.raiseOf_keeps (hw.m rfl) (State.count_keeps (hw.m rfl) k21))

theorem execMapVersionExpiry_keeps {ar : List Area} (hw : Within (Area.telling [.buses, .sw, .sig, .sec]) ar) {z :
    State} {t : Nat} {s : State} (h : Keeps ar z (s.tick t)) :
    NextKeeps ar z (execMapVersionExpiry t s) := by
  unfold execMapVersionExpiry
  extract_lets -underBinder -merge +onlyGivenNames v1
  have k2 : Keeps ar z v1 := h
  clear_value v1
  refine keeps_next ?_
  split
  · exact keeps_ite (State.mapExpire_keeps (hw.m rfl) k2) k2
  · exact k2

theorem State.mapSwitch_keeps {ar : List Area} (hw : Within [.sig] ar) {z a0 : State} {a1} (h1 : Keeps ar z a0) :
    Keeps ar z (State.mapSwitch a0 a1) := by
  unfold State.mapSwitch
  extract_lets -underBinder -merge +onlyGivenNames v1 v2
  clear_value v1 v2
  extract_lets -underBinder -merge +onlyGivenNames v3
  have k4 : Keeps ar z v3 := State.modSig_keeps (hw.m rfl) h1
  clear_value v3
  exact State.each_keeps (fun v5 v6 k7 => State.slotReset_keeps (hw.m rfl) k7) k4

theorem effectSigMapCommit_keeps {ar : List Area} (hw : Within (Area.telling [.sig, .sec]) ar) {z a0 : State} {a1}
    (h1 : Keeps ar z a0) :
    Keeps ar z (effectSigMapCommit a0 a1).1 := by
  unfold effectSigMapCommit
  extract_lets -underBinder -merge +onlyGivenNames v1 v2
  clear_value v1 v2
  refine keeps_ite1 (keeps_mk1 h1) ?_
  extract_lets -underBinder -merge +onlyGivenNames v3
  clear_value v3
  refine keeps_ite1 (keeps_mk1 h1) ?_
  extract_lets -underBinder -merge +onlyGivenNames v4
  have k5 : Keeps ar z v4 := State.modSig_keeps (hw.m rfl) (State.mapSwitch_keeps (hw.m rfl) h1)
  clear_value v4
  exact keeps_mk1 (State.raiseOf_keeps (hw.m rfl) (State.spanOut_keeps (hw.m rfl) k5))

theorem execSigMapCommit_keeps {ar : List Area} (hw : Within (Area.telling [.windows, .mbx, .buses, .sw, .sig, .sec,
    .cw, .boot]) ar) {z : State} {t : Nat} {a1} {a2} {s : State} (h : Keeps ar z (s.tick t)) :
    NextKeeps ar z (execSigMapCommit t a1 a2 s) := by
  unfold execSigMapCommit
  refine keeps_next ?_
  refine State.command_keeps (hw.m rfl) h ?_
  intro v1 v2 k3
  split
  · exact State.complete_keeps (hw.m rfl) k3
  · extract_lets -underBinder -merge +onlyGivenNames v4 v5
    clear_value v4 v5
    refine keeps_ite (State.complete_keeps (hw.m rfl) k3) ?_
    extract_lets -underBinder -merge +onlyGivenNames v6
    have k7 : Keeps ar z v6 := by
      unfold v6
      split
      · exact keeps_ite (State.mapExpire_keeps (hw.m rfl) k3) k3
      · exact k3
    clear_value v6
    refine keeps_ite (State.prepares_keeps (hw.m rfl) k7) ?_
    split
    · exact State.prepares_keeps (hw.m rfl) k7
    · exact State.complete_keeps (hw.m rfl) k7
    · extract_lets -underBinder -merge +onlyGivenNames v8
      clear_value v8
      split
      rename_i v9 v10 v11 e12
      have k13 : Keeps ar z v10 := keeps_fst e12 (effectSigMapCommit_keeps (hw.m rfl) k7)
      exact keeps_ite (State.complete_keeps (hw.m rfl) k13) (State.commitFinish_keeps (hw.m rfl) k13)

theorem State.overrunOne_keeps {ar : List Area} (hw : Within (Area.telling [.sig, .sec]) ar) {z a0 : State} (h1 :
    Keeps ar z a0) :
    Keeps ar z (State.overrunOne a0) := by
  unfold State.overrunOne
  split
  · exact h1
  · extract_lets -underBinder -merge +onlyGivenNames v1
    have k2 : Keeps ar z v1 := State.modSig_keeps (hw.m rfl) h1
    clear_value v1
    extract_lets -underBinder -merge +onlyGivenNames v3
    have k4 : Keeps ar z v3 := State.modSec_keeps (hw.m rfl) k2
    clear_value v3
    exact State.raiseOf_keeps (hw.m rfl) (State.count_keeps (hw.m rfl) (State.secFree_keeps (hw.m rfl)
        (State.specEnd_keeps (hw.m rfl) k4)))

theorem State.overrunAll_keeps {ar : List Area} (hw : Within (Area.telling [.sig, .sec]) ar) {z a0 : State} (h1 :
    Keeps ar z a0) :
    Keeps ar z (State.overrunAll a0) := by
  unfold State.overrunAll
  exact State.each_keeps (fun v1 v2 k3 => State.overrunOne_keeps (hw.m rfl) k3) h1

theorem State.commitNext_keeps {ar : List Area} (hw : Within (Area.telling [.sig, .sec]) ar) {z a0 : State} (h1 :
    Keeps ar z a0) :
    Keeps ar z (State.commitNext a0) := by
  unfold State.commitNext
  split
  · exact h1
  · exact keeps_ite h1 (State.commitWait_keeps (hw.m rfl) (State.modSig_keeps (hw.m rfl) h1))

theorem State.commitAll_keeps {ar : List Area} (hw : Within (Area.telling [.sig, .sec]) ar) {z a0 : State} (h1 :
    Keeps ar z a0) :
    Keeps ar z (State.commitAll a0) := by
  unfold State.commitAll
  exact State.each_keeps (fun v1 v2 k3 => State.commitNext_keeps (hw.m rfl) k3) (State.overrunAll_keeps (hw.m rfl) h1)

theorem execSigRead_keeps {ar : List Area} (hw : Within (Area.telling [.windows, .mbx, .cw, .boot]) ar) {z : State}
    {t : Nat} {a1} {s : State} (h : Keeps ar z (s.tick t)) :
    NextKeeps ar z (execSigRead t a1 s) := by
  unfold execSigRead
  exact keeps_next (State.query_keeps (hw.m rfl) h)

theorem effectSigWrite_keeps {ar : List Area} (hw : Within (Area.telling [.chans, .eth, .buses, .sw, .sig, .tide,
    .sec]) ar) {z a0 : State} {a1} (h1 : Keeps ar z a0) :
    Keeps ar z (effectSigWrite a0 a1).1 := by
  unfold effectSigWrite
  extract_lets -underBinder -merge +onlyGivenNames v1
  have k2 : Keeps ar z v1 := State.commitAll_keeps (hw.m rfl) h1
  clear_value v1
  extract_lets -underBinder -merge +onlyGivenNames v3
  clear_value v3
  extract_lets -underBinder -merge +onlyGivenNames v4
  have k5 : Keeps ar z v4 := State.each_keeps (fun v6 v7 k8 => State.hostValue_keeps (hw.m rfl) k8) k2
  clear_value v4
  extract_lets -underBinder -merge +onlyGivenNames v9
  clear_value v9
  exact keeps_mk1 (State.fireFlush_keeps (hw.m rfl) (State.changes_keeps (hw.m rfl) k5))

theorem execSigWrite_keeps {ar : List Area} (hw : Within (Area.telling [.windows, .mbx, .chans, .eth, .buses, .sw,
    .sig, .tide, .sec, .cw, .boot]) ar) {z : State} {t : Nat} {a1} {s : State} (h : Keeps ar z (s.tick t)) :
    NextKeeps ar z (execSigWrite t a1 s) := by
  unfold execSigWrite
  exact keeps_next (State.fireFlush_keeps (hw.m rfl) (State.simple_keeps (hw.m rfl) h (fun v1 v2 k3 =>
      effectSigWrite_keeps (hw.m rfl) k3)))

theorem effectSigTriggerFire_keeps {ar : List Area} (hw : Within (Area.telling [.chans, .eth, .buses, .sw, .sig,
    .tide, .sec]) ar) {z a0 : State} {a1} (h1 : Keeps ar z a0) :
    Keeps ar z (effectSigTriggerFire a0 a1).1 := by
  unfold effectSigTriggerFire
  exact keeps_mk1 (State.fireFlush_keeps (hw.m rfl) (State.fireDue_keeps (hw.m rfl) h1))

theorem execSigTriggerFire_keeps {ar : List Area} (hw : Within (Area.telling [.windows, .mbx, .chans, .eth, .buses,
    .sw, .sig, .tide, .sec, .cw, .boot]) ar) {z : State} {t : Nat} {a1} {s : State} (h : Keeps ar z (s.tick t)) :
    NextKeeps ar z (execSigTriggerFire t a1 s) := by
  unfold execSigTriggerFire
  exact keeps_next (State.fireFlush_keeps (hw.m rfl) (State.simple_keeps (hw.m rfl) h (fun v1 v2 k3 =>
      effectSigTriggerFire_keeps (hw.m rfl) k3)))

theorem execSigStatus_keeps {ar : List Area} (hw : Within (Area.telling [.windows, .mbx, .sig, .cw, .boot]) ar) {z :
    State} {t : Nat} {a1} {s : State} (h : Keeps ar z (s.tick t)) :
    NextKeeps ar z (execSigStatus t a1 s) := by
  unfold execSigStatus
  exact keeps_next (State.query_keeps (hw.m rfl) h)

theorem execSourceFrameCommit_keeps {ar : List Area} (hw : Within (Area.telling [.chans, .eth, .buses, .sw, .sig,
    .tide, .sec]) ar) {z : State} {t : Nat} {s : State} (h : Keeps ar z (s.tick t)) :
    NextKeeps ar z (execSourceFrameCommit t s) := by
  unfold execSourceFrameCommit
  extract_lets -underBinder -merge +onlyGivenNames v1
  have k2 : Keeps ar z v1 := State.overrunAll_keeps (hw.m rfl) h
  clear_value v1
  exact keeps_next (keeps_ite (State.fireFlush_keeps (hw.m rfl) (State.commitNext_keeps (hw.m rfl) k2)) k2)

theorem execSignalOverrun_keeps {ar : List Area} (hw : Within (Area.telling [.sig, .sec]) ar) {z : State} {t : Nat}
    {s : State} (h : Keeps ar z (s.tick t)) :
    NextKeeps ar z (execSignalOverrun t s) := by
  unfold execSignalOverrun
  exact keeps_next (State.overrunOne_keeps (hw.m rfl) h)

theorem execFreshnessExpiry_keeps {ar : List Area} (hw : Within (Area.telling [.chans, .eth, .buses, .sw, .sig,
    .tide, .sec]) ar) {z : State} {t : Nat} {a1} {s : State} (h : Keeps ar z (s.tick t)) :
    NextKeeps ar z (execFreshnessExpiry t a1 s) := by
  unfold execFreshnessExpiry
  extract_lets -underBinder -merge +onlyGivenNames v1
  have k2 : Keeps ar z v1 := h
  clear_value v1
  exact keeps_next (keeps_ite (State.fireFlush_keeps (hw.m rfl) (State.modSig_keeps (hw.m rfl) k2)) k2)

theorem execTriggerGapEnd_keeps {ar : List Area} (hw : Within (Area.telling [.chans, .eth, .buses, .sw, .sig, .tide,
    .sec]) ar) {z : State} {t : Nat} {a1} {s : State} (h : Keeps ar z (s.tick t)) :
    NextKeeps ar z (execTriggerGapEnd t a1 s) := by
  unfold execTriggerGapEnd
  extract_lets -underBinder -merge +onlyGivenNames v1
  have k2 : Keeps ar z v1 := h
  clear_value v1
  refine keeps_next ?_
  split
  · exact State.fireFlush_keeps (hw.m rfl) k2
  · exact keeps_ite k2 (keeps_ite (State.fireFlush_keeps (hw.m rfl) (State.fireDue_keeps (hw.m rfl) k2))
      (State.fireFlush_keeps (hw.m rfl) k2))

theorem State.rxNoEngine_keeps {ar : List Area} (hw : Within [.buses, .sig, .sec] ar) {z a0 : State} {a1} (h1 : Keeps
    ar z a0) :
    Keeps ar z (State.rxNoEngine a0 a1) := by
  unfold State.rxNoEngine
  extract_lets -underBinder -merge +onlyGivenNames v1 v2
  clear_value v1 v2
  refine keeps_ite h1 ?_
  extract_lets -underBinder -merge +onlyGivenNames v3
  have k4 : Keeps ar z v3 := State.modBus_keeps (hw.m rfl) h1
  clear_value v3
  extract_lets -underBinder -merge +onlyGivenNames v5
  have k6 : Keeps ar z v5 := State.modSig_keeps (hw.m rfl) k4
  clear_value v5
  exact State.modSec_keeps (hw.m rfl) k6

theorem State.txNoEngine_keeps {ar : List Area} (hw : Within (Area.telling [.sig, .sec]) ar) {z a0 : State} {a1} (h1
    : Keeps ar z a0) :
    Keeps ar z (State.txNoEngine a0 a1) := by
  unfold State.txNoEngine
  exact State.each_keeps (fun v1 v2 k3 => State.secNoEngine_keeps (hw.m rfl) (State.modSec_keeps (hw.m rfl)
      (State.modSig_keeps (hw.m rfl) k3))) h1

theorem execSecWaitExpiry_keeps {ar : List Area} (hw : Within (Area.telling [.buses, .sig, .sec]) ar) {z : State} {t
    : Nat} {a1} {s : State} (h : Keeps ar z (s.tick t)) :
    NextKeeps ar z (execSecWaitExpiry t a1 s) := by
  unfold execSecWaitExpiry
  exact keeps_next (State.txNoEngine_keeps (hw.m rfl) (State.rxNoEngine_keeps (hw.m rfl) h))

end Sys2Proof.Machine
end

