-- ==== Sys2Proof/Laws/KeepsDma.lean ====
section
/-! SUPPORT. What the operations of Dma, Faults, Lap, Twin keep, and which areas they may move. -/

set_option Elab.async false

namespace Sys2Proof.Machine

open Sys2Proof

theorem effectDmaRingConfig_keeps {ar : List Area} (hw : Within [.tide] ar) {z a0 : State} {a1} (h1 : Keeps ar z a0) :
    Keeps ar z (effectDmaRingConfig a0 a1).1 := by
  unfold effectDmaRingConfig
  exact keeps_mk1 (State.modRing_keeps (hw.m rfl) h1)

theorem execDmaRingConfig_keeps {ar : List Area} (hw : Within (Area.telling [.windows, .mbx, .tide, .cw, .boot]) ar)
    {z : State} {t : Nat} {a1} {s : State} (h : Keeps ar z (s.tick t)) :
    NextKeeps ar z (execDmaRingConfig t a1 s) := by
  unfold execDmaRingConfig
  exact keeps_next (State.simple_keeps (hw.m rfl) h (fun v1 v2 k3 => effectDmaRingConfig_keeps (hw.m rfl) k3))

theorem effectDmaRingEnable_keeps {ar : List Area} (hw : Within [.tide] ar) {z a0 : State} {a1} (h1 : Keeps ar z a0) :
    Keeps ar z (effectDmaRingEnable a0 a1).1 := by
  unfold effectDmaRingEnable
  exact keeps_mk1 (State.modRing_keeps (hw.m rfl) h1)

theorem execDmaRingEnable_keeps {ar : List Area} (hw : Within (Area.telling [.windows, .mbx, .tide, .cw, .boot]) ar)
    {z : State} {t : Nat} {a1} {s : State} (h : Keeps ar z (s.tick t)) :
    NextKeeps ar z (execDmaRingEnable t a1 s) := by
  unfold execDmaRingEnable
  exact keeps_next (State.simple_keeps (hw.m rfl) h (fun v1 v2 k3 => effectDmaRingEnable_keeps (hw.m rfl) k3))

theorem effectDmaRingDisable_keeps {ar : List Area} (hw : Within [.tide] ar) {z a0 : State} {a1} (h1 : Keeps ar z a0) :
    Keeps ar z (effectDmaRingDisable a0 a1).1 := by
  unfold effectDmaRingDisable
  extract_lets -underBinder -merge +onlyGivenNames v1
  clear_value v1
  exact keeps_mk1 (keeps_ite h1 (State.ringStop_keeps (hw.m rfl) h1))

theorem execDmaRingDisable_keeps {ar : List Area} (hw : Within (Area.telling [.windows, .mbx, .tide, .cw, .boot]) ar)
    {z : State} {t : Nat} {a1} {s : State} (h : Keeps ar z (s.tick t)) :
    NextKeeps ar z (execDmaRingDisable t a1 s) := by
  unfold execDmaRingDisable
  exact keeps_next (State.simple_keeps (hw.m rfl) h (fun v1 v2 k3 => effectDmaRingDisable_keeps (hw.m rfl) k3))

theorem State.ringTail_keeps {ar : List Area} (hw : Within [.tide] ar) {z a0 : State} {a1} {a2} (h1 : Keeps ar z a0) :
    Keeps ar z (State.ringTail a0 a1 a2) := by
  unfold State.ringTail
  refine keeps_ite h1 ?_
  extract_lets -underBinder -merge +onlyGivenNames v1
  clear_value v1
  refine keeps_ite (State.modRing_keeps (hw.m rfl) h1) ?_
  extract_lets -underBinder -merge +onlyGivenNames v2
  have k3 : Keeps ar z v2 := State.modRing_keeps (hw.m rfl) h1
  clear_value v2
  extract_lets -underBinder -merge +onlyGivenNames v4
  clear_value v4
  exact keeps_ite (State.modRing_keeps (hw.m rfl) k3) k3

theorem execRingTailWrite_keeps {ar : List Area} (hw : Within [.tide] ar) {z : State} {t : Nat} {a1} {a2} {s : State}
    (h : Keeps ar z (s.tick t)) :
    NextKeeps ar z (execRingTailWrite t a1 a2 s) := by
  unfold execRingTailWrite
  exact keeps_next (State.hostWrites_keeps h (fun v1 k2 => State.ringTail_keeps (hw.m rfl) k2))

theorem State.ringAnnounce_keeps {ar : List Area} (hw : Within (Area.telling [.tide]) ar) {z a0 : State} {a1} (h1 :
    Keeps ar z a0) :
    Keeps ar z (State.ringAnnounce a0 a1) := by
  unfold State.ringAnnounce
  exact State.raiseOf_keeps (hw.m rfl) (State.modRing_keeps (hw.m rfl) h1)

theorem State.ringNote_keeps {ar : List Area} (hw : Within (Area.telling [.tide]) ar) {z a0 : State} {a1} {a2} (h1 :
    Keeps ar z a0) :
    Keeps ar z (State.ringNote a0 a1 a2) := by
  unfold State.ringNote
  extract_lets -underBinder -merge +onlyGivenNames v1
  have k2 : Keeps ar z v1 := State.modRing_keeps (hw.m rfl) h1
  clear_value v1
  exact keeps_ite (State.ringAnnounce_keeps (hw.m rfl) k2) k2

theorem execRxEventTimer_keeps {ar : List Area} (hw : Within (Area.telling [.tide]) ar) {z : State} {t : Nat} {a1} {s
    : State} (h : Keeps ar z (s.tick t)) :
    NextKeeps ar z (execRxEventTimer t a1 s) := by
  unfold execRxEventTimer
  extract_lets -underBinder -merge +onlyGivenNames v1
  have k2 : Keeps ar z v1 := h
  clear_value v1
  extract_lets -underBinder -merge +onlyGivenNames v3
  clear_value v3
  exact keeps_next (keeps_ite k2 (State.ringAnnounce_keeps (hw.m rfl) k2))

theorem State.ringFail_keeps {ar : List Area} (hw : Within (Area.telling [.tide]) ar) {z a0 : State} {a1} {a2} (h1 :
    Keeps ar z a0) :
    Keeps ar z (State.ringFail a0 a1 a2) := by
  unfold State.ringFail
  exact State.raiseOf_keeps (hw.m rfl) (State.modRing_keeps (hw.m rfl) h1)

theorem State.xferEnd_keeps {ar : List Area} (hw : Within [.tide] ar) {z a0 : State} {a1} (h1 : Keeps ar z a0) :
    Keeps ar z (State.xferEnd a0 a1) := by
  unfold State.xferEnd
  exact State.modRing_keeps (hw.m rfl) h1

theorem State.ringRelease_keeps {ar : List Area} (hw : Within (Area.telling [.tide]) ar) {z a0 : State} {a1} {a2} (h1
    : Keeps ar z a0) :
    Keeps ar z (State.ringRelease a0 a1 a2) := by
  unfold State.ringRelease
  extract_lets -underBinder -merge +onlyGivenNames v1
  clear_value v1
  exact State.modTq_keeps (hw.m rfl) (State.tqReleaseTo_keeps (hw.m rfl) h1)

theorem State.rxReturn_keeps {ar : List Area} (hw : Within (Area.telling [.tide]) ar) {z a0 : State} {a1} {a2} {a3}
    {a4} (h1 : Keeps ar z a0) :
    Keeps ar z (State.rxReturn a0 a1 a2 a3 a4) := by
  unfold State.rxReturn
  extract_lets -underBinder -merge +onlyGivenNames v1 v2
  clear_value v1 v2
  extract_lets -underBinder -merge +onlyGivenNames v3
  have k4 : Keeps ar z v3 := by
    unfold v3
    refine State.each_keeps ?_ h1
    intro v5 v6 k7
    extract_lets -underBinder -merge +onlyGivenNames v8
    clear_value v8
    exact State.send_keeps k7
  clear_value v3
  extract_lets -underBinder -merge +onlyGivenNames v9
  have k10 : Keeps ar z v9 := State.modRing_keeps (hw.m rfl) k4
  clear_value v9
  extract_lets -underBinder -merge +onlyGivenNames v11
  have k12 : Keeps ar z v11 := State.count_keeps (hw.m rfl) (State.xferEnd_keeps (hw.m rfl) (State.ringRelease_keeps
      (hw.m rfl) k10))
  clear_value v11
  exact State.ringNote_keeps (hw.m rfl) (State.count_keeps (hw.m rfl) k12)

theorem State.rxFill_keeps {ar : List Area} (hw : Within (Area.telling [.tide]) ar) {z a0 : State} {a1} {a2} {a3}
    {a4} {a5} {a6} {a7} (h1 : Keeps ar z a0) :
    Keeps ar z (State.rxFill a0 a1 a2 a3 a4 a5 a6 a7) := by
  induction a7 generalizing a0 a5 a6
  · unfold State.rxFill
    extract_lets -underBinder -merge +onlyGivenNames v1
    clear_value v1
    exact keeps_ite (State.ringFail_keeps (hw.m rfl) h1) (State.modRing_keeps (hw.m rfl) h1)
  · rename_i w0 w1 ih
    unfold State.rxFill
    refine keeps_ite (State.ringFail_keeps (hw.m rfl) h1) ?_
    extract_lets -underBinder -merge +onlyGivenNames v2
    clear_value v2
    extract_lets -underBinder -merge +onlyGivenNames v3
    have k4 : Keeps ar z v3 := State.send_keeps h1
    clear_value v3
    exact keeps_ite (State.rxReturn_keeps (hw.m rfl) k4) (ih k4)

theorem State.rxTransfer_keeps {ar : List Area} (hw : Within (Area.but [.host, .slp]) ar) {z a0 : State} {a1} {a2}
    {a3} (h1 : Keeps ar z a0) :
    Keeps ar z (State.rxTransfer a0 a1 a2 a3) := by
  unfold State.rxTransfer
  extract_lets -underBinder -merge +onlyGivenNames v1
  clear_value v1
  split
  · exact h1
  · refine keeps_ite ?_ ?_
    · extract_lets -underBinder -merge +onlyGivenNames v2
      have k3 : Keeps ar z v2 := State.pulse_keeps (hw.m rfl) (State.tqEcc_keeps (hw.m rfl) h1)
      clear_value v2
      exact State.xferEnd_keeps (hw.m rfl) (State.ringRelease_keeps (hw.m rfl) k3)
    · extract_lets -underBinder -merge +onlyGivenNames v4
      clear_value v4
      exact State.rxFill_keeps (hw.m rfl) h1

theorem execDmaRxTransfer_keeps {ar : List Area} (hw : Within (Area.but [.host, .slp]) ar) {z : State} {t : Nat} {a1}
    {a2} {a3} {s : State} (h : Keeps ar z (s.tick t)) :
    NextKeeps ar z (execDmaRxTransfer t a1 a2 a3 s) := by
  unfold execDmaRxTransfer
  extract_lets -underBinder -merge +onlyGivenNames v1
  have k2 : Keeps ar z v1 := h
  clear_value v1
  exact keeps_next (keeps_ite (State.rxTransfer_keeps (hw.m rfl) k2) k2)

theorem execRxStarveTimeout_keeps {ar : List Area} (hw : Within (Area.telling [.tide]) ar) {z : State} {t : Nat} {a1}
    {s : State} (h : Keeps ar z (s.tick t)) :
    NextKeeps ar z (execRxStarveTimeout t a1 s) := by
  unfold execRxStarveTimeout
  extract_lets -underBinder -merge +onlyGivenNames v1
  have k2 : Keeps ar z v1 := h
  clear_value v1
  extract_lets -underBinder -merge +onlyGivenNames v3
  clear_value v3
  refine keeps_next ?_
  split
  · refine keeps_ite k2 ?_
    extract_lets -underBinder -merge +onlyGivenNames v4
    have k5 : Keeps ar z v4 := State.count_keeps (hw.m rfl) (State.xferEnd_keeps (hw.m rfl) (State.ringRelease_keeps
        (hw.m rfl) k2))
    clear_value v4
    exact State.raiseOf_keeps (hw.m rfl) (State.modRing_keeps (hw.m rfl) k5)
  · exact k2

theorem State.txStatus_keeps {ar : List Area} (hw : Within [.tide] ar) {z a0 : State} {a1} {a2} {a3} (h1 : Keeps ar z
    a0) :
    Keeps ar z (State.txStatus a0 a1 a2 a3) := by
  unfold State.txStatus
  extract_lets -underBinder -merge +onlyGivenNames v1
  clear_value v1
  exact State.modRing_keeps (hw.m rfl) (State.send_keeps h1)

theorem State.ringDirect_keeps {ar : List Area} (hw : Within (Area.telling [.chans, .eth, .buses, .sw]) ar) {z a0 :
    State} {a1} {a2} {a3} (h1 : Keeps ar z a0) :
    Keeps ar z (State.ringDirect a0 a1 a2 a3) := by
  unfold State.ringDirect
  extract_lets -underBinder -merge +onlyGivenNames v1
  clear_value v1
  split
  rename_i v2 v3 v4 e5
  have k6 : Keeps ar z v3 := keeps_fst e5 (State.newFrame_keeps (hw.m rfl) h1)
  extract_lets -underBinder -merge +onlyGivenNames v7
  have k8 : Keeps ar z v7 := State.countAt_keeps (hw.m rfl) k6
  clear_value v7
  extract_lets -underBinder -merge +onlyGivenNames v9
  clear_value v9
  extract_lets -underBinder -merge +onlyGivenNames v10
  have k11 : Keeps ar z v10 := State.admitRef_keeps (hw.m rfl) k8
  clear_value v10
  exact keeps_ite (State.retire_keeps (hw.m rfl) k11) k11

theorem State.ringParsed_keeps {ar : List Area} (hw : Within (Area.but [.host, .slp]) ar) {z a0 : State} {a1} {a2}
    {a3} {a4} (h1 : Keeps ar z a0) :
    Keeps ar z (State.ringParsed a0 a1 a2 a3 a4) := by
  unfold State.ringParsed
  extract_lets -underBinder -merge +onlyGivenNames v1 v2
  clear_value v1 v2
  split
  rename_i v3 v4 v5 e6
  have k7 : Keeps ar z v4 := keeps_fst e6 (State.takeFrame_keeps (hw.m rfl) h1)
  exact State.confirmWhole_keeps (hw.m rfl) k7

theorem State.ringPass_keeps {ar : List Area} (hw : Within (Area.but [.host, .slp]) ar) {z a0 : State} {a1} {a2} {a3}
    {a4} (h1 : Keeps ar z a0) :
    Keeps ar z (State.ringPass a0 a1 a2 a3 a4) := by
  unfold State.ringPass
  refine keeps_ite h1 ?_
  extract_lets -underBinder -merge +onlyGivenNames v1
  have k2 : Keeps ar z v1 := State.cross_keeps (hw.m rfl) h1
  clear_value v1
  exact keeps_ite (State.ringDirect_keeps (hw.m rfl) k2) (State.ringParsed_keeps (hw.m rfl) k2)

theorem State.txFrame_keeps {ar : List Area} (hw : Within (Area.but [.host, .slp]) ar) {z a0 : State} {a1} {a2} {a3}
    {a4} {a5} {a6} (h1 : Keeps ar z a0) :
    Keeps ar z (State.txFrame a0 a1 a2 a3 a4 a5 a6) := by
  unfold State.txFrame
  extract_lets -underBinder -merge +onlyGivenNames v1 v2 v3
  clear_value v1 v2 v3
  extract_lets -underBinder -merge +onlyGivenNames v4
  have k5 : Keeps ar z v4 := State.ringPass_keeps (hw.m rfl) h1
  clear_value v4
  extract_lets -underBinder -merge +onlyGivenNames v6
  have k7 : Keeps ar z v6 := keeps_ite (State.count_keeps (hw.m rfl) h1) (State.count_keeps (hw.m rfl)
      (State.count_keeps (hw.m rfl) k5))
  clear_value v6
  exact State.ringNote_keeps (hw.m rfl) (State.txStatus_keeps (hw.m rfl) k7)

theorem State.txRead_keeps {ar : List Area} (hw : Within (Area.but [.host, .slp]) ar) {z a0 : State} {a1} {a2} {a3}
    {a4} {a5} (h1 : Keeps ar z a0) :
    Keeps ar z (State.txRead a0 a1 a2 a3 a4 a5) := by
  unfold State.txRead
  extract_lets -underBinder -merge +onlyGivenNames v1 v2
  clear_value v1 v2
  split
  · exact keeps_ite (State.ringFail_keeps (hw.m rfl) h1) h1
  · extract_lets -underBinder -merge +onlyGivenNames v3
    clear_value v3
    refine keeps_ite ?_ (keeps_ite (keeps_ite (State.ringFail_keeps (hw.m rfl) h1) h1) (keeps_ite
        (State.ringFail_keeps (hw.m rfl)
      (State.txStatus_keeps (hw.m rfl) (State.count_keeps (hw.m rfl) h1))) (State.txFrame_keeps (hw.m rfl) h1)))
    extract_lets -underBinder -merge +onlyGivenNames v4
    have k5 : Keeps ar z v4 := State.count_keeps (hw.m rfl) h1
    clear_value v4
    exact State.ringFail_keeps (hw.m rfl) (keeps_ite (State.txStatus_keeps (hw.m rfl) k5) k5)

theorem execDmaTxFrame_keeps {ar : List Area} (hw : Within (Area.but [.host, .slp]) ar) {z : State} {t : Nat} {a1}
    {a2} {a3} {a4} {s : State} (h : Keeps ar z (s.tick t)) :
    NextKeeps ar z (execDmaTxFrame t a1 a2 a3 a4 s) := by
  unfold execDmaTxFrame
  extract_lets -underBinder -merge +onlyGivenNames v1
  have k2 : Keeps ar z v1 := h
  clear_value v1
  extract_lets -underBinder -merge +onlyGivenNames v3
  clear_value v3
  exact keeps_next (keeps_ite (State.txRead_keeps (hw.m rfl) k2) k2)

theorem execPcieCompletionTimeout_keeps {ar : List Area} (hw : Within (Area.but [.slp]) ar) {z : State} {t : Nat}
    {a1} {a2} {s : State} (h : Keeps ar z (s.tick t)) :
    NextKeeps ar z (execPcieCompletionTimeout t a1 a2 s) := by
  unfold execPcieCompletionTimeout
  extract_lets -underBinder -merge +onlyGivenNames v1
  have k2 : Keeps ar z v1 := h
  clear_value v1
  extract_lets -underBinder -merge +onlyGivenNames v3
  clear_value v3
  extract_lets -underBinder -merge +onlyGivenNames v4
  have k5 : Keeps ar z v4 := State.modHost_keeps (hw.m rfl) k2
  clear_value v4
  exact keeps_next (keeps_ite k5 (keeps_ite (State.txRead_keeps (hw.m rfl) (State.pulse_keeps (hw.m rfl) k5))
      (State.ringFail_keeps (hw.m rfl)
    (State.pulse_keeps (hw.m rfl) k5))))

theorem execTideEccScrub_keeps {ar : List Area} (hw : Within (Area.but [.host, .slp]) ar) {z : State} {t : Nat} {a1}
    {a2} {a3} {s : State} (h : Keeps ar z (s.tick t)) :
    NextKeeps ar z (execTideEccScrub t a1 a2 a3 s) := by
  unfold execTideEccScrub
  extract_lets -underBinder -merge +onlyGivenNames v1
  have k2 : Keeps ar z v1 := h
  clear_value v1
  refine keeps_next ?_
  refine keeps_ite k2 ?_
  extract_lets -underBinder -merge +onlyGivenNames v3 v4
  clear_value v3 v4
  extract_lets -underBinder -merge +onlyGivenNames v5
  have k6 : Keeps ar z v5 := State.tqEcc_keeps (hw.m rfl) (State.modTq_keeps (hw.m rfl) k2)
  clear_value v5
  exact keeps_ite k6 (State.pulse_keeps (hw.m rfl) k6)

theorem effectFaultConfig_keeps {ar : List Area} (hw : Within [.flt] ar) {z a0 : State} {a1} (h1 : Keeps ar z a0) :
    Keeps ar z (effectFaultConfig a0 a1).1 := by
  unfold effectFaultConfig
  extract_lets -underBinder -merge +onlyGivenNames v1 v2 v3
  clear_value v1 v2 v3
  exact keeps_mk1 (State.each_keeps (fun v4 v5 k6 => State.modSrc_keeps (hw.m rfl) k6) h1)

theorem execFaultConfig_keeps {ar : List Area} (hw : Within (Area.telling [.windows, .mbx, .flt, .cw, .boot]) ar) {z
    : State} {t : Nat} {a1} {s : State} (h : Keeps ar z (s.tick t)) :
    NextKeeps ar z (execFaultConfig t a1 s) := by
  unfold execFaultConfig
  exact keeps_next (State.simple_keeps (hw.m rfl) h (fun v1 v2 k3 => effectFaultConfig_keeps (hw.m rfl) k3))

theorem State.readAgain_keeps {ar : List Area} (hw : Within (Area.but [.host, .slp]) ar) {z a0 : State} {a1} (h1 :
    Keeps ar z a0) :
    Keeps ar z (State.readAgain a0 a1) := by
  unfold State.readAgain
  extract_lets -underBinder -merge +onlyGivenNames v1
  clear_value v1
  exact keeps_ite (keeps_ite (State.modSrc_keeps (hw.m rfl) h1) (keeps_ite (State.enterFault_keeps (hw.m rfl) h1)
      h1)) (keeps_ite
    (State.modSrc_keeps (hw.m rfl) h1) h1)

theorem effectFaultForce_keeps {ar : List Area} (hw : Within (Area.but [.host, .slp]) ar) {z a0 : State} {a1} (h1 :
    Keeps ar z a0) :
    Keeps ar z (effectFaultForce a0 a1).1 := by
  unfold effectFaultForce
  extract_lets -underBinder -merge +onlyGivenNames v1 v2
  clear_value v1 v2
  extract_lets -underBinder -merge +onlyGivenNames v3
  have k4 : Keeps ar z v3 := State.modSrc_keeps (hw.m rfl) h1
  clear_value v3
  extract_lets -underBinder -merge +onlyGivenNames v5
  have k6 : Keeps ar z v5 := by
    unfold v5
    refine keeps_ite ?_ k4
    split
    rename_i v7 v8 v9 e10
    have k11 : Keeps ar z v9 := keeps_snd e10 (State.draw_keeps k4)
    exact State.raiseOf_keeps (hw.m rfl) k11
  clear_value v5
  exact keeps_mk1 (State.readAgain_keeps (hw.m rfl) k6)

theorem execFaultForce_keeps {ar : List Area} (hw : Within (Area.but [.host, .slp]) ar) {z : State} {t : Nat} {a1} {s
    : State} (h : Keeps ar z (s.tick t)) :
    NextKeeps ar z (execFaultForce t a1 s) := by
  unfold execFaultForce
  exact keeps_next (State.simple_keeps (hw.m rfl) h (fun v1 v2 k3 => effectFaultForce_keeps (hw.m rfl) k3))

theorem effectFaultRead_keeps {ar : List Area} {z a0 : State} {a1} (h1 : Keeps ar z a0) :
    Keeps ar z (effectFaultRead a0 a1).1 := by
  unfold effectFaultRead
  extract_lets -underBinder -merge +onlyGivenNames v1
  clear_value v1
  exact keeps_mk1 (State.draw_keeps h1)

theorem execFaultRead_keeps {ar : List Area} (hw : Within (Area.telling [.windows, .mbx, .cw, .boot]) ar) {z : State}
    {t : Nat} {a1} {s : State} (h : Keeps ar z (s.tick t)) :
    NextKeeps ar z (execFaultRead t a1 s) := by
  unfold execFaultRead
  exact keeps_next (State.simple_keeps (hw.m rfl) h (fun v1 v2 k3 => effectFaultRead_keeps k3))

theorem effectFaultClear_keeps {ar : List Area} (hw : Within (Area.but [.host, .slp]) ar) {z a0 : State} {a1} (h1 :
    Keeps ar z a0) :
    Keeps ar z (effectFaultClear a0 a1).1 := by
  unfold effectFaultClear
  extract_lets -underBinder -merge +onlyGivenNames v1
  clear_value v1
  extract_lets -underBinder -merge +onlyGivenNames v2
  have k3 : Keeps ar z v2 := keeps_ite (State.modFlt_keeps (hw.m rfl) h1) h1
  clear_value v2
  extract_lets -underBinder -merge +onlyGivenNames v4
  have k5 : Keeps ar z v4 := keeps_ite (State.each_keeps (fun v6 v7 k8 => State.modSrc_keeps (hw.m rfl) k8) k3) k3
  clear_value v4
  extract_lets -underBinder -merge +onlyGivenNames v9
  clear_value v9
  exact keeps_mk1 (State.each_keeps (fun v10 v11 k12 => State.clearLatch_keeps (hw.m rfl) k12) k5)

theorem execFaultClear_keeps {ar : List Area} (hw : Within (Area.but [.host, .slp]) ar) {z : State} {t : Nat} {a1} {s
    : State} (h : Keeps ar z (s.tick t)) :
    NextKeeps ar z (execFaultClear t a1 s) := by
  unfold execFaultClear
  exact keeps_next (State.simple_keeps (hw.m rfl) h (fun v1 v2 k3 => effectFaultClear_keeps (hw.m rfl) k3))

theorem execBrokenPair_keeps {ar : List Area} (hw : Within (Area.but [.host, .slp]) ar) {z : State} {t : Nat} {a1}
    {a2} {s : State} (h : Keeps ar z (s.tick t)) :
    NextKeeps ar z (execBrokenPair t a1 a2 s) := by
  unfold execBrokenPair
  extract_lets -underBinder -merge +onlyGivenNames v1
  have k2 : Keeps ar z v1 := h
  clear_value v1
  refine keeps_iteN (keeps_next k2) ?_
  extract_lets -underBinder -merge +onlyGivenNames v3
  have k4 : Keeps ar z v3 := State.modSrc_keeps (hw.m rfl) k2
  clear_value v3
  exact keeps_next (keeps_ite (State.breakPair_keeps (hw.m rfl) k4) k4)

theorem execBrokenPairRestored_keeps {ar : List Area} (hw : Within (Area.but [.host, .slp]) ar) {z : State} {t : Nat}
    {a1} {s : State} (h : Keeps ar z (s.tick t)) :
    NextKeeps ar z (execBrokenPairRestored t a1 s) := by
  unfold execBrokenPairRestored
  extract_lets -underBinder -merge +onlyGivenNames v1
  have k2 : Keeps ar z v1 := h
  clear_value v1
  refine keeps_iteN (keeps_next k2) ?_
  extract_lets -underBinder -merge +onlyGivenNames v3
  have k4 : Keeps ar z v3 := State.modSrc_keeps (hw.m rfl) k2
  clear_value v3
  refine keeps_next ?_
  refine keeps_ite k4 ?_
  extract_lets -underBinder -merge +onlyGivenNames v5
  have k6 : Keeps ar z v5 := State.wireQuiet_keeps (hw.m rfl) k4
  clear_value v5
  exact State.readAgain_keeps (hw.m rfl) k6

theorem execArbitrationWindowClose_keeps {ar : List Area} (hw : Within (Area.telling [.flt]) ar) {z : State} {t :
    Nat} {s : State} (h : Keeps ar z (s.tick t)) :
    NextKeeps ar z (execArbitrationWindowClose t s) := by
  unfold execArbitrationWindowClose
  extract_lets -underBinder -merge +onlyGivenNames v1
  have k2 : Keeps ar z v1 := h
  clear_value v1
  refine keeps_next ?_
  split
  · exact keeps_ite (State.closeWindow_keeps (hw.m rfl) k2) k2
  · exact k2

theorem State.recover_keeps {ar : List Area} (hw : Within (Area.telling [.flt]) ar) {z a0 : State} {a1} (h1 : Keeps
    ar z a0) :
    Keeps ar z (State.recover a0 a1) := by
  unfold State.recover
  extract_lets -underBinder -merge +onlyGivenNames v1
  have k2 : Keeps ar z v1 := keeps_same hw h1
  clear_value v1
  extract_lets -underBinder -merge +onlyGivenNames v3
  clear_value v3
  extract_lets -underBinder -merge +onlyGivenNames v4
  have k5 : Keeps ar z v4 := State.modSrc_keeps (hw.m rfl) k2
  clear_value v4
  exact State.raise_keeps (hw.m rfl) k5

theorem execQuietPeriodEnd_keeps {ar : List Area} (hw : Within (Area.telling [.flt]) ar) {z : State} {t : Nat} {a1}
    {s : State} (h : Keeps ar z (s.tick t)) :
    NextKeeps ar z (execQuietPeriodEnd t a1 s) := by
  unfold execQuietPeriodEnd
  extract_lets -underBinder -merge +onlyGivenNames v1
  have k2 : Keeps ar z v1 := h
  clear_value v1
  refine keeps_next ?_
  split
  · exact keeps_ite (State.recover_keeps (hw.m rfl) k2) k2
  · exact k2

theorem execBudgetWindowEnd_keeps {ar : List Area} (hw : Within [.flt] ar) {z : State} {t : Nat} {a1} {s : State} (h
    : Keeps ar z (s.tick t)) :
    NextKeeps ar z (execBudgetWindowEnd t a1 s) := by
  unfold execBudgetWindowEnd
  extract_lets -underBinder -merge +onlyGivenNames v1
  have k2 : Keeps ar z v1 := h
  clear_value v1
  exact keeps_next (keeps_ite k2 (State.modSrc_keeps (hw.m rfl) k2))

theorem execUnitRestartEscalation_keeps {ar : List Area} (hw : Within (Area.but [.host, .slp]) ar) {z : State} {t :
    Nat} {a1} {a2} {s : State} (h : Keeps ar z (s.tick t)) :
    NextKeeps ar z (execUnitRestartEscalation t a1 a2 s) := by
  unfold execUnitRestartEscalation
  extract_lets -underBinder -merge +onlyGivenNames v1
  have k2 : Keeps ar z v1 := h
  clear_value v1
  extract_lets -underBinder -merge +onlyGivenNames v3 v4
  clear_value v3 v4
  refine keeps_next ?_
  refine keeps_ite k2 ?_
  extract_lets -underBinder -merge +onlyGivenNames v5
  have k6 : Keeps ar z v5 := keeps_ite k2 (State.count_keeps (hw.m rfl) k2)
  clear_value v5
  exact keeps_ite (State.safeState_keeps (hw.m rfl) k6) (State.restartIsland_keeps (hw.m rfl) k6)

theorem execFaultPersistLatch_keeps {ar : List Area} (hw : Within (Area.but [.host, .slp]) ar) {z : State} {t : Nat}
    {a1} {s : State} (h : Keeps ar z (s.tick t)) :
    NextKeeps ar z (execFaultPersistLatch t a1 s) := by
  unfold execFaultPersistLatch
  extract_lets -underBinder -merge +onlyGivenNames v1
  have k2 : Keeps ar z v1 := h
  clear_value v1
  extract_lets -underBinder -merge +onlyGivenNames v3
  clear_value v3
  refine keeps_next ?_
  split
  · refine keeps_ite ?_ k2
    extract_lets -underBinder -merge +onlyGivenNames v4
    have k5 : Keeps ar z v4 := State.modSrc_keeps (hw.m rfl) k2
    clear_value v4
    exact State.faultAction_keeps (hw.m rfl) (State.latchEvent_keeps (hw.m rfl) k5)
  · exact k2

theorem execUnitRestartDone_keeps {ar : List Area} (hw : Within (Area.telling [.windows, .mbx, .chans, .units, .eth,
    .buses, .sw, .sec, .flt, .cw, .boot]) ar) {z : State} {t : Nat} {a1} {a2} {s : State} (h : Keeps ar z (s.tick t)) :
    NextKeeps ar z (execUnitRestartDone t a1 a2 s) := by
  unfold execUnitRestartDone
  extract_lets -underBinder -merge +onlyGivenNames v1
  have k2 : Keeps ar z v1 := h
  clear_value v1
  exact keeps_next (keeps_ite (State.unitBack_keeps (hw.m rfl) k2) k2)

theorem State.sigSpoil_keeps {ar : List Area} (hw : Within [.ctrs, .sw, .sig] ar) {z a0 : State} {a1} (h1 : Keeps ar
    z a0) :
    Keeps ar z (State.sigSpoil a0 a1) := by
  unfold State.sigSpoil
  extract_lets -underBinder -merge +onlyGivenNames v1
  clear_value v1
  exact State.modFrame_keeps (hw.m rfl) (State.specEnd_keeps (hw.m rfl) h1)

theorem State.compSpoil_keeps {ar : List Area} (hw : Within [.ctrs, .sig] ar) {z a0 : State} {a1} (h1 : Keeps ar z a0) :
    Keeps ar z (State.compSpoil a0 a1) := by
  unfold State.compSpoil
  exact State.count_keeps (hw.m rfl) (State.modSig_keeps (hw.m rfl) h1)

theorem State.tideSpoil_keeps {ar : List Area} (hw : Within [.ctrs, .sw, .tide] ar) {z a0 : State} {a1} (h1 : Keeps
    ar z a0) :
    Keeps ar z (State.tideSpoil a0 a1) := by
  unfold State.tideSpoil
  exact State.modFrame_keeps (hw.m rfl) (State.each_keeps (fun v1 v2 k3 => State.tqRewind_keeps (hw.m rfl) k3) h1)

theorem State.onChannel_keeps {ar : List Area} (hw : Within (Area.but [.host]) ar) {z a0 s : State} {near far : Nat}
    {f : State → State} (e : f ∈ a0.onChannel near far)
    (h : Keeps ar z s) : Keeps ar z (f s) := by
  unfold State.onChannel at e
  extract_lets frames coded at e
  split at e
  · obtain e | e := List.mem_append.1 e
    · obtain ⟨_, _, rfl⟩ := List.mem_map.1 e
      exact State.verdict_keeps (hw.m rfl) h
    · obtain ⟨_, _, rfl⟩ := List.mem_map.1 e
      exact State.busRxSpoil_keeps (hw.m rfl) h
  · split at e
    · split at e
      · obtain ⟨_, _, rfl⟩ := List.mem_map.1 e
        exact State.txStarve_keeps (hw.m rfl) h
      · split at e
        · obtain ⟨_, _, rfl⟩ := List.mem_map.1 e
          exact State.sigSpoil_keeps (hw.m rfl) h
        · split at e
          · obtain ⟨_, _, rfl⟩ := List.mem_map.1 e
            exact State.txStarve_keeps (hw.m rfl) h
          · split at e
            · obtain ⟨_, _, rfl⟩ := List.mem_map.1 e
              exact State.tideSpoil_keeps (hw.m rfl) h
            · cases e
    · split at e
      · obtain ⟨_, _, rfl⟩ := List.mem_map.1 e
        exact State.verdict_keeps (hw.m rfl) h
      · split at e
        · obtain ⟨_, _, rfl⟩ := List.mem_map.1 e
          exact State.compSpoil_keeps (hw.m rfl) h
        · split at e
          · obtain ⟨_, _, rfl⟩ := List.mem_map.1 e
            exact State.busRxSpoil_keeps (hw.m rfl) h
          · cases e

theorem execHandshakeTimeout_keeps {ar : List Area} (hw : Within (Area.but [.host]) ar) {z : State} {t : Nat} {a1}
    {a2} {s : State} (h : Keeps ar z (s.tick t)) :
    NextKeeps ar z (execHandshakeTimeout t a1 a2 s) := by
  unfold execHandshakeTimeout
  extract_lets v1
  have k1 : Keeps ar z v1 := h
  clear_value v1
  refine keeps_iteN (keeps_next k1) ?_
  extract_lets
  split
  rename_i v3 v4 e1
  have k2 : Keeps ar z v4 := keeps_snd e1 (State.drawBelow_keeps k1)
  extract_lets v5
  have k3 : Keeps ar z v5 := by
    unfold v5
    split
    · exact State.onChannel_keeps (hw.m rfl) (List.mem_of_getElem? ‹_›) k2
    · exact k2
  clear_value v5
  split
  rename_i v6 v7 e2
  have k4 : Keeps ar z v7 := keeps_snd e2 (State.drawBelow_keeps k3)
  extract_lets v8
  have k5 : Keeps ar z v8 := State.toldFlush_keeps (hw.m rfl) (State.modChan_keeps (hw.m rfl) k4)
  exact keeps_next (State.pulse_keeps (hw.m rfl) k5)

theorem execChannelResetTimeout_keeps {ar : List Area} (hw : Within [.chans] ar) {z : State} {t : Nat} {a1} {s :
    State} (h : Keeps ar z (s.tick t)) :
    NextKeeps ar z (execChannelResetTimeout t a1 s) := by
  unfold execChannelResetTimeout
  extract_lets -underBinder -merge +onlyGivenNames v1
  have k2 : Keeps ar z v1 := h
  clear_value v1
  refine keeps_next ?_
  split
  · exact keeps_ite (State.modChan_keeps (hw.m rfl) k2) k2
  · exact k2

theorem execGlitchStorm_keeps {ar : List Area} (hw : Within (Area.but [.host, .slp]) ar) {z : State} {t : Nat} {a1}
    {a2} {s : State} (h : Keeps ar z (s.tick t)) :
    NextKeeps ar z (execGlitchStorm t a1 a2 s) := by
  unfold execGlitchStorm
  extract_lets -underBinder -merge +onlyGivenNames v1
  have k2 : Keeps ar z v1 := h
  clear_value v1
  extract_lets -underBinder -merge +onlyGivenNames v3
  clear_value v3
  refine keeps_iteN ?_ (keeps_iteN (keeps_next (State.quieten_keeps (hw.m rfl) (State.modFlt_keeps (hw.m rfl) k2)))
      (keeps_next k2))
  split
  rename_i v4 v5 v6 e7
  have k8 : Keeps ar z v6 := keeps_snd e7 (State.draw_keeps k2)
  extract_lets -underBinder -merge +onlyGivenNames v9
  have k10 : Keeps ar z v9 := State.count_keeps (hw.m rfl) (State.modFlt_keeps (hw.m rfl) k8)
  clear_value v9
  exact keeps_next (State.report_keeps (hw.m rfl) k10)

theorem execTimerRecalibration_keeps {ar : List Area} (hw : Within (Area.but [.host, .slp]) ar) {z : State} {t : Nat}
    {a1} {s : State} (h : Keeps ar z (s.tick t)) :
    NextKeeps ar z (execTimerRecalibration t a1 s) := by
  unfold execTimerRecalibration
  extract_lets -underBinder -merge +onlyGivenNames v1
  have k2 : Keeps ar z v1 := h
  clear_value v1
  extract_lets -underBinder -merge +onlyGivenNames v3
  clear_value v3
  refine keeps_iteN (keeps_next k2) ?_
  refine keeps_iteN (keeps_next (State.quieten_keeps (hw.m rfl) k2)) ?_
  split
  rename_i v4 v5 v6 e7
  have k8 : Keeps ar z v6 := keeps_snd e7 (keeps_ite2 (keeps_mk2 k2) (State.drawBelow_keeps k2))
  split
  rename_i v9 v10 v11 e12
  have k13 : Keeps ar z v11 := keeps_snd e12 (State.drawBelow_keeps k8)
  exact keeps_next (State.report_keeps (hw.m rfl) k13)

theorem execMdioTimeout_keeps {ar : List Area} (hw : Within (Area.but [.host, .slp]) ar) {z : State} {t : Nat} {a1}
    {s : State} (h : Keeps ar z (s.tick t)) :
    NextKeeps ar z (execMdioTimeout t a1 s) := by
  unfold execMdioTimeout
  extract_lets -underBinder -merge +onlyGivenNames v1
  have k2 : Keeps ar z v1 := h
  clear_value v1
  extract_lets -underBinder -merge +onlyGivenNames v3 v4
  clear_value v3 v4
  extract_lets -underBinder -merge +onlyGivenNames v5
  have k6 : Keeps ar z v5 := State.modFlt_keeps (hw.m rfl) k2
  clear_value v5
  exact keeps_next (keeps_ite (State.pulse_keeps (hw.m rfl) k6) k6)

theorem execLpddrTrainingTimeout_keeps {ar : List Area} (hw : Within (Area.but [.host, .slp]) ar) {z : State} {t :
    Nat} {s : State} (h : Keeps ar z (s.tick t)) :
    NextKeeps ar z (execLpddrTrainingTimeout t s) := by
  unfold execLpddrTrainingTimeout
  exact keeps_next (State.report_keeps (hw.m rfl) (State.modBoot_keeps (hw.m rfl) h))

theorem execSafeStateOutputRelease_keeps {ar : List Area} (hw : Within [.time, .aud, .boot] ar) {z : State} {t : Nat}
    {s : State} (h : Keeps ar z (s.tick t)) :
    NextKeeps ar z (execSafeStateOutputRelease t s) := by
  unfold execSafeStateOutputRelease
  extract_lets -underBinder -merge +onlyGivenNames v1
  have k2 : Keeps ar z v1 := h
  clear_value v1
  refine keeps_next ?_
  split
  · exact keeps_ite (State.modBoot_keeps (hw.m rfl) (State.tdmInactive_keeps (hw.m rfl) (State.timeOutsInactive_keeps
      (hw.m rfl) k2))) k2
  · exact k2

theorem State.cancelled_keeps {ar : List Area} (hw : Within Area.told ar) {z a0 : State} {a1} (h1 : Keeps ar z a0) :
    Keeps ar z (State.cancelled a0 a1) := by
  unfold State.cancelled
  exact State.raise_keeps (hw.m rfl) h1

theorem State.latchWake_keeps {ar : List Area} (hw : Within [.slp] ar) {z a0 : State} {a1} (h1 : Keeps ar z a0) :
    Keeps ar z (State.latchWake a0 a1) := by
  unfold State.latchWake
  exact keeps_ite h1 (State.modSlp_keeps (hw.m rfl) h1)

theorem State.ringCancel_keeps {ar : List Area} (hw : Within (Area.telling [.sec, .slp]) ar) {z a0 : State} {a1} (h1
    : Keeps ar z a0) :
    Keeps ar z (State.ringCancel a0 a1) := by
  unfold State.ringCancel
  exact keeps_ite (State.cancelled_keeps (hw.m rfl) (State.count_keeps (hw.m rfl) (State.modSlp_keeps (hw.m rfl)
      h1))) (keeps_ite h1 (State.tell_keeps (hw.m rfl)
    (State.count_keeps (hw.m rfl) (State.modSlp_keeps (hw.m rfl) h1))))

theorem State.wakeReq_keeps {ar : List Area} (hw : Within (Area.telling [.sec, .slp]) ar) {z a0 : State} {a1} (h1 :
    Keeps ar z a0) :
    Keeps ar z (State.wakeReq a0 a1) := by
  unfold State.wakeReq
  refine keeps_ite (State.latchWake_keeps (hw.m rfl) h1) ?_
  refine keeps_ite ?_ h1
  extract_lets -underBinder -merge +onlyGivenNames v1
  have k2 : Keeps ar z v1 := State.modSlp_keeps (hw.m rfl) h1
  clear_value v1
  exact keeps_ite (State.ringCancel_keeps (hw.m rfl) k2) k2

theorem State.ownWakeReq_keeps {ar : List Area} (hw : Within (Area.telling [.sec, .slp]) ar) {z a0 : State} (h1 :
    Keeps ar z a0) :
    Keeps ar z (State.ownWakeReq a0) := by
  unfold State.ownWakeReq
  split
  rename_i v1 v2 v3 e4
  have k5 : Keeps ar z v3 := keeps_snd e4 (State.drawBelow_keeps h1)
  exact State.wakeReq_keeps (hw.m rfl) k5

theorem State.steerEnd_keeps {ar : List Area} (hw : Within [.time, .twin] ar) {z a0 : State} (h1 : Keeps ar z a0) :
    Keeps ar z (State.steerEnd a0) := by
  unfold State.steerEnd
  split
  · exact State.follow_keeps (hw.m rfl) h1
  · exact h1

theorem State.setRole_keeps {ar : List Area} (hw : Within (Area.telling [.chans, .eth, .buses, .sw, .time, .twin])
    ar) {z a0 : State} {a1} {a2} (h1 : Keeps ar z a0) :
    Keeps ar z (State.setRole a0 a1 a2) := by
  unfold State.setRole
  extract_lets -underBinder -merge +onlyGivenNames v1
  clear_value v1
  refine keeps_ite h1 ?_
  extract_lets -underBinder -merge +onlyGivenNames v2
  have k3 : Keeps ar z v2 := State.modTwin_keeps (hw.m rfl) h1
  clear_value v2
  extract_lets -underBinder -merge +onlyGivenNames v4
  have k5 : Keeps ar z v4 := State.raise_keeps (hw.m rfl) k3
  clear_value v4
  extract_lets -underBinder -merge +onlyGivenNames v6
  have k7 : Keeps ar z v6 := keeps_ite k5 (State.each_keeps (fun v8 v9 k10 => State.busOrder_keeps (hw.m rfl) k10) k5)
  clear_value v6
  extract_lets -underBinder -merge +onlyGivenNames v11
  have k12 : Keeps ar z v11 := keeps_ite (State.steerEnd_keeps (hw.m rfl) k7) k7
  clear_value v11
  exact State.each_keeps (fun v13 v14 k15 => keeps_ite (State.refill_keeps (hw.m rfl) k15) (keeps_ite
      (State.bufReturnAll_keeps (hw.m rfl)
    k15) k15)) k12

theorem State.renew_keeps {ar : List Area} (hw : Within [.ctrs, .twin] ar) {z a0 : State} (h1 : Keeps ar z a0) :
    Keeps ar z (State.renew a0) := by
  unfold State.renew
  extract_lets -underBinder -merge +onlyGivenNames v1
  have k2 : Keeps ar z v1 := State.count_keeps (hw.m rfl) (State.modTwin_keeps (hw.m rfl) h1)
  clear_value v1
  exact keeps_ite (State.send_keeps k2) k2

theorem State.claim_keeps {ar : List Area} (hw : Within (Area.telling [.chans, .eth, .buses, .sw, .time, .twin]) ar)
    {z a0 : State} {a1} (h1 : Keeps ar z a0) :
    Keeps ar z (State.claim a0 a1) := by
  unfold State.claim
  extract_lets -underBinder -merge +onlyGivenNames v1
  have k2 : Keeps ar z v1 := State.count_keeps (hw.m rfl) h1
  clear_value v1
  extract_lets -underBinder -merge +onlyGivenNames v3
  have k4 : Keeps ar z v3 := keeps_ite (State.count_keeps (hw.m rfl) k2) k2
  clear_value v3
  exact State.renew_keeps (hw.m rfl) (State.setRole_keeps (hw.m rfl) k4)

theorem State.twinPathEvent_keeps {ar : List Area} (hw : Within Area.told ar) {z a0 : State} {a1} (h1 : Keeps ar z a0) :
    Keeps ar z (State.twinPathEvent a0 a1) := by
  unfold State.twinPathEvent
  split
  rename_i v1 v2 v3 e4
  have k5 : Keeps ar z v3 := keeps_snd e4 (State.drawBelow_keeps h1)
  exact State.raiseOf_keeps (hw.m rfl) k5

theorem State.twinPaths_keeps {ar : List Area} (hw : Within Area.told ar) {z a0 : State} (h1 : Keeps ar z a0) :
    Keeps ar z (State.twinPaths a0) := by
  unfold State.twinPaths
  refine keeps_ite h1 ?_
  split
  · exact State.twinPathEvent_keeps (hw.m rfl) h1
  · exact State.twinPathEvent_keeps (hw.m rfl) h1
  · exact keeps_ite h1 (State.twinPathEvent_keeps (hw.m rfl) h1)
  · exact h1

theorem State.resyncStart_keeps {ar : List Area} (hw : Within (Area.telling [.chans, .eth, .buses, .parse, .tbl, .sw,
    .sig, .time, .tide, .twin]) ar) {z a0 : State} {a1} (h1 : Keeps ar z a0) :
    Keeps ar z (State.resyncStart a0 a1) := by
  unfold State.resyncStart
  extract_lets -underBinder -merge +onlyGivenNames v1
  have k2 : Keeps ar z v1 := State.modTwin_keeps (hw.m rfl) (State.setRole_keeps (hw.m rfl) h1)
  clear_value v1
  extract_lets -underBinder -merge +onlyGivenNames v3
  clear_value v3
  extract_lets -underBinder -merge +onlyGivenNames v4
  have k5 : Keeps ar z v4 := State.each_keeps (fun v6 v7 k8 => keeps_foldl (fun v9 v10 k11 => State.bufDrop_keeps
      (hw.m rfl) k11)
    k8) k2
  clear_value v4
  extract_lets -underBinder -merge +onlyGivenNames v12
  have k13 : Keeps ar z v12 := State.bufferClear_keeps (hw.m rfl) k5
  clear_value v12
  exact keeps_same hw k13

theorem State.joinReview_keeps {ar : List Area} (hw : Within (Area.telling [.chans, .eth, .buses, .parse, .tbl, .sw,
    .sig, .time, .tide, .twin]) ar) {z a0 : State} (h1 : Keeps ar z a0) :
    Keeps ar z (State.joinReview a0) := by
  unfold State.joinReview
  exact keeps_ite h1 (keeps_ite (State.resyncStart_keeps (hw.m rfl) h1) h1)

theorem State.twinReview_keeps {ar : List Area} (hw : Within (Area.telling [.chans, .eth, .buses, .parse, .tbl, .sw,
    .sig, .time, .tide, .twin]) ar) {z a0 : State} (h1 : Keeps ar z a0) :
    Keeps ar z (State.twinReview a0) := by
  unfold State.twinReview
  exact keeps_ite (State.resyncStart_keeps (hw.m rfl) h1) h1

theorem execFirmwareHeartbeat_keeps {ar : List Area} (hw : Within (Area.telling [.chans, .eth, .buses, .parse, .tbl,
    .sw, .sig, .time, .tide, .twin]) ar) {z : State} {t : Nat} {s : State} (h : Keeps ar z (s.tick t)) :
    NextKeeps ar z (execFirmwareHeartbeat t s) := by
  unfold execFirmwareHeartbeat
  extract_lets -underBinder -merge +onlyGivenNames v1
  have k2 : Keeps ar z v1 := h
  clear_value v1
  exact keeps_next (keeps_ite (State.twinReview_keeps (hw.m rfl) (State.modTwin_keeps (hw.m rfl) k2)) k2)

theorem execLeaseRenewal_keeps {ar : List Area} (hw : Within (Area.telling [.chans, .eth, .buses, .parse, .tbl, .sw,
    .sig, .time, .tide, .twin]) ar) {z : State} {t : Nat} {s : State} (h : Keeps ar z (s.tick t)) :
    NextKeeps ar z (execLeaseRenewal t s) := by
  unfold execLeaseRenewal
  extract_lets -underBinder -merge +onlyGivenNames v1
  have k2 : Keeps ar z v1 := h
  clear_value v1
  exact keeps_next (keeps_ite (State.renew_keeps (hw.m rfl) k2) (State.twinReview_keeps (hw.m rfl) k2))

theorem execLeaseLapse_keeps {ar : List Area} (hw : Within (Area.telling [.windows, .mbx, .chans, .eth, .buses, .sw,
    .time, .twin, .cw, .boot]) ar) {z : State} {t : Nat} {s : State} (h : Keeps ar z (s.tick t)) :
    NextKeeps ar z (execLeaseLapse t s) := by
  unfold execLeaseLapse
  extract_lets -underBinder -merge +onlyGivenNames v1
  have k2 : Keeps ar z v1 := h
  clear_value v1
  exact keeps_next (keeps_ite (State.completeOf_keeps (hw.m rfl) (State.setRole_keeps (hw.m rfl) (State.count_keeps
      (hw.m rfl) k2))) k2)

theorem execTokenClaim_keeps {ar : List Area} (hw : Within (Area.telling [.chans, .eth, .buses, .sw, .time, .twin])
    ar) {z : State} {t : Nat} {s : State} (h : Keeps ar z (s.tick t)) :
    NextKeeps ar z (execTokenClaim t s) := by
  unfold execTokenClaim
  extract_lets -underBinder -merge +onlyGivenNames v1
  have k2 : Keeps ar z v1 := h
  clear_value v1
  exact keeps_next (keeps_ite (State.claim_keeps (hw.m rfl) k2) k2)

theorem execLeaseInChange_keeps {ar : List Area} (hw : Within (Area.telling [.chans, .eth, .buses, .parse, .tbl, .sw,
    .sig, .time, .tide, .twin]) ar) {z : State} {t : Nat} {a1} {s : State} (h : Keeps ar z (s.tick t)) :
    NextKeeps ar z (execLeaseInChange t a1 s) := by
  unfold execLeaseInChange
  extract_lets -underBinder -merge +onlyGivenNames v1
  have k2 : Keeps ar z v1 := h
  clear_value v1
  refine keeps_iteN (keeps_next k2) ?_
  extract_lets -underBinder -merge +onlyGivenNames v3
  have k4 : Keeps ar z v3 := State.modTwin_keeps (hw.m rfl) k2
  clear_value v3
  exact keeps_next (keeps_ite (State.setRole_keeps (hw.m rfl) k4) (keeps_ite (State.claim_keeps (hw.m rfl) k4)
      (State.joinReview_keeps (hw.m rfl)
    (State.twinPaths_keeps (hw.m rfl) k4))))

theorem execIslandRestartDone_keeps {ar : List Area} (hw : Within (Area.but [.host, .slp]) ar) {z : State} {t : Nat}
    {a1} {s : State} (h : Keeps ar z (s.tick t)) :
    NextKeeps ar z (execIslandRestartDone t a1 s) := by
  unfold execIslandRestartDone
  extract_lets -underBinder -merge +onlyGivenNames v1
  have k2 : Keeps ar z v1 := h
  clear_value v1
  exact keeps_next (keeps_ite (State.twinReview_keeps (hw.m rfl) (State.islandBack_keeps (hw.m rfl) k2)) k2)

theorem State.slotTake_keeps {ar : List Area} (hw : Within [.sig] ar) {z a0 : State} {a1} (h1 : Keeps ar z a0) :
    Keeps ar z (State.slotTake a0 a1) := by
  unfold State.slotTake
  extract_lets -underBinder -merge +onlyGivenNames v1
  clear_value v1
  exact State.modSlot_keeps (hw.m rfl) h1

theorem State.l2Take_keeps {ar : List Area} (hw : Within [.tbl] ar) {z a0 : State} {a1} (h1 : Keeps ar z a0) :
    Keeps ar z (State.l2Take a0 a1) := by
  unfold State.l2Take
  extract_lets -underBinder -merge +onlyGivenNames v1
  clear_value v1
  exact State.modTbl_keeps (hw.m rfl) h1

theorem State.annTake_keeps {ar : List Area} (hw : Within [.aud] ar) {z a0 : State} {a1} (h1 : Keeps ar z a0) :
    Keeps ar z (State.annTake a0 a1) := by
  unfold State.annTake
  exact State.modAnn_keeps (hw.m rfl) (State.announce_keeps (hw.m rfl) h1)

theorem State.takeRules_keeps {ar : List Area} (hw : Within (Area.telling [.parse]) ar) {z a0 : State} {a1} (h1 :
    Keeps ar z a0) :
    Keeps ar z (State.takeRules a0 a1) := by
  unfold State.takeRules
  extract_lets -underBinder -merge +onlyGivenNames v1 v2
  clear_value v1 v2
  extract_lets -underBinder -merge +onlyGivenNames v3
  have k4 : Keeps ar z v3 := State.ruleSwitch_keeps (hw.m rfl) h1
  clear_value v3
  exact State.raiseOf_keeps (hw.m rfl) (State.parserUpdate_keeps (hw.m rfl) k4)

theorem State.takeMap_keeps {ar : List Area} (hw : Within (Area.telling [.buses, .sw, .sig, .sec]) ar) {z a0 : State}
    {a1} (h1 : Keeps ar z a0) :
    Keeps ar z (State.takeMap a0 a1) := by
  unfold State.takeMap
  extract_lets -underBinder -merge +onlyGivenNames v1 v2 v3
  clear_value v1 v2 v3
  extract_lets -underBinder -merge +onlyGivenNames v4
  have k5 : Keeps ar z v4 := by
    unfold v4
    split
    · exact State.mapExpire_keeps (hw.m rfl) h1
    · exact h1
  clear_value v4
  extract_lets -underBinder -merge +onlyGivenNames v6 v7
  clear_value v6 v7
  exact State.raiseOf_keeps (hw.m rfl) (State.mapSwitch_keeps (hw.m rfl) k5)

theorem State.takeTime_keeps {ar : List Area} (hw : Within [.twin] ar) {z a0 : State} {a1} (h1 : Keeps ar z a0) :
    Keeps ar z (State.takeTime a0 a1) := by
  unfold State.takeTime
  refine keeps_ite h1 ?_
  split
  rename_i v1 v2 v3 e4
  have k5 : Keeps ar z v3 := keeps_snd e4 (State.drawBelow_keeps h1)
  exact State.modTwin_keeps (hw.m rfl) k5

theorem State.takeMirror_keeps {ar : List Area} (hw : Within (Area.telling [.eth, .buses, .parse, .tbl, .sw, .sig,
    .aud, .sec]) ar) {z a0 : State} {a1} {a2} (h1 : Keeps ar z a0) :
    Keeps ar z (State.takeMirror a0 a1 a2) := by
  unfold State.takeMirror
  refine keeps_ite ?_ ?_
  · extract_lets -underBinder -merge +onlyGivenNames v1
    clear_value v1
    refine keeps_ite (State.learnQueue_keeps (hw.m rfl) h1) ?_
    refine keeps_ite ?_ (keeps_ite (State.ageScan_keeps (hw.m rfl) h1) (keeps_ite (State.windowEnd_keeps (hw.m rfl) h1)
      (State.l2Flush_keeps (hw.m rfl) h1)))
    split
    · exact keeps_ite (State.modL2e_keeps (hw.m rfl) h1) h1
    · exact h1
  · refine keeps_ite (State.takeRules_keeps (hw.m rfl) h1) ?_
    refine keeps_ite (State.takeMap_keeps (hw.m rfl) h1) ?_
    refine keeps_ite ?_ h1
    extract_lets -underBinder -merge +onlyGivenNames v2
    clear_value v2
    exact keeps_ite (State.routeSet_keeps (hw.m rfl) h1) (keeps_ite (State.zoneSet_keeps (hw.m rfl) h1) (keeps_ite
        (State.announce_keeps (hw.m rfl)
      h1) (State.announceStop_keeps (hw.m rfl) h1)))

theorem State.takeBulk_keeps {ar : List Area} (hw : Within (Area.telling [.buses, .parse, .tbl, .sw, .sig, .aud,
    .sec, .twin]) ar) {z a0 : State} {a1} {a2} (h1 : Keeps ar z a0) :
    Keeps ar z (State.takeBulk a0 a1 a2) := by
  unfold State.takeBulk
  exact keeps_ite (State.takeRules_keeps (hw.m rfl) h1) (keeps_ite (State.takeMap_keeps (hw.m rfl) h1) (keeps_ite
      (State.takeTime_keeps (hw.m rfl) h1)
    (keeps_ite (State.each_keeps (fun v1 v2 k3 => State.slotTake_keeps (hw.m rfl) k3) h1) (keeps_ite
        (State.each_keeps (fun v4
    v5 k6 => State.l2Take_keeps (hw.m rfl) k6) (State.modTbl_keeps (hw.m rfl) h1)) (keeps_ite (State.routeSet_keeps
        (hw.m rfl) h1) (keeps_ite
    (State.zoneSet_keeps (hw.m rfl) h1) (State.annTake_keeps (hw.m rfl) h1)))))))

theorem execTwinMirrorReceived_keeps {ar : List Area} (hw : Within (Area.telling [.eth, .buses, .parse, .tbl, .sw,
    .sig, .aud, .sec, .twin]) ar) {z : State} {t : Nat} {a1} {s : State} (h : Keeps ar z (s.tick t)) :
    NextKeeps ar z (execTwinMirrorReceived t a1 s) := by
  unfold execTwinMirrorReceived
  extract_lets -underBinder -merge +onlyGivenNames v1
  have k2 : Keeps ar z v1 := h
  clear_value v1
  refine keeps_iteN (keeps_next k2) ?_
  split
  rename_i v3 v4 v5 e6
  have k7 : Keeps ar z v5 := keeps_snd e6 (State.drawBelow_keeps k2)
  extract_lets -underBinder -merge +onlyGivenNames v8
  have k9 : Keeps ar z v8 := State.count_keeps (hw.m rfl) (State.modTwin_keeps (hw.m rfl) k7)
  clear_value v8
  exact keeps_next (State.takeMirror_keeps (hw.m rfl) k9)

theorem execTwinResyncReceived_keeps {ar : List Area} (hw : Within (Area.telling [.buses, .parse, .tbl, .sw, .sig,
    .aud, .sec, .twin]) ar) {z : State} {t : Nat} {a1} {s : State} (h : Keeps ar z (s.tick t)) :
    NextKeeps ar z (execTwinResyncReceived t a1 s) := by
  unfold execTwinResyncReceived
  extract_lets -underBinder -merge +onlyGivenNames v1
  have k2 : Keeps ar z v1 := h
  clear_value v1
  refine keeps_iteN ?_ (keeps_next k2)
  extract_lets -underBinder -merge +onlyGivenNames v3
  have k4 : Keeps ar z v3 := State.each_keeps (fun v5 v6 k7 => State.takeBulk_keeps (hw.m rfl) k7) k2
  clear_value v3
  exact keeps_next (State.modTwin_keeps (hw.m rfl) k4)

theorem execTwinTsyncSend_keeps {ar : List Area} {z : State} {t : Nat} {s : State} (h : Keeps ar z (s.tick t)) :
    NextKeeps ar z (execTwinTsyncSend t s) := by
  unfold execTwinTsyncSend
  extract_lets -underBinder -merge +onlyGivenNames v1
  have k2 : Keeps ar z v1 := h
  clear_value v1
  exact keeps_next (keeps_ite (State.send_keeps k2) k2)

theorem execTwinTsyncReceived_keeps {ar : List Area} (hw : Within [.twin] ar) {z : State} {t : Nat} {a1} {s : State}
    (h : Keeps ar z (s.tick t)) :
    NextKeeps ar z (execTwinTsyncReceived t a1 s) := by
  unfold execTwinTsyncReceived
  extract_lets -underBinder -merge +onlyGivenNames v1
  have k2 : Keeps ar z v1 := h
  clear_value v1
  exact keeps_next (keeps_ite (State.takeTime_keeps (hw.m rfl) k2) k2)

theorem execTwinHelloSend_keeps {ar : List Area} (hw : Within (Area.telling [.chans, .eth, .buses, .parse, .tbl, .sw,
    .sig, .time, .tide, .twin]) ar) {z : State} {t : Nat} {s : State} (h : Keeps ar z (s.tick t)) :
    NextKeeps ar z (execTwinHelloSend t s) := by
  unfold execTwinHelloSend
  extract_lets -underBinder -merge +onlyGivenNames v1
  have k2 : Keeps ar z v1 := State.twinReview_keeps (hw.m rfl) h
  clear_value v1
  exact keeps_next (keeps_ite (State.send_keeps k2) k2)

theorem execTwinHelloReceived_keeps {ar : List Area} (hw : Within (Area.but [.windows, .host, .mbx, .islands, .units,
    .aud, .flt, .cw, .boot]) ar) {z : State} {t : Nat} {a1} {s : State} (h : Keeps ar z (s.tick t)) :
    NextKeeps ar z (execTwinHelloReceived t a1 s) := by
  unfold execTwinHelloReceived
  extract_lets -underBinder -merge +onlyGivenNames v1
  have k2 : Keeps ar z v1 := h
  clear_value v1
  extract_lets -underBinder -merge +onlyGivenNames v3
  clear_value v3
  refine keeps_iteN (keeps_next k2) ?_
  extract_lets -underBinder -merge +onlyGivenNames v4 v5 v6
  clear_value v4 v5 v6
  extract_lets -underBinder -merge +onlyGivenNames v7
  have k8 : Keeps ar z v7 := State.modTwin_keeps (hw.m rfl) k2
  clear_value v7
  extract_lets -underBinder -merge +onlyGivenNames v9
  have k10 : Keeps ar z v9 := keeps_ite (State.ownWakeReq_keeps (hw.m rfl) k8) k8
  clear_value v9
  extract_lets -underBinder -merge +onlyGivenNames v11
  have k12 : Keeps ar z v11 := keeps_ite k10 (State.twinPaths_keeps (hw.m rfl) k10)
  clear_value v11
  extract_lets -underBinder -merge +onlyGivenNames v13
  have k14 : Keeps ar z v13 := keeps_ite (State.twinPathEvent_keeps (hw.m rfl) k12) k12
  clear_value v13
  extract_lets -underBinder -merge +onlyGivenNames v15
  have k16 : Keeps ar z v15 := keeps_ite (State.send_keeps (State.modTwin_keeps (hw.m rfl) k14)) k14
  clear_value v15
  exact keeps_next (State.joinReview_keeps (hw.m rfl) k16)

theorem execTwinLinkDown_keeps {ar : List Area} (hw : Within (Area.telling [.chans, .eth, .buses, .sw, .time, .twin])
    ar) {z : State} {t : Nat} {s : State} (h : Keeps ar z (s.tick t)) :
    NextKeeps ar z (execTwinLinkDown t s) := by
  unfold execTwinLinkDown
  extract_lets -underBinder -merge +onlyGivenNames v1
  have k2 : Keeps ar z v1 := h
  clear_value v1
  extract_lets -underBinder -merge +onlyGivenNames v3
  clear_value v3
  extract_lets -underBinder -merge +onlyGivenNames v4
  have k5 : Keeps ar z v4 := State.modTwin_keeps (hw.m rfl) k2
  clear_value v4
  refine keeps_next ?_
  refine keeps_ite (State.setRole_keeps (hw.m rfl) k5) ?_
  refine keeps_ite k5 ?_
  extract_lets -underBinder -merge +onlyGivenNames v6
  have k7 : Keeps ar z v6 := keeps_ite (State.count_keeps (hw.m rfl) (State.modTwin_keeps (hw.m rfl) k5)) k5
  clear_value v6
  exact State.twinPaths_keeps (hw.m rfl) k7

theorem execTwinRenewReceived_keeps {ar : List Area} (hw : Within [.twin] ar) {z : State} {t : Nat} {a1} {s : State}
    (h : Keeps ar z (s.tick t)) :
    NextKeeps ar z (execTwinRenewReceived t a1 s) := by
  unfold execTwinRenewReceived
  extract_lets -underBinder -merge +onlyGivenNames v1
  have k2 : Keeps ar z v1 := h
  clear_value v1
  exact keeps_next (keeps_ite (State.modTwin_keeps (hw.m rfl) k2) k2)

theorem execShadowTimeout_keeps {ar : List Area} (hw : Within (Area.telling [.chans, .eth, .buses, .sw, .twin]) ar)
    {z : State} {t : Nat} {a1} {s : State} (h : Keeps ar z (s.tick t)) :
    NextKeeps ar z (execShadowTimeout t a1 s) := by
  unfold execShadowTimeout
  extract_lets -underBinder -merge +onlyGivenNames v1
  have k2 : Keeps ar z v1 := h
  clear_value v1
  extract_lets -underBinder -merge +onlyGivenNames v3
  clear_value v3
  refine keeps_iteN (keeps_next k2) ?_
  extract_lets -underBinder -merge +onlyGivenNames v4 v5
  clear_value v4 v5
  extract_lets -underBinder -merge +onlyGivenNames v6
  have k7 : ∀ x0, Keeps ar z x0 → Keeps ar z (v6 x0) := by
    intro v8 k9
    unfold v6
    exact State.mismatch_keeps (hw.m rfl) (State.count_keeps (hw.m rfl) k9)
  clear_value v6
  extract_lets -underBinder -merge +onlyGivenNames v10
  have k11 : Keeps ar z v10 := State.each_keeps (fun v12 v13 k14 => k7 _ (State.bufDrop_keeps (hw.m rfl) k14)) k2
  clear_value v10
  extract_lets -underBinder -merge +onlyGivenNames v15
  have k16 : Keeps ar z v15 := State.each_keeps (fun v17 v18 k19 => k7 _ (State.releaseRef_keeps (hw.m rfl)
      (State.deepTake_keeps (hw.m rfl)
    k19))) k11
  clear_value v15
  exact keeps_next (State.refill_keeps (hw.m rfl) k16)

theorem State.takeReport_keeps {ar : List Area} (hw : Within (Area.telling [.twin]) ar) {z a0 : State} {a1} (h1 :
    Keeps ar z a0) :
    Keeps ar z (State.takeReport a0 a1) := by
  unfold State.takeReport
  extract_lets -underBinder -merge +onlyGivenNames v1 v2
  clear_value v1 v2
  extract_lets -underBinder -merge +onlyGivenNames v3
  have k4 : Keeps ar z v3 := State.modTwin_keeps (hw.m rfl) h1
  clear_value v3
  exact keeps_ite k4 (State.raise_keeps (hw.m rfl) k4)

theorem execTwinHealthSend_keeps {ar : List Area} (hw : Within (Area.telling [.chans, .eth, .buses, .sw, .time,
    .twin]) ar) {z : State} {t : Nat} {s : State} (h : Keeps ar z (s.tick t)) :
    NextKeeps ar z (execTwinHealthSend t s) := by
  unfold execTwinHealthSend
  extract_lets -underBinder -merge +onlyGivenNames v1
  have k2 : Keeps ar z v1 := h
  clear_value v1
  extract_lets -underBinder -merge +onlyGivenNames v3 v4
  clear_value v3 v4
  extract_lets -underBinder -merge +onlyGivenNames v5
  have k6 : Keeps ar z v5 := keeps_ite (State.count_keeps (hw.m rfl) (State.setRole_keeps (hw.m rfl) k2)) k2
  clear_value v5
  refine keeps_iteN (keeps_next k6) ?_
  extract_lets -underBinder -merge +onlyGivenNames v7
  clear_value v7
  extract_lets -underBinder -merge +onlyGivenNames v8
  have k9 : Keeps ar z v8 := State.count_keeps (hw.m rfl) (State.send_keeps k6)
  clear_value v8
  extract_lets -underBinder -merge +onlyGivenNames v10
  have k11 : Keeps ar z v10 := State.modTwin_keeps (hw.m rfl) k9
  clear_value v10
  exact keeps_next (State.takeReport_keeps (hw.m rfl) k11)

theorem execTwinHealthReceived_keeps {ar : List Area} (hw : Within (Area.telling [.twin]) ar) {z : State} {t : Nat}
    {a1} {s : State} (h : Keeps ar z (s.tick t)) :
    NextKeeps ar z (execTwinHealthReceived t a1 s) := by
  unfold execTwinHealthReceived
  extract_lets -underBinder -merge +onlyGivenNames v1
  have k2 : Keeps ar z v1 := h
  clear_value v1
  refine keeps_iteN (keeps_next k2) ?_
  extract_lets -underBinder -merge +onlyGivenNames v3
  clear_value v3
  extract_lets -underBinder -merge +onlyGivenNames v4
  have k5 : Keeps ar z v4 := by
    unfold v4
    split
    · exact State.count_keeps (hw.m rfl) k2
    · exact k2
  clear_value v4
  extract_lets -underBinder -merge +onlyGivenNames v6
  have k7 : Keeps ar z v6 := State.modTwin_keeps (hw.m rfl) k5
  clear_value v6
  extract_lets -underBinder -merge +onlyGivenNames v8
  have k9 : Keeps ar z v8 := State.takeReport_keeps (hw.m rfl) k7
  clear_value v8
  exact keeps_next (keeps_ite (State.raise_keeps (hw.m rfl) k9) k9)

theorem execHealthReportTimeout_keeps {ar : List Area} (hw : Within (Area.telling [.twin]) ar) {z : State} {t : Nat}
    {s : State} (h : Keeps ar z (s.tick t)) :
    NextKeeps ar z (execHealthReportTimeout t s) := by
  unfold execHealthReportTimeout
  extract_lets -underBinder -merge +onlyGivenNames v1
  have k2 : Keeps ar z v1 := h
  clear_value v1
  extract_lets -underBinder -merge +onlyGivenNames v3
  clear_value v3
  exact keeps_next (keeps_ite (State.raise_keeps (hw.m rfl) (State.modTwin_keeps (hw.m rfl) k2)) k2)

theorem execBistSlice_keeps {ar : List Area} (hw : Within (Area.but [.host, .slp]) ar) {z : State} {t : Nat} {a1} {s
    : State} (h : Keeps ar z (s.tick t)) :
    NextKeeps ar z (execBistSlice t a1 s) := by
  unfold execBistSlice
  extract_lets -underBinder -merge +onlyGivenNames v1
  have k2 : Keeps ar z v1 := h
  clear_value v1
  refine keeps_iteN (keeps_next k2) ?_
  extract_lets -underBinder -merge +onlyGivenNames v3
  have k4 : Keeps ar z v3 := State.count_keeps (hw.m rfl) (State.modTwin_keeps (hw.m rfl) k2)
  clear_value v3
  refine keeps_iteN (keeps_next k4) ?_
  extract_lets -underBinder -merge +onlyGivenNames v5
  have k6 : Keeps ar z v5 := State.count_keeps (hw.m rfl) (State.modTwin_keeps (hw.m rfl) k4)
  clear_value v5
  split
  rename_i v7 v8 v9 e10
  have k11 : Keeps ar z v9 := keeps_snd e10 (State.drawBelow_keeps k6)
  extract_lets -underBinder -merge +onlyGivenNames v12
  clear_value v12
  split
  rename_i v13 v14 v15 e16
  have k17 : Keeps ar z v15 := keeps_snd e16 (State.drawBelow_keeps k11)
  exact keeps_next (State.report_keeps (hw.m rfl) k17)

theorem execHandoverBusesIdle_keeps {ar : List Area} (hw : Within (Area.telling [.windows, .mbx, .chans, .eth,
    .buses, .sw, .time, .twin, .cw, .boot]) ar) {z : State} {t : Nat} {s : State} (h : Keeps ar z (s.tick t)) :
    NextKeeps ar z (execHandoverBusesIdle t s) := by
  unfold execHandoverBusesIdle
  extract_lets -underBinder -merge +onlyGivenNames v1
  have k2 : Keeps ar z v1 := h
  clear_value v1
  exact keeps_next (keeps_ite (State.completeOf_keeps (hw.m rfl) (State.count_keeps (hw.m rfl) (State.send_keeps
      (State.setRole_keeps (hw.m rfl)
    k2)))) k2)

theorem execTwinHandoverReceived_keeps {ar : List Area} (hw : Within (Area.telling [.chans, .eth, .buses, .sw, .time,
    .twin]) ar) {z : State} {t : Nat} {s : State} (h : Keeps ar z (s.tick t)) :
    NextKeeps ar z (execTwinHandoverReceived t s) := by
  unfold execTwinHandoverReceived
  extract_lets -underBinder -merge +onlyGivenNames v1
  have k2 : Keeps ar z v1 := h
  clear_value v1
  exact keeps_next (keeps_ite k2 (keeps_ite (State.claim_keeps (hw.m rfl) k2) (State.modTwin_keeps (hw.m rfl) k2)))

theorem effectTwinConfig_keeps {ar : List Area} (hw : Within [.twin] ar) {z a0 : State} {a1} (h1 : Keeps ar z a0) :
    Keeps ar z (effectTwinConfig a0 a1).1 := by
  unfold effectTwinConfig
  exact keeps_mk1 (State.modTwin_keeps (hw.m rfl) h1)

theorem execTwinConfig_keeps {ar : List Area} (hw : Within (Area.telling [.windows, .mbx, .twin, .cw, .boot]) ar) {z
    : State} {t : Nat} {a1} {s : State} (h : Keeps ar z (s.tick t)) :
    NextKeeps ar z (execTwinConfig t a1 s) := by
  unfold execTwinConfig
  exact keeps_next (State.simple_keeps (hw.m rfl) h (fun v1 v2 k3 => effectTwinConfig_keeps (hw.m rfl) k3))

theorem effectTwinEnable_keeps {ar : List Area} (hw : Within (Area.telling [.chans, .eth, .buses, .parse, .tbl, .sw,
    .sig, .time, .tide, .twin]) ar) {z a0 : State} {a1} (h1 : Keeps ar z a0) :
    Keeps ar z (effectTwinEnable a0 a1).1 := by
  unfold effectTwinEnable
  refine keeps_ite1 (keeps_mk1 h1) ?_
  extract_lets -underBinder -merge +onlyGivenNames v1
  have k2 : Keeps ar z v1 := State.setRole_keeps (hw.m rfl) h1
  clear_value v1
  extract_lets -underBinder -merge +onlyGivenNames v3
  have k4 : Keeps ar z v3 := State.modTwin_keeps (hw.m rfl) k2
  clear_value v3
  exact keeps_mk1 (State.joinReview_keeps (hw.m rfl) (keeps_ite (State.send_keeps k4) k4))

theorem execTwinEnable_keeps {ar : List Area} (hw : Within (Area.but [.host, .islands, .units, .aud, .sec, .flt,
    .slp]) ar) {z : State} {t : Nat} {a1} {s : State} (h : Keeps ar z (s.tick t)) :
    NextKeeps ar z (execTwinEnable t a1 s) := by
  unfold execTwinEnable
  exact keeps_next (State.simple_keeps (hw.m rfl) h (fun v1 v2 k3 => effectTwinEnable_keeps (hw.m rfl) k3))

theorem effectTwinDisable_keeps {ar : List Area} (hw : Within (Area.telling [.chans, .eth, .buses, .sw, .time,
    .twin]) ar) {z a0 : State} {a1} (h1 : Keeps ar z a0) :
    Keeps ar z (effectTwinDisable a0 a1).1 := by
  unfold effectTwinDisable
  exact keeps_ite1 (keeps_mk1 h1) (keeps_mk1 (State.modTwin_keeps (hw.m rfl) (State.setRole_keeps (hw.m rfl) h1)))

theorem execTwinDisable_keeps {ar : List Area} (hw : Within (Area.telling [.windows, .mbx, .chans, .eth, .buses, .sw,
    .time, .twin, .cw, .boot]) ar) {z : State} {t : Nat} {a1} {s : State} (h : Keeps ar z (s.tick t)) :
    NextKeeps ar z (execTwinDisable t a1 s) := by
  unfold execTwinDisable
  exact keeps_next (State.simple_keeps (hw.m rfl) h (fun v1 v2 k3 => effectTwinDisable_keeps (hw.m rfl) k3))

theorem execTwinHandover_keeps {ar : List Area} (hw : Within (Area.telling [.windows, .mbx, .twin, .cw, .boot]) ar)
    {z : State} {t : Nat} {a1} {s : State} (h : Keeps ar z (s.tick t)) :
    NextKeeps ar z (execTwinHandover t a1 s) := by
  unfold execTwinHandover
  exact keeps_next (State.begins_keeps (hw.m rfl) h (fun v1 v2 k3 => State.modTwin_keeps (hw.m rfl) k3))

theorem effectTwinStatus_keeps {ar : List Area} {z a0 : State} {a1} (h1 : Keeps ar z a0) :
    Keeps ar z (effectTwinStatus a0 a1).1 := by
  unfold effectTwinStatus
  extract_lets -underBinder -merge +onlyGivenNames v1
  clear_value v1
  exact keeps_mk1 (State.draw_keeps h1)

theorem execTwinStatus_keeps {ar : List Area} (hw : Within (Area.telling [.windows, .mbx, .cw, .boot]) ar) {z :
    State} {t : Nat} {a1} {s : State} (h : Keeps ar z (s.tick t)) :
    NextKeeps ar z (execTwinStatus t a1 s) := by
  unfold execTwinStatus
  exact keeps_next (State.simple_keeps (hw.m rfl) h (fun v1 v2 k3 => effectTwinStatus_keeps k3))

end Sys2Proof.Machine
end

