-- ==== Sys2Proof/Laws/KeepsCauseway.lean ====
section
/-! SUPPORT. What the operations of Causeway, Reset, Sleep, Boot keep, and which areas they may move. -/

set_option Elab.async false

namespace Sys2Proof.Machine

open Sys2Proof

theorem State.persist_keeps {ar : List Area} (hw : Within [.boot] ar) {z a0 : State} {a1} (h1 : Keeps ar z a0) :
    Keeps ar z (State.persist a0 a1) := by
  unfold State.persist
  exact State.modBoot_keeps (hw.m rfl) h1

theorem execCwHelloSend_keeps {ar : List Area} (hw : Within [.ctrs, .links] ar) {z : State} {t : Nat} {a1} {s :
    State} (h : Keeps ar z (s.tick t)) :
    NextKeeps ar z (execCwHelloSend t a1 s) := by
  unfold execCwHelloSend
  exact keeps_next (State.hello_keeps (hw.m rfl) h)

theorem State.takeHello_keeps {ar : List Area} (hw : Within (Area.telling [.eth, .tbl, .sw, .sec, .cw]) ar) {z a0 :
    State} {a1} {a2} {a3} {a4} (h1 : Keeps ar z a0) :
    Keeps ar z (State.takeHello a0 a1 a2 a3 a4) := by
  unfold State.takeHello
  extract_lets -underBinder -merge +onlyGivenNames v1 v2 v3 v4
  clear_value v1 v2 v3 v4
  extract_lets -underBinder -merge +onlyGivenNames v5
  have k6 : Keeps ar z v5 := State.modPort_keeps (hw.m rfl) h1
  clear_value v5
  extract_lets -underBinder -merge +onlyGivenNames v7
  have k8 : Keeps ar z v7 := keeps_ite k6 (State.cwLinkEvent_keeps (hw.m rfl) k6)
  clear_value v7
  extract_lets -underBinder -merge +onlyGivenNames v9
  have k10 : Keeps ar z v9 := keeps_ite (State.encJudge_keeps (hw.m rfl) (State.cwSession_keeps (hw.m rfl) k8)) k8
  clear_value v9
  extract_lets -underBinder -merge +onlyGivenNames v11
  have k12 : Keeps ar z v11 := State.chainSettle_keeps (hw.m rfl) k10
  clear_value v11
  exact keeps_ite k12 (State.topologySend_keeps (hw.m rfl) k12)

theorem execCwHelloReceived_keeps {ar : List Area} (hw : Within (Area.telling [.eth, .tbl, .sw, .sec, .cw]) ar) {z :
    State} {t : Nat} {a1} {a2} {s : State} (h : Keeps ar z (s.tick t)) :
    NextKeeps ar z (execCwHelloReceived t a1 a2 s) := by
  unfold execCwHelloReceived
  extract_lets -underBinder -merge +onlyGivenNames v1
  have k2 : Keeps ar z v1 := h
  clear_value v1
  exact keeps_next (keeps_ite (State.takeHello_keeps (hw.m rfl) k2) k2)

theorem execCwEngineClaim_keeps {ar : List Area} (hw : Within (Area.telling [.eth, .sw, .sec]) ar) {z : State} {t :
    Nat} {a1} {s : State} (h : Keeps ar z (s.tick t)) :
    NextKeeps ar z (execCwEngineClaim t a1 s) := by
  unfold execCwEngineClaim
  extract_lets -underBinder -merge +onlyGivenNames v1
  have k2 : Keeps ar z v1 := h
  clear_value v1
  refine keeps_next ?_
  refine keeps_ite k2 ?_
  extract_lets -underBinder -merge +onlyGivenNames v3
  have k4 : Keeps ar z v3 := State.cwClaim_keeps (hw.m rfl) (State.cwClaim_keeps (hw.m rfl) k2)
  clear_value v3
  extract_lets -underBinder -merge +onlyGivenNames v5
  clear_value v5
  extract_lets -underBinder -merge +onlyGivenNames v6
  have k7 : Keeps ar z v6 := State.modSec_keeps (hw.m rfl) k4
  clear_value v6
  extract_lets -underBinder -merge +onlyGivenNames v8
  have k9 : Keeps ar z v8 := keeps_ite (State.cwSession_keeps (hw.m rfl) k7) k7
  clear_value v8
  exact State.encJudge_keeps (hw.m rfl) k9

theorem execNeighbourLost_keeps {ar : List Area} (hw : Within (Area.telling [.eth, .tbl, .sw, .sec, .cw]) ar) {z :
    State} {t : Nat} {a1} {s : State} (h : Keeps ar z (s.tick t)) :
    NextKeeps ar z (execNeighbourLost t a1 s) := by
  unfold execNeighbourLost
  extract_lets -underBinder -merge +onlyGivenNames v1
  have k2 : Keeps ar z v1 := h
  clear_value v1
  exact keeps_next (keeps_ite (State.nbLost_keeps (hw.m rfl) k2) k2)

theorem State.setId_keeps {ar : List Area} (hw : Within (Area.telling [.eth, .tbl, .sec, .cw]) ar) {z a0 : State}
    {a1} (h1 : Keeps ar z a0) :
    Keeps ar z (State.setId a0 a1) := by
  unfold State.setId
  extract_lets -underBinder -merge +onlyGivenNames v1
  clear_value v1
  exact State.topologySend_keeps (hw.m rfl) (State.chainSettle_keeps (hw.m rfl) (State.modCw_keeps (hw.m rfl) h1))

theorem State.takeTopology_keeps {ar : List Area} (hw : Within (Area.telling [.eth, .tbl, .sec, .cw]) ar) {z a0 :
    State} {a1} (h1 : Keeps ar z a0) :
    Keeps ar z (State.takeTopology a0 a1) := by
  unfold State.takeTopology
  extract_lets -underBinder -merge +onlyGivenNames v1 v2
  clear_value v1 v2
  refine keeps_ite h1 ?_
  refine keeps_ite (keeps_ite h1 (State.raise_keeps (hw.m rfl) (State.setId_keeps (hw.m rfl) h1))) ?_
  extract_lets -underBinder -merge +onlyGivenNames v3
  clear_value v3
  exact State.chainSettle_keeps (hw.m rfl) (State.modPeer_keeps (hw.m rfl) h1)

theorem execTopologySend_keeps {ar : List Area} (hw : Within (Area.telling [.sec, .cw]) ar) {z : State} {t : Nat} {s
    : State} (h : Keeps ar z (s.tick t)) :
    NextKeeps ar z (execTopologySend t s) := by
  unfold execTopologySend
  exact keeps_next (State.topologySend_keeps (hw.m rfl) h)

theorem execTopologyReceived_keeps {ar : List Area} (hw : Within (Area.telling [.eth, .tbl, .sec, .cw]) ar) {z :
    State} {t : Nat} {a1} {a2} {s : State} (h : Keeps ar z (s.tick t)) :
    NextKeeps ar z (execTopologyReceived t a1 a2 s) := by
  unfold execTopologyReceived
  extract_lets -underBinder -merge +onlyGivenNames v1
  have k2 : Keeps ar z v1 := h
  clear_value v1
  exact keeps_next (keeps_ite (State.takeTopology_keeps (hw.m rfl) k2) k2)

theorem execDeviceUnheard_keeps {ar : List Area} (hw : Within (Area.telling [.eth, .tbl, .cw]) ar) {z : State} {t :
    Nat} {a1} {s : State} (h : Keeps ar z (s.tick t)) :
    NextKeeps ar z (execDeviceUnheard t a1 s) := by
  unfold execDeviceUnheard
  extract_lets -underBinder -merge +onlyGivenNames v1
  have k2 : Keeps ar z v1 := h
  clear_value v1
  refine keeps_next ?_
  split
  · exact k2
  · refine keeps_ite ?_ k2
    extract_lets -underBinder -merge +onlyGivenNames v3
    clear_value v3
    exact State.chainSettle_keeps (hw.m rfl) (State.modCw_keeps (hw.m rfl) k2)

theorem execCwEventReceived_keeps {ar : List Area} (hw : Within Area.told ar) {z : State} {t : Nat} {a1} {a2} {s :
    State} (h : Keeps ar z (s.tick t)) :
    NextKeeps ar z (execCwEventReceived t a1 a2 s) := by
  unfold execCwEventReceived
  extract_lets -underBinder -merge +onlyGivenNames v1
  have k2 : Keeps ar z v1 := h
  clear_value v1
  exact keeps_next (keeps_ite (State.raise_keeps (hw.m rfl) k2) k2)

theorem State.cwPortSet_keeps {ar : List Area} (hw : Within (Area.telling [.eth, .tbl, .sw, .sec, .cw]) ar) {z a0 :
    State} {a1} {a2} (h1 : Keeps ar z a0) :
    Keeps ar z (State.cwPortSet a0 a1 a2) := by
  unfold State.cwPortSet
  extract_lets -underBinder -merge +onlyGivenNames v1 v2 v3
  clear_value v1 v2 v3
  refine keeps_ite h1 ?_
  extract_lets -underBinder -merge +onlyGivenNames v4
  have k5 : Keeps ar z v4 := State.modPort_keeps (hw.m rfl) h1
  clear_value v4
  exact keeps_ite (State.cwRenew_keeps (hw.m rfl) k5) k5

theorem effectCwConfig_keeps {ar : List Area} (hw : Within (Area.telling [.eth, .tbl, .sw, .sec, .cw]) ar) {z a0 :
    State} {a1} (h1 : Keeps ar z a0) :
    Keeps ar z (effectCwConfig a0 a1).1 := by
  unfold effectCwConfig
  extract_lets -underBinder -merge +onlyGivenNames v1 v2
  clear_value v1 v2
  extract_lets -underBinder -merge +onlyGivenNames v3
  have k4 : Keeps ar z v3 := State.modCw_keeps (hw.m rfl) h1
  clear_value v3
  extract_lets -underBinder -merge +onlyGivenNames v5
  have k6 : Keeps ar z v5 := State.chainSettle_keeps (hw.m rfl) (State.each_keeps (fun v7 v8 k9 =>
      State.cwPortSet_keeps (hw.m rfl) k9) k4)
  clear_value v5
  extract_lets -underBinder -merge +onlyGivenNames v10
  have k11 : Keeps ar z v10 := keeps_ite (State.topologySend_keeps (hw.m rfl) (State.each_keeps (fun v12 v13 k14 =>
    State.hello_keeps (hw.m rfl) k14) k6)) k6
  clear_value v10
  extract_lets -underBinder -merge +onlyGivenNames v15
  clear_value v15
  exact keeps_mk1 k11

theorem execCwConfig_keeps {ar : List Area} (hw : Within (Area.telling [.windows, .mbx, .eth, .tbl, .sw, .sec, .cw,
    .boot]) ar) {z : State} {t : Nat} {a1} {s : State} (h : Keeps ar z (s.tick t)) :
    NextKeeps ar z (execCwConfig t a1 s) := by
  unfold execCwConfig
  exact keeps_next (State.simple_keeps (hw.m rfl) h (fun v1 v2 k3 => effectCwConfig_keeps (hw.m rfl) k3))

theorem effectCwIdSet_keeps {ar : List Area} (hw : Within (Area.telling [.eth, .tbl, .sec, .cw, .boot]) ar) {z a0 :
    State} {a1} (h1 : Keeps ar z a0) :
    Keeps ar z (effectCwIdSet a0 a1).1 := by
  unfold effectCwIdSet
  extract_lets -underBinder -merge +onlyGivenNames v1
  clear_value v1
  extract_lets -underBinder -merge +onlyGivenNames v2
  have k3 : Keeps ar z v2 := keeps_ite h1 (State.setId_keeps (hw.m rfl) h1)
  clear_value v2
  extract_lets -underBinder -merge +onlyGivenNames v4
  have k5 : Keeps ar z v4 := keeps_ite (State.persist_keeps (hw.m rfl) k3) k3
  clear_value v4
  exact keeps_mk1 k5

theorem execCwIdSet_keeps {ar : List Area} (hw : Within (Area.telling [.windows, .mbx, .eth, .tbl, .sec, .cw, .boot])
    ar) {z : State} {t : Nat} {a1} {s : State} (h : Keeps ar z (s.tick t)) :
    NextKeeps ar z (execCwIdSet t a1 s) := by
  unfold execCwIdSet
  exact keeps_next (State.simple_keeps (hw.m rfl) h (fun v1 v2 k3 => effectCwIdSet_keeps (hw.m rfl) k3))

theorem execCwTopology_keeps {ar : List Area} (hw : Within (Area.telling [.windows, .mbx, .cw, .boot]) ar) {z :
    State} {t : Nat} {a1} {s : State} (h : Keeps ar z (s.tick t)) :
    NextKeeps ar z (execCwTopology t a1 s) := by
  unfold execCwTopology
  exact keeps_next (State.query_keeps (hw.m rfl) h)

theorem State.islandsSet_keeps {ar : List Area} (hw : Within [.islands, .units] ar) {z a0 : State} {a1} (h1 : Keeps
    ar z a0) :
    Keeps ar z (State.islandsSet a0 a1) := by
  unfold State.islandsSet
  exact keeps_same hw h1

theorem State.coreReset_keeps {ar : List Area} (hw : Within Area.all ar) {z a0 : State} {a1} {a2} (h1 : Keeps ar z a0) :
    Keeps ar z (State.coreReset a0 a1 a2) := by
  have k : Keeps ar z (a0.islandsSet a2) := State.islandsSet_keeps (hw.m rfl) h1
  exact ⟨k.pending, k.now, k.draws, k.sent, fun _ => rfl, fun x e => absurd (hw x (by cases x <;> decide)) e⟩

theorem State.deviceReset_keeps {ar : List Area} (hw : Within Area.all ar) {z a0 : State} (h1 : Keeps ar z a0) :
    Keeps ar z (State.deviceReset a0) := by
  unfold State.deviceReset
  extract_lets -underBinder -merge +onlyGivenNames v1
  have k2 : Keeps ar z v1 := State.coreReset_keeps (hw.m rfl) h1
  clear_value v1
  exact keeps_same hw k2

theorem State.aonLost_keeps {ar : List Area} (hw : Within Area.all ar) {z a0 : State} (h1 : Keeps ar z a0) :
    Keeps ar z (State.aonLost a0) := by
  unfold State.aonLost
  extract_lets -underBinder -merge +onlyGivenNames v1
  have k2 : Keeps ar z v1 := State.deviceReset_keeps (hw.m rfl) h1
  clear_value v1
  exact keeps_same hw k2

theorem State.modRefusal_keeps {ar : List Area} (hw : Within [.slp] ar) {z a0 : State} {a1} {a2} {a3} (h1 : Keeps ar
    z a0) :
    Keeps ar z (State.modRefusal a0 a1 a2 a3) := by
  unfold State.modRefusal
  exact State.modSlp_keeps (hw.m rfl) h1

theorem State.addRefusal_keeps {ar : List Area} (hw : Within [.slp] ar) {z a0 : State} {a1} (h1 : Keeps ar z a0) :
    Keeps ar z (State.addRefusal a0 a1) := by
  unfold State.addRefusal
  exact State.modSlp_keeps (hw.m rfl) h1

theorem State.refuses_keeps {ar : List Area} (hw : Within (Area.telling [.slp]) ar) {z a0 : State} {a1} {a2} {a3}
    {a4} (h1 : Keeps ar z a0) :
    Keeps ar z (State.refuses a0 a1 a2 a3 a4) := by
  unfold State.refuses
  extract_lets -underBinder -merge +onlyGivenNames v1 v2
  clear_value v1 v2
  refine keeps_ite (State.modRefusal_keeps (hw.m rfl) h1) ?_
  extract_lets -underBinder -merge +onlyGivenNames v3
  have k4 : Keeps ar z v3 := keeps_ite (State.modRefusal_keeps (hw.m rfl) h1) (State.addRefusal_keeps (hw.m rfl) h1)
  clear_value v3
  exact keeps_ite (State.raise_keeps (hw.m rfl) k4) k4

theorem State.consents_keeps {ar : List Area} (hw : Within [.slp] ar) {z a0 : State} {a1} {a2} (h1 : Keeps ar z a0) :
    Keeps ar z (State.consents a0 a1 a2) := by
  unfold State.consents
  exact State.modRefusal_keeps (hw.m rfl) h1

theorem State.lapJudge_keeps {ar : List Area} (hw : Within (Area.telling [.slp]) ar) {z a0 : State} {a1} {a2} {a3}
    {a4} (h1 : Keeps ar z a0) :
    Keeps ar z (State.lapJudge a0 a1 a2 a3 a4).1 := by
  unfold State.lapJudge
  extract_lets -underBinder -merge +onlyGivenNames v1 v2
  clear_value v1 v2
  extract_lets -underBinder -merge +onlyGivenNames v3
  have k4 : Keeps ar z v3 := State.each_keeps (fun v5 v6 k7 => keeps_ite (State.consents_keeps (hw.m rfl) k7)
      (State.refuses_keeps (hw.m rfl)
    k7)) h1
  clear_value v3
  split
  · exact keeps_mk1 k4
  · exact keeps_ite1 (keeps_mk1 (State.raise_keeps (hw.m rfl) (State.modRefusal_keeps (hw.m rfl) k4))) (keeps_mk1 k4)
  · exact keeps_mk1 k4

theorem State.modWk_keeps {ar : List Area} (hw : Within [.buses] ar) {z a0 : State} {a1} {a2} (h1 : Keeps ar z a0) :
    Keeps ar z (State.modWk a0 a1 a2) := by
  unfold State.modWk
  exact State.modBus_keeps (hw.m rfl) h1

theorem State.busLapEnd_keeps {ar : List Area} (hw : Within (Area.telling [.buses, .slp]) ar) {z a0 : State} {a1}
    {a2} (h1 : Keeps ar z a0) :
    Keeps ar z (State.busLapEnd a0 a1 a2) := by
  unfold State.busLapEnd
  refine keeps_ite (State.modWk_keeps (hw.m rfl) h1) ?_
  extract_lets -underBinder -merge +onlyGivenNames v1
  clear_value v1
  extract_lets -underBinder -merge +onlyGivenNames v2
  have k3 : Keeps ar z v2.1 := State.lapJudge_keeps (hw.m rfl) h1
  clear_value v2
  exact State.modWk_keeps (hw.m rfl) k3

theorem State.busLapStart_keeps {ar : List Area} (hw : Within (Area.telling [.buses, .slp]) ar) {z a0 : State} {a1}
    {a2} (h1 : Keeps ar z a0) :
    Keeps ar z (State.busLapStart a0 a1 a2) := by
  unfold State.busLapStart
  extract_lets -underBinder -merge +onlyGivenNames v1 v2 v3
  clear_value v1 v2 v3
  extract_lets -underBinder -merge +onlyGivenNames v4
  have k5 : Keeps ar z v4 := State.count_keeps (hw.m rfl) h1
  clear_value v4
  extract_lets -underBinder -merge +onlyGivenNames v6
  clear_value v6
  extract_lets -underBinder -merge +onlyGivenNames v7
  have k8 : Keeps ar z v7 := keeps_ite (State.send_keeps k5) k5
  clear_value v7
  extract_lets -underBinder -merge +onlyGivenNames v9
  clear_value v9
  exact keeps_ite (State.busLapEnd_keeps (hw.m rfl) k8) (State.modWk_keeps (hw.m rfl) k8)

theorem State.sleepEnter_keeps {ar : List Area} (hw : Within (Area.telling [.buses, .slp]) ar) {z a0 : State} {a1}
    (h1 : Keeps ar z a0) :
    Keeps ar z (State.sleepEnter a0 a1) := by
  unfold State.sleepEnter
  extract_lets -underBinder -merge +onlyGivenNames v1
  clear_value v1
  extract_lets -underBinder -merge +onlyGivenNames v2
  have k3 : Keeps ar z v2 := State.modSlp_keeps (hw.m rfl) h1
  clear_value v2
  extract_lets -underBinder -merge +onlyGivenNames v4
  have k5 : Keeps ar z v4 := by
    unfold v4
    split
    · rename_i v6 v7
      exact State.latchWake_keeps (hw.m rfl) k3
    · rename_i v9
      exact k3
  clear_value v4
  extract_lets -underBinder -merge +onlyGivenNames v11
  have k12 : Keeps ar z v11 := keeps_ite (State.send_keeps k5) k5
  clear_value v11
  exact keeps_ite (State.each_keeps (fun v13 v14 k15 => State.busLapStart_keeps (hw.m rfl) k15) k12) k12

theorem State.commitHere_keeps {ar : List Area} (hw : Within (Area.telling [.buses, .slp]) ar) {z a0 : State} (h1 :
    Keeps ar z a0) :
    Keeps ar z (State.commitHere a0) := by
  unfold State.commitHere
  exact keeps_ite (State.sleepEnter_keeps (hw.m rfl) h1) (State.modSlp_keeps (hw.m rfl) h1)

theorem State.lapPass_keeps {ar : List Area} (hw : Within (Area.telling [.sec]) ar) {z a0 : State} {a1} {a2} {a3} (h1
    : Keeps ar z a0) :
    Keeps ar z (State.lapPass a0 a1 a2 a3) := by
  unfold State.lapPass
  exact keeps_ite h1 (State.tell_keeps (hw.m rfl) h1)

theorem State.lapReturn_keeps {ar : List Area} (hw : Within (Area.telling [.buses, .sec, .slp]) ar) {z a0 : State}
    {a1} (h1 : Keeps ar z a0) :
    Keeps ar z (State.lapReturn a0 a1) := by
  unfold State.lapReturn
  extract_lets -underBinder -merge +onlyGivenNames v1
  have k2 : Keeps ar z v1.1 := State.lapJudge_keeps (hw.m rfl) h1
  clear_value v1
  extract_lets -underBinder -merge +onlyGivenNames v3
  have k4 : Keeps ar z v3 := k2
  clear_value v3
  refine keeps_ite ?_ (State.modSlp_keeps (hw.m rfl) (State.count_keeps (hw.m rfl) k4))
  extract_lets -underBinder -merge +onlyGivenNames v5
  have k6 : Keeps ar z v5 := State.modSlp_keeps (hw.m rfl) (State.count_keeps (hw.m rfl) k4)
  clear_value v5
  exact State.commitHere_keeps (hw.m rfl) (State.lapPass_keeps (hw.m rfl) k6)

theorem State.lapForward_keeps {ar : List Area} (hw : Within (Area.telling [.buses, .sec, .slp]) ar) {z a0 : State}
    (h1 : Keeps ar z a0) :
    Keeps ar z (State.lapForward a0) := by
  unfold State.lapForward
  refine keeps_ite h1 ?_
  extract_lets -underBinder -merge +onlyGivenNames v1 v2 v3
  clear_value v1 v2 v3
  extract_lets -underBinder -merge +onlyGivenNames v4
  have k5 : Keeps ar z v4 := State.modSlp_keeps (hw.m rfl) h1
  clear_value v4
  exact keeps_ite (State.lapReturn_keeps (hw.m rfl) k5) (State.lapPass_keeps (hw.m rfl) k5)

theorem State.lapJoin_keeps {ar : List Area} (hw : Within (Area.telling [.buses, .sec, .slp]) ar) {z a0 : State} {a1}
    {a2} {a3} (h1 : Keeps ar z a0) :
    Keeps ar z (State.lapJoin a0 a1 a2 a3) := by
  unfold State.lapJoin
  extract_lets -underBinder -merge +onlyGivenNames v1
  have k2 : Keeps ar z v1 := keeps_ite (State.cancelled_keeps (hw.m rfl) h1) h1
  clear_value v1
  extract_lets -underBinder -merge +onlyGivenNames v3
  have k4 : Keeps ar z v3 := State.modSlp_keeps (hw.m rfl) k2
  clear_value v3
  exact State.lapForward_keeps (hw.m rfl) (State.each_keeps (fun v5 v6 k7 => State.busLapStart_keeps (hw.m rfl) k7) k4)

theorem execConsentLapStart_keeps {ar : List Area} (hw : Within (Area.telling [.buses, .sec, .slp]) ar) {z : State}
    {t : Nat} {s : State} (h : Keeps ar z (s.tick t)) :
    NextKeeps ar z (execConsentLapStart t s) := by
  unfold execConsentLapStart
  extract_lets -underBinder -merge +onlyGivenNames v1
  have k2 : Keeps ar z v1 := h
  clear_value v1
  exact keeps_next (keeps_ite (State.lapJoin_keeps (hw.m rfl) (State.count_keeps (hw.m rfl) k2)) k2)

theorem State.busLapTake_keeps {ar : List Area} (hw : Within (Area.telling [.buses, .sec, .slp]) ar) {z a0 : State}
    {a1} {a2} {a3} (h1 : Keeps ar z a0) :
    Keeps ar z (State.busLapTake a0 a1 a2 a3) := by
  unfold State.busLapTake
  refine keeps_ite ?_ h1
  extract_lets -underBinder -merge +onlyGivenNames v1 v2
  clear_value v1 v2
  extract_lets -underBinder -merge +onlyGivenNames v3
  exact keeps_ite (State.lapForward_keeps (hw.m rfl) (State.busLapEnd_keeps (hw.m rfl) h1)) (State.modWk_keeps (hw.m
      rfl) h1)

theorem execBusLapMessageReceived_keeps {ar : List Area} (hw : Within (Area.telling [.buses, .sec, .slp]) ar) {z :
    State} {t : Nat} {a1} {a2} {s : State} (h : Keeps ar z (s.tick t)) :
    NextKeeps ar z (execBusLapMessageReceived t a1 a2 s) := by
  unfold execBusLapMessageReceived
  extract_lets -underBinder -merge +onlyGivenNames v1
  have k2 : Keeps ar z v1 := h
  clear_value v1
  refine keeps_next ?_
  split
  · exact keeps_ite (State.busLapTake_keeps (hw.m rfl) k2) k2
  · exact k2

theorem State.busLapSkip_keeps {ar : List Area} (hw : Within (Area.telling [.buses, .sec, .slp]) ar) {z a0 : State}
    {a1} {a2} (h1 : Keeps ar z a0) :
    Keeps ar z (State.busLapSkip a0 a1 a2) := by
  unfold State.busLapSkip
  extract_lets -underBinder -merge +onlyGivenNames v1 v2 v3
  clear_value v1 v2 v3
  extract_lets -underBinder -merge +onlyGivenNames v4
  have k5 : Keeps ar z v4 := State.send_keeps (State.count_keeps (hw.m rfl) h1)
  clear_value v4
  extract_lets -underBinder -merge +onlyGivenNames v6
  clear_value v6
  exact keeps_ite (State.lapForward_keeps (hw.m rfl) (State.busLapEnd_keeps (hw.m rfl) k5)) (State.modWk_keeps (hw.m
      rfl) k5)

theorem execNodeSlotTimeout_keeps {ar : List Area} (hw : Within (Area.telling [.buses, .sec, .slp]) ar) {z : State}
    {t : Nat} {a1} {s : State} (h : Keeps ar z (s.tick t)) :
    NextKeeps ar z (execNodeSlotTimeout t a1 s) := by
  unfold execNodeSlotTimeout
  extract_lets -underBinder -merge +onlyGivenNames v1
  have k2 : Keeps ar z v1 := h
  clear_value v1
  refine keeps_next ?_
  split
  · exact keeps_ite (State.busLapSkip_keeps (hw.m rfl) k2) k2
  · exact k2

theorem State.cancelTake_keeps {ar : List Area} (hw : Within (Area.telling [.slp]) ar) {z a0 : State} (h1 : Keeps ar
    z a0) :
    Keeps ar z (State.cancelTake a0) := by
  unfold State.cancelTake
  exact keeps_ite (State.cancelled_keeps (hw.m rfl) (State.count_keeps (hw.m rfl) (State.modSlp_keeps (hw.m rfl)
      h1))) (keeps_ite (State.count_keeps (hw.m rfl)
    h1) h1)

theorem execDeviceLapReceived_keeps {ar : List Area} (hw : Within (Area.telling [.buses, .sec, .slp]) ar) {z : State}
    {t : Nat} {a1} {a2} {s : State} (h : Keeps ar z (s.tick t)) :
    NextKeeps ar z (execDeviceLapReceived t a1 a2 s) := by
  unfold execDeviceLapReceived
  extract_lets -underBinder -merge +onlyGivenNames v1
  have k2 : Keeps ar z v1 := h
  clear_value v1
  extract_lets -underBinder -merge +onlyGivenNames v3 v4 v5
  clear_value v3 v4 v5
  exact keeps_next (keeps_ite k2 (keeps_ite (keeps_ite (keeps_ite (State.lapReturn_keeps (hw.m rfl) k2) k2)
      (State.lapJoin_keeps (hw.m rfl)
    k2)) (keeps_ite (keeps_ite k2 (State.commitHere_keeps (hw.m rfl) (State.lapPass_keeps (hw.m rfl) k2))) k2)))

theorem execSleepCancelReceived_keeps {ar : List Area} (hw : Within (Area.telling [.slp]) ar) {z : State} {t : Nat}
    {a1} {a2} {s : State} (h : Keeps ar z (s.tick t)) :
    NextKeeps ar z (execSleepCancelReceived t a1 a2 s) := by
  unfold execSleepCancelReceived
  extract_lets -underBinder -merge +onlyGivenNames v1
  have k2 : Keeps ar z v1 := h
  clear_value v1
  exact keeps_next (keeps_ite (State.cancelTake_keeps (hw.m rfl) k2) k2)

theorem execLapTimeout_keeps {ar : List Area} (hw : Within (Area.telling [.buses, .slp]) ar) {z : State} {t : Nat} {s
    : State} (h : Keeps ar z (s.tick t)) :
    NextKeeps ar z (execLapTimeout t s) := by
  unfold execLapTimeout
  extract_lets -underBinder -merge +onlyGivenNames v1
  have k2 : Keeps ar z v1 := h
  clear_value v1
  exact keeps_next (keeps_ite (State.cancelled_keeps (hw.m rfl) (State.count_keeps (hw.m rfl) (State.each_keeps (fun
      v3 v4 k5 =>
    State.modWk_keeps (hw.m rfl) k5) (State.modSlp_keeps (hw.m rfl) k2)))) k2)

theorem State.settle_keeps {ar : List Area} (hw : Within (Area.but [.host]) ar) {z a0 : State} (h1 : Keeps ar z a0) :
    Keeps ar z (State.settle a0) := by
  unfold State.settle
  extract_lets -underBinder -merge +onlyGivenNames v1 v2 v3 v4
  clear_value v1 v2 v3 v4
  extract_lets -underBinder -merge +onlyGivenNames v5
  have k6 : Keeps ar z v5 := State.each_keeps (fun v7 v8 k9 => keeps_foldl (fun v10 v11 k12 => keeps_ite k12
    (State.bufDrop_keeps (hw.m rfl) k12)) k9) h1
  clear_value v5
  extract_lets -underBinder -merge +onlyGivenNames v13
  have k14 : Keeps ar z v13 := State.tideQueuesRestart_keeps (hw.m rfl) (State.bufferClear_keeps (hw.m rfl) k6)
  clear_value v13
  extract_lets -underBinder -merge +onlyGivenNames v15
  have k16 : Keeps ar z v15 := keeps_same hw k14
  clear_value v15
  extract_lets -underBinder -merge +onlyGivenNames v17
  have k18 : Keeps ar z v17 := State.count_keeps (hw.m rfl) k16
  clear_value v17
  exact State.modSlp_keeps (hw.m rfl) (State.toldFlush_keeps (hw.m rfl) (State.each_keeps (fun v19 v20 k21 =>
      State.linkLost_keeps (hw.m rfl) k21)
    k18))

theorem execSleepSettle_keeps {ar : List Area} (hw : Within (Area.but [.host]) ar) {z : State} {t : Nat} {s : State}
    (h : Keeps ar z (s.tick t)) :
    NextKeeps ar z (execSleepSettle t s) := by
  unfold execSleepSettle
  extract_lets -underBinder -merge +onlyGivenNames v1
  have k2 : Keeps ar z v1 := h
  clear_value v1
  refine keeps_next ?_
  split
  · exact keeps_ite (State.settle_keeps (hw.m rfl) k2) k2
  · exact k2

theorem State.startWaking_keeps {ar : List Area} (hw : Within [.ctrs, .slp, .boot] ar) {z a0 : State} {a1} {a2} (h1 :
    Keeps ar z a0) :
    Keeps ar z (State.startWaking a0 a1 a2) := by
  unfold State.startWaking
  extract_lets -underBinder -merge +onlyGivenNames v1
  have k2 : Keeps ar z v1 := State.modSlp_keeps (hw.m rfl) h1
  clear_value v1
  extract_lets -underBinder -merge +onlyGivenNames v3
  have k4 : Keeps ar z v3 := State.count_keeps (hw.m rfl) k2
  clear_value v3
  extract_lets -underBinder -merge +onlyGivenNames v5
  have k6 : Keeps ar z v5 := keeps_ite k4 (State.count_keeps (hw.m rfl) k4)
  clear_value v5
  extract_lets -underBinder -merge +onlyGivenNames v7
  have k8 : Keeps ar z v7 := keeps_ite (State.count_keeps (hw.m rfl) k6) k6
  clear_value v7
  extract_lets -underBinder -merge +onlyGivenNames v9
  have k10 : Keeps ar z v9 := keeps_ite (State.send_keeps k8) k8
  clear_value v9
  exact State.modBoot_keeps (hw.m rfl) k10

theorem State.powerOff_keeps {ar : List Area} (hw : Within Area.all ar) {z a0 : State} (h1 : Keeps ar z a0) :
    Keeps ar z (State.powerOff a0) := by
  unfold State.powerOff
  extract_lets -underBinder -merge +onlyGivenNames v1
  clear_value v1
  extract_lets -underBinder -merge +onlyGivenNames v2
  have k3 : Keeps ar z v2 := State.coreReset_keeps (hw.m rfl) (State.count_keeps (hw.m rfl) h1)
  clear_value v2
  extract_lets -underBinder -merge +onlyGivenNames v4
  have k5 : Keeps ar z v4 := State.modSlp_keeps (hw.m rfl) k3
  clear_value v4
  extract_lets -underBinder -merge +onlyGivenNames v6
  have k7 : Keeps ar z v6 := State.modBoot_keeps (hw.m rfl) k5
  clear_value v6
  split
  · exact State.startWaking_keeps (hw.m rfl) k7
  · exact k7

theorem execSleepPowerOff_keeps {ar : List Area} (hw : Within Area.all ar) {z : State} {t : Nat} {s : State} (h :
    Keeps ar z (s.tick t)) :
    NextKeeps ar z (execSleepPowerOff t s) := by
  unfold execSleepPowerOff
  extract_lets -underBinder -merge +onlyGivenNames v1
  have k2 : Keeps ar z v1 := h
  clear_value v1
  exact keeps_next (keeps_ite (State.powerOff_keeps (hw.m rfl) k2) k2)

theorem State.wakeErrSet_keeps {ar : List Area} (hw : Within [.buses] ar) {z a0 : State} {a1} {a2} (h1 : Keeps ar z
    a0) :
    Keeps ar z (State.wakeErrSet a0 a1 a2) := by
  unfold State.wakeErrSet
  exact State.modWk_keeps (hw.m rfl) h1

theorem State.wakeDetect_keeps {ar : List Area} (hw : Within [.ctrs, .buses] ar) {z a0 : State} {a1} (h1 : Keeps ar z
    a0) :
    Keeps ar z (State.wakeDetect a0 a1).1 := by
  unfold State.wakeDetect
  split
  · extract_lets -underBinder -merge +onlyGivenNames v1
    clear_value v1
    exact keeps_ite1 (keeps_mk1 h1) (keeps_mk1 (State.wakeErrSet_keeps (hw.m rfl) h1))
  · extract_lets -underBinder -merge +onlyGivenNames v2
    clear_value v2
    exact keeps_ite1 (keeps_mk1 h1) (keeps_mk1 (State.count_keeps (hw.m rfl) (State.wakeErrSet_keeps (hw.m rfl) h1)))
  · exact keeps_mk1 h1
  · exact keeps_mk1 h1
  · exact keeps_mk1 h1
  · exact keeps_mk1 h1
  · exact keeps_mk1 h1
  · exact keeps_mk1 h1

theorem State.wakeBy_keeps {ar : List Area} (hw : Within [.ctrs, .slp, .boot] ar) {z a0 : State} {a1} (h1 : Keeps ar
    z a0) :
    Keeps ar z (State.wakeBy a0 a1) := by
  unfold State.wakeBy
  split
  · exact h1
  · exact State.startWaking_keeps (hw.m rfl) h1

theorem State.wakeStims_keeps {ar : List Area} (hw : Within [.ctrs, .buses] ar) {z a0 : State} {a1} (h1 : Keeps ar z
    a0) :
    Keeps ar z (State.wakeStims a0 a1).1 := by
  unfold State.wakeStims
  refine keeps_foldl_fst ?_ (keeps_mk1 h1)
  intro v1 v2 k3
  extract_lets -underBinder -merge +onlyGivenNames v4
  have k5 : Keeps ar z v4.1 := State.wakeDetect_keeps (hw.m rfl) k3
  clear_value v4
  exact keeps_mk1 k5

theorem execWakeSource_keeps {ar : List Area} (hw : Within [.ctrs, .buses, .slp, .boot] ar) {z : State} {t : Nat}
    {a1} {s : State} (h : Keeps ar z (s.tick t)) :
    NextKeeps ar z (execWakeSource t a1 s) := by
  unfold execWakeSource
  extract_lets -underBinder -merge +onlyGivenNames v1
  have k2 : Keeps ar z v1 := h
  clear_value v1
  refine keeps_next ?_
  refine keeps_ite ?_ k2
  extract_lets -underBinder -merge +onlyGivenNames v3
  have k4 : Keeps ar z v3.1 := State.wakeStims_keeps (hw.m rfl) k2
  clear_value v3
  exact State.wakeBy_keeps (hw.m rfl) k4

theorem execWakeRequest_keeps {ar : List Area} (hw : Within (Area.telling [.buses, .sec, .slp]) ar) {z : State} {t :
    Nat} {a1} {s : State} (h : Keeps ar z (s.tick t)) :
    NextKeeps ar z (execWakeRequest t a1 s) := by
  unfold execWakeRequest
  extract_lets -underBinder -merge +onlyGivenNames v1
  have k2 : Keeps ar z v1.1 := State.wakeDetect_keeps (hw.m rfl) h
  clear_value v1
  refine keeps_next ?_
  split
  · exact State.wakeReq_keeps (hw.m rfl) k2
  · exact k2

theorem State.propagate_keeps {ar : List Area} (hw : Within [.ctrs, .eth, .links] ar) {z a0 : State} (h1 : Keeps ar z
    a0) :
    Keeps ar z (State.propagate a0) := by
  unfold State.propagate
  refine keeps_ite h1 ?_
  extract_lets -underBinder -merge +onlyGivenNames v1
  clear_value v1
  extract_lets -underBinder -merge +onlyGivenNames v2
  have k3 : Keeps ar z v2 := State.each_keeps (fun v4 v5 k6 => State.cwFlush_keeps (hw.m rfl) (State.modPort_keeps
      (hw.m rfl) k6)) h1
  clear_value v2
  refine State.each_keeps ?_ k3
  intro v7 v8 k9
  split
  rename_i v10 v11 v12 e13
  have k14 : Keeps ar z v12 := keeps_snd e13 (State.drawBelow_keeps k9)
  exact State.send_keeps k14

theorem State.awake_keeps {ar : List Area} (hw : Within (Area.telling [.eth, .slp]) ar) {z a0 : State} (h1 : Keeps ar
    z a0) :
    Keeps ar z (State.awake a0) := by
  unfold State.awake
  extract_lets -underBinder -merge +onlyGivenNames v1
  clear_value v1
  extract_lets -underBinder -merge +onlyGivenNames v2
  have k3 : Keeps ar z v2 := State.modSlp_keeps (hw.m rfl) h1
  clear_value v2
  exact State.propagate_keeps (hw.m rfl) (State.raise_keeps (hw.m rfl) k3)

theorem execRingLost_keeps {ar : List Area} (hw : Within (Area.telling [.eth, .slp]) ar) {z : State} {t : Nat} {s :
    State} (h : Keeps ar z (s.tick t)) :
    NextKeeps ar z (execRingLost t s) := by
  unfold execRingLost
  extract_lets -underBinder -merge +onlyGivenNames v1
  have k2 : Keeps ar z v1 := h
  clear_value v1
  refine keeps_next ?_
  refine keeps_ite ?_ k2
  extract_lets -underBinder -merge +onlyGivenNames v3
  have k4 : Keeps ar z v3 := keeps_ite (State.cancelled_keeps (hw.m rfl) k2) k2
  clear_value v3
  extract_lets -underBinder -merge +onlyGivenNames v5
  have k6 : Keeps ar z v5 := State.modSlp_keeps (hw.m rfl) k4
  clear_value v5
  exact State.awake_keeps (hw.m rfl) (State.count_keeps (hw.m rfl) k6)

theorem State.markFalse_keeps {ar : List Area} (hw : Within [.host, .events] ar) {z a0 : State} (h1 : Keeps ar z a0) :
    Keeps ar z (State.markFalse a0) := by
  unfold State.markFalse
  split
  · exact State.modHost_keeps (hw.m rfl) h1
  · exact h1

theorem State.falseWake_keeps {ar : List Area} (hw : Within [.ctrs] ar) {z a0 : State} {a1} (h1 : Keeps ar z a0) :
    Keeps ar z (State.falseWake a0 a1) := by
  unfold State.falseWake
  extract_lets -underBinder -merge +onlyGivenNames v1
  clear_value v1
  exact keeps_same hw h1

theorem execFalseWakeCheck_keeps {ar : List Area} (hw : Within [.host, .events, .ctrs, .slp] ar) {z : State} {t :
    Nat} {s : State} (h : Keeps ar z (s.tick t)) :
    NextKeeps ar z (execFalseWakeCheck t s) := by
  unfold execFalseWakeCheck
  extract_lets -underBinder -merge +onlyGivenNames v1
  have k2 : Keeps ar z v1 := h
  clear_value v1
  refine keeps_next ?_
  split
  · refine keeps_ite ?_ k2
    extract_lets -underBinder -merge +onlyGivenNames v3
    clear_value v3
    extract_lets -underBinder -merge +onlyGivenNames v4
    have k5 : Keeps ar z v4 := State.modSlp_keeps (hw.m rfl) k2
    clear_value v4
    exact keeps_ite k5 (State.markFalse_keeps (hw.m rfl) (State.falseWake_keeps (hw.m rfl) k5))
  · exact k2

theorem execTwinSleepCommitReceived_keeps {ar : List Area} (hw : Within (Area.telling [.buses, .slp]) ar) {z : State}
    {t : Nat} {a1} {s : State} (h : Keeps ar z (s.tick t)) :
    NextKeeps ar z (execTwinSleepCommitReceived t a1 s) := by
  unfold execTwinSleepCommitReceived
  extract_lets -underBinder -merge +onlyGivenNames v1
  have k2 : Keeps ar z v1 := h
  clear_value v1
  exact keeps_next (keeps_ite (State.sleepEnter_keeps (hw.m rfl) k2) k2)

theorem effectWakeFilterSet_keeps {ar : List Area} (hw : Within [.buses] ar) {z a0 : State} {a1} (h1 : Keeps ar z a0) :
    Keeps ar z (effectWakeFilterSet a0 a1).1 := by
  unfold effectWakeFilterSet
  exact keeps_mk1 (State.modWk_keeps (hw.m rfl) h1)

theorem execWakeFilterSet_keeps {ar : List Area} (hw : Within (Area.telling [.windows, .mbx, .buses, .cw, .boot]) ar)
    {z : State} {t : Nat} {a1} {s : State} (h : Keeps ar z (s.tick t)) :
    NextKeeps ar z (execWakeFilterSet t a1 s) := by
  unfold execWakeFilterSet
  exact keeps_next (State.simple_keeps (hw.m rfl) h (fun v1 v2 k3 => effectWakeFilterSet_keeps (hw.m rfl) k3))

theorem effectSleepConfig_keeps {ar : List Area} (hw : Within [.buses, .slp] ar) {z a0 : State} {a1} (h1 : Keeps ar z
    a0) :
    Keeps ar z (effectSleepConfig a0 a1).1 := by
  unfold effectSleepConfig
  extract_lets -underBinder -merge +onlyGivenNames v1
  clear_value v1
  extract_lets -underBinder -merge +onlyGivenNames v2
  have k3 : Keeps ar z v2 := keeps_ite (State.modSlp_keeps (hw.m rfl) h1) (State.modWk_keeps (hw.m rfl) h1)
  clear_value v2
  exact keeps_mk1 k3

theorem execSleepConfig_keeps {ar : List Area} (hw : Within (Area.telling [.windows, .mbx, .buses, .cw, .slp, .boot])
    ar) {z : State} {t : Nat} {a1} {s : State} (h : Keeps ar z (s.tick t)) :
    NextKeeps ar z (execSleepConfig t a1 s) := by
  unfold execSleepConfig
  exact keeps_next (State.simple_keeps (hw.m rfl) h (fun v1 v2 k3 => effectSleepConfig_keeps (hw.m rfl) k3))

theorem effectSleepRequest_keeps {ar : List Area} (hw : Within (Area.telling [.sec, .slp]) ar) {z a0 : State} {a1}
    (h1 : Keeps ar z a0) :
    Keeps ar z (effectSleepRequest a0 a1).1 := by
  unfold effectSleepRequest
  extract_lets -underBinder -merge +onlyGivenNames v1
  clear_value v1
  extract_lets -underBinder -merge +onlyGivenNames v2
  have k3 : Keeps ar z v2 := State.modSlp_keeps (hw.m rfl) h1
  clear_value v2
  extract_lets -underBinder -merge +onlyGivenNames v4
  have k5 : Keeps ar z v4 := keeps_ite k3 (State.ownWakeReq_keeps (hw.m rfl) k3)
  clear_value v4
  exact keeps_mk1 k5

theorem execSleepRequest_keeps {ar : List Area} (hw : Within (Area.telling [.windows, .mbx, .sec, .cw, .slp, .boot])
    ar) {z : State} {t : Nat} {a1} {s : State} (h : Keeps ar z (s.tick t)) :
    NextKeeps ar z (execSleepRequest t a1 s) := by
  unfold execSleepRequest
  exact keeps_next (State.simple_keeps (hw.m rfl) h (fun v1 v2 k3 => effectSleepRequest_keeps (hw.m rfl) k3))

theorem execSleepStatus_keeps {ar : List Area} (hw : Within (Area.telling [.windows, .mbx, .cw, .boot]) ar) {z :
    State} {t : Nat} {a1} {s : State} (h : Keeps ar z (s.tick t)) :
    NextKeeps ar z (execSleepStatus t a1 s) := by
  unfold execSleepStatus
  exact keeps_next (State.query_keeps (hw.m rfl) h)

theorem State.modPins_keeps {ar : List Area} (hw : Within [.boot] ar) {z a0 : State} {a1} (h1 : Keeps ar z a0) :
    Keeps ar z (State.modPins a0 a1) := by
  unfold State.modPins
  exact State.modBoot_keeps (hw.m rfl) h1

theorem execPowerOn_keeps {ar : List Area} (hw : Within Area.all ar) {z : State} {t : Nat} {s : State} (h : Keeps ar
    z (s.tick t)) :
    NextKeeps ar z (execPowerOn t s) := by
  unfold execPowerOn
  extract_lets -underBinder -merge +onlyGivenNames v1
  have k2 : Keeps ar z v1 := h
  clear_value v1
  exact keeps_next (keeps_ite k2 (State.modPins_keeps (hw.m rfl) (State.aonLost_keeps (hw.m rfl) k2)))

theorem execVddAonLoss_keeps {ar : List Area} (hw : Within Area.all ar) {z : State} {t : Nat} {s : State} (h : Keeps
    ar z (s.tick t)) :
    NextKeeps ar z (execVddAonLoss t s) := by
  unfold execVddAonLoss
  extract_lets -underBinder -merge +onlyGivenNames v1
  have k2 : Keeps ar z v1 := h
  clear_value v1
  exact keeps_next (State.modPins_keeps (hw.m rfl) (State.aonLost_keeps (hw.m rfl) k2))

theorem State.resetHeld_keeps {ar : List Area} (hw : Within Area.all ar) {z a0 : State} (h1 : Keeps ar z a0) :
    Keeps ar z (State.resetHeld a0) := by
  unfold State.resetHeld
  exact State.modPins_keeps (hw.m rfl) (State.islandsSet_keeps (hw.m rfl) (State.deviceReset_keeps (hw.m rfl) h1))

theorem State.strapsTake_keeps {ar : List Area} (hw : Within [.boot] ar) {z a0 : State} {a1} (h1 : Keeps ar z a0) :
    Keeps ar z (State.strapsTake a0 a1) := by
  unfold State.strapsTake
  exact State.modPins_keeps (hw.m rfl) h1

theorem State.resetReleased_keeps {ar : List Area} (hw : Within [.boot] ar) {z a0 : State} {a1} (h1 : Keeps ar z a0) :
    Keeps ar z (State.resetReleased a0 a1) := by
  unfold State.resetReleased
  extract_lets -underBinder -merge +onlyGivenNames v1
  have k2 : Keeps ar z v1 := State.modPins_keeps (hw.m rfl) (State.strapsTake_keeps (hw.m rfl) h1)
  clear_value v1
  exact keeps_ite k2 (State.modBoot_keeps (hw.m rfl) (State.modPins_keeps (hw.m rfl) k2))

theorem execResetN_keeps {ar : List Area} (hw : Within Area.all ar) {z : State} {t : Nat} {a1} {a2} {s : State} (h :
    Keeps ar z (s.tick t)) :
    NextKeeps ar z (execResetN t a1 a2 s) := by
  unfold execResetN
  extract_lets -underBinder -merge +onlyGivenNames v1
  have k2 : Keeps ar z v1 := h
  clear_value v1
  extract_lets -underBinder -merge +onlyGivenNames v3
  clear_value v3
  exact keeps_next (keeps_ite k2 (keeps_ite (keeps_ite (State.resetReleased_keeps (hw.m rfl) k2) k2) (keeps_ite k2
    (State.resetHeld_keeps (hw.m rfl) k2))))

theorem execPwrEnRetry_keeps {ar : List Area} (hw : Within [.ctrs, .boot] ar) {z : State} {t : Nat} {s : State} (h :
    Keeps ar z (s.tick t)) :
    NextKeeps ar z (execPwrEnRetry t s) := by
  unfold execPwrEnRetry
  extract_lets -underBinder -merge +onlyGivenNames v1
  have k2 : Keeps ar z v1 := h
  clear_value v1
  extract_lets -underBinder -merge +onlyGivenNames v3
  clear_value v3
  exact keeps_next (keeps_ite (State.modPins_keeps (hw.m rfl) (State.count_keeps (hw.m rfl) k2)) k2)

theorem execCoreSupplyInRange_keeps {ar : List Area} (hw : Within [.islands, .units, .time, .boot] ar) {z : State} {t
    : Nat} {s : State} (h : Keeps ar z (s.tick t)) :
    NextKeeps ar z (execCoreSupplyInRange t s) := by
  unfold execCoreSupplyInRange
  extract_lets -underBinder -merge +onlyGivenNames v1
  have k2 : Keeps ar z v1 := h
  clear_value v1
  extract_lets -underBinder -merge +onlyGivenNames v3
  clear_value v3
  refine keeps_next ?_
  refine keeps_ite ?_ k2
  extract_lets -underBinder -merge +onlyGivenNames v4
  have k5 : Keeps ar z v4 := State.modPins_keeps (hw.m rfl) (State.islandsSet_keeps (hw.m rfl) k2)
  clear_value v4
  exact keeps_same hw k5

theorem execBrownOut_keeps {ar : List Area} (hw : Within Area.all ar) {z : State} {t : Nat} {s : State} (h :
    Keeps ar z (s.tick t)) :
    NextKeeps ar z (execBrownOut t s) := by
  unfold execBrownOut
  extract_lets -underBinder -merge +onlyGivenNames v1
  have k2 : Keeps ar z v1 := h
  clear_value v1
  extract_lets -underBinder -merge +onlyGivenNames v3
  clear_value v3
  refine keeps_next ?_
  refine keeps_ite ?_ k2
  split
  rename_i v4 v5 v6 e7
  have k8 : Keeps ar z v6 := keeps_snd e7 (State.drawBelow_keeps (State.coreReset_keeps (hw.m rfl)
    (State.count_keeps (hw.m rfl) k2)))
  exact State.modBoot_keeps (hw.m rfl) (State.modPins_keeps (hw.m rfl) (State.strapsTake_keeps (hw.m rfl) k8))

theorem execSupplyWarning_keeps {ar : List Area} (hw : Within (Area.but [.host, .slp]) ar) {z : State} {t : Nat} {a1}
    {s : State} (h : Keeps ar z (s.tick t)) :
    NextKeeps ar z (execSupplyWarning t a1 s) := by
  unfold execSupplyWarning
  extract_lets -underBinder -merge +onlyGivenNames v1
  have k2 : Keeps ar z v1 := h
  clear_value v1
  extract_lets -underBinder -merge +onlyGivenNames v3
  have k4 : Keeps ar z v3 := keeps_ite (State.modBoot_keeps (hw.m rfl) k2) k2
  clear_value v3
  refine keeps_next ?_
  split
  · exact State.report_keeps (hw.m rfl) k4
  · exact k4

theorem State.jtagIsolate_keeps {ar : List Area} (hw : Within (Area.but [.windows, .host, .mbx, .chans, .units,
    .time, .slp]) ar) {z a0 : State} (h1 : Keeps ar z a0) :
    Keeps ar z (State.jtagIsolate a0) := by
  unfold State.jtagIsolate
  extract_lets -underBinder -merge +onlyGivenNames v1
  have k2 : Keeps ar z v1 := State.each_keeps (fun v3 v4 k5 => keeps_ite (State.isolateEffects_keeps (hw.m rfl) k5)
      k5) h1
  clear_value v1
  exact State.modPins_keeps (hw.m rfl) (State.each_keeps (fun v6 v7 k8 => State.modIsl_keeps (hw.m rfl) k8) k2)

theorem execJtagInstruction_keeps {ar : List Area} (hw : Within (Area.but [.windows, .host, .mbx, .chans, .units,
    .time, .slp]) ar) {z : State} {t : Nat} {a1} {s : State} (h : Keeps ar z (s.tick t)) :
    NextKeeps ar z (execJtagInstruction t a1 s) := by
  unfold execJtagInstruction
  extract_lets -underBinder -merge +onlyGivenNames v1
  have k2 : Keeps ar z v1 := h
  clear_value v1
  refine keeps_iteN (keeps_next k2) ?_
  extract_lets -underBinder -merge +onlyGivenNames v3
  have k4 : Keeps ar z v3 := State.modPins_keeps (hw.m rfl) k2
  clear_value v3
  exact keeps_next (keeps_ite (State.jtagIsolate_keeps (hw.m rfl) k4) k4)

theorem State.pendRaise_keeps {ar : List Area} (hw : Within (Area.telling [.sec, .boot]) ar) {z a0 : State} (h1 :
    Keeps ar z a0) :
    Keeps ar z (State.pendRaise a0) := by
  unfold State.pendRaise
  extract_lets -underBinder -merge +onlyGivenNames v1 v2
  clear_value v1 v2
  extract_lets -underBinder -merge +onlyGivenNames v3
  have k4 : Keeps ar z v3 := State.modSec_keeps (hw.m rfl) (State.modBoot_keeps (hw.m rfl) h1)
  clear_value v3
  extract_lets -underBinder -merge +onlyGivenNames v5
  have k6 : Keeps ar z v5 := State.each_keeps (fun v7 v8 k9 => State.raise_keeps (hw.m rfl) k9) k4
  clear_value v5
  exact State.each_keeps (fun v10 v11 k12 => State.raise_keeps (hw.m rfl) k12) k6

theorem State.sealDevice_keeps {ar : List Area} (hw : Within (Area.telling [.windows, .mbx, .parse, .sec, .cw, .slp,
    .boot]) ar) {z a0 : State} {a1} (h1 : Keeps ar z a0) :
    Keeps ar z (State.sealDevice a0 a1) := by
  unfold State.sealDevice
  refine keeps_ite h1 ?_
  extract_lets -underBinder -merge +onlyGivenNames v1
  have k2 : Keeps ar z v1 := State.modBoot_keeps (hw.m rfl) (State.count_keeps (hw.m rfl) h1)
  clear_value v1
  extract_lets -underBinder -merge +onlyGivenNames v3
  have k4 : Keeps ar z v3 := keeps_same hw k2
  clear_value v3
  extract_lets -underBinder -merge +onlyGivenNames v5
  have k6 : Keeps ar z v5 := State.pendRaise_keeps (hw.m rfl) (State.parserUpdate_keeps (hw.m rfl)
      (State.setDevState_keeps (hw.m rfl)
    (State.modSlp_keeps (hw.m rfl) k4)))
  clear_value v5
  exact State.each_keeps (fun v7 v8 k9 => State.firmwareTakes_keeps (hw.m rfl) k9) k6

theorem State.rootBack_keeps {ar : List Area} (hw : Within [.sec] ar) {z a0 : State} (h1 : Keeps ar z a0) :
    Keeps ar z (State.rootBack a0) := by
  unfold State.rootBack
  exact State.modSec_keeps (hw.m rfl) (State.keyRoot_keeps (hw.m rfl) h1)

theorem State.settingsCheck_keeps {ar : List Area} (hw : Within (Area.but [.host, .slp]) ar) {z a0 : State} {a1} (h1
    : Keeps ar z a0) :
    Keeps ar z (State.settingsCheck a0 a1) := by
  unfold State.settingsCheck
  extract_lets -underBinder -merge +onlyGivenNames v1
  have k2 : ∀ x0 x1 x2, Keeps ar z x0 → Keeps ar z (v1 x0 x1 x2) := by
    intro v3 v4 v5 k6
    unfold v1
    exact keeps_ite (State.count_keeps (hw.m rfl) (State.report_keeps (hw.m rfl) k6)) k6
  clear_value v1
  extract_lets -underBinder -merge +onlyGivenNames v7 v8
  clear_value v7 v8
  extract_lets -underBinder -merge +onlyGivenNames v9
  have k10 : Keeps ar z v9 := k2 _ _ _ (k2 _ _ _ h1)
  clear_value v9
  extract_lets -underBinder -merge +onlyGivenNames v11 v12
  clear_value v11 v12
  exact State.modBoot_keeps (hw.m rfl) k10

theorem State.loaderReads_keeps {ar : List Area} (hw : Within (Area.but [.host]) ar) {z a0 : State} {a1} (h1 : Keeps
    ar z a0) :
    Keeps ar z (State.loaderReads a0 a1) := by
  unfold State.loaderReads
  refine keeps_ite (State.sealDevice_keeps (hw.m rfl) (State.report_keeps (hw.m rfl) h1)) ?_
  extract_lets -underBinder -merge +onlyGivenNames v1
  have k2 : Keeps ar z v1 := State.settingsCheck_keeps (hw.m rfl) h1
  clear_value v1
  extract_lets -underBinder -merge +onlyGivenNames v3
  have k4 : Keeps ar z v3 := by
    unfold v3
    split
    · exact State.modSec_keeps (hw.m rfl) k2
    · exact k2
  clear_value v3
  extract_lets -underBinder -merge +onlyGivenNames v5
  have k6 : Keeps ar z v5 := keeps_ite k4 (State.modCw_keeps (hw.m rfl) k4)
  clear_value v5
  extract_lets -underBinder -merge +onlyGivenNames v7
  have k8 : Keeps ar z v7 := State.modSec_keeps (hw.m rfl) k6
  clear_value v7
  extract_lets -underBinder -merge +onlyGivenNames v9
  have k10 : Keeps ar z v9 := keeps_ite (State.count_keeps (hw.m rfl) k8) k8
  clear_value v9
  exact State.modBoot_keeps (hw.m rfl) k10

theorem State.pufStart_keeps {ar : List Area} (hw : Within (Area.but [.host]) ar) {z a0 : State} {a1} {a2} (h1 :
    Keeps ar z a0) :
    Keeps ar z (State.pufStart a0 a1 a2) := by
  unfold State.pufStart
  extract_lets -underBinder -merge +onlyGivenNames v1
  have k2 : Keeps ar z v1 := keeps_ite h1 (State.count_keeps (hw.m rfl) h1)
  clear_value v1
  exact keeps_ite (State.sealDevice_keeps (hw.m rfl) k2) (keeps_ite (State.loaderReads_keeps (hw.m rfl) k2) (keeps_ite
    (State.loaderReads_keeps (hw.m rfl) (State.rootBack_keeps (hw.m rfl) k2)) (State.sealDevice_keeps (hw.m rfl)
        (State.report_keeps (hw.m rfl) k2))))

theorem State.pufAlone_keeps {ar : List Area} (hw : Within (Area.but [.host]) ar) {z a0 : State} {a1} (h1 : Keeps ar
    z a0) :
    Keeps ar z (State.pufAlone a0 a1) := by
  unfold State.pufAlone
  exact keeps_ite (State.encResume_keeps (hw.m rfl) (State.keyRecreate_keeps (hw.m rfl) (State.rootBack_keeps (hw.m
      rfl) h1))) (State.sealDevice_keeps (hw.m rfl)
    (State.report_keeps (hw.m rfl) h1))

theorem execPufRegeneration_keeps {ar : List Area} (hw : Within (Area.but [.host]) ar) {z : State} {t : Nat} {a1}
    {s : State} (h : Keeps ar z (s.tick t)) :
    NextKeeps ar z (execPufRegeneration t a1 s) := by
  unfold execPufRegeneration
  extract_lets -underBinder -merge +onlyGivenNames v1
  have k2 : Keeps ar z v1 := h
  clear_value v1
  exact keeps_next (keeps_ite (State.pufStart_keeps (hw.m rfl) k2) (keeps_ite (State.pufAlone_keeps (hw.m rfl) k2) k2))

theorem State.imageCheck_keeps {ar : List Area} (hw : Within (Area.but [.host, .slp]) ar) {z a0 : State} {a1} {a2}
    {a3} (h1 : Keeps ar z a0) :
    Keeps ar z (State.imageCheck a0 a1 a2 a3).2 := by
  unfold State.imageCheck
  extract_lets -underBinder -merge +onlyGivenNames v1
  clear_value v1
  refine keeps_ite2 (keeps_mk2 h1) ?_
  split
  rename_i v2 v3 v4 e5
  have k6 : Keeps ar z v4 := keeps_snd e5 (State.drawBelow_keeps h1)
  exact keeps_ite2 (keeps_mk2 (State.report_keeps (hw.m rfl) k6)) (keeps_mk2 k6)

theorem State.modDesc_keeps {ar : List Area} (hw : Within [.boot] ar) {z a0 : State} {a1} (h1 : Keeps ar z a0) :
    Keeps ar z (State.modDesc a0 a1) := by
  unfold State.modDesc
  exact State.modBoot_keeps (hw.m rfl) h1

theorem State.swapFinish_keeps {ar : List Area} (hw : Within [.ctrs, .boot] ar) {z a0 : State} {a1} (h1 : Keeps ar z
    a0) :
    Keeps ar z (State.swapFinish a0 a1) := by
  unfold State.swapFinish
  extract_lets -underBinder -merge +onlyGivenNames v1
  have k2 : Keeps ar z v1 := State.modBoot_keeps (hw.m rfl) h1
  clear_value v1
  refine keeps_ite (State.modDesc_keeps (hw.m rfl) k2) ?_
  extract_lets -underBinder -merge +onlyGivenNames v3
  have k4 : Keeps ar z v3 := State.modDesc_keeps (hw.m rfl) k2
  clear_value v3
  exact keeps_ite (State.count_keeps (hw.m rfl) k4) (State.modBoot_keeps (hw.m rfl) k4)

theorem State.swapBegin_keeps {ar : List Area} (hw : Within [.ctrs, .boot] ar) {z a0 : State} {a1} (h1 : Keeps ar z
    a0) :
    Keeps ar z (State.swapBegin a0 a1) := by
  unfold State.swapBegin
  extract_lets -underBinder -merge +onlyGivenNames v1 v2
  clear_value v1 v2
  extract_lets -underBinder -merge +onlyGivenNames v3
  have k4 : Keeps ar z v3 := State.modDesc_keeps (hw.m rfl) h1
  clear_value v3
  extract_lets -underBinder -merge +onlyGivenNames v5
  have k6 : Keeps ar z v5 := State.modBoot_keeps (hw.m rfl) k4
  clear_value v5
  exact keeps_ite (State.swapFinish_keeps (hw.m rfl) k6) k6

theorem State.swapStep_keeps {ar : List Area} (hw : Within [.ctrs, .boot] ar) {z a0 : State} {a1} (h1 : Keeps ar z a0) :
    Keeps ar z (State.swapStep a0 a1) := by
  unfold State.swapStep
  extract_lets -underBinder -merge +onlyGivenNames v1 v2
  clear_value v1 v2
  extract_lets -underBinder -merge +onlyGivenNames v3
  have k4 : Keeps ar z v3 := keeps_ite h1 (keeps_ite (State.modBoot_keeps (hw.m rfl) h1) (keeps_ite
      (State.modBoot_keeps (hw.m rfl) h1)
    (State.modBoot_keeps (hw.m rfl) h1)))
  clear_value v3
  refine keeps_ite (State.modBoot_keeps (hw.m rfl) k4) ?_
  extract_lets -underBinder -merge +onlyGivenNames v5
  have k6 : Keeps ar z v5 := State.modBoot_keeps (hw.m rfl) k4
  clear_value v5
  exact keeps_ite (State.swapFinish_keeps (hw.m rfl) k6) k6

theorem execSwapPageStep_keeps {ar : List Area} (hw : Within [.ctrs, .boot] ar) {z : State} {t : Nat} {s : State} (h
    : Keeps ar z (s.tick t)) :
    NextKeeps ar z (execSwapPageStep t s) := by
  unfold execSwapPageStep
  extract_lets -underBinder -merge +onlyGivenNames v1
  have k2 : Keeps ar z v1 := h
  clear_value v1
  refine keeps_next ?_
  split
  · exact keeps_ite (State.swapStep_keeps (hw.m rfl) k2) k2
  · exact k2

theorem State.fallBack_keeps {ar : List Area} (hw : Within [.ctrs, .boot] ar) {z a0 : State} {a1} {a2} (h1 : Keeps ar
    z a0) :
    Keeps ar z (State.fallBack a0 a1 a2) := by
  unfold State.fallBack
  exact State.swapBegin_keeps (hw.m rfl) (State.modBoot_keeps (hw.m rfl) h1)

theorem State.checkFailed_keeps {ar : List Area} (hw : Within [.ctrs, .boot] ar) {z a0 : State} {a1} (h1 : Keeps ar z
    a0) :
    Keeps ar z (State.checkFailed a0 a1) := by
  unfold State.checkFailed
  exact State.modBoot_keeps (hw.m rfl) (State.count_keeps (hw.m rfl) h1)

theorem State.checkRunning_keeps {ar : List Area} (hw : Within (Area.but [.host]) ar) {z a0 : State} {a1} {a2} (h1 :
    Keeps ar z a0) :
    Keeps ar z (State.checkRunning a0 a1 a2) := by
  unfold State.checkRunning
  split
  rename_i v1 v2 v3 e4
  have k5 : Keeps ar z v3 := keeps_snd e4 (State.imageCheck_keeps (hw.m rfl) h1)
  refine keeps_ite ?_ ?_
  · extract_lets -underBinder -merge +onlyGivenNames v6
    have k7 : Keeps ar z v6 := keeps_ite (State.modDesc_keeps (hw.m rfl) k5) k5
    clear_value v6
    exact State.modBoot_keeps (hw.m rfl) k7
  · extract_lets -underBinder -merge +onlyGivenNames v8
    have k9 : Keeps ar z v8 := State.checkFailed_keeps (hw.m rfl) k5
    clear_value v8
    refine keeps_ite (State.fallBack_keeps (hw.m rfl) k9) ?_
    refine keeps_ite ?_ (State.sealDevice_keeps (hw.m rfl) k9)
    split
    rename_i v10 v11 v12 e13
    have k14 : Keeps ar z v12 := keeps_snd e13 (State.imageCheck_keeps (hw.m rfl) k9)
    exact keeps_ite (State.fallBack_keeps (hw.m rfl) k14) (State.sealDevice_keeps (hw.m rfl) k14)

theorem State.checkStaging_keeps {ar : List Area} (hw : Within (Area.but [.host, .slp]) ar) {z a0 : State} {a1} (h1 :
    Keeps ar z a0) :
    Keeps ar z (State.checkStaging a0 a1) := by
  unfold State.checkStaging
  split
  rename_i v1 v2 v3 e4
  have k5 : Keeps ar z v3 := keeps_snd e4 (State.imageCheck_keeps (hw.m rfl) h1)
  exact keeps_ite (State.swapBegin_keeps (hw.m rfl) (State.modDesc_keeps (hw.m rfl) k5)) (State.modDesc_keeps (hw.m
      rfl) (State.modBoot_keeps (hw.m rfl)
    (State.checkFailed_keeps (hw.m rfl) k5)))

theorem State.loaderCheck_keeps {ar : List Area} (hw : Within (Area.but [.host]) ar) {z a0 : State} {a1} {a2} (h1 :
    Keeps ar z a0) :
    Keeps ar z (State.loaderCheck a0 a1 a2) := by
  unfold State.loaderCheck
  extract_lets -underBinder -merge +onlyGivenNames v1 v2
  clear_value v1 v2
  exact keeps_ite (State.sealDevice_keeps (hw.m rfl) h1) (keeps_ite (State.checkStaging_keeps (hw.m rfl) h1) (keeps_ite
    (State.swapBegin_keeps (hw.m rfl) h1) (keeps_ite (State.fallBack_keeps (hw.m rfl) (State.count_keeps (hw.m rfl)
        h1)) (keeps_ite
    (State.swapBegin_keeps (hw.m rfl) h1) (State.checkRunning_keeps (hw.m rfl) h1)))))

theorem execLoaderImageCheck_keeps {ar : List Area} (hw : Within (Area.but [.host]) ar) {z : State} {t : Nat} {a1}
    {a2} {s : State} (h : Keeps ar z (s.tick t)) :
    NextKeeps ar z (execLoaderImageCheck t a1 a2 s) := by
  unfold execLoaderImageCheck
  extract_lets -underBinder -merge +onlyGivenNames v1
  have k2 : Keeps ar z v1 := h
  clear_value v1
  exact keeps_next (keeps_ite (State.loaderCheck_keeps (hw.m rfl) k2) k2)

theorem State.settingsConvert_keeps {ar : List Area} (hw : Within [.boot] ar) {z a0 : State} (h1 : Keeps ar z a0) :
    Keeps ar z (State.settingsConvert a0) := by
  unfold State.settingsConvert
  extract_lets -underBinder -merge +onlyGivenNames v1 v2 v3
  clear_value v1 v2 v3
  exact keeps_ite h1 (keeps_ite (State.modBoot_keeps (hw.m rfl) h1) (State.modBoot_keeps (hw.m rfl) h1))

theorem execFirmwareStart_keeps {ar : List Area} (hw : Within (Area.telling [.windows, .mbx, .parse, .sec, .cw, .slp,
    .boot]) ar) {z : State} {t : Nat} {s : State} (h : Keeps ar z (s.tick t)) :
    NextKeeps ar z (execFirmwareStart t s) := by
  unfold execFirmwareStart
  extract_lets -underBinder -merge +onlyGivenNames v1
  have k2 : Keeps ar z v1 := h
  clear_value v1
  refine keeps_next ?_
  refine keeps_ite k2 ?_
  refine keeps_ite (State.sealDevice_keeps (hw.m rfl) k2) ?_
  extract_lets -underBinder -merge +onlyGivenNames v3
  have k4 : Keeps ar z v3 := State.modBoot_keeps (hw.m rfl) k2
  clear_value v3
  extract_lets -underBinder -merge +onlyGivenNames v5
  have k6 : Keeps ar z v5 := keeps_ite (State.keyRecreate_keeps (hw.m rfl) k4) k4
  clear_value v5
  exact State.each_keeps (fun v7 v8 k9 => State.firmwareTakes_keeps (hw.m rfl) k9) (State.pendRaise_keeps (hw.m rfl)
    (State.settingsConvert_keeps (hw.m rfl) k6))

theorem State.install_keeps {ar : List Area} (hw : Within (Area.telling [.eth, .buses, .parse, .sw, .sec]) ar) {z a0
    : State} (h1 : Keeps ar z a0) :
    Keeps ar z (State.install a0) := by
  unfold State.install
  extract_lets -underBinder -merge +onlyGivenNames v1
  have k2 : Keeps ar z v1 := State.modParse_keeps (hw.m rfl) h1
  clear_value v1
  extract_lets -underBinder -merge +onlyGivenNames v3
  have k4 : Keeps ar z v3 := keeps_same hw k2
  clear_value v3
  extract_lets -underBinder -merge +onlyGivenNames v5
  have k6 : Keeps ar z v5 := keeps_ite (State.each_keeps (fun v7 v8 k9 => State.send_keeps k9) k4) k4
  clear_value v5
  extract_lets -underBinder -merge +onlyGivenNames v10
  have k11 : Keeps ar z v10 := State.each_keeps (fun v12 v13 k14 => State.linkRaised_keeps (hw.m rfl) k14) k6
  clear_value v10
  exact State.encResume_keeps (hw.m rfl) k11

theorem State.enterTrial_keeps {ar : List Area} (hw : Within (Area.telling [.boot]) ar) {z a0 : State} (h1 : Keeps ar
    z a0) :
    Keeps ar z (State.enterTrial a0) := by
  unfold State.enterTrial
  exact State.setDevState_keeps (hw.m rfl) (State.modBoot_keeps (hw.m rfl) h1)

theorem State.enterService_keeps {ar : List Area} (hw : Within (Area.but [.windows, .host, .mbx, .islands, .units,
    .aud, .sec, .flt, .cw]) ar) {z a0 : State} (h1 : Keeps ar z a0) :
    Keeps ar z (State.enterService a0) := by
  unfold State.enterService
  extract_lets -underBinder -merge +onlyGivenNames v1
  have k2 : Keeps ar z v1 := State.setDevState_keeps (hw.m rfl) h1
  clear_value v1
  extract_lets -underBinder -merge +onlyGivenNames v3
  have k4 : Keeps ar z v3 := keeps_ite (State.modTwin_keeps (hw.m rfl) (State.awake_keeps (hw.m rfl) k2)) k2
  clear_value v3
  exact State.twinReview_keeps (hw.m rfl) (State.parserUpdate_keeps (hw.m rfl) k4)

theorem execFirmwareReady_keeps {ar : List Area} (hw : Within (Area.but [.host, .islands, .units, .aud, .flt]) ar) {z
    : State} {t : Nat} {s : State} (h : Keeps ar z (s.tick t)) :
    NextKeeps ar z (execFirmwareReady t s) := by
  unfold execFirmwareReady
  extract_lets -underBinder -merge +onlyGivenNames v1
  have k2 : Keeps ar z v1 := h
  clear_value v1
  refine keeps_next ?_
  refine keeps_ite k2 ?_
  refine keeps_ite (State.sealDevice_keeps (hw.m rfl) k2) ?_
  extract_lets -underBinder -merge +onlyGivenNames v3
  clear_value v3
  extract_lets -underBinder -merge +onlyGivenNames v4
  have k5 : Keeps ar z v4 := State.modBoot_keeps (hw.m rfl) (State.install_keeps (hw.m rfl) k2)
  clear_value v4
  exact keeps_ite (State.enterTrial_keeps (hw.m rfl) k5) (State.enterService_keeps (hw.m rfl) k5)

theorem execCommandFirmwareWaitTimeout_keeps {ar : List Area} (hw : Within (Area.telling [.windows, .mbx, .cw,
    .boot]) ar) {z : State} {t : Nat} {a1} {s : State} (h : Keeps ar z (s.tick t)) :
    NextKeeps ar z (execCommandFirmwareWaitTimeout t a1 s) := by
  unfold execCommandFirmwareWaitTimeout
  extract_lets -underBinder -merge +onlyGivenNames v1
  have k2 : Keeps ar z v1 := h
  clear_value v1
  extract_lets -underBinder -merge +onlyGivenNames v3
  clear_value v3
  exact keeps_next (keeps_ite (State.complete_keeps (hw.m rfl) k2) k2)

end Sys2Proof.Machine
end

