-- ==== Sys2Proof/Laws/KeepsUpdate.lean ====
section
/-! SUPPORT. What the operations of Update, Keys, Locks, Doorbell, Device keep, and which areas they may move. -/

set_option Elab.async false

namespace Sys2Proof.Machine

open Sys2Proof

theorem State.stageBegin_keeps {ar : List Area} (hw : Within [.boot] ar) {z a0 : State} {a1} {a2} {a3} (h1 : Keeps ar
    z a0) :
    Keeps ar z (State.stageBegin a0 a1 a2 a3) := by
  unfold State.stageBegin
  split
  rename_i v1 v2 v3 e4
  have k5 : Keeps ar z v3 := keeps_snd e4 (State.drawBelow_keeps h1)
  extract_lets -underBinder -merge +onlyGivenNames v6
  have k7 : Keeps ar z v6 := State.modDesc_keeps (hw.m rfl) k5
  clear_value v6
  exact State.modBoot_keeps (hw.m rfl) k7

theorem State.stageWrite_keeps {ar : List Area} (hw : Within [.boot] ar) {z a0 : State} {a1} {a2} (h1 : Keeps ar z a0) :
    Keeps ar z (State.stageWrite a0 a1 a2) := by
  unfold State.stageWrite
  exact State.modBoot_keeps (hw.m rfl) h1

theorem State.stageDone_keeps {ar : List Area} (hw : Within (Area.telling [.boot]) ar) {z a0 : State} (h1 : Keeps ar
    z a0) :
    Keeps ar z (State.stageDone a0) := by
  unfold State.stageDone
  extract_lets -underBinder -merge +onlyGivenNames v1
  clear_value v1
  exact State.raise_keeps (hw.m rfl) (State.modDesc_keeps (hw.m rfl) h1)

theorem State.actHere_keeps {ar : List Area} (hw : Within [.boot] ar) {z a0 : State} {a1} {a2} {a3} (h1 : Keeps ar z
    a0) :
    Keeps ar z (State.actHere a0 a1 a2 a3) := by
  unfold State.actHere
  exact State.modBoot_keeps (hw.m rfl) (State.modDesc_keeps (hw.m rfl) h1)

theorem State.confirmHere_keeps {ar : List Area} (hw : Within (Area.telling [.boot]) ar) {z a0 : State} (h1 : Keeps
    ar z a0) :
    Keeps ar z (State.confirmHere a0) := by
  unfold State.confirmHere
  exact State.raise_keeps (hw.m rfl) (State.modBoot_keeps (hw.m rfl) (State.modDesc_keeps (hw.m rfl) h1))

theorem State.revertHere_keeps {ar : List Area} (hw : Within [.boot] ar) {z a0 : State} {a1} (h1 : Keeps ar z a0) :
    Keeps ar z (State.revertHere a0 a1) := by
  unfold State.revertHere
  exact State.modBoot_keeps (hw.m rfl) (State.modDesc_keeps (hw.m rfl) h1)

theorem State.selfReset_keeps {ar : List Area} (hw : Within Area.all ar) {z a0 : State} (h1 : Keeps ar z a0) :
    Keeps ar z (State.selfReset a0) := by
  unfold State.selfReset
  exact State.modBoot_keeps (hw.m rfl) (State.deviceReset_keeps (hw.m rfl) h1)

theorem execActivateReboot_keeps {ar : List Area} (hw : Within Area.all ar) {z : State} {t : Nat} {s : State} (h :
    Keeps ar z (s.tick t)) :
    NextKeeps ar z (execActivateReboot t s) := by
  unfold execActivateReboot
  extract_lets -underBinder -merge +onlyGivenNames v1
  have k2 : Keeps ar z v1 := h
  clear_value v1
  refine keeps_next ?_
  split
  · exact keeps_ite (State.selfReset_keeps (hw.m rfl) k2) k2
  · exact k2

theorem State.updTell_keeps {ar : List Area} (hw : Within (Area.telling [.sec]) ar) {z a0 : State} {a1} {a2} (h1 :
    Keeps ar z a0) :
    Keeps ar z (State.updTell a0 a1 a2) := by
  unfold State.updTell
  exact State.each_keeps (fun v1 v2 k3 => State.tell_keeps (hw.m rfl) k3) h1

theorem State.relay_keeps {ar : List Area} (hw : Within (Area.telling [.sec, .boot]) ar) {z a0 : State} {a1} {a2}
    {a3} {a4} (h1 : Keeps ar z a0) :
    Keeps ar z (State.relay a0 a1 a2 a3 a4) := by
  unfold State.relay
  exact State.each_keeps (fun v1 v2 k3 => State.tell_keeps (hw.m rfl) k3) (State.modBoot_keeps (hw.m rfl) h1)

theorem State.setAux_keeps {ar : List Area} (hw : Within [.mbx] ar) {z a0 : State} {a1} {a2} (h1 : Keeps ar z a0) :
    Keeps ar z (State.setAux a0 a1 a2) := by
  unfold State.setAux
  exact State.modMb_keeps (hw.m rfl) h1

theorem State.updCommit_keeps {ar : List Area} (hw : Within (Area.telling [.mbx, .sec, .boot]) ar) {z a0 : State}
    {a1} {a2} {a3} {a4} (h1 : Keeps ar z a0) (h5 : ∀ x0, Keeps ar z x0 → Keeps ar z
    (a4 x0)) :
    Keeps ar z (State.updCommit a0 a1 a2 a3 a4) := by
  unfold State.updCommit
  extract_lets -underBinder -merge +onlyGivenNames v1
  clear_value v1
  extract_lets -underBinder -merge +onlyGivenNames v2
  have k3 : Keeps ar z v2 := State.modMb_keeps (hw.m rfl) (h5 _ h1)
  clear_value v2
  exact State.relay_keeps (hw.m rfl) k3

theorem State.updEnd_keeps {ar : List Area} (hw : Within (Area.telling [.windows, .mbx, .cw, .boot]) ar) {z a0 :
    State} {a1} {a2} (h1 : Keeps ar z a0) :
    Keeps ar z (State.updEnd a0 a1 a2) := by
  unfold State.updEnd
  exact keeps_ite (State.commitEnd_keeps (hw.m rfl) h1) h1

theorem State.relayEnd_keeps {ar : List Area} (hw : Within (Area.telling [.windows, .mbx, .sec, .cw, .boot]) ar) {z
    a0 : State} {a1} {a2} (h1 : Keeps ar z a0) :
    Keeps ar z (State.relayEnd a0 a1 a2) := by
  unfold State.relayEnd
  split
  · exact h1
  · extract_lets -underBinder -merge +onlyGivenNames v1 v2 v3 v4
    clear_value v1 v2 v3 v4
    refine keeps_ite ?_ ?_
    · extract_lets -underBinder -merge +onlyGivenNames v5
      clear_value v5
      exact keeps_ite (State.complete_keeps (hw.m rfl) (State.updTell_keeps (hw.m rfl) (State.stageDone_keeps (hw.m
          rfl) h1))) (State.complete_keeps (hw.m rfl)
        h1)
    · refine keeps_ite (State.complete_keeps (hw.m rfl) h1) ?_
      refine keeps_ite (State.complete_keeps (hw.m rfl) (State.stageBegin_keeps (hw.m rfl) h1)) ?_
      refine keeps_ite ?_ ?_
      · extract_lets -underBinder -merge +onlyGivenNames v6
        have k7 : Keeps ar z v6 := State.stageWrite_keeps (hw.m rfl) h1
        clear_value v6
        exact State.complete_keeps (hw.m rfl) k7
      · refine keeps_ite (State.complete_keeps (hw.m rfl) h1) ?_
        extract_lets -underBinder -merge +onlyGivenNames v8
        have k9 : Keeps ar z v8 := by
          unfold v8
          refine keeps_ite ?_ (keeps_ite (State.updCommit_keeps (hw.m rfl) h1 (fun v17 k18 => State.confirmHere_keeps
              (hw.m rfl) k18))
            (State.updCommit_keeps (hw.m rfl) h1 (fun v19 k20 => State.revertHere_keeps (hw.m rfl) k20)))
          split
          rename_i v10 v11 v12 e13
          have k14 : Keeps ar z v12 := keeps_snd e13 (State.drawBelow_keeps h1)
          exact State.updCommit_keeps (hw.m rfl) k14 (fun v15 k16 => State.actHere_keeps (hw.m rfl) k16)
        clear_value v8
        exact State.updEnd_keeps (hw.m rfl) k9

theorem State.relayAnswer_keeps {ar : List Area} (hw : Within (Area.telling [.windows, .mbx, .sec, .cw, .boot]) ar)
    {z a0 : State} {a1} {a2} {a3} (h1 : Keeps ar z a0) :
    Keeps ar z (State.relayAnswer a0 a1 a2 a3) := by
  unfold State.relayAnswer
  extract_lets -underBinder -merge +onlyGivenNames v1
  clear_value v1
  refine keeps_ite h1 ?_
  extract_lets -underBinder -merge +onlyGivenNames v2
  have k3 : Keeps ar z v2 := State.modBoot_keeps (hw.m rfl) h1
  clear_value v2
  refine keeps_ite ?_ ?_
  · extract_lets -underBinder -merge +onlyGivenNames v4
    have k5 : Keeps ar z v4 := State.modMb_keeps (hw.m rfl) k3
    clear_value v4
    exact State.updEnd_keeps (hw.m rfl) k5
  · extract_lets -underBinder -merge +onlyGivenNames v6 v7
    clear_value v6 v7
    extract_lets -underBinder -merge +onlyGivenNames v8
    have k9 : Keeps ar z v8 := State.setAux_keeps (hw.m rfl) k3
    clear_value v8
    exact keeps_ite (State.relayEnd_keeps (hw.m rfl) k9) k9

theorem State.relayOr_keeps {ar : List Area} (hw : Within (Area.telling [.windows, .mbx, .sec, .cw, .boot]) ar) {z a0
    : State} {a1} {a2} {a3} {a4} {a5} (h1 : Keeps ar z a0) :
    Keeps ar z (State.relayOr a0 a1 a2 a3 a4 a5) := by
  unfold State.relayOr
  extract_lets -underBinder -merge +onlyGivenNames v1
  have k2 : Keeps ar z v1 := State.setAux_keeps (hw.m rfl) (State.relay_keeps (hw.m rfl) h1)
  clear_value v1
  extract_lets -underBinder -merge +onlyGivenNames v3
  have k4 : Keeps ar z v3 := keeps_ite k2 (State.modBoot_keeps (hw.m rfl) k2)
  clear_value v3
  exact keeps_ite (State.relayEnd_keeps (hw.m rfl) k4) k4

theorem startUpdateBegin_keeps {ar : List Area} (hw : Within (Area.telling [.windows, .mbx, .sec, .cw, .boot]) ar) {z
    a0 : State} {a1} (h1 : Keeps ar z a0) :
    Keeps ar z (startUpdateBegin a0 a1) := by
  unfold startUpdateBegin
  split
  · exact h1
  · extract_lets -underBinder -merge +onlyGivenNames v1
    clear_value v1
    exact State.relayOr_keeps (hw.m rfl) h1

theorem execUpdateBegin_keeps {ar : List Area} (hw : Within (Area.telling [.windows, .mbx, .sec, .cw, .boot]) ar) {z
    : State} {t : Nat} {a1} {s : State} (h : Keeps ar z (s.tick t)) :
    NextKeeps ar z (execUpdateBegin t a1 s) := by
  unfold execUpdateBegin
  exact keeps_next (State.begins_keeps (hw.m rfl) h (fun v1 v2 k3 => startUpdateBegin_keeps (hw.m rfl) k3))

theorem startUpdateWrite_keeps {ar : List Area} (hw : Within (Area.but [.host, .slp]) ar) {z a0 : State} {a1} (h1 :
    Keeps ar z a0) :
    Keeps ar z (startUpdateWrite a0 a1) := by
  unfold startUpdateWrite
  split
  · exact h1
  · exact keeps_ite (State.complete_keeps (hw.m rfl) (State.report_keeps (hw.m rfl) h1)) (State.relayOr_keeps (hw.m
      rfl) h1)

theorem execUpdateWrite_keeps {ar : List Area} (hw : Within (Area.but [.host, .slp]) ar) {z : State} {t : Nat} {a1}
    {s : State} (h : Keeps ar z (s.tick t)) :
    NextKeeps ar z (execUpdateWrite t a1 s) := by
  unfold execUpdateWrite
  exact keeps_next (State.begins_keeps (hw.m rfl) h (fun v1 v2 k3 => startUpdateWrite_keeps (hw.m rfl) k3))

theorem startUpdateFinish_keeps {ar : List Area} (hw : Within (Area.telling [.windows, .mbx, .sec, .cw, .boot]) ar)
    {z a0 : State} {a1} (h1 : Keeps ar z a0) :
    Keeps ar z (startUpdateFinish a0 a1) := by
  unfold startUpdateFinish
  split
  · exact h1
  · exact State.relayOr_keeps (hw.m rfl) h1

theorem execUpdateFinish_keeps {ar : List Area} (hw : Within (Area.telling [.windows, .mbx, .sec, .cw, .boot]) ar) {z
    : State} {t : Nat} {a1} {s : State} (h : Keeps ar z (s.tick t)) :
    NextKeeps ar z (execUpdateFinish t a1 s) := by
  unfold execUpdateFinish
  exact keeps_next (State.begins_keeps (hw.m rfl) h (fun v1 v2 k3 => startUpdateFinish_keeps (hw.m rfl) k3))

theorem startUpdateActivate_keeps {ar : List Area} (hw : Within (Area.telling [.windows, .mbx, .sec, .cw, .boot]) ar)
    {z a0 : State} {a1} (h1 : Keeps ar z a0) :
    Keeps ar z (startUpdateActivate a0 a1) := by
  unfold startUpdateActivate
  split
  · exact h1
  · exact State.relayOr_keeps (hw.m rfl) h1

theorem execUpdateActivate_keeps {ar : List Area} (hw : Within (Area.telling [.windows, .mbx, .sec, .cw, .boot]) ar)
    {z : State} {t : Nat} {a1} {s : State} (h : Keeps ar z (s.tick t)) :
    NextKeeps ar z (execUpdateActivate t a1 s) := by
  unfold execUpdateActivate
  exact keeps_next (State.begins_keeps (hw.m rfl) h (fun v1 v2 k3 => startUpdateActivate_keeps (hw.m rfl) k3))

theorem startUpdateConfirm_keeps {ar : List Area} (hw : Within (Area.telling [.windows, .mbx, .sec, .cw, .boot]) ar)
    {z a0 : State} {a1} (h1 : Keeps ar z a0) :
    Keeps ar z (startUpdateConfirm a0 a1) := by
  unfold startUpdateConfirm
  split
  · exact h1
  · exact State.relayOr_keeps (hw.m rfl) h1

theorem execUpdateConfirm_keeps {ar : List Area} (hw : Within (Area.telling [.windows, .mbx, .sec, .cw, .boot]) ar)
    {z : State} {t : Nat} {a1} {s : State} (h : Keeps ar z (s.tick t)) :
    NextKeeps ar z (execUpdateConfirm t a1 s) := by
  unfold execUpdateConfirm
  exact keeps_next (State.begins_keeps (hw.m rfl) h (fun v1 v2 k3 => startUpdateConfirm_keeps (hw.m rfl) k3))

theorem startUpdateRevert_keeps {ar : List Area} (hw : Within (Area.telling [.windows, .mbx, .sec, .cw, .boot]) ar)
    {z a0 : State} {a1} (h1 : Keeps ar z a0) :
    Keeps ar z (startUpdateRevert a0 a1) := by
  unfold startUpdateRevert
  split
  · exact h1
  · exact State.relayOr_keeps (hw.m rfl) h1

theorem execUpdateRevert_keeps {ar : List Area} (hw : Within (Area.telling [.windows, .mbx, .sec, .cw, .boot]) ar) {z
    : State} {t : Nat} {a1} {s : State} (h : Keeps ar z (s.tick t)) :
    NextKeeps ar z (execUpdateRevert t a1 s) := by
  unfold execUpdateRevert
  exact keeps_next (State.begins_keeps (hw.m rfl) h (fun v1 v2 k3 => startUpdateRevert_keeps (hw.m rfl) k3))

theorem execUpdateStatus_keeps {ar : List Area} (hw : Within (Area.telling [.windows, .mbx, .cw, .boot]) ar) {z :
    State} {t : Nat} {a1} {s : State} (h : Keeps ar z (s.tick t)) :
    NextKeeps ar z (execUpdateStatus t a1 s) := by
  unfold execUpdateStatus
  exact keeps_next (State.query_keeps (hw.m rfl) h)

theorem State.targetStep_keeps {ar : List Area} (hw : Within (Area.telling [.boot]) ar) {z a0 : State} {a1} {a2} (h1
    : Keeps ar z a0) :
    Keeps ar z (State.targetStep a0 a1 a2).1 := by
  unfold State.targetStep
  refine keeps_ite1 (keeps_ite1 (keeps_mk1 h1) (keeps_ite1 (keeps_mk1 h1) (keeps_mk1 (State.stageBegin_keeps (hw.m
      rfl) h1)))) ?_
  refine keeps_ite1 ?_ (keeps_ite1 (keeps_mk1 h1) (keeps_ite1 (keeps_mk1 h1) (keeps_ite1 (keeps_mk1 h1) (keeps_ite1
    (keeps_mk1 h1) (keeps_ite1 (keeps_ite1 (keeps_mk1 (State.actHere_keeps (hw.m rfl) h1)) (keeps_mk1 h1)) (keeps_ite1
    (keeps_ite1 (keeps_mk1 (State.confirmHere_keeps (hw.m rfl) h1)) (keeps_mk1 h1)) (keeps_ite1 (keeps_ite1 (keeps_mk1
    (State.revertHere_keeps (hw.m rfl) h1)) (keeps_mk1 h1)) (keeps_mk1 h1))))))))
  extract_lets -underBinder -merge +onlyGivenNames v1 v2
  clear_value v1 v2
  exact keeps_mk1 (keeps_ite (State.stageWrite_keeps (hw.m rfl) h1) h1)

theorem execUpdateChunkReceived_keeps {ar : List Area} (hw : Within (Area.telling [.sec, .boot]) ar) {z : State} {t :
    Nat} {a1} {s : State} (h : Keeps ar z (s.tick t)) :
    NextKeeps ar z (execUpdateChunkReceived t a1 s) := by
  unfold execUpdateChunkReceived
  extract_lets -underBinder -merge +onlyGivenNames v1
  have k2 : Keeps ar z v1 := h
  clear_value v1
  refine keeps_next ?_
  refine keeps_ite ?_ k2
  extract_lets -underBinder -merge +onlyGivenNames v3
  have k4 : Keeps ar z v3.1 := State.targetStep_keeps (hw.m rfl) k2
  clear_value v3
  exact State.tell_keeps (hw.m rfl) k4

theorem State.swapBackHere_keeps {ar : List Area} (hw : Within Area.all ar) {z a0 : State} {a1} {a2} (h1 : Keeps ar z
    a0) :
    Keeps ar z (State.swapBackHere a0 a1 a2) := by
  unfold State.swapBackHere
  refine keeps_ite h1 ?_
  extract_lets -underBinder -merge +onlyGivenNames v1
  have k2 : Keeps ar z v1 := State.modDesc_keeps (hw.m rfl) (State.count_keeps (hw.m rfl) h1)
  clear_value v1
  exact State.selfReset_keeps (hw.m rfl) (State.modBoot_keeps (hw.m rfl) k2)

theorem State.commitTrial_keeps {ar : List Area} (hw : Within (Area.telling [.chans, .eth, .buses, .parse, .tbl, .sw,
    .sig, .time, .tide, .twin, .boot]) ar) {z a0 : State} (h1 : Keeps ar z a0) :
    Keeps ar z (State.commitTrial a0) := by
  unfold State.commitTrial
  split
  · exact keeps_ite (State.twinReview_keeps (hw.m rfl) (State.parserUpdate_keeps (hw.m rfl) (State.setDevState_keeps
      (hw.m rfl) (State.raise_keeps (hw.m rfl)
      (State.modBoot_keeps (hw.m rfl) h1))))) h1
  · exact h1

theorem State.orderBack_keeps {ar : List Area} (hw : Within Area.all ar) {z a0 : State} (h1 : Keeps ar z a0) :
    Keeps ar z (State.orderBack a0) := by
  unfold State.orderBack
  extract_lets -underBinder -merge +onlyGivenNames v1
  have k2 : Keeps ar z v1 := State.updTell_keeps (hw.m rfl) h1
  clear_value v1
  exact State.swapBackHere_keeps (hw.m rfl) (State.modBoot_keeps (hw.m rfl) k2)

theorem State.masterReport_keeps {ar : List Area} (hw : Within Area.all ar) {z a0 : State} {a1} {a2} {a3} (h1 : Keeps
    ar z a0) :
    Keeps ar z (State.masterReport a0 a1 a2 a3) := by
  unfold State.masterReport
  extract_lets -underBinder -merge +onlyGivenNames v1 v2
  clear_value v1 v2
  refine keeps_ite (keeps_ite (keeps_ite h1 (State.tell_keeps (hw.m rfl) h1)) (keeps_ite (State.orderBack_keeps (hw.m
      rfl) h1) (keeps_ite
    h1 (State.tell_keeps (hw.m rfl) h1)))) ?_
  refine keeps_ite ?_ ?_
  · extract_lets -underBinder -merge +onlyGivenNames v3
    have k4 : Keeps ar z v3 := State.modBoot_keeps (hw.m rfl) h1
    clear_value v3
    extract_lets -underBinder -merge +onlyGivenNames v5
    have k6 : Keeps ar z v5 := keeps_ite k4 (State.tell_keeps (hw.m rfl) k4)
    clear_value v5
    exact State.orderBack_keeps (hw.m rfl) k6
  · extract_lets -underBinder -merge +onlyGivenNames v7
    have k8 : Keeps ar z v7 := State.modBoot_keeps (hw.m rfl) h1
    clear_value v7
    exact keeps_ite (State.commitTrial_keeps (hw.m rfl) (State.modBoot_keeps (hw.m rfl) (State.updTell_keeps (hw.m
        rfl) k8))) k8

theorem execActivationReportSend_keeps {ar : List Area} (hw : Within Area.all ar) {z : State} {t : Nat} {s : State}
    (h : Keeps ar z (s.tick t)) :
    NextKeeps ar z (execActivationReportSend t s) := by
  unfold execActivationReportSend
  extract_lets -underBinder -merge +onlyGivenNames v1
  have k2 : Keeps ar z v1 := h
  clear_value v1
  refine keeps_next ?_
  refine keeps_ite k2 ?_
  extract_lets -underBinder -merge +onlyGivenNames v3
  clear_value v3
  extract_lets -underBinder -merge +onlyGivenNames v4
  have k5 : Keeps ar z v4 := State.modBoot_keeps (hw.m rfl) k2
  clear_value v4
  exact keeps_ite (State.masterReport_keeps (hw.m rfl) (State.modBoot_keeps (hw.m rfl) k5)) (State.tell_keeps (hw.m
      rfl) k5)

theorem execActivationReportReceived_keeps {ar : List Area} (hw : Within Area.all ar) {z : State} {t : Nat} {a1} {a2}
    {s : State} (h : Keeps ar z (s.tick t)) :
    NextKeeps ar z (execActivationReportReceived t a1 a2 s) := by
  unfold execActivationReportReceived
  extract_lets -underBinder -merge +onlyGivenNames v1
  have k2 : Keeps ar z v1 := h
  clear_value v1
  exact keeps_next (keeps_ite (State.masterReport_keeps (hw.m rfl) k2) k2)

theorem execActWaitExpiry_keeps {ar : List Area} (hw : Within Area.all ar) {z : State} {t : Nat} {s : State} (h :
    Keeps ar z (s.tick t)) :
    NextKeeps ar z (execActWaitExpiry t s) := by
  unfold execActWaitExpiry
  extract_lets -underBinder -merge +onlyGivenNames v1
  have k2 : Keeps ar z v1 := h
  clear_value v1
  exact keeps_next (keeps_ite (State.orderBack_keeps (hw.m rfl) k2) k2)

theorem State.takeOrder_keeps {ar : List Area} (hw : Within Area.all ar) {z a0 : State} {a1} {a2} (h1 : Keeps ar z a0) :
    Keeps ar z (State.takeOrder a0 a1 a2) := by
  unfold State.takeOrder
  exact keeps_ite (keeps_ite (State.commitTrial_keeps (hw.m rfl) (State.modBoot_keeps (hw.m rfl) h1)) h1) (keeps_ite
      (keeps_ite
    (State.swapBackHere_keeps (hw.m rfl) (State.modBoot_keeps (hw.m rfl) h1)) h1) (keeps_ite (keeps_ite
        (State.stageDone_keeps (hw.m rfl) h1) h1) h1))

theorem execActivationOrderReceived_keeps {ar : List Area} (hw : Within Area.all ar) {z : State} {t : Nat} {a1} {s :
    State} (h : Keeps ar z (s.tick t)) :
    NextKeeps ar z (execActivationOrderReceived t a1 s) := by
  unfold execActivationOrderReceived
  extract_lets -underBinder -merge +onlyGivenNames v1
  have k2 : Keeps ar z v1 := h
  clear_value v1
  exact keeps_next (keeps_ite (State.takeOrder_keeps (hw.m rfl) k2) k2)

theorem execSelfSwapbackTimeout_keeps {ar : List Area} (hw : Within Area.all ar) {z : State} {t : Nat} {s : State} (h
    : Keeps ar z (s.tick t)) :
    NextKeeps ar z (execSelfSwapbackTimeout t s) := by
  unfold execSelfSwapbackTimeout
  extract_lets -underBinder -merge +onlyGivenNames v1
  have k2 : Keeps ar z v1 := h
  clear_value v1
  refine keeps_next ?_
  split
  · refine keeps_ite ?_ k2
    split
    rename_i v3 v4 v5 e6
    have k7 : Keeps ar z v5 := keeps_snd e6 (State.drawBelow_keeps k2)
    exact State.swapBackHere_keeps (hw.m rfl) k7
  · exact k2

theorem State.tamperEngine_keeps {ar : List Area} (hw : Within [.ctrs, .sec] ar) {z a0 : State} {a1} (h1 : Keeps ar z
    a0) :
    Keeps ar z (State.tamperEngine a0 a1) := by
  unfold State.tamperEngine
  extract_lets -underBinder -merge +onlyGivenNames v1
  have k2 : Keeps ar z v1 := keeps_ite (State.modEngine_keeps (hw.m rfl) (State.jobEnd_keeps (hw.m rfl) h1)) h1
  clear_value v1
  exact State.modEngine_keeps (hw.m rfl) k2

theorem State.tamperPort_keeps {ar : List Area} (hw : Within (Area.but [.host]) ar) {z a0 : State} {a1} (h1 : Keeps
    ar z a0) :
    Keeps ar z (State.tamperPort a0 a1) := by
  unfold State.tamperPort
  extract_lets -underBinder -merge +onlyGivenNames v1
  clear_value v1
  extract_lets -underBinder -merge +onlyGivenNames v2
  have k3 : Keeps ar z v2 := by
    unfold v2
    split
    · exact keeps_ite (State.count_keeps (hw.m rfl) (State.verdict_keeps (hw.m rfl) h1)) h1
    · exact h1
  clear_value v2
  split
  · exact keeps_ite (State.count_keeps (hw.m rfl) (State.txStarve_keeps (hw.m rfl) k3)) k3
  · exact k3

theorem State.tamperSecured_keeps {ar : List Area} (hw : Within [.ctrs, .buses, .sig] ar) {z a0 : State} (h1 : Keeps
    ar z a0) :
    Keeps ar z (State.tamperSecured a0) := by
  unfold State.tamperSecured
  extract_lets -underBinder -merge +onlyGivenNames v1
  have k2 : Keeps ar z v1 := by
    unfold v1
    refine State.each_keeps ?_ h1
    intro v3 v4 k5
    split
    · split
      · exact keeps_ite (State.count_keeps (hw.m rfl) (State.modBus_keeps (hw.m rfl) k5)) k5
      · exact k5
    · exact k5
  clear_value v1
  extract_lets -underBinder -merge +onlyGivenNames v6
  have k7 : Keeps ar z v6 := by
    unfold v6
    refine State.each_keeps ?_ k2
    intro v8 v9 k10
    split
    · exact keeps_ite (State.count_keeps (hw.m rfl) k10) k10
    · exact k10
  clear_value v6
  exact State.modSig_keeps (hw.m rfl) k7

theorem State.tamperService_keeps {ar : List Area} (hw : Within (Area.but [.host]) ar) {z a0 : State} {a1} {a2} (h1 :
    Keeps ar z a0) :
    Keeps ar z (State.tamperService a0 a1 a2) := by
  unfold State.tamperService
  extract_lets -underBinder -merge +onlyGivenNames v1
  clear_value v1
  extract_lets -underBinder -merge +onlyGivenNames v2
  have k3 : Keeps ar z v2 := State.tamperSecured_keeps (hw.m rfl) (State.each_keeps (fun v4 v5 k6 =>
      State.tamperPort_keeps (hw.m rfl) k6) h1)
  clear_value v2
  extract_lets -underBinder -merge +onlyGivenNames v7
  have k8 : Keeps ar z v7 := State.each_keeps (fun v9 v10 k11 => State.tamperEngine_keeps (hw.m rfl) k11) k3
  clear_value v7
  extract_lets -underBinder -merge +onlyGivenNames v12
  have k13 : Keeps ar z v12 := State.each_keeps (fun v14 v15 k16 => State.complete_keeps (hw.m rfl) k16) k8
  clear_value v12
  exact keeps_ite (State.count_keeps (hw.m rfl) (State.keyWipeHost_keeps (hw.m rfl) k13)) k13

theorem State.tamperNote_keeps {ar : List Area} (hw : Within [.ctrs, .sec] ar) {z a0 : State} {a1} {a2} {a3} {a4} (h1
    : Keeps ar z a0) :
    Keeps ar z (State.tamperNote a0 a1 a2 a3 a4) := by
  unfold State.tamperNote
  extract_lets -underBinder -merge +onlyGivenNames v1 v2
  clear_value v1 v2
  extract_lets -underBinder -merge +onlyGivenNames v3
  have k4 : Keeps ar z v3 := State.count_keeps (hw.m rfl) h1
  clear_value v3
  exact State.modSec_keeps (hw.m rfl) k4

theorem State.tamperPend_keeps {ar : List Area} (hw : Within [.sec] ar) {z a0 : State} {a1} (h1 : Keeps ar z a0) :
    Keeps ar z (State.tamperPend a0 a1) := by
  unfold State.tamperPend
  exact State.modSec_keeps (hw.m rfl) h1

theorem State.tamperFires_keeps {ar : List Area} (hw : Within (Area.but [.host]) ar) {z a0 : State} {a1} (h1 : Keeps
    ar z a0) :
    Keeps ar z (State.tamperFires a0 a1) := by
  unfold State.tamperFires
  extract_lets -underBinder -merge +onlyGivenNames v1
  clear_value v1
  split
  · exact h1
  · extract_lets -underBinder -merge +onlyGivenNames v2
    have k3 : Keeps ar z v2 := State.modSec_keeps (hw.m rfl) h1
    clear_value v2
    extract_lets -underBinder -merge +onlyGivenNames v4
    clear_value v4
    extract_lets -underBinder -merge +onlyGivenNames v5
    have k6 : Keeps ar z v5 := State.tamperNote_keeps (hw.m rfl) k3
    clear_value v5
    refine keeps_ite ?_ (keeps_ite (State.wakeBy_keeps (hw.m rfl) (State.modSec_keeps (hw.m rfl)
        (State.tamperPend_keeps (hw.m rfl) k6)))
      (State.report_keeps (hw.m rfl) (State.raiseOf_keeps (hw.m rfl) (State.tamperService_keeps (hw.m rfl) k6))))
    extract_lets -underBinder -merge +onlyGivenNames v7
    have k8 : Keeps ar z v7 := State.report_keeps (hw.m rfl) (State.tamperPend_keeps (hw.m rfl) k6)
    clear_value v7
    exact keeps_ite (State.sealDevice_keeps (hw.m rfl) k8) k8

theorem State.tamperEnter_keeps {ar : List Area} (hw : Within (Area.but [.host]) ar) {z a0 : State} {a1} (h1 : Keeps
    ar z a0) :
    Keeps ar z (State.tamperEnter a0 a1) := by
  unfold State.tamperEnter
  extract_lets -underBinder -merge +onlyGivenNames v1
  have k2 : Keeps ar z v1 := keeps_ite (State.modSec_keeps (hw.m rfl) h1) h1
  clear_value v1
  exact keeps_ite k2 (State.tamperFires_keeps (hw.m rfl) k2)

theorem execTamperAlarm_keeps {ar : List Area} (hw : Within (Area.but [.host]) ar) {z : State} {t : Nat} {a1} {s :
    State} (h : Keeps ar z (s.tick t)) :
    NextKeeps ar z (execTamperAlarm t a1 s) := by
  unfold execTamperAlarm
  exact keeps_next (State.tamperEnter_keeps (hw.m rfl) h)

theorem State.tamperLeave_keeps {ar : List Area} (hw : Within [.sec, .flt] ar) {z a0 : State} {a1} (h1 : Keeps ar z
    a0) :
    Keeps ar z (State.tamperLeave a0 a1) := by
  unfold State.tamperLeave
  exact State.quieten_keeps (hw.m rfl) (State.modSec_keeps (hw.m rfl) h1)

theorem execFaultSourceQuiet_keeps {ar : List Area} (hw : Within [.sec, .flt] ar) {z : State} {t : Nat} {a1} {s :
    State} (h : Keeps ar z (s.tick t)) :
    NextKeeps ar z (execFaultSourceQuiet t a1 s) := by
  unfold execFaultSourceQuiet
  extract_lets -underBinder -merge +onlyGivenNames v1
  have k2 : Keeps ar z v1 := h
  clear_value v1
  extract_lets -underBinder -merge +onlyGivenNames v3
  clear_value v3
  exact keeps_next (keeps_ite (State.tamperLeave_keeps (hw.m rfl) k2) (keeps_ite (State.quieten_keeps (hw.m rfl)
      (State.modSec_keeps (hw.m rfl) k2))
    (keeps_ite (State.quieten_keeps (hw.m rfl) k2) k2)))

theorem effectKeyTamperConfig_keeps {ar : List Area} (hw : Within (Area.but [.host]) ar) {z a0 : State} {a1} (h1 :
    Keeps ar z a0) :
    Keeps ar z (effectKeyTamperConfig a0 a1).1 := by
  unfold effectKeyTamperConfig
  extract_lets -underBinder -merge +onlyGivenNames v1
  clear_value v1
  extract_lets -underBinder -merge +onlyGivenNames v2
  have k3 : Keeps ar z v2 := State.modSec_keeps (hw.m rfl) h1
  clear_value v2
  extract_lets -underBinder -merge +onlyGivenNames v4
  have k5 : Keeps ar z v4 := keeps_ite (State.persist_keeps (hw.m rfl) k3) k3
  clear_value v4
  extract_lets -underBinder -merge +onlyGivenNames v6
  clear_value v6
  extract_lets -underBinder -merge +onlyGivenNames v7
  have k8 : Keeps ar z v7 := State.each_keeps (fun v9 v10 k11 => keeps_ite (State.quieten_keeps (hw.m rfl)
      (State.modSec_keeps (hw.m rfl)
    k11)) k11) k5
  clear_value v7
  extract_lets -underBinder -merge +onlyGivenNames v12
  have k13 : Keeps ar z v12 := State.each_keeps (fun v14 v15 k16 => keeps_ite (State.tamperFires_keeps (hw.m rfl)
      k16) k16) k8
  clear_value v12
  exact keeps_mk1 k13

theorem execKeyTamperConfig_keeps {ar : List Area} (hw : Within (Area.but [.host]) ar) {z : State} {t : Nat} {a1} {s
    : State} (h : Keeps ar z (s.tick t)) :
    NextKeeps ar z (execKeyTamperConfig t a1 s) := by
  unfold execKeyTamperConfig
  exact keeps_next (State.simple_keeps (hw.m rfl) h (fun v1 v2 k3 => effectKeyTamperConfig_keeps (hw.m rfl) k3))

theorem effectKeyEnrol_keeps {ar : List Area} (hw : Within (Area.but [.host, .slp]) ar) {z : State} {a0} {a1 : State}
    {a2} (h2 : Keeps ar z a1) :
    Keeps ar z (effectKeyEnrol a0 a1 a2).1 := by
  unfold effectKeyEnrol
  split
  rename_i v1 v2 v3 e4
  have k5 : Keeps ar z v3 := keeps_snd e4 (State.drawBelow_keeps h2)
  extract_lets -underBinder -merge +onlyGivenNames v6
  have k7 : Keeps ar z v6 := State.modSec_keeps (hw.m rfl) k5
  clear_value v6
  refine keeps_ite1 ?_ (keeps_mk1 (State.pulse_keeps (hw.m rfl) k7))
  extract_lets -underBinder -merge +onlyGivenNames v8
  have k9 : Keeps ar z v8 := State.keyRoot_keeps (hw.m rfl) (State.modSec_keeps (hw.m rfl) k7)
  clear_value v8
  exact keeps_mk1 (State.raiseOf_keeps (hw.m rfl) k9)

theorem execKeyEnrol_keeps {ar : List Area} (hw : Within (Area.but [.host, .slp]) ar) {z : State} {t : Nat} {a1} {a2}
    {s : State} (h : Keeps ar z (s.tick t)) :
    NextKeeps ar z (execKeyEnrol t a1 a2 s) := by
  unfold execKeyEnrol
  exact keeps_next (State.simple_keeps (hw.m rfl) h (fun v1 v2 k3 => effectKeyEnrol_keeps (hw.m rfl) k3))

theorem State.entropyFails_keeps {ar : List Area} (hw : Within (Area.but [.host, .slp]) ar) {z a0 : State} (h1 :
    Keeps ar z a0) :
    Keeps ar z (State.entropyFails a0) := by
  unfold State.entropyFails
  exact State.report_keeps (hw.m rfl) (State.modSec_keeps (hw.m rfl) h1)

theorem execEntropyHealthFail_keeps {ar : List Area} (hw : Within (Area.but [.host, .slp]) ar) {z : State} {t : Nat}
    {s : State} (h : Keeps ar z (s.tick t)) :
    NextKeeps ar z (execEntropyHealthFail t s) := by
  unfold execEntropyHealthFail
  extract_lets -underBinder -merge +onlyGivenNames v1
  have k2 : Keeps ar z v1 := h
  clear_value v1
  exact keeps_next (keeps_ite (State.entropyFails_keeps (hw.m rfl) k2) k2)

theorem State.claimCauseway_keeps {ar : List Area} (hw : Within (Area.telling [.eth, .sw, .sec]) ar) {z a0 : State}
    {a1} {a2} (h1 : Keeps ar z a0) :
    Keeps ar z (State.claimCauseway a0 a1 a2) := by
  unfold State.claimCauseway
  extract_lets -underBinder -merge +onlyGivenNames v1 v2
  clear_value v1 v2
  extract_lets -underBinder -merge +onlyGivenNames v3
  have k4 : Keeps ar z v3 := State.modPort_keeps (hw.m rfl) (State.engineTake_keeps (hw.m rfl) h1)
  clear_value v3
  extract_lets -underBinder -merge +onlyGivenNames v5
  clear_value v5
  extract_lets -underBinder -merge +onlyGivenNames v6
  have k7 : Keeps ar z v6 := keeps_ite (State.cwSession_keeps (hw.m rfl) k4) k4
  clear_value v6
  exact State.encJudge_keeps (hw.m rfl) k7

theorem State.claimFrame_keeps {ar : List Area} (hw : Within (Area.telling [.buses, .sig, .sec]) ar) {z a0 : State}
    {a1} {a2} (h1 : Keeps ar z a0) :
    Keeps ar z (State.claimFrame a0 a1 a2) := by
  unfold State.claimFrame
  split
  · extract_lets -underBinder -merge +onlyGivenNames v1 v2
    clear_value v1 v2
    extract_lets -underBinder -merge +onlyGivenNames v3
    have k4 : Keeps ar z v3 := keeps_ite (State.keyLoad_keeps (hw.m rfl) (State.engineTake_keeps (hw.m rfl) h1)) h1
    clear_value v3
    extract_lets -underBinder -merge +onlyGivenNames v5
    clear_value v5
    exact State.modSig_keeps (hw.m rfl) k4
  · split
    · exact h1
    · refine keeps_ite h1 ?_
      extract_lets -underBinder -merge +onlyGivenNames v6 v7
      clear_value v6 v7
      extract_lets -underBinder -merge +onlyGivenNames v8
      have k9 : Keeps ar z v8 := keeps_ite (State.keyLoad_keeps (hw.m rfl) (State.engineTake_keeps (hw.m rfl) h1)) h1
      clear_value v8
      exact State.modBus_keeps (hw.m rfl) k9

theorem State.claimMessage_keeps {ar : List Area} (hw : Within (Area.telling [.chans, .eth, .buses, .sw, .sig, .sec])
    ar) {z a0 : State} {a1} {a2} (h1 : Keeps ar z a0) :
    Keeps ar z (State.claimMessage a0 a1 a2) := by
  unfold State.claimMessage
  split
  · exact h1
  · exact State.secSend_keeps (hw.m rfl) (State.modSig_keeps (hw.m rfl) h1)

theorem execInternalEngineClaim_keeps {ar : List Area} (hw : Within (Area.telling [.chans, .eth, .buses, .sw, .sig,
    .sec]) ar) {z : State} {t : Nat} {a1} {s : State} (h : Keeps ar z (s.tick t)) :
    NextKeeps ar z (execInternalEngineClaim t a1 s) := by
  unfold execInternalEngineClaim
  extract_lets -underBinder -merge +onlyGivenNames v1
  have k2 : Keeps ar z v1 := h
  clear_value v1
  refine keeps_next ?_
  refine keeps_ite k2 ?_
  split
  · exact k2
  · extract_lets -underBinder -merge +onlyGivenNames v3
    have k4 : Keeps ar z v3 := State.modSec_keeps (hw.m rfl) k2
    clear_value v3
    exact keeps_ite (State.claimCauseway_keeps (hw.m rfl) k4) (keeps_ite (State.claimFrame_keeps (hw.m rfl) k4)
        (State.claimMessage_keeps (hw.m rfl)
      k4))

theorem State.sourceEnters_keeps {ar : List Area} (hw : Within (Area.but [.host]) ar) {z a0 : State} {a1} {a2} {a3}
    (h1 : Keeps ar z a0) :
    Keeps ar z (State.sourceEnters a0 a1 a2 a3) := by
  unfold State.sourceEnters
  exact keeps_ite h1 (keeps_ite (State.tableBad_keeps (hw.m rfl) h1) (keeps_ite (State.graphBad_keeps (hw.m rfl) h1)
      (keeps_ite
    (State.entropyFails_keeps (hw.m rfl) h1) (keeps_ite (State.tamperEnter_keeps (hw.m rfl) h1) (keeps_ite
        (State.wireReport_keeps (hw.m rfl) h1)
    (State.report_keeps (hw.m rfl) h1))))))

theorem execFaultSourceEntry_keeps {ar : List Area} (hw : Within (Area.but [.host]) ar) {z : State} {t : Nat} {a1}
    {a2} {a3} {s : State} (h : Keeps ar z (s.tick t)) :
    NextKeeps ar z (execFaultSourceEntry t a1 a2 a3 s) := by
  unfold execFaultSourceEntry
  exact keeps_next (State.sourceEnters_keeps (hw.m rfl) h)

theorem State.lockOut_keeps {ar : List Area} (hw : Within [.cw] ar) {z a0 : State} {a1} {a2} (h1 : Keeps ar z a0) :
    Keeps ar z (State.lockOut a0 a1 a2) := by
  unfold State.lockOut
  exact State.modCw_keeps (hw.m rfl) h1

theorem State.lockPut_keeps {ar : List Area} (hw : Within [.cw] ar) {z a0 : State} {a1} (h1 : Keeps ar z a0) :
    Keeps ar z (State.lockPut a0 a1) := by
  unfold State.lockPut
  exact State.modCw_keeps (hw.m rfl) (State.lockOut_keeps (hw.m rfl) h1)

theorem State.modRun'_keeps {ar : List Area} (hw : Within [.cw] ar) {z a0 : State} {a1} {a2} (h1 : Keeps ar z a0) :
    Keeps ar z (State.modRun' a0 a1 a2) := by
  unfold State.modRun'
  exact State.modCw_keeps (hw.m rfl) h1

theorem State.lockSend_keeps {ar : List Area} (hw : Within (Area.telling [.sec, .cw]) ar) {z a0 : State} {a1} (h1 :
    Keeps ar z a0) :
    Keeps ar z (State.lockSend a0 a1) := by
  unfold State.lockSend
  split
  · exact h1
  · exact State.tell_keeps (hw.m rfl) (State.modRun'_keeps (hw.m rfl) h1)

theorem State.lockGive_keeps {ar : List Area} (hw : Within (Area.telling [.sec, .cw]) ar) {z a0 : State} {a1} {a2}
    {a3} {a4} {a5} {a6} (h1 : Keeps ar z a0) :
    Keeps ar z (State.lockGive a0 a1 a2 a3 a4 a5 a6) := by
  unfold State.lockGive
  extract_lets -underBinder -merge +onlyGivenNames v1
  clear_value v1
  extract_lets -underBinder -merge +onlyGivenNames v2
  have k3 : Keeps ar z v2 := State.lockPut_keeps (hw.m rfl) h1
  clear_value v2
  exact keeps_ite (State.lockSend_keeps (hw.m rfl) k3) (State.tell_keeps (hw.m rfl) k3)

theorem State.lockFree_keeps {ar : List Area} (hw : Within (Area.telling [.sec, .cw]) ar) {z a0 : State} {a1} {a2}
    (h1 : Keeps ar z a0) :
    Keeps ar z (State.lockFree a0 a1 a2) := by
  unfold State.lockFree
  split
  · exact h1
  · extract_lets -underBinder -merge +onlyGivenNames v1
    have k2 : Keeps ar z v1 := State.lockOut_keeps (hw.m rfl) h1
    clear_value v1
    split
    · exact k2
    · exact State.lockGive_keeps (hw.m rfl) k2

theorem State.localFree_keeps {ar : List Area} (hw : Within (Area.telling [.sec, .cw]) ar) {z a0 : State} {a1} (h1 :
    Keeps ar z a0) :
    Keeps ar z (State.localFree a0 a1) := by
  unfold State.localFree
  split
  · exact h1
  · split
    · exact h1
    · exact keeps_ite (State.lockFree_keeps (hw.m rfl) h1) (State.lockPut_keeps (hw.m rfl) h1)

theorem State.unlockSend_keeps {ar : List Area} (hw : Within (Area.telling [.sec]) ar) {z a0 : State} {a1} {a2} {a3}
    {a4} {a5} {a6} {a7} (h1 : Keeps ar z a0) :
    Keeps ar z (State.unlockSend a0 a1 a2 a3 a4 a5 a6 a7) := by
  unfold State.unlockSend
  exact State.tell_keeps (hw.m rfl) h1

theorem State.remoteEnd_keeps {ar : List Area} (hw : Within (Area.telling [.sec, .cw]) ar) {z a0 : State} {a1} (h1 :
    Keeps ar z a0) :
    Keeps ar z (State.remoteEnd a0 a1).1 := by
  unfold State.remoteEnd
  split
  · exact keeps_mk1 h1
  · exact keeps_mk1 (State.localFree_keeps (hw.m rfl) (State.modCw_keeps (hw.m rfl) h1))

theorem State.remoteDrop_keeps {ar : List Area} (hw : Within (Area.telling [.sec, .cw]) ar) {z a0 : State} {a1} (h1 :
    Keeps ar z a0) :
    Keeps ar z (State.remoteDrop a0 a1).1 := by
  unfold State.remoteDrop
  split
  · exact keeps_mk1 h1
  · extract_lets -underBinder -merge +onlyGivenNames v1
    have k2 : Keeps ar z v1.1 := State.remoteEnd_keeps (hw.m rfl) h1
    clear_value v1
    exact keeps_mk1 (keeps_ite (State.unlockSend_keeps (hw.m rfl) k2) k2)

theorem State.ringBell_keeps {ar : List Area} (hw : Within [.mbx, .ctrs] ar) {z a0 : State} {a1} (h1 : Keeps ar z a0) :
    Keeps ar z (State.ringBell a0 a1) := by
  unfold State.ringBell
  extract_lets -underBinder -merge +onlyGivenNames v1
  clear_value v1
  exact keeps_ite (State.count_keeps (hw.m rfl) (State.modMb_keeps (hw.m rfl) h1)) (State.modMb_keeps (hw.m rfl) h1)

theorem execMbxRing_keeps {ar : List Area} (hw : Within [.mbx, .ctrs] ar) {z : State} {t : Nat} {a1} {a2} {s : State}
    (h : Keeps ar z (s.tick t)) :
    NextKeeps ar z (execMbxRing t a1 a2 s) := by
  unfold execMbxRing
  exact keeps_next (State.hostWrites_keeps h (fun v1 k2 => keeps_ite (State.ringBell_keeps (hw.m rfl) k2) k2))

theorem State.mbxFlags_keeps {ar : List Area} (hw : Within [.mbx] ar) {z a0 : State} {a1} {a2} (h1 : Keeps ar z a0) :
    Keeps ar z (State.mbxFlags a0 a1 a2) := by
  unfold State.mbxFlags
  exact State.modMb_keeps (hw.m rfl) h1

theorem execMbxDoneClear_keeps {ar : List Area} (hw : Within [.mbx] ar) {z : State} {t : Nat} {a1} {a2} {s : State}
    (h : Keeps ar z (s.tick t)) :
    NextKeeps ar z (execMbxDoneClear t a1 a2 s) := by
  unfold execMbxDoneClear
  exact keeps_next (State.hostWrites_keeps h (fun v1 k2 => State.mbxFlags_keeps (hw.m rfl) k2))

theorem State.tellPeer_keeps {ar : List Area} (hw : Within (Area.telling [.sec]) ar) {z a0 : State} {a1} {a2} {a3}
    (h1 : Keeps ar z a0) :
    Keeps ar z (State.tellPeer a0 a1 a2 a3) := by
  unfold State.tellPeer
  split
  · exact State.tell_keeps (hw.m rfl) h1
  · exact h1

theorem State.latchCommand_keeps {ar : List Area} (hw : Within [.mbx] ar) {z a0 : State} {a1} (h1 : Keeps ar z a0) :
    Keeps ar z (State.latchCommand a0 a1) := by
  unfold State.latchCommand
  extract_lets -underBinder -merge +onlyGivenNames v1 v2 v3
  clear_value v1 v2 v3
  extract_lets -underBinder -merge +onlyGivenNames v4
  have k5 : Keeps ar z v4 := State.modMb_keeps (hw.m rfl) h1
  clear_value v4
  exact keeps_same hw k5

theorem State.acceptCommand_keeps {ar : List Area} (hw : Within (Area.telling [.windows, .mbx, .sec, .cw, .slp,
    .boot]) ar) {z a0 : State} {a1} (h1 : Keeps ar z a0) :
    Keeps ar z (State.acceptCommand a0 a1) := by
  unfold State.acceptCommand
  extract_lets -underBinder -merge +onlyGivenNames v1
  clear_value v1
  extract_lets -underBinder -merge +onlyGivenNames v2
  have k3 : Keeps ar z v2 := State.heard_keeps (hw.m rfl) (State.latchCommand_keeps (hw.m rfl) h1)
  clear_value v2
  refine keeps_ite ?_ (keeps_ite (State.envelopeJudge_keeps (hw.m rfl) k3) k3)
  extract_lets -underBinder -merge +onlyGivenNames v4 v5
  clear_value v4 v5
  exact State.tellPeer_keeps (hw.m rfl) (State.modCw_keeps (hw.m rfl) (State.modMb_keeps (hw.m rfl) k3))

theorem execMbxAccept_keeps {ar : List Area} (hw : Within (Area.telling [.windows, .mbx, .sec, .cw, .slp, .boot]) ar)
    {z : State} {t : Nat} {a1} {s : State} (h : Keeps ar z (s.tick t)) :
    NextKeeps ar z (execMbxAccept t a1 s) := by
  unfold execMbxAccept
  extract_lets -underBinder -merge +onlyGivenNames v1
  have k2 : Keeps ar z v1 := h
  clear_value v1
  exact keeps_next (keeps_ite (State.acceptCommand_keeps (hw.m rfl) k2) k2)

theorem State.startCommand_keeps {ar : List Area} (hw : Within (Area.telling [.mbx]) ar) {z a0 : State} {a1} {a2} (h1
    : Keeps ar z a0) :
    Keeps ar z (State.startCommand a0 a1 a2) := by
  unfold State.startCommand
  extract_lets -underBinder -merge +onlyGivenNames v1
  have k2 : Keeps ar z v1 := State.modMb_keeps (hw.m rfl) h1
  clear_value v1
  refine keeps_ite k2 ?_
  refine State.each_keeps ?_ k2
  intro v3 v4 k5
  split
  · exact keeps_ite (State.deferCommand_keeps (hw.m rfl) k5) k5
  · exact k5

theorem execCommandStart_keeps {ar : List Area} (hw : Within (Area.telling [.mbx]) ar) {z : State} {t : Nat} {a1} {s
    : State} (h : Keeps ar z (s.tick t)) :
    NextKeeps ar z (execCommandStart t a1 s) := by
  unfold execCommandStart
  extract_lets -underBinder -merge +onlyGivenNames v1
  have k2 : Keeps ar z v1 := h
  clear_value v1
  refine keeps_next ?_
  split
  · exact keeps_ite (State.startCommand_keeps (hw.m rfl) k2) k2
  · exact k2

theorem State.restartStuck_keeps {ar : List Area} (hw : Within (Area.but [.host, .time, .slp]) ar) {z a0 : State}
    {a1} (h1 : Keeps ar z a0) :
    Keeps ar z (State.restartStuck a0 a1) := by
  unfold State.restartStuck
  extract_lets -underBinder -merge +onlyGivenNames v1
  clear_value v1
  extract_lets -underBinder -merge +onlyGivenNames v2
  have k3 : Keeps ar z v2 := State.each_keeps (fun v4 v5 k6 => keeps_ite (State.restartIsland_keeps (hw.m rfl) k6)
    (State.restartUnit_keeps (hw.m rfl) k6)) h1
  clear_value v2
  exact State.modMb_keeps (hw.m rfl) k3

theorem State.relayLate_keeps {ar : List Area} (hw : Within (Area.telling [.windows, .mbx, .cw, .boot]) ar) {z a0 :
    State} {a1} (h1 : Keeps ar z a0) :
    Keeps ar z (State.relayLate a0 a1) := by
  unfold State.relayLate
  refine keeps_ite h1 ?_
  extract_lets -underBinder -merge +onlyGivenNames v1
  clear_value v1
  extract_lets -underBinder -merge +onlyGivenNames v2
  have k3 : Keeps ar z v2 := State.modBoot_keeps (hw.m rfl) h1
  clear_value v2
  extract_lets -underBinder -merge +onlyGivenNames v4
  have k5 : Keeps ar z v4 := State.modMb_keeps (hw.m rfl) k3
  clear_value v4
  exact keeps_ite (State.commitEnd_keeps (hw.m rfl) k5) k5

theorem State.expire_keeps {ar : List Area} (hw : Within (Area.but [.host, .time, .slp]) ar) {z a0 : State} {a1} {a2}
    (h1 : Keeps ar z a0) :
    Keeps ar z (State.expire a0 a1 a2) := by
  unfold State.expire
  extract_lets -underBinder -merge +onlyGivenNames v1
  clear_value v1
  refine keeps_ite (keeps_ite (State.relayLate_keeps (hw.m rfl) (State.interim_keeps (hw.m rfl)
      (State.restartStuck_keeps (hw.m rfl) h1))) h1) ?_
  split
  rename_i v2 v3 v4 e5
  have k6 : Keeps ar z v3 := keeps_fst e5 (State.remoteEnd_keeps (hw.m rfl) h1)
  extract_lets -underBinder -merge +onlyGivenNames v7
  have k8 : Keeps ar z v7 := keeps_ite (State.undo_keeps (hw.m rfl) k6) k6
  clear_value v7
  extract_lets -underBinder -merge +onlyGivenNames v9
  have k10 : Keeps ar z v9 := State.modCw_keeps (hw.m rfl) k8
  clear_value v9
  exact State.complete_keeps (hw.m rfl) k10

theorem execLongestTimeExpiry_keeps {ar : List Area} (hw : Within (Area.but [.host, .time, .slp]) ar) {z : State} {t
    : Nat} {a1} {s : State} (h : Keeps ar z (s.tick t)) :
    NextKeeps ar z (execLongestTimeExpiry t a1 s) := by
  unfold execLongestTimeExpiry
  extract_lets -underBinder -merge +onlyGivenNames v1
  have k2 : Keeps ar z v1 := h
  clear_value v1
  extract_lets -underBinder -merge +onlyGivenNames v3
  clear_value v3
  refine keeps_next ?_
  split
  · exact keeps_ite (State.expire_keeps (hw.m rfl) k2) k2
  · exact k2

theorem State.stopFunction_keeps {ar : List Area} (hw : Within (Area.but [.host, .slp]) ar) {z a0 : State} {a1} {a2}
    {a3} (h1 : Keeps ar z a0) :
    Keeps ar z (State.stopFunction a0 a1 a2 a3) := by
  unfold State.stopFunction
  extract_lets -underBinder -merge +onlyGivenNames v1 v2
  clear_value v1 v2
  exact keeps_ite h1 (keeps_ite (keeps_ite h1 (keeps_ite (State.portOff_keeps (hw.m rfl) (State.txCut_keeps (hw.m
      rfl) h1)) (keeps_ite
    (State.modPort_keeps (hw.m rfl) h1) (State.portOff_keeps (hw.m rfl) h1)))) (keeps_ite (State.busAbort_keeps (hw.m
        rfl) h1) (keeps_ite (keeps_ite
    h1 (State.ringStop_keeps (hw.m rfl) h1)) (keeps_ite (State.modTwin_keeps (hw.m rfl) h1) h1))))

theorem State.abortEnd_keeps {ar : List Area} (hw : Within (Area.but [.host, .slp]) ar) {z a0 : State} {a1} {a2} (h1
    : Keeps ar z a0) :
    Keeps ar z (State.abortEnd a0 a1 a2) := by
  unfold State.abortEnd
  extract_lets -underBinder -merge +onlyGivenNames v1 v2
  clear_value v1 v2
  split
  · exact h1
  · split
    rename_i v3 v4 v5 e6
    have k7 : Keeps ar z v4 := keeps_fst e6 (State.remoteDrop_keeps (hw.m rfl) (State.modMb_keeps (hw.m rfl) h1))
    extract_lets -underBinder -merge +onlyGivenNames v8
    have k9 : Keeps ar z v8 := State.modCw_keeps (hw.m rfl) k7
    clear_value v8
    extract_lets -underBinder -merge +onlyGivenNames v10
    have k11 : Keeps ar z v10 := keeps_ite k9 (State.stopFunction_keeps (hw.m rfl) (keeps_ite (State.undo_keeps (hw.m
        rfl) k9) k9))
    clear_value v10
    extract_lets -underBinder -merge +onlyGivenNames v12
    have k13 : Keeps ar z v12 := keeps_ite k11 (State.each_keeps (fun v14 v15 k16 => State.restartUnit_keeps (hw.m
        rfl) k16) k11)
    clear_value v12
    extract_lets -underBinder -merge +onlyGivenNames v17
    have k18 : Keeps ar z v17 := keeps_ite (State.pulse_keeps (hw.m rfl) (State.count_keeps (hw.m rfl) k13)) k11
    clear_value v17
    exact keeps_ite (State.modMb_keeps (hw.m rfl) k18) (State.complete_keeps (hw.m rfl) k18)

theorem State.abortCommand_keeps {ar : List Area} (hw : Within (Area.but [.host, .slp]) ar) {z a0 : State} {a1} {a2}
    (h1 : Keeps ar z a0) :
    Keeps ar z (State.abortCommand a0 a1 a2) := by
  unfold State.abortCommand
  extract_lets -underBinder -merge +onlyGivenNames v1
  clear_value v1
  refine keeps_ite h1 ?_
  refine keeps_ite (State.complete_keeps (hw.m rfl) h1) ?_
  extract_lets -underBinder -merge +onlyGivenNames v2
  have k3 : Keeps ar z v2 := State.modMb_keeps (hw.m rfl) h1
  clear_value v2
  exact keeps_ite (State.tellPeer_keeps (hw.m rfl) k3) (keeps_ite (State.abortEnd_keeps (hw.m rfl) k3) k3)

theorem execMbxAbort_keeps {ar : List Area} (hw : Within (Area.but [.host, .slp]) ar) {z : State} {t : Nat} {a1} {a2}
    {a3} {s : State} (h : Keeps ar z (s.tick t)) :
    NextKeeps ar z (execMbxAbort t a1 a2 a3 s) := by
  unfold execMbxAbort
  exact keeps_next (State.hostWrites_keeps h (fun v1 k2 => keeps_ite (State.abortCommand_keeps (hw.m rfl) k2) k2))

theorem execAbortWatchdog_keeps {ar : List Area} (hw : Within (Area.but [.host, .slp]) ar) {z : State} {t : Nat} {a1}
    {s : State} (h : Keeps ar z (s.tick t)) :
    NextKeeps ar z (execAbortWatchdog t a1 s) := by
  unfold execAbortWatchdog
  extract_lets -underBinder -merge +onlyGivenNames v1
  have k2 : Keeps ar z v1 := h
  clear_value v1
  refine keeps_next ?_
  split
  · exact keeps_ite (State.abortEnd_keeps (hw.m rfl) k2) k2
  · exact k2

theorem execDevIdentify_keeps {ar : List Area} (hw : Within (Area.telling [.windows, .mbx, .cw, .boot]) ar) {z :
    State} {t : Nat} {a1} {s : State} (h : Keeps ar z (s.tick t)) :
    NextKeeps ar z (execDevIdentify t a1 s) := by
  unfold execDevIdentify
  exact keeps_next (State.query_keeps (hw.m rfl) h)

theorem execDevState_keeps {ar : List Area} (hw : Within (Area.telling [.windows, .mbx, .cw, .boot]) ar) {z : State}
    {t : Nat} {a1} {s : State} (h : Keeps ar z (s.tick t)) :
    NextKeeps ar z (execDevState t a1 s) := by
  unfold execDevState
  exact keeps_next (State.query_keeps (hw.m rfl) h)

theorem State.islandHold_keeps {ar : List Area} (hw : Within (Area.but [.host, .units, .time, .slp]) ar) {z a0 :
    State} {a1} (h1 : Keeps ar z a0) :
    Keeps ar z (State.islandHold a0 a1) := by
  unfold State.islandHold
  extract_lets -underBinder -merge +onlyGivenNames v1
  have k2 : Keeps ar z v1 := State.modIsl_keeps (hw.m rfl) h1
  clear_value v1
  extract_lets -underBinder -merge +onlyGivenNames v3
  have k4 : Keeps ar z v3 := State.commandsFault_keeps (hw.m rfl) (State.isolateEffects_keeps (hw.m rfl) k2)
  clear_value v3
  exact State.modIsl_keeps (hw.m rfl) k4

theorem State.islandRelease_keeps {ar : List Area} (hw : Within [.islands] ar) {z a0 : State} {a1} (h1 : Keeps ar z
    a0) :
    Keeps ar z (State.islandRelease a0 a1) := by
  unfold State.islandRelease
  exact State.modIsl_keeps (hw.m rfl) h1

theorem effectDevConfig_keeps {ar : List Area} (hw : Within (Area.but [.host, .units, .time, .slp]) ar) {z a0 :
    State} {a1} (h1 : Keeps ar z a0) :
    Keeps ar z (effectDevConfig a0 a1).1 := by
  unfold effectDevConfig
  extract_lets -underBinder -merge +onlyGivenNames v1
  have k2 : Keeps ar z v1 := State.each_keeps (fun v3 v4 k5 => keeps_ite (State.islandHold_keeps (hw.m rfl) k5)
    (State.islandRelease_keeps (hw.m rfl) k5)) h1
  clear_value v1
  extract_lets -underBinder -merge +onlyGivenNames v6
  have k7 : Keeps ar z v6 := by
    unfold v6
    refine State.each_keeps ?_ k2
    intro v8 v9 k10
    extract_lets -underBinder -merge +onlyGivenNames v11
    clear_value v11
    exact keeps_ite k10 (State.modIsl_keeps (hw.m rfl) k10)
  clear_value v6
  exact keeps_mk1 k7

theorem execDevConfig_keeps {ar : List Area} (hw : Within (Area.but [.host, .units, .time, .slp]) ar) {z : State} {t
    : Nat} {a1} {s : State} (h : Keeps ar z (s.tick t)) :
    NextKeeps ar z (execDevConfig t a1 s) := by
  unfold execDevConfig
  exact keeps_next (State.simple_keeps (hw.m rfl) h (fun v1 v2 k3 => effectDevConfig_keeps (hw.m rfl) k3))

theorem State.snapId_keeps {ar : List Area} {z a0 : State} (h1 : Keeps ar z a0) :
    Keeps ar z (State.snapId a0).2 := by
  unfold State.snapId
  split
  rename_i v1 v2 v3 e4
  have k5 : Keeps ar z v3 := keeps_snd e4 (State.drawBelow_keeps h1)
  exact keeps_mk2 k5

theorem State.snapTake_keeps {ar : List Area} (hw : Within [.host, .events] ar) {z a0 : State} {a1} {a2} (h1 : Keeps
    ar z a0) :
    Keeps ar z (State.snapTake a0 a1 a2) := by
  unfold State.snapTake
  split
  rename_i v1 v2 v3 e4
  have k5 : Keeps ar z v3 := keeps_snd e4 (State.snapId_keeps h1)
  exact State.modHost_keeps (hw.m rfl) k5

theorem State.snapMarks_keeps {ar : List Area} (hw : Within [.host, .events, .buses, .tbl, .sw, .sig, .aud, .sec] ar)
    {z a0 : State} {a1} (h1 : Keeps ar z a0) :
    Keeps ar z (State.snapMarks a0 a1) := by
  unfold State.snapMarks
  extract_lets -underBinder -merge +onlyGivenNames v1
  clear_value v1
  extract_lets -underBinder -merge +onlyGivenNames v2
  have k3 : Keeps ar z v2 := keeps_ite (State.modHost_keeps (hw.m rfl) h1) h1
  clear_value v2
  extract_lets -underBinder -merge +onlyGivenNames v4
  have k5 : Keeps ar z v4 := State.each_keeps (fun v6 v7 k8 => State.modBus_keeps (hw.m rfl) k8) k3
  clear_value v4
  extract_lets -underBinder -merge +onlyGivenNames v9
  have k10 : Keeps ar z v9 := State.modTbl_keeps (hw.m rfl) k5
  clear_value v9
  extract_lets -underBinder -merge +onlyGivenNames v11
  have k12 : Keeps ar z v11 := State.each_keeps (fun v13 v14 k15 => State.modPool_keeps (hw.m rfl) k15) k10
  clear_value v11
  extract_lets -underBinder -merge +onlyGivenNames v16
  have k17 : Keeps ar z v16 := keeps_ite (State.modSig_keeps (hw.m rfl) k12) k12
  clear_value v16
  extract_lets -underBinder -merge +onlyGivenNames v18
  have k19 : Keeps ar z v18 := keeps_ite (State.modAud_keeps (hw.m rfl) k17) k17
  clear_value v18
  exact keeps_ite (State.modSec_keeps (hw.m rfl) k19) k19

theorem State.snapClear_keeps {ar : List Area} (hw : Within [.host, .events, .ctrs, .buses, .tbl, .sw, .sig, .aud,
    .sec] ar) {z a0 : State} (h1 : Keeps ar z a0) :
    Keeps ar z (State.snapClear a0) := by
  unfold State.snapClear
  extract_lets -underBinder -merge +onlyGivenNames v1 v2
  clear_value v1 v2
  exact State.snapMarks_keeps (hw.m rfl) (keeps_same hw h1)

theorem effectDevSnap_keeps {ar : List Area} (hw : Within [.host, .events] ar) {z a0 : State} {a1} (h1 : Keeps ar z
    a0) :
    Keeps ar z (effectDevSnap a0 a1).1 := by
  unfold effectDevSnap
  extract_lets -underBinder -merge +onlyGivenNames v1
  have k2 : Keeps ar z v1 := keeps_ite (State.snapTake_keeps (hw.m rfl) h1) h1
  clear_value v1
  exact keeps_mk1 k2

theorem execDevSnap_keeps {ar : List Area} (hw : Within (Area.telling [.windows, .host, .mbx, .cw, .boot]) ar) {z :
    State} {t : Nat} {a1} {s : State} (h : Keeps ar z (s.tick t)) :
    NextKeeps ar z (execDevSnap t a1 s) := by
  unfold execDevSnap
  exact keeps_next (State.simple_keeps (hw.m rfl) h (fun v1 v2 k3 => effectDevSnap_keeps (hw.m rfl) k3))

theorem effectDevSnapClear_keeps {ar : List Area} (hw : Within [.host, .events, .ctrs, .buses, .tbl, .sw, .sig, .aud,
    .sec] ar) {z a0 : State} {a1} (h1 : Keeps ar z a0) :
    Keeps ar z (effectDevSnapClear a0 a1).1 := by
  unfold effectDevSnapClear
  extract_lets -underBinder -merge +onlyGivenNames v1
  have k2 : Keeps ar z v1 := keeps_ite (State.snapClear_keeps (hw.m rfl) (State.snapTake_keeps (hw.m rfl) h1)) h1
  clear_value v1
  exact keeps_mk1 k2

theorem execDevSnapClear_keeps {ar : List Area} (hw : Within (Area.telling [.windows, .host, .mbx, .buses, .tbl, .sw,
    .sig, .aud, .sec, .cw, .boot]) ar) {z : State} {t : Nat} {a1} {s : State} (h : Keeps ar z (s.tick t)) :
    NextKeeps ar z (execDevSnapClear t a1 s) := by
  unfold execDevSnapClear
  exact keeps_next (State.simple_keeps (hw.m rfl) h (fun v1 v2 k3 => effectDevSnapClear_keeps (hw.m rfl) k3))

theorem State.hostRestart_keeps {ar : List Area} (hw : Within (Area.but [.host, .time, .slp]) ar) {z a0 : State} {a1}
    {a2} {a3} (h1 : Keeps ar z a0) :
    Keeps ar z (State.hostRestart a0 a1 a2 a3) := by
  unfold State.hostRestart
  exact keeps_ite (State.commitWaits_keeps (hw.m rfl) (State.restartIsland_keeps (hw.m rfl) h1))
      (State.commitWaits_keeps (hw.m rfl)
    (State.restartUnit_keeps (hw.m rfl) h1))

theorem execDevRestart_keeps {ar : List Area} (hw : Within (Area.but [.host, .time, .slp]) ar) {z : State} {t : Nat}
    {a1} {s : State} (h : Keeps ar z (s.tick t)) :
    NextKeeps ar z (execDevRestart t a1 s) := by
  unfold execDevRestart
  exact keeps_next (State.begins_keeps (hw.m rfl) h (fun v1 v2 k3 => State.hostRestart_keeps (hw.m rfl) k3))

theorem execDevSafe_keeps {ar : List Area} (hw : Within (Area.but [.host, .units, .slp]) ar) {z : State} {t : Nat}
    {a1} {s : State} (h : Keeps ar z (s.tick t)) :
    NextKeeps ar z (execDevSafe t a1 s) := by
  unfold execDevSafe
  exact keeps_next (State.begins_keeps (hw.m rfl) h (fun v1 v2 k3 => State.safeState_keeps (hw.m rfl)
      (State.complete_keeps (hw.m rfl) k3)))

end Sys2Proof.Machine
end

