-- ==== Sys2Proof/Laws/KeepsRegisters.lean ====
section
/-! SUPPORT. What the operations of Registers, Remote keep, and which areas they may move. -/

set_option Elab.async false

namespace Sys2Proof.Machine

open Sys2Proof

theorem State.evtRegWrite_keeps {ar : List Area} (hw : Within [.host, .events] ar) {z a0 : State} {a1} {a2} (h1 :
    Keeps ar z a0) :
    Keeps ar z (State.evtRegWrite a0 a1 a2) := by
  unfold State.evtRegWrite
  exact keeps_ite (State.evtClear_keeps (hw.m rfl) h1) (keeps_ite (State.evtMaskWrite_keeps (hw.m rfl) h1) (keeps_ite
    (State.evtRelease_keeps (hw.m rfl) h1) (keeps_ite (State.modHost_keeps (hw.m rfl) h1) (keeps_ite
        (State.modHost_keeps (hw.m rfl) h1) h1))))

theorem State.mbxRegWrite_keeps {ar : List Area} (hw : Within [.mbx, .ctrs] ar) {z a0 : State} {a1} {a2} {a3} (h1 :
    Keeps ar z a0) :
    Keeps ar z (State.mbxRegWrite a0 a1 a2 a3) := by
  unfold State.mbxRegWrite
  exact keeps_ite (keeps_ite (State.modMb_keeps (hw.m rfl) h1) h1) (keeps_ite (keeps_ite (State.ringBell_keeps (hw.m
      rfl) h1) h1)
    (keeps_ite (State.mbxFlags_keeps (hw.m rfl) h1) h1))

theorem State.tqRegWrite_keeps {ar : List Area} (hw : Within (Area.telling [.tide]) ar) {z a0 : State} {a1} {a2} {a3}
    (h1 : Keeps ar z a0) :
    Keeps ar z (State.tqRegWrite a0 a1 a2 a3) := by
  unfold State.tqRegWrite
  refine keeps_ite (State.tqWriteCur_keeps (hw.m rfl) h1) ?_
  refine keeps_ite (State.tqWriteMark_keeps (hw.m rfl) h1) ?_
  refine keeps_ite (State.tqWriteRelease_keeps (hw.m rfl) h1) ?_
  refine keeps_ite ?_ (keeps_ite (State.tqWriteStatus_keeps (hw.m rfl) h1) h1)
  extract_lets -underBinder -merge +onlyGivenNames v1
  have k2 : Keeps ar z v1 := keeps_ite (State.tqRewindCur_keeps (hw.m rfl) h1) h1
  clear_value v1
  exact keeps_ite (State.tqClearMark_keeps (hw.m rfl) k2) k2

theorem State.ringRegWrite_keeps {ar : List Area} (hw : Within [.tide] ar) {z a0 : State} {a1} {a2} {a3} (h1 : Keeps
    ar z a0) :
    Keeps ar z (State.ringRegWrite a0 a1 a2 a3) := by
  unfold State.ringRegWrite
  exact keeps_ite (State.ringTail_keeps (hw.m rfl) h1) (keeps_ite (State.modRing_keeps (hw.m rfl) h1) h1)

theorem State.msixRegWrite_keeps {ar : List Area} (hw : Within [.host, .events] ar) {z a0 : State} {a1} {a2} (h1 :
    Keeps ar z a0) :
    Keeps ar z (State.msixRegWrite a0 a1 a2) := by
  unfold State.msixRegWrite
  exact keeps_ite (State.msixFlush_keeps (hw.m rfl) (State.modHost_keeps (hw.m rfl) h1)) (State.modHost_keeps (hw.m
      rfl) h1)

theorem State.hostWriteWord_keeps {ar : List Area} (hw : Within (Area.but [.slp]) ar) {z a0 : State} {a1} {a2} (h1 :
    Keeps ar z a0) :
    Keeps ar z (State.hostWriteWord a0 a1 a2) := by
  unfold State.hostWriteWord
  exact keeps_ite (State.modHost_keeps (hw.m rfl) h1) (keeps_ite (State.evtRegWrite_keeps (hw.m rfl) h1) (keeps_ite
      (keeps_ite
    (State.abortCommand_keeps (hw.m rfl) h1) h1) (keeps_ite (State.mbxRegWrite_keeps (hw.m rfl) h1) (keeps_ite
        (State.ciphWrite_keeps (hw.m rfl) h1)
    (keeps_ite (State.tqRegWrite_keeps (hw.m rfl) h1) (keeps_ite (State.ringRegWrite_keeps (hw.m rfl) h1) (keeps_ite
    (State.msixRegWrite_keeps (hw.m rfl) h1) h1)))))))

theorem State.bar2Write_keeps {ar : List Area} (hw : Within [.windows] ar) {z a0 : State} {a1} {a2} (h1 : Keeps ar z
    a0) :
    Keeps ar z (State.bar2Write a0 a1 a2) := by
  unfold State.bar2Write
  exact keeps_ite (State.setWindowByte_keeps (hw.m rfl) h1) h1

theorem State.bar2Bytes_keeps {ar : List Area} (hw : Within [.windows] ar) {z a0 : State} {a1} {a2} {a3} (h1 : Keeps
    ar z a0) :
    Keeps ar z (State.bar2Bytes a0 a1 a2 a3) := by
  unfold State.bar2Bytes
  exact keeps_foldl_fst (fun v1 v2 k3 => keeps_mk1 (keeps_ite (State.bar2Write_keeps (hw.m rfl) k3) k3)) (keeps_mk1 h1)

theorem State.bar0Write_keeps {ar : List Area} (hw : Within (Area.but [.slp]) ar) {z a0 : State} {a1} {a2} {a3} (h1 :
    Keeps ar z a0) :
    Keeps ar z (State.bar0Write a0 a1 a2 a3) := by
  unfold State.bar0Write
  exact keeps_ite (State.hostWriteWord_keeps (hw.m rfl) h1) (State.count_keeps (hw.m rfl) h1)

theorem State.cfgWrite_keeps {ar : List Area} (hw : Within [.host, .events] ar) {z a0 : State} {a1} {a2} {a3} (h1 :
    Keeps ar z a0) :
    Keeps ar z (State.cfgWrite a0 a1 a2 a3) := by
  unfold State.cfgWrite
  refine keeps_ite h1 ?_
  extract_lets -underBinder -merge +onlyGivenNames v1 v2
  clear_value v1 v2
  exact State.msixFlush_keeps (hw.m rfl) (State.modHost_keeps (hw.m rfl) h1)

theorem execRegisterWrite_keeps {ar : List Area} (hw : Within (Area.but [.slp]) ar) {z : State} {t : Nat} {a1} {a2}
    {a3} {a4} {s : State} (h : Keeps ar z (s.tick t)) :
    NextKeeps ar z (execRegisterWrite t a1 a2 a3 a4 s) := by
  unfold execRegisterWrite
  exact keeps_iteN (keeps_next (State.hostWrites_keeps h (fun v1 k2 => State.bar0Write_keeps (hw.m rfl) k2)))
      (keeps_iteN
    (keeps_next (State.hostWrites_keeps h (fun v3 k4 => keeps_ite (State.bar2Bytes_keeps (hw.m rfl) k4) k4)))
        (keeps_iteN
    (keeps_next (State.hostWrites_keeps h (fun v5 k6 => State.cfgWrite_keeps (hw.m rfl) k6))) keeps_stop))

theorem execEvtLogRelease_keeps {ar : List Area} (hw : Within [.host, .events] ar) {z : State} {t : Nat} {a1} {s :
    State} (h : Keeps ar z (s.tick t)) :
    NextKeeps ar z (execEvtLogRelease t a1 s) := by
  unfold execEvtLogRelease
  exact keeps_next (State.hostWrites_keeps h (fun v1 k2 => State.evtRelease_keeps (hw.m rfl) k2))

theorem execEvtMaskWrite_keeps {ar : List Area} (hw : Within [.host, .events] ar) {z : State} {t : Nat} {a1} {a2} {s
    : State} (h : Keeps ar z (s.tick t)) :
    NextKeeps ar z (execEvtMaskWrite t a1 a2 s) := by
  unfold execEvtMaskWrite
  exact keeps_next (State.hostWrites_keeps h (fun v1 k2 => State.evtMaskWrite_keeps (hw.m rfl) k2))

theorem execMsixVectorUnmask_keeps {ar : List Area} (hw : Within [.host, .events] ar) {z : State} {t : Nat} {a1} {s :
    State} (h : Keeps ar z (s.tick t)) :
    NextKeeps ar z (execMsixVectorUnmask t a1 s) := by
  unfold execMsixVectorUnmask
  extract_lets -underBinder -merge +onlyGivenNames v1
  have k2 : Keeps ar z v1 := h
  clear_value v1
  exact keeps_next (keeps_ite (State.msixFlush_keeps (hw.m rfl) (State.modHost_keeps (hw.m rfl) k2)) k2)

theorem execPerstN_keeps {ar : List Area} (hw : Within [.host, .events, .tide] ar) {z : State} {t : Nat} {a1} {s :
    State} (h : Keeps ar z (s.tick t)) :
    NextKeeps ar z (execPerstN t a1 s) := by
  unfold execPerstN
  extract_lets -underBinder -merge +onlyGivenNames v1
  have k2 : Keeps ar z v1 := h
  clear_value v1
  refine keeps_iteN (keeps_next (State.modHost_keeps (hw.m rfl) k2)) ?_
  extract_lets -underBinder -merge +onlyGivenNames v3
  have k4 : Keeps ar z v3 := State.each_keeps (fun v5 v6 k7 => State.ringStop_keeps (hw.m rfl) k7) k2
  clear_value v3
  exact keeps_next (State.modHost_keeps (hw.m rfl) k4)

theorem execPcieLinkStateChange_keeps {ar : List Area} (hw : Within [.host, .events] ar) {z : State} {t : Nat} {a1}
    {a2} {a3} {s : State} (h : Keeps ar z (s.tick t)) :
    NextKeeps ar z (execPcieLinkStateChange t a1 a2 a3 s) := by
  unfold execPcieLinkStateChange
  extract_lets -underBinder -merge +onlyGivenNames v1
  have k2 : Keeps ar z v1 := h
  clear_value v1
  exact keeps_next (keeps_ite (State.modHost_keeps (hw.m rfl) k2) (keeps_ite (State.modHost_keeps (hw.m rfl) k2) k2))

theorem State.spiEnd_keeps {ar : List Area} (hw : Within [.host, .events, .ctrs] ar) {z a0 : State} {a1} (h1 : Keeps
    ar z a0) :
    Keeps ar z (State.spiEnd a0 a1) := by
  unfold State.spiEnd
  extract_lets -underBinder -merge +onlyGivenNames v1
  have k2 : ∀ x0 x1 x2, Keeps ar z x2 → Keeps ar z (v1 x0 x1 x2) := by
    intro v3 v4 v5 k6
    unfold v1
    exact keeps_ite (State.count_keeps (hw.m rfl) k6) k6
  clear_value v1
  extract_lets -underBinder -merge +onlyGivenNames v7
  have k8 : Keeps ar z v7 := k2 _ _ _ h1
  clear_value v7
  extract_lets -underBinder -merge +onlyGivenNames v9
  have k10 : Keeps ar z v9 := k2 _ _ _ k8
  clear_value v9
  extract_lets -underBinder -merge +onlyGivenNames v11
  have k12 : Keeps ar z v11 := k2 _ _ _ k10
  clear_value v11
  extract_lets -underBinder -merge +onlyGivenNames v13
  have k14 : Keeps ar z v13 := k2 _ _ _ k12
  clear_value v13
  extract_lets -underBinder -merge +onlyGivenNames v15
  have k16 : Keeps ar z v15 := k2 _ _ _ k14
  clear_value v15
  exact State.modHost_keeps (hw.m rfl) k16

theorem State.spiStatus_keeps {ar : List Area} {z a0 : State} (h1 : Keeps ar z a0) :
    Keeps ar z (State.spiStatus a0) := by
  unfold State.spiStatus
  extract_lets -underBinder -merge +onlyGivenNames v1
  clear_value v1
  exact State.send_keeps h1

theorem State.spiWord_keeps {ar : List Area} (hw : Within (Area.but [.slp]) ar) {z a0 : State} {a1} {a2} (h1 : Keeps
    ar z a0) :
    Keeps ar z (State.spiWord a0 a1 a2) := by
  unfold State.spiWord
  split
  exact keeps_ite (State.hostWriteWord_keeps (hw.m rfl) h1) (State.bar2Bytes_keeps (hw.m rfl) h1)

theorem State.spiWrite_keeps {ar : List Area} (hw : Within (Area.but [.slp]) ar) {z a0 : State} {a1} {a2} {a3} (h1 :
    Keeps ar z a0) :
    Keeps ar z (State.spiWrite a0 a1 a2 a3) := by
  unfold State.spiWrite
  extract_lets -underBinder -merge +onlyGivenNames v1
  have k2 : Keeps ar z v1 := State.send_keeps h1
  clear_value v1
  extract_lets -underBinder -merge +onlyGivenNames v3 v4 v5 v6 v7
  clear_value v3 v4 v5 v6 v7
  extract_lets -underBinder -merge +onlyGivenNames v8
  have k9 : Keeps ar z v8 := keeps_ite (State.each_keeps (fun v10 v11 k12 => State.spiWord_keeps (hw.m rfl) k12) k2) k2
  clear_value v8
  exact State.spiEnd_keeps (hw.m rfl) k9

theorem State.spiRead_keeps {ar : List Area} (hw : Within [.host, .events, .ctrs] ar) {z a0 : State} {a1} {a2} {a3}
    (h1 : Keeps ar z a0) :
    Keeps ar z (State.spiRead a0 a1 a2 a3) := by
  unfold State.spiRead
  extract_lets -underBinder -merge +onlyGivenNames v1 v2 v3
  clear_value v1 v2 v3
  split
  rename_i v4 v5 v6 e7
  have k8 : Keeps ar z v6 := keeps_snd e7 (State.drawBelow_keeps h1)
  extract_lets -underBinder -merge +onlyGivenNames v9
  clear_value v9
  refine keeps_ite (State.spiEnd_keeps (hw.m rfl) k8) ?_
  refine keeps_ite (State.spiEnd_keeps (hw.m rfl) (State.send_keeps k8)) ?_
  refine keeps_ite (State.spiEnd_keeps (hw.m rfl) k8) ?_
  refine keeps_ite (State.spiEnd_keeps (hw.m rfl) (State.send_keeps k8)) ?_
  extract_lets -underBinder -merge +onlyGivenNames v10 v11 v12 v13
  clear_value v10 v11 v12 v13
  exact State.spiEnd_keeps (hw.m rfl) (State.send_keeps k8)

theorem State.spiTransact_keeps {ar : List Area} (hw : Within (Area.but [.slp]) ar) {z a0 : State} {a1} {a2} {a3} (h1
    : Keeps ar z a0) :
    Keeps ar z (State.spiTransact a0 a1 a2 a3) := by
  unfold State.spiTransact
  extract_lets -underBinder -merge +onlyGivenNames v1
  clear_value v1
  exact keeps_ite (State.spiEnd_keeps (hw.m rfl) h1) (keeps_ite (State.spiRead_keeps (hw.m rfl) h1) (keeps_ite
      (State.spiWrite_keeps (hw.m rfl) h1)
    (keeps_ite (State.spiStatus_keeps h1) (State.spiEnd_keeps (hw.m rfl) h1))))

theorem execSpiWriteTransaction_keeps {ar : List Area} (hw : Within (Area.but [.slp]) ar) {z : State} {t : Nat} {a1}
    {a2} {s : State} (h : Keeps ar z (s.tick t)) :
    NextKeeps ar z (execSpiWriteTransaction t a1 a2 s) := by
  unfold execSpiWriteTransaction
  exact keeps_next (State.hostWrites_keeps h (fun v1 k2 => State.spiTransact_keeps (hw.m rfl) k2))

theorem execSpiReadTransaction_keeps {ar : List Area} (hw : Within (Area.but [.slp]) ar) {z : State} {t : Nat} {a1}
    {a2} {s : State} (h : Keeps ar z (s.tick t)) :
    NextKeeps ar z (execSpiReadTransaction t a1 a2 s) := by
  unfold execSpiReadTransaction
  exact keeps_next (State.hostWrites_keeps h (fun v1 k2 => State.spiTransact_keeps (hw.m rfl) k2))

theorem execSpiStatusRead_keeps {ar : List Area} {z : State} {t : Nat} {s : State} (h : Keeps ar z (s.tick t)) :
    NextKeeps ar z (execSpiStatusRead t s) := by
  unfold execSpiStatusRead
  exact keeps_next (State.hostWrites_keeps h (fun v1 k2 => State.spiStatus_keeps k2))

theorem execSpiTransactionTimeout_keeps {ar : List Area} (hw : Within [.host, .events, .ctrs] ar) {z : State} {t :
    Nat} {s : State} (h : Keeps ar z (s.tick t)) :
    NextKeeps ar z (execSpiTransactionTimeout t s) := by
  unfold execSpiTransactionTimeout
  exact keeps_next (State.hostWrites_keeps h (fun v1 k2 => State.spiEnd_keeps (hw.m rfl) k2))

theorem State.runBegin_keeps {ar : List Area} (hw : Within [.cw] ar) {z a0 : State} {a1} {a2} {a3} {a4} (h1 : Keeps
    ar z a0) :
    Keeps ar z (State.runBegin a0 a1 a2 a3 a4) := by
  unfold State.runBegin
  extract_lets -underBinder -merge +onlyGivenNames v1
  clear_value v1
  exact State.modCw_keeps (hw.m rfl) h1

theorem State.requestSend_keeps {ar : List Area} (hw : Within (Area.telling [.sec, .cw]) ar) {z a0 : State} {a1} {a2}
    {a3} (h1 : Keeps ar z a0) :
    Keeps ar z (State.requestSend a0 a1 a2 a3) := by
  unfold State.requestSend
  exact State.tell_keeps (hw.m rfl) (State.runBegin_keeps (hw.m rfl) h1)

theorem execCwRemoteRead_keeps {ar : List Area} (hw : Within (Area.telling [.windows, .mbx, .sec, .cw, .boot]) ar) {z
    : State} {t : Nat} {a1} {s : State} (h : Keeps ar z (s.tick t)) :
    NextKeeps ar z (execCwRemoteRead t a1 s) := by
  unfold execCwRemoteRead
  exact keeps_next (State.begins_keeps (hw.m rfl) h (fun v1 v2 k3 => State.requestSend_keeps (hw.m rfl) k3))

theorem execCwRemoteWrite_keeps {ar : List Area} (hw : Within (Area.telling [.windows, .mbx, .sec, .cw, .boot]) ar)
    {z : State} {t : Nat} {a1} {s : State} (h : Keeps ar z (s.tick t)) :
    NextKeeps ar z (execCwRemoteWrite t a1 s) := by
  unfold execCwRemoteWrite
  exact keeps_next (State.begins_keeps (hw.m rfl) h (fun v1 v2 k3 => State.requestSend_keeps (hw.m rfl) k3))

theorem State.remoteComplete_keeps {ar : List Area} (hw : Within (Area.telling [.windows, .mbx, .sec, .cw, .boot])
    ar) {z a0 : State} {a1} {a2} (h1 : Keeps ar z a0) :
    Keeps ar z (State.remoteComplete a0 a1 a2) := by
  unfold State.remoteComplete
  exact State.complete_keeps (hw.m rfl) (State.remoteEnd_keeps (hw.m rfl) h1)

theorem State.retryRun_keeps {ar : List Area} (hw : Within (Area.telling [.windows, .mbx, .sec, .cw, .boot]) ar) {z
    a0 : State} {a1} (h1 : Keeps ar z a0) :
    Keeps ar z (State.retryRun a0 a1) := by
  unfold State.retryRun
  split
  · exact h1
  · refine keeps_ite (State.remoteComplete_keeps (hw.m rfl) h1) ?_
    extract_lets -underBinder -merge +onlyGivenNames v1
    have k2 : Keeps ar z v1 := State.count_keeps (hw.m rfl) (State.localFree_keeps (hw.m rfl) h1)
    clear_value v1
    split
    rename_i v3 v4 v5 e6
    have k7 : Keeps ar z v5 := keeps_snd e6 (State.drawBelow_keeps k2)
    exact State.modRun'_keeps (hw.m rfl) k7

theorem State.retryAnswer_keeps {ar : List Area} (hw : Within (Area.telling [.windows, .mbx, .sec, .cw, .boot]) ar)
    {z a0 : State} {a1} {a2} (h1 : Keeps ar z a0) :
    Keeps ar z (State.retryAnswer a0 a1 a2) := by
  unfold State.retryAnswer
  exact keeps_ite (State.retryRun_keeps (hw.m rfl) h1) (State.tell_keeps (hw.m rfl) h1)

theorem State.farDone_keeps {ar : List Area} (hw : Within (Area.telling [.sec, .cw]) ar) {z a0 : State} {a1} {a2}
    {a3} {a4} (h1 : Keeps ar z a0) :
    Keeps ar z (State.farDone a0 a1 a2 a3 a4) := by
  unfold State.farDone
  extract_lets -underBinder -merge +onlyGivenNames v1
  have k2 : Keeps ar z v1 := State.modCw_keeps (hw.m rfl) h1
  clear_value v1
  exact State.tell_keeps (hw.m rfl) k2

theorem State.farRepeat_keeps {ar : List Area} (hw : Within (Area.telling [.sec]) ar) {z a0 : State} {a1} {a2} {a3}
    {a4} (h1 : Keeps ar z a0) :
    Keeps ar z (State.farRepeat a0 a1 a2 a3 a4) := by
  unfold State.farRepeat
  exact State.tell_keeps (hw.m rfl) h1

theorem State.lockFull_keeps {ar : List Area} (hw : Within (Area.telling [.windows, .mbx, .sec, .cw, .boot]) ar) {z
    a0 : State} {a1} {a2} {a3} {a4} {a5} (h1 : Keeps ar z a0) :
    Keeps ar z (State.lockFull a0 a1 a2 a3 a4 a5) := by
  unfold State.lockFull
  exact keeps_ite (State.remoteComplete_keeps (hw.m rfl) h1) (State.farDone_keeps (hw.m rfl) h1)

theorem State.lockAsk_keeps {ar : List Area} (hw : Within (Area.telling [.windows, .mbx, .sec, .cw, .boot]) ar) {z a0
    : State} {a1} {a2} {a3} {a4} {a5} {a6} (h1 : Keeps ar z a0) :
    Keeps ar z (State.lockAsk a0 a1 a2 a3 a4 a5 a6) := by
  unfold State.lockAsk
  split
  · exact keeps_ite (State.lockGive_keeps (hw.m rfl) h1) (State.lockFull_keeps (hw.m rfl) h1)
  · exact keeps_ite (keeps_ite (State.retryRun_keeps (hw.m rfl) (State.lockGive_keeps (hw.m rfl) h1))
      (State.retryAnswer_keeps (hw.m rfl) h1))
      (State.lockPut_keeps (hw.m rfl) h1)

theorem State.lockBegin_keeps {ar : List Area} (hw : Within (Area.telling [.windows, .mbx, .sec, .cw, .boot]) ar) {z
    a0 : State} {a1} (h1 : Keeps ar z a0) :
    Keeps ar z (State.lockBegin a0 a1) := by
  unfold State.lockBegin
  split
  · exact h1
  · split
    · exact State.lockSend_keeps (hw.m rfl) h1
    · exact State.lockAsk_keeps (hw.m rfl) (State.modRun'_keeps (hw.m rfl) h1)

theorem execCwRemoteLock_keeps {ar : List Area} (hw : Within (Area.telling [.windows, .mbx, .sec, .cw, .boot]) ar) {z
    : State} {t : Nat} {a1} {s : State} (h : Keeps ar z (s.tick t)) :
    NextKeeps ar z (execCwRemoteLock t a1 s) := by
  unfold execCwRemoteLock
  exact keeps_next (State.begins_keeps (hw.m rfl) h (fun v1 v2 k3 => State.lockBegin_keeps (hw.m rfl)
      (State.runBegin_keeps (hw.m rfl) k3)))

theorem State.farWrite_keeps {ar : List Area} (hw : Within (Area.but [.slp]) ar) {z a0 : State} {a1} {a2} (h1 : Keeps
    ar z a0) :
    Keeps ar z (State.farWrite a0 a1 a2).1 := by
  unfold State.farWrite
  extract_lets -underBinder -merge +onlyGivenNames v1
  clear_value v1
  refine keeps_ite1 (keeps_ite1 (keeps_mk1 h1) (keeps_ite1 (keeps_mk1 (State.each_keeps (fun v2 v3 k4 =>
    State.hostWriteWord_keeps (hw.m rfl) k4) h1)) (keeps_mk1 h1))) ?_
  refine keeps_ite1 ?_ ?_
  · split
    · exact keeps_mk1 h1
    · exact effectSigWrite_keeps (hw.m rfl) h1
  · split
    · exact keeps_mk1 h1
    · exact effectTblDirectWrite_keeps (hw.m rfl) h1

theorem State.farServe_keeps {ar : List Area} (hw : Within (Area.but [.slp]) ar) {z a0 : State} {a1} {a2} (h1 : Keeps
    ar z a0) :
    Keeps ar z (State.farServe a0 a1 a2) := by
  unfold State.farServe
  extract_lets -underBinder -merge +onlyGivenNames v1 v2
  clear_value v1 v2
  split
  · exact State.farRepeat_keeps (hw.m rfl) h1
  · split
    rename_i v3 v4 v5 e6
    have k7 : Keeps ar z v4 := keeps_fst e6 (keeps_ite1 (State.farWrite_keeps (hw.m rfl) h1) (keeps_mk1 h1))
    exact State.farDone_keeps (hw.m rfl) k7

theorem execRemoteRequestReceived_keeps {ar : List Area} (hw : Within (Area.but [.slp]) ar) {z : State} {t : Nat}
    {a1} {a2} {s : State} (h : Keeps ar z (s.tick t)) :
    NextKeeps ar z (execRemoteRequestReceived t a1 a2 s) := by
  unfold execRemoteRequestReceived
  extract_lets -underBinder -merge +onlyGivenNames v1
  have k2 : Keeps ar z v1 := h
  clear_value v1
  exact keeps_next (keeps_ite (State.farServe_keeps (hw.m rfl) k2) k2)

theorem execRemoteCacheExpiry_keeps {ar : List Area} (hw : Within [.cw] ar) {z : State} {t : Nat} {s : State} (h :
    Keeps ar z (s.tick t)) :
    NextKeeps ar z (execRemoteCacheExpiry t s) := by
  unfold execRemoteCacheExpiry
  extract_lets -underBinder -merge +onlyGivenNames v1
  have k2 : Keeps ar z v1 := h
  clear_value v1
  exact keeps_next (State.modCw_keeps (hw.m rfl) k2)

theorem execLockRequestReceived_keeps {ar : List Area} (hw : Within (Area.telling [.windows, .mbx, .sec, .cw, .boot])
    ar) {z : State} {t : Nat} {a1} {a2} {s : State} (h : Keeps ar z (s.tick t)) :
    NextKeeps ar z (execLockRequestReceived t a1 a2 s) := by
  unfold execLockRequestReceived
  extract_lets -underBinder -merge +onlyGivenNames v1
  have k2 : Keeps ar z v1 := h
  clear_value v1
  extract_lets -underBinder -merge +onlyGivenNames v3 v4 v5
  clear_value v3 v4 v5
  refine keeps_next ?_
  refine keeps_ite ?_ k2
  split
  · exact State.farRepeat_keeps (hw.m rfl) k2
  · extract_lets -underBinder -merge +onlyGivenNames v6
    clear_value v6
    exact keeps_ite (State.lockAsk_keeps (hw.m rfl) k2) (State.farDone_keeps (hw.m rfl) k2)

theorem State.resWrite_keeps {ar : List Area} (hw : Within (Area.but [.slp]) ar) {z a0 : State} {a1} {a2} {a3} (h1 :
    Keeps ar z a0) :
    Keeps ar z (State.resWrite a0 a1 a2 a3) := by
  unfold State.resWrite
  refine keeps_ite (State.hostWriteWord_keeps (hw.m rfl) h1) ?_
  extract_lets -underBinder -merge +onlyGivenNames v1
  have k2 : Keeps ar z v1 := State.commitAll_keeps (hw.m rfl) h1
  clear_value v1
  extract_lets -underBinder -merge +onlyGivenNames v3
  have k4 : Keeps ar z v3 := State.hostValue_keeps (hw.m rfl) k2
  clear_value v3
  exact State.fireFlush_keeps (hw.m rfl) (State.changes_keeps (hw.m rfl) k4)

theorem State.lockForget_keeps {ar : List Area} (hw : Within [.cw] ar) {z a0 : State} {a1} {a2} {a3} {a4} (h1 : Keeps
    ar z a0) :
    Keeps ar z (State.lockForget a0 a1 a2 a3 a4) := by
  unfold State.lockForget
  split
  · exact State.lockPut_keeps (hw.m rfl) h1
  · exact h1

theorem State.unlockServe_keeps {ar : List Area} (hw : Within (Area.but [.slp]) ar) {z a0 : State} {a1} {a2} (h1 :
    Keeps ar z a0) :
    Keeps ar z (State.unlockServe a0 a1 a2) := by
  unfold State.unlockServe
  extract_lets -underBinder -merge +onlyGivenNames v1 v2 v3 v4 v5
  clear_value v1 v2 v3 v4 v5
  split
  · exact keeps_ite (State.lockForget_keeps (hw.m rfl) h1) (State.farDone_keeps (hw.m rfl) h1)
  · refine keeps_ite (State.lockFree_keeps (hw.m rfl) h1) ?_
    extract_lets -underBinder -merge +onlyGivenNames v6
    clear_value v6
    extract_lets -underBinder -merge +onlyGivenNames v7
    have k8 : Keeps ar z v7 := keeps_ite (State.resWrite_keeps (hw.m rfl) h1) h1
    clear_value v7
    exact State.farDone_keeps (hw.m rfl) (State.lockFree_keeps (hw.m rfl) k8)

theorem execWriteAndUnlockReceived_keeps {ar : List Area} (hw : Within (Area.but [.slp]) ar) {z : State} {t : Nat}
    {a1} {a2} {s : State} (h : Keeps ar z (s.tick t)) :
    NextKeeps ar z (execWriteAndUnlockReceived t a1 a2 s) := by
  unfold execWriteAndUnlockReceived
  extract_lets -underBinder -merge +onlyGivenNames v1
  have k2 : Keeps ar z v1 := h
  clear_value v1
  exact keeps_next (keeps_ite (State.unlockServe_keeps (hw.m rfl) k2) k2)

theorem execFarLockExpiry_keeps {ar : List Area} (hw : Within (Area.telling [.sec, .cw]) ar) {z : State} {t : Nat} {s
    : State} (h : Keeps ar z (s.tick t)) :
    NextKeeps ar z (execFarLockExpiry t s) := by
  unfold execFarLockExpiry
  extract_lets -underBinder -merge +onlyGivenNames v1
  have k2 : Keeps ar z v1 := h
  clear_value v1
  extract_lets -underBinder -merge +onlyGivenNames v3
  clear_value v3
  exact keeps_next (keeps_ite k2 (State.each_keeps (fun v4 v5 k6 => State.lockFree_keeps (hw.m rfl)
      (State.count_keeps (hw.m rfl) k6)) k2))

theorem State.grantTake_keeps {ar : List Area} (hw : Within (Area.telling [.sec, .cw]) ar) {z a0 : State} {a1} {a2}
    (h1 : Keeps ar z a0) :
    Keeps ar z (State.grantTake a0 a1 a2) := by
  unfold State.grantTake
  extract_lets -underBinder -merge +onlyGivenNames v1 v2 v3 v4
  clear_value v1 v2 v3 v4
  exact State.unlockSend_keeps (hw.m rfl) (State.modRun'_keeps (hw.m rfl) h1)

theorem execLockGrantReceived_keeps {ar : List Area} (hw : Within (Area.telling [.sec, .cw]) ar) {z : State} {t :
    Nat} {a1} {a2} {s : State} (h : Keeps ar z (s.tick t)) :
    NextKeeps ar z (execLockGrantReceived t a1 a2 s) := by
  unfold execLockGrantReceived
  extract_lets -underBinder -merge +onlyGivenNames v1
  have k2 : Keeps ar z v1 := h
  clear_value v1
  extract_lets -underBinder -merge +onlyGivenNames v3
  clear_value v3
  refine keeps_next ?_
  refine keeps_ite ?_ k2
  split
  · exact State.grantTake_keeps (hw.m rfl) k2
  · exact State.unlockSend_keeps (hw.m rfl) k2

theorem execLockRetryReceived_keeps {ar : List Area} (hw : Within (Area.telling [.windows, .mbx, .sec, .cw, .boot])
    ar) {z : State} {t : Nat} {a1} {a2} {s : State} (h : Keeps ar z (s.tick t)) :
    NextKeeps ar z (execLockRetryReceived t a1 a2 s) := by
  unfold execLockRetryReceived
  extract_lets -underBinder -merge +onlyGivenNames v1
  have k2 : Keeps ar z v1 := h
  clear_value v1
  refine keeps_next ?_
  refine keeps_ite ?_ k2
  split
  · exact State.retryRun_keeps (hw.m rfl) k2
  · exact k2

theorem execLockBackoffExpiry_keeps {ar : List Area} (hw : Within (Area.telling [.windows, .mbx, .sec, .cw, .boot])
    ar) {z : State} {t : Nat} {a1} {s : State} (h : Keeps ar z (s.tick t)) :
    NextKeeps ar z (execLockBackoffExpiry t a1 s) := by
  unfold execLockBackoffExpiry
  extract_lets -underBinder -merge +onlyGivenNames v1
  have k2 : Keeps ar z v1 := h
  clear_value v1
  refine keeps_next ?_
  split
  · exact keeps_ite (State.lockBegin_keeps (hw.m rfl) k2) k2
  · exact k2

theorem State.remoteAnswer_keeps {ar : List Area} (hw : Within (Area.but [.slp]) ar) {z a0 : State} {a1} {a2} {a3}
    {a4} (h1 : Keeps ar z a0) :
    Keeps ar z (State.remoteAnswer a0 a1 a2 a3 a4) := by
  unfold State.remoteAnswer
  extract_lets -underBinder -merge +onlyGivenNames v1 v2
  clear_value v1 v2
  extract_lets -underBinder -merge +onlyGivenNames v3
  have k4 : Keeps ar z v3 := keeps_ite (State.count_keeps (hw.m rfl) h1) h1
  clear_value v3
  extract_lets -underBinder -merge +onlyGivenNames v5
  have k6 : Keeps ar z v5 := by
    unfold v5
    split
    · exact keeps_ite (State.resWrite_keeps (hw.m rfl) k4) k4
    · exact k4
  clear_value v5
  extract_lets -underBinder -merge +onlyGivenNames v7 v8
  clear_value v7 v8
  exact State.remoteComplete_keeps (hw.m rfl) k6

theorem State.peerTake_keeps {ar : List Area} (hw : Within (Area.telling [.windows, .mbx, .cw, .boot]) ar) {z a0 :
    State} {a1} {a2} {a3} (h1 : Keeps ar z a0) :
    Keeps ar z (State.peerTake a0 a1 a2 a3) := by
  unfold State.peerTake
  exact keeps_ite h1 (keeps_ite (State.interim_keeps (hw.m rfl) h1) (State.complete_keeps (hw.m rfl)
      (State.modCw_keeps (hw.m rfl) h1)))

theorem execRemoteCompletionReceived_keeps {ar : List Area} (hw : Within (Area.but [.slp]) ar) {z : State} {t : Nat}
    {a1} {a2} {s : State} (h : Keeps ar z (s.tick t)) :
    NextKeeps ar z (execRemoteCompletionReceived t a1 a2 s) := by
  unfold execRemoteCompletionReceived
  extract_lets -underBinder -merge +onlyGivenNames v1
  have k2 : Keeps ar z v1 := h
  clear_value v1
  extract_lets -underBinder -merge +onlyGivenNames v3
  clear_value v3
  refine keeps_next ?_
  refine keeps_ite k2 ?_
  refine keeps_ite ?_ (keeps_ite (State.peerTake_keeps (hw.m rfl) k2) (keeps_ite (State.relayAnswer_keeps (hw.m rfl)
      k2) k2))
  split
  · exact State.remoteAnswer_keeps (hw.m rfl) k2
  · exact k2

theorem execRemoteTimeout_keeps {ar : List Area} (hw : Within (Area.telling [.windows, .mbx, .sec, .cw, .boot]) ar)
    {z : State} {t : Nat} {a1} {s : State} (h : Keeps ar z (s.tick t)) :
    NextKeeps ar z (execRemoteTimeout t a1 s) := by
  unfold execRemoteTimeout
  extract_lets -underBinder -merge +onlyGivenNames v1
  have k2 : Keeps ar z v1 := h
  clear_value v1
  refine keeps_next ?_
  split
  · refine keeps_ite ?_ k2
    extract_lets -underBinder -merge +onlyGivenNames v3
    have k4 : Keeps ar z v3.1 := State.remoteEnd_keeps (hw.m rfl) k2
    clear_value v3
    exact State.complete_keeps (hw.m rfl) (State.count_keeps (hw.m rfl) k4)
  · exact k2

theorem State.peerRun_keeps {ar : List Area} (hw : Within (Area.telling [.windows, .mbx, .cw, .boot]) ar) {z a0 :
    State} {a1} {a2} {a3} (h1 : Keeps ar z a0) :
    Keeps ar z (State.peerRun a0 a1 a2 a3) := by
  unfold State.peerRun
  extract_lets -underBinder -merge +onlyGivenNames v1
  clear_value v1
  refine keeps_ite (State.peerAnswer_keeps (hw.m rfl) h1) ?_
  extract_lets -underBinder -merge +onlyGivenNames v2
  clear_value v2
  extract_lets -underBinder -merge +onlyGivenNames v3
  have k4 : Keeps ar z v3 := State.modMb_keeps (hw.m rfl) h1
  clear_value v3
  extract_lets -underBinder -merge +onlyGivenNames v5
  have k6 : Keeps ar z v5 := State.modCw_keeps (hw.m rfl) (keeps_same hw k4)
  clear_value v5
  split
  · exact State.complete_keeps (hw.m rfl) k6
  · exact State.queueJudge_keeps (hw.m rfl) k6

theorem execPeerCommandReceived_keeps {ar : List Area} (hw : Within (Area.but [.host, .slp]) ar) {z : State} {t :
    Nat} {a1} {s : State} (h : Keeps ar z (s.tick t)) :
    NextKeeps ar z (execPeerCommandReceived t a1 s) := by
  unfold execPeerCommandReceived
  extract_lets -underBinder -merge +onlyGivenNames v1
  have k2 : Keeps ar z v1 := h
  clear_value v1
  extract_lets -underBinder -merge +onlyGivenNames v3 v4
  clear_value v3 v4
  exact keeps_next (keeps_ite k2 (keeps_ite (State.peerRun_keeps (hw.m rfl) k2) (keeps_ite (keeps_ite
      (State.abortCommand_keeps (hw.m rfl)
    k2) k2) (keeps_ite (keeps_ite (State.takeRules_keeps (hw.m rfl) k2) (keeps_ite (State.takeMap_keeps (hw.m rfl)
        k2) k2)) k2))))

end Sys2Proof.Machine
end

