-- ==== Sys2Proof/Laws/Exec.lean ====
section
/-! SUPPORT. What every command keeps: the one lemma over all constructors of `Instr`. -/

set_option Elab.async false

namespace Sys2Proof.Machine

open Sys2Proof

/-- Whatever the command, its next state keeps what `Keeps` says of the state at the command's instant. -/
theorem exec_keeps (c : Instr) (s : State) : ∃ t, NextKeeps Area.all (s.tick t) (exec c s) := by
  cases c with
  | devIdentify t m => exact ⟨t, execDevIdentify_keeps (Within.any _) (Keeps.refl _)⟩
  | devState t m => exact ⟨t, execDevState_keeps (Within.any _) (Keeps.refl _)⟩
  | devConfig t m => exact ⟨t, execDevConfig_keeps (Within.any _) (Keeps.refl _)⟩
  | devSnap t m => exact ⟨t, execDevSnap_keeps (Within.any _) (Keeps.refl _)⟩
  | devSnapClear t m => exact ⟨t, execDevSnapClear_keeps (Within.any _) (Keeps.refl _)⟩
  | devRestart t m => exact ⟨t, execDevRestart_keeps (Within.any _) (Keeps.refl _)⟩
  | devSafe t m => exact ⟨t, execDevSafe_keeps (Within.any _) (Keeps.refl _)⟩
  | ethConfig t m => exact ⟨t, execEthConfig_keeps (Within.any _) (Keeps.refl _)⟩
  | ethEnable t m => exact ⟨t, execEthEnable_keeps (Within.any _) (Keeps.refl _)⟩
  | ethDisable t m => exact ⟨t, execEthDisable_keeps (Within.any _) (Keeps.refl _)⟩
  | ethStatus t m => exact ⟨t, execEthStatus_keeps (Within.any _) (Keeps.refl _)⟩
  | ethPauseConfig t m => exact ⟨t, execEthPauseConfig_keeps (Within.any _) (Keeps.refl _)⟩
  | ethWakePattern t m => exact ⟨t, execEthWakePattern_keeps (Within.any _) (Keeps.refl _)⟩
  | ethStepdownConfig t m => exact ⟨t, execEthStepdownConfig_keeps (Within.any _) (Keeps.refl _)⟩
  | busConfig t m => exact ⟨t, execBusConfig_keeps (Within.any _) (Keeps.refl _)⟩
  | busEnable t m => exact ⟨t, execBusEnable_keeps (Within.any _) (Keeps.refl _)⟩
  | busDisable t m => exact ⟨t, execBusDisable_keeps (Within.any _) (Keeps.refl _)⟩
  | busFilterLoad t m => exact ⟨t, execBusFilterLoad_keeps (Within.any _) (Keeps.refl _)⟩
  | busRecover t m => exact ⟨t, execBusRecover_keeps (Within.any _) (Keeps.refl _)⟩
  | busMode t m => exact ⟨t, execBusMode_keeps (Within.any _) (Keeps.refl _)⟩
  | busStatus t m => exact ⟨t, execBusStatus_keeps (Within.any _) (Keeps.refl _)⟩
  | parseGraphLoad t m => exact ⟨t, execParseGraphLoad_keeps (Within.any _) (Keeps.refl _)⟩
  | parseSelect t m => exact ⟨t, execParseSelect_keeps (Within.any _) (Keeps.refl _)⟩
  | ruleStage t m => exact ⟨t, execRuleStage_keeps (Within.any _) (Keeps.refl _)⟩
  | ruleCommit t m fate => exact ⟨t, execRuleCommit_keeps (Within.any _) (Keeps.refl _)⟩
  | ruleStatus t m => exact ⟨t, execRuleStatus_keeps (Within.any _) (Keeps.refl _)⟩
  | policerConfig t m => exact ⟨t, execPolicerConfig_keeps (Within.any _) (Keeps.refl _)⟩
  | tblRouteAdd t m => exact ⟨t, execTblRouteAdd_keeps (Within.any _) (Keeps.refl _)⟩
  | tblRouteDel t m => exact ⟨t, execTblRouteDel_keeps (Within.any _) (Keeps.refl _)⟩
  | tblL2Config t m => exact ⟨t, execTblL2Config_keeps (Within.any _) (Keeps.refl _)⟩
  | tblL2Flush t m => exact ⟨t, execTblL2Flush_keeps (Within.any _) (Keeps.refl _)⟩
  | tblDirectWrite t m => exact ⟨t, execTblDirectWrite_keeps (Within.any _) (Keeps.refl _)⟩
  | tblRead t m => exact ⟨t, execTblRead_keeps (Within.any _) (Keeps.refl _)⟩
  | swPoolConfig t m => exact ⟨t, execSwPoolConfig_keeps (Within.any _) (Keeps.refl _)⟩
  | swClassConfig t m => exact ⟨t, execSwClassConfig_keeps (Within.any _) (Keeps.refl _)⟩
  | swPortConfig t m => exact ⟨t, execSwPortConfig_keeps (Within.any _) (Keeps.refl _)⟩
  | swSchedConfig t m => exact ⟨t, execSwSchedConfig_keeps (Within.any _) (Keeps.refl _)⟩
  | swStatus t m => exact ⟨t, execSwStatus_keeps (Within.any _) (Keeps.refl _)⟩
  | sigMapLoad t m => exact ⟨t, execSigMapLoad_keeps (Within.any _) (Keeps.refl _)⟩
  | sigMapCommit t m fate => exact ⟨t, execSigMapCommit_keeps (Within.any _) (Keeps.refl _)⟩
  | sigRead t m => exact ⟨t, execSigRead_keeps (Within.any _) (Keeps.refl _)⟩
  | sigWrite t m => exact ⟨t, execSigWrite_keeps (Within.any _) (Keeps.refl _)⟩
  | sigTriggerFire t m => exact ⟨t, execSigTriggerFire_keeps (Within.any _) (Keeps.refl _)⟩
  | sigStatus t m => exact ⟨t, execSigStatus_keeps (Within.any _) (Keeps.refl _)⟩
  | timeDomainConfig t m => exact ⟨t, execTimeDomainConfig_keeps (Within.any _) (Keeps.refl _)⟩
  | timeServoConfig t m => exact ⟨t, execTimeServoConfig_keeps (Within.any _) (Keeps.refl _)⟩
  | timeTriggerSet t m => exact ⟨t, execTimeTriggerSet_keeps (Within.any _) (Keeps.refl _)⟩
  | timeTriggerClear t m => exact ⟨t, execTimeTriggerClear_keeps (Within.any _) (Keeps.refl _)⟩
  | timeCaptureRead t m => exact ⟨t, execTimeCaptureRead_keeps (Within.any _) (Keeps.refl _)⟩
  | timeStatus t m => exact ⟨t, execTimeStatus_keeps (Within.any _) (Keeps.refl _)⟩
  | audPortConfig t m => exact ⟨t, execAudPortConfig_keeps (Within.any _) (Keeps.refl _)⟩
  | audStreamConfig t m => exact ⟨t, execAudStreamConfig_keeps (Within.any _) (Keeps.refl _)⟩
  | audRouteSet t m => exact ⟨t, execAudRouteSet_keeps (Within.any _) (Keeps.refl _)⟩
  | audZoneConfig t m => exact ⟨t, execAudZoneConfig_keeps (Within.any _) (Keeps.refl _)⟩
  | audAnnounceStart t m => exact ⟨t, execAudAnnounceStart_keeps (Within.any _) (Keeps.refl _)⟩
  | audAnnounceStop t m => exact ⟨t, execAudAnnounceStop_keeps (Within.any _) (Keeps.refl _)⟩
  | audLibraryLoad t m => exact ⟨t, execAudLibraryLoad_keeps (Within.any _) (Keeps.refl _)⟩
  | tideQueueConfig t m => exact ⟨t, execTideQueueConfig_keeps (Within.any _) (Keeps.refl _)⟩
  | tideQueueReset t m => exact ⟨t, execTideQueueReset_keeps (Within.any _) (Keeps.refl _)⟩
  | dmaRingConfig t m => exact ⟨t, execDmaRingConfig_keeps (Within.any _) (Keeps.refl _)⟩
  | dmaRingEnable t m => exact ⟨t, execDmaRingEnable_keeps (Within.any _) (Keeps.refl _)⟩
  | dmaRingDisable t m => exact ⟨t, execDmaRingDisable_keeps (Within.any _) (Keeps.refl _)⟩
  | keyDerive t m => exact ⟨t, execKeyDerive_keeps (Within.any _) (Keeps.refl _)⟩
  | keyRevoke t m => exact ⟨t, execKeyRevoke_keeps (Within.any _) (Keeps.refl _)⟩
  | keyAttrSet t m => exact ⟨t, execKeyAttrSet_keeps (Within.any _) (Keeps.refl _)⟩
  | keyInfo t m => exact ⟨t, execKeyInfo_keeps (Within.any _) (Keeps.refl _)⟩
  | keyEnrol t m verified => exact ⟨t, execKeyEnrol_keeps (Within.any _) (Keeps.refl _)⟩
  | keyTamperConfig t m => exact ⟨t, execKeyTamperConfig_keeps (Within.any _) (Keeps.refl _)⟩
  | faultConfig t m => exact ⟨t, execFaultConfig_keeps (Within.any _) (Keeps.refl _)⟩
  | faultForce t m => exact ⟨t, execFaultForce_keeps (Within.any _) (Keeps.refl _)⟩
  | faultRead t m => exact ⟨t, execFaultRead_keeps (Within.any _) (Keeps.refl _)⟩
  | faultClear t m => exact ⟨t, execFaultClear_keeps (Within.any _) (Keeps.refl _)⟩
  | twinConfig t m => exact ⟨t, execTwinConfig_keeps (Within.any _) (Keeps.refl _)⟩
  | twinEnable t m => exact ⟨t, execTwinEnable_keeps (Within.any _) (Keeps.refl _)⟩
  | twinDisable t m => exact ⟨t, execTwinDisable_keeps (Within.any _) (Keeps.refl _)⟩
  | twinHandover t m => exact ⟨t, execTwinHandover_keeps (Within.any _) (Keeps.refl _)⟩
  | twinStatus t m => exact ⟨t, execTwinStatus_keeps (Within.any _) (Keeps.refl _)⟩
  | cwConfig t m => exact ⟨t, execCwConfig_keeps (Within.any _) (Keeps.refl _)⟩
  | cwIdSet t m => exact ⟨t, execCwIdSet_keeps (Within.any _) (Keeps.refl _)⟩
  | cwTopology t m => exact ⟨t, execCwTopology_keeps (Within.any _) (Keeps.refl _)⟩
  | cwRemoteRead t m => exact ⟨t, execCwRemoteRead_keeps (Within.any _) (Keeps.refl _)⟩
  | cwRemoteWrite t m => exact ⟨t, execCwRemoteWrite_keeps (Within.any _) (Keeps.refl _)⟩
  | cwRemoteLock t m => exact ⟨t, execCwRemoteLock_keeps (Within.any _) (Keeps.refl _)⟩
  | wakeFilterSet t m => exact ⟨t, execWakeFilterSet_keeps (Within.any _) (Keeps.refl _)⟩
  | sleepConfig t m => exact ⟨t, execSleepConfig_keeps (Within.any _) (Keeps.refl _)⟩
  | sleepRequest t m => exact ⟨t, execSleepRequest_keeps (Within.any _) (Keeps.refl _)⟩
  | sleepStatus t m => exact ⟨t, execSleepStatus_keeps (Within.any _) (Keeps.refl _)⟩
  | updateBegin t m => exact ⟨t, execUpdateBegin_keeps (Within.any _) (Keeps.refl _)⟩
  | updateWrite t m => exact ⟨t, execUpdateWrite_keeps (Within.any _) (Keeps.refl _)⟩
  | updateFinish t m => exact ⟨t, execUpdateFinish_keeps (Within.any _) (Keeps.refl _)⟩
  | updateActivate t m => exact ⟨t, execUpdateActivate_keeps (Within.any _) (Keeps.refl _)⟩
  | updateConfirm t m => exact ⟨t, execUpdateConfirm_keeps (Within.any _) (Keeps.refl _)⟩
  | updateRevert t m => exact ⟨t, execUpdateRevert_keeps (Within.any _) (Keeps.refl _)⟩
  | updateStatus t m => exact ⟨t, execUpdateStatus_keeps (Within.any _) (Keeps.refl _)⟩
  | mbxRing t m value => exact ⟨t, execMbxRing_keeps (Within.any _) (Keeps.refl _)⟩
  | mbxAccept t m => exact ⟨t, execMbxAccept_keeps (Within.any _) (Keeps.refl _)⟩
  | commandStart t m => exact ⟨t, execCommandStart_keeps (Within.any _) (Keeps.refl _)⟩
  | longestTimeExpiry t m => exact ⟨t, execLongestTimeExpiry_keeps (Within.any _) (Keeps.refl _)⟩
  | mbxDoneClear t m value => exact ⟨t, execMbxDoneClear_keeps (Within.any _) (Keeps.refl _)⟩
  | mbxAbort t m value firmware => exact ⟨t, execMbxAbort_keeps (Within.any _) (Keeps.refl _)⟩
  | abortWatchdog t m => exact ⟨t, execAbortWatchdog_keeps (Within.any _) (Keeps.refl _)⟩
  | commandFirmwareWaitTimeout t m => exact ⟨t, execCommandFirmwareWaitTimeout_keeps (Within.any _) (Keeps.refl _)⟩
  | evtLogRelease t value => exact ⟨t, execEvtLogRelease_keeps (Within.any _) (Keeps.refl _)⟩
  | evtMaskWrite t k value => exact ⟨t, execEvtMaskWrite_keeps (Within.any _) (Keeps.refl _)⟩
  | msixVectorUnmask t what => exact ⟨t, execMsixVectorUnmask_keeps (Within.any _) (Keeps.refl _)⟩
  | registerWrite t bar off data be => exact ⟨t, execRegisterWrite_keeps (Within.any _) (Keeps.refl _)⟩
  | spiWriteTransaction t mosi spare => exact ⟨t, execSpiWriteTransaction_keeps (Within.any _) (Keeps.refl _)⟩
  | spiReadTransaction t mosi late => exact ⟨t, execSpiReadTransaction_keeps (Within.any _) (Keeps.refl _)⟩
  | spiStatusRead t => exact ⟨t, execSpiStatusRead_keeps (Keeps.refl _)⟩
  | spiTransactionTimeout t => exact ⟨t, execSpiTransactionTimeout_keeps (Within.any _) (Keeps.refl _)⟩
  | pcieCompletionTimeout t r read => exact ⟨t, execPcieCompletionTimeout_keeps (Within.any _) (Keeps.refl _)⟩
  | perstN t level => exact ⟨t, execPerstN_keeps (Within.any _) (Keeps.refl _)⟩
  | tqCurWrite t q value => exact ⟨t, execTqCurWrite_keeps (Within.any _) (Keeps.refl _)⟩
  | tqMarkWrite t q value => exact ⟨t, execTqMarkWrite_keeps (Within.any _) (Keeps.refl _)⟩
  | tqReleaseWrite t q value => exact ⟨t, execTqReleaseWrite_keeps (Within.any _) (Keeps.refl _)⟩
  | tqClearMark t q => exact ⟨t, execTqClearMark_keeps (Within.any _) (Keeps.refl _)⟩
  | tqRewind t q => exact ⟨t, execTqRewind_keeps (Within.any _) (Keeps.refl _)⟩
  | ringTailWrite t r value => exact ⟨t, execRingTailWrite_keeps (Within.any _) (Keeps.refl _)⟩
  | ciphLockWrite t e value => exact ⟨t, execCiphLockWrite_keeps (Within.any _) (Keeps.refl _)⟩
  | ciphStart t e => exact ⟨t, execCiphStart_keeps (Within.any _) (Keeps.refl _)⟩
  | ciphCancel t e => exact ⟨t, execCiphCancel_keeps (Within.any _) (Keeps.refl _)⟩
  | ciphInWrite t e value => exact ⟨t, execCiphInWrite_keeps (Within.any _) (Keeps.refl _)⟩
  | ciphOutRelWrite t e value => exact ⟨t, execCiphOutRelWrite_keeps (Within.any _) (Keeps.refl _)⟩
  | ciphJobDone t e => exact ⟨t, execCiphJobDone_keeps (Within.any _) (Keeps.refl _)⟩
  | lockIdleRelease t e => exact ⟨t, execLockIdleRelease_keeps (Within.any _) (Keeps.refl _)⟩
  | internalEngineClaim t e => exact ⟨t, execInternalEngineClaim_keeps (Within.any _) (Keeps.refl _)⟩
  | ingressFrameStart t p frame arrival => exact ⟨t, execIngressFrameStart_keeps (Within.any _) (Keeps.refl _)⟩
  | graphRewriteDone t => exact ⟨t, execGraphRewriteDone_keeps (Within.any _) (Keeps.refl _)⟩
  | tableRewriteDone t table index => exact ⟨t, execTableRewriteDone_keeps (Within.any _) (Keeps.refl _)⟩
  | frameAdmission t f => exact ⟨t, execFrameAdmission_keeps (Within.any _) (Keeps.refl _)⟩
  | versionExpiry t f => exact ⟨t, execVersionExpiry_keeps (Within.any _) (Keeps.refl _)⟩
  | ingressVerdict t f cut => exact ⟨t, execIngressVerdict_keeps (Within.any _) (Keeps.refl _)⟩
  | learnEventProcess t => exact ⟨t, execLearnEventProcess_keeps (Within.any _) (Keeps.refl _)⟩
  | l2MoveWindowEnd t entry => exact ⟨t, execL2MoveWindowEnd_keeps (Within.any _) (Keeps.refl _)⟩
  | l2AgeingScan t => exact ⟨t, execL2AgeingScan_keeps (Within.any _) (Keeps.refl _)⟩
  | egressDequeue t p => exact ⟨t, execEgressDequeue_keeps (Within.any _) (Keeps.refl _)⟩
  | cutThroughFcsDue t p bodyShort => exact ⟨t, execCutThroughFcsDue_keeps (Within.any _) (Keeps.refl _)⟩
  | egressTransmitEnd t p => exact ⟨t, execEgressTransmitEnd_keeps (Within.any _) (Keeps.refl _)⟩
  | ageingHeadCheck t egress => exact ⟨t, execAgeingHeadCheck_keeps (Within.any _) (Keeps.refl _)⟩
  | linkDown t p => exact ⟨t, execLinkDown_keeps (Within.any _) (Keeps.refl _)⟩
  | linkUp t p => exact ⟨t, execLinkUp_keeps (Within.any _) (Keeps.refl _)⟩
  | holdWindowEnd t p => exact ⟨t, execHoldWindowEnd_keeps (Within.any _) (Keeps.refl _)⟩
  | speedChanged t p rateMb half => exact ⟨t, execSpeedChanged_keeps (Within.any _) (Keeps.refl _)⟩
  | remoteFault t p on => exact ⟨t, execRemoteFault_keeps (Within.any _) (Keeps.refl _)⟩
  | pauseReceived t p pause => exact ⟨t, execPauseReceived_keeps (Within.any _) (Keeps.refl _)⟩
  | pauseExpiry t p => exact ⟨t, execPauseExpiry_keeps (Within.any _) (Keeps.refl _)⟩
  | pausedLong t p => exact ⟨t, execPausedLong_keeps (Within.any _) (Keeps.refl _)⟩
  | pauseRefresh t p => exact ⟨t, execPauseRefresh_keeps (Within.any _) (Keeps.refl _)⟩
  | collision t p late => exact ⟨t, execCollision_keeps (Within.any _) (Keeps.refl _)⟩
  | backoffExpiry t p => exact ⟨t, execBackoffExpiry_keeps (Within.any _) (Keeps.refl _)⟩
  | plcaStatusChange t p up => exact ⟨t, execPlcaStatusChange_keeps (Within.any _) (Keeps.refl _)⟩
  | stepDecision t p sentBytes peerBytes => exact ⟨t, execStepDecision_keeps (Within.any _) (Keeps.refl _)⟩
  | stepMessageReceived t p body => exact ⟨t, execStepMessageReceived_keeps (Within.any _) (Keeps.refl _)⟩
  | stepRequestTimeout t p => exact ⟨t, execStepRequestTimeout_keeps (Within.any _) (Keeps.refl _)⟩
  | stepRelockDone t p => exact ⟨t, execStepRelockDone_keeps (Within.any _) (Keeps.refl _)⟩
  | stepRelockFail t p => exact ⟨t, execStepRelockFail_keeps (Within.any _) (Keeps.refl _)⟩
  | stepLinkLoss t p => exact ⟨t, execStepLinkLoss_keeps (Within.any _) (Keeps.refl _)⟩
  | busFrameEvaluation t b frame exception parity => exact ⟨t, execBusFrameEvaluation_keeps (Within.any _) (Keeps.refl _)⟩
  | busFrameValid t b => exact ⟨t, execBusFrameValid_keeps (Within.any _) (Keeps.refl _)⟩
  | busError t b kind asTransmitter acked step => exact ⟨t, execBusError_keeps (Within.any _) (Keeps.refl _)⟩
  | busArbitrationStart t b lost => exact ⟨t, execBusArbitrationStart_keeps (Within.any _) (Keeps.refl _)⟩
  | busTxValid t b => exact ⟨t, execBusTxValid_keeps (Within.any _) (Keeps.refl _)⟩
  | busRecoveryOccurrence t b => exact ⟨t, execBusRecoveryOccurrence_keeps (Within.any _) (Keeps.refl _)⟩
  | stuckDominant t b => exact ⟨t, execStuckDominant_keeps (Within.any _) (Keeps.refl _)⟩
  | busIntegrationDone t b => exact ⟨t, execBusIntegrationDone_keeps (Within.any _) (Keeps.refl _)⟩
  | busModeEffect t b => exact ⟨t, execBusModeEffect_keeps (Within.any _) (Keeps.refl _)⟩
  | drainLimitExpiry t b => exact ⟨t, execDrainLimitExpiry_keeps (Within.any _) (Keeps.refl _)⟩
  | sourceFrameCommit t => exact ⟨t, execSourceFrameCommit_keeps (Within.any _) (Keeps.refl _)⟩
  | signalOverrun t => exact ⟨t, execSignalOverrun_keeps (Within.any _) (Keeps.refl _)⟩
  | freshnessExpiry t slot => exact ⟨t, execFreshnessExpiry_keeps (Within.any _) (Keeps.refl _)⟩
  | triggerGapEnd t trig => exact ⟨t, execTriggerGapEnd_keeps (Within.any _) (Keeps.refl _)⟩
  | secWaitExpiry t b => exact ⟨t, execSecWaitExpiry_keeps (Within.any _) (Keeps.refl _)⟩
  | mapVersionExpiry t => exact ⟨t, execMapVersionExpiry_keeps (Within.any _) (Keeps.refl _)⟩
  | timeMessageReceived t p message stamp => exact ⟨t, execTimeMessageReceived_keeps (Within.any _) (Keeps.refl _)⟩
  | domainTimeout t d announce => exact ⟨t, execDomainTimeout_keeps (Within.any _) (Keeps.refl _)⟩
  | referenceLost t => exact ⟨t, execReferenceLost_keeps (Within.any _) (Keeps.refl _)⟩
  | referenceReturn t => exact ⟨t, execReferenceReturn_keeps (Within.any _) (Keeps.refl _)⟩
  | followUpTableExpiry t p => exact ⟨t, execFollowUpTableExpiry_keeps (Within.any _) (Keeps.refl _)⟩
  | timeTriggerFire t n => exact ⟨t, execTimeTriggerFire_keeps (Within.any _) (Keeps.refl _)⟩
  | timeOutPulseEnd t pin => exact ⟨t, execTimeOutPulseEnd_keeps (Within.any _) (Keeps.refl _)⟩
  | timeInCapture t pin rising => exact ⟨t, execTimeInCapture_keeps (Within.any _) (Keeps.refl _)⟩
  | tdmNoFrame t a => exact ⟨t, execTdmNoFrame_keeps (Within.any _) (Keeps.refl _)⟩
  | audioBlockCompute t => exact ⟨t, execAudioBlockCompute_keeps (Within.any _) (Keeps.refl _)⟩
  | aafStreamLost t stream => exact ⟨t, execAafStreamLost_keeps (Within.any _) (Keeps.refl _)⟩
  | dmaRxTransfer t r descs fail => exact ⟨t, execDmaRxTransfer_keeps (Within.any _) (Keeps.refl _)⟩
  | rxStarveTimeout t r => exact ⟨t, execRxStarveTimeout_keeps (Within.any _) (Keeps.refl _)⟩
  | rxEventTimer t r => exact ⟨t, execRxEventTimer_keeps (Within.any _) (Keeps.refl _)⟩
  | dmaTxFrame t r descs data read => exact ⟨t, execDmaTxFrame_keeps (Within.any _) (Keeps.refl _)⟩
  | tideEccScrub t q corrected bad => exact ⟨t, execTideEccScrub_keeps (Within.any _) (Keeps.refl _)⟩
  | entropyHealthFail t => exact ⟨t, execEntropyHealthFail_keeps (Within.any _) (Keeps.refl _)⟩
  | tamperAlarm t monitor => exact ⟨t, execTamperAlarm_keeps (Within.any _) (Keeps.refl _)⟩
  | faultSourceEntry t src target spec => exact ⟨t, execFaultSourceEntry_keeps (Within.any _) (Keeps.refl _)⟩
  | faultSourceQuiet t src => exact ⟨t, execFaultSourceQuiet_keeps (Within.any _) (Keeps.refl _)⟩
  | brokenPair t src high => exact ⟨t, execBrokenPair_keeps (Within.any _) (Keeps.refl _)⟩
  | arbitrationWindowClose t => exact ⟨t, execArbitrationWindowClose_keeps (Within.any _) (Keeps.refl _)⟩
  | quietPeriodEnd t src => exact ⟨t, execQuietPeriodEnd_keeps (Within.any _) (Keeps.refl _)⟩
  | budgetWindowEnd t src => exact ⟨t, execBudgetWindowEnd_keeps (Within.any _) (Keeps.refl _)⟩
  | unitRestartEscalation t island unit => exact ⟨t, execUnitRestartEscalation_keeps (Within.any _) (Keeps.refl _)⟩
  | faultPersistLatch t src => exact ⟨t, execFaultPersistLatch_keeps (Within.any _) (Keeps.refl _)⟩
  | unitRestartDone t island unit => exact ⟨t, execUnitRestartDone_keeps (Within.any _) (Keeps.refl _)⟩
  | islandRestartDone t island => exact ⟨t, execIslandRestartDone_keeps (Within.any _) (Keeps.refl _)⟩
  | handshakeTimeout t near far => exact ⟨t, execHandshakeTimeout_keeps (Within.any _) (Keeps.refl _)⟩
  | channelResetTimeout t channel => exact ⟨t, execChannelResetTimeout_keeps (Within.any _) (Keeps.refl _)⟩
  | glitchStorm t group on => exact ⟨t, execGlitchStorm_keeps (Within.any _) (Keeps.refl _)⟩
  | timerRecalibration t ok => exact ⟨t, execTimerRecalibration_keeps (Within.any _) (Keeps.refl _)⟩
  | mdioTimeout t island => exact ⟨t, execMdioTimeout_keeps (Within.any _) (Keeps.refl _)⟩
  | lpddrTrainingTimeout t => exact ⟨t, execLpddrTrainingTimeout_keeps (Within.any _) (Keeps.refl _)⟩
  | supplyWarning t supply => exact ⟨t, execSupplyWarning_keeps (Within.any _) (Keeps.refl _)⟩
  | brownOut t => exact ⟨t, execBrownOut_keeps (Within.any _) (Keeps.refl _)⟩
  | powerOn t => exact ⟨t, execPowerOn_keeps (Within.any _) (Keeps.refl _)⟩
  | resetN t level straps => exact ⟨t, execResetN_keeps (Within.any _) (Keeps.refl _)⟩
  | pwrEnRetry t => exact ⟨t, execPwrEnRetry_keeps (Within.any _) (Keeps.refl _)⟩
  | vddAonLoss t => exact ⟨t, execVddAonLoss_keeps (Within.any _) (Keeps.refl _)⟩
  | jtagInstruction t load => exact ⟨t, execJtagInstruction_keeps (Within.any _) (Keeps.refl _)⟩
  | pufRegeneration t result => exact ⟨t, execPufRegeneration_keeps (Within.any _) (Keeps.refl _)⟩
  | loaderImageCheck t running staging => exact ⟨t, execLoaderImageCheck_keeps (Within.any _) (Keeps.refl _)⟩
  | swapPageStep t => exact ⟨t, execSwapPageStep_keeps (Within.any _) (Keeps.refl _)⟩
  | firmwareStart t => exact ⟨t, execFirmwareStart_keeps (Within.any _) (Keeps.refl _)⟩
  | firmwareReady t => exact ⟨t, execFirmwareReady_keeps (Within.any _) (Keeps.refl _)⟩
  | firmwareHeartbeat t => exact ⟨t, execFirmwareHeartbeat_keeps (Within.any _) (Keeps.refl _)⟩
  | activateReboot t => exact ⟨t, execActivateReboot_keeps (Within.any _) (Keeps.refl _)⟩
  | updateChunkReceived t body => exact ⟨t, execUpdateChunkReceived_keeps (Within.any _) (Keeps.refl _)⟩
  | activationReportSend t => exact ⟨t, execActivationReportSend_keeps (Within.any _) (Keeps.refl _)⟩
  | activationReportReceived t dev body => exact ⟨t, execActivationReportReceived_keeps (Within.any _) (Keeps.refl _)⟩
  | actWaitExpiry t => exact ⟨t, execActWaitExpiry_keeps (Within.any _) (Keeps.refl _)⟩
  | activationOrderReceived t body => exact ⟨t, execActivationOrderReceived_keeps (Within.any _) (Keeps.refl _)⟩
  | selfSwapbackTimeout t => exact ⟨t, execSelfSwapbackTimeout_keeps (Within.any _) (Keeps.refl _)⟩
  | leaseRenewal t => exact ⟨t, execLeaseRenewal_keeps (Within.any _) (Keeps.refl _)⟩
  | leaseLapse t => exact ⟨t, execLeaseLapse_keeps (Within.any _) (Keeps.refl _)⟩
  | tokenClaim t => exact ⟨t, execTokenClaim_keeps (Within.any _) (Keeps.refl _)⟩
  | leaseInChange t reading => exact ⟨t, execLeaseInChange_keeps (Within.any _) (Keeps.refl _)⟩
  | twinHelloSend t => exact ⟨t, execTwinHelloSend_keeps (Within.any _) (Keeps.refl _)⟩
  | twinHelloReceived t body => exact ⟨t, execTwinHelloReceived_keeps (Within.any _) (Keeps.refl _)⟩
  | twinRenewReceived t body => exact ⟨t, execTwinRenewReceived_keeps (Within.any _) (a1 := body) (Keeps.refl _)⟩
  | twinMirrorReceived t body => exact ⟨t, execTwinMirrorReceived_keeps (Within.any _) (Keeps.refl _)⟩
  | twinHealthSend t => exact ⟨t, execTwinHealthSend_keeps (Within.any _) (Keeps.refl _)⟩
  | twinHealthReceived t body => exact ⟨t, execTwinHealthReceived_keeps (Within.any _) (Keeps.refl _)⟩
  | healthReportTimeout t => exact ⟨t, execHealthReportTimeout_keeps (Within.any _) (Keeps.refl _)⟩
  | twinHandoverReceived t => exact ⟨t, execTwinHandoverReceived_keeps (Within.any _) (Keeps.refl _)⟩
  | handoverBusesIdle t => exact ⟨t, execHandoverBusesIdle_keeps (Within.any _) (Keeps.refl _)⟩
  | twinResyncReceived t body => exact ⟨t, execTwinResyncReceived_keeps (Within.any _) (Keeps.refl _)⟩
  | twinTsyncSend t => exact ⟨t, execTwinTsyncSend_keeps (Keeps.refl _)⟩
  | twinTsyncReceived t body => exact ⟨t, execTwinTsyncReceived_keeps (Within.any _) (Keeps.refl _)⟩
  | twinLinkDown t => exact ⟨t, execTwinLinkDown_keeps (Within.any _) (Keeps.refl _)⟩
  | shadowTimeout t b => exact ⟨t, execShadowTimeout_keeps (Within.any _) (Keeps.refl _)⟩
  | bistSlice t pass => exact ⟨t, execBistSlice_keeps (Within.any _) (Keeps.refl _)⟩
  | causewayFrameReceive t p frame arrival => exact ⟨t, execCausewayFrameReceive_keeps (Within.any _) (Keeps.refl _)⟩
  | cwHelloSend t p => exact ⟨t, execCwHelloSend_keeps (Within.any _) (Keeps.refl _)⟩
  | cwHelloReceived t p body => exact ⟨t, execCwHelloReceived_keeps (Within.any _) (Keeps.refl _)⟩
  | cwEngineClaim t p => exact ⟨t, execCwEngineClaim_keeps (Within.any _) (Keeps.refl _)⟩
  | neighbourLost t p => exact ⟨t, execNeighbourLost_keeps (Within.any _) (Keeps.refl _)⟩
  | topologySend t => exact ⟨t, execTopologySend_keeps (Within.any _) (Keeps.refl _)⟩
  | topologyReceived t p body => exact ⟨t, execTopologyReceived_keeps (Within.any _) (Keeps.refl _)⟩
  | deviceUnheard t id => exact ⟨t, execDeviceUnheard_keeps (Within.any _) (Keeps.refl _)⟩
  | remoteRequestReceived t dev body => exact ⟨t, execRemoteRequestReceived_keeps (Within.any _) (Keeps.refl _)⟩
  | remoteCompletionReceived t dev body => exact ⟨t, execRemoteCompletionReceived_keeps (Within.any _) (Keeps.refl _)⟩
  | remoteTimeout t m => exact ⟨t, execRemoteTimeout_keeps (Within.any _) (Keeps.refl _)⟩
  | remoteCacheExpiry t => exact ⟨t, execRemoteCacheExpiry_keeps (Within.any _) (Keeps.refl _)⟩
  | lockRequestReceived t dev body => exact ⟨t, execLockRequestReceived_keeps (Within.any _) (Keeps.refl _)⟩
  | lockGrantReceived t dev body => exact ⟨t, execLockGrantReceived_keeps (Within.any _) (Keeps.refl _)⟩
  | writeAndUnlockReceived t dev body => exact ⟨t, execWriteAndUnlockReceived_keeps (Within.any _) (Keeps.refl _)⟩
  | lockRetryReceived t dev body => exact ⟨t, execLockRetryReceived_keeps (Within.any _) (Keeps.refl _)⟩
  | lockBackoffExpiry t m => exact ⟨t, execLockBackoffExpiry_keeps (Within.any _) (Keeps.refl _)⟩
  | farLockExpiry t => exact ⟨t, execFarLockExpiry_keeps (Within.any _) (Keeps.refl _)⟩
  | cwEventReceived t dev body => exact ⟨t, execCwEventReceived_keeps (Within.any _) (Keeps.refl _)⟩
  | peerCommandReceived t body => exact ⟨t, execPeerCommandReceived_keeps (Within.any _) (Keeps.refl _)⟩
  | consentLapStart t => exact ⟨t, execConsentLapStart_keeps (Within.any _) (Keeps.refl _)⟩
  | busLapMessageReceived t b body => exact ⟨t, execBusLapMessageReceived_keeps (Within.any _) (Keeps.refl _)⟩
  | nodeSlotTimeout t b => exact ⟨t, execNodeSlotTimeout_keeps (Within.any _) (Keeps.refl _)⟩
  | deviceLapReceived t dev body => exact ⟨t, execDeviceLapReceived_keeps (Within.any _) (a1 := dev) (Keeps.refl _)⟩
  | lapTimeout t => exact ⟨t, execLapTimeout_keeps (Within.any _) (Keeps.refl _)⟩
  | sleepCancelReceived t dev body => exact ⟨t, execSleepCancelReceived_keeps (Within.any _) (a1 := dev) (Keeps.refl _)⟩
  | wakeRequest t stim => exact ⟨t, execWakeRequest_keeps (Within.any _) (Keeps.refl _)⟩
  | sleepSettle t => exact ⟨t, execSleepSettle_keeps (Within.any _) (Keeps.refl _)⟩
  | sleepPowerOff t => exact ⟨t, execSleepPowerOff_keeps (Within.any _) (Keeps.refl _)⟩
  | wakeSource t stims => exact ⟨t, execWakeSource_keeps (Within.any _) (Keeps.refl _)⟩
  | ringLost t => exact ⟨t, execRingLost_keeps (Within.any _) (Keeps.refl _)⟩
  | falseWakeCheck t => exact ⟨t, execFalseWakeCheck_keeps (Within.any _) (Keeps.refl _)⟩
  | pcieLinkStateChange t width speed up => exact ⟨t, execPcieLinkStateChange_keeps (Within.any _) (Keeps.refl _)⟩
  | pathDelayRequestSend t d => exact ⟨t, execPathDelayRequestSend_keeps (Within.any _) (Keeps.refl _)⟩
  | slewEnd t => exact ⟨t, execSlewEnd_keeps (Within.any _) (Keeps.refl _)⟩
  | brokenPairRestored t src => exact ⟨t, execBrokenPairRestored_keeps (Within.any _) (Keeps.refl _)⟩
  | coreSupplyInRange t => exact ⟨t, execCoreSupplyInRange_keeps (Within.any _) (Keeps.refl _)⟩
  | safeStateOutputRelease t => exact ⟨t, execSafeStateOutputRelease_keeps (Within.any _) (Keeps.refl _)⟩
  | twinSleepCommitReceived t body => exact ⟨t, execTwinSleepCommitReceived_keeps (Within.any _) (a1 := body) (Keeps.refl _)⟩

end Sys2Proof.Machine
end

