-- ==== Sys2Proof/Laws/Tells.lean ====
section
/-! SUPPORT. What the occurrence of an event does, once (R78, R79, R531): the log, the status bits, the interrupts, the
counters, the message to the master; and what the completion of a mailbox command does (R86 step 6). -/

set_option Elab.async false

namespace Sys2Proof.Machine

open Sys2Proof

theorem Tells.refl (a : State) : Tells a a :=
  ⟨rfl, rfl, rfl, rfl, rfl, rfl, rfl, rfl, rfl, rfl, rfl, rfl, rfl, rfl, rfl, rfl, rfl, rfl, rfl, rfl, rfl, rfl,
    fun _ => rfl, rfl, fun _ h => h, List.suffix_refl _⟩

theorem Tells.trans {a b c : State} (h : Tells a b) (k : Tells b c) : Tells a c where
  pending := k.pending.trans h.pending
  now := k.now.trans h.now
  windows := k.windows.trans h.windows
  mbx := k.mbx.trans h.mbx
  mbxOrder := k.mbxOrder.trans h.mbxOrder
  islands := k.islands.trans h.islands
  chans := k.chans.trans h.chans
  units := k.units.trans h.units
  buses := k.buses.trans h.buses
  parse := k.parse.trans h.parse
  tbl := k.tbl.trans h.tbl
  sw := k.sw.trans h.sw
  sig := k.sig.trans h.sig
  time := k.time.trans h.time
  aud := k.aud.trans h.aud
  tide := k.tide.trans h.tide
  sec := k.sec.trans h.sec
  flt := k.flt.trans h.flt
  twin := k.twin.trans h.twin
  cw := k.cw.trans h.cw
  slp := k.slp.trans h.slp
  boot := k.boot.trans h.boot
  port p := by rw [k.port p, h.port p]
  host := by rw [k.host, h.host]
  rises i e := k.rises i (h.rises i e)
  sent := h.sent.trans k.sent

/-- A change of the event registers alone. -/
theorem tells_host {a : State} {h : HostIf} (e : h = { a.host with
    evtStatus := h.evtStatus, evtSetAt := h.evtSetAt, evtLogWr := h.evtLogWr
    evtLogFull := h.evtLogFull, evtLogLost := h.evtLogLost, log := h.log, msix := { a.host.msix with pend := h.msix.pend } })
    (r : ∀ k, a.host.evtStatus.getLsbD k = true → h.evtStatus.getLsbD k = true) : Tells a { a with host := h } :=
  ⟨rfl, rfl, rfl, rfl, rfl, rfl, rfl, rfl, rfl, rfl, rfl, rfl, rfl, rfl, rfl, rfl, rfl, rfl, rfl, rfl, rfl, rfl,
    fun _ => rfl, e, r, List.suffix_refl _⟩

theorem State.count_tells (s : State) (g f i n : Nat) : Tells s (s.count g f i n) :=
  ⟨rfl, rfl, rfl, rfl, rfl, rfl, rfl, rfl, rfl, rfl, rfl, rfl, rfl, rfl, rfl, rfl, rfl, rfl, rfl, rfl, rfl, rfl,
    fun _ => rfl, rfl, fun _ h => h, List.suffix_refl _⟩

theorem State.send_tells (s : State) (x : Sent) : Tells s (s.send x) :=
  ⟨rfl, rfl, rfl, rfl, rfl, rfl, rfl, rfl, rfl, rfl, rfl, rfl, rfl, rfl, rfl, rfl, rfl, rfl, rfl, rfl, rfl, rfl,
    fun _ => rfl, rfl, fun _ h => h, List.suffix_cons _ _⟩

theorem State.draw_tells (s : State) : Tells s s.draw.2 :=
  ⟨rfl, rfl, rfl, rfl, rfl, rfl, rfl, rfl, rfl, rfl, rfl, rfl, rfl, rfl, rfl, rfl, rfl, rfl, rfl, rfl, rfl, rfl,
    fun _ => rfl, rfl, fun _ h => h, List.suffix_refl _⟩

theorem State.link_tells (s : State) (p c : Nat) (w : List (CwHead × List Byte × Bool)) :
    Tells s (s.modPort p fun y => { y with cw := { y.cw with linkTx := c, waiting := w } }) where
  pending := rfl
  now := rfl
  windows := rfl
  mbx := rfl
  mbxOrder := rfl
  islands := rfl
  chans := rfl
  units := rfl
  buses := rfl
  parse := rfl
  tbl := rfl
  sw := rfl
  sig := rfl
  time := rfl
  aud := rfl
  tide := rfl
  sec := rfl
  flt := rfl
  twin := rfl
  cw := rfl
  slp := rfl
  boot := rfl
  port q := by
    by_cases h : q = p
    · subst h
      simp
    · simp [State.port_modPort_ne s h]
  host := rfl
  rises _ h := h
  sent := List.suffix_refl _

theorem State.msixRequest_tells (s : State) (v : Nat) : Tells s (s.msixRequest v) := by
  unfold State.msixRequest
  extract_lets x
  split
  · exact Tells.refl s
  · split
    · exact tells_host rfl fun _ h => h
    · exact State.send_tells s _

theorem State.evtSet_tells (s : State) (ev : Nat) : Tells s (s.evtSet ev) := by
  unfold State.evtSet
  extract_lets rose sent h0 s'
  have h : Tells s s' := tells_host rfl fun k e => by simp [e]
  split
  · exact h.trans (State.msixRequest_tells s' _)
  · exact h

theorem State.logWrite_tells (s : State) (r : EvtRec) : Tells s (s.logWrite r).1 := by
  have h : ∀ x : HostIf, x = { s.host with
      evtStatus := s.host.evtStatus, evtSetAt := s.host.evtSetAt, evtLogWr := x.evtLogWr
      evtLogFull := x.evtLogFull, evtLogLost := x.evtLogLost, log := x.log } → Tells s { s with host := x } := fun x e =>
    tells_host (by rw [e]) fun k g => by rw [e]; exact g
  unfold State.logWrite
  extract_lets h0 wr h1 s1
  have k : Tells s s1 := h h1 rfl
  split
  · exact k.trans (State.count_tells s1 1 0 9 1)
  · exact k

theorem State.cwOuter_tells (s : State) (p : Nat) (h : CwHead) (body : List Byte) (plain : Bool) :
    Tells s (s.cwOuter p h body plain).1 := by
  show Tells s (s.cwSeal p h body plain).1
  unfold State.cwSeal
  extract_lets x
  split
  · exact Tells.refl s
  · exact State.link_tells s p _ x.waiting

theorem State.cwPut_tells (s : State) (p : Nat) (h : CwHead) (body : List Byte) (hello : Bool) :
    Tells s (s.cwPut p h body hello) :=
  (((State.cwOuter_tells s p h body hello).trans (State.send_tells _ _)).trans (State.count_tells _ _ _ _ _)).trans
    (State.count_tells _ _ _ _ _)

theorem State.cwWait_tells (s : State) (p : Nat) (h : CwHead) (body : List Byte) (hello : Bool) :
    Tells s (s.cwWait p h body hello) :=
  State.link_tells s p (s.port p).cw.linkTx ((s.port p).cw.waiting ++ [(h, body, hello)])

theorem State.cwSend_tells (s : State) (p : Nat) (h : CwHead) (body : List Byte) (hello : Bool) :
    Tells s (s.cwSend p h body hello) := by
  unfold State.cwSend
  extract_lets x
  split
  · exact Tells.refl s
  · split
    · exact State.cwPut_tells s p h body hello
    · exact State.cwWait_tells s p h body hello

theorem State.cwTo_tells (s : State) (d kind : Nat) (body : List Byte) : Tells s (s.cwTo d kind body) := by
  unfold State.cwTo
  split
  · exact Tells.refl s
  · split
    · exact Tells.refl s
    · exact State.cwSend_tells s _ _ _ _

theorem State.occur_fst (s : State) (r : EvtRec) : (s.occur r).1 =
    if ((s.logWrite r).1.evtSet r.evt).forwards r.evt then
      (((s.logWrite r).1.evtSet r.evt).cwTo ((s.logWrite r).1.evtSet r.evt).cw.master 4 r.wire).count 14 0 3
    else (s.logWrite r).1.evtSet r.evt := rfl

/-- The first occurrence of `raise`, and the second that follows an overwrite. -/
theorem State.raise_eq (s : State) (ev mbx unit detail : Nat) : s.raise ev mbx unit detail =
    if (s.occur { evt := ev, mbx := mbx, unit := unit, detail := detail % 2 ^ 32, time := s.activeNs }).2 && ev != 18 then
      (((s.occur { evt := ev, mbx := mbx, unit := unit, detail := detail % 2 ^ 32, time := s.activeNs }).1).occur
        { evt := 18, mbx := 0xFF, unit := noUnit
          detail := (s.occur
            { evt := ev, mbx := mbx, unit := unit, detail := detail % 2 ^ 32, time := s.activeNs }).1.host.evtLogLost
          time := (s.occur
            { evt := ev, mbx := mbx, unit := unit, detail := detail % 2 ^ 32, time := s.activeNs }).1.activeNs }).1
    else (s.occur { evt := ev, mbx := mbx, unit := unit, detail := detail % 2 ^ 32, time := s.activeNs }).1 := rfl

theorem State.occur_tells (s : State) (r : EvtRec) : Tells s (s.occur r).1 := by
  have h := (State.logWrite_tells s r).trans (State.evtSet_tells (s.logWrite r).1 r.evt)
  rw [State.occur_fst]
  split
  · exact (h.trans (State.cwTo_tells _ _ _ _)).trans (State.count_tells _ 14 0 3 1)
  · exact h

/-- The occurrence of an event, whole. -/
theorem State.raise_tells (s : State) (ev mbx unit detail : Nat) : Tells s (s.raise ev mbx unit detail) := by
  have h := State.occur_tells s
    { evt := ev, mbx := mbx, unit := unit, detail := detail % 2 ^ 32, time := s.activeNs }
  rw [State.raise_eq]
  split
  · exact h.trans (State.occur_tells _ _)
  · exact h

theorem State.raiseOf_tells (s : State) (ev : Nat) (u : UnitId) (detail : Nat) : Tells s (s.raiseOf ev u detail) :=
  State.raise_tells s ev 0xFF u.code detail

theorem State.evtSet_sets (s : State) {ev : Nat} (h : ev < 128) : (s.evtSet ev).host.evtStatus.getLsbD ev = true := by
  unfold State.evtSet
  extract_lets rose sent h0 s'
  have k : s'.host.evtStatus.getLsbD ev = true := by
    show (s.host.evtStatus ||| BitVec.ofNat 128 (2 ^ ev)).getLsbD ev = true
    rw [BitVec.getLsbD_or, BitVec.getLsbD_ofNat, Nat.testBit_two_pow_self]
    simp [h]
  split
  · exact (State.msixRequest_tells s' _).rises ev k
  · exact k

/-- The status bit of an event that has occurred reads 1 (R78). -/
theorem State.raise_sets (s : State) {ev : Nat} (mbx unit detail : Nat) (h : ev < 128) :
    (s.raise ev mbx unit detail).host.evtStatus.getLsbD ev = true := by
  have k : ∀ r : EvtRec, r.evt = ev → (s.occur r).1.host.evtStatus.getLsbD ev = true := by
    intro r e
    have g := State.evtSet_sets (s.logWrite r).1 (ev := r.evt) (by omega)
    rw [e] at g
    rw [State.occur_fst]
    split
    · exact ((State.cwTo_tells _ _ _ _).trans (State.count_tells _ 14 0 3 1)).rises ev (by rw [e]; exact g)
    · rw [e]; exact g
  have g := k { evt := ev, mbx := mbx, unit := unit, detail := detail % 2 ^ 32, time := s.activeNs } rfl
  rw [State.raise_eq]
  split
  · exact (State.occur_tells _ _).rises ev g
  · exact g

/-- The instant of a reset is all that the completion of an activation moves (R577). -/
theorem State.rebootClock_fields (s : State) (q : Option Req) :
    (s.rebootClock q).now = s.now ∧ (s.rebootClock q).windows = s.windows ∧ (s.rebootClock q).mbx = s.mbx ∧
      (s.rebootClock q).cw = s.cw ∧ (s.rebootClock q).host = s.host := by
  unfold State.rebootClock
  split <;> exact ⟨rfl, rfl, rfl, rfl, rfl⟩

/-- The state in which a completion writes its answer. -/
theorem State.clocked_fields (s : State) (c : Bool) (q : Option Req) (a : State) (e : a = if c then s.rebootClock q else s) :
    a.now = s.now ∧ a.windows = s.windows ∧ a.mbx = s.mbx ∧ a.cw = s.cw ∧ a.host = s.host := by
  subst e
  split
  · exact s.rebootClock_fields q
  · exact ⟨rfl, rfl, rfl, rfl, rfl⟩

/-- The final response of a command of this device: the payload into the window, the mailbox, and no more than events. -/
theorem State.complete_tells (s : State) (m : Nat) (r : Reply) (h : s.cw.peerIn.contains m = false) :
    Tells (s.answered m r) (s.complete m r) := by
  unfold State.complete
  extract_lets b s0 funcs s1 s2 s3 s4
  split
  · rename_i k
    rw [(s.clocked_fields b.committed b.req s0 rfl).2.2.2.1, h] at k
    cases k
  · have k : Tells s3 s4 := by
      unfold s4
      split
      · exact Tells.refl _
      · exact (State.draw_tells s3).trans (State.raise_tells _ _ _ _ _)
    have g : Tells s4 (if b.deferred && r.status == stOk then
        (s4.draw.2).raise 17 m (match funcs.flatMap Func.owners with
          | u :: _ => u.code
          | [] => noUnit) s4.draw.1
      else s4) := by
      split
      · exact (State.draw_tells s4).trans (State.raise_tells _ _ _ _ _)
      · exact Tells.refl _
    exact k.trans g

/-- The mailbox after the final response (R86 step 6). -/
theorem State.complete_mb (s : State) (m : Nat) (r : Reply) (h : s.cw.peerIn.contains m = false) :
    (s.complete m r).mb m = (s.mb m).ended r s.now := by
  have k := (State.complete_tells s m r h).mbx
  unfold State.mb at k ⊢
  rw [k]
  unfold State.answered
  extract_lets a
  have g := s.clocked_fields (s.mb m).committed (s.mb m).req a rfl
  rw [← g.1]
  exact Tab.get_modify_same _ _ _ _

/-- The window after the final response (R86 step 6). -/
theorem State.complete_windows (s : State) (m : Nat) (r : Reply) (h : s.cw.peerIn.contains m = false) :
    (s.complete m r).windows = cellsWrite (4096 * m) r.payload s.windows := by
  rw [(State.complete_tells s m r h).windows]
  unfold State.answered
  extract_lets a
  rw [← (s.clocked_fields (s.mb m).committed (s.mb m).req a rfl).2.1]
  rfl

end Sys2Proof.Machine
end

