-- ==== Sys2Proof/Tests/Slice0.lean ====
section
/-! SUPPORT. The model's own tests: ill-formed commands, a state for the hypotheses of every statement, and small
checks of single commands against values that the spec or a published standard gives. -/

set_option Elab.async false

namespace Sys2Proof.Tests

open Sys2Proof Sys2Proof.Machine

set_option maxRecDepth 20000

/-! States. -/

/-- Reset, then firmware in service. -/
def up : State := State.reset.modBoot fun b => { b with fwRunning := true, state := 1, phase := .done }

/-- A payload of `n` bytes, zero but for the bytes listed by offset. -/
def bytesAt (n : Nat) (l : List (Nat × Nat)) : List Byte :=
  (List.range n).map fun i => BitVec.ofNat 8 (((l.find? fun x => x.1 == i).map fun x => x.2).getD 0)

/-- The request of a code. -/
def reqOf (code : Nat) (p : List Byte) : Req := { tag := 0, code := code, len := p.length, flags := 0, payload := p }

/-- Mailbox 0 executes a request. -/
def asks (s : State) (code : Nat) (p : List Byte) : State :=
  s.modMb 0 fun b => { b with mstate := 1, req := some (reqOf code p) }

/-! Ill-formed commands are refused (`WellFormed`). -/

theorem test_wf_register_write : (Instr.registerWrite 0 1 0 [0] 1).wf = false ∧
    (Instr.registerWrite 0 0 0xFFFF [0, 0] 3).wf = false ∧ (Instr.registerWrite 0 0 0 [0] 16).wf = false ∧
    (Instr.registerWrite 0 0 0xFFFC [0, 0, 0, 0] 15).wf = true := by decide

theorem test_wf_bus_frame : ({ kind := 3, id := 0, data := [] } : BusFrame).wf = false ∧
    ({ kind := 0, id := 0x800, data := [] } : BusFrame).wf = false ∧
    ({ kind := 0, id := 0, data := List.replicate 9 0 } : BusFrame).wf = false ∧
    ({ kind := 1, id := 0, data := [], remote := true } : BusFrame).wf = false ∧
    ({ kind := 0, id := 0x7FF, data := List.replicate 8 0 } : BusFrame).wf = true := by decide

theorem test_wf_parity : (Instr.ingressFrameStart 0 0 [] ⟨.queued, [(10, 0)]⟩).wf = false ∧
    (Instr.causewayFrameReceive 0 0 [] ⟨.queued, [(10, 0)]⟩).wf = false ∧
    (Instr.busFrameEvaluation 0 0 { kind := 0, id := 0, data := [] } false [(10, 0)]).wf = false ∧
    (Instr.ingressFrameStart 0 0 [] ⟨.stray, [(9, 5)]⟩).wf = true := by decide

theorem test_wf_commits : (Instr.ruleCommit 0 0 ⟨[129], .ready⟩).wf = false ∧ (Instr.sigMapCommit 0 0 ⟨[128], .ready⟩).wf = false ∧
    (Instr.ruleCommit 0 0 ⟨[], .refused 0 0⟩).wf = false ∧ (Instr.sigMapCommit 0 0 ⟨[], .faulted 3 2 0⟩).wf = false ∧
    (Instr.ruleCommit 0 0 ⟨[128, 130], .refused 8 0⟩).wf = true := by decide

theorem test_wf_descriptors : (Instr.dmaRxTransfer 0 0 (List.replicate 17 0) false).wf = false ∧
    (Instr.dmaTxFrame 0 0 (List.replicate 15 0) [] ⟨false, []⟩).wf = false ∧
    (Instr.pcieCompletionTimeout 0 0 ⟨true, [0]⟩).wf = false ∧ (Instr.dmaTxFrame 0 0 [] [] ⟨false, [(10, 0)]⟩).wf = false ∧
    (Instr.dmaRxTransfer 0 0 (List.replicate 32 0) false).wf = true := by decide

theorem test_wf_numbers : (Instr.busError 0 0 .bit true true .arbStuff).wf = false ∧
    (Instr.busError 0 0 .form false true .flagBit).wf = false ∧ (Instr.busError 0 0 .stuff true true .arbStuff).wf = true ∧
    (Instr.speedChanged 0 0 11 false).wf = false ∧ (Instr.pauseReceived 0 0 ⟨List.replicate 6 0, 65536⟩).wf = false ∧
    (Instr.pauseReceived 0 0 ⟨[], 0⟩).wf = false ∧ (Instr.freshnessExpiry 0 131072).wf = false ∧
    (Instr.supplyWarning 0 13).wf = false ∧ (Instr.supplyWarning 0 12).wf = true ∧ (Instr.resetN 0 true 16).wf = false ∧
    (Instr.pufRegeneration 0 ⟨true, 4⟩).wf = false ∧
    (Instr.pcieLinkStateChange 0 3 1 true).wf = false ∧ (Instr.pcieLinkStateChange 0 2 4 true).wf = false := by decide

theorem test_wf_units : (Instr.unitRestartDone 0 3 2).wf = false ∧ (Instr.unitRestartEscalation 0 6 7).wf = false ∧
    (Instr.unitRestartDone 0 0 41).wf = true := by decide

theorem test_wf_devices : ∀ d ∈ [0, 255], ∀ c ∈ [Instr.activationReportReceived 0 d [], .remoteRequestReceived 0 d [],
    .remoteCompletionReceived 0 d [], .lockRequestReceived 0 d [], .lockGrantReceived 0 d [],
    .writeAndUnlockReceived 0 d [], .lockRetryReceived 0 d [], .cwEventReceived 0 d [], .deviceLapReceived 0 d [],
    .sleepCancelReceived 0 d []], c.wf = false := by decide

theorem test_wf_device_limit : (Instr.cwEventReceived 0 254 []).wf = true := by decide

theorem test_wf_wake : (Instr.wakeSource 0 [.busFrame 0 { kind := 0, id := 0, data := [] } 16]).wf = false ∧
    (Instr.wakeRequest 0 (.busFrame 0 { kind := 0, id := 0x800, data := [] } 0)).wf = false ∧
    (Instr.wakeSource 0 [.busFrame 0 { kind := 0, id := 0, data := [] } 15]).wf = true := by decide

/-! Mailbox commands: for every row, a request that meets the hypotheses of its statement (O18 to O24). -/

/-- A device that every command can act on: link and bus mastering for the rings, a configured bus and port, a
signal map with a host slot and a request trigger, a key, a neighbour of device number 2, a twin with a fit partner. -/
def served : State := { up with
  host := { pcieUp := true, busMaster := true }
  buses := ⟨[(0, { cfg := some {} })]⟩
  eth := ⟨[(0, { cfg := { mode := 1, causeway := true }, linkUp := true, cw := { nbUp := true, nbId := 2 } })]⟩
  sig := { cur := { slots := ⟨[(0, { hostWr := true })]⟩, triggers := ⟨[(0, { request := true })]⟩ } }
  sec := { enrolled := true, slots := ⟨[(16, { valid := true, key := List.replicate 16 0, purpose := 1, depth := 1 })]⟩ }
  cw := { id := 1, peers := ⟨[(2, {})]⟩ }
  twin := { role := .active, fit := true, report := some {}, linkUp := true }
  boot := { fwRunning := true, state := 1, phase := .done, lpddr := true } }

/-- A cascade master while a package is open, verified or on trial. -/
def updating (img stg : Nat) : State := up.modBoot fun b => { b with
  d := { imgState := img, stgState := stg }, pkgLen := 4096, staging := ⟨[(0, bytesAt 64 [(13, 1), (14, 1)])]⟩ }

/-- The state in which the request of a code is made. -/
def baseOf (code : Nat) : State :=
  if code = 0x0B05 ∨ code = 0x0D01 ∨ code = 0x0201 ∨ code = 0x0301 ∨ code = 0x0E01 then up
  else if code = 0x1002 then updating 0 1
  else if code = 0x1004 then updating 0 2
  else if code = 0x1005 ∨ code = 0x1006 then updating 3 2
  else served

/-- A payload that the checks of a code accept there. -/
def goodOf (code : Nat) : List Byte :=
  match code with
  | 0x0103 => bytesAt 32 []
  | 0x0104 => bytesAt 12 []
  | 0x0105 => bytesAt 12 []
  | 0x0106 => bytesAt 2 []
  | 0x0201 => bytesAt 184 [(1, 1), (10, 0xEE), (11, 5)]
  | 0x0202 => bytesAt 1 []
  | 0x0203 => bytesAt 1 []
  | 0x0204 => bytesAt 1 []
  | 0x0205 => bytesAt 8 [(2, 16), (4, 8), (6, 1)]
  | 0x0206 => bytesAt 148 [(4, 1)]
  | 0x0207 => bytesAt 8 [(2, 10), (4, 1), (6, 8)]
  | 0x0301 => bytesAt 32 [(4, 2), (6, 63), (8, 16), (9, 16), (24, 16)]
  | 0x0302 => bytesAt 1 []
  | 0x0303 => bytesAt 1 []
  | 0x0304 => bytesAt 4 []
  | 0x0305 => bytesAt 1 []
  | 0x0306 => bytesAt 2 []
  | 0x0307 => bytesAt 1 []
  | 0x0401 => bytesAt 9 [(4, 1)]
  | 0x0402 => bytesAt 1 [(0, 1)]
  | 0x0403 => bytesAt 4 []
  | 0x0406 => bytesAt 20 [(12, 64), (16, 64)]
  | 0x0501 => bytesAt 36 [(0, 1), (4, 1), (26, 1)]
  | 0x0502 => bytesAt 36 [(0, 1), (4, 1)]
  | 0x0503 => bytesAt 8 []
  | 0x0504 => bytesAt 4 []
  | 0x0505 => bytesAt 4 [(0, 4)]
  | 0x0506 => bytesAt 8 []
  | 0x0601 => bytesAt 68 [(0, 255), (6, 1), (8, 1), (9, 1), (10, 1), (11, 1)]
  | 0x0602 => (List.range 8).flatMap fun _ => [100, 0, 0, 0]
  | 0x0603 => bytesAt 12 []
  | 0x0604 => bytesAt 24 [(12, 64)]
  | 0x0605 => bytesAt 1 []
  | 0x0701 => bytesAt 9 [(4, 1)]
  | 0x0703 => bytesAt 6 [(4, 1)]
  | 0x0704 => bytesAt 24 [(0, 1)]
  | 0x0705 => bytesAt 6 [(0, 1)]
  | 0x0801 => bytesAt 20 [(2, 1), (9, 2), (10, 2)]
  | 0x0802 => bytesAt 16 [(3, 1), (4, 10), (6, 1), (8, 0xE8), (9, 3)]
  | 0x0803 => bytesAt 32 []
  | 0x0804 => bytesAt 1 []
  | 0x0805 => bytesAt 2 [(1, 1)]
  | 0x0901 => bytesAt 24 [(3, 8), (8, 30)]
  | 0x0902 => bytesAt 24 [(0, 64), (2, 1), (3, 1)]
  | 0x0903 => bytesAt 4 []
  | 0x0904 => bytesAt 40 [(2, 6), (3, 5), (4, 5)]
  | 0x0905 => bytesAt 24 []
  | 0x0906 => bytesAt 1 []
  | 0x0907 => bytesAt 13 [(8, 1)]
  | 0x0A01 => bytesAt 12 [(0, 1)]
  | 0x0A02 => bytesAt 1 [(0, 1)]
  | 0x0A03 => bytesAt 24 [(2, 16), (4, 1), (6, 1), (16, 10)]
  | 0x0A04 => bytesAt 1 []
  | 0x0A05 => bytesAt 1 []
  | 0x0B01 => bytesAt 144 [(2, 2), (4, 1), (5, 16)]
  | 0x0B02 => bytesAt 4 [(0, 1), (1, 16)]
  | 0x0B03 => bytesAt 8 [(0, 1), (1, 16)]
  | 0x0B04 => bytesAt 4 []
  | 0x0B05 => bytesAt 4 [(0, 0x45), (1, 0x4E)]
  | 0x0B06 => bytesAt 8 []
  | 0x0C01 => bytesAt 12 [(2, 1), (4, 0xFF)]
  | 0x0C02 => bytesAt 4 []
  | 0x0C03 => bytesAt 4 [(2, 1)]
  | 0x0C04 => bytesAt 8 []
  | 0x0D01 => bytesAt 16 [(3, 0x24), (4, 0xF4), (5, 1), (8, 200), (10, 1), (12, 1)]
  | 0x0E01 => bytesAt 64 [(1, 1), (5, 6), (6, 1)]
  | 0x0E02 => bytesAt 2 []
  | 0x0E04 => bytesAt 16 [(0, 2), (2, 1)]
  | 0x0E05 => bytesAt 20 [(0, 2), (2, 1)]
  | 0x0E06 => bytesAt 56 [(0, 2), (2, 1)]
  | 0x0F01 => bytesAt 4 []
  | 0x0F02 => bytesAt 16 [(0, 0xFF), (2, 1), (4, 5), (6, 1)]
  | 0x0F03 => bytesAt 1 []
  | 0x1001 => bytesAt 10 [(0, 1)]
  | 0x1002 => bytesAt 9 [(4, 1)]
  | 0x1004 => bytesAt 8 [(4, 10)]
  | 0x1006 => bytesAt 1 []
  | _ => []

/-- The mailbox executes the good request of a code. -/
def goodAsk (code : Nat) : State := asks (baseOf code) code (goodOf code)

/-- The mailbox executes a request of 101 bytes, a length that no layout of a listed code has there. -/
def badAsk (code : Nat) : State := asks (baseOf code) code (bytesAt 101 [])

/-- Both requests of a code are ready, one is accepted and one refused. -/
def Meets (code : Nat) (check : State → List Byte → Check) : Prop :=
  (Ready (goodAsk code) 0 0 code (reqOf code (goodOf code)) ∧ check ((goodAsk code).tick 0) (goodOf code) = none) ∧
    (Ready (badAsk code) 0 0 code (reqOf code (bytesAt 101 [])) ∧
      (check ((badAsk code).tick 0) (bytesAt 101 [])).isSome = true) ∧ (badAsk code).cw.peerIn.contains 0 = false

theorem witness_port_commands : ∀ f ∈ portForms, Meets f.code f.check := by unfold Meets Ready; decide
theorem witness_forward_commands : ∀ f ∈ forwardForms, Meets f.code f.check := by unfold Meets Ready; decide
theorem witness_media_commands : ∀ f ∈ mediaForms, Meets f.code f.check := by unfold Meets Ready; decide
theorem witness_host_commands : ∀ f ∈ hostForms, Meets f.code f.check := by unfold Meets Ready; decide
theorem witness_system_commands : ∀ f ∈ systemForms, Meets f.code f.check := by unfold Meets Ready; decide
theorem witness_query_commands : ∀ f ∈ queryForms, Meets f.code f.check := by unfold Meets Ready; decide
theorem witness_start_commands : ∀ f ∈ startForms, Meets f.code f.check := by unfold Meets Ready; decide

theorem witness_instant_commands : ∀ f ∈ instantForms, (let s := f.before (goodAsk f.code) 0;
      Ready s 0 0 f.code (reqOf f.code (goodOf f.code)) ∧ f.check (s.tick 0) (goodOf f.code) = none ∧
        (s.tick 0).cw.peerIn.contains 0 = false) ∧
    (let s := f.before (badAsk f.code) 0;
      Ready s 0 0 f.code (reqOf f.code (bytesAt 101 [])) ∧ (f.check (s.tick 0) (bytesAt 101 [])).isSome = true ∧
        (s.tick 0).cw.peerIn.contains 0 = false) := by unfold Ready; decide

/-! The whole machine and the host's registers (O3 to O17). -/

/-- A command waits that is well-formed. -/
def oneWaits : State := { up with pending := [.referenceLost 5] }

theorem witness_step_keeps : oneWaits.inv = true ∧ ∃ u : State, step oneWaits = .next u := ⟨by decide, _, rfl⟩

theorem witness_step_takes : up.pending = [] ∧ (∃ u : State, step up = .next u) ∧
    oneWaits.pending = .referenceLost 5 :: [] ∧ ∃ u : State, step oneWaits = .next u :=
  ⟨rfl, ⟨_, rfl⟩, rfl, _, rfl⟩

theorem witness_frame : (∃ u : State, exec (.mbxRing 0 0 1) up = .next u) ∧ Area.boot ∉ moves (.mbxRing 0 0 1) :=
  ⟨⟨_, rfl⟩, by decide⟩

theorem witness_well_formed : (Instr.registerWrite 0 2 0x7FFFFF [0] 1).wf = true := by decide

theorem witness_stop : ¬((0 : Nat) + ([0] : List Byte).length ≤ barSize 1 ∧ 0 < barSize 1) := by decide

/-- A device whose reset pin is low. -/
def unreached : State := up.modPins fun p => { p with resetLow := true }

theorem witness_bar0 : (up.tick 0).hostReach = true ∧ (0xFFFE : Nat) + ([0, 0] : List Byte).length ≤ 0x10000 ∧
    ¬(([0, 0] : List Byte).length = 4 ∧ 0xFFFE % 4 = 0 ∧ 3 % 16 = 15) := by decide

theorem witness_bar0_reserved : ∀ off ∈ [0x1C, 0x24, 0xFC, 0x200, 0x3FC, 0x420, 0xFFC, 0x5C00, 0x5FFC, 0x6200, 0xFFFC],
    off % 4 = 0 ∧ (off < 0x20 ∨ (0x20 < off ∧ off < 0x100) ∨ (0x200 ≤ off ∧ off < 0x400) ∨ (0x420 ≤ off ∧ off < 0x1000) ∨
      (0x5C00 ≤ off ∧ off < 0x6000) ∨ (0x6200 ≤ off ∧ off < 0x10000)) := by decide

/-- Mailbox 7 is pending. -/
def pended : State := up.modMb 7 fun b => { b with ringing := true }

theorem witness_window : Memory.wf pended.windows = true ∧ (pended.tick 0).hostReach = true ∧
    (pended.mb (0 / 4096)).takesWrites = true ∧ (pended.mb (0x7FFF / 4096)).takesWrites = false := by decide

theorem witness_unreached : (unreached.tick 0).hostReach = false ∧ 0 < barSize 0xFF ∧
    0xFFF + ([0] : List Byte).length ≤ barSize 0xFF := by decide

theorem witness_events : (up.tick 0).hostReach = true ∧ up.host.perst = false ∧ ([0, 0, 0, 0] : List Byte).length = 4 ∧
    up.host.evtLogFull = false := by decide

theorem witness_endpoint : (up.tick 0).hostReach = true ∧ up.host.perst = false ∧ 1 ≤ 2 ∧ 2 ≤ 2 ∧ 1 ≤ 3 ∧ 3 ≤ 3 := by decide

theorem witness_spi : (up.tick 0).hostReach = true ∧ (∀ o ∈ ([[0x3F], [0xC1]] : List (List Byte)), le o 0 1 < 0x40 ∨ 0xC0 < le o 0 1) ∧
    (∀ o ∈ ([[0x40], [0x7F]] : List (List Byte)), 0x40 ≤ le o 0 1 ∧ le o 0 1 ≤ 0x7F) ∧
    ∀ o ∈ ([[0x80], [0xBF]] : List (List Byte)), 0x80 ≤ le o 0 1 ∧ le o 0 1 ≤ 0xBF := by decide

/-! The mailbox protocol (O23 to O30). -/

/-- A commit that a mailbox executes: something staged or not, the older versions live or gone, spanning a twin standby or
no other device, with the flags of the request. -/
def committing (staged live spans : Bool) (flags code : Nat) (p : List Byte) : State :=
  { up with
    parse := { staged := if staged then some [] else none, commitAt := if live then some 0 else none }
    sig := { staged := if staged then some {} else none, old := if live then some {} else none, wait := [{}] }
    twin := if spans then { role := .active, linkUp := true, partner := some .standby, mirror := 0xFF } else {} }.modMb 0
      fun b => { b with mstate := 1, req := some { reqOf code p with flags := flags } }

theorem witness_rule_commit : (∀ staged live spans : Bool, (let s := committing staged live spans 2 0x0404 [];
      Ready s 0 0 0x0404 { reqOf 0x0404 [] with flags := 2 } ∧ checkRuleCommit (s.tick 0) 0 [] = none ∧
      (s.tick 0).ruleStaged = staged ∧ (s.tick 0).oldLive = live ∧
      ∀ p ∈ [Partner.ready, .silent, .refused 8 0, .faulted 2 0 0],
        (s.tick 0).partnerOf 1 p = if spans then p else .ready)) ∧ bit 2 1 = true ∧ bit 0 1 = false ∧
    [128, 134].filter [128, 130].contains ≠ [] ∧ [134].filter [128, 130].contains = [] ∧
    (let s := committing true false false 0 0x0404 [0];
      Ready s 0 0 0x0404 (reqOf 0x0404 [0]) ∧ (checkRuleCommit (s.tick 0) 0 [0]).isSome = true) := by unfold Ready; decide

theorem witness_map_commit : (∀ staged live spans : Bool, (let s := committing staged live spans 2 0x0702 [];
      Ready s 0 0 0x0702 { reqOf 0x0702 [] with flags := 2 } ∧ checkSigMapCommit (s.tick 0) 0 [] = none ∧
      (s.tick 0).sig.hasStaged = staged ∧ (s.tick 0).sig.old = (if live then some {} else none) ∧
      (s.tick 0).mapMayExpire {} = false ∧ ∀ p ∈ [Partner.ready, .silent, .refused 8 0, .faulted 3 0 0],
        (s.tick 0).partnerOf 2 p = if spans then p else .ready)) ∧
    [192, 128].filter [134, 192].contains ≠ [] ∧ [128].filter [134, 192].contains = [] ∧
    (let s := committing true false false 0 0x0702 [0];
      Ready s 0 0 0x0702 (reqOf 0x0702 [0]) ∧ (checkSigMapCommit (s.tick 0) 0 [0]).isSome = true) := by unfold Ready; decide

/-- Mailbox 0 executes a request in a device state. -/
def asksIn (state code : Nat) : State := (asks up code []).modBoot fun b => { b with state := state }

theorem witness_function_check : (let a := (asksIn 2 0x0D05).tick 0;
    (a.mb 0).req = some (reqOf 0x0D05 []) ∧ (a.mb 0).mstate = 1 ∧ (a.mb 0).running = false ∧ a.fwUp = true ∧
      a.functionCheck (reqOf 0x0D05 []) = some .denied ∧ a.cw.peerIn.contains 0 = false) ∧
    ((up.tick 0).mb 0).req = none ∧ (∀ f ∈ instantForms, (((f.before up 0).tick 0).mb 0).req = none) ∧ (asksIn 4 0x0101).boot.state = 4 ∧ (asksIn 0 0x0D05).boot.state = 0 ∧
    0x0D05 / 256 ≠ 1 ∧ 0x0101 / 256 = 1 := by decide

theorem witness_doorbell : (up.tick 0).hostReach = true ∧ (1 : Word).getLsbD 0 = true ∧ (2 : Word).getLsbD 0 = false ∧
    ((up.tick 0).mb 0).ringing = false ∧ ((up.tick 0).mb 0).mstate = 0 ∧ (up.tick 0).islandUp 5 = true ∧
    (up.tick 0).boot.state ≠ 4 ∧ ((pended.tick 0).mb 7).ringing = true ∧
    ((up.modIsl 5 fun x => { x with power := .off }).tick 0).islandUp 5 = false := by decide

theorem witness_acceptance : (∀ fw : Bool, let a := (pended.modBoot fun b => { b with fwRunning := fw }).tick 0;
    a.hostReach = true ∧ a.islandUp 5 = true ∧ (a.mb 7).ringing = true ∧ a.forwardsMbx 7 = false ∧ a.fwUp = fw) := by decide

/-- An envelope of a code without a payload, with its `CRC`. -/
def envelopeOf (code : Nat) : List Byte :=
  let b := fitBytes 12 ([0] ++ leBytes 2 code)
  b ++ leBytes 4 (crc32 b)

theorem witness_unlisted : (∀ code ∈ [0x0000, 0x0100, 0x0108, 0x1008, 0xFFFF], cmdRow (le (envelopeOf code) 1 2) = none ∧
      le (envelopeOf code) 3 2 ≤ 4096 ∧ le (envelopeOf code) 12 4 = crc32 (fitBytes 12 (envelopeOf code) ++ [])) ∧
    (let s := (asks up 0x0108 []).modMb 0 fun b => { b with cmd := envelopeOf 0x0108 };
      (s.mb 0).req = some (reqOf 0x0108 []) ∧ (s.mb 0).mstate = 1 ∧ (s.mb 0).running = false ∧
      s.cw.peerIn.contains 0 = false ∧ cmdRow (le (s.mb 0).cmd 1 2) = none) := by decide

theorem witness_completion : up.cw.peerIn.contains 0 = false ∧ (up.mb 0).quiet = false ∧ (up.tick 0).hostReach = true := by decide

/-- Mailbox 0 holds `dev.identify` in a mailbox state, accepted and started at 0. -/
def standsAt (mstate : Nat) : State := (asks up 0x0101 []).modMb 0 fun b => { b with mstate := mstate }

theorem witness_start : (let a := (standsAt 5).tick 0;
    (a.mb 0).req = some (reqOf 0x0101 []) ∧ (a.mb 0).waits = true ∧ a.ahead 0 (reqOf 0x0101 []) = [] ∧ a.fwUp = true ∧
      isDisable (reqOf 0x0101 []).code = false) ∧
    (((standsAt 5).modMb 0 fun b => { b with acceptedAt := 1, order := 1 }).modMb 1 fun b => { b with
      mstate := 1, req := some (reqOf 0x0101 []) }).ahead 0 (reqOf 0x0101 []) ≠ [] := by decide

theorem witness_longest : (let a := (standsAt 1).tick ((standsAt 1).longestNs 0 (reqOf 0x0101 []));
    (a.mb 0).mstate = 1 ∧ (a.mb 0).startedAt + a.longestNs 0 (reqOf 0x0101 []) ≤ a.now ∧ a.fwUp = true ∧
      (a.mb 0).running = false ∧ (a.mb 0).committed = false ∧ a.cw.fwdMbx = [] ∧ a.cw.peerIn.contains 0 = false ∧
      a.remoteRun 0 = none) ∧
    ((standsAt 1).tick 0).now < ((standsAt 1).mb 0).startedAt + (standsAt 1).longestNs 0 (reqOf 0x0101 []) := by decide

theorem witness_firmware_wait : (let a := ((standsAt 1).modBoot fun b => { b with fwRunning := false, state := 0 }).tick 2000000000;
    (a.mb 0).mstate = 1 ∧ a.boot.fwRunning = false ∧ a.boot.state = 0 ∧ (a.mb 0).acceptedAt + 2000000000 ≤ a.now) ∧
    ((standsAt 1).tick 1999999999).now < ((standsAt 1).mb 0).acceptedAt + 2000000000 := by decide

theorem witness_abort : ((up.tick 0).mb 0).outstanding = false ∧ (((standsAt 5).tick 0).mb 0).mstate = 5 ∧
    (((standsAt 1).tick 0).mb 0).mstate = 1 ∧ (standsAt 1).cw.fwdMbx.contains 0 = false ∧
    ((standsAt 1).tick 0).hostReach = true ∧ ((standsAt 1).tick 0).fwUp = true ∧
    (let s := (standsAt 3).modMb 0 fun b => { b with abortAt := some 0 };
      (s.mb 0).abortAt = some 0 ∧ (s.mb 0).mstate = 3 ∧ 0 + 1500000 ≤ (s.tick 1500000).now ∧
        (s.tick 1499999).now < 0 + 1500000) := by decide

/-! Tide queues, rings, engines, keys (O31 to O35). -/

/-- Tide queue 1 holds two packets of four words each, one read; ring 0 is bound to queue 2. -/
def queued (marked : Bool) : State := { up with tide := {
  qs := ⟨[(1, {
    wr := 8, cur := 4, markSet := marked, packets := [{ pos := 0, bytes := [] }, { pos := 4, bytes := [] }]
    opened := [{ key := 9 }] })]⟩
  rings := ⟨[(0, { queue := 2, rstate := 1 })]⟩ } }

theorem witness_queue : ∀ marked : Bool, (let a := (queued marked).tick 0
    let x := a.tq 1;
    a.hostReach = true ∧ a.tideUp = true ∧ a.dmaOwned 1 = false ∧ a.dmaOwned 2 = true ∧ x.markSet = marked ∧
      posWithin x.rd 8 x.wr = true ∧ posWithin x.rd 9 x.wr = false ∧ posWithin x.rd 4 x.cur = true ∧
      posWithin x.rd 5 x.cur = false ∧ ¬(x.lostAt = some a.now ∧ posWithin x.lostFrom 4 x.rd = true) ∧
      (∃ p ∈ x.packets, p.pos = 4) ∧ posWithin x.rd 3 x.cur = true ∧ (3 ≠ x.wr ∧ ∀ p ∈ x.packets, p.pos ≠ 3) ∧
      posWithin x.rd 8 x.cur = false ∧ x.wroteAt ≠ some (queued marked).now) := by decide

theorem witness_packet : ∃ o ∈ ((queued true).tq 1).opened, o.key = 9 := by decide

/-- Rings of 16 descriptors: ring 0 with an unannounced packet and one to take, ring 32 with one to send; source 14 is
of severity 1. -/
def ringed (rstate : Nat) : State := ({ up with
  host := { pcieUp := true, busMaster := true }
  tide := {
    qs := ⟨[(1, { wr := 4, packets := [{ pos := 0, bytes := [7] }] })]⟩
    rings := ⟨[(0, {
      size := 16, tail := 1, queue := 1, rstate := rstate, unannounced := 1, evtUs := 1, starveUs := 10
      xferPos := if rstate = 2 then some 0 else none, paused := if rstate = 2 then some 0 else none }),
      (32, { size := 16, tail := 1, rstate := rstate })]⟩ } } : State).modSrc 14 fun x => { x with sevSet := some 1 }

/-- A receive descriptor of 64 bytes, and a transmit descriptor that is the whole of its frame. -/
def rxDesc : List Byte := bytesAt 16 [(8, 64)]
/-- See `rxDesc`. -/
def txDesc : List Byte := bytesAt 16 [(8, 60), (10, 3)]

theorem witness_rings : (let a := (ringed 1).tick 1000;
    a.hostReach = true ∧ a.unitUp ⟨5, 6⟩ = true ∧ (a.ring 0).size ≤ 16 % 65536 ∧ 15 % 65536 < (a.ring 0).size ∧
      (a.ring 0).rstate ≠ 2 ∧ (a.ring 0).unannounced ≠ 0 ∧ (a.ring 0).evtUs ≠ 0 ∧
      (a.ring 0).firstAt + (a.ring 0).evtUs * 1000 ≤ a.now ∧ a.dmaUp = true ∧ (a.ring 0).rstate = 1 ∧
      (a.ring 32).rstate = 1 ∧ (a.ring 32).owned ≠ 0 ∧ a.tideUp = true ∧ a.sevOf 14 ≤ 1 ∧ a.tbl.told = []) ∧
    (let a := (ringed 2).tick 10000;
      (a.ring 0).rstate = 2 ∧ (a.ring 0).xferUsed < (1 % 65536 + (a.ring 0).size - (a.ring 0).head) % (a.ring 0).size ∧
        (a.ring 0).paused = some 0 ∧ ((a.tq (a.ring 0).queue).packets.find? fun p => some p.pos == (a.ring 0).xferPos).isSome = true ∧
        0 + (a.ring 0).starveUs * 1000 ≤ a.now) ∧
    (let a := ((ringed 1).modTq 1 fun x => { x with cur := 4 }).tick 0;
      ∀ p ∈ (a.tq (a.ring 0).queue).packets, p.pos ≠ (a.tq (a.ring 0).queue).cur) := by decide

theorem witness_transfers : (let a := (ringed 1).tick 0;
    ((a.tq (a.ring 0).queue).packets.find? fun p => p.pos == (a.tq (a.ring 0).queue).cur) = some { pos := 0, bytes := [7] } ∧
      (a.ring 0).owned ≠ 0 ∧ (a.ring 0).xferUsed = 0 ∧ (a.ring 0).xferBytes = 0) ∧
    rxDesc.length = 16 ∧ rxDescOk rxDesc = true ∧ [7].length ≤ le rxDesc 8 2 ∧
    txDesc.length = 16 ∧ txDescOk txDesc true = true ∧ bit (le txDesc 10 1) 1 = true := by decide

/-- Engine 0 in a state of its job, held by the host or free. -/
def engineAt (lock jstate : Nat) (inputs : Bool) : State := up.modEngine 0 fun x => { x with
  lock := lock, jstate := jstate, jobAad := if inputs then 0 else 8, keyRegs := ⟨[(0, 0), (1, 0), (2, 0), (3, 0)]⟩ }

theorem witness_engine : (let a := (engineAt 0 0 true).tick 0;
    a.unitUp ⟨4, 0⟩ = true ∧ a.hostReach = true ∧ (a.engine 0).lock = 0 ∧ a.engineNext 0 = none ∧
      (a.engine 0).hostHeld = false) ∧
    (let a := (engineAt 0x7F 0 true).tick 10000000;
      (a.engine 0).hostHeld = true ∧ (a.engine 0).jstate ≠ 1 ∧ (a.engine 0).outRel ≤ 0 ∧ 0 ≤ (a.engine 0).outAvail ∧
        inRange (a.engine 0).tagLen 4 16 = true ∧ (a.engine 0).decrypt = false ∧ (a.engine 0).keySrc = false ∧
        ((List.range (if (a.engine 0).key256 then 8 else 4)).all fun i => ((a.engine 0).keyRegs.find i).isSome) = true ∧
        (a.engine 0).lastUse + (a.engine 0).idleMs * 1000000 ≤ a.now) ∧
    (let a := (engineAt 1 1 false).tick 0;
      (a.engine 0).jstate = 1 ∧ (a.engine 0).inputDone = false ∧ (a.engine 0).inFree = 4096 ∧
        (a.engine 0).aadIn.length < (a.engine 0).aadPadded) ∧
    (let a := (engineAt 1 1 true).tick 0;
      (a.engine 0).inputDone = true ∧ (a.engine 0).jobDecrypt = false) := by decide

theorem witness_engine_waits : (let a := ((engineAt 0 0 true).modSec fun z => { z with engWait := [(0x80, 0xFF, 3)] }).tick 0;
    a.engineNext 0 = some (0x80, 0xFF, 3) ∧ 0x80 < 0x90 ∧ 3 < 256) := by decide

theorem witness_revocation : (let s := served.modSec fun x => { x with
      slots := ⟨[(16, { valid := true }), (17, { valid := true, parent := 16 }), (18, { valid := true, parent := 3 })]⟩ };
    17 ∈ 16 :: s.keyDescendants 16 ∧ 18 ∉ 16 :: s.keyDescendants 16) := by decide

theorem witness_class_limits : checkSwClassConfig up (goodOf 0x0602) = none ∧ (goodOf 0x0602).length = 32 ∧
    ∀ c < 8, 100 ≤ le (goodOf 0x0602) (4 * c) 4 ∧ le (goodOf 0x0602) (4 * c) 4 ≤ 10000000 := by decide

/-! The forwarding path (O36 to O38). -/

/-- An address and the place of its entry in the L2 table. -/
def aMac : List Byte := [2, 0, 0, 0, 0, 1]

/-- Port 3 knows that address in VLAN 1, and a learn event of it waits. -/
def learned (mirrored : Bool) : State := { up with tbl := {
  l2 := ⟨[((l2Ways 1 aMac).headD 0, { mac := aMac, vid := 1, port := 3, window := true, timer := 1000 })]⟩
  learnQ := [{ port := 3, vid := 1, mac := aMac, mirrored := mirrored }], ageS := 10, bad := [(5, 7)] } }

theorem witness_l2 : ∀ m : Bool, (let a := (learned m).tick 10000000000
    let i := (l2Ways 1 aMac).headD 0;
    a.l2Find 1 aMac = some i ∧ (a.l2e i).port = 3 ∧
      (a.tbl.learnQ.find? fun e => !a.bucketBad e.vid e.mac) = some { port := 3, vid := 1, mac := aMac, mirrored := m } ∧
      (a.l2e i).window = true ∧ (a.l2e i).timer ≤ a.rtcMs ∧ a.tbl.ageS ≠ 0 ∧
      a.tbl.ageAt + a.tbl.ageS * 1000000000 ≤ a.now ∧ a.tbl.bad.contains (5, 7) = true ∧ a.tbl.bad.contains (5, 6) = false ∧
      ((learned m).tick 0).rtcMs < (a.l2e i).timer ∧ a.standbyMirrors 0 = false) := by decide

theorem witness_l2_idle : (up.modTwin fun w => { w with role := .standby, mirror := 1 }).standbyMirrors 0 = true ∧
    up.tbl.learnQ = [] ∧ (up.modTbl fun x => { x with ageS := 0 }).tbl.ageS = 0 ∧
    up.parse.graphFault = false ∧ (up.modParse fun p => { p with graphFault := true }).parse.graphFault = true := by decide

/-- Frame 1 with a verdict and an intent to drop. -/
def framed (verdict dropRx : Nat) (fixed : Bool) : State := { up with sw := {
  frames := ⟨[(1, { verdict := verdict, dropRx := dropRx, fixed := fixed })]⟩ } }

/-- Port 4 in service in a mode. -/
def ported (mode : Nat) : State := up.modPort 4 fun x => { x with
  cfg := { x.cfg with mode := mode, plcaNode := 0 }, enabled := true, linkUp := true, rateMb := 100
  eg := { x.eg with holdUntil := some 5 } }

theorem witness_frames : (let x := (ported 4).port 4;
      x.enabled = true ∧ x.linkUp = true ∧ x.portSleep = false ∧ (ported 4).unitUp (portUnit 4) = true) ∧
    (framed 1 1 false).pending = [] ∧ (up.port 0).enabled = false ∧ (up.port 0).cfg.causeway = false ∧
    ((served.tick 0).port 0).cfg.causeway = true ∧ (((framed 1 0 true).tick 0).frame 1).verdict ≠ 0 ∧
    (((framed 1 0 true).tick 0).frame 1).fixed = true ∧
    (let a := (framed 1 1 false).tick 0;
      (a.sw.frames.find 1).isSome = true ∧ (a.frame 1).fixed = false ∧ (a.frame 1).verdict ≠ 2 ∧ (a.frame 1).dropRx = 1 ∧
        (a.frame 1).portOk = false) ∧
    (let a := (framed 0 0 false).tick 40000;
      (a.sw.frames.find 1).isSome = true ∧ (a.frame 1).fixed = false ∧ (a.frame 1).placed = false ∧ (a.frame 1).verdict = 0 ∧
        (a.frame 1).atNs + 40000 ≤ a.now ∧ ((framed 0 0 false).tick 39999).now < (a.frame 1).atNs + 40000) := by decide

/-- Port 0 sends a frame. -/
def sending (ct half : Bool) (attempts : Nat) (until? : Option Nat) : State := up.modPort 0 fun x => { x with
  half := half, tx := some { ct := ct, attempts := attempts, backoffUntil := until? } }

theorem witness_egress : (up.tick 0).lightsOut = false ∧ (up.modSlp fun z => { z with ps := .entry }).lightsOut = true ∧
    (((sending true false 0 none).tick 0).port 0).tx = some { ct := true } ∧
    (((sending false false 0 none).tick 0).port 0).tx = some { ct := false } ∧ ((up.tick 0).port 0).tx = none ∧
    ((up.tick 0).port 23).pz.pausedUntil = none ∧ ((up.tick 0).port 23).eg.holdUntil = none ∧
    (up.tick 0).busCannotSend (24 - 24) = true ∧ ({ ct := true } : TxNow).fcsSent = false ∧
    ({ ct := false } : TxNow).backoffUntil = none ∧ (((ported 4).tick 0).port 4).eg.holdUntil.isSome = true := by decide

/-! Ethernet ports (O39 to O42). -/

theorem witness_links : (let a := (ported 4).tick 5
    let x := a.port 4;
    x.faultIgnored a.now = false ∧ x.enabled = true ∧ x.portSleep = false ∧ x.cfg.mode ≠ 5 ∧ x.linkUp = true ∧
      a.unitUp (portUnit 4) = true ∧ x.cfg.mode = 4 ∧ 1000 ≠ x.rateMb ∧ 100 = x.rateMb ∧ false = x.half ∧
      x.eg.holdUntil = some 5 ∧ 5 ≤ a.now ∧ ((ported 4).tick 4).now < 5 ∧ x.remoteFault = false ∧ x.cfg.mode ≠ 1) ∧
    ((up.tick 0).port 4).enabled = false ∧
    (let a := (ported 1).tick 0
      let x := a.port 4;
      x.remoteFault = false ∧ x.cfg.mode = 1 ∧ x.faultIgnored a.now = false) ∧
    (let x := (((ported 1).modPort 4 fun x => { x with remoteFault := true }).tick 0).port 4;
      x.remoteFault = true ∧ x.cfg.mode = 1) ∧
    (let x := ((ported 5).tick 0).port 4;
      x.cfg.mode = 5 ∧ x.cfg.mode ≠ 4 ∧ x.cfg.plcaNode ≠ 0xFF ∧ true ≠ x.plcaActive) ∧
    (let a := (up.modPort 4 fun x => { x with step := { x.step with swTxAt := some 0 } }).tick 99999;
      (a.port 4).faultIgnored a.now = true) := by decide

/-- Port 4 paused since 0, asking its peer to pause. -/
def paused (acts long : Bool) : State := up.modPort 4 fun x => { x with
  cfg := { x.cfg with pauseRxEn := acts, pauseTxEn := true }, linkUp := true
  pz := { x.pz with
    pausedUntil := some 10000002, pausedLong := long, pauseHigh := true, pauseSentNs := 8 } }

/-- The multicast address of PAUSE (R163). -/
def pauseMac : List Byte := [1, 0x80, 0xC2, 0, 0, 1]

theorem witness_pause : pauseDst ((paused true true).port 4).cfg.mac [1, 0x80, 0xC2, 0, 0, 2] = false ∧
    pauseDst ((paused true true).port 4).cfg.mac pauseMac = true ∧
    ((paused false true).port 4).cfg.pauseRxEn = false ∧ ((paused true true).port 4).pz.pausedLong = true ∧
    (let a := (paused true false).tick 10000001
      let x := a.port 4;
      x.cfg.pauseRxEn = true ∧ x.linkUp = true ∧ x.pz.pausedUntil = some 10000002 ∧ a.now < 10000002 ∧
        x.pz.pausedLong = false ∧ x.pz.pausedAt + 10000000 < a.now ∧ x.pz.pauseHigh = true ∧ 65536 % 65536 = 0) ∧
    10000002 ≤ ((paused true false).tick 10000002).now ∧ ((up.tick 0).port 4).pz.pauseHigh = false ∧
    (let x := ((up.modPort 4 fun x => { x with linkUp := true }).tick 0).port 4;
      x.cfg.pauseRxEn = true ∧ x.linkUp = true ∧ x.pz.pausedUntil = none ∧ 65535 % 65536 ≠ 0) := by decide

theorem witness_pause_refresh : (let a := ((paused true false).modPort 4 fun x => { x with
      pz := { x.pz with lowWm := 0 } }).tick 4
    let x := a.port 4;
    x.pz.pauseHigh = true ∧ x.pz.lowWm * 1024 ≤ a.shareCells 4 * 256 ∧ x.cfg.pauseTxEn = true ∧ x.half = false ∧
      0 < x.pz.pauseSentNs ∧ x.pz.pauseSentAt + x.pz.pauseSentNs / 2 ≤ a.now) := by decide

theorem witness_collisions : (((sending true false 0 none).tick 0).port 0).tx = some { ct := true } ∧
    (((sending true false 0 none).tick 0).port 0).half = false ∧
    (∀ n ∈ [14, 15], let x := ((sending false true n none).tick 0).port 0;
      x.tx = some { attempts := n } ∧ x.half = true ∧ x.plcaActive = false ∧ ({ attempts := n } : TxNow).backoffUntil = none) ∧
    (let a := (sending false true 1 (some 7)).tick 7;
      (a.port 0).tx = some { attempts := 1, backoffUntil := some 7 } ∧ (a.port 0).paused a.now = false ∧
        ((sending false true 1 (some 7)).tick 6).now < 7) := by decide

/-- Port 0 in a phase of a step; its switch now came, and its lock went, at 0. -/
def stepping (phase target : Nat) (tx rx : Bool) : State := up.modPort 0 fun x => { x with
  cfg := { x.cfg with mode := 1, causeway := true }, enabled := true, linkUp := true
  step := { x.step with
    enable := true, phase := phase, target := target, txDone := tx, rxDone := rx, rxStepped := target == 1
    swRxAt := some 0, lockLost := some 0 } }

theorem witness_steps : (let a := (stepping 0 0 false false).tick 0
    let x := a.port 0;
    x.stepAble = true ∧ x.step.phase = 0 ∧ x.step.stepped = false ∧ max 0 0 < x.step.downPct * 12500 * x.step.windowMs ∧
      x.step.barred 1 a.now = false ∧ x.step.barred 0 a.now = false ∧ 250000 < max 0 250001 ∧ x.step.stepUpThenOff = false ∧
      x.step.phase ≠ 1) ∧
    (((stepping 0 0 false false).modPort 0 fun x => { x with step := { x.step with stepped := true } }).port 0).step.stepped = true ∧
    ((up.tick 0).port 0).stepAble = false ∧ ((up.tick 0).port 0).step.stepUpThenOff = false ∧ ((up.tick 0).port 0).step.lockLost = none ∧
    (let a := (stepping 1 1 false false).tick 1000000;
      (a.port 0).step.phase = 1 ∧ (a.port 0).step.since + 1000000 ≤ a.now ∧ le (bytesAt 4 [(0, 3)]) 0 1 = 3 ∧
        (a.port 0).step.seq = be (bytesAt 4 [(0, 3)]) 2 2) ∧
    (∀ target ∈ [0, 1], let y := (((stepping 3 target true true).tick 0).port 0).step;
      y.phase = 3 ∧ y.txDone = true ∧ y.rxStepped = (y.target == 1) ∧ y.asked = none ∧ y.stepUpThenOff = false) ∧
    (let a := (stepping 3 1 false false).tick 1000000;
      (a.port 0).step.phase = 3 ∧ (a.port 0).step.rxDone = false ∧ (a.port 0).step.swRxAt = some 0 ∧ 0 + 100000 ≤ a.now ∧
        (a.port 0).step.lockLost = some 0 ∧ 0 + 1000000 ≤ a.now ∧ ((stepping 3 1 false false).tick 99999).now < 0 + 100000) := by
  decide

/-! Bus controllers and the signal engine (O43 to O46). -/

/-- Bus 0 in service. -/
def live : State := up.modBus 0 fun x => { x with cfg := some {}, enabled := true }

theorem witness_bus : (let a := live.tick 0
    let x := a.bus 0;
    a.busLive 0 = true ∧ x.errWait = false ∧ x.stuck = false ∧ x.restricted = false ∧ x.wantMode = none ∧
      a.twin.role.holder = true ∧ x.tx.aborting = false ∧ x.tx.engagedBuf = none ∧ a.lightsOut = false) ∧
    ((live.modBus 0 fun x => { x with rx := some {} }).bus 0).rx = some {} ∧ (up.tick 0).busLive 0 = false ∧
    ((live.modBus 0 fun x => { x with restricted := true }).bus 0).restricted = true ∧
    (let x := (live.modBus 0 fun x => { x with tx := { x.tx with tb2 := { msg := some {}, engaged := true } } }).bus 0;
      x.tx.engagedBuf = some 2 ∧ (x.tx.buf 2).msg = some {}) := by decide

/-- Bus 0 recovers from bus-off. -/
def recovering (n : Nat) : State := live.modBus 0 fun x => { x with busOff := true, recovering := true, recovery := n }

theorem witness_recovery : (∀ n ∈ [126, 127], let x := ((recovering n).tick 0).bus 0;
    x.enabled = true ∧ x.busOff = true ∧ x.recovering = true ∧ x.recovery = n) ∧
    ((recovering 126).tick 0).unitUp (busUnit 0) = true ∧ 126 + 1 < 128 ∧ 128 ≤ 127 + 1 ∧ (up.bus 0).enabled = false ∧
    (live.bus 0).stuck = false ∧ ((live.modBus 0 fun x => { x with stuck := true }).bus 0).stuck = true ∧
    (live.bus 0).busOff = false ∧ (live.bus 0).integrating = false ∧ (live.bus 0).enabled = true ∧
    (let x := (live.modBus 0 fun x => { x with integrating := true, stuck := true, errWait := true }).bus 0;
      x.integrating = true ∧ x.stuck = true ∧ x.errWait = true) := by decide

theorem witness_modes : live.twin.frozenAt = none ∧ (live.bus 0).wantMode = none ∧ (live.bus 0).tx.draining = none ∧
    (∀ r : Bool, let a := (live.modBus 0 fun x => { x with wantMode := some r }).tick 0;
      (a.bus 0).wantMode = some r ∧ a.busLive 0 = true ∧ (a.bus 0).tx.engagedBuf = none ∧ a.standby = false) ∧
    (let x := (live.modBus 0 fun x => { x with tx := { x.tx with draining := some 0 } }).bus 0;
      x.tx.draining = some 0 ∧ x.tx.aborting = false) := by decide

theorem witness_error_counters : (∀ n ∈ [0, 95, 96, 127, 128, 255], n < 256) ∧ (live.bus 0).tec < 96 ∧ 96 ≤ 96 ∧
    (live.bus 0).passive = false ∧ (decide (128 ≤ 128) || decide (128 ≤ 0)) = true ∧
    (let x := (live.modBus 0 fun x => { x with tec := 128, recCount := 96, passive := true }).bus 0;
      x.passive = true ∧ (decide (128 ≤ 127) || decide (128 ≤ 127)) = false ∧
        x.passive = (decide (128 ≤ 128) || decide (128 ≤ 0)) ∧ 96 ≤ x.tec ∧ 96 ≤ x.recCount) := by decide

/-- A frame waits for its commit, a firing for the end of its gap, a slot for its expiry, and an old map is still there. -/
def signalling : State := { up with sig := {
  wait := [{}], old := some {}, runs := ⟨[(0, { fired := some 0, pending := true })]⟩
  slots := ⟨[(3, { fresh := true, expiry := some 5 })]⟩
  cur := { triggers := ⟨[(0, { minGap := 1 })]⟩ } } }

theorem witness_signal : (let a := signalling.tick 100000;
    a.nextCommit = some {} ∧ ({} : CommitWait).engWaitFrom = none ∧ (∀ w ∈ a.sig.wait, a.now < w.atNs + 1000000) ∧
      a.unitUp ⟨3, 0⟩ = true ∧ a.sigMore = false ∧ a.sig.lapse = [] ∧ a.sig.due = [] ∧
      a.map.triggers.find 0 = some { minGap := 1 } ∧ (a.run 0).pending = true ∧ a.inGap 0 { minGap := 1 } = false ∧
      (a.slot 3).expiry = some 5 ∧ (a.slot 3).fresh = true ∧ 5 ≤ a.now ∧ a.sig.old = some {} ∧ a.mapMayExpire {} = false) ∧
    ((signalling.tick 1000000).sig.wait.find? fun w => decide (w.atNs + 1000000 ≤ (signalling.tick 1000000).now)) = some {} ∧
    (signalling.tick 20000000).mapMayExpire {} = true ∧ up.nextCommit = none ∧ up.sig.wait = [] ∧ up.sig.lapse = [] ∧
    up.sig.due = [] ∧ (up.run 0).pending = false ∧ up.sig.old = none ∧
    (up.modIsl 3 fun x => { x with power := .off }).unitUp ⟨3, 0⟩ = false := by decide

/-! Time and audio (O47 to O49). -/

/-- Domain 0 in a state, on port 4. -/
def timed (d : DState) : State := up.modDom 0 fun x => { x with
  enable := true, dstate := d, ports := 16, profile := 2 }

theorem witness_domains : (let a := (timed .listening).tick 0;
    a.ptpDomain 4 [0x10] = none ∧ a.ptpDomain 4 [0] = some 0 ∧ a.ptpDomain 4 [8] = some 0 ∧ a.ptpDomain 4 [11] = some 0 ∧
      bits (le [0] 0 1) 0 4 = 0 ∧ bits (le [8] 0 1) 0 4 = 8 ∧ bits (le [11] 0 1) 0 4 = 11 ∧ a.unitUp timeUnit = true ∧
      a.chanOpen (portUnit 4).island 5 = true ∧ a.pending = [] ∧ (a.dom 0).dstate ≠ .disabled ∧ (a.dom 0).dstate ≠ .fault ∧
      ((a.modDom 0 fun x => { x with slavePort := 4 }).dom 0).slavePort ≤ 23 ∧ (a.dom 0).dstate = .listening ∧ (a.dom 0).profile ≠ 1 ∧ (a.dom 0).slavePort = 0xFF ∧
      a.time.refOk = true ∧ a.time.active = none) ∧
    (let a := (timed .acquiring).tick 375000000;
      (a.dom 0).dstate = .acquiring ∧ (a.dom 0).lastSync + (a.dom 0).syncTimeout * (a.dom 0).syncNs ≤ a.now) ∧
    (∀ d < 2, (up.dom d).dstate = .disabled) ∧ up.time.refOk = true ∧ up.time.active = none ∧
    (let a := ((timed .fault).modTime fun x => { x with refOk := false }).tick 0;
      a.time.refOk = false ∧ (a.dom 0).dstate = .fault ∧ (a.dom 1).dstate = .disabled) ∧
    (up.modTime fun x => { x with refOk := false }).time.refOk = false := by decide

/-- The active time slews, TIME_OUT0 holds a pulse, TIME_IN0 has captured. -/
def pinned (n : Nat) (lost : Bool) : State := { up with time := {
  slew := some {}, outs := ⟨[(0, { pulseEnd := some 7 })]⟩
  ins := ⟨[(0, { edges := 1, caps := List.replicate n {}, overflow := lost })]⟩ } }

theorem witness_pins : (pinned 0 false).time.slew = some {} ∧ ((pinned 0 false).tick 0).slewEndNs {} ≤ 0 ∧
    ((up.tick 0).time.slew = none) ∧ ((pinned 0 false).timeOut 0).pulseEnd = some 7 ∧
    7 ≤ ((pinned 0 false).tick 7).activeNs ∧ ((pinned 0 false).tick 6).activeNs < 7 ∧
    bit ((pinned 0 false).timeIn 0).edges 0 = true ∧ bit ((pinned 0 false).timeIn 0).edges 1 = false ∧
    ((pinned 15 false).timeIn 0).caps.length < 16 ∧ 16 ≤ ((pinned 16 false).timeIn 0).caps.length ∧
    ((pinned 16 false).timeIn 0).overflow = false ∧ ((pinned 16 true).timeIn 0).overflow = true := by decide

theorem witness_slew_runs : (let a := (up.modTime fun x => { x with slew := some { gap := 65536, e0 := 65536000 } }).tick 0;
    a.now < a.slewEndNs { gap := 65536, e0 := 65536000 }) := by decide

theorem witness_triggers : (up.tick 0).trigDue 0 = false ∧
    (let a := ((up.modTime fun x => { x with active := some 0 }).modTrig 0 fun x => { x with
        armed := true, judged := true, period := 1000 }).tick 0;
      a.trigDue 0 = true ∧ (a.trig 0).targets = 0) := by decide

/-- Audio port 0 and streams 0 and 64 in use. -/
def sounding : State := { up with
  time := { trigs := ⟨[(0, { period := 1000 })]⟩ }
  aud := { ports := ⟨[(0, { enable := true })]⟩, streams := ⟨[(64, { enable := true })]⟩ } }

theorem witness_audio : (let a := sounding.tick 10000000;
    (a.tdm 0).enable = true ∧ a.unitUp (tdmUnit 0) = true ∧ (a.tdm 0).noFrame = false ∧ (a.trig (a.tdm 0).trig).period ≠ 0 ∧
      (a.tdm 0).lastFrame + 2 * (a.trig (a.tdm 0).trig).period ≤ a.now ∧ (a.aaf 64).enable = true ∧
      (a.aaf 64).lost = false ∧ (a.aaf 64).lastAt + 10000000 ≤ a.now ∧ a.unitUp audioUnit = true ∧
      a.aud.block ≠ ((a.activeNs / 1000000 + 2) * 1000000 : Nat)) ∧ (up.tdm 0).enable = false ∧
    (let a := (up.modAud fun x => { x with block := 2000000 }).tick 0;
      a.aud.block = ((a.activeNs / 1000000 + 2) * 1000000 : Nat)) := by decide

/-! Faults (O50 to O52). -/

/-- A source in fault since 0 reading quiet, or returned and reading fault again. -/
def faulted (again : Bool) : State := (up.modSrc 128 fun x => { x with
  st := .fault, pair := if again then 2 else 1, quietFrom := if again then none else some 0
  returnedAt := some 0 }).modFlt fun f => { f with windowOpen := some 0 }

theorem witness_sources : (up.tick 0).islandUp 4 = true ∧
    (up.modIsl 4 fun x => { x with power := .off }).islandUp 4 = false ∧ inRange 147 147 153 = true ∧
    inRange 146 147 153 = false ∧ (srcRow 146).isSome = true ∧ srcRow 255 = none ∧ (up.src 128).force = 0 ∧
    (srcRow 243).isSome = true ∧ (up.src 243).force = 0 ∧ wireSource 243 ≠ 243 ∧ wireSource 245 = 245 ∧
    (srcRow 245).isSome = true ∧ (up.src 245).force = 0 := by decide

theorem witness_fault_times : (let a := (faulted false).tick 10000000;
    a.flt.windowOpen = some 0 ∧ 0 + 200 ≤ a.now ∧ ((faulted false).tick 199).now < 0 + 200 ∧ a.quietSince 128 = some 0 ∧
      0 + (a.src 128).quietMs * 1000000 ≤ a.now ∧ ((faulted false).tick 9999999).now < 0 + (a.src 128).quietMs * 1000000 ∧
      a.budgetOpen 128 = false ∧ a.faultMore 128 = false) ∧
    (let a := (up.modSrc 128 fun x => { x with windowAt := some 0 }).tick 0;
      a.budgetOpen 128 = true) ∧
    (let a := (faulted true).tick 1000000000;
      (a.src 128).returnedAt = some 0 ∧ (a.src 128).st = .fault ∧ (a.src 128).reading = 2 ∧ a.evaluated 128 = true ∧
        0 + 1000000000 ≤ a.now) := by decide

theorem witness_actions : (up.modBoot fun b => { b with state := 4 }).boot.state = 4 ∧ up.boot.state ≠ 4 ∧ 1 ≤ 1 ∧
    srcRestartIsland 6 = 6 ∧ srcRestartIsland 128 ≠ 6 ∧ up.srcUnits 128 = [⟨3, 0⟩] ∧
    (srcRow 183).isSome = true ∧ srcIsland 183 = 6 := by decide

/-- Units and an island restarting since 0, a channel in reset, a storm. -/
def restarting : State := (((((up.modUnitSt 3 0 fun x => { x with restarting := true }).modIsl 2 fun x => { x with
  restarting := true }).modChan 2 1 fun x => { x with resetAt := some 0 }).modFlt fun f => { f with storm := 2 }).modPins
  fun p => { p with outputsHeld := some 9 })

theorem witness_restarts : (let a := restarting.tick 50000000;
    (a.unitSt 3 0).restarting = true ∧ a.islandUp 3 = true ∧ a.islandUp 5 = true ∧ (a.unitSt 3 1).restarting = false ∧
      (a.unitSt 3 0).cause = 0xFF ∧ max (a.unitSt 3 0).since (if 3 = 5 then 0 else (a.isl 5).backAt) + 50000000 ≤ a.now ∧
      (a.isl 2).restarting = true ∧ a.boot.state ≠ 4 ∧ (a.isl 3).restarting = false ∧
      (a.chan 2 1).resetAt = some 0 ∧ 0 + (a.isl 2).straitNs ≤ a.now ∧ (restarting.tick 9999).now < 0 + (a.isl 2).straitNs ∧
      (a.chan 1 2).resetAt = none ∧ bit a.flt.storm 1 = true ∧ bit a.flt.storm 0 = false ∧ bit a.flt.mdioRetry 0 = false) ∧
    (let a := (restarting.modBoot fun b => { b with state := 4 }).tick 9;
      a.boot.pins.outputsHeld = some 9 ∧ a.boot.state = 4 ∧ 9 ≤ a.now ∧ (restarting.tick 8).now < 9) := by decide

theorem witness_channels : channelWidth 2 1 ≠ 0 ∧ up.islandUp 2 = true ∧ up.islandUp 1 = true ∧ up.chanOpen 2 1 = true ∧
    channelWidth 0 1 = 0 ∧ (up.modIsl 1 fun x => { x with power := .off }).islandUp 1 = false ∧
    up.unitUp ⟨5, 7⟩ = true ∧ up.slp.ps ≠ .sleep ∧
    (up.modUnitSt 5 7 fun x => { x with restarting := true }).unitUp ⟨5, 7⟩ = false := by decide

/-! Twin, causeway, sleep, start-up, update (O53 to O59). -/

/-- A device in a role, with a fresh heartbeat and a running claim timer. -/
def inRole (r : Role) (lease : LeasePair) : State := up.modTwin fun w => { w with
  role := r, leaseIn := lease, heartbeat := some 0, claimFrom := some 0, linkUp := true, blind := true }

theorem witness_lease : (let a := (inRole .active .notHeld).tick 1000000;
    a.twin.role.holder = true ∧ a.renewable = true ∧ a.twin.renewedAt + a.twin.leaseUs * 250 ≤ a.now ∧ a.fwUp = true ∧
      a.mayClaim = false ∧ a.twin.leaseIn = .notHeld ∧ a.twin.leaseIn ≠ .held ∧ a.twin.handover = none ∧ a.standby = false) ∧
    (let a := (inRole .active .notHeld).tick 4000000;
      a.leaseRuns = true ∧ a.twin.role = .active ∧ a.handoverMore = false ∧ a.twin.renewedAt + a.twin.leaseUs * 1000 ≤ a.now ∧
        ((inRole .active .notHeld).tick 3999999).now < a.twin.renewedAt + a.twin.leaseUs * 1000) ∧
    (let a := (inRole .standby .notHeld).tick 4200000;
      a.twin.role.holder = false ∧ a.twin.role ≠ .active ∧ a.leaseRuns = true ∧ a.mayClaim = true ∧ a.standby = true ∧
        a.twin.leaseIn = .notHeld) ∧
    (State.reset.tick 0).fwUp = false := by decide

theorem witness_lease_pins : (let a := ((inRole .active .notHeld).modTwin fun w => { w with sideB := true }).tick 0;
    a.twin.leaseIn ≠ .held ∧ a.twin.role = .active ∧ a.twin.sideB = true) ∧
    (let a := ((inRole .standby .held).modTwin fun w => { w with handoverIn := true }).tick 0;
      a.twin.leaseIn ≠ .notHeld ∧ a.twin.role ≠ .active ∧ a.twin.handoverIn = true ∧ a.standby = true) ∧
    (let a := ((inRole .active .notHeld).modTwin fun w => { w with handover := some 0 }).tick 100000000;
      a.twin.handover = some 0 ∧ a.twin.role = .active ∧ a.busesIdle = true ∧ 0 + 100000000 ≤ a.now) := by decide

theorem witness_twin_messages : (let a := (inRole .standby .notHeld).tick 300000000;
    a.standby = true ∧ a.twin.role = .standby ∧ a.twin.stale = false ∧ bit a.twin.mirror (le [4] 0 1) = true ∧
      bit a.twin.mirror 3 = true ∧ le [3] 0 1 = 3 ∧ a.twin.role.paired = true ∧ a.twin.linkUp = true ∧
      a.unitUp ⟨0, 41⟩ = true ∧ bit (le [] 9 1) 1 = false ∧ (a.bus 0).tx.held3 = [] ∧ (a.bus 0).tx.deep = [] ∧
      a.twin.role ≠ .resyncing ∧ a.twin.role ≠ .active ∧ a.twinReview.twin.role.paired = true ∧
      a.twinReview.unitUp ⟨0, 41⟩ = true) ∧
    (let a := (inRole .active .notHeld).tick 300000000;
      a.standby = false ∧ a.twin.role ≠ .resyncing ∧ a.twin.role = .active ∧ a.twin.reportAt = none ∧
        a.twin.report = none ∧ bit (healthOf []).flags 3 = false ∧ a.twin.reportMissed = false ∧
        max a.twin.roleAt (a.twin.reportAt.getD 0) + 300000000 ≤ a.now) ∧
    (inRole .resyncing .notHeld).twin.role = .resyncing ∧ up.twin.role.paired = false ∧ up.twin.linkUp = false ∧
    up.twin.role ≠ .resyncing := by decide

/-- A causeway port with its neighbour, an encrypting one, a peer heard at 0. -/
def chained (enc : Bool) : State := { served with
  eth := ⟨[(0, {
    cfg := { mode := 1, causeway := true }, linkUp := true, cw := { nbUp := true, nbId := 2, enc := enc } })]⟩ }

/-- An outer frame of kind 2 with a message of a type. -/
def ringFrame (op : Nat) : List Byte := cwAddr ++ bytesAt 54 [(6, 0x88), (7, 0xB5), (8, 0x12), (24, op)]

theorem witness_cw_engine : (let a := ((chained true).modSec fun x => { x with
      slots := ⟨[(0, { valid := true, engines := 1 })]⟩ }).tick 0;
    (a.port 0).cfg.causeway = true ∧ (a.port 0).cw.enc = true ∧ (a.port 0).cw.engTx = none ∧
      a.engineHigh (a.keySlot (handleSlot ((a.port 0).cw.handle 0))).engines = some 0) := by decide

theorem witness_causeway : ((up.tick 0).port 0).cfg.causeway = false ∧ (up.tick 0).cw.id = 0 ∧
    (let a := (chained true).tick 30000000;
      (a.port 0).cfg.causeway = true ∧ (a.port 0).linkUp = true ∧ a.cwControl 0 (ringFrame 1) 1 = true ∧
        a.cwControl 0 (ringFrame 2) 2 = true ∧ a.cwControl 0 (ringFrame 1) 2 = false ∧ a.cwControl 0 (ringFrame 2) 1 = false ∧
        a.fwUp = true ∧ (a.port 0).cw.engTx = none ∧ a.cw.id ≠ 0 ∧
        (a.port 0).cw.enc = true ∧ (a.port 0).cw.nbUp = true ∧ (a.port 0).cw.nbHeard + 30000000 ≤ a.now ∧
        ((chained true).tick 29999999).now < (a.port 0).cw.nbHeard + 30000000 ∧ a.cw.peers.find 2 = some {} ∧
        a.isMaster = false ∧ a.now < ({} : Peer).heard + 300000000) ∧
    ({} : Peer).heard + 300000000 ≤ ((chained true).tick 300000000).now ∧
    (served.modCw fun c => { c with master := 1 }).isMaster = true := by decide

/-- Mailbox 0 runs a remote access in a phase since 0. -/
def remoteAt (kind phase : Nat) : State := served.modCw fun c => { c with
  runs := [{ mbx := 0, dev := 2, kind := kind, phase := phase, backoffUntil := 10, attempt := 7, reqId := 9 }]
  locks := [{ owner := 2 }] }

theorem witness_remote : (let a := (remoteAt 2 0).tick 5000000;
    a.fwUp = true ∧ le (bytesAt 13 []) 0 1 = 0 ∧ 13 ≤ (bytesAt 13 []).length ∧ 2 ≠ a.cw.id ∧
      le (bytesAt 11 [(0, 2), (1, 1)]) 0 1 = 2 ∧ a.farStored 2 (be (bytesAt 11 [(0, 2), (1, 1)]) 7 4) = none ∧
      a.lockTarget (le (bytesAt 11 [(0, 2), (1, 1)]) 1 1) (be (bytesAt 11 [(0, 2), (1, 1)]) 2 4) = stOk ∧
      a.lockTarget (le (bytesAt 11 [(0, 2), (5, 1)]) 1 1) (be (bytesAt 11 [(0, 2), (5, 1)]) 2 4) ≠ stOk ∧
      le [4] 0 1 = 4 ∧ le (bytesAt 15 [(0, 3), (6, 7)]) 0 1 = 3 ∧
      (a.lockRun 2 (le (bytesAt 15 [(0, 3), (6, 7)]) 6 1)).isSome = true ∧
      a.lockRun 2 (le (bytesAt 15 [(0, 3), (6, 8)]) 6 1) = none ∧ le [5, 7] 0 1 = 5 ∧
      (a.lockRun 2 (le [5, 7] 1 1)).isSome = true ∧ le (bytesAt 10 [(0, 1), (4, 9)]) 0 1 = 1 ∧
      (a.cw.runs.find? fun r => r.dev == 2 && r.reqId == be (bytesAt 10 [(0, 1), (4, 9)]) 1 4 && decide (r.phase ≤ 1)).isSome
        = true ∧
      a.cw.locks = [{ owner := 2 }] ∧ 0 + hopLimitNs 0 ≤ a.now ∧ (a.remoteRun 0).isSome = true ∧
      ((remoteAt 2 0).tick 4999999).now < 0 + hopLimitNs 0) ∧
    (let a := (remoteAt 2 2).tick 10;
      (a.remoteRun 0).map (fun r => r.phase) = some 2 ∧ 10 ≤ a.now ∧ ((remoteAt 2 2).tick 9).now < 10) ∧
    up.cw.locks = [] ∧ (up.tick 0).remoteRun 0 = none ∧ (State.reset.tick 0).fwUp = false ∧
    (let a := (served.modCw fun c => { c with cascade := 1, master := 2 }).tick 0;
      le [7] 0 1 = 7 ∧ a.isPeer = true ∧ a.fwUp = true ∧ le [7] 1 1 = 0 ∧ le [7] 2 1 < 8) := by decide

/-- A sleep manager that leads, or follows, in a state. -/
def sleepy (leads running : Bool) : State := (served.modCw fun c => { c with
  cascade := 1, master := if leads then 1 else 2 }).modSlp fun z => { z with
  hostConsent := true, lapRunning := running, joined := true, bitSet := true }

theorem witness_laps : (let a := (({ sleepy true false with twin := {} }).tick 0);
    a.ringUp = true ∧ a.leads = true ∧ a.consentBase = true ∧ a.slp.lapRunning = false ∧ a.slp.lapSeq = 0 ∧
      a.fwUp = true ∧ (bytesAt 36 [(0, 5), (1, 3)]).length = 36 ∧ le (bytesAt 36 [(0, 5), (1, 3)]) 0 1 = 5 ∧
      le (bytesAt 36 [(0, 5), (1, 3)]) 1 1 = 3) ∧
    (let a := (sleepy false false).tick 1000000000;
      a.ringUp = true ∧ a.cw.id ≠ 0 ∧ a.leads = false ∧ a.slp.joined = true ∧ a.slp.bitSet = true ∧
        a.slp.cancelSent = false ∧ a.slp.lapAt + 2 * a.slp.lapTimeout * 10000000 ≤ a.now ∧
        le (bytesAt 36 [(0, 5), (1, 1)]) 1 1 = 1 ∧ le (bytesAt 36 [(0, 5), (1, 2)]) 1 1 = 2) ∧
    (let a := (sleepy true true).tick 500000000;
      a.ringUp = true ∧ a.slp.lapRunning = true ∧ a.slp.lapAt + a.slp.lapTimeout * 10000000 ≤ a.now ∧ a.leads = true ∧
        a.slp.lapHeld = false ∧ be (bytesAt 36 [(0, 5), (1, 1)]) 2 2 = a.slp.lapSeq) ∧
    (let a := (live.modBus 0 fun x => { x with wk := { x.wk with lap := some { opened := true } } }).tick 10000000;
      (a.bus 0).wk.lap = some { opened := true } ∧ a.fwUp = true ∧ a.busLive 0 = true ∧ a.busSends 0 = true ∧
        ({} : BusLap).atNs + (a.bus 0).wk.nodeSlotMs * 1000000 ≤ a.now ∧ ({ opened := false } : BusLap).opened = false ∧
        (live.tick 9999999).now < ({} : BusLap).atNs + (a.bus 0).wk.nodeSlotMs * 1000000) ∧
    up.slp.joined = false := by decide

theorem witness_sleep : (let a := (up.modSlp fun z => { z with ps := .entry, commitAt := some 0 }).tick 5000000;
    a.slp.commitAt = some 0 ∧ a.slp.ps = .entry ∧ a.slp.settled = false ∧ 0 + a.slp.settleMs * 1000000 ≤ a.now) ∧
    (let a := (up.modSlp fun z => { z with ps := .entry, settled := true }).tick 0;
      a.slp.ps = .entry ∧ a.slp.settled = true ∧ a.slp.latchedWake = none) ∧ up.slp.ps ≠ .entry ∧ up.slp.ps ≠ .sleep ∧
    (up.modSlp fun z => { z with ps := .sleep }).slp.ps = .sleep ∧ up.slp.commitAt = none ∧
    ((up.tick 0).wakeDetect (.leaseChange 1000)).2 = some { cause := 9 } ∧
    ((up.tick 0).wakeDetect (.leaseChange 999)).2 = none ∧
    (∀ v : Bool, let a := (up.modSlp fun z => { z with wokeAt := some 0, valid := v }).tick 200000000;
      a.slp.wokeAt = some 0 ∧ 0 + 200000000 ≤ a.now ∧ a.slp.valid = v) ∧ up.slp.wokeAt = none ∧
    (let a := (inRole .standby .notHeld).tick 0;
      a.standby = true ∧ a.slp.ps = .service ∧ a.unitUp ⟨0, 41⟩ = true) := by decide

/-- A device with its pins and start in a state. -/
def starting (phase : BootPhase) (f : Pins → Pins) : State :=
  (State.reset.modBoot fun b => { b with phase := phase }).modPins f

theorem witness_supplies : (starting .core fun p => { p with aonOn := false }).boot.pins.aonOn = false ∧
    State.reset.boot.pins.aonOn = true ∧ State.reset.boot.pins.resetLow = false ∧ State.reset.boot.pins.pwrEn = true ∧
    State.reset.boot.pins.coreOk = true ∧ bit 7 3 = false ∧
    (let p := ((starting .core fun p => { p with resetLow := true }).tick 0).boot.pins;
      p.aonOn = true ∧ p.resetLow = true) ∧
    (let a := (starting .core fun p => { p with coreOk := false }).tick 10000000;
      a.boot.phase = .core ∧ a.boot.pins.aonOn = true ∧ a.boot.pins.pwrEn = true ∧ a.boot.pins.coreOk = false ∧ a.boot.pins.brown = false ∧
        a.boot.pins.pwrSince + 10000000 ≤ a.now ∧ a.boot.pins.pwrSince ≤ a.now ∧ a.boot.pins.resetLow = false ∧
        (a.isl 5).latchedBy = none ∧ (a.isl 5).hold = false) ∧
    (supplySource 0).isSome = true ∧ (supplySource 12).isSome = true ∧ (0 : Nat) ≠ 11 ∧ jtagIsolates .idcode = false ∧ jtagIsolates .highz = true ∧
    State.reset.boot.pins.jtagHeld = false := by decide

theorem witness_start_up : State.reset.boot.phase = .core ∧ State.reset.boot.swap = none ∧
    (starting .loader id).boot.phase = .loader ∧ (starting .loader id).boot.swap = none ∧
    (let b := ((starting .loader id).modBoot fun b => { b with swap := some {} }).boot;
      b.swap = some {} ∧ b.phase = .loader) ∧
    (∀ al ∈ [0, 1], let a := ((starting .ready id).modSec fun x => { x with alarms := al }).tick 0;
      a.boot.phase = .ready ∧ a.sec.alarms = al ∧ a.sec.enrolled = false) ∧
    (let a := ((starting .firmware id).modBoot fun b => { b with fwRunning := true }).tick 0;
      a.boot.phase = .firmware ∧ a.fwUp = true ∧ a.sec.alarms = 0 ∧ a.boot.d.imgState ≠ 3) := by decide

theorem witness_update : (let a := (up.modBoot fun b => { b with rebootAt := some 5 }).tick 5;
    a.boot.rebootAt = some 5 ∧ 5 ≤ a.now ∧ ((up.modBoot fun b => { b with rebootAt := some 5 }).tick 4).now < 5) ∧
    up.boot.rebootAt = none ∧ (up.tick 0).fwUp = true ∧ le [4] 0 1 = 4 ∧ 6 ≤ (bytesAt 6 [(0, 4)]).length ∧
    le (bytesAt 6 [(0, 4)]) 0 1 = 4 ∧ (State.reset.tick 0).fwUp = false ∧ (up.tick 0).reportDue = false ∧
    (let a := (up.modBoot fun b => { b with d := { b.d with actId := 6, members := [2] } }).tick 0;
      a.updMaster = true ∧ le (bytesAt 11 [(0, 4), (1, 1), (2, 6)]) 1 1 = 1 ∧
        le (bytesAt 11 [(0, 4), (1, 1), (2, 6)]) 2 4 = a.boot.d.actId ∧ a.boot.d.members.contains 2 = true) ∧
    (let a := ((up.modBoot fun b => { b with d := { b.d with actId := 6 }, reportOwed := true }).modCw fun c => { c with
        cascade := 1, master := 2 }).tick 0;
      a.reportDue = true ∧ (a.modBoot fun b => { b with reportAt := some a.now }).updMaster = false) := by decide

theorem witness_trial : (let a := (up.modBoot fun b => { b with state := 5, trialAt := some 0 }).tick 120000000000;
    a.boot.trialAt = some 0 ∧ a.fwUp = true ∧ a.boot.state = 5 ∧ a.updMaster = true ∧
      0 + a.boot.actWait * 1000000000 ≤ a.now ∧ 0 + 2 * a.boot.actWait * 1000000000 ≤ a.now ∧
      ((up.modBoot fun b => { b with state := 5, trialAt := some 0 }).tick 59999999999).now < 0 + a.boot.actWait * 1000000000) ∧
    up.boot.trialAt = none := by decide

/-! Single commands and functions, against values of the spec and of published standards. -/

/-- A test of the next state of a command. -/
def after (c : Instr) (s : State) (p : State → Bool) : Bool :=
  match exec c s with
  | .next u => p u
  | .fault _ => false
  | .refused _ => false

/-- The check input of the CRC catalogues, "123456789". -/
def digits : List Byte := (range 49 9).map fun n => BitVec.ofNat 8 n

/-- CRC-32 as IEEE 802.3 has it (R84); check value of the catalogue. -/
theorem test_crc32 : crc32 digits = 0xCBF43926 := by decide

/-- CRC-8 with polynomial 0x07 from 0xFF (R67): a zero byte gives the last entry of the polynomial's usual table. -/
theorem test_crc8 : crc8 [0] = 0xF3 := by decide

/-- R74: bytes of a word lie little-endian. -/
theorem test_scratch : after (.registerWrite 0 0 0x20 [1, 2, 3, 4] 15) up (fun u => u.host.scratch == 0x04030201) = true := by
  decide

/-- R62: an access of two bytes is discarded and counted. -/
theorem test_bad_access : after (.registerWrite 0 0 0x20 [1, 2] 3) up
    (fun u => u.host.scratch == 0 && u.ctr 1 0 ctrDevHostBadAccess == (up.ctr 1 0 ctrDevHostBadAccess).add 0 1) = true := by
  decide

/-- R61: BAR1 does not exist. -/
theorem test_no_bar : exec (.registerWrite 0 1 0 [1] 1) up = .fault .noSuchAddress := rfl

/-- R87: the doorbell of an idle mailbox is pending; in the safe state it is dropped. -/
theorem test_doorbell : after (.mbxRing 0 3 1) up (fun u => (u.mb 3).ringing && !(u.mb 3).dropped) = true ∧
    after (.mbxRing 0 3 1) (up.modBoot fun b => { b with state := 4 }) (fun u => !(u.mb 3).ringing && (u.mb 3).dropped) = true := by
  decide

/-- R86, R100: an accepted code that no table lists completes with `INVALID` at offset 1 of the envelope and EV003. -/
theorem test_unlisted : after (.mbxAccept 0 3) (up.modMb 3 fun b => { b with ringing := true, cmd := envelopeOf 0x0108 })
    (fun u => (u.mb 3).mstate == 4 && (u.mb 3).done && u.evtBit 3 &&
      le (u.mb 3).resp 5 1 == stInvalid && le (u.mb 3).resp 7 4 == 0x80000001) = true := by decide

/-- R84: a write of 1 to `DONE` returns `MSTATE` to 0. -/
theorem test_done_clear : after (.mbxDoneClear 0 0 1) (up.modMb 0 fun b => { b with mstate := 4, done := true, interim := true })
    (fun u => (u.mb 0).mstate == 0 && !(u.mb 0).done && (u.mb 0).interim) = true := by decide

/-- R78: `HOST_INT_N` stays high while the event is masked, and goes low when it is unmasked. -/
theorem test_host_int : (up.raise 9).hostIntLow = false ∧
    after (.evtMaskWrite 0 0 0xFFFFFDFF) (up.raise 9) State.hostIntLow = true := by decide

/-- R63: a pending vector goes when it is unmasked. -/
theorem test_unmask : after (.msixVectorUnmask 0 (.vector 0))
    { up with host := { msix := { enable := true, pend := 1 } } }
    (fun u => u.sent == [.msix 0] && u.host.msix.pend == 0) = true := by decide

/-- R66, R70: a status read after a transaction of no bytes. -/
theorem test_spi : after (.spiReadTransaction 0 [] 0) up (fun u => u.host.spi.status == 4) = true := by decide

/-- R127: a receiver's error of 8 is counted; REC 128 makes the controller error-passive, with EV033. -/
theorem test_bus_error : after (.busError 0 0 .bit false true .firstDominant) (live.modBus 0 fun x => { x with recCount := 120 })
    (fun u => (u.bus 0).recCount == 128 && (u.bus 0).passive && u.evtBit 33 && !u.evtBit 32) = true := by decide

/-- R128: the 128th occurrence ends recovery, with EV042. -/
theorem test_bus_recovery : after (.busRecoveryOccurrence 0 0) (recovering 127)
    (fun u => !(u.bus 0).busOff && (u.bus 0).tec == 0 && u.evtBit 42) = true ∧
    after (.busRecoveryOccurrence 0 0) (recovering 126) (fun u => (u.bus 0).busOff && !u.evtBit 42) = true := by decide

/-- R130: EV038 is raised once. -/
theorem test_stuck : after (.stuckDominant 0 0) live (fun u => u.evtBit 38 && (u.bus 0).stuck) = true := by decide

/-- R166, IEEE 802.3 annex 31B: two quanta at 100 Mbit/s are 10 240 ns. -/
theorem test_pause : after (.pauseReceived 5 4 ⟨pauseMac, 2⟩) ((ported 4).modPort 4 fun x => { x with linkUp := true })
    (fun u => (u.port 4).pz.pausedUntil == some 10245) = true := by decide

/-- R238: an unknown address is learned on its port. -/
theorem test_learn : after (.learnEventProcess 0) ((learned true).modTbl fun x => { x with l2 := ⟨[]⟩ })
    (fun u => match u.l2Find 1 aMac with
      | some i => (u.l2e i).port == 3
      | none => false) = true := by decide

/-- R242: the scan removes an entry that was not hit since the last. -/
theorem test_ageing : after (.l2AgeingScan 10000000000) (learned true) (fun u => (u.l2Find 1 aMac).isNone) = true := by decide

/-- R401: a release to the place of a packet frees those before it; `MARK` in the released part is lost. -/
theorem test_release : after (.tqReleaseWrite 0 1 4) (queued true)
    (fun u => (u.tq 1).rd == 4 && (u.tq 1).packets.length == 1 && !(u.tq 1).markSet) = true := by decide

/-- R413: a tail at or beyond the ring's size is an error. -/
theorem test_tail : after (.ringTailWrite 0 0 16) (ringed 1) (fun u => (u.ring 0).tailErr && (u.ring 0).tail == 1) = true := by
  decide

/-- R428, R430: a host takes the lock of a free engine, and gives it up with the key registers cleared. -/
theorem test_lock : after (.ciphLockWrite 0 0 0x11) (engineAt 0 0 true) (fun u => (u.engine 0).lock == 0x11) = true ∧
    after (.ciphLockWrite 0 0 0) (engineAt 0x11 0 true) (fun u => (u.engine 0).lock == 0 && (u.engine 0).keyRegs == {}) = true := by
  decide

/-- AES-128 of a zero block under a zero key: FIPS-197 by way of test case 1 of the GCM specification. -/
theorem test_aes : aesBlock (aesSchedule (List.replicate 16 0)) (List.replicate 16 0) =
    [0x66, 0xE9, 0x4B, 0xD4, 0xEF, 0x8A, 0x2C, 0x3B, 0x88, 0x4C, 0xFA, 0x59, 0xCA, 0x34, 0x2B, 0x2E] := by decide

/-- Test case 1 of the GCM specification: the tag of nothing. -/
theorem test_gcm : (gcm (List.replicate 16 0) (List.replicate 12 0) [] [] false).2 =
    [0x58, 0xE2, 0xFC, 0xCE, 0xFA, 0x7E, 0x30, 0x61, 0x36, 0x7F, 0x1D, 0x57, 0xA4, 0xE7, 0x45, 0x5A] := by decide

/-- RFC 4493, example 1: the CMAC of nothing. -/
theorem test_cmac : cmac [0x2B, 0x7E, 0x15, 0x16, 0x28, 0xAE, 0xD2, 0xA6, 0xAB, 0xF7, 0x15, 0x88, 0x09, 0xCF, 0x4F, 0x3C] [] =
    [0xBB, 0x1D, 0x69, 0x29, 0xE9, 0x59, 0x37, 0x28, 0x7F, 0xA3, 0x7D, 0x12, 0x9B, 0x75, 0x67, 0x46] := by decide

/-- R365: the seventeenth capture is lost, with EV087. -/
theorem test_capture : after (.timeInCapture 0 0 true) (pinned 16 false)
    (fun u => (u.timeIn 0).lost == 1 && (u.timeIn 0).caps.length == 16 && u.evtBit 87) = true := by decide

/-- R358: from rest, a gap of 1 ms at a limit of 100 ppm takes more than 10 s. -/
theorem test_slew : (let s := up.modTime fun x => { x with slewPpm := 100, fslew := 100000 };
    decide (10000000000 < s.slewEndNs { gap := 1000000 * 65536 })) = true := by decide

/-- R489, R492: an active device whose lease lapses is `FROZEN`. -/
theorem test_lapse : after (.leaseLapse 4000000) (inRole .active .notHeld) (fun u => u.twin.role == .frozen) = true := by decide

/-- R491: a standby claims the token after the lease and the guard time. -/
theorem test_claim : after (.tokenClaim 4200000) (inRole .standby .notHeld) (fun u => u.twin.role == .active) = true ∧
    after (.tokenClaim 4199999) (inRole .standby .notHeld) (fun u => u.twin.role == .standby) = true := by decide

/-- R555: the device sleeps once its outputs have settled; the host no longer reaches it. -/
theorem test_power_off : after (.sleepPowerOff 0) (up.modSlp fun z => { z with ps := .entry, settled := true })
    (fun u => u.slp.ps == .sleep && !u.hostReach && !u.boot.pins.pwrEn) = true := by decide

/-- R603: after the supplies come up, `FAULT_N` is low and nothing is reached until reset ends. -/
theorem test_power_on : after (.powerOn 0) (starting .core fun p => { p with aonOn := false })
    (fun u => u.faultNLow && !u.hostReach && u.boot.pins.aonOn) = true := by decide

/-- R24: a source of severity 4 puts the device into the safe state. -/
theorem test_safe : (up.faultAction 182 4 true).boot.state = 4 := by decide

/-- R289: `sw.class.config` sets eight limits; each of the good request is 100 µs. -/
theorem test_class_config : after (.swClassConfig 0 0) (goodAsk 0x0602)
    (fun u => (List.range 8).all fun c => u.ageNs c == 100000) = true := by decide

/-- R144: `eth.config` with mode 1 on port 0; the mailbox answers `OK`. -/
theorem test_eth_config : after (.ethConfig 0 0) (goodAsk 0x0201)
    (fun u => (u.port 0).cfg.mode == 1 && (u.port 0).cfg.maxFrame == 1518 && (u.mb 0).mstate == 4 &&
      le (u.mb 0).resp 5 1 == stOk) = true := by decide

end Sys2Proof.Tests
end

namespace Sys2Proof.Machine

/-! ## Mailbox commands that firmware runs

What a `Ready` mailbox makes of the frame of a mailbox command (R86 step 4, R620): the guards of the frame and the function
check are behind, and the command's own check decides. -/

theorem State.command_of_ready {s : State} {t m code : Nat} {r : Req} (h : Ready s t m code r)
    (run : State → Req → State) : s.command t m code run = run (s.tick t) r := by
  obtain ⟨hreq, hstate, hidle, hcode, hfw, hcheck⟩ := h
  simp [State.command, hreq, hstate, hidle, hcode, hfw, hcheck]

theorem State.simple_of_refused {s : State} {t m code : Nat} {r : Req} (h : Ready s t m code r)
    {check : State → List Byte → Check} {x : Reply} (hx : check (s.tick t) r.payload = some x)
    (effect : State → List Byte → State × Reply) : s.simple t m code check effect = (s.tick t).complete m x := by
  simp only [State.simple, State.command_of_ready h, hx]

theorem State.simple_of_passed {s : State} {t m code : Nat} {r : Req} (h : Ready s t m code r)
    {check : State → List Byte → Check} (hx : check (s.tick t) r.payload = none)
    (effect : State → List Byte → State × Reply) : s.simple t m code check effect =
      (effect (s.tick t) r.payload).1.complete m (effect (s.tick t) r.payload).2 := by
  simp only [State.simple, State.command_of_ready h, hx]

/-! ## Commands that only read -/

/-- Every form that `exec` runs as a query leaves what a completion leaves of the state it found. -/
theorem QueryForm.runs_of_exec {f : QueryForm}
    (h : ∀ (s : State) (t : Nat) (m : Fin 8), exec (f.make t m) s = .next (s.query t m f.code f.check f.answer)) :
    f.Runs := by
  intro s t m r ready own
  refine ⟨fun x hx => ⟨_, h s t m, ?_⟩, fun hx => ⟨_, h s t m, ?_⟩⟩
  · rw [State.query, State.simple_of_refused ready hx]
    exact State.complete_tells _ _ _ own
  · rw [State.query, State.simple_of_passed ready hx]
    exact State.complete_tells _ _ _ own

theorem exec_queryForms : ∀ f ∈ queryForms, ∀ (s : State) (t : Nat) (m : Fin 8),
    exec (f.make t m) s = .next (s.query t m f.code f.check f.answer) := by
  simp only [queryForms, List.forall_mem_cons]
  exact ⟨fun _ _ _ => rfl, fun _ _ _ => rfl, fun _ _ _ => rfl, fun _ _ _ => rfl, fun _ _ _ => rfl, fun _ _ _ => rfl,
    fun _ _ _ => rfl, fun _ _ _ => rfl, fun _ _ _ => rfl, fun _ _ _ => rfl, fun _ _ _ => rfl, fun _ _ _ => rfl,
    fun _ _ _ => rfl, fun _ _ _ => rfl, List.forall_mem_nil _⟩

/-- Settles O21: each row of `queryForms` runs as a query, and a query leaves no more than its completion. -/
theorem readingCommandsChangeNothing : Obligations.ReadingCommandsChangeNothing := by
  unfold Obligations.ReadingCommandsChangeNothing
  exact fun f hf => QueryForm.runs_of_exec (exec_queryForms f hf)

/-! ## Bits of numbers and of registers -/

theorem mem_range_iff {e lo n : Nat} : e ∈ range lo n ↔ lo ≤ e ∧ e < lo + n := by
  constructor
  · intro h
    obtain ⟨i, hi, rfl⟩ := List.mem_map.mp h
    have := List.mem_range.mp hi
    omega
  · rintro ⟨hlo, hhi⟩
    exact List.mem_map.mpr ⟨e - lo, List.mem_range.mpr (by omega), by omega⟩

theorem bit_eq_testBit (v i : Nat) : bit v i = v.testBit i := Nat.testBit_eq_decide_div_mod_eq.symm

theorem testBit_ofBits (l : List Nat) (i : Nat) : (ofBits l).testBit i = decide (i ∈ l) := by
  have acc (a : Nat) : (l.foldl (fun a i => a ||| 2 ^ i) a).testBit i = (a.testBit i || decide (i ∈ l)) := by
    induction l generalizing a with
    | nil => simp
    | cons j l ih => simp [ih, Nat.testBit_two_pow, Bool.or_assoc, eq_comm]
  simpa [ofBits] using acc 0

theorem getLsbD_clearBit {w : Nat} (x : BitVec w) (v i : Nat) :
    (x &&& ~~~(BitVec.ofNat w (2 ^ v))).getLsbD i = (x.getLsbD i && !decide (i = v)) := by
  by_cases h : i < w
  · simp only [BitVec.getLsbD_and, BitVec.getLsbD_not, BitVec.getLsbD_ofNat, Nat.testBit_two_pow, h, eq_comm (a := v)]
    simp
  · simp [BitVec.getLsbD_of_ge x i (by omega)]

/-! ## Interrupt vectors (R63) -/

/-- The state with other pending vectors, and with other things sent. -/
def State.withVectors (s : State) (sent : List Sent) (pend : BitVec 32) : State :=
  { s with sent := sent, host := { s.host with msix := { s.host.msix with pend := pend } } }

/-- From `s` to `u` nothing moved but the pending vectors and what has been sent: all that requests for vectors and a flush
of them move. -/
def State.VectorsMove (s u : State) : Prop := ∃ sent pend, u = s.withVectors sent pend

theorem State.VectorsMove.refl (s : State) : s.VectorsMove s := ⟨s.sent, s.host.msix.pend, rfl⟩

theorem State.VectorsMove.trans {a b c : State} (h : a.VectorsMove b) (k : b.VectorsMove c) : a.VectorsMove c := by
  obtain ⟨x, p, rfl⟩ := h
  obtain ⟨y, q, rfl⟩ := k
  exact ⟨y, q, rfl⟩

theorem State.VectorsMove.foldl {f : State → Nat → State} (hf : ∀ (s : State) (v : Nat), s.VectorsMove (f s v))
    (l : List Nat) (s : State) : s.VectorsMove (l.foldl f s) :=
  List.foldlRecOn l f (State.VectorsMove.refl s) fun b h v _ => h.trans (hf b v)

theorem State.sendVector_vectorsMove (s : State) (ev : Nat) : s.VectorsMove (s.sendVector ev) := by
  unfold State.sendVector State.msixRequest
  extract_lets x
  split
  · exact State.VectorsMove.refl s
  · split
    · exact ⟨s.sent, _, rfl⟩
    · exact ⟨_, s.host.msix.pend, rfl⟩

/-- A vector may go: MSI-X is enabled, and neither the function nor the vector is masked. -/
def Msix.mayGo (x : Msix) (v : Nat) : Bool := x.enable && !x.fmask && !x.vmask.getLsbD v

theorem State.VectorsMove.mayGo {s u : State} (h : s.VectorsMove u) (v : Nat) :
    u.host.msix.mayGo v = s.host.msix.mayGo v := by
  obtain ⟨x, p, rfl⟩ := h
  rfl

/-- The step of a flush: a pending vector that may go is sent, and is pending no more. -/
def State.flushVector (s : State) (v : Nat) : State :=
  if s.host.msix.mayGo v && s.host.msix.pend.getLsbD v then
    (s.withVectors s.sent (s.host.msix.pend &&& ~~~(BitVec.ofNat 32 (2 ^ v)))).send (.msix v)
  else s

theorem State.msixFlush_eq_foldl (s : State) : s.msixFlush = (List.range 32).foldl State.flushVector s := rfl

theorem State.flushVector_vectorsMove (s : State) (v : Nat) : s.VectorsMove (s.flushVector v) := by
  unfold State.flushVector
  split
  · exact ⟨_, _, rfl⟩
  · exact State.VectorsMove.refl s

theorem State.msixFlush_vectorsMove (s : State) : s.VectorsMove s.msixFlush :=
  State.VectorsMove.foldl State.flushVector_vectorsMove _ s

theorem State.flushVector_pend (s : State) (v i : Nat) : (s.flushVector v).host.msix.pend.getLsbD i =
    (s.host.msix.pend.getLsbD i && !(decide (i = v) && s.host.msix.mayGo i)) := by
  unfold State.flushVector
  split
  · rename_i goes
    rw [Bool.and_eq_true] at goes
    refine (getLsbD_clearBit s.host.msix.pend v i).trans ?_
    by_cases e : i = v
    · subst e
      simp [goes]
    · simp [e]
  · rename_i stays
    by_cases e : i = v
    · subst e
      cases h : s.host.msix.pend.getLsbD i
      · rfl
      · have masked : s.host.msix.mayGo i = false := by simpa [h] using stays
        simp [masked]
    · simp [e]

theorem State.foldl_flushVector_pend (l : List Nat) (s : State) (i : Nat) :
    (l.foldl State.flushVector s).host.msix.pend.getLsbD i =
      (s.host.msix.pend.getLsbD i && !(decide (i ∈ l) && s.host.msix.mayGo i)) := by
  induction l generalizing s with
  | nil => simp
  | cons v l ih =>
    rw [List.foldl_cons, ih, State.flushVector_pend, (State.flushVector_vectorsMove s v).mayGo]
    by_cases e : i = v <;> cases s.host.msix.mayGo i <;> simp [e]

/-- A flush moves vectors alone, and after it no vector is pending that may go. -/
theorem State.msixFlush_spec (s : State) : s.VectorsMove s.msixFlush ∧
    ∀ v < 32, s.msixFlush.host.msix.mayGo v = true → s.msixFlush.host.msix.pend.getLsbD v = false := by
  refine ⟨s.msixFlush_vectorsMove, fun v hv go => ?_⟩
  rw [s.msixFlush_vectorsMove.mayGo] at go
  rw [State.msixFlush_eq_foldl, State.foldl_flushVector_pend]
  simp [hv, go]

/-! ## Writes of the event registers (R6, R8, R77, R78) -/

/-- A W1C write of one status register (R6, R8, R77): the bits written with 1 fall, but for those whose source occurs at
the same instant; beside the status only the marks of what was sent then, and vectors, move. -/
theorem State.evtClear_spec (s : State) (k : Nat) (v : Word) : ∃ status setAt,
    State.VectorsMove { s with host := { s.host with evtStatus := status, evtSetAt := setAt } } (s.evtClear k v) ∧
    ∀ e < 128, status.getLsbD e = (s.host.evtStatus.getLsbD e && !(decide (e / 32 = k) && v.getLsbD (e % 32) &&
      decide ((s.host.evtSetAt.find e).map Prod.fst ≠ some s.now))) := by
  unfold State.evtClear
  extract_lets h0 names same gone due s'
  refine ⟨_, _, State.VectorsMove.foldl State.sendVector_vectorsMove (due.filter s.evtUnmasked) s', fun e he => ?_⟩
  have named : (decide (e / 32 = k) && v.getLsbD (e % 32)) = decide (e ∈ names) := by
    have hdiv : (32 * k ≤ e ∧ e < 32 * k + 32) ↔ e / 32 = k := by omega
    have hmod : e / 32 = k → e - 32 * k = e % 32 := by omega
    by_cases h : e / 32 = k <;>
      simp [names, mem_range_iff, bit_eq_testBit, BitVec.testBit_toNat, hdiv, hmod, h]
  have now : e ∈ same ↔ e ∈ names ∧ (s.host.evtSetAt.find e).map Prod.fst = some s.now ∧
      s.host.evtStatus.getLsbD e = true := by
    simp only [same, List.mem_filter]
    cases s.host.evtSetAt.find e <;> simp [State.evtBit]
  have falls : (ofBits (names.filter fun e => !same.contains e)).testBit e = decide (e ∈ names ∧ e ∉ same) := by
    simp [testBit_ofBits]
  simp only [gone, BitVec.getLsbD_and, BitVec.getLsbD_not, BitVec.getLsbD_ofNat, falls, named, he, decide_true,
    Bool.true_and]
  by_cases hn : e ∈ names
  · cases h : s.host.evtStatus.getLsbD e <;> simp [hn, now, h]
  · simp [hn]

/-- A write of one mask register (R77, R78): it sets that register; beside it only vectors move. -/
theorem State.evtMaskWrite_spec (s : State) (k : Nat) (v : Word) : ∃ mask,
    State.VectorsMove { s with host := { s.host with evtMask := mask } } (s.evtMaskWrite k v) ∧
    ∀ e < 128, mask.getLsbD e = if e / 32 = k then v.getLsbD (e % 32) else s.host.evtMask.getLsbD e := by
  unfold State.evtMaskWrite
  extract_lets h0 old new s'
  refine ⟨new, State.VectorsMove.foldl State.sendVector_vectorsMove _ s', fun e he => ?_⟩
  have ones : (0xFFFFFFFF : Nat) = 2 ^ 32 - 1 := rfl
  simp only [new, old, ones, BitVec.getLsbD_or, BitVec.getLsbD_and, BitVec.getLsbD_not, BitVec.getLsbD_ofNat,
    Nat.testBit_mul_two_pow, Nat.testBit_two_pow_sub_one, BitVec.testBit_toNat, he, decide_true, Bool.true_and]
  by_cases h : e / 32 = k
  · have lo : 32 * k ≤ e := by omega
    have off : e - 32 * k = e % 32 := by omega
    simp [h, lo, off, Nat.mod_lt]
  · by_cases lo : 32 * k ≤ e
    · have out : 32 ≤ e - 32 * k := by omega
      simp [h, lo, out]
    · simp [h, lo]

theorem State.hostWrites_of_reach {s : State} {t : Nat} (h : (s.tick t).hostReach = true) (f : State → State) :
    s.hostWrites t f = f (s.tick t) := by
  simp [State.hostWrites, h]

theorem State.bar0Write_evtStatus (s : State) (k : Fin 4) {data : List Byte} (h : data.length = 4) :
    s.bar0Write (0x100 + 4 * k) data 15 = s.evtClear k (BitVec.ofNat 32 (leNum data)) := by
  have align : (0x100 + 4 * k.val) % 4 = 0 := by omega
  have sub : 0x100 + 4 * k.val - 0x100 = 4 * k.val := by omega
  have index : 4 * k.val / 4 = k.val := by omega
  have events : inRange (0x100 + 4 * k.val) 0x100 0x1FF = true := by simp [inRange]; omega
  have noScratch : ¬0x100 + 4 * k.val = 0x20 := by omega
  have status : 4 * k.val < 0x10 := by omega
  simp only [State.bar0Write, State.hostWriteWord, State.evtRegWrite, h, align, sub, index, events, noScratch, status]
  rfl

theorem exec_evtStatusWrite_of_reach {s : State} {t : Nat} (reach : (s.tick t).hostReach = true) (k : Fin 4)
    {data : List Byte} (h : data.length = 4) : exec (.registerWrite t 0 (0x100 + 4 * k) data 15) s =
      .next ((s.tick t).evtClear k (BitVec.ofNat 32 (leNum data))) := by
  have inBar : 0x100 + 4 * k.val + data.length ≤ 0x10000 := by omega
  rw [exec_registerWrite, execRegisterWrite, State.hostWrites_of_reach reach, State.bar0Write_evtStatus _ k h]
  simp only [inBar, decide_true, Bool.and_self, if_true]

theorem exec_evtMaskWrite_of_reach {s : State} {t : Nat} (reach : (s.tick t).hostReach = true) (k : Fin 4) (v : Word) :
    exec (.evtMaskWrite t k v) s = .next ((s.tick t).evtMaskWrite k v) := by
  rw [exec_evtMaskWrite, execEvtMaskWrite, State.hostWrites_of_reach reach]

theorem exec_evtLogRelease_of_reach {s : State} {t : Nat} (reach : (s.tick t).hostReach = true) (v : Word) :
    exec (.evtLogRelease t v) s = .next ((s.tick t).evtRelease v.toNat) := by
  rw [exec_evtLogRelease, execEvtLogRelease, State.hostWrites_of_reach reach]

theorem exec_msixVectorUnmask_of_reach {s : State} {t : Nat} (reach : (s.tick t).hostReach = true)
    (perst : s.host.perst = false) (w : MsixUnmask) : exec (.msixVectorUnmask t w) s =
      .next ((s.tick t).modHost fun h => { h with msix := h.msix.unmask w }).msixFlush := by
  have noReset : (s.tick t).host.perst = false := perst
  simp only [exec_msixVectorUnmask, execMsixVectorUnmask, reach, noReset]
  rfl

/-- Settles O12: each write is one operation of the event registers, and beyond its register it moves vectors alone. -/
theorem eventRegisterWrites : Obligations.EventRegisterWrites := by
  unfold Obligations.EventRegisterWrites
  intro s t reach
  refine ⟨fun k data hlen => ⟨_, exec_evtStatusWrite_of_reach reach k hlen, ?_⟩,
    fun k v => ⟨_, exec_evtMaskWrite_of_reach reach k v, ?_⟩,
    fun v => exec_evtLogRelease_of_reach reach v,
    fun perst w => ⟨_, exec_msixVectorUnmask_of_reach reach perst w, ?_⟩⟩
  · obtain ⟨status, setAt, ⟨sent, pend, moved⟩, hstatus⟩ :=
      (s.tick t).evtClear_spec k (BitVec.ofNat 32 (leNum data))
    rw [moved]
    refine ⟨rfl, fun e he => (hstatus e he).trans ?_⟩
    rw [BitVec.getLsbD_ofNat, decide_eq_true (Nat.mod_lt e (by decide)), Bool.true_and]
    rfl
  · obtain ⟨mask, ⟨sent, pend, moved⟩, hmask⟩ := (s.tick t).evtMaskWrite_spec k v
    rw [moved]
    exact ⟨rfl, rfl, rfl, hmask⟩
  · obtain ⟨⟨sent, pend, moved⟩, flushed⟩ :=
      State.msixFlush_spec ((s.tick t).modHost fun h => { h with msix := h.msix.unmask w })
    rw [moved] at flushed ⊢
    exact ⟨rfl, rfl, fun v hv on noFmask noVmask => flushed v hv (by simp [Msix.mayGo, on, noFmask, noVmask])⟩

end Sys2Proof.Machine

namespace Sys2Proof.Machine

/-! ## Actions of the fault collector (R468, R470, R471)

Outside the safe state the severity chooses among the units, the island and the whole device; in it no action is left. -/

theorem State.faultAction_of_safeState {s : State} (safe : s.boot.state = 4) (n sev : Nat) (latch : Bool) :
    s.faultAction n sev latch = s := by
  simp [State.faultAction, safe]

theorem State.faultAction_of_sev_le_one (s : State) (n : Nat) {sev : Nat} (minor : sev ≤ 1) (latch : Bool) :
    s.faultAction n sev latch = s := by
  have not2 : sev ≠ 2 := by omega
  have not3 : sev ≠ 3 := by omega
  have not4 : sev ≠ 4 := by omega
  simp [State.faultAction, not2, not3, not4]

section
variable {s : State} (run : s.boot.state ≠ 4) (n : Nat) (latch : Bool)
include run

theorem State.faultAction_four : s.faultAction n 4 latch = s.safeState := by
  simp [State.faultAction, run]

theorem State.faultAction_three_of_aon (aon : srcRestartIsland n = 6) : s.faultAction n 3 latch = s.safeState := by
  simp [State.faultAction, run, aon]

theorem State.faultAction_three (other : srcRestartIsland n ≠ 6) : s.faultAction n 3 latch =
    if latch then s.holdIsland (srcRestartIsland n) n else s.restartIsland (srcRestartIsland n) n := by
  simp [State.faultAction, run, other]

theorem State.faultAction_two : s.faultAction n 2 latch =
    s.each (s.srcUnits n) fun s u => if latch then s.holdUnit u n else s.restartUnit u n := by
  simp [State.faultAction, run]

end

/-- No broken-wire source lies in the Always-On Island, so a source of it restarts it, but for the isolation sources FS000 to
FS006, which restart the island that they name (R624). -/
theorem srcRestartIsland_of_aon {k : Nat} (aon : srcIsland k = 6) : srcRestartIsland k = 6 ∨ k ≤ 6 := by
  by_cases low : k ≤ 6
  · exact .inr low
  · have notWire : inRange k 240 246 = false := by
      by_contra wire
      have wireRange : 240 ≤ k ∧ k ≤ 246 := by simpa [inRange] using wire
      have control : srcIsland k = 5 := by
        simp only [srcIsland]
        repeat rw [if_neg (by omega)]
      omega
    exact .inl (by simp [srcRestartIsland, low, notWire, aon])

/-- Settles O51: the branches of the action, one severity after the other. -/
theorem faultActionsBySeverity : Obligations.FaultActionsBySeverity := by
  unfold Obligations.FaultActionsBySeverity
  intro s n latch
  refine ⟨fun sev safe => State.faultAction_of_safeState safe n sev latch,
    fun sev minor => s.faultAction_of_sev_le_one n minor latch,
    fun run => ⟨State.faultAction_four run n latch, State.faultAction_three_of_aon run n latch,
      fun other => ⟨State.faultAction_three run n true other, State.faultAction_three run n false other⟩,
      fun u one => ?_⟩,
    fun k _ _ aon => srcRestartIsland_of_aon aon⟩
  rw [State.faultAction_two run, State.faultAction_two run, one]
  exact ⟨rfl, rfl⟩

/-! ## Units and islands that restart (R23, R25, R468, R469) -/

theorem exec_unitRestartDone_of_up {s : State} {t : Nat} {i : Fin 7} {u : Fin 64}
    (restarts : ((s.tick t).unitSt i u).restarting = true) (up : (s.tick t).islandUp i = true)
    (control : (s.tick t).islandUp 5 = true) :
    exec (.unitRestartDone t i u) s = .next ((s.tick t).unitBack ⟨i, u⟩) := by
  simp [execUnitRestartDone, restarts, up, control]

theorem exec_unitRestartDone_of_idle {s : State} {t : Nat} {i : Fin 7} {u : Fin 64}
    (idle : ((s.tick t).unitSt i u).restarting = false) : exec (.unitRestartDone t i u) s = .next (s.tick t) := by
  simp [execUnitRestartDone, idle]

theorem exec_unitRestartEscalation_of_idle {s : State} {t : Nat} {i : Fin 7} {u : Fin 64}
    (idle : ((s.tick t).unitSt i u).restarting = false) : exec (.unitRestartEscalation t i u) s = .next (s.tick t) := by
  simp [execUnitRestartEscalation, idle]

/-- A unit that restarts under no source, and has not returned in 50 ms, takes its island with it. -/
theorem exec_unitRestartEscalation_of_late {s : State} {t : Nat} {i : Fin 7} {u : Fin 64}
    (restarts : ((s.tick t).unitSt i u).restarting = true) (control : (s.tick t).islandUp 5 = true) (notAon : i.val ≠ 6)
    (noSource : ((s.tick t).unitSt i u).cause = 0xFF)
    (late : max ((s.tick t).unitSt i u).since (if i.val = 5 then 0 else ((s.tick t).isl 5).backAt) + 50000000 ≤
      (s.tick t).now) :
    exec (.unitRestartEscalation t i u) s = .next ((s.tick t).restartIsland i 0xFF) := by
  simp only [exec_unitRestartEscalation, execUnitRestartEscalation, restarts, control, noSource, Nat.not_lt.mpr late,
    notAon, Bool.not_true, Bool.or_self, Bool.false_eq_true, decide_false, if_true, if_false]

theorem exec_islandRestartDone_of_restarts {s : State} {t : Nat} {i : Fin 7}
    (restarts : ((s.tick t).isl i).restarting = true) (run : (s.tick t).boot.state ≠ 4)
    (control : i.val = 5 ∨ (s.tick t).islandUp 5 = true) :
    exec (.islandRestartDone t i) s = .next ((s.tick t).islandBack i).twinReview := by
  have may : (i.val == 5 || (s.tick t).islandUp 5) = true := by simpa using control
  simp [execIslandRestartDone, restarts, run, may, -State.tick_fields]

theorem exec_islandRestartDone_of_idle {s : State} {t : Nat} {i : Fin 7}
    (idle : ((s.tick t).isl i).restarting = false) : exec (.islandRestartDone t i) s = .next (s.tick t) := by
  simp [execIslandRestartDone, idle]

/-! ## Strait channels that time out (R20) -/

@[simp] theorem State.chan_modChan (s : State) (i j : Nat) (f : Chan → Chan) :
    (s.modChan i j f).chan i j = f (s.chan i j) := Tab.get_modify_same _ _ _ _

/-- The packet in progress on the channel from island `i` to island `j` has ended spoiled: one of those that may be in
progress, a free value (log entry 3). -/
def State.packetSpoiled (s : State) (i j : Nat) : State :=
  let l := s.onChannel i j
  let d := s.drawBelow (max 1 l.length)
  match l[d.1]? with
  | some f => f d.2
  | none => d.2

/-- A packet that ends takes no time. -/
theorem State.packetSpoiled_now (s : State) (i j : Nat) : (s.packetSpoiled i j).now = s.now := by
  have drawn : Keeps Area.all s (s.drawBelow (max 1 (s.onChannel i j).length)).2 := State.drawBelow_keeps (Keeps.refl s)
  unfold State.packetSpoiled
  extract_lets l d
  split
  · exact (State.onChannel_keeps (Within.any _) (List.mem_of_getElem? ‹_›) drawn).now
  · exact drawn.now

/-- A handshake that times out spoils a packet, resets the channel, and fires the far island's source for a unit. -/
theorem exec_handshakeTimeout_of_open {s : State} {t : Nat} {i j : Fin 7} (joined : channelWidth i j ≠ 0)
    (near : (s.tick t).islandUp i = true) (far : (s.tick t).islandUp j = true) (isOpen : (s.tick t).chanOpen i j = true) :
    exec (.handshakeTimeout t i j) s = .next
      ((((((s.tick t).packetSpoiled i j).drawBelow (unitCount j)).2.modChan i j fun c => { c with
        resetAt := some (s.tick t).now }).toldFlush).pulse j
          (j * 64 + (((s.tick t).packetSpoiled i j).drawBelow (unitCount j)).1)) := by
  rw [← (s.tick t).packetSpoiled_now i j, exec_handshakeTimeout, execHandshakeTimeout]
  simp only [joined, near, far, isOpen]
  rfl

theorem exec_handshakeTimeout_of_apart {s : State} {t : Nat} {i j : Fin 7}
    (apart : channelWidth i j = 0 ∨ (s.tick t).islandUp j = false) :
    exec (.handshakeTimeout t i j) s = .next (s.tick t) := by
  obtain unjoined | down := apart
  · simp [execHandshakeTimeout, unjoined]
  · simp [execHandshakeTimeout, down]

/-- While a reset handshake waits, the end of the near end's timeout alone closes the channel. -/
theorem exec_channelResetTimeout_of_waiting {s : State} {t : Nat} {i j : Fin 7} {r : Nat}
    (waits : ((s.tick t).chan i j).resetAt = some r) : exec (.channelResetTimeout t ⟨i, j⟩) s =
      .next (if r + ((s.tick t).isl i).straitNs ≤ (s.tick t).now then
        (s.tick t).modChan i j fun _ => { closed := true } else s.tick t) := by
  simp [execChannelResetTimeout, waits]

theorem exec_channelResetTimeout_of_answered {s : State} {t : Nat} {i j : Fin 7}
    (answered : ((s.tick t).chan i j).resetAt = none) : exec (.channelResetTimeout t ⟨i, j⟩) s = .next (s.tick t) := by
  simp [execChannelResetTimeout, answered]

/-! ## Checks on the outside world (R21, R364, R478, R479) -/

/-- The storm of a pin group is noted, with `n` removed pulses counted. -/
def State.stormCounted (s : State) (g n : Nat) : State :=
  (s.modFlt fun f => { f with storm := setBit f.storm g true }).count 12 (0x20000 + g) ctrPinGlitchesRemoved n

theorem exec_glitchStorm_on (s : State) (t : Nat) (g : Fin 10) : exec (.glitchStorm t g true) s =
    .next (((s.tick t).draw.2.stormCounted g (101 + (s.tick t).draw.1)).report (192 + g)) := rfl

theorem exec_glitchStorm_off (s : State) (t : Nat) (g : Fin 10) : exec (.glitchStorm t g false) s =
    .next (if bit (s.tick t).flt.storm g then
      ((s.tick t).modFlt fun f => { f with storm := setBit f.storm g false }).quieten (192 + g) else s.tick t) := by
  simp only [exec_glitchStorm, execGlitchStorm, Bool.false_eq_true, if_false]
  split <;> rfl

/-- The island whose timer fails a recalibration, and the state after its choice: in sleep the Always-On Island, else a free
value (log entry 3). -/
def State.timerIsland (s : State) : Nat × State := if s.slp.ps == .sleep then (6, s) else s.drawBelow 7

theorem State.timerIsland_flt (s : State) : s.timerIsland.2.flt = s.flt := by
  unfold State.timerIsland
  split <;> rfl

theorem State.timerIsland_of_sleep {s : State} (asleep : s.slp.ps = .sleep) : s.timerIsland = (6, s) := by
  simp [State.timerIsland, asleep]

theorem exec_timerRecalibration_of_runs {s : State} {t : Nat}
    (runs : (s.tick t).slp.ps = .sleep ∨ (s.tick t).unitUp ⟨5, 7⟩ = true) (ok : Bool) :
    exec (.timerRecalibration t ok) s = .next (if ok then (s.tick t).quieten 183 else
      ((s.tick t).timerIsland.2.drawBelow (unitCount (s.tick t).timerIsland.1)).2.report 183
        ((s.tick t).timerIsland.1 * 64 +
          ((s.tick t).timerIsland.2.drawBelow (unitCount (s.tick t).timerIsland.1)).1)) := by
  have mayRun : (!(s.tick t).slp.ps == .sleep && !(s.tick t).unitUp ⟨5, 7⟩) = false := by
    obtain asleep | up := runs
    · simp [asleep, -State.tick_fields]
    · simp [up]
  simp only [exec_timerRecalibration, execTimerRecalibration, mayRun, Bool.false_eq_true, if_false]
  cases ok <;> rfl

theorem exec_timerRecalibration_of_stopped {s : State} {t : Nat} (awake : (s.tick t).slp.ps ≠ .sleep)
    (stopped : (s.tick t).unitUp ⟨5, 7⟩ = false) (ok : Bool) : exec (.timerRecalibration t ok) s = .next (s.tick t) := by
  simp [execTimerRecalibration, awake, stopped, -State.tick_fields]

theorem exec_mdioTimeout_of_first {s : State} {t : Nat} {i : Fin 2} (first : bit (s.tick t).flt.mdioRetry i = false) :
    exec (.mdioTimeout t i) s = .next ((s.tick t).modFlt fun f => { f with
      mdioRetry := setBit f.mdioRetry i true }) := by
  simp [execMdioTimeout, first, -State.tick_fields]

theorem exec_safeStateOutputRelease_of_held {s : State} {t r : Nat} (held : (s.tick t).boot.pins.outputsHeld = some r) :
    exec (.safeStateOutputRelease t) s = .next (if (s.tick t).boot.state = 4 ∧ r ≤ (s.tick t).now then
      ((s.tick t).timeOutsInactive.tdmInactive).modBoot fun b => { b with pins := { b.pins with outputsHeld := none } }
    else s.tick t) := by
  simp [execSafeStateOutputRelease, held, -State.tick_fields]

/-- Settles O52: each command by the branches of its guard, from the lemmas above. -/
theorem restartsReturnOrEscalate : Obligations.RestartsReturnOrEscalate := by
  unfold Obligations.RestartsReturnOrEscalate
  intro s t a
  refine ⟨fun i u => exec_unitRestartDone_of_up,
    fun i u idle => ⟨exec_unitRestartDone_of_idle idle, exec_unitRestartEscalation_of_idle idle⟩,
    fun i u => exec_unitRestartEscalation_of_late,
    fun i => exec_islandRestartDone_of_restarts,
    fun i => exec_islandRestartDone_of_idle,
    fun i j joined near far isOpen => ⟨_, _, exec_handshakeTimeout_of_open joined near far isOpen, by simp [a]⟩,
    fun i j => exec_handshakeTimeout_of_apart,
    fun i j r waits => ⟨fun late => ?_, fun early => ?_⟩,
    fun i j => exec_channelResetTimeout_of_answered,
    fun g => ⟨⟨_, _, exec_glitchStorm_on s t g, by omega, rfl, rfl⟩, fun on => ?_, fun off => ?_⟩,
    fun runs => ⟨exec_timerRecalibration_of_runs runs true, _, _, exec_timerRecalibration_of_runs runs false,
      a.timerIsland_flt, fun asleep => ?_⟩,
    exec_timerRecalibration_of_stopped,
    fun i => ⟨_, rfl, fun first => Host.Outcome.next.inj (exec_mdioTimeout_of_first first)⟩,
    rfl,
    fun r held safe late => ?_,
    fun r held early => ?_⟩
  · rw [exec_channelResetTimeout_of_waiting waits, if_pos late]
  · rw [exec_channelResetTimeout_of_waiting waits, if_neg (Nat.not_le.mpr early)]
  · rw [exec_glitchStorm_off, if_pos on]
  · rw [exec_glitchStorm_off, if_neg (ne_true_of_eq_false off)]
  · rw [State.timerIsland_of_sleep asleep]
    exact Nat.le_add_right 384 _
  · rw [exec_safeStateOutputRelease_of_held held, if_pos ⟨safe, late⟩]
  · rw [exec_safeStateOutputRelease_of_held held, if_neg fun both => absurd both.2 (Nat.not_le.mpr early)]

end Sys2Proof.Machine

namespace Sys2Proof.Machine

/-! ## Arrival at a port (R35, R511) -/

/-- A port in service holds the frame that arrives, whatever becomes of it behind the port. -/
theorem State.ingress_of_inService {s : State} {p : Nat} (enabled : (s.port p).enabled = true)
    (linkUp : (s.port p).linkUp = true) (awake : (s.port p).portSleep = false) (up : s.unitUp (portUnit p) = true)
    (frame : List Byte) (entry : Entry) (par : List (Nat × Nat)) :
    ∃ (u : State) (f : Nat), s.ingress p frame entry par = u.modPort p fun y => { y with rx := some f } := by
  have inService : ¬(!(s.port p).enabled || !(s.port p).linkUp || (s.port p).portSleep ||
      !s.unitUp (portUnit p)) = true := by
    simp [enabled, linkUp, awake, up]
  exact ⟨_, _, if_neg inService⟩

theorem State.ingress_of_outOfService {s : State} {p : Nat} (out : (s.port p).enabled = false ∨
      (s.port p).linkUp = false ∨ (s.port p).portSleep = true ∨ s.unitUp (portUnit p) = false)
    (frame : List Byte) (entry : Entry) (par : List (Nat × Nat)) : s.ingress p frame entry par = s := by
  refine if_pos ?_
  obtain disabled | linkDown | asleep | unitDown := out
  · simp [disabled]
  · simp [linkDown]
  · simp [asleep]
  · simp [unitDown]

theorem exec_causewayFrameReceive_of_causeway {s : State} {t : Nat} {p : Fin 24}
    (causeway : ((s.tick t).port p).cfg.causeway = true) (b : List Byte) (e : Entry) (par : List (Nat × Nat)) :
    exec (.causewayFrameReceive t p b ⟨e, par⟩) s = .next ((s.tick t).ingress p b e par) :=
  congrArg Host.Outcome.next (if_pos causeway)

theorem exec_causewayFrameReceive_of_ethernet {s : State} {t : Nat} {p : Fin 24}
    (ethernet : ((s.tick t).port p).cfg.causeway = false) (b : List Byte) (e : Entry) (par : List (Nat × Nat)) :
    exec (.causewayFrameReceive t p b ⟨e, par⟩) s = .next (s.tick t) :=
  congrArg Host.Outcome.next (if_neg (ne_true_of_eq_false ethernet))

/-! ## Verdict and admission, each once (R36, R214, R263, R268) -/

theorem State.verdict_of_given {s : State} {f : Nat} (given : (s.frame f).verdict ≠ 0) (cut : Bool) :
    s.verdict f cut = s := by
  simp [State.verdict, given]

theorem State.frameAdmit_of_fixed {s : State} {f : Nat} (fixed : (s.frame f).fixed = true) : s.frameAdmit f = s := by
  simp [State.frameAdmit, fixed]

/-- A frame that the receive filter dropped takes no reference: its admission fixes it, and it leaves if its verdict has
come. -/
theorem State.frameAdmit_of_filtered {s : State} {f : Nat} (present : (s.sw.frames.find f).isSome = true)
    (unfixed : (s.frame f).fixed = false) (unspoiled : (s.frame f).verdict ≠ 2) (filtered : (s.frame f).dropRx = 1)
    (portOpen : (s.frame f).portOk = false) :
    s.frameAdmit f = (s.modFrame f fun x => { x with fixed := true }).retire f := by
  have known : (s.sw.frames.find f).isNone = false := by rw [← Option.not_isSome, present]; rfl
  simp [State.frameAdmit, known, unfixed, unspoiled, filtered, portOpen]

/-- With no command waiting, nothing shares the instant of an admission. -/
theorem exec_frameAdmission_of_alone {s : State} {t : Nat} (alone : (s.tick t).pending = []) (f : Nat) :
    exec (.frameAdmission t f) s = .next ((s.tick t).frameAdmit f) := by
  have first : (s.tick t).instantFirst t = s.tick t := by rw [State.instantFirst, alone, List.foldl_nil]
  have admits : (s.tick t).instantAdmits t f = [f] := by rw [State.instantAdmits, alone]; rfl
  simp only [exec_frameAdmission, execFrameAdmission, first, admits]
  rfl

/-! ## A frame not fixed in time (R215) -/

theorem exec_versionExpiry_of_late {s : State} {t f : Nat} (present : ((s.tick t).sw.frames.find f).isSome = true)
    (unfixed : ((s.tick t).frame f).fixed = false) (parsed : ((s.tick t).frame f).placed = false)
    (unjudged : ((s.tick t).frame f).verdict = 0) (late : ((s.tick t).frame f).atNs + 40000 ≤ (s.tick t).now) :
    exec (.versionExpiry t f) s = .next (((s.tick t).count 4 0 ctrParseVerExpired).spoilFrame f).toldFlush :=
  congrArg Host.Outcome.next
    (if_pos (by simp [present, unfixed, parsed, unjudged, late, -State.tick_fields]))

theorem exec_versionExpiry_of_early {s : State} {t f : Nat}
    (early : (s.tick t).now < ((s.tick t).frame f).atNs + 40000) : exec (.versionExpiry t f) s = .next (s.tick t) :=
  congrArg Host.Outcome.next (if_neg (by simp [Nat.not_le.mpr early, -State.tick_fields]))

/-- Settles O37: each command is one operation of the forwarding path, split by the guard that stands before it. -/
theorem framesArriveAndAreJudged : Obligations.FramesArriveAndAreJudged := by
  unfold Obligations.FramesArriveAndAreJudged
  intro s t a
  refine ⟨fun p b e par => ⟨rfl, fun enabled linkUp awake up => ?_, fun out => ?_,
      fun causeway => exec_causewayFrameReceive_of_causeway causeway b e par,
      fun ethernet => exec_causewayFrameReceive_of_ethernet ethernet b e par⟩,
    fun f cut => ⟨rfl, fun given => congrArg Host.Outcome.next (State.verdict_of_given given cut)⟩,
    fun alone f => ⟨exec_frameAdmission_of_alone alone f, fun fixed => ?_,
      fun present unfixed unspoiled filtered portOpen => ?_⟩,
    fun f => exec_versionExpiry_of_late,
    fun f => exec_versionExpiry_of_early⟩
  · obtain ⟨u, f, taken⟩ := State.ingress_of_inService enabled linkUp awake up b e par
    rw [taken, State.port_modPort]
    rfl
  · exact congrArg Host.Outcome.next (State.ingress_of_outOfService out b e par)
  · rw [exec_frameAdmission_of_alone alone, State.frameAdmit_of_fixed fixed]
  · rw [exec_frameAdmission_of_alone alone,
      State.frameAdmit_of_filtered present unfixed unspoiled filtered portOpen]

end Sys2Proof.Machine

namespace Sys2Proof.Machine

/-! ## The invariant (R75, log entry 5) -/

theorem State.inv_iff {s : State} : s.inv = true ↔ Memory.wf s.windows = true ∧ s.pending.all Instr.wf = true := by
  simp [State.inv]

/-- A command touches neither the queue nor the canonical form of the windows, so its next state meets the invariant. -/
theorem exec_keeps_inv {c : Instr} {s u : State} (ran : exec c s = .next u) (inv : s.inv = true) : u.inv = true := by
  obtain ⟨t, kept⟩ := exec_keeps c s
  have kept : Keeps Area.all (s.tick t) u := by rwa [ran] at kept
  have queue : u.pending = s.pending := kept.pending
  obtain ⟨canonical, waiting⟩ := State.inv_iff.mp inv
  exact State.inv_iff.mpr ⟨kept.wf canonical, queue ▸ waiting⟩

/-- Settles O2: at reset the windows are empty and no command waits. -/
theorem resetKeepsTheInvariant : Obligations.ResetKeepsTheInvariant := by
  unfold Obligations.ResetKeepsTheInvariant
  exact State.inv_iff.mpr ⟨rfl, rfl⟩

/-- Settles O3: an empty queue idles; else the front command runs, and the queue without it still meets the invariant. -/
theorem everyStepKeepsTheInvariant : Obligations.EveryStepKeepsTheInvariant := by
  unfold Obligations.EveryStepKeepsTheInvariant
  intro s s' inv ran
  unfold step at ran
  split at ran
  · cases ran
    exact inv
  · rename_i c rest queue
    obtain ⟨canonical, waiting⟩ := State.inv_iff.mp inv
    rw [queue, List.all_cons, Bool.and_eq_true] at waiting
    exact exec_keeps_inv ran (State.inv_iff.mpr ⟨canonical, waiting.2⟩)

/-! ## Which commands continue (R61, R74, R75) -/

/-- The outcome is a next state. -/
def Continues (o : Host.Outcome State Fault Refusal) : Prop := ∃ u : State, o = .next u

theorem Continues.ite {c : Prop} [Decidable c] {a b : Host.Outcome State Fault Refusal} (ha : Continues a)
    (hb : Continues b) : Continues (if c then a else b) := by
  split
  · exact ha
  · exact hb

theorem Continues.ne_refused {o : Host.Outcome State Fault Refusal} (h : Continues o) (r : Refusal) :
    o ≠ .refused r := by
  obtain ⟨u, rfl⟩ := h
  nofun

theorem Continues.ne_fault {o : Host.Outcome State Fault Refusal} (h : Continues o) (f : Fault) : o ≠ .fault f := by
  obtain ⟨u, rfl⟩ := h
  nofun

/-- The command is a register write, the one command that may stop. -/
def isRegisterWrite : Instr → Bool
  | .registerWrite .. => true
  | _ => false

/-- Every other command continues: its meaning is a next state, behind a guard for those named here. -/
theorem exec_continues {c : Instr} (other : isRegisterWrite c = false) (s : State) : Continues (exec c s) := by
  cases c with
  | registerWrite t bar off data be => nomatch other
  | brokenPair t src high => exact Continues.ite ⟨_, rfl⟩ ⟨_, rfl⟩
  | brokenPairRestored t src => exact Continues.ite ⟨_, rfl⟩ ⟨_, rfl⟩
  | handshakeTimeout t near far => exact Continues.ite ⟨_, rfl⟩ ⟨_, rfl⟩
  | glitchStorm t group on => exact Continues.ite ⟨_, rfl⟩ (Continues.ite ⟨_, rfl⟩ ⟨_, rfl⟩)
  | timerRecalibration t ok => exact Continues.ite ⟨_, rfl⟩ (Continues.ite ⟨_, rfl⟩ ⟨_, rfl⟩)
  | leaseInChange t reading => exact Continues.ite ⟨_, rfl⟩ ⟨_, rfl⟩
  | twinMirrorReceived t body => exact Continues.ite ⟨_, rfl⟩ ⟨_, rfl⟩
  | twinResyncReceived t body => exact Continues.ite ⟨_, rfl⟩ ⟨_, rfl⟩
  | twinHelloReceived t body => exact Continues.ite ⟨_, rfl⟩ ⟨_, rfl⟩
  | shadowTimeout t b => exact Continues.ite ⟨_, rfl⟩ ⟨_, rfl⟩
  | twinHealthSend t => exact Continues.ite ⟨_, rfl⟩ ⟨_, rfl⟩
  | twinHealthReceived t body => exact Continues.ite ⟨_, rfl⟩ ⟨_, rfl⟩
  | bistSlice t pass => exact Continues.ite ⟨_, rfl⟩ (Continues.ite ⟨_, rfl⟩ ⟨_, rfl⟩)
  | jtagInstruction t i => exact Continues.ite ⟨_, rfl⟩ ⟨_, rfl⟩
  | perstN t level => exact Continues.ite ⟨_, rfl⟩ ⟨_, rfl⟩
  | _ => exact ⟨_, rfl⟩

/-- The device has an access of the host to a BAR: the BAR exists, and the access ends within it. -/
def barHas (bar off len : Nat) : Prop := off + len ≤ barSize bar ∧ 0 < barSize bar

/-- BAR0, BAR2 and the configuration space are all that the spec gives the device. -/
theorem barHas_iff {bar off len : Nat} : barHas bar off len ↔
    (bar = 0 ∧ off + len ≤ 0x10000) ∨ (bar = 2 ∧ off + len ≤ 0x800000) ∨ (bar = 0xFF ∧ off + len ≤ 0x1000) := by
  unfold barHas barSize
  split_ifs <;> omega

theorem exec_registerWrite_of_mapped {bar off be t : Nat} {data : List Byte} (mapped : barHas bar off data.length)
    (s : State) : Continues (exec (.registerWrite t bar off data be) s) := by
  rw [exec_registerWrite, execRegisterWrite]
  rcases barHas_iff.mp mapped with ⟨rfl, h⟩ | ⟨rfl, h⟩ | ⟨rfl, h⟩ <;> exact ⟨_, by simp [h]; rfl⟩

theorem exec_registerWrite_of_unmapped {bar off be t : Nat} {data : List Byte}
    (unmapped : ¬barHas bar off data.length) (s : State) :
    exec (.registerWrite t bar off data be) s = .fault .noSuchAddress := by
  simp only [barHas_iff, not_or] at unmapped
  obtain ⟨no0, no2, noCfg⟩ := unmapped
  simp [execRegisterWrite, no0, no2, noCfg]

/-- Settles O7: every other command continues, and a register write stops exactly where the device has no such address. -/
theorem onlyAMissingAddressStops : Obligations.OnlyAMissingAddressStops := by
  unfold Obligations.OnlyAMissingAddressStops
  intro c s
  by_cases other : isRegisterWrite c = false
  · have runs := exec_continues other s
    refine ⟨runs.ne_refused, fun f => ⟨fun stops => absurd stops (runs.ne_fault f), ?_⟩⟩
    rintro ⟨t, bar, off, data, be, rfl, -, -⟩
    nomatch other
  · obtain ⟨t, bar, off, data, be, rfl⟩ : ∃ t bar off data be, c = .registerWrite t bar off data be := by
      cases c with
      | registerWrite t bar off data be => exact ⟨t, bar, off, data, be, rfl⟩
      | _ => exact absurd rfl other
    by_cases mapped : barHas bar off data.length
    · have runs := exec_registerWrite_of_mapped (t := t) (be := be) mapped s
      refine ⟨runs.ne_refused, fun f => ⟨fun stops => absurd stops (runs.ne_fault f), ?_⟩⟩
      rintro ⟨_, _, _, _, _, ⟨⟩, -, unmapped⟩
      exact absurd mapped unmapped
    · rw [exec_registerWrite_of_unmapped mapped]
      refine ⟨nofun, fun f => ⟨?_, ?_⟩⟩
      · rintro ⟨⟩
        exact ⟨t, bar, off, data, be, rfl, rfl, mapped⟩
      · rintro ⟨_, _, _, _, _, -, rfl, -⟩
        rfl

end Sys2Proof.Machine

namespace Sys2Proof.Machine

/-! ## The registers of BAR0 (R62, R74, R76) -/

/-- Settles O8: each register at reset is the one that its table gives. -/
theorem registersAtReset : Obligations.RegistersAtReset := by
  unfold Obligations.RegistersAtReset
  exact ⟨rfl, rfl, rfl, rfl, rfl, rfl, rfl, rfl, rfl, rfl, rfl, fun _ => rfl, rfl, rfl, rfl,
    fun _ => ⟨rfl, rfl, rfl, rfl⟩⟩

theorem exec_registerWrite_bar0_of_reach {s : State} {t : Nat} (reach : (s.tick t).hostReach = true) {off : Nat}
    {data : List Byte} (inBar : off + data.length ≤ 0x10000) (be : Nat) :
    exec (.registerWrite t 0 off data be) s = .next ((s.tick t).bar0Write off data be) := by
  simp [execRegisterWrite, inBar, State.hostWrites_of_reach reach]

theorem State.bar0Write_of_word (s : State) {off : Nat} {data : List Byte} (aligned : off % 4 = 0)
    (word : data.length = 4) : s.bar0Write off data 15 = s.hostWriteWord off (leNum data) := by
  simp [State.bar0Write, aligned, word]

theorem State.bar0Write_of_bad (s : State) {off be : Nat} {data : List Byte}
    (bad : ¬(data.length = 4 ∧ off % 4 = 0 ∧ be % 16 = 15)) :
    s.bar0Write off data be = s.count 1 0 ctrDevHostBadAccess := by
  refine if_neg ?_
  simpa [and_assoc] using bad

/-- No register that a word write can change stands at the offset: all of it is reserved or read-only (R74). -/
def bar0Ignores (off : Nat) : Prop :=
  off < 0x20 ∨ (0x20 < off ∧ off < 0x100) ∨ (0x200 ≤ off ∧ off < 0x400) ∨ (0x420 ≤ off ∧ off < 0x1000) ∨
    (0x5C00 ≤ off ∧ off < 0x6000) ∨ (0x6200 ≤ off ∧ off < 0x10000)

theorem inRange_eq_false {v lo hi : Nat} (h : v < lo ∨ hi < v) : inRange v lo hi = false := by
  simp only [inRange, Bool.and_eq_false_iff, decide_eq_false_iff_not]
  omega

theorem State.hostWriteWord_of_ignored (s : State) {off : Nat} (h : bar0Ignores off) (v : Nat) :
    s.hostWriteWord off v = s := by
  unfold bar0Ignores at h
  have scratch : off ≠ 0x20 := by omega
  have events : inRange off 0x100 0x1FF = false := inRange_eq_false (by omega)
  have aborts : inRange off 0x400 0x41F = false := inRange_eq_false (by omega)
  have mailboxes : inRange off 0x1000 0x1FFF = false := inRange_eq_false (by omega)
  have engines : inRange off 0x2000 0x3FFF = false := inRange_eq_false (by omega)
  have queues : inRange off 0x4000 0x4FFF = false := inRange_eq_false (by omega)
  have rings : inRange off 0x5000 0x5BFF = false := inRange_eq_false (by omega)
  have vectors : inRange off 0x6000 0x61FF = false := inRange_eq_false (by omega)
  simp [State.hostWriteWord, scratch, events, aborts, mailboxes, engines, queues, rings, vectors]

/-- Settles O9: a word goes to the register that its offset names, where one takes it; any other access is counted. -/
theorem bar0TakesAlignedWords : Obligations.Bar0TakesAlignedWords := by
  unfold Obligations.Bar0TakesAlignedWords
  intro s t a reach
  refine ⟨fun data word => ?_, fun off be data inBar bad => ?_, fun off data aligned word ignored => ?_⟩
  · rw [exec_registerWrite_bar0_of_reach reach (by omega), State.bar0Write_of_word _ (by decide) word]
    rfl
  · rw [exec_registerWrite_bar0_of_reach reach inBar, State.bar0Write_of_bad _ bad]
  · have inBar : off + data.length ≤ 0x10000 := by omega
    rw [exec_registerWrite_bar0_of_reach reach inBar, State.bar0Write_of_word _ aligned word,
      State.hostWriteWord_of_ignored _ ignored]

/-! ## The windows of BAR2 (R75, R86, R87) -/

/-- Every payload size of the endpoint takes one byte (R62). -/
theorem Pcie.one_le_payloadBytes (x : Pcie) : 1 ≤ x.payloadBytes := by
  unfold Pcie.payloadBytes
  split <;> decide

theorem exec_registerWrite_bar2_of_reach {s : State} {t : Nat} (reach : (s.tick t).hostReach = true) {off : Nat}
    {data : List Byte} (inBar : off + data.length ≤ 0x800000)
    (short : data.length ≤ (s.tick t).host.pcie.payloadBytes) (be : Nat) :
    exec (.registerWrite t 2 off data be) s = .next ((s.tick t).bar2Bytes off data be) := by
  simp [execRegisterWrite, inBar, State.hostWrites_of_reach reach, short, -State.tick_fields]

theorem State.bar2Bytes_byte (s : State) (a : Nat) (v : Byte) : s.bar2Bytes a [v] 1 = s.bar2Write a v := by
  simp [State.bar2Bytes, bit]

theorem exec_registerWrite_byte_of_reach {s : State} {t : Nat} (reach : (s.tick t).hostReach = true) {a : Nat}
    (inBar : a < 0x800000) (v : Byte) : exec (.registerWrite t 2 a [v] 1) s = .next ((s.tick t).bar2Write a v) := by
  rw [exec_registerWrite_bar2_of_reach reach (data := [v]) inBar (Pcie.one_le_payloadBytes _), State.bar2Bytes_byte]

theorem State.bar2Write_of_open {s : State} {a : Nat} (window : a < 0x8000)
    (opened : (s.mb (a / 4096)).takesWrites = true) (v : Byte) : s.bar2Write a v = s.setWindowByte a v := by
  simp [State.bar2Write, window, opened]

theorem State.bar2Write_of_closed {s : State} {a : Nat} (closed : (s.mb (a / 4096)).takesWrites = false) (v : Byte) :
    s.bar2Write a v = s := by
  simp [State.bar2Write, closed]

/-- Settles O10: an open mailbox takes the byte into its window, and a closed one leaves the state. -/
theorem windowByteWrites : Obligations.WindowByteWrites := by
  unfold Obligations.WindowByteWrites
  intro s t a v canonical reach window
  have ran := exec_registerWrite_byte_of_reach reach (a := a) (by omega) v
  refine ⟨fun opened => ⟨_, ran, ?_⟩, fun closed => ?_⟩
  · rw [State.bar2Write_of_open (s := s.tick t) window opened]
    exact ⟨cellByte_write_same a v canonical, fun b other => cellByte_write_ne other v s.windows⟩
  · rw [ran, State.bar2Write_of_closed (s := s.tick t) closed]

/-! ## The log of an event (R78, R79) -/

theorem State.msixRequest_log (s : State) (v : Nat) :
    (s.msixRequest v).host.log = s.host.log ∧ (s.msixRequest v).host.evtLogWr = s.host.evtLogWr := by
  unfold State.msixRequest
  extract_lets x
  split
  · exact ⟨rfl, rfl⟩
  · split <;> exact ⟨rfl, rfl⟩

theorem State.evtSet_log (s : State) (ev : Nat) :
    (s.evtSet ev).host.log = s.host.log ∧ (s.evtSet ev).host.evtLogWr = s.host.evtLogWr := by
  unfold State.evtSet
  extract_lets rose sent h0 s'
  split
  · exact State.msixRequest_log s' _
  · exact ⟨rfl, rfl⟩

/-- A message to the master moves no event register. -/
theorem State.cwTo_log (s : State) (d kind : Nat) (body : List Byte) :
    (s.cwTo d kind body).host.log = s.host.log ∧ (s.cwTo d kind body).host.evtLogWr = s.host.evtLogWr := by
  have kept := State.cwTo_keeps (ar := [.ctrs, .links]) (fun _ h => h) (a1 := d) (a2 := kind) (a3 := body) (Keeps.refl s)
  obtain ⟨-, -, wr, -, -, log, -⟩ := kept.same .events (by decide)
  exact ⟨log, wr⟩

/-- An occurrence writes its record at `EVT_LOG_WR` and moves that index on (R78). -/
theorem State.occur_log (s : State) (r : EvtRec) : (s.occur r).1.host.log = s.host.log.set s.host.evtLogWr r ∧
    (s.occur r).1.host.evtLogWr = (s.host.evtLogWr + 1) % 256 := by
  have written : (s.logWrite r).1.host.log = s.host.log.set s.host.evtLogWr r ∧
      (s.logWrite r).1.host.evtLogWr = (s.host.evtLogWr + 1) % 256 := by
    unfold State.logWrite
    extract_lets h0 wr h1 s1
    constructor <;> split <;> rfl
  obtain ⟨log, wr⟩ := (s.logWrite r).1.evtSet_log r.evt
  have counted (u : State) : (u.count 14 0 3).host = u.host := rfl
  rw [State.occur_fst]
  split
  · obtain ⟨log', wr'⟩ := ((s.logWrite r).1.evtSet r.evt).cwTo_log ((s.logWrite r).1.evtSet r.evt).cw.master 4 r.wire
    rw [counted, log', log, wr', wr]
    exact written
  · rw [log, wr]
    exact written

/-- While the log is not full, an event is one occurrence (R79). -/
theorem State.raise_of_room {s : State} (room : s.host.evtLogFull = false) (ev mbx unit detail : Nat) :
    s.raise ev mbx unit detail =
      (s.occur { evt := ev, mbx := mbx, unit := unit, detail := detail % 2 ^ 32, time := s.activeNs }).1 := by
  rw [State.raise_eq]
  refine if_neg ?_
  show ¬(s.host.evtLogFull && ev != 18) = true
  simp [room]

/-- Settles O13: beside what an occurrence moves and the status bit that it sets, its record stands where the log ended. -/
theorem occurrenceOfAnEvent : Obligations.OccurrenceOfAnEvent := by
  unfold Obligations.OccurrenceOfAnEvent
  intro s ev mbx unit detail known
  refine ⟨State.raise_tells s ev mbx unit detail, State.raise_sets s mbx unit detail known, fun room => ?_⟩
  rw [State.raise_of_room room]
  obtain ⟨log, wr⟩ := s.occur_log
    { evt := ev, mbx := mbx, unit := unit, detail := detail % 2 ^ 32, time := s.activeNs }
  exact ⟨by rw [log, Tab.get_set_same], wr⟩

/-! ## The endpoint (R60, R76, R606) -/

theorem State.ring_ringStop (s : State) (q r : Nat) :
    ((s.ringStop q).ring r).rstate = if r = q then 0 else (s.ring r).rstate := by
  unfold State.ringStop
  split
  · rename_i same
    subst same
    rw [State.ring_modRing]
  · rename_i other
    rw [State.ring_modRing_ne _ other]

/-- Stopping rings moves no host register and no window. -/
theorem State.each_ringStop (s : State) (l : List Nat) : (s.each l State.ringStop).host = s.host ∧
    (s.each l State.ringStop).windows = s.windows ∧
    ∀ r, ((s.each l State.ringStop).ring r).rstate = if r ∈ l then 0 else (s.ring r).rstate := by
  induction l generalizing s with
  | nil => exact ⟨rfl, rfl, fun _ => rfl⟩
  | cons q l ih =>
    obtain ⟨host, windows, rings⟩ := ih (s.ringStop q)
    refine ⟨host, windows, fun r => (rings r).trans ?_⟩
    rw [State.ring_ringStop]
    by_cases same : r = q <;> by_cases later : r ∈ l <;> simp [same, later]

/-- Every ring that runs is stopped, so none runs (R606). -/
theorem State.each_ringStop_running (s : State) (n : Nat) : ∀ r < n,
    ((s.each ((List.range n).filter fun r => (s.ring r).rstate != 0) State.ringStop).ring r).rstate = 0 := by
  intro r hr
  rw [(s.each_ringStop _).2.2 r]
  by_cases idle : (s.ring r).rstate = 0 <;> simp [hr, idle]

theorem exec_pcieLinkStateChange_of_up {s : State} {t w v : Nat} (reach : (s.tick t).hostReach = true)
    (out : s.host.perst = false) (width : inRange w 1 2 = true) (speed : inRange v 1 3 = true) :
    exec (.pcieLinkStateChange t w v true) s =
      .next ((s.tick t).modHost fun h => { h with pcieUp := true, pcieWidth := w, pcieSpeed := v }) := by
  have noReset : (s.tick t).host.perst = false := out
  simp only [exec_pcieLinkStateChange, execPcieLinkStateChange, reach, noReset, width, speed]
  rfl

/-- Settles O14: `PERST_N` low stops the rings that run and resets the endpoint, and so does the link on its way down. -/
theorem endpointResets : Obligations.EndpointResets := by
  unfold Obligations.EndpointResets
  refine ⟨fun s t => ⟨_, rfl, ?_⟩, fun s t => rfl, fun s t w v => rfl, fun s t w v reach out w1 w2 v1 v3 => ?_⟩
  · obtain ⟨host, windows, -⟩ :=
      (s.tick t).each_ringStop ((List.range 48).filter fun r => ((s.tick t).ring r).rstate != 0)
    refine ⟨(s.tick t).each_ringStop_running 48, ?_, windows⟩
    exact congrArg (fun h : HostIf => { h.endpointReset with perst := true }) host
  · exact exec_pcieLinkStateChange_of_up reach out (by simp [inRange, w1, w2]) (by simp [inRange, v1, v3])

/-! ## The SPI slave (R65 to R71) -/

/-- Settles O15: the length error alone is counted, and `SPI_STATUS` holds it alone. -/
theorem abandonedSpiTransaction : Obligations.AbandonedSpiTransaction := by
  unfold Obligations.AbandonedSpiTransaction
  intro s t reach
  rw [exec_spiTransactionTimeout, execSpiTransactionTimeout, State.hostWrites_of_reach reach]
  refine congrArg Host.Outcome.next ?_
  simp [State.spiEnd, SpiResult.byte, flag]

section
variable (s : State) {mosi : List Byte} (nonempty : mosi ≠ []) (spare late : Bool)
include nonempty

theorem State.spiTransact_of_unlisted (op : le mosi 0 1 < 0x40 ∨ 0xC0 < le mosi 0 1) :
    s.spiTransact mosi spare late = s.spiEnd { opc := true } := by
  have noRead : inRange (le mosi 0 1) 0x40 0x7F = false := inRange_eq_false (by omega)
  have noWrite : inRange (le mosi 0 1) 0x80 0xBF = false := inRange_eq_false (by omega)
  have noStatus : le mosi 0 1 ≠ 0xC0 := by omega
  simp [State.spiTransact, nonempty, noRead, noWrite, noStatus]

theorem State.spiTransact_of_read (lo : 0x40 ≤ le mosi 0 1) (hi : le mosi 0 1 ≤ 0x7F) :
    s.spiTransact mosi spare late = s.spiRead (le mosi 0 1 - 0x3F) mosi late := by
  have read : inRange (le mosi 0 1) 0x40 0x7F = true := by simp [inRange, lo, hi]
  simp [State.spiTransact, nonempty, read]

theorem State.spiTransact_of_write (lo : 0x80 ≤ le mosi 0 1) (hi : le mosi 0 1 ≤ 0xBF) :
    s.spiTransact mosi spare late = s.spiWrite (le mosi 0 1 - 0x7F) mosi spare := by
  have noRead : inRange (le mosi 0 1) 0x40 0x7F = false := inRange_eq_false (by omega)
  have write : inRange (le mosi 0 1) 0x80 0xBF = true := by simp [inRange, lo, hi]
  simp [State.spiTransact, nonempty, noRead, write]

end

/-- Settles O16: the opcode chooses among the kinds of transaction. -/
theorem spiTransactions : Obligations.SpiTransactions := by
  unfold Obligations.SpiTransactions
  intro s t reach
  have written (mosi : List Byte) (f : Bool) : exec (.spiWriteTransaction t mosi f) s =
      .next ((s.tick t).spiTransact mosi f false) :=
    congrArg Host.Outcome.next (State.hostWrites_of_reach reach _)
  have read (mosi : List Byte) (f : Bool) : exec (.spiReadTransaction t mosi f) s =
      .next ((s.tick t).spiTransact mosi false f) :=
    congrArg Host.Outcome.next (State.hostWrites_of_reach reach _)
  refine ⟨congrArg Host.Outcome.next (State.hostWrites_of_reach reach _), fun f => read [] f,
    fun mosi f nonempty op => ?_, fun mosi f nonempty lo hi => ?_, fun mosi f nonempty lo hi => ?_⟩
  · rw [written, State.spiTransact_of_unlisted _ nonempty _ _ op]
  · rw [read, State.spiTransact_of_read _ nonempty _ _ lo hi]
  · rw [written, State.spiTransact_of_write _ nonempty _ _ lo hi]

/-! ## The interrupt pin (R72) -/

theorem ne_zero_iff_exists_getLsbD {w : Nat} (x : BitVec w) : x ≠ 0 ↔ ∃ i, i < w ∧ x.getLsbD i = true := by
  constructor
  · intro h
    by_contra dark
    refine h (BitVec.eq_of_getLsbD_eq fun i hi => ?_)
    cases e : x.getLsbD i
    · simp
    · exact absurd ⟨i, hi, e⟩ dark
  · rintro ⟨i, -, e⟩ rfl
    simp at e

/-- Settles O17: the pin is driven by the bits of the status that the mask leaves. -/
theorem hostIntFollowsUnmaskedEvents : Obligations.HostIntFollowsUnmaskedEvents := by
  unfold Obligations.HostIntFollowsUnmaskedEvents
  intro s
  rw [State.hostIntLow, Bool.and_eq_true, bne_iff_ne, ne_zero_iff_exists_getLsbD]
  refine and_congr_right fun _ => exists_congr fun e => and_congr_right fun known => ?_
  simp [known]

end Sys2Proof.Machine

namespace Sys2Proof.Machine

/-! ## Mailbox commands that take effect at once, or begin (R86, R98, R99) -/

/-- Every form that `exec` runs as a simple command is refused by its check, or has its effect and completes. -/
theorem CmdForm.runs_of_exec {f : CmdForm}
    (h : ∀ (s : State) (t : Nat) (m : Fin 8), exec (f.make t m) s = .next (s.simple t m f.code f.check f.effect)) :
    f.Runs := by
  intro s t m r ready
  refine ⟨fun x hx own => ⟨_, h s t m, ?_⟩, fun hx => ⟨_, h s t m, ?_, fun own => ?_⟩⟩
  · rw [State.simple_of_refused ready hx]
    exact State.complete_tells _ _ _ own
  · exact State.simple_of_passed ready hx f.effect
  · rw [State.simple_of_passed ready hx]
    exact State.complete_tells _ _ _ own

theorem State.begins_of_refused {s : State} {t m code : Nat} {r : Req} (h : Ready s t m code r)
    {check : State → List Byte → Check} {x : Reply} (hx : check (s.tick t) r.payload = some x)
    (start : State → List Byte → State) : s.begins t m code check start = (s.tick t).complete m x := by
  simp only [State.begins, State.command_of_ready h, hx]

theorem State.begins_of_passed {s : State} {t m code : Nat} {r : Req} (h : Ready s t m code r)
    {check : State → List Byte → Check} (hx : check (s.tick t) r.payload = none)
    (start : State → List Byte → State) : s.begins t m code check start =
      start ((s.tick t).modMb m fun b => { b with running := true }) r.payload := by
  simp only [State.begins, State.command_of_ready h, hx]

/-- Every form that `exec` runs as a command that begins is refused by its check, or begins with its mailbox running. -/
theorem StartForm.runs_of_exec {f : StartForm}
    (h : ∀ (s : State) (t : Nat) (m : Fin 8),
      exec (f.make t m) s = .next (s.begins t m f.code f.check (f.start m))) : f.Runs := by
  intro s t m r ready
  refine ⟨fun x hx own => ⟨_, h s t m, ?_⟩, fun hx => ?_⟩
  · rw [State.begins_of_refused ready hx]
    exact State.complete_tells _ _ _ own
  · rw [h, State.begins_of_passed ready hx]

theorem exec_forwardingForms : ∀ f ∈ portForms ++ forwardForms, ∀ (s : State) (t : Nat) (m : Fin 8),
    exec (f.make t m) s = .next (s.simple t m f.code f.check f.effect) := by
  simp only [portForms, forwardForms, List.cons_append, List.nil_append, List.forall_mem_cons, List.not_mem_nil,
    false_implies, implies_true, and_true]
  and_intros <;> exact fun _ _ _ => rfl

theorem exec_mediaForms : ∀ f ∈ mediaForms, ∀ (s : State) (t : Nat) (m : Fin 8),
    exec (f.make t m) s = .next (s.simple t m f.code f.check f.effect) := by
  simp only [mediaForms, List.forall_mem_cons, List.not_mem_nil, false_implies, implies_true, and_true]
  and_intros <;> exact fun _ _ _ => rfl

theorem exec_systemForms : ∀ f ∈ hostForms ++ systemForms, ∀ (s : State) (t : Nat) (m : Fin 8),
    exec (f.make t m) s = .next (s.simple t m f.code f.check f.effect) := by
  simp only [hostForms, systemForms, List.cons_append, List.nil_append, List.forall_mem_cons, List.not_mem_nil,
    false_implies, implies_true, and_true]
  and_intros <;> exact fun _ _ _ => rfl

theorem exec_startForms : ∀ f ∈ startForms, ∀ (s : State) (t : Nat) (m : Fin 8),
    exec (f.make t m) s = .next (s.begins t m f.code f.check (f.start m)) := by
  simp only [startForms, List.forall_mem_cons, List.not_mem_nil, false_implies, implies_true, and_true]
  and_intros <;> exact fun _ _ _ => rfl

/-- Settles O20: each row of `hostForms` and `systemForms` runs as a simple command. -/
theorem systemCommandsComplete : Obligations.SystemCommandsComplete := by
  unfold Obligations.SystemCommandsComplete
  exact fun f hf => CmdForm.runs_of_exec (exec_systemForms f hf)

/-- Settles O22: each row of `startForms` runs as a command that begins. -/
theorem beginningCommandsBegin : Obligations.BeginningCommandsBegin := by
  unfold Obligations.BeginningCommandsBegin
  exact fun f hf => StartForm.runs_of_exec (exec_startForms f hf)

/-! ## The frame of every mailbox command (R85, R86 step 4, R568, R570, R620) -/

theorem State.command_of_not_asked {s : State} {t m code : Nat}
    (idle : ∀ r, ((s.tick t).mb m).req = some r →
      ¬(((s.tick t).mb m).mstate = 1 ∧ ((s.tick t).mb m).running = false ∧ r.code = code ∧ (s.tick t).fwUp = true))
    (run : State → Req → State) : s.command t m code run = s.tick t := by
  unfold State.command
  extract_lets a
  split
  · rfl
  · rename_i r asked
    refine if_neg ?_
    simpa [and_assoc] using idle r asked

theorem State.command_of_function_refused {s : State} {t m code : Nat} {r : Req} {x : Reply}
    (asked : ((s.tick t).mb m).req = some r) (executes : ((s.tick t).mb m).mstate = 1)
    (idle : ((s.tick t).mb m).running = false) (same : r.code = code) (firmware : (s.tick t).fwUp = true)
    (refused : (s.tick t).functionCheck r = some x) (run : State → Req → State) :
    s.command t m code run = (s.tick t).complete m x := by
  simp [State.command, asked, executes, idle, same, firmware, refused]

/-- A row runs in the frame of a mailbox command of its code. -/
def RowInFrame (row : (Nat → Fin 8 → Instr) × Nat) : Prop :=
  ∀ (s : State) (t : Nat) (m : Fin 8), ∃ run, exec (row.1 t m) s = .next (s.command t m row.2 run)

theorem rowInFrame_of_simple {make : Nat → Fin 8 → Instr} {code : Nat} {check : State → List Byte → Check}
    {effect : State → List Byte → State × Reply}
    (h : ∀ (s : State) (t : Nat) (m : Fin 8), exec (make t m) s = .next (s.simple t m code check effect)) :
    RowInFrame (make, code) :=
  fun s t m => ⟨_, h s t m⟩

theorem rowInFrame_of_begins {make : Nat → Fin 8 → Instr} {code : Nat} {check : State → List Byte → Check}
    {start : Nat → State → List Byte → State}
    (h : ∀ (s : State) (t : Nat) (m : Fin 8), exec (make t m) s = .next (s.begins t m code check (start m))) :
    RowInFrame (make, code) :=
  fun s t m => ⟨_, h s t m⟩

theorem commandRows_inFrame : ∀ row ∈ commandRows, RowInFrame row := by
  intro row known
  simp only [commandRows, List.mem_append, List.mem_map, List.mem_cons, List.not_mem_nil, or_false] at known
  rcases known with ((⟨f, hf, rfl⟩ | ⟨f, hf, rfl⟩) | ⟨f, hf, rfl⟩) | rfl | rfl
  · rcases hf with (((hf | hf) | hf) | hf) | hf
    · exact rowInFrame_of_simple (exec_forwardingForms f (List.mem_append_left _ hf))
    · exact rowInFrame_of_simple (exec_forwardingForms f (List.mem_append_right _ hf))
    · exact rowInFrame_of_simple (exec_mediaForms f hf)
    · exact rowInFrame_of_simple (exec_systemForms f (List.mem_append_left _ hf))
    · exact rowInFrame_of_simple (exec_systemForms f (List.mem_append_right _ hf))
  · exact rowInFrame_of_simple (exec_queryForms f hf)
  · exact rowInFrame_of_begins (exec_startForms f hf)
  · exact fun s t m => ⟨_, rfl⟩
  · exact fun s t m => ⟨_, rfl⟩

/-- A row of `instantForms` runs in the same frame, between what comes before it and what ends its instant. -/
theorem exec_instantForms : ∀ f ∈ instantForms, ∀ (s : State) (t : Nat) (m : Fin 8),
    exec (f.make t m) s = .next (f.after ((f.before s t).simple t m f.code f.check f.effect)) := by
  simp only [instantForms, List.forall_mem_cons, List.not_mem_nil, false_implies, implies_true, and_true]
  and_intros <;> exact fun _ _ _ => rfl

theorem State.functionCheck_of_stateCheck {s : State} {r : Req} {x : Reply} (h : s.stateCheck r.code = some x) :
    s.functionCheck r = some x := by
  simp [State.functionCheck, firstFail, h]

section
variable {s : State} {r : Req}

theorem State.functionCheck_of_busy_state (h : s.boot.state = 4 ∨ s.boot.state = 5) :
    s.functionCheck r = some .busy :=
  State.functionCheck_of_stateCheck (by simp [State.stateCheck, h])

theorem State.functionCheck_of_start_up (h : s.boot.state = 0) (group : r.code / 256 ≠ 1) (status : r.code ≠ 0x1007) :
    s.functionCheck r = some .busy :=
  State.functionCheck_of_stateCheck (by simp [State.stateCheck, h, group, status])

theorem State.functionCheck_of_sealed (h : s.boot.state = 2) (group : r.code / 256 ≠ 1) (status : r.code ≠ 0x1007) :
    s.functionCheck r = some .denied :=
  State.functionCheck_of_stateCheck (by simp [State.stateCheck, h, group, status])

/-- A command of group 0x01 addresses the device, which no unit owns. -/
theorem State.functionCheck_of_device (not4 : s.boot.state ≠ 4) (not5 : s.boot.state ≠ 5) (group : r.code / 256 = 1) :
    s.functionCheck r = none := by
  simp [State.functionCheck, State.stateCheck, reqFuncs, Func.owners, firstFail, not4, not5, group]

end

/-- Settles O24: every row runs in the one frame, whose guards come before the function check, and that before its own. -/
theorem commandsRunOnlyInTheirMailbox : Obligations.CommandsRunOnlyInTheirMailbox := by
  unfold Obligations.CommandsRunOnlyInTheirMailbox
  refine ⟨fun row known s t m => ⟨fun idle => ?_, fun r x asked executes free same firmware refused own => ?_⟩,
    fun f known s t m idle => ?_, fun s r => ⟨State.functionCheck_of_busy_state, State.functionCheck_of_start_up,
      State.functionCheck_of_sealed, State.functionCheck_of_device⟩⟩
  · obtain ⟨run, framed⟩ := commandRows_inFrame row known s t m
    rw [framed, State.command_of_not_asked idle]
  · obtain ⟨run, framed⟩ := commandRows_inFrame row known s t m
    refine ⟨_, framed, ?_⟩
    rw [State.command_of_function_refused asked executes free same firmware refused]
    exact State.complete_tells _ _ _ own
  · rw [exec_instantForms f known, State.simple, State.command_of_not_asked idle]

end Sys2Proof.Machine

namespace Sys2Proof.Machine

/-! ## The doorbell (R87) -/

theorem State.ringBell_of_ignored {s : State} {m : Nat}
    (h : (s.mb m).ringing = true ∨ (s.mb m).mstate ≠ 0 ∨ s.islandUp 5 = false ∨ s.boot.state = 4) : s.ringBell m =
      (s.modMb m fun b => { b with dropped := true, setAt := b.setAt.set 2 s.now }).count 1 0 ctrDevMbxDropped := by
  refine if_pos ?_
  simpa [or_assoc] using h

theorem State.ringBell_of_taken {s : State} {m : Nat} (quiet : (s.mb m).ringing = false) (free : (s.mb m).mstate = 0)
    (control : s.islandUp 5 = true) (run : s.boot.state ≠ 4) :
    s.ringBell m = s.modMb m fun b => { b with ringing := true, rungAt := s.now } := by
  refine if_neg ?_
  simp [quiet, free, control, run]

theorem exec_mbxRing_of_reach {s : State} {t : Nat} (reach : (s.tick t).hostReach = true) (m : Fin 8) (v : Word) :
    exec (.mbxRing t m v) s = .next (if v.getLsbD 0 then (s.tick t).ringBell m else s.tick t) :=
  congrArg Host.Outcome.next (State.hostWrites_of_reach reach _)

theorem exec_mbxAccept_of_accepted {s : State} {t : Nat} {m : Fin 8} (reach : (s.tick t).hostReach = true)
    (control : (s.tick t).islandUp 5 = true) (pending : ((s.tick t).mb m).ringing = true) :
    exec (.mbxAccept t m) s = .next ((s.tick t).acceptCommand m) := by
  refine congrArg Host.Outcome.next (if_pos ?_)
  rw [reach, control, pending]
  rfl

theorem exec_mbxAccept_of_idle {s : State} {t : Nat} {m : Fin 8}
    (h : (s.tick t).islandUp 5 = false ∨ ((s.tick t).mb m).ringing = false) :
    exec (.mbxAccept t m) s = .next (s.tick t) := by
  refine congrArg Host.Outcome.next (if_neg ?_)
  rcases h with h | h <;> rw [h] <;> simp

theorem Mbx.takesWrites_eq_false {b : Mbx} (h : b.ringing = true ∨ b.mstate ≠ 0) : b.takesWrites = false := by
  rcases h with h | h <;> simp [Mbx.takesWrites, h]

/-- The control registers of mailbox `m` stand at 0x1000 + 0x200 `m` (R82). -/
theorem State.hostWriteWord_mbx (s : State) (m : Fin 8) {off : Nat} (h : off < 0x200) (v : Nat) :
    s.hostWriteWord (0x1000 + 0x200 * m + off) v = s.mbxRegWrite m off v := by
  have scratch : 0x1000 + 0x200 * m.val + off ≠ 0x20 := by omega
  have events : inRange (0x1000 + 0x200 * m.val + off) 0x100 0x1FF = false := inRange_eq_false (by omega)
  have aborts : inRange (0x1000 + 0x200 * m.val + off) 0x400 0x41F = false := inRange_eq_false (by omega)
  have mailboxes : inRange (0x1000 + 0x200 * m.val + off) 0x1000 0x1FFF = true := by simp [inRange]; omega
  have index : (0x1000 + 0x200 * m.val + off - 0x1000) / 0x200 = m.val := by omega
  have within : (0x1000 + 0x200 * m.val + off) % 0x200 = off := by omega
  simp only [State.hostWriteWord, scratch, events, aborts, mailboxes, index, within, if_true, if_false,
    Bool.false_eq_true]

/-- While a mailbox takes no writes its envelope stands (R86, R87). -/
theorem State.mbxRegWrite_of_closed {s : State} {m off : Nat} (envelope : off < 0x10)
    (closed : (s.mb m).takesWrites = false) (v : Nat) : s.mbxRegWrite m off v = s := by
  simp [State.mbxRegWrite, envelope, closed]

/-- Settles O25: the guards of the doorbell, of acceptance, and of what a mailbox takes while one is pending. -/
theorem doorbellIsPendingOrIgnored : Obligations.DoorbellIsPendingOrIgnored := by
  unfold Obligations.DoorbellIsPendingOrIgnored
  intro s t m v a reach
  rw [exec_mbxRing_of_reach reach]
  refine ⟨fun ring => ?_, fun noRing => ?_, fun off => exec_mbxAccept_of_idle (.inl off),
    fun idle => exec_mbxAccept_of_idle (.inr idle), fun busy => ?_⟩
  · rw [ring, if_pos rfl]
    exact ⟨fun ignored => congrArg Host.Outcome.next (State.ringBell_of_ignored ignored),
      fun quiet free control run => congrArg Host.Outcome.next (State.ringBell_of_taken quiet free control run)⟩
  · rw [noRing]
    rfl
  · have closed := Mbx.takesWrites_eq_false busy
    refine ⟨fun off data envelope aligned word => ?_, fun off x window => ?_⟩
    · have inBar : 0x1000 + 0x200 * m.val + off + data.length ≤ 0x10000 := by omega
      rw [exec_registerWrite_bar0_of_reach reach inBar, State.bar0Write_of_word _ (by omega) word,
        State.hostWriteWord_mbx _ m (by omega), State.mbxRegWrite_of_closed envelope closed]
    · have index : (4096 * m.val + off) / 4096 = m.val := by omega
      rw [exec_registerWrite_byte_of_reach reach (by omega), State.bar2Write_of_closed (by rw [index]; exact closed)]

/-! ## Acceptance (R86 step 3, R568) -/

theorem State.mb_latchCommand (s : State) (m : Nat) : (s.latchCommand m).mb m = { s.mb m with
    ringing := false, tag := le (s.mb m).cmd 0 1, mstate := 1, order := s.mbxOrder, acceptedAt := s.now
    req := some {
      tag := le (s.mb m).cmd 0 1, code := le (s.mb m).cmd 1 2, len := le (s.mb m).cmd 3 2
      flags := le (s.mb m).cmd 5 2, payload := s.window (4096 * m) (min (le (s.mb m).cmd 3 2) 4096) }
    startedAt := (s.mb m).rungAt, running := false, deferred := false, committed := false, prepared := false
    waiting := [], aux := [], abortAt := none, stopping := false } :=
  Tab.get_modify_same _ _ _ _

theorem State.mb_latchCommand_ne (s : State) {k m : Nat} (other : k ≠ m) : (s.latchCommand m).mb k = s.mb k :=
  Tab.get_modify_ne _ _ other _

/-- A mailbox that does not forward is accepted by this device: latched, and judged where firmware runs. -/
theorem State.acceptCommand_of_own {s : State} {m : Nat} (own : s.forwardsMbx m = false) : s.acceptCommand m =
    if s.fwUp then (s.latchCommand m).heard.envelopeJudge m else (s.latchCommand m).heard := by
  unfold State.acceptCommand
  rw [own]
  rfl

/-- Settles O26: what acceptance latches, and whether firmware runs to judge it. -/
theorem acceptanceLatchesTheRequest : Obligations.AcceptanceLatchesTheRequest := by
  unfold Obligations.AcceptanceLatchesTheRequest
  intro s t m a u reach control pending own
  have accepted := exec_mbxAccept_of_accepted reach control pending
  rw [State.acceptCommand_of_own own] at accepted
  have latched : u.mb m = _ := a.mb_latchCommand m
  refine ⟨fun down => ?_, fun firmware => ?_, by rw [latched], by rw [latched], by rw [latched], by rw [latched],
    by rw [latched], rfl, fun k other => a.mb_latchCommand_ne (Fin.val_ne_of_ne other), rfl, rfl⟩
  · rw [accepted, down]
    rfl
  · rw [accepted, firmware]
    rfl

/-! ## A code of neither table (R100) -/

theorem envelopeCheck_of_unlisted {cmd payload : List Byte} (length : le cmd 3 2 ≤ 4096)
    (crc : le cmd 12 4 = crc32 (fitBytes 12 cmd ++ payload)) (unlisted : cmdRow (le cmd 1 2) = none) :
    envelopeCheck cmd payload = some (.invalid 0x80000001) := by
  simp [envelopeCheck, need, firstFail, length, crc, unlisted]

theorem State.envelopeJudge_of_refused {s : State} {m : Nat} {r : Req} {x : Reply} (asked : (s.mb m).req = some r)
    (executes : (s.mb m).mstate = 1) (idle : (s.mb m).running = false)
    (refused : envelopeCheck (s.mb m).cmd r.payload = some x) : s.envelopeJudge m = s.complete m x := by
  simp [State.envelopeJudge, asked, executes, idle, refused]

/-- Settles O27: the index lookup is the first check of the envelope that fails, and its answer completes the command. -/
theorem unlistedCodeIsInvalid : Obligations.UnlistedCodeIsInvalid := by
  unfold Obligations.UnlistedCodeIsInvalid
  refine ⟨rfl, fun cmd payload => envelopeCheck_of_unlisted,
    fun s m r asked executes idle length crc unlisted own => ?_⟩
  rw [State.envelopeJudge_of_refused asked executes idle (envelopeCheck_of_unlisted length crc unlisted)]
  exact State.complete_tells _ _ _ own

/-! ## Completion (R84, R86 steps 6 and 7) -/

theorem State.mb_complete_ne (s : State) {k m : Nat} (other : k ≠ m) (r : Reply)
    (own : s.cw.peerIn.contains m = false) : (s.complete m r).mb k = s.mb k := by
  have told : (s.complete m r).mbx = (s.answered m r).mbx := (s.complete_tells m r own).mbx
  unfold State.mb
  rw [told]
  unfold State.answered
  extract_lets a
  obtain ⟨-, -, mbx, -⟩ := s.clocked_fields (s.mb m).committed (s.mb m).req a rfl
  rw [← mbx]
  exact Tab.get_modify_ne _ _ other _

/-- The final response of a command without `QUIET` raises the event of its mailbox (R86 step 6). -/
theorem State.complete_raises (s : State) {m : Nat} (known : m < 128) (r : Reply)
    (own : s.cw.peerIn.contains m = false) (loud : (s.mb m).quiet = false) :
    (s.complete m r).host.evtStatus.getLsbD m = true := by
  unfold State.complete
  extract_lets b s0 funcs s1 s2 s3 s4
  rw [if_neg (by rw [(s.clocked_fields b.committed b.req s0 rfl).2.2.2.1, own]; exact Bool.false_ne_true)]
  have raised : s4.host.evtStatus.getLsbD m = true := by
    simp only [s4, b, loud]
    exact State.raise_sets _ _ _ _ known
  split
  · exact ((State.draw_tells s4).trans (State.raise_tells _ _ _ _ _)).rises m raised
  · exact raised

/-- A change of a mailbox is the change that leaves there what it leaves. -/
theorem State.modMb_eq_const (s : State) (m : Nat) (f : Mbx → Mbx) :
    s.modMb m f = s.modMb m fun _ => (s.modMb m f).mb m := by
  rw [State.mb_modMb]
  rfl

theorem w1c_eq (setAt : Tab Nat) (now : Nat) (v : Word) (k : Nat) :
    w1c setAt now v.toNat k = (v.getLsbD k && decide (setAt.find k ≠ some now)) := by
  rw [w1c, bit_eq_testBit, BitVec.testBit_toNat]
  by_cases h : setAt.find k = some now <;> simp [h]

theorem exec_mbxDoneClear_of_reach {s : State} {t : Nat} (reach : (s.tick t).hostReach = true) (m : Fin 8) (v : Word) :
    exec (.mbxDoneClear t m v) s = .next ((s.tick t).mbxFlags m v.toNat) :=
  congrArg Host.Outcome.next (State.hostWrites_of_reach reach _)

/-- Settles O28: the mailbox after its final response, and after the host has taken that. -/
theorem completionAnswersTheMailbox : Obligations.CompletionAnswersTheMailbox := by
  unfold Obligations.CompletionAnswersTheMailbox
  refine ⟨fun s m r own => ?_, fun s t m v reach => ⟨_, exec_mbxDoneClear_of_reach reach m v, ?_, ?_⟩⟩
  · have ended := s.complete_mb m r own
    exact ⟨s.complete_tells m r own, by rw [ended]; rfl, by rw [ended]; rfl, by rw [ended]; rfl, by rw [ended]; rfl,
      fun k other => s.mb_complete_ne (Fin.val_ne_of_ne other) r own, s.complete_raises (by omega) r own⟩
  · exact State.modMb_eq_const _ _ _
  · rw [State.mbxFlags, State.mb_modMb]
    simp only [w1c_eq, Bool.and_eq_true, decide_eq_true_eq]

end Sys2Proof.Machine

namespace Sys2Proof.Machine

/-! ## Waiting (R90) -/

/-- An interim response moves no other mailbox. -/
theorem State.mb_interim_ne (s : State) {k m : Nat} (other : m ≠ k) (r : Reply) :
    (s.interim k r).mb m = s.mb m := by
  unfold State.interim State.peerAnswer
  extract_lets b
  split
  · unfold State.mb
    rw [(State.cwTo_tells _ _ _ _).mbx]
    exact Tab.get_modify_ne _ _ other _
  · unfold State.mb
    rw [(State.raise_tells _ _ _ _ _).mbx]
    exact Tab.get_modify_ne _ _ other _

theorem State.mb_deferCommand_ne (s : State) {k m : Nat} (other : m ≠ k) : (s.deferCommand k).mb m = s.mb m := by
  unfold State.deferCommand
  rw [State.mb_interim_ne _ other]
  exact State.mb_modMb_ne s other _

/-- A waiting command starts (R90): its mailbox executes it from now on. -/
def State.started (s : State) (m : Nat) : State := s.modMb m fun b => { b with mstate := 1, startedAt := s.now }

/-- An enable that waits behind the disable of mailbox `m` is deferred (R90). -/
def State.deferBehind (m : Nat) (s : State) (k : Nat) : State :=
  match (s.mb k).req with
  | some q => if (s.mb k).mstate == 5 && isEnable q.code && (s.ahead k q).contains m then s.deferCommand k else s
  | none => s

theorem State.startCommand_eq (s : State) (m : Nat) (r : Req) : s.startCommand m r =
    if !isDisable r.code then s.started m else (s.started m).each (List.range 8) (State.deferBehind m) := rfl

/-- Deferring touches only mailboxes that wait. -/
theorem State.mb_deferBehind_of_executing {s : State} {m : Nat} (executes : (s.mb m).mstate = 1) (k : Nat) :
    (s.deferBehind m k).mb m = s.mb m := by
  unfold State.deferBehind
  split
  · split
    · rename_i waits
      refine s.mb_deferCommand_ne fun same => ?_
      subst same
      simp [executes] at waits
    · rfl
  · rfl

theorem State.mb_startCommand (s : State) (m : Nat) (r : Req) : (s.startCommand m r).mb m = (s.started m).mb m := by
  rw [State.startCommand_eq]
  split
  · rfl
  · refine List.foldlRecOn (motive := fun u : State => u.mb m = (s.started m).mb m) _ _ rfl fun u same k _ => ?_
    have executes : (u.mb m).mstate = 1 := by rw [same, State.started, State.mb_modMb]
    rw [State.mb_deferBehind_of_executing executes, same]

section
variable {s : State} {t : Nat} {m : Fin 8} {r : Req} (asked : ((s.tick t).mb m).req = some r)
include asked

theorem exec_commandStart_of_free (waits : ((s.tick t).mb m).waits = true) (free : (s.tick t).ahead m r = [])
    (firmware : (s.tick t).fwUp = true) : exec (.commandStart t m) s = .next ((s.tick t).startCommand m r) := by
  simp [execCommandStart, asked, waits, free, firmware, -State.tick_fields]

theorem exec_commandStart_of_behind (behind : (s.tick t).ahead m r ≠ []) :
    exec (.commandStart t m) s = .next (s.tick t) := by
  simp [execCommandStart, asked, behind, -State.tick_fields]

/-! ## The longest time (R97, R568) -/

theorem exec_longestTimeExpiry_of_late (executes : ((s.tick t).mb m).mstate = 1)
    (late : ((s.tick t).mb m).startedAt + (s.tick t).longestNs m r ≤ (s.tick t).now)
    (firmware : (s.tick t).fwUp = true) : exec (.longestTimeExpiry t m) s = .next ((s.tick t).expire m r) := by
  simp [execLongestTimeExpiry, asked, executes, late, firmware, -State.tick_fields]

theorem exec_longestTimeExpiry_of_early
    (early : (s.tick t).now < ((s.tick t).mb m).startedAt + (s.tick t).longestNs m r) :
    exec (.longestTimeExpiry t m) s = .next (s.tick t) := by
  simp [execLongestTimeExpiry, asked, Nat.not_le.mpr early, -State.tick_fields]

end

/-- The mailbox forwards no command any more (R516). -/
def State.unforwarded (s : State) (m : Nat) : State :=
  s.modCw fun c => { c with fwdMbx := c.fwdMbx.filter (· != m) }

/-- Before its commit point, a command that has not begun and has no remote access leaves nothing to undo (R97). -/
theorem State.expire_of_idle {s : State} {m : Nat} {r : Req} (uncommitted : (s.mb m).committed = false)
    (idle : (s.mb m).running = false) (noRemote : s.remoteRun m = none) : s.expire m r =
      (s.unforwarded m).complete m { status := stTimeout } := by
  simp [State.expire, State.unforwarded, State.remoteEnd, uncommitted, idle, noRemote, flag]

theorem State.expire_of_committed {s : State} {m : Nat} {r : Req} (committed : (s.mb m).committed = true)
    (executes : (s.mb m).mstate = 1) : s.expire m r =
      ((s.restartStuck m).interim m { status := stPartial, rflags := 2 }).relayLate m := by
  simp [State.expire, committed, executes]

theorem exec_commandFirmwareWaitTimeout_of_late {s : State} {t : Nat} {m : Fin 8}
    (executes : ((s.tick t).mb m).mstate = 1) (noFirmware : (s.tick t).boot.fwRunning = false)
    (startUp : (s.tick t).boot.state = 0) (late : ((s.tick t).mb m).acceptedAt + 2000000000 ≤ (s.tick t).now) :
    exec (.commandFirmwareWaitTimeout t m) s = .next ((s.tick t).complete m { status := stTimeout }) := by
  simp [execCommandFirmwareWaitTimeout, Mbx.outstanding, executes, noFirmware, startUp, late, -State.tick_fields]

theorem exec_commandFirmwareWaitTimeout_of_early {s : State} {t : Nat} {m : Fin 8}
    (early : (s.tick t).now < ((s.tick t).mb m).acceptedAt + 2000000000) :
    exec (.commandFirmwareWaitTimeout t m) s = .next (s.tick t) := by
  simp [execCommandFirmwareWaitTimeout, Nat.not_le.mpr early, -State.tick_fields]

/-- Settles O29: the guards of start, of expiry before and past the commit point, and of the wait for firmware. -/
theorem commandsStartAndExpire : Obligations.CommandsStartAndExpire := by
  unfold Obligations.CommandsStartAndExpire
  intro s t m r a asked
  refine ⟨fun waits free firmware => ?_, exec_commandStart_of_behind asked,
    fun executes late firmware => ⟨fun uncommitted idle own noRemote => ?_, fun _ => ?_, fun committed => ?_⟩,
    exec_longestTimeExpiry_of_early asked, exec_commandFirmwareWaitTimeout_of_late,
    exec_commandFirmwareWaitTimeout_of_early⟩
  · have ran := exec_commandStart_of_free asked waits free firmware
    refine ⟨⟨_, ran, ?_⟩, fun noDisable => ?_⟩
    · rw [State.mb_startCommand, State.started, State.mb_modMb]
      exact ⟨rfl, rfl, asked⟩
    · rw [ran, State.startCommand_eq, noDisable]
      rfl
  · refine ⟨_, exec_longestTimeExpiry_of_late asked executes late firmware, ?_⟩
    rw [State.expire_of_idle uncommitted idle noRemote]
    have ended := State.complete_mb (a.unforwarded m) m { status := stTimeout } own
    exact ⟨State.complete_tells (a.unforwarded m) m _ own, by rw [ended]; rfl, by rw [ended]; rfl⟩
  · exact exec_longestTimeExpiry_of_late asked executes late firmware
  · rw [exec_longestTimeExpiry_of_late asked executes late firmware, State.expire_of_committed committed executes]

/-! ## Abort (R95, R96) -/

theorem exec_mbxAbort_of_reach {s : State} {t : Nat} (reach : (s.tick t).hostReach = true) (m : Fin 8) (v : Word)
    (firmware : Bool) : exec (.mbxAbort t m v firmware) s =
      .next (if v.getLsbD 0 then (s.tick t).abortCommand m firmware else s.tick t) :=
  congrArg Host.Outcome.next (State.hostWrites_of_reach reach _)

theorem State.abortCommand_of_none {s : State} {m : Nat} (free : (s.mb m).outstanding = false) (firmware : Bool) :
    s.abortCommand m firmware = s := by
  simp [State.abortCommand, free]

theorem State.abortCommand_of_waiting {s : State} {m : Nat} (waits : (s.mb m).mstate = 5) (firmware : Bool) :
    s.abortCommand m firmware = s.complete m { status := stAborted } := by
  simp [State.abortCommand, Mbx.outstanding, Mbx.waits, waits]

/-- The mailbox is under abort from now on (R95). -/
def State.aborting (s : State) (m : Nat) : State := s.modMb m fun b => { b with mstate := 3, abortAt := some s.now }

/-- An executing command of this device is under abort, and ends at once where firmware stops it (R95). -/
theorem State.abortCommand_of_executing {s : State} {m : Nat} (executes : (s.mb m).mstate = 1)
    (own : s.cw.fwdMbx.contains m = false) (firmware : Bool) : s.abortCommand m firmware =
      if firmware && s.fwUp then (s.aborting m).abortEnd m false else s.aborting m := by
  have here : (s.aborting m).cw.fwdMbx.contains m = false := own
  have runs : (s.aborting m).fwUp = s.fwUp := rfl
  unfold State.abortCommand
  extract_lets b s1
  rw [if_neg (by simp [b, Mbx.outstanding, executes]), if_neg (by simp [b, Mbx.waits, executes])]
  change (if (s.aborting m).cw.fwdMbx.contains m then _ else if firmware && (s.aborting m).fwUp then _ else _) = _
  rw [here, runs]
  rfl

theorem exec_abortWatchdog_of_aborting {s : State} {t w : Nat} {m : Fin 8} (asked : ((s.tick t).mb m).abortAt = some w)
    (aborting : ((s.tick t).mb m).mstate = 3) : exec (.abortWatchdog t m) s =
      .next (if w + 1500000 ≤ (s.tick t).now then (s.tick t).abortEnd m true else s.tick t) := by
  simp [execAbortWatchdog, asked, aborting, -State.tick_fields]

/-- Settles O30: the state of the mailbox decides what the doorbell does, and the instant what the watchdog does. -/
theorem abortEndsTheCommand : Obligations.AbortEndsTheCommand := by
  unfold Obligations.AbortEndsTheCommand
  intro s t m v firmware a
  refine ⟨fun reach => ?_, fun w asked aborting => ?_⟩
  · rw [exec_mbxAbort_of_reach reach]
    refine ⟨fun free => ?_, fun noRing => ?_, fun waits ring => ?_, fun executes ring own slow => ?_,
      fun executes ring own stops up => ?_⟩
    · rw [State.abortCommand_of_none free, ite_self]
    · rw [noRing]
      rfl
    · rw [ring, if_pos rfl, State.abortCommand_of_waiting waits]
    · rw [ring, if_pos rfl, State.abortCommand_of_executing executes own, slow]
      rfl
    · rw [ring, if_pos rfl, State.abortCommand_of_executing executes own, stops, up]
      rfl
  · rw [exec_abortWatchdog_of_aborting asked aborting]
    exact ⟨fun late => by rw [if_pos late], fun early => by rw [if_neg (Nat.not_le.mpr early)]⟩

end Sys2Proof.Machine

namespace Sys2Proof.Machine

/-! ## Two-phase commits (R92, R93, R216, R334) -/

/-- A message to the other device of a pair moves neither the rules nor the signal map. -/
theorem State.spanOut_parse_sig (s : State) (kind : Nat) (body : List Byte) :
    (s.spanOut kind body).parse = s.parse ∧ (s.spanOut kind body).sig = s.sig := by
  have kept := State.spanOut_keeps (ar := Area.telling [.sec]) (fun _ h => h) (a1 := kind) (a2 := body) (Keeps.refl s)
  exact ⟨kept.same .parse (by decide), kept.same .sig (by decide)⟩

/-- Whichever parser is in service, the versions of the rules stand. -/
theorem State.parserUpdate_rules (s : State) (cause : Nat) : (s.parserUpdate cause).parse.cur = s.parse.cur ∧
    (s.parserUpdate cause).parse.old = s.parse.old ∧ (s.parserUpdate cause).parse.staged = s.parse.staged := by
  unfold State.parserUpdate
  split
  · exact ⟨rfl, rfl, rfl⟩
  · rw [(State.raiseOf_tells _ _ _ _).parse]
    exact ⟨rfl, rfl, rfl⟩

theorem effectRuleCommit_prepare (s : State) : (effectRuleCommit s true).1 = s := by
  unfold effectRuleCommit
  split <;> rfl

/-- A switch of rules gives each the instant from which it counts, and keeps its number (R217). -/
theorem State.ruleSwitch_parse (s : State) (ver : Nat) (rules : List Rule) (graph : List Byte) :
    (s.ruleSwitch ver rules graph).parse.cur.ver = ver ∧
    (s.ruleSwitch ver rules graph).parse.cur.rules.map (·.id) = rules.map (·.id) ∧
    (s.ruleSwitch ver rules graph).parse.old = s.parse.cur := by
  refine ⟨rfl, (List.map_map ..).trans (List.map_congr_left fun r _ => ?_), rfl⟩
  simp only [Function.comp]
  split <;> rfl

/-- The commit point of the rules (R216, R217): the staged rules are in force under the next version. -/
theorem effectRuleCommit_commit {s : State} (staged : s.ruleStaged = true) :
    (effectRuleCommit s false).1.parse.cur.ver = (s.parse.cur.ver + 1) % 65536 ∧
    (effectRuleCommit s false).1.parse.cur.rules.map (·.id) = (s.parse.staged.getD s.parse.cur.rules).map (·.id) ∧
    (effectRuleCommit s false).1.parse.old = s.parse.cur ∧ (effectRuleCommit s false).1.parse.staged = none := by
  unfold effectRuleCommit
  extract_lets x new rules graph s1 s2 s3
  rw [if_neg (by rw [staged]; decide), if_neg Bool.false_ne_true]
  obtain ⟨ver, ids, old⟩ := s.ruleSwitch_parse new rules (if graph then x.gBytes else x.cur.graph)
  have spanned : s3.parse = s2.parse := (State.spanOut_parse_sig _ _ _).1
  obtain ⟨cur', old', staged'⟩ := s3.parserUpdate_rules 0
  rw [spanned] at cur' old' staged'
  rw [(State.raiseOf_tells _ _ _ _).parse, cur', old', staged']
  exact ⟨ver, ids, old, rfl⟩

theorem effectSigMapCommit_prepare (s : State) : (effectSigMapCommit s true).1 = s := by
  unfold effectSigMapCommit
  extract_lets g new
  split <;> rfl

theorem State.slotReset_maps (s : State) (k : Nat) (v : Int) :
    (s.slotReset k v).sig.cur = s.sig.cur ∧ (s.slotReset k v).sig.old = s.sig.old := by
  have unstaled : (s.unstale k).sig.cur = s.sig.cur ∧ (s.unstale k).sig.old = s.sig.old := by
    unfold State.unstale
    split <;> exact ⟨rfl, rfl⟩
  exact unstaled

/-- A switch of maps puts the new map in force, with the former as the older one (R334). -/
theorem State.mapSwitch_maps (s : State) (new : SigMap) :
    (s.mapSwitch new).sig.cur = new ∧ (s.mapSwitch new).sig.old = some s.sig.cur := by
  unfold State.mapSwitch
  extract_lets cur fresh s1
  refine List.foldlRecOn (motive := fun u : State => u.sig.cur = new ∧ u.sig.old = some s.sig.cur) _ _ ⟨rfl, rfl⟩
    fun u maps c _ => ?_
  obtain ⟨cur', old'⟩ := u.slotReset_maps c.1 c.2.init
  exact ⟨cur'.trans maps.1, old'.trans maps.2⟩

/-- The commit point of the signal map (R334): what was staged is in force. -/
theorem effectSigMapCommit_commit {s : State} (staged : s.sig.hasStaged = true) :
    (effectSigMapCommit s false).1.sig.cur = s.sig.pendingMap ∧
    (effectSigMapCommit s false).1.sig.old = some s.sig.cur ∧
    (effectSigMapCommit s false).1.sig.hasStaged = false := by
  unfold effectSigMapCommit
  extract_lets g new out s1
  rw [if_neg (by rw [staged]; decide), if_neg Bool.false_ne_true]
  obtain ⟨cur, old⟩ := s.mapSwitch_maps new
  simp only [(State.raiseOf_tells _ _ _ _).sig, (State.spanOut_parse_sig s1 _ _).2]
  exact ⟨cur, old, rfl⟩

/-- What follows the checks of a commit once the version before the current one is gone: the answer of the device that it
spans decides (R92). -/
def State.commitAfter (s : State) (m : Nat) (far : Partner) (units : List UnitResult) (prepare : Bool) (late : List Nat)
    (done : State × Reply) : State :=
  match far with
  | .silent => s.prepares m
  | .refused st detail => s.complete m { status := st, detail := detail }
  | _ => if prepare then done.1.complete m done.2 else done.1.commitFinish m units late done.2

theorem State.commitFinish_of_switched (s : State) (m : Nat) {units : List UnitResult} {late : List Nat} (x : Reply)
    (here : late = []) (sound : units.any (·.faulted) = false) : s.commitFinish m units late x = s.complete m x := by
  simp [State.commitFinish, here, sound]

/-- A committed command waits for the units that have not switched (R93, R97). -/
theorem State.commitFinish_of_late (s : State) (m : Nat) (units : List UnitResult) {late : List Nat} (x : Reply)
    (waiting : late ≠ []) : s.commitFinish m units late x = s.commitWaits m units late := by
  simp [State.commitFinish, waiting]

theorem State.mb_commitWaits (s : State) (m : Nat) (units : List UnitResult) (late : List Nat) :
    ((s.commitWaits m units late).mb m).committed = true ∧ ((s.commitWaits m units late).mb m).running = true ∧
    ((s.commitWaits m units late).mb m).aux = late := by
  simp [State.commitWaits]

/-- No unit has faulted where the device that the commit spans is ready. -/
theorem State.commitUnits_sound (s : State) (kind : Nat) (units : List UnitId) :
    (s.commitUnits kind units .ready).any (·.faulted) = false := by
  unfold State.commitUnits
  split <;> simp

/-- The answers of the other device, one after the other; of one that is ready, whether the command only prepares, and
whether every unit switches at the commit point (R92, R93). `done` is the effect of the commit, which preparing leaves
out. -/
theorem State.commitAfter_spec (s : State) (m kind : Nat) (units : List UnitId) (far : Partner) (prepare : Bool)
    (late : List Nat) {done : Bool → State × Reply} (noEffect : (done true).1 = s) :
    let u := s.commitAfter m far (s.commitUnits kind units far) prepare late (done prepare)
    (far = .silent → u = s.prepares m) ∧
    (∀ st d, far = .refused st d → u = s.complete m { status := st, detail := d }) ∧
    (∀ i n fs, far = .faulted i n fs → prepare = false →
      u = (done false).1.commitFinish m (s.commitUnits kind units (.faulted i n fs)) late (done false).2) ∧
    (far = .ready → prepare = true → u = s.complete m (done true).2) ∧
    (far = .ready → prepare = false → late = [] → u = (done false).1.complete m (done false).2) ∧
    (far = .ready → prepare = false → late ≠ [] →
      (u.mb m).committed = true ∧ (u.mb m).running = true ∧ (u.mb m).aux = late) := by
  refine ⟨?_, ?_, ?_, ?_, ?_, ?_⟩
  · rintro rfl
    rfl
  · rintro st d rfl
    rfl
  · rintro i n fs rfl rfl
    rfl
  · rintro rfl rfl
    exact congrArg (fun u : State => u.complete m (done true).2) noEffect
  · rintro rfl rfl here
    exact (done false).1.commitFinish_of_switched m _ here (s.commitUnits_sound kind units)
  · rintro rfl rfl waiting
    have waits : s.commitAfter m .ready (s.commitUnits kind units .ready) false late (done false) =
        (done false).1.commitWaits m (s.commitUnits kind units .ready) late :=
      (done false).1.commitFinish_of_late m _ _ waiting
    rw [waits]
    exact State.mb_commitWaits _ _ _ _

section
variable {s : State} {t : Nat} {m : Fin 8} {r : Req} {stuck : List Nat} {p : Partner}

section
variable (ready : Ready s t m 0x0404 r)
include ready

theorem exec_ruleCommit_of_refused {x : Reply} (refused : checkRuleCommit (s.tick t) m r.payload = some x) :
    exec (.ruleCommit t m ⟨stuck, p⟩) s = .next ((s.tick t).complete m x) := by
  simp only [exec_ruleCommit, execRuleCommit, State.command_of_ready ready, refused]

variable (passed : checkRuleCommit (s.tick t) m r.payload = none)
include passed

theorem exec_ruleCommit_of_unstaged (unstaged : (s.tick t).ruleStaged = false) : exec (.ruleCommit t m ⟨stuck, p⟩) s =
    .next ((s.tick t).complete m (effectRuleCommit (s.tick t) (bit r.flags 1)).2) := by
  simp only [exec_ruleCommit, execRuleCommit, State.command_of_ready ready, passed, unstaged]
  rfl

variable (staged : (s.tick t).ruleStaged = true)
include staged

theorem exec_ruleCommit_of_live (live : (s.tick t).oldLive = true) : exec (.ruleCommit t m ⟨stuck, p⟩) s =
    .next ((s.tick t).prepares m) := by
  simp only [exec_ruleCommit, execRuleCommit, State.command_of_ready ready, passed, staged, live]
  rfl

theorem exec_ruleCommit_of_gone (gone : (s.tick t).oldLive = false) : exec (.ruleCommit t m ⟨stuck, p⟩) s =
    .next ((s.tick t).commitAfter m ((s.tick t).partnerOf 1 p)
      ((s.tick t).commitUnits 1 [⟨2, 0⟩, ⟨2, 2⟩] ((s.tick t).partnerOf 1 p)) (bit r.flags 1)
      (stuck.filter [128, 130].contains) (effectRuleCommit (s.tick t) (bit r.flags 1))) := by
  simp only [exec_ruleCommit, execRuleCommit, State.command_of_ready ready, passed, staged, gone, State.commitAfter]
  cases (s.tick t).partnerOf 1 p <;> rfl

end

section
variable (ready : Ready s t m 0x0702 r)
include ready

theorem exec_sigMapCommit_of_refused {x : Reply} (refused : checkSigMapCommit (s.tick t) m r.payload = some x) :
    exec (.sigMapCommit t m ⟨stuck, p⟩) s = .next ((s.tick t).complete m x) := by
  simp only [exec_sigMapCommit, execSigMapCommit, State.command_of_ready ready, refused]

variable (passed : checkSigMapCommit (s.tick t) m r.payload = none)
include passed

theorem exec_sigMapCommit_of_unstaged (unstaged : (s.tick t).sig.hasStaged = false) :
    exec (.sigMapCommit t m ⟨stuck, p⟩) s =
      .next ((s.tick t).complete m (effectSigMapCommit (s.tick t) (bit r.flags 1)).2) := by
  simp only [exec_sigMapCommit, execSigMapCommit, State.command_of_ready ready, passed, unstaged]
  rfl

variable (staged : (s.tick t).sig.hasStaged = true)
include staged

theorem exec_sigMapCommit_of_live {o : SigMap} (older : (s.tick t).sig.old = some o)
    (live : (s.tick t).mapMayExpire o = false) :
    exec (.sigMapCommit t m ⟨stuck, p⟩) s = .next ((s.tick t).prepares m) := by
  simp only [exec_sigMapCommit, execSigMapCommit, State.command_of_ready ready, passed, staged, older, live,
    Bool.not_true, Bool.false_eq_true, if_false, Option.isSome_some, if_true]

theorem exec_sigMapCommit_of_gone (gone : (s.tick t).sig.old = none) : exec (.sigMapCommit t m ⟨stuck, p⟩) s =
    .next ((s.tick t).commitAfter m ((s.tick t).partnerOf 2 p)
      ((s.tick t).commitUnits 2 [⟨2, 6⟩, ⟨3, 0⟩] ((s.tick t).partnerOf 2 p)) (bit r.flags 1)
      (stuck.filter [134, 192].contains) (effectSigMapCommit (s.tick t) (bit r.flags 1))) := by
  simp only [exec_sigMapCommit, execSigMapCommit, State.command_of_ready ready, passed, staged, gone,
    State.commitAfter]
  cases (s.tick t).partnerOf 2 p <;> rfl

end
end

/-- Settles O23: the checks, what is staged, the older version and the partner's answer, in this order. -/
theorem twoPhaseCommitsComplete : Obligations.TwoPhaseCommitsComplete := by
  unfold Obligations.TwoPhaseCommitsComplete
  intro s t m r stuck p a
  have next {u v : State} (h : u = v) : (.next u : Host.Outcome State Fault Refusal) = .next v := congrArg _ h
  refine ⟨fun ready => ⟨fun x => exec_ruleCommit_of_refused ready, fun passed =>
      ⟨exec_ruleCommit_of_unstaged ready passed, exec_ruleCommit_of_live ready passed, fun staged gone => ?_⟩⟩,
    fun ready => ⟨fun x => exec_sigMapCommit_of_refused ready, fun passed =>
      ⟨exec_sigMapCommit_of_unstaged ready passed, fun o staged => exec_sigMapCommit_of_live ready passed staged,
        fun staged gone => ?_⟩⟩⟩
  · rw [exec_ruleCommit_of_gone ready passed staged gone]
    obtain ⟨silent, refused, faulted, prepared, switched, waits⟩ :=
      a.commitAfter_spec m 1 [⟨2, 0⟩, ⟨2, 2⟩] (a.partnerOf 1 p) (bit r.flags 1) (stuck.filter [128, 130].contains)
        (effectRuleCommit_prepare a)
    exact ⟨fun far => next (silent far), fun st d far => next (refused st d far),
      fun i n fs far commit => next (faulted i n fs far commit), fun far prepare => next (prepared far prepare),
      fun far commit here => ⟨next (switched far commit here), effectRuleCommit_commit staged⟩,
      fun far commit late => ⟨_, rfl, waits far commit late⟩⟩
  · rw [exec_sigMapCommit_of_gone ready passed staged gone]
    obtain ⟨silent, refused, faulted, prepared, switched, waits⟩ :=
      a.commitAfter_spec m 2 [⟨2, 6⟩, ⟨3, 0⟩] (a.partnerOf 2 p) (bit r.flags 1) (stuck.filter [134, 192].contains)
        (effectSigMapCommit_prepare a)
    exact ⟨fun far => next (silent far), fun st d far => next (refused st d far),
      fun i n fs far commit => next (faulted i n fs far commit), fun far prepare => next (prepared far prepare),
      fun far commit here => ⟨next (switched far commit here), effectSigMapCommit_commit staged⟩,
      fun far commit late => ⟨_, rfl, waits far commit late⟩⟩

end Sys2Proof.Machine

namespace Sys2Proof.Machine

/-! ## Commands of ports, buses, parser, tables and switch core (R143, R184, R219, R249, R287) -/

/-- Settles O18: each row of `portForms` and `forwardForms` runs as a simple command. -/
theorem forwardingCommandsComplete : Obligations.ForwardingCommandsComplete := by
  unfold Obligations.ForwardingCommandsComplete
  exact fun f hf => CmdForm.runs_of_exec (exec_forwardingForms f hf)

/-! ## The error states of a controller (R127) -/

theorem State.busEvent_tells (s : State) (ev b : Nat) : Tells s (s.busEvent ev b) := s.raiseOf_tells ev (busUnit b) b

theorem State.busEvent_sets (s : State) {ev : Nat} (b : Nat) (known : ev < 128) :
    (s.busEvent ev b).host.evtStatus.getLsbD ev = true := s.raise_sets 0xFF (busUnit b).code b known

theorem Tells.bus {s u : State} (h : Tells s u) (b : Nat) : u.bus b = s.bus b :=
  congrArg (fun l => Tab.get ({} : Bus) l b) h.buses

/-- One of the counters rises to the warning level of 96. -/
def Bus.warns (x : Bus) (tec rc : Nat) : Bool := (x.tec < 96 && 96 ≤ tec) || (x.recCount < 96 && 96 ≤ rc)

/-- The values of the counters make the controller error-passive. -/
def passiveAt (tec rc : Nat) : Bool := decide (128 ≤ tec) || decide (128 ≤ rc)

/-- The warning of a controller, where it is due. -/
def State.tellWarning (s : State) (b : Nat) (due : Bool) : State := if due then s.busEvent 32 b else s

/-- The change of a controller to error-passive, or from it to error-active. -/
def State.tellPassive (s : State) (b : Nat) (was now : Bool) : State :=
  if now && !was then s.busEvent 33 b else if !now && was then s.busEvent 34 b else s

theorem State.tellWarning_tells (s : State) (b : Nat) (due : Bool) : Tells s (s.tellWarning b due) := by
  cases due
  · exact Tells.refl s
  · exact s.busEvent_tells 32 b

theorem State.tellPassive_tells (s : State) (b : Nat) (was now : Bool) : Tells s (s.tellPassive b was now) := by
  cases was <;> cases now
  · exact Tells.refl s
  · exact s.busEvent_tells 33 b
  · exact s.busEvent_tells 34 b
  · exact Tells.refl s

theorem State.tellPassive_self (s : State) (b : Nat) (p : Bool) : s.tellPassive b p p = s := by cases p <;> rfl

/-- Below bus-off, new values set the counters, then the passive flag, each followed by what tells it. -/
theorem State.busCounters_below (s : State) (b : Nat) {tec rc : Nat} (below : tec < 256) (fits : rc < 256) :
    s.busCounters b tec rc =
      ((((s.modBus b fun x => { x with tec := tec, recCount := rc }).tellWarning b ((s.bus b).warns tec rc)).modBus b
        fun x => { x with passive := passiveAt tec rc }).tellPassive b (s.bus b).passive (passiveAt tec rc)) := by
  rw [State.busCounters, Nat.min_eq_right (Nat.le_of_lt below), Nat.min_eq_right (Nat.le_of_lt_succ fits)]
  exact if_neg (Nat.not_le.mpr below)

/-- Settles O45: the two changes of the controller stand in what tells them, and each bit stays set. -/
theorem errorCountersSetTheErrorState : Obligations.ErrorCountersSetTheErrorState := by
  unfold Obligations.ErrorCountersSetTheErrorState
  intro s b tec rc below fits u p
  have shape : u = _ := s.busCounters_below b below fits
  set counted := s.modBus b fun x => { x with tec := tec, recCount := rc }
  set warned := counted.tellWarning b ((s.bus b).warns tec rc)
  set judged := warned.modBus b fun x => { x with passive := passiveAt tec rc }
  have toldWarning : Tells counted warned := counted.tellWarning_tells b _
  have told : Tells judged u := shape ▸ judged.tellPassive_tells b _ _
  refine ⟨?_, fun k other => ?_, told.windows.trans toldWarning.windows, fun low high => ?_, fun active entry => ?_,
    fun passive back => ?_, fun stands highTec highRec => ?_⟩
  · rw [told.bus, State.bus_modBus, toldWarning.bus, State.bus_modBus]
    rfl
  · have apart : k.val ≠ b.val := Fin.val_ne_of_ne other
    rw [told.bus, State.bus_modBus_ne _ apart, toldWarning.bus, State.bus_modBus_ne _ apart]
  · have due : (s.bus b).warns tec rc = true := by simp [Bus.warns, low, high]
    refine told.rises 32 ?_
    show (counted.tellWarning b ((s.bus b).warns tec rc)).host.evtStatus.getLsbD 32 = true
    rw [due]
    exact counted.busEvent_sets b (by decide)
  · have passes : passiveAt tec rc = true := entry
    rw [shape, active, passes]
    exact State.busEvent_sets _ b (by decide)
  · have passes : passiveAt tec rc = false := back
    rw [shape, passive, passes]
    exact State.busEvent_sets _ b (by decide)
  · have notDue : (s.bus b).warns tec rc = false := by simp [Bus.warns, highTec, highRec]
    have same : (s.bus b).passive = passiveAt tec rc := stands
    rw [shape, same, State.tellPassive_self]
    show (counted.tellWarning b ((s.bus b).warns tec rc)).host = s.host
    rw [notDue]
    rfl

end Sys2Proof.Machine

namespace Sys2Proof.Machine

/-! ## Frames of a controller (R105, R106, R112, R116, R120 to R122, R125, R127, R130) -/

section
variable {s : State} {t : Nat} {b : Fin 32}

theorem exec_busFrameEvaluation_of_receives (live : (s.tick t).busLive b = true) (f : BusFrame) (e : Bool)
    (par : List (Nat × Nat)) (hears : ((s.tick t).bus b).errWait = false) (free : ((s.tick t).bus b).stuck = false)
    (silent : ((s.tick t).bus b).tx.engagedBuf = none) :
    exec (.busFrameEvaluation t b f e par) s = .next ((s.tick t).busEvaluate b (frameMsg f) e par) := by
  simp [execBusFrameEvaluation, live, hears, free, silent]

theorem exec_busFrameEvaluation_of_sends (f : BusFrame) (e : Bool) (par : List (Nat × Nat))
    (sends : ((s.tick t).bus b).tx.engagedBuf.isSome = true) :
    exec (.busFrameEvaluation t b f e par) s = .next (s.tick t) := by
  simp [execBusFrameEvaluation, Option.isNone_eq_false_iff.mpr sends]

theorem exec_busFrameValid_of_live (live : (s.tick t).busLive b = true) {r : BusRx}
    (runs : ((s.tick t).bus b).rx = some r) :
    exec (.busFrameValid t b) s = .next ((s.tick t).busRxValid b r) := by
  simp [execBusFrameValid, live, runs]

/-- An error in a frame that the controller does not send. -/
theorem exec_busError_of_receiver (live : (s.tick t).busLive b = true) (hears : ((s.tick t).bus b).errWait = false)
    (k : BusErr) (acked dom xl : Bool) : exec (.busError t b k false acked (.frame dom xl)) s =
      .next ((s.tick t).busFail b k false acked (.frame dom xl)) := by
  simp [execBusError, live, hears]

theorem exec_busError_of_afterFlag (live : (s.tick t).busLive b = true) (hears : ((s.tick t).bus b).errWait = false)
    (k : BusErr) (tx acked : Bool) (step : BusStep)
    (after : step = .flagBit ∨ step = .firstDominant ∨ step = .dominantRun) :
    exec (.busError t b k tx acked step) s = .next ((s.tick t).busAfterFlag b tx step) := by
  obtain rfl | rfl | rfl := after <;> simp [execBusError, live, hears]

theorem exec_busArbitrationStart_of_sends (sends : (s.tick t).busSends b = true)
    (holds : (s.tick t).twin.role.holder = true) (idle : ((s.tick t).bus b).tx.engagedBuf = none)
    (lit : (s.tick t).lightsOut = false) (lost : Bool) :
    exec (.busArbitrationStart t b lost) s = .next ((s.tick t).busArbitrate b lost) := by
  simp [execBusArbitrationStart, sends, holds, idle, lit, -State.tick_fields]

theorem exec_busArbitrationStart_of_silent (silent : (s.tick t).busSends b = false) (lost : Bool) :
    exec (.busArbitrationStart t b lost) s = .next (s.tick t) := by
  simp [execBusArbitrationStart, silent]

theorem exec_busTxValid_of_live (live : (s.tick t).busLive b = true) {n : Nat} {m : BusMsg}
    (runs : ((s.tick t).bus b).tx.engagedBuf = some n) (holds : (((s.tick t).bus b).tx.buf n).msg = some m) :
    exec (.busTxValid t b) s = .next ((s.tick t).busSent b n m) := by
  simp [execBusTxValid, live, runs, holds]

section
variable (dead : (s.tick t).busLive b = false)
include dead

theorem exec_busFrameEvaluation_of_dead (f : BusFrame) (e : Bool) (par : List (Nat × Nat)) :
    exec (.busFrameEvaluation t b f e par) s = .next (s.tick t) := by
  simp [execBusFrameEvaluation, dead]

theorem exec_busFrameValid_of_dead : exec (.busFrameValid t b) s = .next (s.tick t) := by
  simp only [exec_busFrameValid, execBusFrameValid, dead]
  cases ((s.tick t).bus b).rx <;> rfl

theorem exec_busError_of_dead (k : BusErr) (tx acked : Bool) (step : BusStep) :
    exec (.busError t b k tx acked step) s = .next (s.tick t) := by
  simp [execBusError, dead]

theorem exec_busTxValid_of_dead : exec (.busTxValid t b) s = .next (s.tick t) := by
  simp only [exec_busTxValid, execBusTxValid, dead]
  split
  · rfl
  · split <;> rfl

end
end

theorem State.busSends_of_dead {s : State} {b : Nat} (dead : s.busLive b = false) : s.busSends b = false := by
  simp [State.busSends, dead]

/-- Restricted operation, a dominant bus and a wait for integration each keep a controller from sending. -/
theorem State.busSends_of_held {s : State} {b : Nat}
    (held : (s.bus b).restricted = true ∨ (s.bus b).stuck = true ∨ (s.bus b).errWait = true) : s.busSends b = false := by
  obtain h | h | h := held <;> simp [State.busSends, h]

/-- A frame that was valid stays in the journal: what follows its sending sends more, or nothing. -/
theorem State.busSent_sent (s : State) (b n : Nat) (m : BusMsg) :
    ∃ brs, Sent.bus b { m with brs := brs } ∈ (s.busSent b n m).sent := by
  have any (l : List Area) : Within l Area.all := Within.any l
  have kept : Keeps Area.all (s.send (.bus b { m with
      brs := m.brs && (m.kind != 1 || bit ((s.bus b).cfg.getD {}).frames 3) })) (s.busSent b n m) :=
    State.drainStep_keeps (any _) (State.refill_keeps (any _) (State.busCounters_keeps (any _)
      (State.bufDrop_keeps (any _) (State.noackEnd_keeps (any _) (State.count_keeps (any _) (Keeps.refl _))))))
  exact ⟨_, kept.sent.mem List.mem_cons_self⟩

/-- Settles O43: each command by its guard, which a controller out of service never meets. -/
theorem busFramesRunOnALiveController : Obligations.BusFramesRunOnALiveController := by
  unfold Obligations.BusFramesRunOnALiveController
  intro s t b a x
  refine ⟨fun live => ⟨exec_busFrameEvaluation_of_receives live, exec_busFrameEvaluation_of_sends,
      fun r => exec_busFrameValid_of_live live,
      fun hears => ⟨exec_busError_of_receiver live hears, exec_busError_of_afterFlag live hears⟩,
      fun lost normal noWish holds free hears goesOn idle lit => ?_,
      fun n m runs holds => ⟨exec_busTxValid_of_live live runs holds, a.busSent_sent b n m⟩⟩,
    fun dead => ⟨exec_busFrameEvaluation_of_dead dead, exec_busFrameValid_of_dead dead, exec_busError_of_dead dead,
      exec_busArbitrationStart_of_silent (State.busSends_of_dead dead), exec_busTxValid_of_dead dead⟩,
    fun lost held => exec_busArbitrationStart_of_silent (State.busSends_of_held held) lost⟩
  have sends : a.busSends b = true := by
    show (a.busLive b && !x.restricted && x.wantMode != some true && !x.stuck && !x.errWait && !x.tx.aborting) = true
    simp [live, normal, noWish, free, hears, goesOn]
  exact exec_busArbitrationStart_of_sends sends holds idle lit lost

end Sys2Proof.Machine

namespace Sys2Proof.Machine

/-! ## Recovery, integration, modes, drain (R128, R130, R138 to R141) -/

/-- Nothing of controller `b` moves but its transmit side. -/
def State.TxMoves (s u : State) (b : Nat) : Prop := ∃ tx, u.bus b = { s.bus b with tx := tx }

theorem State.TxMoves.of_buses {s u : State} (h : u.buses = s.buses) (b : Nat) : s.TxMoves u b :=
  ⟨(s.bus b).tx, by rw [State.bus, h]; rfl⟩

theorem Keeps.txMoves {l : List Area} {s u : State} (h : Keeps l s u) (apart : Area.buses ∉ l) (b : Nat) : s.TxMoves u b :=
  .of_buses (h.same .buses apart) b

theorem State.TxMoves.trans {s u v : State} {b : Nat} (h : s.TxMoves u b) (k : u.TxMoves v b) : s.TxMoves v b := by
  obtain ⟨_, h⟩ := h
  obtain ⟨tx, k⟩ := k
  exact ⟨tx, by rw [k, h]⟩

theorem State.TxMoves.refl (s : State) (b : Nat) : s.TxMoves s b := .of_buses rfl b

theorem State.modTx_txMoves (s : State) (b : Nat) (g : BusTx → BusTx) : s.TxMoves (s.modTx b g) b :=
  ⟨_, s.bus_modBus b _⟩

theorem State.bufReturn_txMoves (s : State) (b n : Nat) : s.TxMoves (s.bufReturn b n) b := by
  unfold State.bufReturn
  split
  · exact .refl s b
  · exact (s.modTx_txMoves b _).trans ⟨_, State.bus_modBus _ b _⟩

theorem State.bufReturnAll_txMoves (s : State) (b : Nat) : s.TxMoves (s.bufReturnAll b) b :=
  (((s.modTx_txMoves b _).trans (State.bufReturn_txMoves _ b 0)).trans (State.bufReturn_txMoves _ b 1)).trans
    (State.bufReturn_txMoves _ b 2)

theorem State.bufDrop_txMoves (s : State) (b n : Nat) : s.TxMoves (s.bufDrop b n) b := by
  unfold State.bufDrop
  split
  · exact .refl s b
  · exact (s.modTx_txMoves b _).trans ((State.releaseRef_keeps (fun _ h => h) (Keeps.refl _)).txMoves (by decide) b)

theorem State.heldPlace_txMoves (s : State) (b f : Nat) : s.TxMoves (s.heldPlace b f) b := by
  unfold State.heldPlace
  extract_lets x
  split
  · exact .refl s b
  · split
    · exact .refl s b
    · exact ((s.modTx_txMoves b _).trans (State.bufReturn_txMoves _ b _)).trans (State.modTx_txMoves _ b _)

theorem State.refillStep_txMoves {s u : State} {b : Nat} (h : s.refillStep b = some u) : s.TxMoves u b := by
  unfold State.refillStep at h
  extract_lets x at h
  split at h
  · cases h
  · extract_lets target at h
    clear_value target
    split at h
    · cases h
    · split at h <;> cases h
      · exact (s.modTx_txMoves b _).trans ((State.busAged_keeps (fun _ h => h) (Keeps.refl _)).txMoves (by decide) b)
      · exact ((((State.cross_keeps (fun _ h => h) (Keeps.refl s)).txMoves (by decide) b).trans
          (State.modTx_txMoves _ b _)).trans (State.bufReturn_txMoves _ b _)).trans (State.modTx_txMoves _ b _)

theorem State.refillLoop_txMoves (n : Nat) (s : State) (b : Nat) : s.TxMoves (s.refillLoop b n) b := by
  induction n generalizing s with
  | zero => exact .refl s b
  | succ n ih =>
    unfold State.refillLoop
    split
    · exact .refl s b
    · exact (State.refillStep_txMoves ‹_›).trans (ih _)

theorem State.refillOrder_txMoves (s : State) (b : Nat) : s.TxMoves (s.refillOrder b) b :=
  List.foldlRecOn (motive := fun u => s.TxMoves u b) _ _ (.refl s b) fun _ h _ _ => h.trans (State.modTx_txMoves _ b _)

theorem State.refill_txMoves (s : State) (b : Nat) : s.TxMoves (s.refill b) b := by
  unfold State.refill
  split
  · exact (State.refillLoop_txMoves _ s b).trans (State.refillOrder_txMoves _ b)
  · exact .refl s b

theorem State.busModeSet_bus (s : State) (b : Nat) (r : Bool) :
    (s.busModeSet b r).bus b = { s.bus b with wantMode := none, restricted := r } := by
  unfold State.busModeSet
  extract_lets x v
  have set : v.bus b = { s.bus b with wantMode := none, restricted := r } := s.bus_modBus b _
  split
  · exact set
  · rw [(v.busEvent_tells 46 b).bus, set]

theorem State.busModeSet_standby (s : State) (b : Nat) (r : Bool) : (s.busModeSet b r).standby = s.standby := by
  have kept := State.busModeSet_keeps (ar := Area.telling [.buses]) (fun _ h => h) (a1 := b) (a2 := r) (Keeps.refl s)
  have twin : (s.busModeSet b r).twin = s.twin := kept.same .twin (by decide)
  rw [State.standby, State.standby, twin]

/-- A controller is not bus-off, and both its error counters are 0. -/
def Bus.Recovered (x : Bus) : Prop := x.busOff = false ∧ x.tec = 0 ∧ x.recCount = 0

theorem State.TxMoves.recovered {s u : State} {b : Nat} (h : s.TxMoves u b) (k : (s.bus b).Recovered) :
    (u.bus b).Recovered := by
  obtain ⟨tx, h⟩ := h
  rw [h]
  exact k

/-- Recovery clears bus-off and both counters; the mode, the held message and the refill that follow move neither. -/
theorem State.busOn_recovered (s : State) (b : Nat) : ((s.busOn b).bus b).Recovered := by
  unfold State.busOn
  extract_lets x cleared told moded placed
  have clear : (cleared.bus b).Recovered := by
    rw [State.bus_modBus]
    exact ⟨rfl, rfl, rfl⟩
  have afterEvent : (told.bus b).Recovered := by
    rw [(cleared.busEvent_tells 42 b).bus]
    exact clear
  have afterMode : (moded.bus b).Recovered := by
    unfold moded
    split
    · rw [State.busModeSet_bus]
      exact afterEvent
    · exact afterEvent
  have afterPlace : (placed.bus b).Recovered := by
    unfold placed
    split
    · exact (State.heldPlace_txMoves moded b _).recovered afterMode
    · exact afterMode
  split
  · exact ((moded.bufReturnAll_txMoves b).trans (State.refill_txMoves _ b)).recovered afterMode
  · split
    · exact ((placed.modTx_txMoves b _).trans (State.refill_txMoves _ b)).recovered afterPlace
    · split
      · rename_i n m _ _
        have aged := ((placed.bufDrop b n).count_tells 3 b ctrBusTxAged 1).trans
          (State.raiseOf_tells _ 45 (busUnit b) m.detail)
        exact (((placed.bufDrop_txMoves b n).trans (.of_buses aged.buses b)).trans (State.refill_txMoves _ b)).recovered
          afterPlace
      · exact (placed.modTx_txMoves b _).recovered afterPlace

section
variable {s : State} {t : Nat} {b : Fin 32}

section
variable (enabled : ((s.tick t).bus b).enabled = true) (off : ((s.tick t).bus b).busOff = true)
  (recovers : ((s.tick t).bus b).recovering = true) (up : (s.tick t).unitUp (busUnit b) = true)
include enabled off recovers up

theorem exec_busRecoveryOccurrence_of_early (early : ((s.tick t).bus b).recovery + 1 < 128) :
    exec (.busRecoveryOccurrence t b) s = .next ((s.tick t).modBus b fun x => { x with
      recovery := x.recovery + 1, stuck := false, errWait := false }) := by
  simp [execBusRecoveryOccurrence, enabled, off, recovers, up, early]

theorem exec_busRecoveryOccurrence_of_last (last : 128 ≤ ((s.tick t).bus b).recovery + 1) :
    exec (.busRecoveryOccurrence t b) s = .next (((s.tick t).modBus b fun x => { x with
      recovery := x.recovery + 1, stuck := false, errWait := false }).busOn b) := by
  simp [execBusRecoveryOccurrence, enabled, off, recovers, up, Nat.not_lt.mpr last]

end

theorem exec_busRecoveryOccurrence_of_idle (idle : ((s.tick t).bus b).enabled = false ∨
    ((s.tick t).bus b).busOff = false ∨ ((s.tick t).bus b).recovering = false) :
    exec (.busRecoveryOccurrence t b) s = .next (s.tick t) := by
  obtain h | h | h := idle <;> simp [execBusRecoveryOccurrence, h]

theorem exec_stuckDominant_of_first (enabled : ((s.tick t).bus b).enabled = true)
    (first : ((s.tick t).bus b).stuck = false) (up : (s.tick t).unitUp (busUnit b) = true) :
    exec (.stuckDominant t b) s = .next ((((s.tick t).modBus b fun x => { x with stuck := true }).count 3 b
      ctrBusStuckDominant).busEvent 38 b) := by
  simp [execStuckDominant, enabled, first, up]

theorem exec_stuckDominant_of_stuck (stuck : ((s.tick t).bus b).stuck = true) :
    exec (.stuckDominant t b) s = .next (s.tick t) := by
  simp [execStuckDominant, stuck]

theorem exec_busIntegrationDone_of_integrated (enabled : ((s.tick t).bus b).enabled = true)
    (up : (s.tick t).unitUp (busUnit b) = true)
    (known : ((s.tick t).bus b).integrating = false ∨ ((s.tick t).bus b).busOff = true) :
    exec (.busIntegrationDone t b) s =
      .next ((s.tick t).modBus b fun x => { x with stuck := false, errWait := false }) := by
  obtain h | h := known <;> simp [execBusIntegrationDone, enabled, up, h]

theorem exec_busIntegrationDone_of_integrating (enabled : ((s.tick t).bus b).enabled = true)
    (up : (s.tick t).unitUp (busUnit b) = true) (waits : ((s.tick t).bus b).integrating = true)
    (on : ((s.tick t).bus b).busOff = false) : exec (.busIntegrationDone t b) s =
      .next (((s.tick t).modBus b fun x => { x with stuck := false, errWait := false }).busIntegrated b) := by
  simp [execBusIntegrationDone, enabled, up, waits, on]

theorem exec_busIntegrationDone_of_disabled (disabled : ((s.tick t).bus b).enabled = false) :
    exec (.busIntegrationDone t b) s = .next (s.tick t) := by
  simp [execBusIntegrationDone, disabled]

theorem exec_busModeEffect_of_no_wish (owns : (s.tick t).twin.frozenAt = none)
    (noWish : ((s.tick t).bus b).wantMode = none) : exec (.busModeEffect t b) s = .next (s.tick t) := by
  simp [execBusModeEffect, State.freezeCut, owns, noWish, -State.tick_fields]

theorem exec_busModeEffect_of_normal (owns : (s.tick t).twin.frozenAt = none)
    (wish : ((s.tick t).bus b).wantMode = some false) (live : (s.tick t).busLive b = true)
    (idle : ((s.tick t).bus b).tx.engagedBuf = none) :
    exec (.busModeEffect t b) s = .next (((s.tick t).busModeSet b false).refill b) := by
  simp [execBusModeEffect, State.freezeCut, owns, wish, live, idle, -State.tick_fields]

theorem exec_busModeEffect_of_restricted (owns : (s.tick t).twin.frozenAt = none)
    (wish : ((s.tick t).bus b).wantMode = some true) (live : (s.tick t).busLive b = true)
    (idle : ((s.tick t).bus b).tx.engagedBuf = none) (active : (s.tick t).standby = false) :
    exec (.busModeEffect t b) s = .next ((((s.tick t).busModeSet b true).bufReturnAll b).refill b) := by
  simp [execBusModeEffect, State.freezeCut, owns, wish, live, idle, active, State.busModeSet_standby, -State.tick_fields]

theorem exec_drainLimitExpiry_of_no_drain (stays : ((s.tick t).bus b).tx.draining = none) :
    exec (.drainLimitExpiry t b) s = .next (s.tick t) := by
  simp [execDrainLimitExpiry, stays]

theorem exec_drainLimitExpiry_of_drain {w : Nat} (drains : ((s.tick t).bus b).tx.draining = some w)
    (noAbort : ((s.tick t).bus b).tx.aborting = false) :
    exec (.drainLimitExpiry t b) s = .next ((s.tick t).drainStep b) := by
  simp [execDrainLimitExpiry, drains, noAbort]

end

/-- Settles O44: each command by its guard, and recovery by what it leaves of the controller. -/
theorem busRecoveryAndModes : Obligations.BusRecoveryAndModes := by
  unfold Obligations.BusRecoveryAndModes
  intro s t b a x
  exact ⟨fun enabled off recovers up => ⟨exec_busRecoveryOccurrence_of_early enabled off recovers up,
      fun last => ⟨exec_busRecoveryOccurrence_of_last enabled off recovers up last, a.busOn_recovered b⟩⟩,
    exec_busRecoveryOccurrence_of_idle,
    fun enabled first up => ⟨_, exec_stuckDominant_of_first enabled first up,
      (State.count_tells _ 3 b _ 1).trans (State.busEvent_tells _ 38 b), State.busEvent_sets _ b (by decide)⟩,
    exec_stuckDominant_of_stuck,
    fun enabled up => ⟨exec_busIntegrationDone_of_integrated enabled up,
      exec_busIntegrationDone_of_integrating enabled up⟩,
    exec_busIntegrationDone_of_disabled,
    exec_busModeEffect_of_no_wish,
    exec_busModeEffect_of_normal,
    exec_busModeEffect_of_restricted,
    exec_drainLimitExpiry_of_no_drain,
    fun _ => exec_drainLimitExpiry_of_drain⟩

end Sys2Proof.Machine

namespace Sys2Proof.Machine

/-! ## Links that stand and links that fall (R152, R154, R279, R280)

Only `State.linkRaised` brings a link up. Of the operations below it and below the actions of the fault collector, most leave
the link of every port as it is; a lost link and what isolates a unit only take links down. -/

/-- The link of every port is as it was in `z`. -/
def LinksStand (z a : State) : Prop := ∀ q, (a.port q).linkUp = (z.port q).linkUp

/-- No port has a link that it did not have in `z`. -/
def NoLinkRises (z a : State) : Prop := ∀ q, (a.port q).linkUp = true → (z.port q).linkUp = true

/-- A field of every port stands where the change of one port leaves that field. -/
theorem State.port_modPort_field {α : Type} (field : Eth → α) (s : State) (p q : Nat) {f : Eth → Eth}
    (e : ∀ x, field (f x) = field x) : field ((s.modPort p f).port q) = field (s.port q) := by
  by_cases same : q = p
  · rw [same, State.port_modPort, e]
  · rw [State.port_modPort_ne s same]

/-- The areas of the state but the ports. -/
abbrev offPorts : List Area := Area.but [.eth]

theorem offPorts_within {l : List Area} (e : (l.all fun x => offPorts.contains x) = true) : Within l offPorts :=
  Within.m (fun _ h => h) e

theorem Keeps.linkUp {a b : State} (k : Keeps offPorts a b) (q : Nat) : (b.port q).linkUp = (a.port q).linkUp := by
  have same : b.port q = _ := k.same .eth (by decide) q
  rw [same]

section
variable {z a b : State}

theorem LinksStand.refl : LinksStand z z := fun _ => rfl

theorem LinksStand.off (h : LinksStand z a) (k : Keeps offPorts a b) : LinksStand z b := fun q => (k.linkUp q).trans (h q)

theorem LinksStand.port {p : Nat} {f : Eth → Eth} (h : LinksStand z a) (e : ∀ x, (f x).linkUp = x.linkUp := by intro; rfl) :
    LinksStand z (a.modPort p f) := fun q => (State.port_modPort_field Eth.linkUp a p q e).trans (h q)

theorem LinksStand.ite {c : Prop} [Decidable c] (h : LinksStand z a) (k : LinksStand z b) :
    LinksStand z (if c then a else b) := by
  split <;> assumption

theorem LinksStand.each {α : Type} {f : State → α → State} {l : List α} (h : LinksStand z a)
    (k : ∀ u x, LinksStand z u → LinksStand z (f u x)) : LinksStand z (l.foldl f a) :=
  List.foldlRecOn (motive := LinksStand z) _ _ h fun u hu x _ => k u x hu

theorem LinksStand.falls (h : LinksStand z a) : NoLinkRises z a := fun q up => (h q).symm.trans up

theorem NoLinkRises.refl : NoLinkRises z z := fun _ up => up

theorem NoLinkRises.trans {c : State} (h : NoLinkRises z b) (k : NoLinkRises b c) : NoLinkRises z c :=
  fun q up => h q (k q up)

theorem NoLinkRises.off (h : NoLinkRises z a) (k : Keeps offPorts a b) : NoLinkRises z b :=
  fun q up => h q ((k.linkUp q).symm.trans up)

theorem NoLinkRises.ite {c : Prop} [Decidable c] (h : NoLinkRises z a) (k : NoLinkRises z b) :
    NoLinkRises z (if c then a else b) := by
  split <;> assumption

theorem NoLinkRises.each {α : Type} {f : State → α → State} {l : List α} (h : NoLinkRises z a)
    (k : ∀ u x, NoLinkRises z u → NoLinkRises z (f u x)) : NoLinkRises z (l.foldl f a) :=
  List.foldlRecOn (motive := NoLinkRises z) _ _ h fun u hu x _ => k u x hu

/-! Events and counters, which every operation tells of. -/

theorem LinksStand.told (h : LinksStand z a) (k : Tells a b) : LinksStand z b :=
  fun q => by rw [k.port q, h q]

theorem LinksStand.count {g f i n : Nat} (h : LinksStand z a) : LinksStand z (a.count g f i n) :=
  h.told (a.count_tells g f i n)

theorem LinksStand.raiseOf {ev d : Nat} {u : UnitId} (h : LinksStand z a) : LinksStand z (a.raiseOf ev u d) :=
  h.told (a.raiseOf_tells ev u d)

theorem LinksStand.countAt {f g n i : Nat} (h : LinksStand z a) : LinksStand z (a.countAt f g n i) :=
  h.off (State.countAt_keeps (offPorts_within rfl) (.refl a))

/-! The egress of a port, frames and references. -/

theorem LinksStand.creditRun {p t : Nat} (h : LinksStand z a) : LinksStand z (a.creditRun p t) := by
  unfold State.creditRun
  exact h.port

theorem LinksStand.pauseSend {p : Nat} (h : LinksStand z a) : LinksStand z (a.pauseSend p) := by
  unfold State.pauseSend
  extract_lets x
  split
  · exact h
  · rename_i q _
    refine h.port.ite (h.ite ?_)
    extract_lets sent f counted out
    have stands : LinksStand z out := ((LinksStand.port h).told (State.send_tells sent _)).count.count.count
    exact stands.raiseOf.ite stands

theorem LinksStand.pauseJudge {p : Nat} (h : LinksStand z a) : LinksStand z (a.pauseJudge p) := by
  unfold State.pauseJudge
  exact h.port.pauseSend.ite (h.port.pauseSend.ite h)

theorem LinksStand.setCells {f n : Nat} (h : LinksStand z a) : LinksStand z (a.setCells f n) := by
  unfold State.setCells
  extract_lets x charged pooled judged
  have stands : LinksStand z judged := h.off (State.poolJudge_keeps (offPorts_within rfl) (State.modPool_keeps
    (offPorts_within rfl) (State.modFrame_keeps (offPorts_within rfl) (.refl a))))
  exact stands.pauseJudge.ite stands

theorem LinksStand.releaseRef {f : Nat} (h : LinksStand z a) : LinksStand z (a.releaseRef f) := by
  unfold State.releaseRef
  extract_lets x released
  have stands : LinksStand z released := h.off (State.modFrame_keeps (offPorts_within rfl) (.refl a))
  exact (stands.setCells.off (State.retire_keeps (offPorts_within rfl) (.refl _))).ite stands

theorem LinksStand.portTake {p f : Nat} {tally : State → Nat → State} (h : LinksStand z a)
    (k : ∀ u c, LinksStand z u → LinksStand z (tally u c)) : LinksStand z (a.portTake p f tally) := by
  unfold State.portTake
  exact h.each fun _ c hu => hu.ite (hu.port.each fun u _ => k u c)

theorem LinksStand.busTake {f : Nat} {tally : State → State} (h : LinksStand z a)
    (k : ∀ u, LinksStand z u → LinksStand z (tally u)) : LinksStand z (a.busTake f tally) := by
  unfold State.busTake
  extract_lets waited
  have stands : LinksStand z waited := (k _ (h.off (State.modFrame_keeps (offPorts_within rfl) (.refl a)))).ite h
  exact stands.each fun u _ hu => (k _ (hu.off (State.modTx_keeps (offPorts_within rfl) (.refl u)))).ite hu

theorem LinksStand.frameSpoil {f : Nat} (h : LinksStand z a) : LinksStand z (a.frameSpoil f) := by
  unfold State.frameSpoil
  extract_lets spoiled taken
  have stands : LinksStand z spoiled := h.off (State.modFrame_keeps (offPorts_within rfl) (.refl a))
  have stands : LinksStand z taken := stands.each fun _ _ hu => hu.portTake fun _ _ hv => hv.releaseRef
  exact (stands.busTake fun _ hu => hu.releaseRef).off (State.retire_keeps (offPorts_within rfl) (.refl _))

theorem LinksStand.spoilFrame {f : Nat} (h : LinksStand z a) : LinksStand z (a.spoilFrame f) := by
  unfold State.spoilFrame
  extract_lets x rewound dropped ended
  have rewinds : Keeps offPorts a rewound :=
    State.each_keeps (fun _ _ k => State.tqRewind_keeps (offPorts_within rfl) k) (.refl a)
  have drops : Keeps offPorts a dropped :=
    State.policeDebit_keeps (offPorts_within rfl) (State.lookupsDrop_keeps (offPorts_within rfl) rewinds)
  exact h.ite (h.off (State.specEnd_keeps (offPorts_within rfl) drops)).frameSpoil

theorem LinksStand.txCut {p : Nat} (h : LinksStand z a) : LinksStand z (a.txCut p) := by
  unfold State.txCut
  split
  · exact h
  · extract_lets cut
    have stands : LinksStand z cut := h.port.told (State.send_tells _ _)
    exact stands.count.releaseRef

theorem LinksStand.txStarve {p ctr : Nat} (h : LinksStand z a) : LinksStand z (a.txStarve p ctr) := by
  unfold State.txStarve
  split
  · exact h
  · refine h.ite ?_
    split
    rename_i n u drawn
    have stands : LinksStand z u := h.off (keeps_snd drawn (State.drawBelow_keeps (.refl a)))
    exact stands.port.count.ite stands.port

/-! Flushes and hold windows. -/

theorem LinksStand.flushPort {p : Nat} (h : LinksStand z a) : LinksStand z (a.flushPort p).1 := by
  unfold State.flushPort
  exact List.foldlRecOn (motive := fun u : State × Nat => LinksStand z u.1) _ _ h fun _ hu _ _ =>
    hu.port.each fun _ _ hv => hv.countAt.releaseRef

theorem LinksStand.portFlush {p : Nat} (h : LinksStand z a) : LinksStand z (a.portFlush p) := by
  have stands : LinksStand z (a.flushPort p).1 := h.flushPort
  unfold State.portFlush
  generalize a.flushPort p = flushed at stands ⊢
  exact stands.port.count.raiseOf

theorem LinksStand.holdEnter {p : Nat} (h : LinksStand z a) : LinksStand z (a.holdEnter p) := by
  unfold State.holdEnter
  exact h.creditRun.count.portFlush.ite h.creditRun.count.port

theorem LinksStand.holdLeave {p : Nat} (h : LinksStand z a) : LinksStand z (a.holdLeave p) := by
  unfold State.holdLeave
  exact h.creditRun.port.count.ite h.creditRun.port

theorem LinksStand.l2Limit {p : Nat} (h : LinksStand z a) : LinksStand z (a.l2Limit p) := by
  unfold State.l2Limit
  exact h.port.raiseOf.ite h.port

theorem LinksStand.l2Flush {p v : Option Nat} (h : LinksStand z a) : LinksStand z (a.l2Flush p v).1 := by
  unfold State.l2Flush
  extract_lets hit n emptied judged
  have stands : LinksStand z emptied := h.off (State.modTbl_keeps (offPorts_within rfl) (.refl a))
  have stands : LinksStand z judged := stands.each fun _ _ hu => hu.l2Limit
  exact stands.ite stands.count

/-! Neighbours and sessions. -/

theorem LinksStand.encJudge {p : Nat} (h : LinksStand z a) : LinksStand z (a.encJudge p) := by
  unfold State.encJudge
  extract_lets x wait judged told
  have stands : LinksStand z told := (LinksStand.raiseOf h.port).ite h.port
  exact h.ite (stands.ite (stands.holdEnter.ite stands.holdLeave))

theorem LinksStand.chainSettle {old : List (Nat × Nat × Nat)} (h : LinksStand z a) : LinksStand z (a.chainSettle old) := by
  unfold State.chainSettle
  extract_lets brk ring master moved changed settled flushed
  have stands : LinksStand z settled := h.off (State.modCw_keeps (offPorts_within rfl) (.refl a))
  have stands : LinksStand z flushed := (stands.each fun _ _ hu => hu.l2Flush).ite stands
  exact (stands.told (State.raise_tells _ _ _ _ _)).ite stands

theorem LinksStand.nbLost {p : Nat} (h : LinksStand z a) : LinksStand z (a.nbLost p) := by
  unfold State.nbLost
  refine h.ite ?_
  extract_lets old lost
  have stands : LinksStand z lost := h.port
  have stands : LinksStand z (lost.cwLinkEvent p 1) := stands.raiseOf
  exact stands.encJudge.chainSettle.off (State.topologySend_keeps (offPorts_within rfl) (.refl _))

theorem LinksStand.cwLinkUp {p : Nat} (h : LinksStand z a) : LinksStand z (a.cwLinkUp p) := by
  unfold State.cwLinkUp State.cwNonce
  have drawn : LinksStand z (a.drawBytes 8).2 := h.off (State.drawBytes_keeps (.refl a))
  exact h.ite (drawn.port.encJudge.off (State.hello_keeps (offPorts_within rfl) (.refl _)))

theorem LinksStand.encReview (h : LinksStand z a) : LinksStand z a.encReview := by
  unfold State.encReview
  exact h.each fun _ _ hu => hu.port.encJudge.ite hu

/-! Controllers, whose messages release references. -/

theorem LinksStand.busAged {b : Nat} {m : BusMsg} (h : LinksStand z a) : LinksStand z (a.busAged b m) := by
  unfold State.busAged
  exact h.releaseRef.count.raiseOf

theorem LinksStand.refillStep {b : Nat} (h : LinksStand z a) {u : State} (e : a.refillStep b = some u) : LinksStand z u := by
  unfold State.refillStep at e
  extract_lets x at e
  split at e
  · cases e
  · extract_lets target at e
    clear_value target
    split at e
    · cases e
    · split at e <;> cases e
      · exact (h.off (State.deepTake_keeps (offPorts_within rfl) (.refl a))).busAged
      · exact h.off (State.modTx_keeps (offPorts_within rfl) (State.bufReturn_keeps (offPorts_within rfl)
          (State.deepTake_keeps (offPorts_within rfl) (State.cross_keeps (offPorts_within rfl) (.refl a)))))

theorem LinksStand.refillLoop {b : Nat} (n : Nat) (h : LinksStand z a) : LinksStand z (a.refillLoop b n) := by
  induction n generalizing a with
  | zero => exact h
  | succ n ih =>
    unfold State.refillLoop
    split
    · exact h
    · exact ih (h.refillStep ‹_›)

theorem LinksStand.refill {b : Nat} (h : LinksStand z a) : LinksStand z (a.refill b) := by
  unfold State.refill
  exact ((h.refillLoop _).off (State.refillOrder_keeps (offPorts_within rfl) (.refl _))).ite h

theorem LinksStand.busRxSpoil {b : Nat} (h : LinksStand z a) : LinksStand z (a.busRxSpoil b) := by
  unfold State.busRxSpoil
  split
  · exact h
  · rename_i r _
    extract_lets stopped released unwaited told
    have stops : Keeps offPorts a stopped := State.modBus_keeps (offPorts_within rfl) (.refl a)
    have stands : LinksStand z stopped := h.off stops
    have releases : Keeps offPorts a released := by
      unfold released
      split
      · exact State.engineRelease_keeps (offPorts_within rfl) stops
      · exact stops
    have tells : Keeps offPorts a told :=
      State.modTbl_keeps (offPorts_within rfl) (State.modSec_keeps (offPorts_within rfl) releases)
    have ended : LinksStand z (told.specEnd r.fid b r.specSet) :=
      h.off (State.specEnd_keeps (offPorts_within rfl) tells)
    exact ended.count.ite ((stands.off (State.tqRewind_keeps (offPorts_within rfl) (.refl _))).ite
      (stands.spoilFrame.ite stands))

theorem LinksStand.busIsolate {b : Nat} (h : LinksStand z a) : LinksStand z (a.busIsolate b) := by
  unfold State.busIsolate
  exact h.busRxSpoil.off (State.modBus_keeps (offPorts_within rfl) (State.bufReturnAll_keeps (offPorts_within rfl) (.refl _)))

/-! The packet buffer and the cipher. -/

theorem LinksStand.bufferClear (h : LinksStand z a) : LinksStand z a.bufferClear := by
  unfold State.bufferClear
  extract_lets counted rxs spoiled starved emptied undeep kept cleared
  have stands : LinksStand z counted := h.each fun _ _ hu => hu.count
  have stands : LinksStand z spoiled := stands.each fun _ _ hu => hu.spoilFrame
  have stands : LinksStand z starved := stands.each fun _ _ hu => hu.txStarve
  have stands : LinksStand z emptied := stands.each fun _ _ hu => hu.port
  have stands : LinksStand z undeep := stands.each fun _ _ hu => hu.off (State.modTx_keeps (offPorts_within rfl) (.refl _))
  have stands : LinksStand z cleared := stands.off (State.modSw_keeps (offPorts_within rfl) (.refl _))
  exact (stands.each fun _ _ hu => hu.off (State.poolJudge_keeps (offPorts_within rfl) (.refl _))).each
    fun _ _ hu => hu.pauseJudge

theorem LinksStand.cipherCut (h : LinksStand z a) : LinksStand z a.cipherCut := by
  unfold State.cipherCut
  exact h.each fun _ _ hu => LinksStand.txStarve (hu.each fun _ _ hv => hv.spoilFrame)

/-! What takes links down: a lost link, the isolation of a unit or an island, the actions of the fault collector. -/

theorem NoLinkRises.stand (h : NoLinkRises z a) (k : LinksStand a b) : NoLinkRises z b := h.trans k.falls

/-- A lost link is down, and every other link is as it was. -/
theorem State.linkLost_linkUp (s : State) (p q : Nat) :
    ((s.linkLost p).port q).linkUp = ((s.port q).linkUp && q != p) := by
  unfold State.linkLost
  extract_lets x cut spoiled down told flushed held
  split
  · rename_i wasDown
    by_cases same : q = p
    · subst same
      simpa using wasDown
    · simp [same]
  · have stands : LinksStand s cut := LinksStand.refl.creditRun.txCut
    have stands : LinksStand s spoiled := by
      unfold spoiled
      split
      · exact stands.spoilFrame
      · exact stands
    have after : LinksStand down told := LinksStand.refl.raiseOf
    have after : LinksStand down flushed := (after.l2Flush.off (State.mirrorOut_keeps (.refl _))).ite after
    have after : LinksStand down held := after.ite after.holdEnter
    rw [after.nbLost.encJudge q]
    by_cases same : q = p
    · subst same
      simp [down]
    · simp [down, State.port_modPort_ne _ same, same, stands q]

theorem NoLinkRises.linkLost {p : Nat} (h : NoLinkRises z a) : NoLinkRises z (a.linkLost p) := by
  intro q up
  rw [State.linkLost_linkUp, Bool.and_eq_true_iff] at up
  exact h q up.1

theorem NoLinkRises.isolateEffects {i : Nat} (h : NoLinkRises z a) : NoLinkRises z (a.isolateEffects i) := by
  unfold State.isolateEffects
  extract_lets masked quiet lost buses
  have masks : Keeps offPorts a masked := State.modFlt_keeps (offPorts_within rfl) (.refl a)
  have falls : NoLinkRises z quiet := h.off (keeps_ite masks (State.wireQuiet_keeps (offPorts_within rfl) masks))
  have fallsLost : NoLinkRises z lost := falls.each fun _ _ hu => hu.linkLost
  have fallsBuses : NoLinkRises z buses := fallsLost.each fun _ _ hu => hu.stand LinksStand.refl.busIsolate
  have fallsTdm := NoLinkRises.each (l := islandTdm i) fallsBuses
    fun u x hu => hu.off (State.tdmStop_keeps (a1 := x) (offPorts_within rfl) (.refl u))
  have fallsCipher := LinksStand.encReview
    ((LinksStand.cipherCut (.refl (z := quiet))).off (State.securityReset_keeps (offPorts_within rfl) (.refl _)))
  exact fallsTdm.ite ((falls.stand LinksStand.refl.bufferClear).ite ((falls.off (State.audioRestart_keeps
    (offPorts_within rfl) (State.signalRestart_keeps (offPorts_within rfl) (.refl _)))).ite ((falls.stand fallsCipher).ite
      ((falls.off (State.controlIsolate_keeps (offPorts_within rfl) (.refl _))).ite falls))))

theorem NoLinkRises.linksLost {l : List Nat} (h : NoLinkRises z a) : NoLinkRises z (a.each l State.linkLost) :=
  h.each fun _ _ hu => hu.linkLost

theorem NoLinkRises.unitEffects {v : UnitId} (h : NoLinkRises z a) : NoLinkRises z (a.unitEffects v) := by
  unfold State.unitEffects
  extract_lets i
  split
  · exact (h.stand LinksStand.refl.busIsolate).ite (h.linksLost.ite (h.linksLost.ite
      ((h.off (State.tdmStop_keeps (offPorts_within rfl) (.refl _))).ite (h.linksLost.ite (h.linksLost.ite h)))))
  split
  · exact (h.off (State.modTbl_keeps (offPorts_within rfl) (.refl _))).ite ((h.stand LinksStand.refl.bufferClear).ite
      (NoLinkRises.ite (h.each fun _ _ hu => hu.stand LinksStand.refl.spoilFrame) h))
  split
  · exact (h.off (State.signalRestart_keeps (offPorts_within rfl) (.refl _))).ite
      (h.off (State.audioRestart_keeps (offPorts_within rfl) (.refl _)))
  split
  · exact ((h.off (State.engineRelease_keeps (offPorts_within rfl) (.refl _))).stand LinksStand.refl.encReview).ite h
  · exact ((h.off (State.tideQueuesRestart_keeps (offPorts_within rfl) (.refl _))).ite
      ((h.off (State.ringsRestart_keeps (offPorts_within rfl) (.refl _))).ite h)).ite h

theorem NoLinkRises.undo {r : Req} {abort : Bool} (h : NoLinkRises z a) : NoLinkRises z (a.undo r abort) := by
  unfold State.undo
  extract_lets n undrained
  have falls : NoLinkRises z undrained := h.off (State.modTx_keeps (offPorts_within rfl) (.refl _))
  have refilled : NoLinkRises z (if abort then undrained else undrained.refill n) :=
    falls.ite (falls.stand LinksStand.refl.refill)
  exact (h.stand LinksStand.refl.port).ite ((h.stand LinksStand.refl.port).ite (refilled.ite
    ((h.off (State.modTwin_keeps (offPorts_within rfl) (.refl _))).ite
      ((h.off (State.modBoot_keeps (offPorts_within rfl) (.refl _))).ite h))))

theorem NoLinkRises.commandsFault {hit : UnitId → Bool} {cause : Nat} (h : NoLinkRises z a) :
    NoLinkRises z (a.commandsFault hit cause) := by
  unfold State.commandsFault
  refine h.each fun u m hu => ?_
  split
  · exact ((hu.undo.ite hu).off (State.complete_keeps (offPorts_within rfl) (.refl _))).ite
      ((hu.off (State.commitFault_keeps (offPorts_within rfl) (.refl _))).ite hu)
  · exact hu

theorem NoLinkRises.restartIsland {i cause : Nat} (h : NoLinkRises z a) : NoLinkRises z (a.restartIsland i cause) := by
  unfold State.restartIsland
  extract_lets x isolated settled
  have falls : NoLinkRises z isolated := h.off (State.modIsl_keeps (offPorts_within rfl) (.refl a))
  have falls : NoLinkRises z settled := falls
  exact h.ite falls.isolateEffects.commandsFault

theorem NoLinkRises.restartUnit {v : UnitId} {cause : Nat} (h : NoLinkRises z a) : NoLinkRises z (a.restartUnit v cause) := by
  unfold State.restartUnit
  exact h.ite (NoLinkRises.unitEffects (h.off (State.modUnitSt_keeps (offPorts_within rfl) (.refl a)))).commandsFault

theorem NoLinkRises.holdIsland {i n : Nat} (h : NoLinkRises z a) : NoLinkRises z (a.holdIsland i n) := by
  unfold State.holdIsland
  extract_lets x up held
  have falls : NoLinkRises z held := h.off (State.modIsl_keeps (offPorts_within rfl) (.refl a))
  exact h.ite (falls.isolateEffects.ite falls).commandsFault

theorem NoLinkRises.holdUnit {v : UnitId} {n : Nat} (h : NoLinkRises z a) : NoLinkRises z (a.holdUnit v n) := by
  unfold State.holdUnit
  extract_lets x held
  have falls : NoLinkRises z held := h.off (State.modUnitSt_keeps (offPorts_within rfl) (.refl a))
  exact h.ite (falls.ite falls.unitEffects).commandsFault

theorem NoLinkRises.safeState (h : NoLinkRises z a) : NoLinkRises z a.safeState := by
  unfold State.safeState
  extract_lets safe pins isolated recessive keyless dropped spoken
  have falls : NoLinkRises z safe := h.off (State.setDevState_keeps (offPorts_within rfl) (.refl a))
  have falls : NoLinkRises z isolated := falls.each fun u i hu =>
    have held : NoLinkRises z _ := hu.off (State.modIsl_keeps (offPorts_within rfl) (.refl u))
    (held.isolateEffects.ite held).commandsFault
  have falls : NoLinkRises z recessive :=
    falls.each fun _ _ hu => hu.off (State.modBus_keeps (offPorts_within rfl) (.refl _))
  have falls : NoLinkRises z keyless :=
    falls.each fun _ _ hu => hu.off (State.modEngine_keeps (offPorts_within rfl) (.refl _))
  have falls : NoLinkRises z dropped :=
    falls.each fun _ _ hu => NoLinkRises.ite (hu.off (State.modMb_keeps (offPorts_within rfl) (.refl _))) hu
  have paired : Keeps offPorts dropped spoken := State.modAud_keeps (offPorts_within rfl) (.refl _)
  exact h.ite ((falls.off (State.modBoot_keeps (offPorts_within rfl) paired)).ite (falls.off (State.tdmInactive_keeps
    (offPorts_within rfl) (State.timeOutsInactive_keeps (offPorts_within rfl) (.refl _)))))

theorem NoLinkRises.faultAction {n sev : Nat} {latch : Bool} (h : NoLinkRises z a) :
    NoLinkRises z (a.faultAction n sev latch) := by
  unfold State.faultAction
  have units : NoLinkRises z (a.each (a.srcUnits n) fun s u => if latch then s.holdUnit u n else s.restartUnit u n) :=
    h.each fun _ _ hu => hu.holdUnit.ite hu.restartUnit
  exact h.ite (h.safeState.ite ((h.holdIsland.ite h.restartIsland).ite (units.ite h)))

theorem NoLinkRises.enterFault {n target : Nat} {spec : Bool} (h : NoLinkRises z a) :
    NoLinkRises z (a.enterFault n target spec) := by
  unfold State.enterFault
  extract_lets x forced sev latch entered wired counted tallied joined told latched
  have enters : Keeps offPorts a entered := State.modSrc_keeps (offPorts_within rfl) (.refl a)
  have counts : Keeps offPorts a counted := State.count_keeps (offPorts_within rfl)
    (keeps_ite (State.wireQuiet_keeps (offPorts_within rfl) enters) enters)
  have joins : Keeps offPorts a joined := State.joinWindow_keeps (offPorts_within rfl)
    (keeps_ite (State.count_keeps (offPorts_within rfl) counts) counts)
  have tells : Keeps offPorts a told := keeps_ite (State.raise_keeps (offPorts_within rfl) joins) joins
  have latches : Keeps offPorts a latched := keeps_ite (State.latchEvent_keeps (offPorts_within rfl) tells) tells
  exact h.ite (h.off latches).faultAction

theorem NoLinkRises.reportOne {n target : Nat} {spec : Bool} (h : NoLinkRises z a) :
    NoLinkRises z (a.reportOne n target spec) := by
  unfold State.reportOne
  extract_lets reported
  have falls : NoLinkRises z reported := h.off (State.modSrc_keeps (offPorts_within rfl) (.refl a))
  exact falls.enterFault.ite falls

theorem NoLinkRises.toldFlush (h : NoLinkRises z a) : NoLinkRises z a.toldFlush := by
  unfold State.toldFlush
  have falls : NoLinkRises z (a.modTbl fun t => { t with told := [] }) :=
    h.off (State.modTbl_keeps (offPorts_within rfl) (.refl a))
  exact falls.each fun _ _ hu => hu.reportOne.ite (hu.reportOne.off (State.quieten_keeps (offPorts_within rfl) (.refl _)))

end

end Sys2Proof.Machine

namespace Sys2Proof.Machine

/-! ## Links, speed, remote fault and PLCA (R152, R154, R158, R191, R279, R280) -/

theorem State.linkRaised_linkUp (s : State) (p : Nat) : ((s.linkRaised p).port p).linkUp = true := by
  unfold State.linkRaised
  extract_lets x raised resumed begun
  split
  · assumption
  · have stands : LinksStand raised resumed := LinksStand.refl.ite LinksStand.refl.holdLeave
    have stands : LinksStand raised begun := (stands.told (State.send_tells _ _)).ite stands
    rw [stands.raiseOf.cwLinkUp.pauseSend p]
    simp [raised]

theorem State.ethEnabled_linkUp (s : State) (p q : Nat) : ((s.ethEnabled p).port q).linkUp = (s.port q).linkUp :=
  (State.ethEnabled_keeps (offPorts_within rfl) (.refl s)).linkUp q

theorem State.portFlush_holdUntil (s : State) (p : Nat) : ((s.portFlush p).port p).eg.holdUntil = none := by
  unfold State.portFlush
  generalize s.flushPort p = flushed
  rw [((State.count_tells _ _ _ _ _).trans (State.raiseOf_tells _ _ _ _)).port p, State.port_modPort]

section
variable {s : State} {t : Nat} {p : Fin 24}

theorem exec_linkDown_of_seen (seen : ((s.tick t).port p).faultIgnored (s.tick t).now = false)
    (real : ((s.tick t).port p).cfg.mode ≠ 5 ∨ ((s.tick t).port p).remoteFault = true) :
    exec (.linkDown t p) s = .next ((((s.tick t).linkLost p).toldFlush).ethEnabled p) := by
  obtain h | h := real <;> simp [execLinkDown, seen, h, -State.tick_fields]

theorem exec_linkDown_of_ignored (ignored : ((s.tick t).port p).faultIgnored (s.tick t).now = true) :
    exec (.linkDown t p) s = .next (s.tick t) := by
  simp [execLinkDown, ignored, -State.tick_fields]

theorem exec_linkUp_of_ready (enabled : ((s.tick t).port p).enabled = true) (awake : ((s.tick t).port p).portSleep = false)
    (real : ((s.tick t).port p).cfg.mode ≠ 5 ∨ ((s.tick t).port p).remoteFault = false)
    (up : (s.tick t).unitUp (portUnit p) = true) :
    exec (.linkUp t p) s = .next (((s.tick t).linkRaised p).ethEnabled p) := by
  obtain h | h := real <;> simp [execLinkUp, enabled, awake, up, h, -State.tick_fields]

theorem exec_linkUp_of_disabled (disabled : ((s.tick t).port p).enabled = false) :
    exec (.linkUp t p) s = .next (s.tick t) := by
  simp [execLinkUp, disabled, -State.tick_fields]

/-- The rates and duplex modes that a negotiation can give (R191). -/
theorem negotiable {rate : Nat} {half : Bool} (allowed : rate = 10 ∨ rate = 100 ∨ (rate = 1000 ∧ half = false)) :
    ([10, 100, 1000].contains rate && !(half && rate == 1000)) = true := by
  obtain rfl | rfl | ⟨rfl, rfl⟩ := allowed <;> simp

section
variable {rate : Nat} {half : Bool} (enabled : ((s.tick t).port p).enabled = true)
  (sgmii : ((s.tick t).port p).cfg.mode = 4) (allowed : rate = 10 ∨ rate = 100 ∨ (rate = 1000 ∧ half = false))
include enabled sgmii allowed

theorem exec_speedChanged_of_change (change : rate ≠ ((s.tick t).port p).rateMb ∨ half ≠ ((s.tick t).port p).half) :
    exec (.speedChanged t p rate half) s = .next (((((s.tick t).creditRun p (s.tick t).now).modPort p fun x => { x with
      rateMb := rate, half := half }).raiseOf 50 (portUnit p) p).ethEnabled p) := by
  have differs : (rate != ((s.tick t).port p).rateMb || half != ((s.tick t).port p).half) = true := by
    simpa using change
  simp only [exec_speedChanged, execSpeedChanged, Bool.and_assoc, negotiable allowed, differs, enabled, sgmii,
    beq_self_eq_true, Bool.and_self, if_true]

theorem exec_speedChanged_of_same (sameRate : rate = ((s.tick t).port p).rateMb)
    (sameHalf : half = ((s.tick t).port p).half) :
    exec (.speedChanged t p rate half) s = .next ((s.tick t).ethEnabled p) := by
  have equal : (rate != ((s.tick t).port p).rateMb || half != ((s.tick t).port p).half) = false := by
    simp [sameRate, sameHalf]
  simp only [exec_speedChanged, execSpeedChanged, Bool.and_assoc, negotiable allowed, equal, enabled, sgmii,
    beq_self_eq_true, Bool.and_self, Bool.and_false, Bool.false_eq_true, if_true, if_false]

end

theorem exec_speedChanged_of_other_mode (rate : Nat) (half : Bool) (other : ((s.tick t).port p).cfg.mode ≠ 4) :
    exec (.speedChanged t p rate half) s = .next (s.tick t) := by
  simp [execSpeedChanged, other, -State.tick_fields]

section
variable {u : Nat} (held : ((s.tick t).port p).eg.holdUntil = some u)
include held

theorem exec_holdWindowEnd_of_ended (ended : u ≤ (s.tick t).now) :
    exec (.holdWindowEnd t p) s = .next ((s.tick t).portFlush p) := by
  simp [execHoldWindowEnd, held, ended, -State.tick_fields]

theorem exec_holdWindowEnd_of_early (early : (s.tick t).now < u) : exec (.holdWindowEnd t p) s = .next (s.tick t) := by
  simp [execHoldWindowEnd, held, Nat.not_le.mpr early, -State.tick_fields]

end

theorem exec_remoteFault_of_idle (on : Bool) (idle : on = ((s.tick t).port p).remoteFault ∨
    (((s.tick t).port p).cfg.mode ≠ 1 ∧ ((s.tick t).port p).cfg.mode ≠ 5)) :
    exec (.remoteFault t p on) s = .next (s.tick t) := by
  obtain rfl | ⟨not1, not5⟩ := idle
  · simp [execRemoteFault, -State.tick_fields]
  · simp [execRemoteFault, not1, not5, -State.tick_fields]

theorem exec_remoteFault_of_begin (clear : ((s.tick t).port p).remoteFault = false)
    (mode : ((s.tick t).port p).cfg.mode = 1) (seen : ((s.tick t).port p).faultIgnored (s.tick t).now = false) :
    exec (.remoteFault t p true) s = .next (((s.tick t).modPort p fun x => { x with remoteFault := true }).raiseOf
      58 (portUnit p) p) := by
  simp [execRemoteFault, clear, mode, seen, -State.tick_fields]

theorem exec_remoteFault_of_end (fault : ((s.tick t).port p).remoteFault = true)
    (mode : ((s.tick t).port p).cfg.mode = 1) :
    exec (.remoteFault t p false) s = .next ((s.tick t).modPort p fun x => { x with remoteFault := false }) := by
  simp [execRemoteFault, fault, mode, -State.tick_fields]

/-- The new status of PLCA, with the count of a fall-back (R158). -/
def State.plcaSet (s : State) (p : Nat) (up : Bool) : State :=
  let s := s.modPort p fun x => { x with plcaActive := up }
  if up then s else s.count 2 p ctrEthPlcaFallbacks

theorem State.plcaSet_tells (s : State) (p : Nat) (up : Bool) :
    Tells (s.modPort p fun x => { x with plcaActive := up }) (s.plcaSet p up) := by
  cases up
  · exact State.count_tells _ _ _ _ _
  · exact .refl _

theorem exec_plcaStatusChange_of_change {up : Bool} (t1s : ((s.tick t).port p).cfg.mode = 5)
    (used : ((s.tick t).port p).cfg.plcaNode ≠ 0xFF) (change : up ≠ ((s.tick t).port p).plcaActive) :
    exec (.plcaStatusChange t p up) s =
      .next (((s.tick t).plcaSet p up).raiseOf 53 (portUnit p) (setBit p 0 up)) := by
  simp [execPlcaStatusChange, State.plcaSet, t1s, used, change, -State.tick_fields]

theorem exec_plcaStatusChange_of_other_mode (up : Bool) (other : ((s.tick t).port p).cfg.mode ≠ 5) :
    exec (.plcaStatusChange t p up) s = .next (s.tick t) := by
  simp [execPlcaStatusChange, other, -State.tick_fields]

end

theorem State.raiseOf_sets (s : State) {ev : Nat} (u : UnitId) (d : Nat) (known : ev < 128) :
    (s.raiseOf ev u d).host.evtStatus.getLsbD ev = true := s.raise_sets 0xFF u.code d known

/-- Settles O39: each command by its guard; what follows a lost link raises none, and what follows a raised one leaves it. -/
theorem linksChangeOnce : Obligations.LinksChangeOnce := by
  unfold Obligations.LinksChangeOnce
  intro s t p a x
  refine ⟨fun seen real => ⟨exec_linkDown_of_seen seen real, fun _ => ?_⟩, exec_linkDown_of_ignored,
    fun enabled awake real up => ⟨exec_linkUp_of_ready enabled awake real up, ?_⟩, exec_linkUp_of_disabled,
    fun rate half enabled sgmii allowed => ⟨exec_speedChanged_of_change enabled sgmii allowed,
      exec_speedChanged_of_same enabled sgmii allowed⟩,
    exec_speedChanged_of_other_mode,
    fun u held => ⟨fun ended => ⟨exec_holdWindowEnd_of_ended held ended, a.portFlush_holdUntil p⟩,
      exec_holdWindowEnd_of_early held⟩,
    exec_remoteFault_of_idle, fun clear mode seen => ⟨_, exec_remoteFault_of_begin clear mode seen, ?_⟩,
    exec_remoteFault_of_end, fun up t1s used change => ⟨_, exec_plcaStatusChange_of_change t1s used change, ?_⟩,
    exec_plcaStatusChange_of_other_mode⟩
  · rw [State.ethEnabled_linkUp, Bool.eq_false_iff]
    intro up
    have lost : ((a.linkLost p).port p).linkUp = true := (NoLinkRises.refl (z := a.linkLost p)).toldFlush p up
    simp [State.linkLost_linkUp] at lost
  · rw [State.ethEnabled_linkUp, State.linkRaised_linkUp]
  · have told := State.raiseOf_tells (a.modPort p fun x => { x with remoteFault := true }) 58 (portUnit p) p
    refine ⟨?_, ?_, State.raiseOf_sets _ _ _ (by decide), told.windows⟩ <;> rw [told.port p, State.port_modPort]
  · have told := (a.plcaSet_tells p up).trans (State.raiseOf_tells _ 53 (portUnit p) (setBit p 0 up))
    refine ⟨?_, State.raiseOf_sets _ _ _ (by decide), told.windows, told.buses⟩
    rw [told.port p, State.port_modPort]

end Sys2Proof.Machine

namespace Sys2Proof.Machine

/-! ## PAUSE (R163 to R167, R191) -/

theorem State.pauseEnd_pausedUntil (s : State) (p i : Nat) : ((s.pauseEnd p i).port p).pz.pausedUntil = none := by
  unfold State.pauseEnd
  extract_lets x
  split
  · assumption
  · extract_lets ns ended
    rw [(ended.count_tells _ _ _ _).port p, State.port_modPort]

theorem State.pauseEnd_pausedLong {s : State} {p u : Nat} (i : Nat) (paused : (s.port p).pz.pausedUntil = some u) :
    ((s.pauseEnd p i).port p).pz.pausedLong = false := by
  unfold State.pauseEnd
  simp only [paused]
  rw [(State.count_tells _ _ _ _ _).port p, State.port_modPort]

/-- A pause of `q` quanta begins at a port that none holds (R166, R167). -/
def State.pauseBegin (s : State) (p q : Nat) : State :=
  (s.creditRun p s.now).modPort p fun x => { x with
    pz := { x.pz with pausedAt := s.now, pausedFrom := s.now, pausedUntil := some (s.now + bitNs (q * 512) x.txKbps) } }

theorem State.pauseBegin_port (s : State) (p q : Nat) : ∃ e : EthEg, (s.pauseBegin p q).port p = { s.port p with
    eg := e
    pz := { (s.port p).pz with
      pausedAt := s.now, pausedFrom := s.now, pausedUntil := some (s.now + bitNs (q * 512) (s.port p).txKbps) } } := by
  refine ⟨((s.creditRun p s.now).port p).eg, ?_⟩
  rw [State.pauseBegin, State.port_modPort, State.creditRun, State.port_modPort]
  rfl

section
variable {s : State} {t : Nat} {p : Fin 24} {d : List Byte} {q : Nat}

theorem exec_pauseReceived_of_elsewhere (elsewhere : pauseDst ((s.tick t).port p).cfg.mac d = false) :
    exec (.pauseReceived t p ⟨d, q⟩) s = .next (s.tick t) := by
  simp [execPauseReceived, State.pauseTake, elsewhere, -State.tick_fields]

section
variable (here : pauseDst ((s.tick t).port p).cfg.mac d = true)
include here

theorem exec_pauseReceived_of_off (off : ((s.tick t).port p).cfg.pauseRxEn = false) :
    exec (.pauseReceived t p ⟨d, q⟩) s = .next ((s.tick t).count 2 p ctrEthRxPause) := by
  simp [execPauseReceived, State.pauseTake, here, off, -State.tick_fields]

variable (acts : ((s.tick t).port p).cfg.pauseRxEn = true) (linked : ((s.tick t).port p).linkUp = true)
include acts linked

theorem exec_pauseReceived_of_first (free : ((s.tick t).port p).pz.pausedUntil = none) (lasts : q % 65536 ≠ 0) :
    exec (.pauseReceived t p ⟨d, q⟩) s = .next (((s.tick t).count 2 p ctrEthRxPause).pauseBegin p (q % 65536)) := by
  have counted : (((s.tick t).count 2 p ctrEthRxPause).port p).pz.pausedUntil = none := free
  simp [execPauseReceived, State.pauseTake, State.pauseBegin, here, acts, linked, free, counted, lasts, -State.tick_fields]

theorem exec_pauseReceived_of_zero {u : Nat} (paused : ((s.tick t).port p).pz.pausedUntil = some u)
    (zero : q % 65536 = 0) : exec (.pauseReceived t p ⟨d, q⟩) s =
      .next ((((s.tick t).count 2 p ctrEthRxPause).pauseEnd p (s.tick t).now).boundary p) := by
  have now : ((s.tick t).count 2 p ctrEthRxPause).now = (s.tick t).now := rfl
  simp [execPauseReceived, State.pauseTake, here, acts, linked, paused, zero, now, -State.tick_fields]

end

section
variable {u : Nat} (paused : ((s.tick t).port p).pz.pausedUntil = some u)
include paused

theorem exec_pauseExpiry_of_due (due : u ≤ (s.tick t).now) :
    exec (.pauseExpiry t p) s = .next (((s.tick t).pauseEnd p u).boundary p) := by
  simp [execPauseExpiry, paused, due, -State.tick_fields]

theorem exec_pauseExpiry_of_early (early : (s.tick t).now < u) : exec (.pauseExpiry t p) s = .next (s.tick t) := by
  simp [execPauseExpiry, paused, Nat.not_le.mpr early, -State.tick_fields]

theorem exec_pausedLong_of_long (lasts : (s.tick t).now < u) (untold : ((s.tick t).port p).pz.pausedLong = false)
    (long : ((s.tick t).port p).pz.pausedAt + 10000000 < (s.tick t).now) :
    exec (.pausedLong t p) s = .next (((s.tick t).modPort p fun x => { x with
      pz := { x.pz with pausedLong := true } }).raiseOf 52 (portUnit p) p) := by
  simp [execPausedLong, Eth.paused, paused, lasts, untold, long, -State.tick_fields]

end

theorem exec_pausedLong_of_told (told : ((s.tick t).port p).pz.pausedLong = true) :
    exec (.pausedLong t p) s = .next (s.tick t) := by
  simp [execPausedLong, told, -State.tick_fields]

theorem exec_pauseRefresh_of_due (high : ((s.tick t).port p).pz.pauseHigh = true)
    (full : ((s.tick t).port p).pz.lowWm * 1024 ≤ (s.tick t).shareCells p * 256)
    (sends : ((s.tick t).port p).cfg.pauseTxEn = true) (duplex : ((s.tick t).port p).half = false)
    (asked : 0 < ((s.tick t).port p).pz.pauseSentNs)
    (due : ((s.tick t).port p).pz.pauseSentAt + ((s.tick t).port p).pz.pauseSentNs / 2 ≤ (s.tick t).now) :
    exec (.pauseRefresh t p) s = .next (((s.tick t).modPort p fun x => { x with
      pz := { x.pz with pauseWant := some x.pz.quanta } }).pauseSend p) := by
  simp [execPauseRefresh, high, full, sends, duplex, asked, due, -State.tick_fields]

theorem exec_pauseRefresh_of_low (low : ((s.tick t).port p).pz.pauseHigh = false) :
    exec (.pauseRefresh t p) s = .next (s.tick t) := by
  simp [execPauseRefresh, low, -State.tick_fields]

end

/-- Settles O40: each command by its guard, and a pause by what its begin and its end leave of the port. -/
theorem pauseStartsAndEnds : Obligations.PauseStartsAndEnds := by
  unfold Obligations.PauseStartsAndEnds
  intro s t p a x
  refine ⟨fun _ _ => exec_pauseReceived_of_elsewhere, fun _ _ => exec_pauseReceived_of_off,
    fun d q here acts linked free lasts => ⟨_, exec_pauseReceived_of_first here acts linked free lasts, ?_⟩,
    fun d q u here acts linked paused zero =>
      ⟨_, exec_pauseReceived_of_zero here acts linked paused zero, State.pauseEnd_pausedUntil _ p _⟩,
    fun u paused due => ⟨exec_pauseExpiry_of_due paused due, a.pauseEnd_pausedUntil p u, a.pauseEnd_pausedLong u paused⟩,
    fun u => exec_pauseExpiry_of_early, fun u paused lasts untold long =>
      ⟨_, exec_pausedLong_of_long paused lasts untold long, State.raiseOf_tells _ 52 _ p,
        State.raiseOf_sets _ _ _ (by decide)⟩,
    exec_pausedLong_of_told, exec_pauseRefresh_of_due, exec_pauseRefresh_of_low⟩
  obtain ⟨e, begun⟩ := (a.count 2 p ctrEthRxPause).pauseBegin_port p (q % 65536)
  rw [begun]
  exact ⟨rfl, rfl, rfl, rfl, rfl, rfl, rfl⟩

/-! ## Half duplex (R159) -/

/-- A collision makes the frame wait `k` slot times for its next attempt. -/
def State.collisionWait (s : State) (p k : Nat) (y : TxNow) : State :=
  s.modPort p fun x => { x with
    tx := some { y with attempts := y.attempts + 1, backoffUntil := some (s.now + k * bitNs 512 x.txKbps) } }

/-- A free value below a bound lies below it. -/
theorem State.drawBelow_lt (s : State) {n : Nat} (pos : 0 < n) : (s.drawBelow n).1 < n := Nat.mod_lt _ pos

section
variable {s : State} {t : Nat} {p : Fin 24} {y : TxNow} (sends : ((s.tick t).port p).tx = some y)
include sends

theorem exec_collision_of_full_duplex (late : Bool) (full : ((s.tick t).port p).half = false) :
    exec (.collision t p late) s = .next (s.tick t) := by
  simp [execCollision, sends, full, -State.tick_fields]

section
variable (half : ((s.tick t).port p).half = true) (csma : ((s.tick t).port p).plcaActive = false)
  (onWire : y.backoffUntil = none)
include half csma onWire

theorem exec_collision_of_late : exec (.collision t p true) s =
    .next (((((s.tick t).count 2 p ctrEthCollisions).count 2 p ctrEthLateCollisions).raiseOf 55 (portUnit p) p).txDiscard
      p) := by
  simp [execCollision, sends, half, csma, onWire, -State.tick_fields]

theorem exec_collision_of_last (last : 15 ≤ y.attempts) : exec (.collision t p false) s =
    .next (((((s.tick t).count 2 p ctrEthCollisions).count 2 p ctrEthExcessCollisions).raiseOf 54 (portUnit p) p).txDiscard
      p) := by
  simp [execCollision, sends, half, csma, onWire, last, -State.tick_fields]

theorem exec_collision_of_early (early : y.attempts < 15) : exec (.collision t p false) s =
    .next ((((s.tick t).count 2 p ctrEthCollisions).drawBelow (2 ^ min (y.attempts + 1) 10)).2.collisionWait p
      (((s.tick t).count 2 p ctrEthCollisions).drawBelow (2 ^ min (y.attempts + 1) 10)).1 y) := by
  simp [execCollision, State.collisionWait, sends, half, csma, onWire, Nat.not_le.mpr early, -State.tick_fields]

end

section
variable {u : Nat} (waits : y.backoffUntil = some u)
include waits

theorem exec_backoffExpiry_of_due (due : u ≤ (s.tick t).now)
    (free : ((s.tick t).port p).paused (s.tick t).now = false) :
    exec (.backoffExpiry t p) s = .next ((s.tick t).modPort p fun x => { x with
      tx := some { y with backoffUntil := none, atNs := (s.tick t).now } }) := by
  simp [execBackoffExpiry, sends, waits, due, free, -State.tick_fields]

theorem exec_backoffExpiry_of_early (early : (s.tick t).now < u) :
    exec (.backoffExpiry t p) s = .next (s.tick t) := by
  simp [execBackoffExpiry, sends, waits, Nat.not_le.mpr early, -State.tick_fields]

end
end

/-- Settles O41: each command by its guard, and a free value below a bound for the slot times of the wait. -/
theorem collisionsBackOff : Obligations.CollisionsBackOff := by
  unfold Obligations.CollisionsBackOff
  intro s t p y a x sends
  refine ⟨exec_collision_of_full_duplex sends, fun half csma onWire => ⟨exec_collision_of_late sends half csma onWire,
      exec_collision_of_last sends half csma onWire, fun early => ?_⟩,
    fun u => exec_backoffExpiry_of_due sends, fun u => exec_backoffExpiry_of_early sends⟩
  have bound := (a.count 2 p ctrEthCollisions).drawBelow_lt (Nat.two_pow_pos (min (y.attempts + 1) 10))
  exact ⟨_, _, exec_collision_of_early sends half csma onWire early, bound, congrArg Eth.tx (State.port_modPort _ p _),
    rfl, rfl, rfl⟩

end Sys2Proof.Machine

namespace Sys2Proof.Machine

/-! ## Step-down of a causeway (R178 to R182, R189) -/

/-- A refused request holds its target back for one `STEP_WINDOW` (R181). -/
theorem StepSt.refuse_barred (y : StepSt) (now i : Nat) :
    (y.refuse now).barred y.target i = decide (i < now + y.windowMs * 1000000) := by
  by_cases full : y.target = 0 <;> simp [StepSt.barred, StepSt.refuse, full]

theorem StepSt.refuse_barred_now (y : StepSt) (now : Nat) :
    (y.refuse now).barred y.target now = decide (0 < y.windowMs) := by
  rw [y.refuse_barred, decide_eq_decide]
  omega

theorem StepSt.refuse_barred_after (y : StepSt) (now : Nat) :
    (y.refuse now).barred y.target (now + y.windowMs * 1000000) = false := by
  rw [y.refuse_barred]
  exact decide_eq_false (Nat.lt_irrefl _)

theorem State.stepOff_of_stays {s : State} {p : Nat} (stays : (s.port p).step.stepUpThenOff = false) : s.stepOff p = s := by
  simp [State.stepOff, stays]

theorem State.magicSend_step (s : State) (p q : Nat) : ((s.magicSend p).port q).step = (s.port q).step := by
  unfold State.magicSend
  extract_lets x f sent
  split
  · rfl
  · exact State.port_modPort_field Eth.step s p q fun _ => rfl

theorem State.cwFlush_step (s : State) (p q : Nat) : ((s.cwFlush p).port q).step = (s.port q).step := by
  unfold State.cwFlush
  split
  · rfl
  · rw [State.magicSend_step]
    refine List.foldlRecOn (motive := fun u => (State.port u q).step = (s.port q).step) _ _
      (State.port_modPort_field Eth.step s p q fun _ => rfl) fun u stands m _ => ?_
    split
    · exact stands
    · rw [(u.cwPut_tells p m.1 m.2.1 m.2.2).port q, stands]

/-- A step finishes (R180 step 6): the port at its new rate, counted and reported; what waited for it goes out. -/
def State.stepFinish (s : State) (p : Nat) : State :=
  let y := (s.port p).step
  let off := y.stepUpThenOff && y.target == 0
  let s := (s.creditRun p s.now).modPort p fun x => { x with
    step := { x.step with
      phase := 0, rxDone := true, stepped := y.target == 1, returning := false, lockLost := none
      enable := y.enable && !off, stepUpThenOff := y.stepUpThenOff && !off } }
  ((s.count 2 p (if y.target = 1 then ctrEthStepDown else ctrEthStepUp)).raiseOf 56 (portUnit p) p).cwFlush p

theorem State.stepFinish_sets (s : State) (p : Nat) : (s.stepFinish p).host.evtStatus.getLsbD 56 = true := by
  unfold State.stepFinish
  extract_lets y off finished
  set told := (finished.count 2 p (if y.target = 1 then ctrEthStepDown else ctrEthStepUp)).raiseOf 56 (portUnit p) p
  have flushed : Keeps [.ctrs, .eth, .links] told (told.cwFlush p) := State.cwFlush_keeps (fun _ h => h) (.refl told)
  obtain ⟨status, -⟩ := flushed.same .events (by decide)
  rw [status]
  exact State.raiseOf_sets _ _ _ (by decide)

theorem State.stepFinish_step (s : State) (p : Nat) : ((s.stepFinish p).port p).step.phase = 0 ∧
    ((s.stepFinish p).port p).step.stepped = ((s.port p).step.target == 1) ∧
    ((s.port p).step.stepUpThenOff = false → ((s.stepFinish p).port p).step.stepUpThenOff = false) := by
  unfold State.stepFinish
  extract_lets y off finished
  have told := (finished.count_tells 2 p (if y.target = 1 then ctrEthStepDown else ctrEthStepUp) 1).trans
    (State.raiseOf_tells _ 56 (portUnit p) p)
  rw [State.cwFlush_step, told.port p, State.port_modPort]
  exact ⟨rfl, rfl, fun stays => by simp [y, stays]⟩

/-- No block lock came after a switch now (R182): the port returns to its previous rate and tells its peer. -/
def State.stepReturn (s : State) (p : Nat) : State :=
  let y := (s.port p).step
  let back := 1 - y.target
  s.modPort p fun x => { x with
    step := { x.step with
      phase := 2, target := back, rxStepped := back == 1, returning := true, txDone := false, swRxAt := none
      outbox := x.step.outbox ++ [(5, y.target, y.seq), (4, back, y.seq)] } }

section
variable {s : State} {t : Nat} {p : Fin 24}

section
variable {sent peer : Nat} (stays : ((s.tick t).port p).step.stepUpThenOff = false)
include stays

theorem exec_stepDecision_of_down (able : ((s.tick t).port p).stepAble = true) (idle : ((s.tick t).port p).step.phase = 0)
    (full : ((s.tick t).port p).step.stepped = false) (free : ((s.tick t).port p).step.barred 1 (s.tick t).now = false)
    (low : max sent peer < ((s.tick t).port p).step.downPct * 12500 * ((s.tick t).port p).step.windowMs) :
    exec (.stepDecision t p sent peer) s = .next ((s.tick t).stepAsk p 1) := by
  have low := decide_eq_true low
  simp only [exec_stepDecision, execStepDecision, stays, able, idle, full, free, low, Bool.false_eq_true, if_false,
    beq_self_eq_true, Bool.and_self, Bool.not_false, if_true]

theorem exec_stepDecision_of_up (able : ((s.tick t).port p).stepAble = true) (idle : ((s.tick t).port p).step.phase = 0)
    (quarter : ((s.tick t).port p).step.stepped = true) (free : ((s.tick t).port p).step.barred 0 (s.tick t).now = false)
    (high : 250000 < max sent peer) : exec (.stepDecision t p sent peer) s = .next ((s.tick t).stepAsk p 0) := by
  have high := decide_eq_true high
  simp only [exec_stepDecision, execStepDecision, stays, able, idle, quarter, free, high, Bool.false_eq_true, if_false,
    beq_self_eq_true, Bool.or_true, Bool.and_self, Bool.not_false, if_true]

theorem exec_stepDecision_of_unable (unable : ((s.tick t).port p).stepAble = false) :
    exec (.stepDecision t p sent peer) s = .next (s.tick t) := by
  simp [execStepDecision, stays, unable, -State.tick_fields]

end

theorem exec_stepMessageReceived_of_reject {body : List Byte} (reject : le body 0 1 = 3)
    (asked : ((s.tick t).port p).step.phase = 1) (ours : ((s.tick t).port p).step.seq = be body 2 2) :
    exec (.stepMessageReceived t p body) s = .next (((s.tick t).modPort p fun x => { x with
      step := x.step.refuse (s.tick t).now }).count 2 p ctrEthStepRejected) := by
  simp [execStepMessageReceived, State.stepMessage, reject, asked, ours, -State.tick_fields]

theorem exec_stepRequestTimeout_of_due (asked : ((s.tick t).port p).step.phase = 1)
    (due : ((s.tick t).port p).step.since + 1000000 ≤ (s.tick t).now) :
    exec (.stepRequestTimeout t p) s = .next (((s.tick t).modPort p fun x => { x with
      step := { x.step.refuse (s.tick t).now with outbox := x.step.outbox.filter fun o => o.1 != 1 } }).count 2 p
        ctrEthStepTimeout) := by
  simp [execStepRequestTimeout, asked, due, -State.tick_fields]

theorem exec_stepRequestTimeout_of_idle (idle : ((s.tick t).port p).step.phase ≠ 1) :
    exec (.stepRequestTimeout t p) s = .next (s.tick t) := by
  simp [execStepRequestTimeout, idle, -State.tick_fields]

theorem exec_stepRelockDone_of_locked (relocks : ((s.tick t).port p).step.phase = 3)
    (sent : ((s.tick t).port p).step.txDone = true)
    (switched : ((s.tick t).port p).step.rxStepped = (((s.tick t).port p).step.target == 1))
    (alone : ((s.tick t).port p).step.asked = none) :
    exec (.stepRelockDone t p) s = .next (((s.tick t).stepFinish p).stepOff p) := by
  simp [execStepRelockDone, State.stepFinish, relocks, sent, switched, alone, -State.tick_fields]

section
variable {w : Nat} (received : ((s.tick t).port p).step.swRxAt = some w)
include received

theorem exec_stepRelockFail_of_due (relocks : ((s.tick t).port p).step.phase = 3)
    (unlocked : ((s.tick t).port p).step.rxDone = false) (due : w + 100000 ≤ (s.tick t).now) :
    exec (.stepRelockFail t p) s = .next (((((s.tick t).stepReturn p).count 2 p ctrEthStepFail).raiseOf 57 (portUnit p)
      p).stepFlush p) := by
  simp [execStepRelockFail, State.stepReturn, relocks, unlocked, received, due, -State.tick_fields]

theorem exec_stepRelockFail_of_early (early : (s.tick t).now < w + 100000) :
    exec (.stepRelockFail t p) s = .next (s.tick t) := by
  simp [execStepRelockFail, received, Nat.not_le.mpr early, -State.tick_fields]

end

section
variable {w : Nat} (lost : ((s.tick t).port p).step.lockLost = some w)
include lost

theorem exec_stepLinkLoss_of_due (due : w + 1000000 ≤ (s.tick t).now) :
    exec (.stepLinkLoss t p) s = .next ((((s.tick t).modPort p fun x => { x with
      step := { x.step with lockLost := none } }).linkLost p).toldFlush) := by
  simp [execStepLinkLoss, lost, due, -State.tick_fields]

theorem exec_stepLinkLoss_of_early (early : (s.tick t).now < w + 1000000) :
    exec (.stepLinkLoss t p) s = .next (s.tick t) := by
  simp [execStepLinkLoss, lost, Nat.not_le.mpr early, -State.tick_fields]

end

theorem exec_stepLinkLoss_of_locked (locked : ((s.tick t).port p).step.lockLost = none) :
    exec (.stepLinkLoss t p) s = .next (s.tick t) := by
  simp [execStepLinkLoss, locked, -State.tick_fields]

end

/-- Settles O42: each command by its guard; a refusal by what it holds back, a step by what its end leaves of the port. -/
theorem stepsOfACauseway : Obligations.StepsOfACauseway := by
  unfold Obligations.StepsOfACauseway
  intro s t p a x y
  refine ⟨fun sent peer stays able idle => ⟨exec_stepDecision_of_down stays able idle,
      exec_stepDecision_of_up stays able idle⟩,
    fun sent peer => exec_stepDecision_of_unable, fun body => rfl,
    fun body reject asked ours => ⟨_, exec_stepMessageReceived_of_reject reject asked ours, ?reject⟩,
    fun asked due => ⟨_, exec_stepRequestTimeout_of_due asked due, ?timeout⟩, exec_stepRequestTimeout_of_idle,
    fun relocks sent switched alone stays => ⟨_, exec_stepRelockDone_of_locked relocks sent switched alone, ?done⟩,
    fun w relocks unlocked received => ⟨fun due => ⟨_, exec_stepRelockFail_of_due received relocks unlocked due, ?fail⟩,
      exec_stepRelockFail_of_early received⟩,
    fun w lost => ⟨exec_stepLinkLoss_of_due lost, exec_stepLinkLoss_of_early lost⟩, exec_stepLinkLoss_of_locked⟩
  case reject =>
    rw [(State.count_tells _ _ _ _ _).port p, State.port_modPort]
    exact ⟨rfl, y.refuse_barred_now a.now⟩
  case timeout =>
    rw [(State.count_tells _ _ _ _ _).port p, State.port_modPort]
    exact ⟨rfl, y.refuse_barred_now a.now, y.refuse_barred_after a.now, rfl, rfl, rfl, rfl⟩
  case done =>
    obtain ⟨idle, rate, on⟩ := a.stepFinish_step p
    rw [State.stepOff_of_stays (on stays)]
    exact ⟨idle, rate, a.stepFinish_sets p⟩
  case fail =>
    have told := ((a.stepReturn p).count_tells 2 p ctrEthStepFail 1).trans (State.raiseOf_tells _ 57 (portUnit p) p)
    rw [told.port p, State.stepReturn, State.port_modPort]
    exact ⟨rfl, rfl, rfl, State.raiseOf_sets _ _ _ (by decide)⟩

end Sys2Proof.Machine

namespace Sys2Proof.Machine

/-! ## The L2 table: flush, windows, ageing (R237, R241, R242) -/

/-- The judging of the limits of the ports reports and moves their marks; the table it counts in stands. -/
theorem State.l2Limits_keep (s : State) : Keeps (Area.telling [.eth]) s ((List.range 24).foldl State.l2Limit s) :=
  keeps_foldl (fun _ _ k => State.l2Limit_keeps (fun _ h => h) k) (.refl s)

/-- A flush leaves in the table what does not match both of its filters; a filter that is not given matches all. -/
theorem State.mem_l2Flush (s : State) (port vid : Option Nat) (c : Nat × L2Ent) :
    c ∈ (s.l2Flush port vid).1.tbl.l2.cells ↔ c ∈ s.tbl.l2.cells ∧
      ¬((∀ p, port = some p → c.2.port = p) ∧ (∀ v, vid = some v → c.2.vid = v)) := by
  unfold State.l2Flush
  extract_lets hit n emptied judged
  have hit_iff : hit c.2 = true ↔ (∀ p, port = some p → c.2.port = p) ∧ (∀ v, vid = some v → c.2.vid = v) := by
    cases port <;> cases vid <;> simp [hit]
  have judges : Keeps (Area.telling [.eth]) emptied judged := emptied.l2Limits_keep
  have counts : Keeps (Area.telling [.eth]) emptied (if n = 0 then judged else judged.count 5 0 ctrTblL2Flushed n) :=
    keeps_ite judges (State.count_keeps (Within.m (fun _ h => h) rfl) judges)
  have same : State.tbl _ = emptied.tbl := counts.same .tbl (by decide)
  rw [same, ← hit_iff]
  simp [emptied, Tab.filter]

theorem State.l2Flush_windows (s : State) (port vid : Option Nat) : (s.l2Flush port vid).1.windows = s.windows :=
  (State.l2Flush_keeps (fun _ h => h) (.refl s) : Keeps (Area.telling [.eth, .tbl]) s _).same .windows (by decide)

/-- A scan takes out what was neither hit since the last nor frozen, and clears the marks of the rest. -/
theorem State.ageScan_tbl (s : State) : s.ageScan.tbl = { s.tbl with
    ageAt := s.now
    l2 := (s.tbl.l2.filter fun _ e => e.hit || e.frozen).map fun _ e => { e with hit := false } } := by
  unfold State.ageScan
  extract_lets gone scanned
  exact ((scanned.count 5 0 ctrTblL2Aged gone).l2Limits_keep.same .tbl (by decide)).trans
    (scanned.count_tells 5 0 ctrTblL2Aged gone).tbl

theorem State.ageScan_windows (s : State) : s.ageScan.windows = s.windows :=
  (State.ageScan_keeps (fun _ h => h) (.refl s) : Keeps (Area.telling [.eth, .tbl]) s _).same .windows (by decide)

theorem State.mirrorOut_tells (s : State) (kind : Nat) (body : List Byte) : Tells s (s.mirrorOut kind body) := by
  unfold State.mirrorOut
  split
  · exact s.send_tells _
  · exact .refl s

/-! ## The commands of the learning unit and of the rewrites (R195, R238, R243, R248) -/

theorem State.learn_of_known {s : State} {e : LearnEv} {i : Nat} (known : s.l2Find e.vid e.mac = some i)
    (stays : (s.l2e i).port = e.port) : s.learn e = s.modL2e i fun x => { x with hit := true } := by
  simp [State.learn, known, stays]

section
variable {s : State} {t : Nat}

section
variable {e : LearnEv} (ready : ((s.tick t).tbl.learnQ.find? fun e => !(s.tick t).bucketBad e.vid e.mac) = some e)
include ready

theorem exec_learnEventProcess_of_ready : exec (.learnEventProcess t) s =
    .next (if e.mirrored then ((s.tick t).modTbl fun x => { x with learnQ := x.learnQ.erase e }).learn e
      else (((s.tick t).modTbl fun x => { x with learnQ := x.learnQ.erase e }).learn e).mirrorOut 0
        ([1] ++ leBytes 1 e.port ++ leBytes 2 e.vid ++ e.mac)) := by
  simp only [exec_learnEventProcess, execLearnEventProcess, ready]

theorem exec_learnEventProcess_of_mirrored (mirrored : e.mirrored = true) : exec (.learnEventProcess t) s =
    .next (((s.tick t).modTbl fun x => { x with learnQ := x.learnQ.erase e }).learn e) := by
  rw [exec_learnEventProcess_of_ready ready, if_pos mirrored]

theorem exec_learnEventProcess_of_own (own : e.mirrored = false) : exec (.learnEventProcess t) s =
    .next ((((s.tick t).modTbl fun x => { x with learnQ := x.learnQ.erase e }).learn e).mirrorOut 0
      ([1] ++ leBytes 1 e.port ++ leBytes 2 e.vid ++ e.mac)) := by
  rw [exec_learnEventProcess_of_ready ready, if_neg (ne_true_of_eq_false own)]

end

theorem exec_learnEventProcess_of_empty (empty : (s.tick t).tbl.learnQ = []) :
    exec (.learnEventProcess t) s = .next (s.tick t) := by
  simp only [exec_learnEventProcess, execLearnEventProcess, empty, List.find?_nil]

section
variable {i : Fin 65536}

theorem exec_l2MoveWindowEnd_of_due (window : ((s.tick t).l2e i).window = true)
    (due : ((s.tick t).l2e i).timer ≤ (s.tick t).rtcMs) (leads : (s.tick t).standbyMirrors 0 = false) :
    exec (.l2MoveWindowEnd t i) s =
      .next (((s.tick t).windowEnd i).mirrorOut 0 ([5] ++ leBytes 1 0 ++ leBytes 2 i)) :=
  congrArg Host.Outcome.next (if_pos (by simp [window, due, leads, -State.tick_fields]))

theorem exec_l2MoveWindowEnd_of_early (early : (s.tick t).rtcMs < ((s.tick t).l2e i).timer) :
    exec (.l2MoveWindowEnd t i) s = .next (s.tick t) :=
  congrArg Host.Outcome.next (if_neg (by simp [Nat.not_le.mpr early, -State.tick_fields]))

theorem exec_l2MoveWindowEnd_of_standby (mirrors : (s.tick t).standbyMirrors 0 = true) :
    exec (.l2MoveWindowEnd t i) s = .next (s.tick t) :=
  congrArg Host.Outcome.next (if_neg (by simp [mirrors, -State.tick_fields]))

end

theorem exec_l2AgeingScan_of_due (on : (s.tick t).tbl.ageS ≠ 0)
    (due : (s.tick t).tbl.ageAt + (s.tick t).tbl.ageS * 1000000000 ≤ (s.tick t).now)
    (leads : (s.tick t).standbyMirrors 0 = false) :
    exec (.l2AgeingScan t) s = .next ((s.tick t).ageScan.mirrorOut 0 [4, 0, 0, 0]) :=
  congrArg Host.Outcome.next (if_pos (by simp [on, due, leads, -State.tick_fields]))

theorem exec_l2AgeingScan_of_idle (idle : (s.tick t).tbl.ageS = 0 ∨ (s.tick t).standbyMirrors 0 = true) :
    exec (.l2AgeingScan t) s = .next (s.tick t) := by
  refine congrArg Host.Outcome.next (if_neg ?_)
  obtain off | mirrors := idle
  · simp [off, -State.tick_fields]
  · simp [mirrors, -State.tick_fields]

theorem exec_graphRewriteDone_of_bad (bad : (s.tick t).parse.graphFault = true) : exec (.graphRewriteDone t) s =
    .next ((((s.tick t).modParse fun p => { p with graphFault := false }).parserUpdate 1).quieten 98) :=
  congrArg Host.Outcome.next (if_pos bad)

theorem exec_graphRewriteDone_of_good (good : (s.tick t).parse.graphFault = false) :
    exec (.graphRewriteDone t) s = .next (s.tick t) :=
  congrArg Host.Outcome.next (if_neg (ne_true_of_eq_false good))

section
variable {k : Fin 8} {i : Nat}

/-- The rewrite of a bad entry takes that entry out of the list of the bad; beyond the list only the table's fault source
can move. -/
theorem exec_tableRewriteDone_of_bad (bad : (s.tick t).tbl.bad.contains (k.val, i) = true) :
    ∃ u : State, exec (.tableRewriteDone t k i) s = .next u ∧
      Keeps [.flt] ((s.tick t).modTbl fun x => { x with bad := x.bad.filter (· != (k.val, i)) }) u :=
  ⟨_, congrArg Host.Outcome.next (if_pos bad), keeps_ite (.refl _) (State.quieten_keeps (fun _ h => h) (.refl _))⟩

theorem exec_tableRewriteDone_of_good (good : (s.tick t).tbl.bad.contains (k.val, i) = false) :
    exec (.tableRewriteDone t k i) s = .next (s.tick t) :=
  congrArg Host.Outcome.next (if_neg (ne_true_of_eq_false good))

end

end

/-- Settles O36: a flush by what stays in the table, each command by its guard, the scan and a rewrite by what they leave. -/
theorem theL2TableLearnsAgesAndFlushes : Obligations.TheL2TableLearnsAgesAndFlushes := by
  unfold Obligations.TheL2TableLearnsAgesAndFlushes
  refine ⟨fun s e i => State.learn_of_known, fun s port vid => ⟨s.mem_l2Flush port vid, s.l2Flush_windows port vid⟩,
    fun s t => ?_⟩
  intro a
  refine ⟨fun e => exec_learnEventProcess_of_mirrored, fun e => exec_learnEventProcess_of_own,
    exec_learnEventProcess_of_empty,
    fun i => ⟨exec_l2MoveWindowEnd_of_due, exec_l2MoveWindowEnd_of_early, exec_l2MoveWindowEnd_of_standby⟩,
    fun on due leads => ⟨_, exec_l2AgeingScan_of_due on due leads, ?scan⟩, exec_l2AgeingScan_of_idle,
    exec_graphRewriteDone_of_bad, exec_graphRewriteDone_of_good, fun k i bad => ?rewrite,
    fun k i => exec_tableRewriteDone_of_good⟩
  case scan =>
    have told := a.ageScan.mirrorOut_tells 0 [4, 0, 0, 0]
    rw [told.tbl, told.windows, a.ageScan_tbl]
    exact ⟨rfl, rfl, a.ageScan_windows⟩
  case rewrite =>
    obtain ⟨u, ran, kept⟩ := exec_tableRewriteDone_of_bad bad
    have table : u.tbl = _ := kept.same .tbl (by decide)
    refine ⟨u, ran, ?_, fun e other => ?_, kept.same .windows (by decide)⟩
    · simp [table]
    · simp [table, other, a]

end Sys2Proof.Machine

namespace Sys2Proof.Machine

/-! ## The age limits of the classes (R289, R620) -/

/-- A request is good where none of its checks fails. -/
theorem firstFail_eq_none {l : List Check} : firstFail l = none ↔ ∀ c ∈ l, c = none := by
  induction l with
  | nil => simp [firstFail]
  | cons c l ih => cases c <;> simp [firstFail, ih]

theorem need_eq_none {ok : Bool} {off : Nat} : need ok off = none ↔ ok = true := by
  cases ok <;> simp [need]

theorem needLen_eq_none {ok : Bool} : needLen ok = none ↔ ok = true := by
  cases ok <;> simp [needLen]

theorem needField_eq_none {p : List Byte} {off n lo hi : Nat} :
    needField p off n lo hi = none ↔ lo ≤ le p off n ∧ le p off n ≤ hi := by
  simp [needField, need_eq_none, inRange]

/-- Where a table is filled over a list of keys, each key of the list reads what it was given, any other as before. -/
theorem Tab.get_foldl_set {α : Type} (d : α) (f : Nat → α) (l : List Nat) (t : Tab α) (i : Nat) :
    (l.foldl (fun u k => u.set k (f k)) t).get d i = if i ∈ l then f i else t.get d i := by
  induction l generalizing t with
  | nil => simp
  | cons k l ih =>
    rw [List.foldl_cons, ih]
    by_cases listed : i ∈ l
    · simp [listed]
    · obtain rfl | other := eq_or_ne i k
      · simp [listed]
      · simp [listed, other]

theorem checkSwClassConfig_eq_none (s : State) (p : List Byte) : checkSwClassConfig s p = none ↔
    p.length = 32 ∧ ∀ c < 8, 100 ≤ le p (4 * c) 4 ∧ le p (4 * c) 4 ≤ 10000000 := by
  simp only [checkSwClassConfig, firstFail_eq_none, List.forall_mem_cons, List.forall_mem_map, needLen_eq_none,
    needField_eq_none, List.mem_range, beq_iff_eq]

theorem effectSwClassConfig_ageNs (s : State) (p : List Byte) {c : Nat} (small : c < 8) :
    (effectSwClassConfig s p).1.ageNs c = le p (4 * c) 4 * 1000 := by
  have limit : (effectSwClassConfig s p).1.sw.ageLimit.get 100000 c = le p (4 * c) 4 :=
    (Tab.get_foldl_set 100000 (fun c => le p (4 * c) 4) (List.range 8) s.sw.ageLimit c).trans
      (if_pos (List.mem_range.mpr small))
  rw [State.ageNs, limit]

/-- Settles O60: the check by its nine parts, the limits by the table they fill; nothing but that table moves, and
it is empty at reset. -/
theorem classAgeLimits : Obligations.ClassAgeLimits := by
  unfold Obligations.ClassAgeLimits
  exact ⟨checkSwClassConfig_eq_none, fun s p _ => effectSwClassConfig_ageNs s p, fun _ _ => ⟨_, rfl, rfl⟩,
    fun _ _ => rfl⟩

end Sys2Proof.Machine

namespace Sys2Proof.Machine

/-! ## Commands of signal engine, time unit and audio router (R337, R368, R391) -/

/-- Every form that `exec` runs as a simple command, in the state that what comes before it leaves, is refused by its
check there, or has its effect and completes; what ends the instant follows. -/
theorem InstantForm.runs_of_exec {f : InstantForm}
    (h : ∀ (s : State) (t : Nat) (m : Fin 8),
      exec (f.make t m) s = .next (f.after ((f.before s t).simple t m f.code f.check f.effect))) : f.Runs := by
  intro s t m r ready a
  refine ⟨fun x hx own => ⟨_, h s t m, ?_⟩, fun hx => ⟨_, h s t m, ?_, fun own => ?_⟩⟩
  · rw [State.simple_of_refused ready hx]
    exact State.complete_tells _ _ _ own
  · exact State.simple_of_passed ready hx f.effect
  · rw [State.simple_of_passed ready hx]
    exact State.complete_tells _ _ _ own

/-- Settles O19: each row of `mediaForms` runs as a simple command, and each of `instantForms` as one within its
instant (R317, R357). -/
theorem mediaCommandsComplete : Obligations.MediaCommandsComplete := by
  unfold Obligations.MediaCommandsComplete
  exact ⟨fun f hf => CmdForm.runs_of_exec (exec_mediaForms f hf),
    fun f hf => InstantForm.runs_of_exec (exec_instantForms f hf)⟩

end Sys2Proof.Machine

namespace Sys2Proof.Machine

/-! ## Slews, pins, captures and triggers (R358, R359, R364, R365) -/

section
variable {s : State} {t : Nat} {w : Slew} (slewing : (s.tick t).time.slew = some w)
include slewing

theorem exec_slewEnd_of_due (due : (s.tick t).slewEndNs w ≤ (s.tick t).now) :
    exec (.slewEnd t) s = .next ((s.tick t).modTime fun x => { x with slew := none }) := by
  simp [execSlewEnd, slewing, due, -State.tick_fields]

theorem exec_slewEnd_of_early (early : (s.tick t).now < (s.tick t).slewEndNs w) :
    exec (.slewEnd t) s = .next (s.tick t) := by
  simp [execSlewEnd, slewing, Nat.not_le.mpr early, -State.tick_fields]

end

theorem exec_slewEnd_of_none {s : State} {t : Nat} (still : (s.tick t).time.slew = none) :
    exec (.slewEnd t) s = .next (s.tick t) := by
  simp [execSlewEnd, still, -State.tick_fields]

section
variable {s : State} {t e : Nat} {pin : Fin 8} (pulses : ((s.tick t).timeOut pin).pulseEnd = some e)
include pulses

theorem exec_timeOutPulseEnd_of_due (due : e ≤ (s.tick t).activeNs) :
    exec (.timeOutPulseEnd t pin) s =
      .next ((s.tick t).pinLevel pin fun o => { o with level := !o.pol, pulseEnd := none }) := by
  simp [execTimeOutPulseEnd, pulses, due, -State.tick_fields]

theorem exec_timeOutPulseEnd_of_early (early : (s.tick t).activeNs < e) :
    exec (.timeOutPulseEnd t pin) s = .next (s.tick t) := by
  simp [execTimeOutPulseEnd, pulses, Nat.not_le.mpr early, -State.tick_fields]

end

/-- The record of an edge at the present instant (R365). -/
def State.edgeRecord (s : State) (rising : Bool) : Capture where
  ns := (s.activeAt s.now).toNat / 65536 % 2 ^ 64
  frac := (s.activeAt s.now).toNat % 65536
  edge := flag (!rising)
  unset := s.time.active.isNone

/-- An edge is captured: its record is the pin's last, and it is counted (R365). -/
def State.captureEdge (s : State) (pin : Nat) (rising : Bool) : State :=
  (s.modTimeIn pin fun x => { x with caps := x.caps ++ [s.edgeRecord rising] }).count 8 (0x30000 + pin) ctrCapCaptures

/-- An edge is lost, because the pin holds sixteen records: the loss is counted and marked (R365). -/
def State.captureLoss (s : State) (pin : Nat) : State :=
  (s.modTimeIn pin fun x => { x with lost := min 0xFFFF (x.lost + 1), overflow := true }).count 8 (0x30000 + pin)
    ctrCapCaptureLost

theorem State.timeIn_captureEdge (s : State) (pin : Nat) (rising : Bool) : (s.captureEdge pin rising).timeIn pin =
    { s.timeIn pin with caps := (s.timeIn pin).caps ++ [s.edgeRecord rising] } :=
  s.timeIn_modTimeIn pin _

theorem State.timeIn_captureLoss (s : State) (pin : Nat) : (s.captureLoss pin).timeIn pin =
    { s.timeIn pin with lost := min 0xFFFF ((s.timeIn pin).lost + 1), overflow := true } :=
  s.timeIn_modTimeIn pin _

theorem Tells.timeIn {a b : State} (h : Tells a b) (pin : Nat) : b.timeIn pin = a.timeIn pin := by
  rw [State.timeIn, h.time, State.timeIn]

theorem exec_timeInCapture_of_unwatched {s : State} {t : Nat} {pin : Fin 8} {rising : Bool}
    (unwatched : bit ((s.tick t).timeIn pin).edges (if rising then 0 else 1) = false) :
    exec (.timeInCapture t pin rising) s = .next (s.tick t) := by
  simp [execTimeInCapture, unwatched, -State.tick_fields]

section
variable {s : State} {t : Nat} {pin : Fin 8} {rising : Bool}
  (watched : bit ((s.tick t).timeIn pin).edges (if rising then 0 else 1) = true)
include watched

theorem exec_timeInCapture_of_room (room : ((s.tick t).timeIn pin).caps.length < 16) :
    exec (.timeInCapture t pin rising) s = .next ((s.tick t).captureEdge pin rising) := by
  simp [execTimeInCapture, State.captureEdge, State.edgeRecord, watched, Nat.not_le.mpr room, -State.tick_fields]

theorem exec_timeInCapture_of_full (full : 16 ≤ ((s.tick t).timeIn pin).caps.length) :
    exec (.timeInCapture t pin rising) s = .next (if ((s.tick t).timeIn pin).overflow then (s.tick t).captureLoss pin
      else ((s.tick t).captureLoss pin).raiseOf 87 timeUnit pin) := by
  simp [execTimeInCapture, State.captureLoss, watched, full, -State.tick_fields]

end

theorem State.trigFire_of_idle {s : State} {n : Nat} (idle : s.trigDue n = false) : s.trigFire n = s := by
  simp [State.trigFire, idle]

/-- A trigger whose targets leave out the signal engine composes nothing when it fires (R317). -/
theorem State.trigFire_of_mute {s : State} {n : Nat} (due : s.trigDue n = true)
    (mute : bit (s.trig n).targets 16 = false) : s.trigFire n =
      (((s.count 8 (0x20000 + n) ctrTrigTrigFired).firePins n).each
        (((s.count 8 (0x20000 + n) ctrTrigTrigFired).firePins n).firePorts n)
          fun u p => u.tdmFrame p (s.trig n).period).afterFire n := by
  simp [State.trigFire, due, mute]

/-- Settles O48: each command by its guard, and a capture by what its record or its loss leaves of the pin. -/
theorem slewsPinsAndCaptures : Obligations.SlewsPinsAndCaptures := by
  unfold Obligations.SlewsPinsAndCaptures
  intro s t a
  refine ⟨fun w slewing => ⟨exec_slewEnd_of_due slewing, exec_slewEnd_of_early slewing⟩, exec_slewEnd_of_none,
    fun k e pulses => ⟨exec_timeOutPulseEnd_of_due pulses, exec_timeOutPulseEnd_of_early pulses⟩,
    fun k rising => ⟨exec_timeInCapture_of_unwatched, fun watched room => ?_, fun watched full first => ?_,
      fun watched full again => ?_⟩,
    fun n idle => ?_, fun n due free => ?_⟩
  · refine ⟨_, exec_timeInCapture_of_room watched room, ?_, ?_, rfl⟩ <;> rw [State.timeIn_captureEdge]
    rfl
  · have told := (a.captureLoss k).raiseOf_tells 87 timeUnit k
    refine ⟨(a.captureLoss k).raiseOf 87 timeUnit k, ?_, ?_, ?_, State.raiseOf_sets _ _ _ (by decide)⟩
    · simpa [a, first] using exec_timeInCapture_of_full watched full
    · rw [told.timeIn, State.timeIn_captureLoss]
    · rw [told.timeIn, State.timeIn_captureLoss]
  · refine ⟨a.captureLoss k, ?_, ?_, rfl⟩
    · simpa [a, again] using exec_timeInCapture_of_full watched full
    · rw [State.timeIn_captureLoss]
  · rw [exec_timeTriggerFire, execTimeTriggerFire, State.trigFire_of_idle idle]
  · have mute : bit (a.trig n).targets 16 = false := by rw [free]; rfl
    rw [exec_timeTriggerFire, execTimeTriggerFire, State.trigFire_of_mute due mute]

end Sys2Proof.Machine

namespace Sys2Proof.Machine

/-! ## Audio sources that stop, and the block of a millisecond (R378, R379, R381) -/

theorem Tells.tdm {a b : State} (h : Tells a b) (k : Nat) : b.tdm k = a.tdm k := by
  rw [State.tdm, h.aud, State.tdm]

theorem Tells.aaf {a b : State} (h : Tells a b) (n : Nat) : b.aaf n = a.aaf n := by
  rw [State.aaf, h.aud, State.aaf]

/-- The samples of a source that has stopped leave the inputs (R379, R381). -/
def State.dropSamples (s : State) (gone : Sample → Bool) : State :=
  s.modAud fun u => { u with inputs := u.inputs.filter fun y => !gone y }

@[simp] theorem State.tdm_dropSamples (s : State) (gone : Sample → Bool) (k : Nat) :
    (s.dropSamples gone).tdm k = s.tdm k := rfl

@[simp] theorem State.aaf_dropSamples (s : State) (gone : Sample → Bool) (n : Nat) :
    (s.dropSamples gone).aaf n = s.aaf n := rfl

theorem State.mem_inputs_dropSamples (s : State) (gone : Sample → Bool) (y : Sample) :
    y ∈ (s.dropSamples gone).aud.inputs ↔ y ∈ s.aud.inputs ∧ gone y = false := by
  simp [State.dropSamples]

/-- A sample for a slot of a TDM port. -/
def TdmPort.feeds (x : TdmPort) (y : Sample) : Bool :=
  y.src == 0 && decide (x.inBase ≤ y.chan) && decide (y.chan < x.inBase + x.slots)

theorem TdmPort.feeds_eq_false {x : TdmPort} {y : Sample} :
    x.feeds y = false ↔ ¬(y.src = 0 ∧ x.inBase ≤ y.chan ∧ y.chan < x.inBase + x.slots) := by
  rw [← Bool.not_eq_true]
  simp [TdmPort.feeds, and_assoc]

/-- A sample of a listener. -/
def ofListener (n : Nat) (y : Sample) : Bool := y.src == 1 && y.sidx == n

theorem ofListener_eq_false {n : Nat} {y : Sample} : ofListener n y = false ↔ ¬(y.src = 1 ∧ y.sidx = n) := by
  rw [← Bool.not_eq_true]
  simp [ofListener]

/-- A TDM port stops, before its missed frame is counted and told (R379). -/
def State.tdmSilent (s : State) (k : Nat) : State :=
  (s.modTdm k fun x => { x with noFrame := true, running := false, sdo := [] }).dropSamples (s.tdm k).feeds

theorem State.tdm_tdmSilent (s : State) (k : Nat) :
    (s.tdmSilent k).tdm k = { s.tdm k with noFrame := true, running := false, sdo := [] } := by
  rw [State.tdmSilent, State.tdm_dropSamples, State.tdm_modTdm]

/-- A listener is lost, before that is told (R381). -/
def State.aafSilent (s : State) (n : Nat) : State :=
  (s.modAaf n fun x => { x with lost := true }).dropSamples (ofListener n)

theorem State.aaf_aafSilent (s : State) (n : Nat) : (s.aafSilent n).aaf n = { s.aaf n with lost := true } := by
  rw [State.aafSilent, State.aaf_dropSamples, State.aaf_modAaf]

section
variable {s : State} {t : Nat}

theorem exec_tdmNoFrame_of_due {k : Fin 8} (enabled : ((s.tick t).tdm k).enable = true)
    (up : (s.tick t).unitUp (tdmUnit k) = true) (untold : ((s.tick t).tdm k).noFrame = false)
    (set : ((s.tick t).trig ((s.tick t).tdm k).trig).period ≠ 0)
    (due : ((s.tick t).tdm k).lastFrame + 2 * ((s.tick t).trig ((s.tick t).tdm k).trig).period ≤ (s.tick t).now) :
    exec (.tdmNoFrame t k) s = .next
      ((((s.tick t).tdmSilent k).count 9 (0x10000 + k) ctrTdmTdmMissed).raiseOf 88 (tdmUnit k) k) :=
  congrArg Host.Outcome.next (if_pos (by simp [enabled, up, untold, set, due, -State.tick_fields]))

theorem exec_tdmNoFrame_of_disabled {k : Fin 8} (disabled : ((s.tick t).tdm k).enable = false) :
    exec (.tdmNoFrame t k) s = .next (s.tick t) :=
  congrArg Host.Outcome.next (if_neg (by simp [disabled, -State.tick_fields]))

theorem exec_aafStreamLost_of_due {k : Fin 128} (listens : 64 ≤ k.val) (enabled : ((s.tick t).aaf k).enable = true)
    (untold : ((s.tick t).aaf k).lost = false) (due : ((s.tick t).aaf k).lastAt + 10000000 ≤ (s.tick t).now) :
    exec (.aafStreamLost t k) s = .next (((s.tick t).aafSilent k).raiseOf 89 audioUnit k) :=
  congrArg Host.Outcome.next (if_pos (by simp [listens, enabled, untold, due, -State.tick_fields]))

theorem exec_aafStreamLost_of_talker {k : Fin 128} (talks : k.val < 64) :
    exec (.aafStreamLost t k) s = .next (s.tick t) :=
  congrArg Host.Outcome.next (if_neg (by simp [Nat.not_le.mpr talks]))

theorem exec_audioBlockCompute_of_new (up : (s.tick t).unitUp audioUnit = true)
    (new : (s.tick t).aud.block ≠ (((s.tick t).activeNs / 1000000 + 2) * 1000000 : Nat)) :
    exec (.audioBlockCompute t) s =
      .next ((s.tick t).computeBlock (((s.tick t).activeNs / 1000000 + 2) * 1000000 : Nat)) :=
  congrArg Host.Outcome.next (if_pos (by simpa only [up, Bool.true_and, bne_iff_ne] using new))

theorem exec_audioBlockCompute_of_computed
    (computed : (s.tick t).aud.block = (((s.tick t).activeNs / 1000000 + 2) * 1000000 : Nat)) :
    exec (.audioBlockCompute t) s = .next (s.tick t) :=
  congrArg Host.Outcome.next (if_neg (by simp only [computed, bne_self_eq_false, Bool.and_false, Bool.false_eq_true,
    not_false_eq_true]))

end

/-- Settles O49: each command by its guard; what tells of a source that stops moves neither it nor the inputs. -/
theorem audioSourcesStop : Obligations.AudioSourcesStop := by
  unfold Obligations.AudioSourcesStop
  intro s t a
  refine ⟨fun k => ⟨fun enabled up untold set due => ?_, exec_tdmNoFrame_of_disabled⟩,
    fun k listens enabled untold due => ?_, fun k => exec_aafStreamLost_of_talker,
    exec_audioBlockCompute_of_new, exec_audioBlockCompute_of_computed⟩
  · have told := ((a.tdmSilent k).count_tells 9 (0x10000 + k) ctrTdmTdmMissed 1).trans
      (State.raiseOf_tells _ 88 (tdmUnit k) k)
    have stopped := (told.tdm k).trans (a.tdm_tdmSilent k)
    refine ⟨_, exec_tdmNoFrame_of_due enabled up untold set due, congrArg TdmPort.noFrame stopped,
      congrArg TdmPort.running stopped, congrArg TdmPort.sdo stopped, State.raiseOf_sets _ _ _ (by decide),
      fun y stays => ?_⟩
    rw [told.aud] at stays
    exact ((State.mem_inputs_dropSamples _ _ y).mp stays).imp_right TdmPort.feeds_eq_false.mp
  · have told := (a.aafSilent k).raiseOf_tells 89 audioUnit k
    have lost := (told.aaf k).trans (a.aaf_aafSilent k)
    refine ⟨_, exec_aafStreamLost_of_due listens enabled untold due, congrArg AafStream.lost lost,
      State.raiseOf_sets _ _ _ (by decide), fun y stays => ?_⟩
    rw [told.aud] at stays
    exact ((State.mem_inputs_dropSamples _ _ y).mp stays).imp_right ofListener_eq_false.mp

end Sys2Proof.Machine

namespace Sys2Proof.Machine

/-! ## What every command keeps: its areas, the queue, the instant (95_what_each_step_holds.md) -/

theorem Within.of_all {p l : List Area} (listed : (p.all fun x => l.contains x) = true) : Within p l :=
  Within.m (fun _ h => h) listed

/-- Whatever the command, its next state keeps every area but those that `moves` lists for its row. -/
theorem exec_keeps_moves (c : Instr) (s : State) : ∃ t, NextKeeps (moves c) (s.tick t) (exec c s) := by
  cases c with
  | devIdentify => exact ⟨_, execDevIdentify_keeps (.of_all rfl) (.refl _)⟩
  | devState => exact ⟨_, execDevState_keeps (.of_all rfl) (.refl _)⟩
  | devConfig => exact ⟨_, execDevConfig_keeps (.of_all rfl) (.refl _)⟩
  | devSnap => exact ⟨_, execDevSnap_keeps (.of_all rfl) (.refl _)⟩
  | devSnapClear => exact ⟨_, execDevSnapClear_keeps (.of_all rfl) (.refl _)⟩
  | devRestart => exact ⟨_, execDevRestart_keeps (.of_all rfl) (.refl _)⟩
  | devSafe => exact ⟨_, execDevSafe_keeps (.of_all rfl) (.refl _)⟩
  | ethConfig => exact ⟨_, execEthConfig_keeps (.of_all rfl) (.refl _)⟩
  | ethEnable => exact ⟨_, execEthEnable_keeps (.of_all rfl) (.refl _)⟩
  | ethDisable => exact ⟨_, execEthDisable_keeps (.of_all rfl) (.refl _)⟩
  | ethStatus => exact ⟨_, execEthStatus_keeps (.of_all rfl) (.refl _)⟩
  | ethPauseConfig => exact ⟨_, execEthPauseConfig_keeps (.of_all rfl) (.refl _)⟩
  | ethWakePattern => exact ⟨_, execEthWakePattern_keeps (.of_all rfl) (.refl _)⟩
  | ethStepdownConfig => exact ⟨_, execEthStepdownConfig_keeps (.of_all rfl) (.refl _)⟩
  | busConfig => exact ⟨_, execBusConfig_keeps (.of_all rfl) (.refl _)⟩
  | busEnable => exact ⟨_, execBusEnable_keeps (.of_all rfl) (.refl _)⟩
  | busDisable => exact ⟨_, execBusDisable_keeps (.of_all rfl) (.refl _)⟩
  | busFilterLoad => exact ⟨_, execBusFilterLoad_keeps (.of_all rfl) (.refl _)⟩
  | busRecover => exact ⟨_, execBusRecover_keeps (.of_all rfl) (.refl _)⟩
  | busMode => exact ⟨_, execBusMode_keeps (.of_all rfl) (.refl _)⟩
  | busStatus => exact ⟨_, execBusStatus_keeps (.of_all rfl) (.refl _)⟩
  | parseGraphLoad => exact ⟨_, execParseGraphLoad_keeps (.of_all rfl) (.refl _)⟩
  | parseSelect => exact ⟨_, execParseSelect_keeps (.of_all rfl) (.refl _)⟩
  | ruleStage => exact ⟨_, execRuleStage_keeps (.of_all rfl) (.refl _)⟩
  | ruleCommit => exact ⟨_, execRuleCommit_keeps (.of_all rfl) (.refl _)⟩
  | ruleStatus => exact ⟨_, execRuleStatus_keeps (.of_all rfl) (.refl _)⟩
  | policerConfig => exact ⟨_, execPolicerConfig_keeps (.of_all rfl) (.refl _)⟩
  | tblRouteAdd => exact ⟨_, execTblRouteAdd_keeps (.of_all rfl) (.refl _)⟩
  | tblRouteDel => exact ⟨_, execTblRouteDel_keeps (.of_all rfl) (.refl _)⟩
  | tblL2Config => exact ⟨_, execTblL2Config_keeps (.of_all rfl) (.refl _)⟩
  | tblL2Flush => exact ⟨_, execTblL2Flush_keeps (.of_all rfl) (.refl _)⟩
  | tblDirectWrite => exact ⟨_, execTblDirectWrite_keeps (.of_all rfl) (.refl _)⟩
  | tblRead => exact ⟨_, execTblRead_keeps (.of_all rfl) (.refl _)⟩
  | swPoolConfig => exact ⟨_, execSwPoolConfig_keeps (.of_all rfl) (.refl _)⟩
  | swClassConfig => exact ⟨_, execSwClassConfig_keeps (.of_all rfl) (.refl _)⟩
  | swPortConfig => exact ⟨_, execSwPortConfig_keeps (.of_all rfl) (.refl _)⟩
  | swSchedConfig => exact ⟨_, execSwSchedConfig_keeps (.of_all rfl) (.refl _)⟩
  | swStatus => exact ⟨_, execSwStatus_keeps (.of_all rfl) (.refl _)⟩
  | sigMapLoad => exact ⟨_, execSigMapLoad_keeps (.of_all rfl) (.refl _)⟩
  | sigMapCommit => exact ⟨_, execSigMapCommit_keeps (.of_all rfl) (.refl _)⟩
  | sigRead => exact ⟨_, execSigRead_keeps (.of_all rfl) (.refl _)⟩
  | sigWrite => exact ⟨_, execSigWrite_keeps (.of_all rfl) (.refl _)⟩
  | sigTriggerFire => exact ⟨_, execSigTriggerFire_keeps (.of_all rfl) (.refl _)⟩
  | sigStatus => exact ⟨_, execSigStatus_keeps (.of_all rfl) (.refl _)⟩
  | timeDomainConfig => exact ⟨_, execTimeDomainConfig_keeps (.of_all rfl) (.refl _)⟩
  | timeServoConfig => exact ⟨_, execTimeServoConfig_keeps (.of_all rfl) (.refl _)⟩
  | timeTriggerSet => exact ⟨_, execTimeTriggerSet_keeps (.of_all rfl) (.refl _)⟩
  | timeTriggerClear => exact ⟨_, execTimeTriggerClear_keeps (.of_all rfl) (.refl _)⟩
  | timeCaptureRead => exact ⟨_, execTimeCaptureRead_keeps (.of_all rfl) (.refl _)⟩
  | timeStatus => exact ⟨_, execTimeStatus_keeps (.of_all rfl) (.refl _)⟩
  | audPortConfig => exact ⟨_, execAudPortConfig_keeps (.of_all rfl) (.refl _)⟩
  | audStreamConfig => exact ⟨_, execAudStreamConfig_keeps (.of_all rfl) (.refl _)⟩
  | audRouteSet => exact ⟨_, execAudRouteSet_keeps (.of_all rfl) (.refl _)⟩
  | audZoneConfig => exact ⟨_, execAudZoneConfig_keeps (.of_all rfl) (.refl _)⟩
  | audAnnounceStart => exact ⟨_, execAudAnnounceStart_keeps (.of_all rfl) (.refl _)⟩
  | audAnnounceStop => exact ⟨_, execAudAnnounceStop_keeps (.of_all rfl) (.refl _)⟩
  | audLibraryLoad => exact ⟨_, execAudLibraryLoad_keeps (.of_all rfl) (.refl _)⟩
  | tideQueueConfig => exact ⟨_, execTideQueueConfig_keeps (.of_all rfl) (.refl _)⟩
  | tideQueueReset => exact ⟨_, execTideQueueReset_keeps (.of_all rfl) (.refl _)⟩
  | dmaRingConfig => exact ⟨_, execDmaRingConfig_keeps (.of_all rfl) (.refl _)⟩
  | dmaRingEnable => exact ⟨_, execDmaRingEnable_keeps (.of_all rfl) (.refl _)⟩
  | dmaRingDisable => exact ⟨_, execDmaRingDisable_keeps (.of_all rfl) (.refl _)⟩
  | keyDerive => exact ⟨_, execKeyDerive_keeps (.of_all rfl) (.refl _)⟩
  | keyRevoke => exact ⟨_, execKeyRevoke_keeps (.of_all rfl) (.refl _)⟩
  | keyAttrSet => exact ⟨_, execKeyAttrSet_keeps (.of_all rfl) (.refl _)⟩
  | keyInfo => exact ⟨_, execKeyInfo_keeps (.of_all rfl) (.refl _)⟩
  | keyEnrol => exact ⟨_, execKeyEnrol_keeps (.of_all rfl) (.refl _)⟩
  | keyTamperConfig => exact ⟨_, execKeyTamperConfig_keeps (.of_all rfl) (.refl _)⟩
  | faultConfig => exact ⟨_, execFaultConfig_keeps (.of_all rfl) (.refl _)⟩
  | faultForce => exact ⟨_, execFaultForce_keeps (.of_all rfl) (.refl _)⟩
  | faultRead => exact ⟨_, execFaultRead_keeps (.of_all rfl) (.refl _)⟩
  | faultClear => exact ⟨_, execFaultClear_keeps (.of_all rfl) (.refl _)⟩
  | twinConfig => exact ⟨_, execTwinConfig_keeps (.of_all rfl) (.refl _)⟩
  | twinEnable => exact ⟨_, execTwinEnable_keeps (.of_all rfl) (.refl _)⟩
  | twinDisable => exact ⟨_, execTwinDisable_keeps (.of_all rfl) (.refl _)⟩
  | twinHandover => exact ⟨_, execTwinHandover_keeps (.of_all rfl) (.refl _)⟩
  | twinStatus => exact ⟨_, execTwinStatus_keeps (.of_all rfl) (.refl _)⟩
  | cwConfig => exact ⟨_, execCwConfig_keeps (.of_all rfl) (.refl _)⟩
  | cwIdSet => exact ⟨_, execCwIdSet_keeps (.of_all rfl) (.refl _)⟩
  | cwTopology => exact ⟨_, execCwTopology_keeps (.of_all rfl) (.refl _)⟩
  | cwRemoteRead => exact ⟨_, execCwRemoteRead_keeps (.of_all rfl) (.refl _)⟩
  | cwRemoteWrite => exact ⟨_, execCwRemoteWrite_keeps (.of_all rfl) (.refl _)⟩
  | cwRemoteLock => exact ⟨_, execCwRemoteLock_keeps (.of_all rfl) (.refl _)⟩
  | wakeFilterSet => exact ⟨_, execWakeFilterSet_keeps (.of_all rfl) (.refl _)⟩
  | sleepConfig => exact ⟨_, execSleepConfig_keeps (.of_all rfl) (.refl _)⟩
  | sleepRequest => exact ⟨_, execSleepRequest_keeps (.of_all rfl) (.refl _)⟩
  | sleepStatus => exact ⟨_, execSleepStatus_keeps (.of_all rfl) (.refl _)⟩
  | updateBegin => exact ⟨_, execUpdateBegin_keeps (.of_all rfl) (.refl _)⟩
  | updateWrite => exact ⟨_, execUpdateWrite_keeps (.of_all rfl) (.refl _)⟩
  | updateFinish => exact ⟨_, execUpdateFinish_keeps (.of_all rfl) (.refl _)⟩
  | updateActivate => exact ⟨_, execUpdateActivate_keeps (.of_all rfl) (.refl _)⟩
  | updateConfirm => exact ⟨_, execUpdateConfirm_keeps (.of_all rfl) (.refl _)⟩
  | updateRevert => exact ⟨_, execUpdateRevert_keeps (.of_all rfl) (.refl _)⟩
  | updateStatus => exact ⟨_, execUpdateStatus_keeps (.of_all rfl) (.refl _)⟩
  | mbxRing => exact ⟨_, execMbxRing_keeps (.of_all rfl) (.refl _)⟩
  | mbxAccept => exact ⟨_, execMbxAccept_keeps (.of_all rfl) (.refl _)⟩
  | commandStart => exact ⟨_, execCommandStart_keeps (.of_all rfl) (.refl _)⟩
  | longestTimeExpiry => exact ⟨_, execLongestTimeExpiry_keeps (.of_all rfl) (.refl _)⟩
  | mbxDoneClear => exact ⟨_, execMbxDoneClear_keeps (.of_all rfl) (.refl _)⟩
  | mbxAbort => exact ⟨_, execMbxAbort_keeps (.of_all rfl) (.refl _)⟩
  | abortWatchdog => exact ⟨_, execAbortWatchdog_keeps (.of_all rfl) (.refl _)⟩
  | commandFirmwareWaitTimeout => exact ⟨_, execCommandFirmwareWaitTimeout_keeps (.of_all rfl) (.refl _)⟩
  | evtLogRelease => exact ⟨_, execEvtLogRelease_keeps (.of_all rfl) (.refl _)⟩
  | evtMaskWrite => exact ⟨_, execEvtMaskWrite_keeps (.of_all rfl) (.refl _)⟩
  | msixVectorUnmask => exact ⟨_, execMsixVectorUnmask_keeps (.of_all rfl) (.refl _)⟩
  | registerWrite => exact ⟨_, execRegisterWrite_keeps (.of_all rfl) (.refl _)⟩
  | spiWriteTransaction => exact ⟨_, execSpiWriteTransaction_keeps (.of_all rfl) (.refl _)⟩
  | spiReadTransaction => exact ⟨_, execSpiReadTransaction_keeps (.of_all rfl) (.refl _)⟩
  | spiStatusRead => exact ⟨_, execSpiStatusRead_keeps (.refl _)⟩
  | spiTransactionTimeout => exact ⟨_, execSpiTransactionTimeout_keeps (.of_all rfl) (.refl _)⟩
  | pcieCompletionTimeout => exact ⟨_, execPcieCompletionTimeout_keeps (.of_all rfl) (.refl _)⟩
  | perstN => exact ⟨_, execPerstN_keeps (.of_all rfl) (.refl _)⟩
  | tqCurWrite => exact ⟨_, execTqCurWrite_keeps (.of_all rfl) (.refl _)⟩
  | tqMarkWrite => exact ⟨_, execTqMarkWrite_keeps (.of_all rfl) (.refl _)⟩
  | tqReleaseWrite => exact ⟨_, execTqReleaseWrite_keeps (.of_all rfl) (.refl _)⟩
  | tqClearMark => exact ⟨_, execTqClearMark_keeps (.of_all rfl) (.refl _)⟩
  | tqRewind => exact ⟨_, execTqRewind_keeps (.of_all rfl) (.refl _)⟩
  | ringTailWrite => exact ⟨_, execRingTailWrite_keeps (.of_all rfl) (.refl _)⟩
  | ciphLockWrite => exact ⟨_, execCiphLockWrite_keeps (.of_all rfl) (.refl _)⟩
  | ciphStart => exact ⟨_, execCiphStart_keeps (.of_all rfl) (.refl _)⟩
  | ciphCancel => exact ⟨_, execCiphCancel_keeps (.of_all rfl) (.refl _)⟩
  | ciphInWrite => exact ⟨_, execCiphInWrite_keeps (.of_all rfl) (.refl _)⟩
  | ciphOutRelWrite => exact ⟨_, execCiphOutRelWrite_keeps (.of_all rfl) (.refl _)⟩
  | ciphJobDone => exact ⟨_, execCiphJobDone_keeps (.of_all rfl) (.refl _)⟩
  | lockIdleRelease => exact ⟨_, execLockIdleRelease_keeps (.of_all rfl) (.refl _)⟩
  | internalEngineClaim => exact ⟨_, execInternalEngineClaim_keeps (.of_all rfl) (.refl _)⟩
  | ingressFrameStart => exact ⟨_, execIngressFrameStart_keeps (.of_all rfl) (.refl _)⟩
  | graphRewriteDone => exact ⟨_, execGraphRewriteDone_keeps (.of_all rfl) (.refl _)⟩
  | tableRewriteDone => exact ⟨_, execTableRewriteDone_keeps (.of_all rfl) (.refl _)⟩
  | frameAdmission => exact ⟨_, execFrameAdmission_keeps (.of_all rfl) (.refl _)⟩
  | versionExpiry => exact ⟨_, execVersionExpiry_keeps (.of_all rfl) (.refl _)⟩
  | ingressVerdict => exact ⟨_, execIngressVerdict_keeps (.of_all rfl) (.refl _)⟩
  | learnEventProcess => exact ⟨_, execLearnEventProcess_keeps (.of_all rfl) (.refl _)⟩
  | l2MoveWindowEnd => exact ⟨_, execL2MoveWindowEnd_keeps (.of_all rfl) (.refl _)⟩
  | l2AgeingScan => exact ⟨_, execL2AgeingScan_keeps (.of_all rfl) (.refl _)⟩
  | egressDequeue => exact ⟨_, execEgressDequeue_keeps (.of_all rfl) (.refl _)⟩
  | cutThroughFcsDue => exact ⟨_, execCutThroughFcsDue_keeps (.of_all rfl) (.refl _)⟩
  | egressTransmitEnd => exact ⟨_, execEgressTransmitEnd_keeps (.of_all rfl) (.refl _)⟩
  | ageingHeadCheck => exact ⟨_, execAgeingHeadCheck_keeps (.of_all rfl) (.refl _)⟩
  | linkDown => exact ⟨_, execLinkDown_keeps (.of_all rfl) (.refl _)⟩
  | linkUp => exact ⟨_, execLinkUp_keeps (.of_all rfl) (.refl _)⟩
  | holdWindowEnd => exact ⟨_, execHoldWindowEnd_keeps (.of_all rfl) (.refl _)⟩
  | speedChanged => exact ⟨_, execSpeedChanged_keeps (.of_all rfl) (.refl _)⟩
  | remoteFault => exact ⟨_, execRemoteFault_keeps (.of_all rfl) (.refl _)⟩
  | pauseReceived => exact ⟨_, execPauseReceived_keeps (.of_all rfl) (.refl _)⟩
  | pauseExpiry => exact ⟨_, execPauseExpiry_keeps (.of_all rfl) (.refl _)⟩
  | pausedLong => exact ⟨_, execPausedLong_keeps (.of_all rfl) (.refl _)⟩
  | pauseRefresh => exact ⟨_, execPauseRefresh_keeps (.of_all rfl) (.refl _)⟩
  | collision => exact ⟨_, execCollision_keeps (.of_all rfl) (.refl _)⟩
  | backoffExpiry => exact ⟨_, execBackoffExpiry_keeps (.of_all rfl) (.refl _)⟩
  | plcaStatusChange => exact ⟨_, execPlcaStatusChange_keeps (.of_all rfl) (.refl _)⟩
  | stepDecision => exact ⟨_, execStepDecision_keeps (.of_all rfl) (.refl _)⟩
  | stepMessageReceived => exact ⟨_, execStepMessageReceived_keeps (.of_all rfl) (.refl _)⟩
  | stepRequestTimeout => exact ⟨_, execStepRequestTimeout_keeps (.of_all rfl) (.refl _)⟩
  | stepRelockDone => exact ⟨_, execStepRelockDone_keeps (.of_all rfl) (.refl _)⟩
  | stepRelockFail => exact ⟨_, execStepRelockFail_keeps (.of_all rfl) (.refl _)⟩
  | stepLinkLoss => exact ⟨_, execStepLinkLoss_keeps (.of_all rfl) (.refl _)⟩
  | busFrameEvaluation => exact ⟨_, execBusFrameEvaluation_keeps (.of_all rfl) (.refl _)⟩
  | busFrameValid => exact ⟨_, execBusFrameValid_keeps (.of_all rfl) (.refl _)⟩
  | busError => exact ⟨_, execBusError_keeps (.of_all rfl) (.refl _)⟩
  | busArbitrationStart => exact ⟨_, execBusArbitrationStart_keeps (.of_all rfl) (.refl _)⟩
  | busTxValid => exact ⟨_, execBusTxValid_keeps (.of_all rfl) (.refl _)⟩
  | busRecoveryOccurrence => exact ⟨_, execBusRecoveryOccurrence_keeps (.of_all rfl) (.refl _)⟩
  | stuckDominant => exact ⟨_, execStuckDominant_keeps (.of_all rfl) (.refl _)⟩
  | busIntegrationDone => exact ⟨_, execBusIntegrationDone_keeps (.of_all rfl) (.refl _)⟩
  | busModeEffect => exact ⟨_, execBusModeEffect_keeps (.of_all rfl) (.refl _)⟩
  | drainLimitExpiry => exact ⟨_, execDrainLimitExpiry_keeps (.of_all rfl) (.refl _)⟩
  | sourceFrameCommit => exact ⟨_, execSourceFrameCommit_keeps (.of_all rfl) (.refl _)⟩
  | signalOverrun => exact ⟨_, execSignalOverrun_keeps (.of_all rfl) (.refl _)⟩
  | freshnessExpiry => exact ⟨_, execFreshnessExpiry_keeps (.of_all rfl) (.refl _)⟩
  | triggerGapEnd => exact ⟨_, execTriggerGapEnd_keeps (.of_all rfl) (.refl _)⟩
  | secWaitExpiry => exact ⟨_, execSecWaitExpiry_keeps (.of_all rfl) (.refl _)⟩
  | mapVersionExpiry => exact ⟨_, execMapVersionExpiry_keeps (.of_all rfl) (.refl _)⟩
  | timeMessageReceived => exact ⟨_, execTimeMessageReceived_keeps (.of_all rfl) (.refl _)⟩
  | domainTimeout => exact ⟨_, execDomainTimeout_keeps (.of_all rfl) (.refl _)⟩
  | referenceLost => exact ⟨_, execReferenceLost_keeps (.of_all rfl) (.refl _)⟩
  | referenceReturn => exact ⟨_, execReferenceReturn_keeps (.of_all rfl) (.refl _)⟩
  | followUpTableExpiry => exact ⟨_, execFollowUpTableExpiry_keeps (.of_all rfl) (.refl _)⟩
  | timeTriggerFire => exact ⟨_, execTimeTriggerFire_keeps (.of_all rfl) (.refl _)⟩
  | timeOutPulseEnd => exact ⟨_, execTimeOutPulseEnd_keeps (.of_all rfl) (.refl _)⟩
  | timeInCapture => exact ⟨_, execTimeInCapture_keeps (.of_all rfl) (.refl _)⟩
  | tdmNoFrame => exact ⟨_, execTdmNoFrame_keeps (.of_all rfl) (.refl _)⟩
  | audioBlockCompute => exact ⟨_, execAudioBlockCompute_keeps (.of_all rfl) (.refl _)⟩
  | aafStreamLost => exact ⟨_, execAafStreamLost_keeps (.of_all rfl) (.refl _)⟩
  | dmaRxTransfer => exact ⟨_, execDmaRxTransfer_keeps (.of_all rfl) (.refl _)⟩
  | rxStarveTimeout => exact ⟨_, execRxStarveTimeout_keeps (.of_all rfl) (.refl _)⟩
  | rxEventTimer => exact ⟨_, execRxEventTimer_keeps (.of_all rfl) (.refl _)⟩
  | dmaTxFrame => exact ⟨_, execDmaTxFrame_keeps (.of_all rfl) (.refl _)⟩
  | tideEccScrub => exact ⟨_, execTideEccScrub_keeps (.of_all rfl) (.refl _)⟩
  | entropyHealthFail => exact ⟨_, execEntropyHealthFail_keeps (.of_all rfl) (.refl _)⟩
  | tamperAlarm => exact ⟨_, execTamperAlarm_keeps (.of_all rfl) (.refl _)⟩
  | faultSourceEntry => exact ⟨_, execFaultSourceEntry_keeps (.of_all rfl) (.refl _)⟩
  | faultSourceQuiet => exact ⟨_, execFaultSourceQuiet_keeps (.of_all rfl) (.refl _)⟩
  | brokenPair => exact ⟨_, execBrokenPair_keeps (.of_all rfl) (.refl _)⟩
  | arbitrationWindowClose => exact ⟨_, execArbitrationWindowClose_keeps (.of_all rfl) (.refl _)⟩
  | quietPeriodEnd => exact ⟨_, execQuietPeriodEnd_keeps (.of_all rfl) (.refl _)⟩
  | budgetWindowEnd => exact ⟨_, execBudgetWindowEnd_keeps (.of_all rfl) (.refl _)⟩
  | unitRestartEscalation => exact ⟨_, execUnitRestartEscalation_keeps (.of_all rfl) (.refl _)⟩
  | faultPersistLatch => exact ⟨_, execFaultPersistLatch_keeps (.of_all rfl) (.refl _)⟩
  | unitRestartDone => exact ⟨_, execUnitRestartDone_keeps (.of_all rfl) (.refl _)⟩
  | islandRestartDone => exact ⟨_, execIslandRestartDone_keeps (.of_all rfl) (.refl _)⟩
  | handshakeTimeout => exact ⟨_, execHandshakeTimeout_keeps (.of_all rfl) (.refl _)⟩
  | channelResetTimeout => exact ⟨_, execChannelResetTimeout_keeps (.of_all rfl) (.refl _)⟩
  | glitchStorm => exact ⟨_, execGlitchStorm_keeps (.of_all rfl) (.refl _)⟩
  | timerRecalibration => exact ⟨_, execTimerRecalibration_keeps (.of_all rfl) (.refl _)⟩
  | mdioTimeout => exact ⟨_, execMdioTimeout_keeps (.of_all rfl) (.refl _)⟩
  | lpddrTrainingTimeout => exact ⟨_, execLpddrTrainingTimeout_keeps (.of_all rfl) (.refl _)⟩
  | supplyWarning => exact ⟨_, execSupplyWarning_keeps (.of_all rfl) (.refl _)⟩
  | brownOut => exact ⟨_, execBrownOut_keeps (.of_all rfl) (.refl _)⟩
  | powerOn => exact ⟨_, execPowerOn_keeps (.of_all rfl) (.refl _)⟩
  | resetN => exact ⟨_, execResetN_keeps (.of_all rfl) (.refl _)⟩
  | pwrEnRetry => exact ⟨_, execPwrEnRetry_keeps (.of_all rfl) (.refl _)⟩
  | vddAonLoss => exact ⟨_, execVddAonLoss_keeps (.of_all rfl) (.refl _)⟩
  | jtagInstruction => exact ⟨_, execJtagInstruction_keeps (.of_all rfl) (.refl _)⟩
  | pufRegeneration => exact ⟨_, execPufRegeneration_keeps (.of_all rfl) (.refl _)⟩
  | loaderImageCheck => exact ⟨_, execLoaderImageCheck_keeps (.of_all rfl) (.refl _)⟩
  | swapPageStep => exact ⟨_, execSwapPageStep_keeps (.of_all rfl) (.refl _)⟩
  | firmwareStart => exact ⟨_, execFirmwareStart_keeps (.of_all rfl) (.refl _)⟩
  | firmwareReady => exact ⟨_, execFirmwareReady_keeps (.of_all rfl) (.refl _)⟩
  | firmwareHeartbeat => exact ⟨_, execFirmwareHeartbeat_keeps (.of_all rfl) (.refl _)⟩
  | activateReboot => exact ⟨_, execActivateReboot_keeps (.of_all rfl) (.refl _)⟩
  | updateChunkReceived => exact ⟨_, execUpdateChunkReceived_keeps (.of_all rfl) (.refl _)⟩
  | activationReportSend => exact ⟨_, execActivationReportSend_keeps (.of_all rfl) (.refl _)⟩
  | activationReportReceived => exact ⟨_, execActivationReportReceived_keeps (.of_all rfl) (.refl _)⟩
  | actWaitExpiry => exact ⟨_, execActWaitExpiry_keeps (.of_all rfl) (.refl _)⟩
  | activationOrderReceived => exact ⟨_, execActivationOrderReceived_keeps (.of_all rfl) (.refl _)⟩
  | selfSwapbackTimeout => exact ⟨_, execSelfSwapbackTimeout_keeps (.of_all rfl) (.refl _)⟩
  | leaseRenewal => exact ⟨_, execLeaseRenewal_keeps (.of_all rfl) (.refl _)⟩
  | leaseLapse => exact ⟨_, execLeaseLapse_keeps (.of_all rfl) (.refl _)⟩
  | tokenClaim => exact ⟨_, execTokenClaim_keeps (.of_all rfl) (.refl _)⟩
  | leaseInChange => exact ⟨_, execLeaseInChange_keeps (.of_all rfl) (.refl _)⟩
  | twinHelloSend => exact ⟨_, execTwinHelloSend_keeps (.of_all rfl) (.refl _)⟩
  | twinHelloReceived => exact ⟨_, execTwinHelloReceived_keeps (.of_all rfl) (.refl _)⟩
  | twinRenewReceived _ body => exact ⟨_, execTwinRenewReceived_keeps (.of_all rfl) (a1 := body) (.refl _)⟩
  | twinMirrorReceived => exact ⟨_, execTwinMirrorReceived_keeps (.of_all rfl) (.refl _)⟩
  | twinHealthSend => exact ⟨_, execTwinHealthSend_keeps (.of_all rfl) (.refl _)⟩
  | twinHealthReceived => exact ⟨_, execTwinHealthReceived_keeps (.of_all rfl) (.refl _)⟩
  | healthReportTimeout => exact ⟨_, execHealthReportTimeout_keeps (.of_all rfl) (.refl _)⟩
  | twinHandoverReceived => exact ⟨_, execTwinHandoverReceived_keeps (.of_all rfl) (.refl _)⟩
  | handoverBusesIdle => exact ⟨_, execHandoverBusesIdle_keeps (.of_all rfl) (.refl _)⟩
  | twinResyncReceived => exact ⟨_, execTwinResyncReceived_keeps (.of_all rfl) (.refl _)⟩
  | twinTsyncSend => exact ⟨_, execTwinTsyncSend_keeps (.refl _)⟩
  | twinTsyncReceived => exact ⟨_, execTwinTsyncReceived_keeps (.of_all rfl) (.refl _)⟩
  | twinLinkDown => exact ⟨_, execTwinLinkDown_keeps (.of_all rfl) (.refl _)⟩
  | shadowTimeout => exact ⟨_, execShadowTimeout_keeps (.of_all rfl) (.refl _)⟩
  | bistSlice => exact ⟨_, execBistSlice_keeps (.of_all rfl) (.refl _)⟩
  | causewayFrameReceive => exact ⟨_, execCausewayFrameReceive_keeps (.of_all rfl) (.refl _)⟩
  | cwHelloSend => exact ⟨_, execCwHelloSend_keeps (.of_all rfl) (.refl _)⟩
  | cwHelloReceived => exact ⟨_, execCwHelloReceived_keeps (.of_all rfl) (.refl _)⟩
  | cwEngineClaim => exact ⟨_, execCwEngineClaim_keeps (.of_all rfl) (.refl _)⟩
  | neighbourLost => exact ⟨_, execNeighbourLost_keeps (.of_all rfl) (.refl _)⟩
  | topologySend => exact ⟨_, execTopologySend_keeps (.of_all rfl) (.refl _)⟩
  | topologyReceived => exact ⟨_, execTopologyReceived_keeps (.of_all rfl) (.refl _)⟩
  | deviceUnheard => exact ⟨_, execDeviceUnheard_keeps (.of_all rfl) (.refl _)⟩
  | remoteRequestReceived => exact ⟨_, execRemoteRequestReceived_keeps (.of_all rfl) (.refl _)⟩
  | remoteCompletionReceived => exact ⟨_, execRemoteCompletionReceived_keeps (.of_all rfl) (.refl _)⟩
  | remoteTimeout => exact ⟨_, execRemoteTimeout_keeps (.of_all rfl) (.refl _)⟩
  | remoteCacheExpiry => exact ⟨_, execRemoteCacheExpiry_keeps (.of_all rfl) (.refl _)⟩
  | lockRequestReceived => exact ⟨_, execLockRequestReceived_keeps (.of_all rfl) (.refl _)⟩
  | lockGrantReceived => exact ⟨_, execLockGrantReceived_keeps (.of_all rfl) (.refl _)⟩
  | writeAndUnlockReceived => exact ⟨_, execWriteAndUnlockReceived_keeps (.of_all rfl) (.refl _)⟩
  | lockRetryReceived => exact ⟨_, execLockRetryReceived_keeps (.of_all rfl) (.refl _)⟩
  | lockBackoffExpiry => exact ⟨_, execLockBackoffExpiry_keeps (.of_all rfl) (.refl _)⟩
  | farLockExpiry => exact ⟨_, execFarLockExpiry_keeps (.of_all rfl) (.refl _)⟩
  | cwEventReceived => exact ⟨_, execCwEventReceived_keeps (.of_all rfl) (.refl _)⟩
  | peerCommandReceived => exact ⟨_, execPeerCommandReceived_keeps (.of_all rfl) (.refl _)⟩
  | consentLapStart => exact ⟨_, execConsentLapStart_keeps (.of_all rfl) (.refl _)⟩
  | busLapMessageReceived => exact ⟨_, execBusLapMessageReceived_keeps (.of_all rfl) (.refl _)⟩
  | nodeSlotTimeout => exact ⟨_, execNodeSlotTimeout_keeps (.of_all rfl) (.refl _)⟩
  | deviceLapReceived _ dev _ => exact ⟨_, execDeviceLapReceived_keeps (.of_all rfl) (a1 := dev) (.refl _)⟩
  | lapTimeout => exact ⟨_, execLapTimeout_keeps (.of_all rfl) (.refl _)⟩
  | sleepCancelReceived _ dev _ => exact ⟨_, execSleepCancelReceived_keeps (.of_all rfl) (a1 := dev) (.refl _)⟩
  | wakeRequest => exact ⟨_, execWakeRequest_keeps (.of_all rfl) (.refl _)⟩
  | sleepSettle => exact ⟨_, execSleepSettle_keeps (.of_all rfl) (.refl _)⟩
  | sleepPowerOff => exact ⟨_, execSleepPowerOff_keeps (.of_all rfl) (.refl _)⟩
  | wakeSource => exact ⟨_, execWakeSource_keeps (.of_all rfl) (.refl _)⟩
  | ringLost => exact ⟨_, execRingLost_keeps (.of_all rfl) (.refl _)⟩
  | falseWakeCheck => exact ⟨_, execFalseWakeCheck_keeps (.of_all rfl) (.refl _)⟩
  | pcieLinkStateChange => exact ⟨_, execPcieLinkStateChange_keeps (.of_all rfl) (.refl _)⟩
  | pathDelayRequestSend => exact ⟨_, execPathDelayRequestSend_keeps (.of_all rfl) (.refl _)⟩
  | slewEnd => exact ⟨_, execSlewEnd_keeps (.of_all rfl) (.refl _)⟩
  | brokenPairRestored => exact ⟨_, execBrokenPairRestored_keeps (.of_all rfl) (.refl _)⟩
  | coreSupplyInRange => exact ⟨_, execCoreSupplyInRange_keeps (.of_all rfl) (.refl _)⟩
  | safeStateOutputRelease => exact ⟨_, execSafeStateOutputRelease_keeps (.of_all rfl) (.refl _)⟩
  | twinSleepCommitReceived _ body => exact ⟨_, execTwinSleepCommitReceived_keeps (.of_all rfl) (a1 := body) (.refl _)⟩

/-- The instant at which a command runs is no area of the state. -/
theorem Area.same_tick (x : Area) (s : State) (t : Nat) : x.same s (s.tick t) := by
  cases x <;> simp [Area.same, State.tick, State.port]

/-- A next state of a command, as what it keeps of the state at the command's instant. -/
theorem exec_next_keeps {c : Instr} {s u : State} (ran : exec c s = .next u) : ∃ t, Keeps (moves c) (s.tick t) u := by
  obtain ⟨t, kept⟩ := exec_keeps_moves c s
  exact ⟨t, by rwa [ran] at kept⟩

/-- Settles O5: an area that the row does not list stands from the instant of the command on, and the instant is none. -/
theorem everyCommandLeavesTheOtherAreas : Obligations.EveryCommandLeavesTheOtherAreas := by
  unfold Obligations.EveryCommandLeavesTheOtherAreas
  intro c s u ran x unlisted
  obtain ⟨t, kept⟩ := exec_next_keeps ran
  exact Area.same_trans (x.same_tick s t) (kept.same x unlisted)

/-- A well-formed register write names an address that the device has. -/
theorem barHas_of_wf {t bar off be : Nat} {data : List Byte} (wf : (Instr.registerWrite t bar off data be).wf = true) :
    barHas bar off data.length := by
  simp only [Instr.wf, Bool.and_eq_true, decide_eq_true_eq] at wf
  obtain ⟨⟨mapped, fits⟩, -⟩ := wf
  exact ⟨fits, mapped⟩

theorem exec_continues_of_wf {c : Instr} (wf : c.wf = true) (s : State) : Continues (exec c s) := by
  cases c with
  | registerWrite t bar off data be => exact exec_registerWrite_of_mapped (barHas_of_wf wf) s
  | _ => exact exec_continues rfl s

/-- Settles O6: a well-formed command continues, and what a command keeps includes the queue. -/
theorem wellFormedCommandsAlwaysComplete : Obligations.WellFormedCommandsAlwaysComplete := by
  unfold Obligations.WellFormedCommandsAlwaysComplete
  intro c s wf
  obtain ⟨u, ran⟩ := exec_continues_of_wf wf s
  obtain ⟨t, kept⟩ := exec_next_keeps ran
  exact ⟨u, ran, kept.pending⟩

theorem step_of_idle {s : State} (idle : s.pending = []) : step s = .next s := by
  rw [step, idle]

theorem step_of_front {s : State} {c : Instr} {l : List Instr} (front : s.pending = c :: l) :
    step s = exec c { s with pending := l } := by
  rw [step, front]

/-- Settles O4: a command keeps the rest of the queue, draws forward and sends more, from its own instant on. -/
theorem stepTakesOneCommandAndNeverRunsBack : Obligations.StepTakesOneCommandAndNeverRunsBack := by
  unfold Obligations.StepTakesOneCommandAndNeverRunsBack
  refine ⟨fun s => step_of_idle, fun c l s s' front ran => ?_⟩
  rw [step_of_front front] at ran
  obtain ⟨t, kept⟩ := exec_next_keeps ran
  have later : s.now ≤ s'.now := kept.now ▸ Nat.le_max_left s.now t
  exact ⟨kept.pending, later, kept.draws, kept.sent⟩

/-- Settles O1: a command at the front is what a step runs. -/
theorem stepRunsTheFrontCommand : Obligations.StepRunsTheFrontCommand := by
  unfold Obligations.StepRunsTheFrontCommand
  exact fun _ _ _ => step_of_front rfl

end Sys2Proof.Machine

namespace Sys2Proof.Machine

/-! ## Out of the host's reach (R539, R606) -/

theorem State.hostWrites_of_unreached {s : State} {t : Nat} (unreached : (s.tick t).hostReach = false)
    (f : State → State) : s.hostWrites t f = s.tick t := by
  simp [State.hostWrites, unreached]

theorem exec_registerWrite_of_unreached {s : State} {t bar off be : Nat} {data : List Byte}
    (unreached : (s.tick t).hostReach = false) (mapped : barHas bar off data.length) :
    exec (.registerWrite t bar off data be) s = .next (s.tick t) := by
  rw [exec_registerWrite, execRegisterWrite]
  rcases barHas_iff.mp mapped with ⟨rfl, fits⟩ | ⟨rfl, fits⟩ | ⟨rfl, fits⟩ <;>
    simp [fits, State.hostWrites_of_unreached unreached]

theorem exec_msixVectorUnmask_of_unreached {s : State} {t : Nat} (what : MsixUnmask)
    (unreached : (s.tick t).hostReach = false) : exec (.msixVectorUnmask t what) s = .next (s.tick t) := by
  simp [execMsixVectorUnmask, unreached]

/-- Settles O11: a register write reaches its unit through `State.hostWrites`, a write of the MSI-X table behind the same
condition. -/
theorem nothingIsWrittenOutOfReach : Obligations.NothingIsWrittenOutOfReach := by
  unfold Obligations.NothingIsWrittenOutOfReach
  intro s t unreached
  have lost (f : State → State) : (.next (s.hostWrites t f) : Host.Outcome State Fault Refusal) = .next (s.tick t) :=
    congrArg Host.Outcome.next (State.hostWrites_of_unreached unreached f)
  exact ⟨fun _ _ _ _ inDevice fits => exec_registerWrite_of_unreached unreached ⟨fits, inDevice⟩,
    fun _ _ => lost _, fun _ _ => lost _, fun _ _ _ => lost _, fun _ => lost _, fun _ _ => lost _,
    fun _ => exec_msixVectorUnmask_of_unreached _ unreached,
    fun _ _ => lost _, fun _ _ => lost _, lost _, lost _, fun _ _ => lost _, fun _ _ => lost _, fun _ _ => lost _,
    fun _ => lost _, fun _ => lost _, fun _ _ => lost _, fun _ _ => lost _, fun _ => lost _, fun _ => lost _,
    fun _ _ => lost _, fun _ _ => lost _⟩

end Sys2Proof.Machine

namespace Sys2Proof.Machine

/-! ## Two writes of one table entry -/

theorem assocSet_assocSet {α : Type} (k : Nat) (v w : α) (l : List (Nat × α)) :
    assocSet k v (assocSet k w l) = assocSet k v l := by
  induction l with
  | nil => simp [assocSet]
  | cons c r ih =>
    obtain ⟨j, x⟩ := c
    rcases Nat.lt_trichotomy k j with below | same | above
    · simp [assocSet, below]
    · simp [assocSet, same]
    · simp [assocSet, Nat.not_lt.mpr above.le, above.ne', ih]

theorem Tab.modify_modify {α : Type} (d : α) (t : Tab α) (k : Nat) (f g : α → α) :
    (t.modify d k f).modify d k g = t.modify d k fun x => g (f x) := by
  rw [Tab.modify, Tab.get_modify_same]
  simp only [Tab.modify, Tab.set, assocSet_assocSet]

theorem State.modTq_modTq (s : State) (q : Nat) (f g : TideQ → TideQ) :
    (s.modTq q f).modTq q g = s.modTq q fun x => g (f x) := by
  simp only [State.modTq, Tab.modify_modify]

theorem State.modRing_modRing (s : State) (r : Nat) (f g : Ring → Ring) :
    (s.modRing r f).modRing r g = s.modRing r fun x => g (f x) := by
  simp only [State.modRing, Tab.modify_modify]

theorem State.modEngine_modEngine (s : State) (e : Nat) (f g : Engine → Engine) :
    (s.modEngine e f).modEngine e g = s.modEngine e fun x => g (f x) := by
  simp only [State.modEngine, Tab.modify_modify]

/-- An entry that is changed is set to what it then reads. -/
theorem State.modTq_eq_const (s : State) (q : Nat) (f : TideQ → TideQ) :
    s.modTq q f = s.modTq q fun _ => (s.modTq q f).tq q := by
  rw [State.tq_modTq]
  rfl

theorem State.modEngine_eq_const (s : State) (e : Nat) (f : Engine → Engine) :
    s.modEngine e f = s.modEngine e fun _ => (s.modEngine e f).engine e := by
  rw [State.engine_modEngine]
  rfl

/-! ## Position registers of a tide queue (R398, R399, R401, R402) -/

theorem Tells.tq {a b : State} (h : Tells a b) (q : Nat) : b.tq q = a.tq q := by
  rw [State.tq, h.tide, State.tq]

/-- That a register write is kept for R409 shows in no register. -/
theorem TideQ.note_fields (x : TideQ) (now kind v : Nat) :
    (x.note now kind v).wr = x.wr ∧ (x.note now kind v).rd = x.rd ∧ (x.note now kind v).cur = x.cur ∧
      (x.note now kind v).mark = x.mark ∧ (x.note now kind v).markSet = x.markSet ∧
      (x.note now kind v).posErr = x.posErr ∧ (x.note now kind v).packets = x.packets ∧
      (x.note now kind v).lostAt = x.lostAt ∧ (x.note now kind v).lostFrom = x.lostFrom := by
  unfold TideQ.note
  split <;> exact ⟨rfl, rfl, rfl, rfl, rfl, rfl, rfl, rfl, rfl⟩

/-- The level is judged without a change of what the position registers show (R410). -/
theorem State.tqLevel_face (s : State) (q : Nat) : TqFace ((s.tqLevel q).tq q) = TqFace (s.tq q) := by
  unfold State.tqLevel
  extract_lets x
  split_ifs
  · rfl
  · rw [State.tq_modTq]
    rfl
  · rw [(State.raiseOf_tells _ 96 ⟨5, 5⟩ q).tq, State.tq_modTq]
    rfl
  · rfl

theorem State.tqLevel_windows (s : State) (q : Nat) : (s.tqLevel q).windows = s.windows :=
  (State.tqLevel_keeps (ar := Area.telling [.tide]) (.of_all rfl) (Keeps.refl s)).same .windows (by decide)

/-- A write to one queue leaves the face that the write makes of it. -/
theorem facesOf_of_modTq {c : Instr} {s : State} {t : Nat} {q : Fin 64} {f g : TideQ → TideQ}
    (ran : exec c s = .next ((s.tick t).modTq q g)) (face : TqFace (g ((s.tick t).tq q)) = TqFace (f ((s.tick t).tq q))) :
    FacesOf c s t q f :=
  ⟨_, ran, State.modTq_eq_const _ _ _, by rwa [State.tq_modTq]⟩

section
variable {s : State} {q : Nat}

theorem State.tqGuard_of_zero (zero : q = 0) (f : State → State) : s.tqGuard q f = s := by
  simp [State.tqGuard, zero]

theorem State.tqGuard_of_owned (some_ : q ≠ 0) (up : s.tideUp = true) (owned : s.dmaOwned q = true) (f : State → State) :
    s.tqGuard q f = s.tqPosErr q := by
  simp [State.tqGuard, some_, up, owned]

theorem State.tqGuard_of_free (some_ : q ≠ 0) (up : s.tideUp = true) (free : s.dmaOwned q = false) (f : State → State) :
    s.tqGuard q f = f s := by
  simp [State.tqGuard, some_, up, free]

end


/-- A write that a queue of a ring refuses (R399). -/
theorem State.tqPosErr_faces {c : Instr} {s : State} {t : Nat} {q : Fin 64}
    (ran : exec c s = .next ((s.tick t).tqPosErr q)) : FacesOf c s t q fun x => { x with posErr := true } :=
  facesOf_of_modTq ran rfl

/-- What a write kept for R409 finds: the queue with the write noted. -/
theorem State.tqWrite_eq (s : State) (q kind v : Nat) :
    s.tqWrite q kind v = (s.modTq q fun x => x.note s.now kind v).tqPosition q kind v := rfl


section
variable {s : State} {q v : Nat}

theorem State.tqWrite_cur_of_within (within : posWithin (s.tq q).rd v (s.tq q).wr = true) :
    s.tqWrite q 0 v = (s.modTq q fun x => x.note s.now 0 v).modTq q fun x => { x with
      cur := v, markSet := x.markSet && decide (posDiff x.rd x.mark ≤ posDiff x.rd v) } := by
  simp [State.tqWrite, State.tqPosition, State.tqMoveCur, TideQ.note_fields, within]

theorem State.tqWrite_cur_of_outside (outside : posWithin (s.tq q).rd v (s.tq q).wr = false) :
    s.tqWrite q 0 v = (s.modTq q fun x => x.note s.now 0 v).tqPosErr q := by
  simp [State.tqWrite, State.tqPosition, State.tqMoveCur, TideQ.note_fields, outside]

theorem State.tqWrite_mark_of_within (within : posWithin (s.tq q).rd v (s.tq q).cur = true) :
    s.tqWrite q 1 v = (s.modTq q fun x => x.note s.now 1 v).modTq q fun x => { x with mark := v, markSet := true } := by
  simp [State.tqWrite, State.tqPosition, State.tqMoveMark, TideQ.note_fields, within]

theorem State.tqWrite_mark_of_outside (outside : posWithin (s.tq q).rd v (s.tq q).cur = false) :
    s.tqWrite q 1 v = (s.modTq q fun x => x.note s.now 1 v).tqPosErr q := by
  simp [State.tqWrite, State.tqPosition, State.tqMoveMark, TideQ.note_fields, outside]

theorem State.tqWrite_rewind_of_marked (marked : (s.tq q).markSet = true) :
    s.tqWrite q 3 0 = (s.modTq q fun x => x.note s.now 3 0).modTq q fun x => { x with cur := x.mark } := by
  simp [State.tqWrite, State.tqPosition, State.tqToMark, TideQ.note_fields, marked]

theorem State.tqWrite_rewind_of_unmarked (unmarked : (s.tq q).markSet = false) :
    s.tqWrite q 3 0 = (s.modTq q fun x => x.note s.now 3 0).tqPosErr q := by
  simp [State.tqWrite, State.tqPosition, State.tqToMark, TideQ.note_fields, unmarked]

/-- A release to a packet's start or to WR, within its bounds, and behind no overwrite of its instant (R401, R409). -/
theorem State.tqWrite_release_of_within (inTime : ¬((s.tq q).lostAt = some s.now ∧
      posWithin (s.tq q).lostFrom v (s.tq q).rd = true)) (within : posWithin (s.tq q).rd v (s.tq q).cur = true)
    (start : v = (s.tq q).wr ∨ ∃ p ∈ (s.tq q).packets, p.pos = v) :
    s.tqWrite q 2 v = (s.modTq q fun x => x.note s.now 2 v).tqReleaseTo q v := by
  simp [State.tqWrite, State.tqPosition, State.tqRelease, TideQ.note_fields, inTime, within, start]

theorem State.tqWrite_release_of_outside (inTime : ¬((s.tq q).lostAt = some s.now ∧
      posWithin (s.tq q).lostFrom v (s.tq q).rd = true))
    (outside : posWithin (s.tq q).rd v (s.tq q).cur = false ∨
      (v ≠ (s.tq q).wr ∧ ∀ p ∈ (s.tq q).packets, p.pos ≠ v)) :
    s.tqWrite q 2 v = (s.modTq q fun x => x.note s.now 2 v).tqPosErr q := by
  rcases outside with outside | ⟨beyond, between⟩
  · simp [State.tqWrite, State.tqPosition, State.tqRelease, TideQ.note_fields, inTime, outside]
  · simp [State.tqWrite, State.tqPosition, State.tqRelease, TideQ.note_fields, inTime, beyond]
    exact fun _ p member meets => absurd meets (between p member)

end

/-- A release moves RD, drops the packets before it, and clears a mark that it passes (R401). -/
theorem State.tqReleaseTo_face (s : State) (q p : Nat) : TqFace ((s.tqReleaseTo q p).tq q) =
    ((s.tq q).wr, p, (s.tq q).cur, (s.tq q).mark,
      (s.tq q).markSet && !decide (posDiff (s.tq q).rd (s.tq q).mark < posDiff (s.tq q).rd p), (s.tq q).posErr,
      (s.tq q).packets.filter fun k => decide (posDiff (s.tq q).rd p ≤ posDiff (s.tq q).rd k.pos)) := by
  rw [State.tqReleaseTo, State.tqLevel_face, State.tq_modTq]
  rfl

/-- A write that is kept for R409 and moves the queue by `g` leaves the face that `g` makes. -/
theorem facesOf_of_noted {c : Instr} {s : State} {t k v : Nat} {q : Fin 64} {f g : TideQ → TideQ}
    (ran : exec c s = .next (((s.tick t).modTq q fun x => x.note (s.tick t).now k v).modTq q g))
    (face : ∀ x : TideQ, TqFace (g (x.note (s.tick t).now k v)) = TqFace (f x)) : FacesOf c s t q f :=
  facesOf_of_modTq (ran.trans (congrArg Host.Outcome.next (State.modTq_modTq _ _ _ _))) (face _)

section
variable {s : State} {t : Nat} {q : Fin 64} (v : Word) (reach : (s.tick t).hostReach = true)
include reach

/-- The five position registers, each through the guard of R399 and R402. -/
theorem exec_position_guarded :
    exec (.tqCurWrite t q v) s = .next ((s.tick t).tqGuard q fun s => s.tqWrite q 0 v.toNat) ∧
    exec (.tqMarkWrite t q v) s = .next ((s.tick t).tqGuard q fun s => s.tqWrite q 1 v.toNat) ∧
    exec (.tqReleaseWrite t q v) s = .next ((s.tick t).tqGuard q fun s => (s.tqWrite q 2 v.toNat).tqLevel q) ∧
    exec (.tqClearMark t q) s = .next ((s.tick t).tqGuard q fun s => s.tqWrite q 4 0) ∧
    exec (.tqRewind t q) s = .next ((s.tick t).tqGuard q fun s => s.tqWrite q 3 0) :=
  have runs (f : State → State) : (.next (s.hostWrites t f) : Host.Outcome State Fault Refusal) = .next (f (s.tick t)) :=
    congrArg Host.Outcome.next (State.hostWrites_of_reach reach f)
  ⟨runs _, runs _, runs _, runs _, runs _⟩

end

/-- Settles O31: the guard refuses or passes the write, and the write's own bounds decide what it makes of the queue. -/
theorem tideQueueRegisters : Obligations.TideQueueRegisters := by
  unfold Obligations.TideQueueRegisters
  intro s t q v a x bad reach up
  obtain ⟨cur, mark, release, clear, rewind⟩ := exec_position_guarded (q := q) v reach
  refine ⟨fun zero => ?_, fun some_ owned => ?_, fun some_ free => ?_⟩
  · rw [State.tqGuard_of_zero zero] at cur mark release clear rewind
    exact ⟨cur, mark, release, clear, rewind⟩
  · rw [State.tqGuard_of_owned some_ up owned] at cur mark release clear rewind
    simpa using ⟨State.tqPosErr_faces cur, State.tqPosErr_faces mark, State.tqPosErr_faces release,
      State.tqPosErr_faces clear, State.tqPosErr_faces rewind⟩
  · rw [State.tqGuard_of_free some_ up free] at cur mark release clear rewind
    have refused (k w : Nat) (y : TideQ) : TqFace { y.note a.now k w with
        posErr := true, setAt := (y.note a.now k w).setAt.set 0 a.now } = TqFace (bad y) := by
      simp [TqFace, TideQ.note_fields, bad]
    refine ⟨fun within => ?_, fun outside => ?_, fun within => ?_, fun outside => ?_, ?_, fun marked => ?_,
      fun unmarked => ?_, fun inTime => ⟨fun within start => ?_, fun outside => ?_⟩⟩
    · rw [State.tqWrite_cur_of_within within] at cur
      exact facesOf_of_noted cur fun y => by simp [TqFace, TideQ.note_fields]
    · rw [State.tqWrite_cur_of_outside outside] at cur
      exact facesOf_of_noted cur (refused _ _)
    · rw [State.tqWrite_mark_of_within within] at mark
      exact facesOf_of_noted mark fun y => by simp [TqFace, TideQ.note_fields]
    · rw [State.tqWrite_mark_of_outside outside] at mark
      exact facesOf_of_noted mark (refused _ _)
    · exact facesOf_of_noted clear fun y => by simp [TqFace, TideQ.note_fields]
    · rw [State.tqWrite_rewind_of_marked marked] at rewind
      exact facesOf_of_noted rewind fun y => by simp [TqFace, TideQ.note_fields]
    · rw [State.tqWrite_rewind_of_unmarked unmarked] at rewind
      exact facesOf_of_noted rewind (refused _ _)
    · rw [State.tqWrite_release_of_within inTime within start] at release
      have face := (State.tqLevel_face _ q).trans
        (State.tqReleaseTo_face (a.modTq q fun x => x.note a.now 2 v.toNat) q v.toNat)
      simp only [State.tq_modTq, TideQ.note_fields, TqFace, Prod.mk.injEq] at face
      obtain ⟨wr, rd, cur, -, -, posErr, packets⟩ := face
      exact ⟨_, release, rd, cur, wr, posErr, packets,
        (State.tqLevel_windows _ q).trans (State.tqLevel_windows _ q)⟩
    · rw [State.tqWrite_release_of_outside inTime outside] at release
      refine ⟨_, release, ?_⟩
      rw [State.tqLevel_face, State.tqPosErr, State.modTq_modTq, State.tq_modTq]
      exact refused _ _ _

end Sys2Proof.Machine

namespace Sys2Proof.Machine

/-! ## Packets of a tide queue (R398, R404, R405, R409) -/

/-- WR of a queue and every other queue stand: what any write of the consumer leaves (R398). -/
structure WrStands (q : Nat) (s u : State) : Prop where
  /-- WR stands. -/
  wr : (u.tq q).wr = (s.tq q).wr
  /-- The other queues stand. -/
  others : ∀ k, k ≠ q → u.tq k = s.tq k

section
variable {q : Nat} {s u w : State}

theorem WrStands.refl (q : Nat) (s : State) : WrStands q s s := ⟨rfl, fun _ _ => rfl⟩

theorem WrStands.trans (h : WrStands q s u) (k : WrStands q u w) : WrStands q s w :=
  ⟨k.wr.trans h.wr, fun j other => (k.others j other).trans (h.others j other)⟩

theorem WrStands.modTq {f : TideQ → TideQ} (stands : ∀ x, (f x).wr = x.wr) : WrStands q s (s.modTq q f) :=
  ⟨by rw [State.tq_modTq, stands], fun _ other => State.tq_modTq_ne s other f⟩

theorem WrStands.of_tells (h : Tells s u) : WrStands q s u := ⟨by rw [h.tq], fun k _ => h.tq k⟩

theorem WrStands.tqLevel (q : Nat) (s : State) : WrStands q s (s.tqLevel q) := by
  unfold State.tqLevel
  extract_lets x
  split_ifs
  · exact .refl q s
  · exact .modTq fun _ => rfl
  · refine WrStands.trans ?_ (.of_tells (State.raiseOf_tells _ _ _ _))
    exact .modTq fun _ => rfl
  · exact .refl q s

theorem WrStands.tqPosErr (q : Nat) (s : State) : WrStands q s (s.tqPosErr q) := .modTq fun _ => rfl

theorem WrStands.tqRelease (q v : Nat) (s : State) : WrStands q s (s.tqRelease q v) := by
  unfold State.tqRelease
  extract_lets x
  split_ifs
  · exact .refl q s
  · refine WrStands.trans ?_ (.tqLevel q _)
    exact .modTq fun _ => rfl
  · exact .tqPosErr q s

theorem WrStands.tqMoveCur (q v : Nat) (s : State) : WrStands q s (s.tqMoveCur q v) := by
  unfold State.tqMoveCur
  split_ifs
  · exact .modTq fun _ => rfl
  · exact .tqPosErr q s

theorem WrStands.tqMoveMark (q v : Nat) (s : State) : WrStands q s (s.tqMoveMark q v) := by
  unfold State.tqMoveMark
  split_ifs
  · exact .modTq fun _ => rfl
  · exact .tqPosErr q s

theorem WrStands.tqToMark (q : Nat) (s : State) : WrStands q s (s.tqToMark q) := by
  unfold State.tqToMark
  split_ifs
  · exact .modTq fun _ => rfl
  · exact .tqPosErr q s

theorem WrStands.tqPosition (q kind v : Nat) (s : State) : WrStands q s (s.tqPosition q kind v) := by
  unfold State.tqPosition
  split_ifs
  · exact .tqMoveCur q v s
  · exact .tqMoveMark q v s
  · exact .tqRelease q v s
  · exact .tqToMark q s
  · exact .modTq fun _ => rfl

theorem WrStands.tqWrite (q kind v : Nat) (s : State) : WrStands q s (s.tqWrite q kind v) :=
  (WrStands.modTq fun x => (x.note_fields s.now kind v).1).trans (.tqPosition q kind v _)

theorem WrStands.tqRedo (q : Nat) (l : List (Nat × Nat)) (s : State) : WrStands q s (s.tqRedo q l) := by
  refine WrStands.trans ?_ (.tqLevel q _)
  induction l generalizing s with
  | nil => exact .refl q s
  | cons w r ih => exact (WrStands.tqWrite q w.1 w.2 s).trans (ih _)

end

theorem TideQ.unwritten_stands (x : TideQ) (now : Nat) :
    (x.unwritten now).wr = x.wr ∧ (x.unwritten now).opened = x.opened := by
  unfold TideQ.unwritten
  split <;> exact ⟨rfl, rfl⟩

/-- The queue behind a packet that takes its place at WR (R404). -/
def TideQ.append (x : TideQ) (key : Nat) (bytes : List Byte) : TideQ :=
  { x with
    opened := x.opened.filter fun o => o.key != key
    packets := x.packets ++ [{ pos := x.wr, bytes := bytes }]
    wr := posAdd x.wr (wordsOf bytes.length) }

section
variable {s : State} {q key : Nat} (bytes : List Byte)

/-- The open packet of a producer, before its counters. -/
theorem State.tqAppend_tells (isOpen : ∃ o ∈ (s.tq q).opened, o.key = key) :
    Tells (s.modTq q fun x => x.append key bytes) (s.tqAppend q key bytes) := by
  have found : (s.tq q).opened.any (fun o => o.key == key) = true := by simpa using isOpen
  rw [State.tqAppend, if_pos found]
  exact (State.count_tells _ _ _ _ _).trans (State.count_tells _ _ _ _ _)

/-- A commit moves WR past the packet, whatever writes of the consumer come again behind it (R404, R409). -/
theorem State.tqCommit_wr (isOpen : ∃ o ∈ (s.tq q).opened, o.key = key) :
    ((s.tqCommit q key bytes).tq q).wr = posAdd (s.tq q).wr (wordsOf bytes.length) ∧
      ∀ k, k ≠ q → (s.tqCommit q key bytes).tq k = s.tq k := by
  have stands := (s.tq q).unwritten_stands s.now
  have appended := State.tqAppend_tells (s := s.modTq q fun x => x.unwritten s.now) bytes
    (by rwa [State.tq_modTq, stands.2])
  have redone := WrStands.tqRedo q (s.tqLate q) ((s.modTq q fun x => x.unwritten s.now).tqAppend q key bytes)
  refine ⟨?_, fun k other => ?_⟩
  · rw [State.tqCommit, redone.wr, appended.tq, State.tq_modTq, State.tq_modTq, TideQ.append, stands.1]
  · rw [State.tqCommit, redone.others k other, appended.tq, State.tq_modTq_ne _ other, State.tq_modTq_ne _ other]

/-- With no write of the consumer at its instant a commit leaves what the packet makes of the queue. -/
theorem State.tqCommit_face (isOpen : ∃ o ∈ (s.tq q).opened, o.key = key) (quiet : (s.tq q).wroteAt ≠ some s.now) :
    TqFace ((s.tqCommit q key bytes).tq q) = TqFace ((s.tq q).append key bytes) := by
  have same : (s.tq q).unwritten s.now = s.tq q := if_neg quiet
  have late : s.tqLate q = [] := if_neg quiet
  have appended := State.tqAppend_tells (s := s.modTq q fun x => x.unwritten s.now) bytes
    (by rwa [State.tq_modTq, same])
  rw [State.tqCommit, late, State.tqRedo, List.foldl_nil, State.tqLevel_face, appended.tq, State.tq_modTq,
    State.tq_modTq, same]

theorem State.tqRewind_of_open (isOpen : ∃ o ∈ (s.tq q).opened, o.key = key) : s.tqRewind q key =
    (s.modTq q fun x => { x with opened := x.opened.filter fun o => o.key != key }).count 10 q ctrTqSpecRewound :=
  if_pos (by simpa using isOpen)

end

/-- Settles O32: the packet takes its place at WR, and the consumer's writes that come again leave WR. -/
theorem tidePacketsCommitOrRewind : Obligations.TidePacketsCommitOrRewind := by
  unfold Obligations.TidePacketsCommitOrRewind
  intro s q key bytes isOpen u
  obtain ⟨wr, others⟩ := State.tqCommit_wr bytes isOpen
  refine ⟨⟨wr, fun k other => others k fun same => other (Fin.ext same), fun quiet => ?_⟩, State.tqRewind_of_open isOpen⟩
  have face := State.tqCommit_face bytes isOpen quiet
  simp only [TqFace, Prod.mk.injEq] at face
  obtain ⟨-, rd, cur, mark, -, -, packets⟩ := face
  exact ⟨packets, rd, cur, mark⟩

end Sys2Proof.Machine

namespace Sys2Proof.Machine

/-! ## A report of low severity (R463, R468, R470) -/

section
variable {s : State} {n target : Nat} {spec : Bool}

theorem State.sevOf_modSrc {k : Nat} {f : Src → Src} (stands : ∀ x, (f x).sevSet = x.sevSet) :
    (s.modSrc k f).sevOf n = s.sevOf n := by
  have same : ((s.modSrc k f).src n).sevSet = (s.src n).sevSet := by
    by_cases own : n = k
    · subst own
      rw [State.src_modSrc, stands]
    · rw [State.src_modSrc_ne _ own]
  rw [State.sevOf, State.sevOf, same]

/-- A source at severity 1 or below takes no action when it enters fault. -/
theorem State.enterFault_keeps_of_minor (minor : s.sevOf n ≤ 1) :
    Keeps (Area.telling [.flt]) s (s.enterFault n target spec) := by
  unfold State.enterFault
  extract_lets x forced sev latch s1 s2 s3 s4 s5 s6 s7
  have quiet : sev ≤ 1 := by
    unfold sev
    split_ifs
    · exact Nat.zero_le 1
    · exact minor
  have k1 : Keeps (Area.telling [.flt]) s s1 := State.modSrc_keeps (.of_all rfl) (.refl s)
  have k2 : Keeps (Area.telling [.flt]) s s2 := keeps_ite (State.wireQuiet_keeps (.of_all rfl) k1) k1
  have k3 : Keeps (Area.telling [.flt]) s s3 := State.count_keeps (.of_all rfl) k2
  have k4 : Keeps (Area.telling [.flt]) s s4 := keeps_ite (State.count_keeps (.of_all rfl) k3) k3
  have k5 : Keeps (Area.telling [.flt]) s s5 := State.joinWindow_keeps (.of_all rfl) k4
  have k6 : Keeps (Area.telling [.flt]) s s6 := keeps_ite (State.raise_keeps (.of_all rfl) k5) k5
  have k7 : Keeps (Area.telling [.flt]) s s7 := keeps_ite (State.latchEvent_keeps (.of_all rfl) k6) k6
  rw [State.faultAction_of_sev_le_one _ _ quiet]
  exact keeps_ite (.refl s) k7

theorem State.reportOne_keeps_of_minor (minor : s.sevOf n ≤ 1) :
    Keeps (Area.telling [.flt]) s (s.reportOne n target spec) := by
  unfold State.reportOne
  extract_lets s1
  have k1 : Keeps (Area.telling [.flt]) s s1 := State.modSrc_keeps (.of_all rfl) (.refl s)
  have same : s1.sevOf n = s.sevOf n := State.sevOf_modSrc fun _ => rfl
  exact keeps_ite (k1.trans (State.enterFault_keeps_of_minor (same ▸ minor))) k1

/-- A report of something that is over at once, at severity 1 or below and with no bad entry to tell of. -/
theorem State.pulse_keeps_of_minor (minor : s.sevOf n ≤ 1) (untold : s.tbl.told = []) :
    Keeps (Area.telling [.tbl, .flt]) s (s.pulse n target spec) := by
  have reported := State.reportOne_keeps_of_minor (target := target) (spec := spec) minor
  have none : (s.reportOne n target spec).tbl.told = [] := (congrArg Tables.told (reported.same .tbl (by decide))).trans untold
  rw [State.pulse, State.report, State.toldFlush, none, State.each, List.foldl_nil]
  exact State.quieten_keeps (.of_all rfl) (State.modTbl_keeps (.of_all rfl) (reported.within (.of_all rfl)))

end

end Sys2Proof.Machine

namespace Sys2Proof.Machine

/-! ## Rings of the DMA engine (R64, R411, R413 to R419) -/

theorem Tells.ring {a b : State} (h : Tells a b) (r : Nat) : b.ring r = a.ring r := by
  rw [State.ring, h.tide, State.ring]

/-- What moves no tide queue and no ring moves this ring. -/
theorem Keeps.ring {l : List Area} {a b : State} (h : Keeps l a b) (untouched : Area.tide ∉ l) (r : Nat) :
    b.ring r = a.ring r := by
  rw [State.ring, h.same .tide untouched, State.ring]

theorem State.ringAnnounce_tells (s : State) (r : Nat) :
    Tells (s.modRing r fun x => { x with unannounced := 0 }) (s.ringAnnounce r) := State.raiseOf_tells _ _ _ _

theorem State.ringAnnounce_sets (s : State) (r : Nat) :
    (s.ringAnnounce r).host.evtStatus.getLsbD (if r < 32 then 99 else 100) = true :=
  State.raiseOf_sets _ _ _ (by split <;> decide)

/-- The ring behind an error (R419). -/
def Ring.failed (x : Ring) (now cause : Nat) : Ring :=
  { x with
    rstate := 3, error := true, setAt := x.setAt.set 3 now, errCause := cause, xferPos := none, xferBytes := 0
    xferUsed := 0, paused := none }

theorem State.ringFail_tells (s : State) (r cause : Nat) :
    Tells (s.modRing r fun x => x.failed s.now cause) (s.ringFail r cause) := State.raiseOf_tells _ _ _ _

theorem State.ringFail_ring (s : State) (r cause : Nat) :
    (s.ringFail r cause).ring r = (s.ring r).failed s.now cause := by
  rw [(s.ringFail_tells r cause).ring, State.ring_modRing]

theorem State.ringFail_sets (s : State) (r cause : Nat) : (s.ringFail r cause).host.evtStatus.getLsbD 102 = true :=
  State.raiseOf_sets _ _ _ (by decide)

/-- The one transfer of a ring that is over leaves the ring running. -/
theorem State.xferEnd_ring (s : State) (r : Nat) : (s.xferEnd r).ring r = { s.ring r with
    xferPos := none, xferBytes := 0, xferUsed := 0, paused := none
    rstate := if (s.ring r).rstate = 2 then 1 else (s.ring r).rstate } := State.ring_modRing _ _ _

theorem State.tqLevel_ring (s : State) (q r : Nat) : (s.tqLevel q).ring r = s.ring r := by
  unfold State.tqLevel
  extract_lets x
  split_ifs
  · rfl
  · rfl
  · exact (State.raiseOf_tells _ 96 ⟨5, 5⟩ q).ring r
  · rfl

theorem State.ringRelease_ring (s : State) (q : Nat) (p : TqPacket) (r : Nat) : (s.ringRelease q p).ring r = s.ring r :=
  State.tqLevel_ring _ q r

/-! ### `RING_TAIL` (R413, R416) -/

section
variable {s : State} {r v : Nat} (up : s.unitUp ⟨5, 6⟩ = true)
include up

theorem State.ringTail_of_beyond (beyond : (s.ring r).size ≤ v % 65536) : s.ringTail r v =
    s.modRing r fun x => { x with tailErr := true, setAt := x.setAt.set 5 s.now } := by
  simp [State.ringTail, up, beyond]

theorem State.ringTail_of_running (within : v % 65536 < (s.ring r).size) (running : (s.ring r).rstate ≠ 2) :
    s.ringTail r v = s.modRing r fun x => { x with tail := v % 65536 } := by
  simp [State.ringTail, up, Nat.not_le.mpr within, running]

/-- A paused ring goes on once the host has given it another descriptor. -/
theorem State.ringTail_of_paused (within : v % 65536 < (s.ring r).size) (paused : (s.ring r).rstate = 2)
    (given : (s.ring r).xferUsed < (v % 65536 + (s.ring r).size - (s.ring r).head) % (s.ring r).size) :
    s.ringTail r v = s.modRing r fun x => { x with tail := v % 65536, rstate := 1, paused := none } := by
  have some_ : (s.ring r).size ≠ 0 := by omega
  simp [State.ringTail, up, Nat.not_le.mpr within, paused, Ring.owned, some_, given, State.modRing_modRing]

end

/-! ### Descriptors (R414, R417) -/

section
variable {x : Ring} {d : List Byte} (owned : x.owned ≠ 0) (single : d.length = 16)
include owned single

/-- The descriptors of a read of one descriptor, of which the device owns some. -/
theorem Ring.take_chunks_of_single : (chunks d 16 (d.length / 16)).take x.owned = [d] := by
  obtain ⟨n, more⟩ := Nat.exists_eq_succ_of_ne_zero owned
  have full : d.take 16 = d := List.take_of_length_le single.le
  have some_ : d ≠ [] := by
    rintro rfl
    simp at single
  simp [single, chunks, more, full, some_]

theorem Ring.frameDescs_of_single : x.frameDescs d = [d] := by
  rw [Ring.frameDescs, Ring.take_chunks_of_single owned single]
  simp [untilLast]

end

/-! ### Receive transfers (R415) -/

theorem field_zero_length (bs : List Byte) : field bs 0 bs.length = bs := by
  simp [field, fitBytes]

theorem State.rxTransfer_of_none {s : State} {r : Nat} (descs : List Byte) (fail : Bool)
    (none_ : ∀ p ∈ (s.tq (s.ring r).queue).packets, p.pos ≠ (s.tq (s.ring r).queue).cur) :
    s.rxTransfer r descs fail = s := by
  have unfound : (s.tq (s.ring r).queue).packets.find? (fun p => p.pos == (s.tq (s.ring r).queue).cur) = none := by
    simpa using none_
  rw [State.rxTransfer, unfound]

/-- A packet that fits its one descriptor is written whole, before anything else of the transfer is sent. -/
theorem State.rxTransfer_sends {s : State} {r : Nat} {p : TqPacket} {d : List Byte}
    (found : ((s.tq (s.ring r).queue).packets.find? fun p => p.pos == (s.tq (s.ring r).queue).cur) = some p)
    (good : p.bad = []) (owned : (s.ring r).owned ≠ 0) (single : d.length = 16) (inOrder : rxDescOk d = true)
    (fits : p.bytes.length ≤ le d 8 2) (unused : (s.ring r).xferUsed = 0) (fresh : (s.ring r).xferBytes = 0) :
    Sent.dma (le d 0 8) p.bytes ∈ (s.rxTransfer r d false).sent := by
  have returned : s.rxTransfer r d false =
      (s.send (.dma (le d 0 8) p.bytes)).rxReturn r p [d] p.bytes.length := by
    simp [State.rxTransfer, found, good, Ring.take_chunks_of_single owned single, unused, fresh, State.rxFill, inOrder,
      fits, field_zero_length]
  have kept : Keeps Area.all (s.send (.dma (le d 0 8) p.bytes)) (s.rxTransfer r d false) :=
    returned ▸ State.rxReturn_keeps (Within.any _) (.refl _)
  exact kept.sent.subset (List.mem_cons_self ..)

end Sys2Proof.Machine

namespace Sys2Proof.Machine

/-! ### Transmit frames (R417, R418) -/

section
variable {s : State} {r : Nat} {d : List Byte} (inOrder : txDescOk d true = true) (whole : bit (le d 10 1) 1 = true)
include inOrder whole

theorem State.txRead_of_whole (data : List Byte) (par : List (Nat × Nat)) : s.txRead r [d] data false par =
    s.txFrame r 1 d (fitBytes (le d 8 2) data) (bit (le d 10 1) 2) par := by
  simp [State.txRead, inOrder, whole]

theorem State.txRead_of_failed (data : List Byte) (par : List (Nat × Nat)) : s.txRead r [d] data true par =
    ((s.count 10 (0x10000 + r) ctrTxTxReadErr).txStatus r 1 2).ringFail r 2 := by
  simp [State.txRead, inOrder, whole]

/-- A frame whose data cannot be read: its descriptor returns with the status 2, and the ring stops (R417, R419). -/
theorem State.txRead_of_failed_leaves (data : List Byte) (par : List (Nat × Nat)) :
    ((s.txRead r [d] data true par).ring r).rstate = 3 ∧ ((s.txRead r [d] data true par).ring r).errCause = 2 ∧
      ((s.txRead r [d] data true par).ring r).head = ((s.ring r).head + 1) % (s.ring r).size ∧
      Sent.dma ((s.ring r).descAddr 0 + 15) (leBytes 1 130) ∈ (s.txRead r [d] data true par).sent := by
  rw [State.txRead_of_failed inOrder whole, State.ringFail_ring, State.txStatus, State.ring_modRing]
  exact ⟨rfl, rfl, rfl, (State.ringFail_tells _ r 2).sent.subset (List.mem_cons_self ..)⟩

end

/-! ### The commands -/

section
variable {s : State} {t : Nat}

theorem exec_ringTailWrite_of_reach {r : Fin 48} (v : Word) (reach : (s.tick t).hostReach = true) :
    exec (.ringTailWrite t r v) s = .next ((s.tick t).ringTail r v.toNat) :=
  congrArg Host.Outcome.next (State.hostWrites_of_reach reach _)

theorem exec_rxEventTimer_of_due {r : Fin 48} (waits : ((s.tick t).ring r).unannounced ≠ 0)
    (timed : ((s.tick t).ring r).evtUs ≠ 0)
    (due : ((s.tick t).ring r).firstAt + ((s.tick t).ring r).evtUs * 1000 ≤ (s.tick t).now) :
    exec (.rxEventTimer t r) s = .next ((s.tick t).ringAnnounce r) :=
  congrArg Host.Outcome.next (if_neg (by simp [waits, timed, due, -State.tick_fields]))

/-- The packet of a ring that has starved is gone, and counted (R416). -/
def State.starveRelease (s : State) (r : Nat) (p : TqPacket) : State :=
  ((s.ringRelease (s.ring r).queue p).xferEnd r).count 10 (0x10000 + r) ctrRxRxStarveDrop

/-- A ring that has starved says so (R416). -/
def State.starveTell (s : State) (r : Nat) : State :=
  (s.modRing r fun x => { x with starveDrop := true, setAt := x.setAt.set 4 s.now }).raiseOf 101 ⟨5, 6⟩ r

/-- A paused ring whose packet is dropped runs on, with nothing held. -/
theorem State.starveTell_ring {s : State} {r : Nat} {p : TqPacket} (held : (s.ring r).rstate = 2) :
    (((s.starveRelease r p).starveTell r).ring r).starveDrop = true ∧
      (((s.starveRelease r p).starveTell r).ring r).rstate = 1 ∧
      (((s.starveRelease r p).starveTell r).ring r).paused = none := by
  rw [State.starveTell, (State.raiseOf_tells _ _ _ _).ring, State.ring_modRing, State.starveRelease,
    (State.count_tells _ _ _ _ _).ring, State.xferEnd_ring, State.ringRelease_ring, held]
  exact ⟨rfl, rfl, rfl⟩

theorem exec_rxStarveTimeout_of_due {r : Fin 32} {w : Nat} {p : TqPacket} (paused : ((s.tick t).ring r).paused = some w)
    (held : ((s.tick t).ring r).rstate = 2)
    (found : (((s.tick t).tq ((s.tick t).ring r).queue).packets.find? fun p =>
      some p.pos == ((s.tick t).ring r).xferPos) = some p)
    (due : w + ((s.tick t).ring r).starveUs * 1000 ≤ (s.tick t).now) :
    exec (.rxStarveTimeout t r) s = .next (((s.tick t).starveRelease r p).starveTell r) := by
  have waited : ¬(((s.tick t).ring r).rstate ≠ 2 ∨ (s.tick t).now < w + ((s.tick t).ring r).starveUs * 1000) := by
    rintro (runs | early)
    · exact runs held
    · exact Nat.not_lt.mpr due early
  rw [exec_rxStarveTimeout, execRxStarveTimeout]
  simp only [paused, found]
  exact congrArg Host.Outcome.next (if_neg (by simpa [-State.tick_fields] using waited))

/-- Advanced Error Reporting notes a completion timeout (R64, log entry 21). -/
def State.timeoutNoted (s : State) : State :=
  s.modHost fun h => { h with pcie := { h.pcie with uncStatus := h.pcie.uncStatus ||| 2 ^ 14 } }

theorem exec_pcieCompletionTimeout_of_descriptor {r : Fin 48} (descs : List Byte) (up : (s.tick t).dmaUp = true)
    (runs : ((s.tick t).ring r).rstate = 1) : exec (.pcieCompletionTimeout t r ⟨false, descs⟩) s =
      .next (((s.tick t).timeoutNoted.pulse 14 r).ringFail r 1) := by
  have goes : (!(s.tick t).dmaUp || !(((s.tick t).ring r).rstate == 1 || ((s.tick t).ring r).rstate == 2)) = false := by
    simp [up, runs]
  exact congrArg Host.Outcome.next ((if_neg (ne_true_of_eq_false goes)).trans (if_neg (by simp)))

theorem exec_pcieCompletionTimeout_of_data {r : Fin 48} (transmits : 32 ≤ r.val) (descs : List Byte)
    (up : (s.tick t).dmaUp = true) (runs : ((s.tick t).ring r).rstate = 1) :
    exec (.pcieCompletionTimeout t r ⟨true, descs⟩) s =
      .next (((s.tick t).timeoutNoted.pulse 14 r).txRead r (((s.tick t).ring r).frameDescs descs) [] true []) := by
  have goes : (!(s.tick t).dmaUp || !(((s.tick t).ring r).rstate == 1 || ((s.tick t).ring r).rstate == 2)) = false := by
    simp [up, runs]
  exact congrArg Host.Outcome.next ((if_neg (ne_true_of_eq_false goes)).trans (if_pos (by simp [transmits])))

theorem exec_dmaRxTransfer_of_running {r : Fin 32} (descs : List Byte) (fail : Bool) (up : (s.tick t).dmaUp = true)
    (runs : ((s.tick t).ring r).rstate = 1) :
    exec (.dmaRxTransfer t r descs fail) s = .next ((s.tick t).rxTransfer r descs fail) :=
  congrArg Host.Outcome.next (if_pos (by simp [up, runs]))

theorem exec_dmaTxFrame_of_running {r : Fin 16} (descs data : List Byte) (read : TxRead) (up : (s.tick t).dmaUp = true)
    (runs : ((s.tick t).ring (32 + r)).rstate = 1) (owned : ((s.tick t).ring (32 + r)).owned ≠ 0) :
    exec (.dmaTxFrame t r descs data read) s = .next ((s.tick t).txRead (32 + r)
      (((s.tick t).ring (32 + r)).frameDescs descs) data read.fail read.parity) :=
  congrArg Host.Outcome.next (if_pos (by simp [up, runs, owned]))

/-- A scrub that finds no uncorrectable word counts the corrected ones and leaves the queue, packet by packet (R411). -/
theorem exec_tideEccScrub_of_corrected {q : Fin 64} {n : Nat} (up : (s.tick t).tideUp = true) (some_ : 0 < n) :
    exec (.tideEccScrub t q n []) s = .next (((s.tick t).modTq q fun x => { x with
      packets := x.packets.map fun p => { p with bad := p.bad.dedup } }).count 10 q ctrTqTqEccCorrected n) := by
  simp [execTideEccScrub, up, State.tqEcc, some_.ne']

end

/-- Settles O33: each command by its guard, then by what its operation makes of the ring. -/
theorem ringsAndTheirTimers : Obligations.RingsAndTheirTimers := by
  unfold Obligations.RingsAndTheirTimers
  intro s t a
  refine ⟨fun r v reach up => ?_, fun r waits timed due => ?_, fun r w p paused held found due => ?_,
    fun r descs up runs => ?_, fun r d up runs owned minor untold single inOrder whole => ?_,
    fun r descs up runs => ?_, fun r descs data fail par up runs owned => ?_, fun q n up some_ => ?_⟩
  · rw [exec_ringTailWrite_of_reach v reach]
    exact ⟨fun beyond => congrArg _ (State.ringTail_of_beyond up beyond),
      fun within running => congrArg _ (State.ringTail_of_running up within running),
      fun within held given => congrArg _ (State.ringTail_of_paused up within held given)⟩
  · exact ⟨_, exec_rxEventTimer_of_due waits timed due, State.ringAnnounce_tells _ _, State.ringAnnounce_sets _ _⟩
  · obtain ⟨drop, state, free⟩ := State.starveTell_ring (p := p) held
    exact ⟨_, exec_rxStarveTimeout_of_due paused held found due, drop, state, free, State.raiseOf_sets _ _ _ (by decide)⟩
  · refine ⟨_, exec_pcieCompletionTimeout_of_descriptor descs up runs, ?_⟩
    rw [State.ringFail_ring]
    exact ⟨rfl, rfl, rfl, State.ringFail_sets _ _ _⟩
  · refine ⟨_, exec_pcieCompletionTimeout_of_data (r := ⟨32 + r, by omega⟩) (Nat.le_add_right 32 r) d up runs, ?_⟩
    have pulsed := State.pulse_keeps_of_minor (s := a.timeoutNoted) (n := 14) (target := 32 + r) (spec := false) minor untold
    have same := pulsed.ring (by decide) (32 + r)
    have failed := State.txRead_of_failed_leaves (s := a.timeoutNoted.pulse 14 (32 + r)) (r := 32 + r) inOrder whole [] []
    rw [same] at failed
    rw [Ring.frameDescs_of_single owned single]
    exact failed
  · refine ⟨exec_dmaRxTransfer_of_running descs false up runs, fun unfound => ?_,
      fun p d found good owned same single inOrder fits unused fresh => ?_⟩
    · rw [exec_dmaRxTransfer_of_running descs false up runs, State.rxTransfer_of_none descs false unfound]
    · subst same
      exact ⟨_, exec_dmaRxTransfer_of_running _ false up runs,
        State.rxTransfer_sends found good owned single inOrder fits unused fresh⟩
  · refine ⟨exec_dmaTxFrame_of_running descs data _ up runs owned, fun d same single inOrder whole noFail => ?_⟩
    subst same noFail
    rw [exec_dmaTxFrame_of_running _ data _ up runs owned, Ring.frameDescs_of_single owned single,
      State.txRead_of_whole inOrder whole]
  · refine ⟨_, exec_tideEccScrub_of_corrected up some_, Tab.get_modify_same _ _ _ _, ?_, ?_, ?_, rfl⟩ <;>
      rw [(State.count_tells _ _ _ _ _).tq, State.tq_modTq]

end Sys2Proof.Machine

namespace Sys2Proof.Machine

/-! ## Registers of an engine (R428, R430 to R436) -/

theorem Tells.engine {a b : State} (h : Tells a b) (e : Nat) : b.engine e = a.engine e := by
  rw [State.engine, h.sec, State.engine]

/-- An entry that is changed is set to what the change makes of it. -/
theorem State.modEngine_const (s : State) (e : Nat) (f : Engine → Engine) :
    s.modEngine e f = s.modEngine e fun _ => f (s.engine e) := rfl

theorem Engine.lock_of_hostHeld {x : Engine} (held : x.hostHeld = true) : x.lock ≠ 0 := by
  simp only [Engine.hostHeld, Bool.and_eq_true, decide_eq_true_eq] at held
  omega

/-- The engine behind the end of a job, before its counts (R434, R437). -/
def Engine.jobOver (x : Engine) (now jstate jerr : Nat) : Engine :=
  { x with jstate := jstate, jerr := jerr, done := true, setAt := x.setAt.set 4 now, lastUse := now }

theorem State.jobEnd_tells (s : State) (e jstate jerr : Nat) :
    Tells (s.modEngine e fun x => x.jobOver s.now jstate jerr) (s.jobEnd e jstate jerr) :=
  ((State.count_tells _ _ _ _ _).trans (State.count_tells _ _ _ _ _)).trans (State.count_tells _ _ _ _ _)

theorem State.jobEnd_engine (s : State) (e jstate jerr : Nat) :
    (s.jobEnd e jstate jerr).engine e = (s.engine e).jobOver s.now jstate jerr := by
  rw [(s.jobEnd_tells e jstate jerr).engine, State.engine_modEngine]

/-- The engine of a job that is not running, released (R430). -/
theorem State.engineRelease_of_idle {s : State} {e : Nat} (idle : (s.engine e).jstate ≠ 1) :
    s.engineRelease e = s.modEngine e fun x => { x.cleared with lock := 0 } := by
  rw [State.engineRelease, if_neg idle]

theorem State.engineRelease_lock (s : State) (e : Nat) : ((s.engineRelease e).engine e).lock = 0 := by
  rw [State.engineRelease, State.engine_modEngine]

section
variable {s : State} {e v : Nat} (up : s.unitUp ⟨4, e⟩ = true)
include up

/-! ### The lock (R428, R429, R430) -/

theorem State.ciphLock_of_free (free : (s.engine e).lock = 0) (low : 1 ≤ v % 256) (high : v % 256 ≤ 0x7F)
    (unwanted : s.engineNext e = none) : s.ciphLock e v = s.modEngine e fun x => { x with
      lastUse := s.now, lock := v % 256, jerr := 0, jstate := 0, tamperAbort := false, idleReleased := false
      regErr := false, parentRevoked := false, tagFail := false, done := false } := by
  have unwanted' : (s.modEngine e fun x => { x with lastUse := s.now }).engineNext e = none := unwanted
  simp [State.ciphLock, up, free, inRange, low, high, unwanted', State.modEngine_modEngine]

theorem State.ciphLock_of_release (held : (s.engine e).hostHeld = true) (release : v % 256 = 0)
    (idle : (s.engine e).jstate ≠ 1) :
    s.ciphLock e v = s.modEngine e fun x => { x.cleared with lastUse := s.now, lock := 0 } := by
  rw [State.ciphLock]
  simp only [up, Engine.lock_of_hostHeld held, held, release, Bool.not_true, Bool.false_eq_true, if_false, if_true]
  rw [State.engineRelease_of_idle (by rwa [State.engine_modEngine]), State.modEngine_modEngine]
  rfl

/-! ### `START` and `CANCEL` (R432, R433) -/

theorem State.ciphStart_of_busy (held : (s.engine e).hostHeld = true) (busy : (s.engine e).jstate = 1) :
    s.ciphStart e = s.modEngine e fun x => { x with
      lastUse := s.now, regErr := true, setAt := x.setAt.set 7 s.now } := by
  simp [State.ciphStart, up, held, busy, State.modEngine_modEngine]

/-- The engine of a job that starts with the key of its registers (R433). -/
def Engine.started (x : Engine) (now : Nat) : Engine :=
  { x with
    lastUse := now, aadIn := [], textIn := [], out := [], outAvail := 0, outRel := 0, tagOut := [], jerr := 0
    jobDecrypt := x.decrypt, jobUnverified := x.unverifiedOk, jobTagLen := x.tagLen, jobAad := x.aadLen
    jobText := x.textLen, revoked := false, jstate := 1
    key := wordBytes x.keyRegs (if x.key256 then 8 else 4), keySlot := none }

theorem State.ciphStart_of_keyRegs (held : (s.engine e).hostHeld = true) (idle : (s.engine e).jstate ≠ 1)
    (tag : inRange (s.engine e).tagLen 4 16 = true) (encrypts : (s.engine e).decrypt = false)
    (registers : (s.engine e).keySrc = false)
    (written : ((List.range (if (s.engine e).key256 then 8 else 4)).all fun i =>
      ((s.engine e).keyRegs.find i).isSome) = true) :
    s.ciphStart e = s.modEngine e fun x => x.started s.now := by
  rw [State.ciphStart]
  simp only [up, held, idle, tag, encrypts, registers, written, State.modEngine_modEngine, Bool.not_true, Bool.or_self,
    Bool.not_false, Bool.false_and, Bool.false_eq_true, if_false, if_true]
  rfl

theorem State.ciphCancel_of_busy (held : (s.engine e).hostHeld = true) (busy : (s.engine e).jstate = 1) :
    s.ciphCancel e = (s.jobEnd e 3 5).modEngine e fun x => { x with
      out := [], outAvail := x.outRel, key := [], keySlot := none } := by
  simp [State.ciphCancel, up, held, busy]

/-! ### Input and output (R434, R435) -/

theorem State.ciphIn_of_aad (held : (s.engine e).hostHeld = true) (busy : (s.engine e).jstate = 1)
    (open_ : (s.engine e).inputDone = false) (room : (s.engine e).inFree = 4096)
    (aad : (s.engine e).aadIn.length < (s.engine e).aadPadded) :
    s.ciphIn e v = s.modEngine e fun x => { x with lastUse := s.now, aadIn := x.aadIn ++ leBytes 4 v } := by
  simp [State.ciphIn, up, held, busy, open_, room, aad, State.modEngine_modEngine]

theorem State.ciphOutRel_of_within (held : (s.engine e).hostHeld = true) (low : (s.engine e).outRel ≤ v)
    (high : v ≤ (s.engine e).outAvail) :
    s.ciphOutRel e v = s.modEngine e fun x => { x with lastUse := s.now, outRel := v } := by
  simp [State.ciphOutRel, up, held, inRange, low, high, State.modEngine_modEngine]

end

/-- An engine that no host client holds takes no register write but that of its lock (R432). -/
theorem State.cipher_of_unheld {s : State} {e : Nat} (unheld : (s.engine e).hostHeld = false) (v : Nat) :
    s.ciphStart e = s ∧ s.ciphCancel e = s ∧ s.ciphIn e v = s ∧ s.ciphOutRel e v = s := by
  simp [State.ciphStart, State.ciphCancel, State.ciphIn, State.ciphOutRel, unheld]


/-! ### The end of a job (R434, R436, R440) -/

/-- What an encryption makes of the input of a job: its output and its tag (R434, R436). -/
def Engine.encryption (x : Engine) : List Byte × List Byte :=
  gcm x.key (wordBytes x.iv 3) (x.aadIn.take x.jobAad) x.textIn false

/-- The engine with the output and the tag of its job, before the job's end. -/
def Engine.withOutput (x : Engine) (r : List Byte × List Byte) (now : Nat) : Engine :=
  { x with
    out := r.1, outAvail := r.1.length, tagOut := if x.jobDecrypt then [] else r.2.take x.jobTagLen
    tagFail := x.tagFail || false, parentRevoked := x.parentRevoked || x.revoked
    setAt := ([] ++ (if x.revoked then [6] else [])).foldl (fun t k => t.set k now) x.setAt }

/-- The job of engine `e` has its output, `JSTATE` 2 and its counts. -/
def State.encrypted (s : State) (e : Nat) : State :=
  (s.modEngine e fun x => x.withOutput (s.engine e).encryption s.now).jobEnd e 2 0

/-- The encryption of engine `e` is over: its key is dropped, and a key revoked meanwhile is counted (R448). -/
def State.encryptionOver (s : State) (e : Nat) : State :=
  (if (s.engine e).revoked then (s.encrypted e).count 11 0x10000 ctrKeyParentRevokedResults
    else s.encrypted e).modEngine e fun x => { x with key := [], keySlot := none, revoked := false }

theorem State.ciphDone_of_encryption {s : State} {e : Nat} (busy : (s.engine e).jstate = 1)
    (complete : (s.engine e).inputDone = true) (encrypts : (s.engine e).jobDecrypt = false) :
    s.ciphDone e = (s.encryptionOver e).raiseOf 104 ⟨4, e⟩ (engDetail e (s.engine e).lock) := by
  have finished : ((s.engine e).jstate = 1 && (s.engine e).inputDone) = true := by simp [busy, complete]
  rw [State.ciphDone, if_pos finished, encrypts]
  rfl

theorem State.encryptionOver_engine (s : State) (e : Nat) : (s.encryptionOver e).engine e =
    { ((s.engine e).withOutput (s.engine e).encryption s.now).jobOver s.now 2 0 with
      key := [], keySlot := none, revoked := false } := by
  have ended : (s.encrypted e).engine e =
      ((s.engine e).withOutput (s.engine e).encryption s.now).jobOver s.now 2 0 := by
    rw [State.encrypted, State.jobEnd_engine, State.engine_modEngine]
    rfl
  rw [State.encryptionOver, State.engine_modEngine]
  split
  · rw [(State.count_tells _ _ _ _ _).engine, ended]
  · rw [ended]


/-! ### The commands -/

section
variable {s : State} {t : Nat} {e : Fin 8}

/-- The writes of an engine's registers act where the host reaches the device. -/
theorem exec_cipher_of_reach (v : Word) (reach : (s.tick t).hostReach = true) :
    exec (.ciphLockWrite t e v) s = .next ((s.tick t).ciphLock e v.toNat) ∧
    exec (.ciphStart t e) s = .next ((s.tick t).ciphStart e) ∧
    exec (.ciphCancel t e) s = .next ((s.tick t).ciphCancel e) ∧
    exec (.ciphInWrite t e v) s = .next ((s.tick t).ciphIn e v.toNat) ∧
    exec (.ciphOutRelWrite t e v) s = .next ((s.tick t).ciphOutRel e v.toNat) :=
  have runs (f : State → State) : (.next (s.hostWrites t f) : Host.Outcome State Fault Refusal) = .next (f (s.tick t)) :=
    congrArg Host.Outcome.next (State.hostWrites_of_reach reach f)
  ⟨runs _, runs _, runs _, runs _, runs _⟩

/-- The lock of engine `e` is released since it was not used (R431), before that is told. -/
def State.idleReleased (s : State) (e : Nat) : State :=
  ((s.engineRelease e).modEngine e fun x => { x with idleReleased := true, setAt := x.setAt.set 8 s.now }).count 11 e
    ctrCiphLockIdleReleases

theorem exec_lockIdleRelease_of_due (held : ((s.tick t).engine e).hostHeld = true)
    (due : ((s.tick t).engine e).lastUse + ((s.tick t).engine e).idleMs * 1000000 ≤ (s.tick t).now) :
    exec (.lockIdleRelease t e) s = .next (((s.tick t).idleReleased e).raiseOf 106 ⟨4, e⟩
      (engDetail e ((s.tick t).engine e).lock)) := by
  have idle : (s.tick t).lockIdle e = true := by simp [State.lockIdle, held, due, -State.tick_fields]
  exact congrArg Host.Outcome.next (if_pos idle)

theorem exec_internalEngineClaim_of_frame {w : Nat × Nat × Nat} (up : (s.tick t).unitUp ⟨4, e⟩ = true)
    (free : ((s.tick t).engine e).lock = 0) (next : (s.tick t).engineNext e = some w) (notCauseway : w.1 < 0x90)
    (frame : w.2.2 < 256) : exec (.internalEngineClaim t e) s =
      .next (((s.tick t).modSec fun z => { z with engWait := z.engWait.erase w }).claimFrame e w.2.2) := by
  simp [execInternalEngineClaim, up, free, next, Nat.not_le.mpr notCauseway, frame]

end

/-- Settles O34: each register write by its guard and the state of the job, a job's end and a release by their engine. -/
theorem engineRegisters : Obligations.EngineRegisters := by
  unfold Obligations.EngineRegisters
  intro s t e v a x up
  refine ⟨fun reach => ?_, fun busy complete encrypts => ?_, fun held due => ?_,
    fun w free next notCauseway frame => exec_internalEngineClaim_of_frame up free next notCauseway frame⟩
  · obtain ⟨lock, start, cancel, input, output⟩ := exec_cipher_of_reach (e := e) v reach
    refine ⟨fun free low high unwanted => ?_, fun held release idle => ?_, fun unheld => ?_, fun held busy => ⟨?_, ?_, ?_⟩,
      fun held low high => ?_, fun held idle tag encrypts registers written => ?_⟩
    · rw [State.ciphLock_of_free up free low high unwanted] at lock
      exact ⟨_, lock, State.modEngine_eq_const _ _ _, State.engine_modEngine _ _ _⟩
    · rw [State.ciphLock_of_release up held release idle] at lock
      refine ⟨_, lock, ?_, ?_, ?_, ?_, fun k other => State.engine_modEngine_ne _ (fun same => other (Fin.ext same)) _⟩ <;>
        rw [State.engine_modEngine] <;> rfl
    · obtain ⟨noStart, noCancel, noInput, noOutput⟩ := State.cipher_of_unheld unheld v.toNat
      rw [noStart] at start
      rw [noCancel] at cancel
      rw [noInput] at input
      rw [noOutput] at output
      exact ⟨start, cancel, input, output⟩
    · exact ⟨_, start, State.ciphStart_of_busy up held busy⟩
    · rw [State.ciphCancel_of_busy up held busy] at cancel
      refine ⟨_, cancel, ?_, ?_, ?_, ?_, ?_⟩ <;> rw [State.engine_modEngine, State.jobEnd_engine] <;> rfl
    · exact fun more room aad => ⟨_, input, State.ciphIn_of_aad up held busy more room aad⟩
    · exact ⟨_, output, State.ciphOutRel_of_within up held low high⟩
    · rw [State.ciphStart_of_keyRegs up held idle tag encrypts registers written] at start
      refine ⟨_, start, ?_, ?_, ?_, ?_, State.modEngine_eq_const _ _ _⟩ <;> rw [State.engine_modEngine] <;> rfl
  · have ended := State.ciphDone_of_encryption busy complete encrypts
    have told := (State.raiseOf_tells (a.encryptionOver e) 104 ⟨4, e⟩ (engDetail e x.lock)).engine e
    rw [State.encryptionOver_engine] at told
    refine ⟨_, congrArg Host.Outcome.next ended, ?_, ?_, ?_, ?_, ?_, State.raiseOf_sets _ _ _ (by decide)⟩ <;>
      rw [told] <;> rfl
  · refine ⟨_, exec_lockIdleRelease_of_due held due, ?_, ?_, State.raiseOf_sets _ _ _ (by decide)⟩ <;>
      rw [(State.raiseOf_tells _ _ _ _).engine, State.idleReleased, (State.count_tells _ _ _ _ _).engine,
        State.engine_modEngine]
    exact State.engineRelease_lock _ _

end Sys2Proof.Machine

namespace Sys2Proof.Machine

/-! ## Sources that enter fault and read quiet again (R438, R449, R463 to R468, R474, R475) -/

/-- The tamper monitors and the entropy source are sources of the collector, not reserved ones. -/
theorem not_special_of_reserved {n : Nat} (reserved : srcRow n = none) : inRange n 147 153 = false ∧ n ≠ 144 := by
  refine ⟨?_, ?_⟩
  · by_contra monitor
    obtain ⟨low, high⟩ : 147 ≤ n ∧ n ≤ 153 := by simpa [inRange] using monitor
    interval_cases n <;> exact absurd reserved (by decide)
  · rintro rfl
    exact absurd reserved (by decide)

theorem State.modSrc_congr {s : State} {n : Nat} {f g : Src → Src} (same : f (s.src n) = g (s.src n)) :
    s.modSrc n f = s.modSrc n g := by
  have set_ : s.flt.srcs.modify {} n f = s.flt.srcs.modify {} n g := congrArg (s.flt.srcs.set n) same
  rw [State.modSrc, State.modSrc, set_]

section
variable {s : State} {t : Nat} {n : Fin 256}

theorem exec_faultSourceQuiet_of_monitor (monitor : inRange n 147 153 = true) :
    exec (.faultSourceQuiet t n) s = .next ((s.tick t).tamperLeave (n - 147)) :=
  congrArg Host.Outcome.next (if_pos monitor)

theorem exec_faultSourceQuiet_of_other (noMonitor : inRange n 147 153 = false) (notEntropy : n.val ≠ 144) :
    exec (.faultSourceQuiet t n) s = .next (if (srcRow n).isSome then (s.tick t).quieten n else s.tick t) :=
  congrArg Host.Outcome.next ((if_neg (ne_true_of_eq_false noMonitor)).trans (if_neg notEntropy))

theorem exec_brokenPair_of_reserved (high : Bool) (reserved : srcRow n = none) :
    exec (.brokenPair t n high) s = .next (s.tick t) := by
  simp [execBrokenPair, reserved]

theorem exec_brokenPair_of_unforced (high : Bool) (known : (srcRow n).isSome = true)
    (unforced : ((s.tick t).src n).force = 0) : exec (.brokenPair t n high) s = .next (((s.tick t).modSrc n fun x => { x with
      pair := if high then 3 else 0, pairAt := (s.tick t).now }).breakPair n) := by
  have moved : ((s.tick t).modSrc n fun x => if x.force = 0 then { x with
      pair := if high then 3 else 0, pairAt := (s.tick t).now } else x) = (s.tick t).modSrc n fun x => { x with
        pair := if high then 3 else 0, pairAt := (s.tick t).now } := State.modSrc_congr (if_pos unforced)
  have known' : (srcRow n).isNone = false := by simpa using known
  rw [exec_brokenPair, execBrokenPair]
  simp only [known', Bool.false_eq_true, if_false, moved]
  refine congrArg Host.Outcome.next (if_pos ?_)
  cases high <;> simp [Src.reading, unforced]

theorem exec_brokenPairRestored_of_reserved (reserved : srcRow n = none) :
    exec (.brokenPairRestored t n) s = .next (s.tick t) := by
  simp [execBrokenPairRestored, reserved]

/-- The pair of a source reads quiet again (R464). -/
def State.pairRestored (s : State) (n : Nat) : State :=
  s.modSrc n fun x => { x with pair := 1, pairAt := s.now, st := if x.st == .broken then .quiet else x.st }

theorem exec_brokenPairRestored_of_unforced (known : (srcRow n).isSome = true) (unforced : ((s.tick t).src n).force = 0) :
    exec (.brokenPairRestored t n) s = .next (if wireSource n = n then (s.tick t).pairRestored n else
      (((s.tick t).pairRestored n).wireQuiet (wireSource n)).readAgain (wireSource n)) := by
  have known' : (srcRow n).isNone = false := by simpa using known
  rw [exec_brokenPairRestored, execBrokenPairRestored]
  simp only [known', unforced, ne_eq, not_true_eq_false, decide_false, Bool.or_self, Bool.false_eq_true, if_false]
  rfl

theorem exec_arbitrationWindowClose_of_open {w : Nat} (isOpen : (s.tick t).flt.windowOpen = some w) :
    exec (.arbitrationWindowClose t) s =
      .next (if w + 200 ≤ (s.tick t).now then (s.tick t).closeWindow else s.tick t) := by
  rw [exec_arbitrationWindowClose, execArbitrationWindowClose]
  simp only [isOpen]

theorem exec_quietPeriodEnd_of_quiet {q : Nat} (quiet : (s.tick t).quietSince n = some q)
    (alone : (s.tick t).faultMore n = false) : exec (.quietPeriodEnd t n) s =
      .next (if q + ((s.tick t).src n).quietMs * 1000000 ≤ (s.tick t).now then (s.tick t).recover n else s.tick t) := by
  rw [exec_quietPeriodEnd, execQuietPeriodEnd]
  simp only [quiet, alone, Bool.not_false, Bool.true_and, decide_eq_true_eq]

theorem exec_faultPersistLatch_of_due {r : Nat} (returned : ((s.tick t).src n).returnedAt = some r)
    (fault : ((s.tick t).src n).st = .fault) (reads : ((s.tick t).src n).reading = 2)
    (evaluated : (s.tick t).evaluated n = true) (due : r + 1000000000 ≤ (s.tick t).now) :
    exec (.faultPersistLatch t n) s = .next ((((s.tick t).modSrc n fun x => { x with
      st := .latched, quietFrom := none }).latchEvent n).faultAction n ((s.tick t).src n).entrySev true) := by
  rw [exec_faultPersistLatch, execFaultPersistLatch]
  simp only [returned, fault, reads, evaluated, due]
  rfl

end

/-- Settles O50: each row by the kind of its source and by its instant. -/
theorem faultSourcesEnterAndReturn : Obligations.FaultSourcesEnterAndReturn := by
  unfold Obligations.FaultSourcesEnterAndReturn
  intro s t a
  refine ⟨fun _ _ _ => rfl, fun _ => rfl, fun up => congrArg _ (if_pos up),
    fun down => congrArg _ (if_neg (ne_true_of_eq_false down)), rfl, fun n => exec_faultSourceQuiet_of_monitor,
    fun n noMonitor notEntropy known => ?_, fun n reserved => ⟨?_, fun high => exec_brokenPair_of_reserved high reserved,
      exec_brokenPairRestored_of_reserved reserved⟩,
    fun n high known unforced => exec_brokenPair_of_unforced high known unforced, fun n known unforced own => ?_,
    fun n known unforced other => ?_, fun w isOpen => ?_, fun n q quiet alone => ?_, fun n => ?_,
    fun n r => exec_faultPersistLatch_of_due⟩
  · rw [exec_faultSourceQuiet_of_other noMonitor notEntropy, if_pos known]
  · obtain ⟨noMonitor, notEntropy⟩ := not_special_of_reserved reserved
    rw [exec_faultSourceQuiet_of_other noMonitor notEntropy, reserved]
    rfl
  · rw [exec_brokenPairRestored_of_unforced known unforced, if_pos own]
    rfl
  · rw [exec_brokenPairRestored_of_unforced known unforced, if_neg other]
    rfl
  · rw [exec_arbitrationWindowClose_of_open isOpen]
    exact ⟨fun due => congrArg _ (if_pos due), fun early => congrArg _ (if_neg (Nat.not_le.mpr early))⟩
  · rw [exec_quietPeriodEnd_of_quiet quiet alone]
    exact ⟨fun due => congrArg _ (if_pos due), fun early => congrArg _ (if_neg (Nat.not_le.mpr early))⟩
  · exact ⟨fun isOpen => congrArg _ (if_pos isOpen), fun closed => congrArg _ (if_neg (ne_true_of_eq_false closed))⟩

end Sys2Proof.Machine

namespace Sys2Proof.Machine

/-! ## The lease and the token (R489 to R493, R502) -/

section
variable {s : State} {t : Nat}

theorem exec_leaseRenewal_of_due (holds : (s.tick t).twin.role.holder = true) (renewable : (s.tick t).renewable = true)
    (due : (s.tick t).twin.renewedAt + (s.tick t).twin.leaseUs * 250 ≤ (s.tick t).now) :
    exec (.leaseRenewal t) s = .next (s.tick t).renew :=
  congrArg Host.Outcome.next (if_pos (by simp [holds, renewable, due, -State.tick_fields]))

theorem exec_leaseRenewal_of_other (other : (s.tick t).twin.role.holder = false) :
    exec (.leaseRenewal t) s = .next (s.tick t).twinReview :=
  congrArg Host.Outcome.next (if_neg (by simp [other, -State.tick_fields]))

theorem exec_leaseLapse_of_due (runs : (s.tick t).leaseRuns = true) (active : (s.tick t).twin.role = .active)
    (alone : (s.tick t).handoverMore = false)
    (due : (s.tick t).twin.renewedAt + (s.tick t).twin.leaseUs * 1000 ≤ (s.tick t).now) :
    exec (.leaseLapse t) s = .next
      ((((s.tick t).count 13 0 ctrTwinLapses).setRole .frozen 1).completeOf 0x0D04 (fun _ => true) .denied) :=
  congrArg Host.Outcome.next (if_pos (by simp [runs, active, alone, due, -State.tick_fields]))

theorem exec_leaseLapse_of_other (other : (s.tick t).twin.role ≠ .active) : exec (.leaseLapse t) s = .next (s.tick t) :=
  congrArg Host.Outcome.next (if_neg (by simp [other, -State.tick_fields]))

theorem exec_leaseLapse_of_early (early : (s.tick t).now < (s.tick t).twin.renewedAt + (s.tick t).twin.leaseUs * 1000) :
    exec (.leaseLapse t) s = .next (s.tick t) :=
  congrArg Host.Outcome.next (if_neg (by simp [Nat.not_le.mpr early, -State.tick_fields]))

theorem exec_tokenClaim_of_may (runs : (s.tick t).leaseRuns = true) (may : (s.tick t).mayClaim = true) :
    exec (.tokenClaim t) s = .next ((s.tick t).claim 2) :=
  congrArg Host.Outcome.next (if_pos (by simp [runs, may]))

theorem exec_tokenClaim_of_not (not_ : (s.tick t).mayClaim = false) : exec (.tokenClaim t) s = .next (s.tick t) :=
  congrArg Host.Outcome.next (if_neg (by simp [not_]))

/-- The reading of `LEASE_IN` is another one (R493). -/
def State.leaseRead (s : State) (l : LeasePair) : State := s.modTwin fun w => { w with leaseIn := l, leaseInAt := s.now }

theorem exec_leaseInChange_of_same {l : LeasePair} (same : (s.tick t).twin.leaseIn = l) :
    exec (.leaseInChange t l) s = .next (s.tick t) := if_pos same

theorem exec_leaseInChange_of_change {l : LeasePair} (change : (s.tick t).twin.leaseIn ≠ l) :
    exec (.leaseInChange t l) s = .next (
      if (s.tick t).twin.role == .active && l == .held && (s.tick t).twin.sideB then ((s.tick t).leaseRead l).setRole .frozen 6
      else if (s.tick t).twin.handoverIn && l == .notHeld then ((s.tick t).leaseRead l).claim 3
      else ((s.tick t).leaseRead l).twinPaths.joinReview) := if_neg change

/-- Two holders: the device on side B gives way. -/
theorem exec_leaseInChange_of_contest (change : (s.tick t).twin.leaseIn ≠ .held) (active : (s.tick t).twin.role = .active)
    (side : (s.tick t).twin.sideB = true) :
    exec (.leaseInChange t .held) s = .next (((s.tick t).leaseRead .held).setRole .frozen 6) := by
  rw [exec_leaseInChange_of_change change]
  exact congrArg _ (if_pos (by simp [active, side, -State.tick_fields]))

theorem exec_leaseInChange_of_handover (change : (s.tick t).twin.leaseIn ≠ .notHeld)
    (other : (s.tick t).twin.role ≠ .active) (announced : (s.tick t).twin.handoverIn = true) :
    exec (.leaseInChange t .notHeld) s = .next (((s.tick t).leaseRead .notHeld).claim 3) := by
  rw [exec_leaseInChange_of_change change, if_neg (by simp [other, -State.tick_fields])]
  exact congrArg _ (if_pos (by simp [announced, -State.tick_fields]))

theorem exec_leaseInChange_of_standby {l : LeasePair} (change : (s.tick t).twin.leaseIn ≠ l)
    (standby : (s.tick t).twin.role = .standby) (unannounced : (s.tick t).twin.handoverIn = false) :
    exec (.leaseInChange t l) s = .next ((s.tick t).leaseRead l).twinPaths.joinReview := by
  rw [exec_leaseInChange_of_change change, if_neg (by simp [standby, -State.tick_fields])]
  exact congrArg _ (if_neg (by simp [unannounced, -State.tick_fields]))

theorem exec_handoverBusesIdle_of_due {h : Nat} (started : (s.tick t).twin.handover = some h)
    (active : (s.tick t).twin.role = .active) (due : (s.tick t).busesIdle = true ∨ h + 100000000 ≤ (s.tick t).now) :
    exec (.handoverBusesIdle t) s = .next (((((s.tick t).setRole .standby 3).send (.twin 4 [])).count 13 0
      ctrTwinHandovers).completeOf 0x0D04 (fun _ => true) .ok) :=
  congrArg Host.Outcome.next (if_pos (by simpa [State.handoverDue, started, active, -State.tick_fields] using due))

theorem exec_handoverBusesIdle_of_none (none_ : (s.tick t).twin.handover = none) :
    exec (.handoverBusesIdle t) s = .next (s.tick t) :=
  congrArg Host.Outcome.next (if_neg (by simp [State.handoverDue, none_, -State.tick_fields]))

theorem exec_twinHandoverReceived_of_standby (standby : (s.tick t).standby = true) : exec (.twinHandoverReceived t) s =
    .next (if (s.tick t).twin.leaseIn = .notHeld then (s.tick t).claim 3
      else (s.tick t).modTwin fun w => { w with handoverIn := true }) := by
  simp [execTwinHandoverReceived, standby, -State.tick_fields]

theorem exec_twinHandoverReceived_of_other (other : (s.tick t).standby = false) :
    exec (.twinHandoverReceived t) s = .next (s.tick t) := by
  simp [execTwinHandoverReceived, other]

end

/-- What a renewal moves: the lease timer and the sequence number, and an active device tells its partner (R489). -/
theorem State.renew_moves (s : State) :
    s.renew.twin = { s.twin with renewedAt := s.now, seq := s.twin.seq + 1 } ∧ s.renew.windows = s.windows ∧
      s.renew.buses = s.buses ∧ s.renew.host = s.host ∧
      (s.twin.role = .active → Sent.twin 1 (leBytes 4 (s.twin.seq + 1)) ∈ s.renew.sent) := by
  have moved : s.renew = if s.twin.role == .active then
      (((s.modTwin fun w => { w with renewedAt := s.now, seq := w.seq + 1 }).count 13 0 ctrTwinRenewals).send
        (.twin 1 (leBytes 4 (s.twin.seq + 1))))
    else (s.modTwin fun w => { w with renewedAt := s.now, seq := w.seq + 1 }).count 13 0 ctrTwinRenewals := rfl
  rw [moved]
  split
  · exact ⟨rfl, rfl, rfl, rfl, fun _ => List.mem_cons_self ..⟩
  · rename_i other
    exact ⟨rfl, rfl, rfl, rfl, fun active => absurd (beq_iff_eq.mpr active) other⟩

/-- Settles O53: each row by the role, the reading of `LEASE_IN` and the timer that its guard asks for. -/
theorem theLeaseMovesTheToken : Obligations.TheLeaseMovesTheToken := by
  unfold Obligations.TheLeaseMovesTheToken
  intro s t a w
  refine ⟨fun holds renewable due => ⟨_, exec_leaseRenewal_of_due holds renewable due, a.renew_moves⟩,
    exec_leaseRenewal_of_other, fun runs => congrArg _ (if_pos runs),
    fun stopped => congrArg _ (if_neg (ne_true_of_eq_false stopped)), exec_leaseLapse_of_due, exec_leaseLapse_of_other,
    exec_leaseLapse_of_early, exec_tokenClaim_of_may, exec_tokenClaim_of_not, fun l => exec_leaseInChange_of_same,
    exec_leaseInChange_of_contest, exec_leaseInChange_of_handover, fun l => exec_leaseInChange_of_standby,
    fun h => exec_handoverBusesIdle_of_due, exec_handoverBusesIdle_of_none, fun standby notHeld => ?_,
    fun standby held => ?_, exec_twinHandoverReceived_of_other⟩
  · rw [exec_twinHandoverReceived_of_standby standby]
    exact congrArg _ (if_pos notHeld)
  · rw [exec_twinHandoverReceived_of_standby standby]
    exact congrArg _ (if_neg held)

end Sys2Proof.Machine

namespace Sys2Proof.Machine

/-! ## Messages of the twin link (R488, R494, R496 to R501) -/

theorem State.modTwin_congr {s : State} {f g : Twin → Twin} (same : f s.twin = g s.twin) : s.modTwin f = s.modTwin g := by
  rw [State.modTwin, State.modTwin, same]

theorem State.standby_iff {s : State} : s.standby = true ↔ s.twin.role = .standby := beq_iff_eq

section
variable {s : State} {t : Nat} (body : List Byte)

theorem exec_twinRenewReceived_of_standby (standby : (s.tick t).standby = true) : exec (.twinRenewReceived t body) s =
    .next ((s.tick t).modTwin fun w => { w with claimFrom := some (s.tick t).now }) :=
  congrArg Host.Outcome.next (if_pos standby)

/-- A mirrored change is about to be taken: the lag of its path, up to 200 µs, is a free value (R496). -/
def State.mirrorTaken (s : State) : State :=
  ((s.drawBelow 201).2.modTwin fun w => { w with lag := max w.lag (s.drawBelow 201).1 }).count 13 0
    ctrTwinMirrorApplied

theorem exec_twinMirrorReceived_of_standby (standby : (s.tick t).twin.role = .standby)
    (current : (s.tick t).twin.stale = false) (mirrored : bit (s.tick t).twin.mirror (le body 0 1) = true) :
    exec (.twinMirrorReceived t body) s = .next ((s.tick t).mirrorTaken.takeMirror (le body 0 1) (body.drop 1)) :=
  if_neg (by simp [State.standby, standby, current, mirrored, -State.tick_fields])

theorem exec_twinResyncReceived_of_resyncing (resyncing : (s.tick t).twin.role = .resyncing) :
    exec (.twinResyncReceived t body) s = .next (((s.tick t).each (bulkParts body.length body) fun s p =>
      s.takeBulk p.1 p.2).modTwin fun w => { w with resyncDone := true, stale := false }) :=
  if_pos (by simp [resyncing, -State.tick_fields])

theorem exec_twinTsyncReceived_of_standby (standby : (s.tick t).standby = true)
    (mirrored : bit (s.tick t).twin.mirror 3 = true) (fromActive : le body 0 1 = 3) :
    exec (.twinTsyncReceived t body) s = .next ((s.tick t).takeTime body) :=
  congrArg Host.Outcome.next (if_pos (by simp [standby, mirrored, fromActive, -State.tick_fields]))

/-- A device in another role than standby leaves what a standby takes. -/
theorem exec_twin_of_other (other : (s.tick t).standby = false) :
    exec (.twinRenewReceived t body) s = .next (s.tick t) ∧ exec (.twinTsyncReceived t body) s = .next (s.tick t) ∧
      (∀ b, exec (.shadowTimeout t b) s = .next (s.tick t)) ∧ ∀ p, exec (.bistSlice t p) s = .next (s.tick t) := by
  simp [execTwinRenewReceived, execTwinTsyncReceived, execShadowTimeout, execBistSlice, other]

/-- One that does not resynchronise either leaves mirrored changes, bulk state and reports. -/
theorem exec_twin_of_neither (other : (s.tick t).standby = false) (settled : (s.tick t).twin.role ≠ .resyncing) :
    exec (.twinMirrorReceived t body) s = .next (s.tick t) ∧ exec (.twinResyncReceived t body) s = .next (s.tick t) ∧
      exec (.twinHealthSend t) s = .next (s.tick t) := by
  simp [execTwinMirrorReceived, execTwinResyncReceived, execTwinHealthSend, other, settled, -State.tick_fields]

theorem exec_twinTsyncSend_of_linked (paired : (s.tick t).twin.role.paired = true) (linkUp : (s.tick t).twin.linkUp = true)
    (up : (s.tick t).unitUp ⟨0, 41⟩ = true) :
    exec (.twinTsyncSend t) s = .next ((s.tick t).send (.twin 6 (s.tick t).tsyncBody)) :=
  congrArg Host.Outcome.next (if_pos (by simp [paired, linkUp, up, -State.tick_fields]))

theorem exec_twinHelloSend_of_paired (paired : (s.tick t).twinReview.twin.role.paired = true)
    (up : (s.tick t).twinReview.unitUp ⟨0, 41⟩ = true) : exec (.twinHelloSend t) s =
      .next ((s.tick t).twinReview.send (.twin 0 (s.tick t).twinReview.twinHello)) :=
  congrArg Host.Outcome.next (if_pos (by simp [paired, up]))

theorem exec_twinHello_of_unpaired (unpaired : (s.tick t).twin.role.paired = false) :
    exec (.twinHelloReceived t body) s = .next (s.tick t) ∧ exec (.twinTsyncSend t) s = .next (s.tick t) := by
  simp [execTwinHelloReceived, execTwinTsyncSend, unpaired, -State.tick_fields]

/-- The settings of a greeting agree with this device's, and its side is the other one (R488). -/
def Twin.agrees (w : Twin) (body : List Byte) : Bool :=
  le body 2 4 == w.leaseUs && le body 6 2 == w.guardUs && le body 8 1 == w.mirror && le body 1 1 != flag w.sideB

theorem Twin.agrees_eq (w : Twin) : w.agrees body = decide (le body 2 4 = w.leaseUs ∧ le body 6 2 = w.guardUs ∧
    le body 8 1 = w.mirror ∧ le body 1 1 ≠ flag w.sideB) := by
  rw [Bool.eq_iff_iff]
  simp [Twin.agrees, and_assoc]

/-- A standby on a live link that hears no wish for bulk state notes the greeting (R488, R494). -/
theorem exec_twinHelloReceived_of_standby (standby : (s.tick t).twin.role = .standby) (up : (s.tick t).unitUp ⟨0, 41⟩ = true)
    (noWish : bit (le body 9 1) 1 = false) (linkUp : (s.tick t).twin.linkUp = true) :
    exec (.twinHelloReceived t body) s = .next ((s.tick t).modTwin fun w => { w with
      linkUp := true, partner := some (roleOf (le body 0 1)), partnerOk := (s.tick t).twin.agrees body
      partnerConsent := bit (le body 9 1) 0, resyncSent := false
      copied := w.copied && (le body 0 1 == 2 || le body 0 1 == 5) }).joinReview := by
  have notActive : (Role.standby == .active) = false := rfl
  have notJoining : (Role.standby == .joining) = false := rfl
  have paired : Role.standby.paired = true := rfl
  simp only [exec_twinHelloReceived, execTwinHelloReceived, standby, paired, up, noWish, linkUp, notActive, notJoining,
    Bool.not_true, Bool.or_self, Bool.false_and, Bool.and_false, Bool.false_eq_true, if_false, if_true, Twin.agrees]

/-- The link to the partner is lost (R493). -/
def State.partnerLost (s : State) : State := s.modTwin fun w => { w with linkUp := false, resyncSent := false, copied := false }

theorem exec_twinLinkDown_of_resyncing (resyncing : (s.tick t).twin.role = .resyncing) :
    exec (.twinLinkDown t) s = .next ((s.tick t).partnerLost.setRole .joining 4) :=
  congrArg Host.Outcome.next (if_pos (beq_iff_eq.mpr resyncing))

theorem exec_twinLinkDown_of_down (settled : (s.tick t).twin.role ≠ .resyncing) (down : (s.tick t).twin.linkUp = false) :
    exec (.twinLinkDown t) s = .next (s.tick t).partnerLost :=
  congrArg Host.Outcome.next ((if_neg fun resyncing => settled (beq_iff_eq.mp resyncing)).trans (if_pos (by simp [down, -State.tick_fields])))

theorem exec_twinHealth_of_other (other : (s.tick t).twin.role ≠ .active) :
    exec (.twinHealthReceived t body) s = .next (s.tick t) ∧ exec (.healthReportTimeout t) s = .next (s.tick t) := by
  simp [execTwinHealthReceived, execHealthReportTimeout, other, -State.tick_fields]

/-- The first report of a partner, with no worst controller in it. -/
theorem exec_twinHealthReceived_of_first (active : (s.tick t).twin.role = .active) (first : (s.tick t).twin.reportAt = none)
    (noWorst : bit (healthOf body).flags 3 = false) : exec (.twinHealthReceived t body) s = .next (((s.tick t).modTwin
      fun w => { w with reportAt := some (s.tick t).now, reportMissed := false }).takeReport (healthOf body)) := by
  rw [exec_twinHealthReceived, execTwinHealthReceived, if_neg (by simp [active, -State.tick_fields])]
  simp only [first, noWorst, Bool.false_eq_true, if_false]

/-- What a report that does not come raises. -/
def State.reportFlags (s : State) : Nat :=
  match s.twin.report with
  | some h => h.flags
  | none => 0

theorem exec_healthReportTimeout_of_due (active : (s.tick t).twin.role = .active)
    (fresh : (s.tick t).twin.reportMissed = false)
    (due : max (s.tick t).twin.roleAt ((s.tick t).twin.reportAt.getD 0) + 300000000 ≤ (s.tick t).now) :
    exec (.healthReportTimeout t) s = .next (((s.tick t).modTwin fun w => { w with reportMissed := true }).raise 115 0xFF
      noUnit (s.tick t).reportFlags) :=
  congrArg Host.Outcome.next (if_pos (by simp [active, fresh, due, -State.tick_fields]))

/-- A BIST slice is counted (R500). -/
def State.sliceDone (s : State) : State :=
  (s.modTwin fun w => { w with slices := w.slices + 1 }).count 13 0 ctrTwinBistSlices

/-- A failed slice is counted besides. -/
def State.sliceFailed (s : State) : State :=
  (s.sliceDone.modTwin fun w => { w with bistFails := min 0xFFFF (w.bistFails + 1) }).count 13 0 ctrTwinBistFails

theorem exec_bistSlice_of_pass (standby : (s.tick t).standby = true) :
    exec (.bistSlice t true) s = .next (s.tick t).sliceDone := by
  simp [execBistSlice, standby, State.sliceDone]

/-- The source of the memory or unit that a failed slice tested, and the state behind the choice (log entry 3). -/
def State.sliceSource (s : State) : Nat × State :=
  (bistSources.getD (s.drawBelow bistSources.length).1 96, (s.drawBelow bistSources.length).2)

/-- A unit of a source's island, a free value, and the state behind the choice. -/
def State.sliceUnit (s : State) (n : Nat) : Nat × State := s.drawBelow (unitCount (srcIsland n))

theorem exec_bistSlice_of_fail (standby : (s.tick t).standby = true) : exec (.bistSlice t false) s =
    .next (((s.tick t).sliceFailed.sliceSource.2.sliceUnit (s.tick t).sliceFailed.sliceSource.1).2.report
      (s.tick t).sliceFailed.sliceSource.1 (srcIsland (s.tick t).sliceFailed.sliceSource.1 * 64 +
        ((s.tick t).sliceFailed.sliceSource.2.sliceUnit (s.tick t).sliceFailed.sliceSource.1).1)) :=
  if_neg (by simp [standby])

/-- The report of a standby is sent, and what it covers starts anew (R500). -/
def State.reportSent (s : State) : State :=
  ((s.send (.twin 3 (s.healthNow.bytes ++ leBytes 1 s.twin.worstBus))).count 13 0 ctrTwinReportsSent).modTwin fun w =>
    { w with
      repSeq := (w.repSeq + 1) % 65536, slices := 0, matched := 0, extra := 0, missing := 0, lag := 0, perBus := {}
      mismatchFlag := false }

theorem exec_twinHealthSend_of_standby (standby : (s.tick t).twin.role = .standby) :
    exec (.twinHealthSend t) s = .next ((s.tick t).reportSent.takeReport (s.tick t).healthNow) := by
  have settled : (Role.standby == .resyncing) = false := rfl
  simp only [exec_twinHealthSend, execTwinHealthSend, standby, settled, State.standby, Bool.false_and, Bool.false_eq_true,
    if_false, beq_self_eq_true, Bool.not_true]
  rfl

theorem exec_shadowTimeout_of_empty {b : Fin 32} (standby : (s.tick t).standby = true)
    (noBuffer : ((s.tick t).bus b).tx.held3 = []) (noDeep : ((s.tick t).bus b).tx.deep = []) :
    exec (.shadowTimeout t b) s = .next ((s.tick t).refill b) := by
  rw [exec_shadowTimeout, execShadowTimeout, if_neg (by simp [standby])]
  simp only [noBuffer, noDeep]
  rfl

end

/-- Settles O54: each message by the role that takes it. -/
theorem twinMessagesReachTheirRole : Obligations.TwinMessagesReachTheirRole := by
  unfold Obligations.TwinMessagesReachTheirRole
  intro s t body a w
  refine ⟨exec_twinRenewReceived_of_standby body, fun standby current mirrored => ?_,
    exec_twinResyncReceived_of_resyncing body, exec_twinTsyncReceived_of_standby body, fun other => ?_,
    exec_twinTsyncSend_of_linked, exec_twinHelloSend_of_paired, exec_twinHello_of_unpaired body,
    fun standby up noWish linkUp => ?_, exec_twinLinkDown_of_resyncing, exec_twinLinkDown_of_down,
    exec_twinHealth_of_other body, fun active first _ => exec_twinHealthReceived_of_first body active first,
    fun active fresh due => ?_, fun standby => ⟨?_, ?_⟩, fun standby => ?_, fun b => exec_shadowTimeout_of_empty⟩
  · exact ⟨_, _, exec_twinMirrorReceived_of_standby body standby current mirrored,
      Nat.le_of_lt_succ (a.drawBelow_lt (n := 201) (by decide)), rfl, rfl, rfl, rfl, rfl⟩
  · obtain ⟨renew, tsync, shadow, slice⟩ := exec_twin_of_other body other
    exact ⟨renew, tsync, shadow, slice, exec_twin_of_neither body other⟩
  · rw [exec_twinHelloReceived_of_standby body standby up noWish linkUp, Twin.agrees_eq]
    rfl
  · exact ⟨_, exec_healthReportTimeout_of_due active fresh due, State.raise_tells _ _ _ _ _,
      State.raise_sets _ _ _ _ (by decide)⟩
  · exact ⟨_, exec_bistSlice_of_pass standby, rfl, rfl, rfl⟩
  · exact ⟨_, _, _, exec_bistSlice_of_fail standby, rfl⟩
  · exact ⟨_, exec_twinHealthSend_of_standby standby, List.mem_cons_self .., rfl, rfl, standby⟩

end Sys2Proof.Machine

namespace Sys2Proof.Machine

/-! ## What a port knows of its neighbour

Below a lost neighbour, a hold window and a settled chain map, every operation on ports leaves who the neighbour is. -/

/-- The neighbour of every port is up as it was in `z`. -/
def NeighboursStand (z a : State) : Prop := ∀ q, (a.port q).cw.nbUp = (z.port q).cw.nbUp

theorem Keeps.nbUp {a b : State} (k : Keeps offPorts a b) (q : Nat) : (b.port q).cw.nbUp = (a.port q).cw.nbUp := by
  have same : b.port q = _ := k.same .eth (by decide) q
  rw [same]

section
variable {z a b : State}

theorem NeighboursStand.refl : NeighboursStand z z := fun _ => rfl

theorem NeighboursStand.off (h : NeighboursStand z a) (k : Keeps offPorts a b) : NeighboursStand z b :=
  fun q => (k.nbUp q).trans (h q)

theorem NeighboursStand.port {p : Nat} {f : Eth → Eth} (h : NeighboursStand z a)
    (e : ∀ x, (f x).cw.nbUp = x.cw.nbUp := by intro; rfl) : NeighboursStand z (a.modPort p f) :=
  fun q => (State.port_modPort_field (fun x => x.cw.nbUp) a p q e).trans (h q)

theorem NeighboursStand.ite {c : Prop} [Decidable c] (h : NeighboursStand z a) (k : NeighboursStand z b) :
    NeighboursStand z (if c then a else b) := by
  split <;> assumption

theorem NeighboursStand.each {α : Type} {f : State → α → State} {l : List α} (h : NeighboursStand z a)
    (k : ∀ u x, NeighboursStand z u → NeighboursStand z (f u x)) : NeighboursStand z (l.foldl f a) :=
  List.foldlRecOn (motive := NeighboursStand z) _ _ h fun u hu x _ => k u x hu

theorem NeighboursStand.told (h : NeighboursStand z a) (k : Tells a b) : NeighboursStand z b :=
  fun q => by rw [k.port q, h q]

theorem NeighboursStand.count {g f i n : Nat} (h : NeighboursStand z a) : NeighboursStand z (a.count g f i n) :=
  h.told (a.count_tells g f i n)

theorem NeighboursStand.raiseOf {ev d : Nat} {u : UnitId} (h : NeighboursStand z a) : NeighboursStand z (a.raiseOf ev u d) :=
  h.told (a.raiseOf_tells ev u d)

theorem NeighboursStand.creditRun {p t : Nat} (h : NeighboursStand z a) : NeighboursStand z (a.creditRun p t) := by
  unfold State.creditRun
  exact h.port

theorem NeighboursStand.pauseSend {p : Nat} (h : NeighboursStand z a) : NeighboursStand z (a.pauseSend p) := by
  unfold State.pauseSend
  extract_lets x
  split
  · exact h
  · rename_i q _
    refine h.port.ite (h.ite ?_)
    extract_lets sent f counted out
    have stands : NeighboursStand z out := ((NeighboursStand.port h).told (State.send_tells sent _)).count.count.count
    exact stands.raiseOf.ite stands

theorem NeighboursStand.pauseJudge {p : Nat} (h : NeighboursStand z a) : NeighboursStand z (a.pauseJudge p) := by
  unfold State.pauseJudge
  exact h.port.pauseSend.ite (h.port.pauseSend.ite h)

theorem NeighboursStand.setCells {f n : Nat} (h : NeighboursStand z a) : NeighboursStand z (a.setCells f n) := by
  unfold State.setCells
  extract_lets x charged pooled judged
  have stands : NeighboursStand z judged := h.off (State.poolJudge_keeps (offPorts_within rfl) (State.modPool_keeps
    (offPorts_within rfl) (State.modFrame_keeps (offPorts_within rfl) (.refl a))))
  exact stands.pauseJudge.ite stands

theorem NeighboursStand.releaseRef {f : Nat} (h : NeighboursStand z a) : NeighboursStand z (a.releaseRef f) := by
  unfold State.releaseRef
  extract_lets x released
  have stands : NeighboursStand z released := h.off (State.modFrame_keeps (offPorts_within rfl) (.refl a))
  exact (stands.setCells.off (State.retire_keeps (offPorts_within rfl) (.refl _))).ite stands

theorem NeighboursStand.flushPort {p : Nat} (h : NeighboursStand z a) : NeighboursStand z (a.flushPort p).1 := by
  unfold State.flushPort
  exact List.foldlRecOn (motive := fun u : State × Nat => NeighboursStand z u.1) _ _ h fun _ hu _ _ =>
    hu.port.each fun _ _ hv => (hv.off (State.countAt_keeps (offPorts_within rfl) (.refl _))).releaseRef

theorem NeighboursStand.portFlush {p : Nat} (h : NeighboursStand z a) : NeighboursStand z (a.portFlush p) := by
  have stands : NeighboursStand z (a.flushPort p).1 := h.flushPort
  unfold State.portFlush
  generalize a.flushPort p = flushed at stands ⊢
  exact stands.port.count.raiseOf

theorem NeighboursStand.holdEnter {p : Nat} (h : NeighboursStand z a) : NeighboursStand z (a.holdEnter p) := by
  unfold State.holdEnter
  exact h.creditRun.count.portFlush.ite h.creditRun.count.port

theorem NeighboursStand.holdLeave {p : Nat} (h : NeighboursStand z a) : NeighboursStand z (a.holdLeave p) := by
  unfold State.holdLeave
  exact h.creditRun.port.count.ite h.creditRun.port

theorem NeighboursStand.l2Flush {p v : Option Nat} (h : NeighboursStand z a) : NeighboursStand z (a.l2Flush p v).1 := by
  unfold State.l2Flush
  extract_lets hit n emptied judged
  have stands : NeighboursStand z emptied := h.off (State.modTbl_keeps (offPorts_within rfl) (.refl a))
  have stands : NeighboursStand z judged := stands.each fun u q hu => by
    unfold State.l2Limit
    exact hu.port.raiseOf.ite hu.port
  exact stands.ite stands.count

theorem NeighboursStand.encJudge {p : Nat} (h : NeighboursStand z a) : NeighboursStand z (a.encJudge p) := by
  unfold State.encJudge
  extract_lets x wait judged told
  have stands : NeighboursStand z told := (NeighboursStand.raiseOf h.port).ite h.port
  exact h.ite (stands.ite (stands.holdEnter.ite stands.holdLeave))

theorem NeighboursStand.chainSettle {old : List (Nat × Nat × Nat)} (h : NeighboursStand z a) :
    NeighboursStand z (a.chainSettle old) := by
  unfold State.chainSettle
  extract_lets brk ring master moved changed settled flushed
  have stands : NeighboursStand z settled := h.off (State.modCw_keeps (offPorts_within rfl) (.refl a))
  have stands : NeighboursStand z flushed := (stands.each fun _ _ hu => hu.l2Flush).ite stands
  exact (stands.told (State.raise_tells _ _ _ _ _)).ite stands

end

/-- A lost neighbour is down (R520). -/
theorem State.nbLost_nbUp {s : State} {p : Nat} (up : (s.port p).cw.nbUp = true) : ((s.nbLost p).port p).cw.nbUp = false := by
  rw [State.nbLost, if_neg (by simp [up])]
  extract_lets old lost
  have told : NeighboursStand lost (lost.cwLinkEvent p 1) := NeighboursStand.refl.raiseOf
  rw [told.encJudge.chainSettle.off (State.topologySend_keeps (offPorts_within rfl) (.refl _)) p]
  exact congrArg (fun x : Eth => x.cw.nbUp) (State.port_modPort ..)

/-! ## Engines of an encrypting port (R429, R525, R526) -/

/-- An engine that an internal client finds is free (R429). -/
theorem State.lock_of_engineHigh {s : State} {mask e : Nat} (found : s.engineHigh mask = some e) : (s.engine e).lock = 0 := by
  have listed := List.mem_of_getLast? found
  simp only [List.mem_filter, Bool.and_eq_true, beq_iff_eq] at listed
  exact listed.2.1.2

/-- An engine that another client holds stays with it. -/
theorem State.cwClaim_lock {s : State} {p d e : Nat} (held : (s.engine e).lock ≠ 0) :
    ((s.cwClaim p d).engine e).lock = (s.engine e).lock := by
  unfold State.cwClaim
  extract_lets x mask
  split
  · rfl
  split
  · rename_i other found
    have differs : e ≠ other := fun same => held (same ▸ State.lock_of_engineHigh found)
    exact congrArg Engine.lock (State.engine_modEngine_ne s differs _)
  · split <;> rfl

/-- The claim of the receive direction leaves the engine of the transmit direction. -/
theorem State.cwClaim_engTx (s : State) (p : Nat) : ((s.cwClaim p 1).port p).cw.engTx = (s.port p).cw.engTx := by
  unfold State.cwClaim
  extract_lets x mask
  split
  · rfl
  split
  · rw [State.port_modPort]
    rfl
  · split <;> rfl

/-- A transmit direction without an engine takes the one that is free for it. -/
theorem State.cwClaim_of_free {s : State} {p e : Nat} (causeway : (s.port p).cfg.causeway = true)
    (enc : (s.port p).cw.enc = true) (bare : (s.port p).cw.engTx = none)
    (found : s.engineHigh (s.keySlot (handleSlot ((s.port p).cw.handle 0))).engines = some e) : s.cwClaim p 0 =
      (s.engineTake e (cwClient p 0)).modPort p fun y => { y with cw := { y.cw with engTx := some e } } := by
  rw [State.cwClaim, if_neg (by simp [causeway, enc, CwPort.eng, bare])]
  simp only [found, if_true]

theorem State.keyFail_engines (s : State) (h client : Nat) : (s.keyFail h client).sec.engines = s.sec.engines := by
  unfold State.keyFail
  extract_lets counted k
  have counts : counted.sec.engines = s.sec.engines := congrArg Sec.engines (s.count_tells 11 0x10000 ctrKeyKeyFail 1).sec
  split
  · exact counts
  · exact (congrArg Sec.engines (State.raiseOf_tells _ _ _ _).sec).trans counts

theorem State.keyUse_engines (s : State) (k : Nat) : (s.keyUse k).sec.engines = s.sec.engines := by
  unfold State.keyUse
  extract_lets used x
  split
  · exact (congrArg Sec.engines ((used.count_tells _ _ _ _).trans (State.raiseOf_tells _ _ _ _)).sec).trans rfl
  · rfl

theorem State.cwDerive_engines (s : State) (p d : Nat) (context : List Byte) :
    (s.cwDerive p d context).1.sec.engines = s.sec.engines := by
  unfold State.cwDerive
  extract_lets h k
  split
  · exact s.keyFail_engines _ _
  · exact s.keyUse_engines _

theorem State.cwDerive_cw (s : State) (p d : Nat) (context : List Byte) (q : Nat) :
    ((s.cwDerive p d context).1.port q).cw.engTx = (s.port q).cw.engTx := by
  have keeps : Keeps offPorts s (s.cwDerive p d context).1 := State.cwDerive_keeps (offPorts_within rfl) (.refl s)
  have same : (s.cwDerive p d context).1.port q = _ := keeps.same .eth (by decide) q
  rw [same]

/-- The session of a port moves no engine and leaves the port the engine it has. -/
theorem State.cwSession_engine (s : State) (p : Nat) : (s.cwSession p).sec.engines = s.sec.engines ∧
    ((s.cwSession p).port p).cw.engTx = (s.port p).cw.engTx := by
  unfold State.cwSession
  extract_lets x
  split
  · exact ⟨rfl, rfl⟩
  generalize first : s.cwDerive p 0 (x.nonce ++ x.peerNonce) = tx
  generalize second : tx.1.cwDerive p 1 (x.peerNonce ++ x.nonce) = rx
  subst first second
  refine ⟨(State.cwDerive_engines _ _ _ _).trans (State.cwDerive_engines _ _ _ _), ?_⟩
  rw [State.port_modPort]
  exact (State.cwDerive_cw _ _ _ _ p).trans (State.cwDerive_cw _ _ _ _ p)

/-! ## The causeway (R510, R511, R520 to R524, R526, R531) -/

section
variable {s : State} {t : Nat}

/-- A port whose directions have asked for their engines, and the waits that have ended (R526). -/
def State.engineClaimed (s : State) (p : Nat) : State :=
  ((s.cwClaim p 0).cwClaim p 1).modSec fun z => { z with
    engWait := z.engWait.filter fun w => !((w.1 == cwClient p 0 && (((s.cwClaim p 0).cwClaim p 1).port p).cw.engTx.isSome) ||
      (w.1 == cwClient p 1 && (((s.cwClaim p 0).cwClaim p 1).port p).cw.engRx.isSome)) }

/-- Such a port with the session that both engines bring (R525). -/
def State.engineClaim (s : State) (p : Nat) : State :=
  if (((s.cwClaim p 0).cwClaim p 1).port p).cw.engTx.isSome && (((s.cwClaim p 0).cwClaim p 1).port p).cw.engRx.isSome &&
      (((s.cwClaim p 0).cwClaim p 1).port p).cw.sessTx.isNone then (s.engineClaimed p).cwSession p
  else s.engineClaimed p

theorem exec_cwEngineClaim_of_encrypting {p : Fin 24} (causeway : ((s.tick t).port p).cfg.causeway = true)
    (enc : ((s.tick t).port p).cw.enc = true) :
    exec (.cwEngineClaim t p) s = .next (((s.tick t).engineClaim p).encJudge p) :=
  congrArg Host.Outcome.next (if_neg (by simp [causeway, enc]))

theorem State.engineClaim_engine (s : State) (p : Nat) :
    (s.engineClaim p).sec.engines = ((s.cwClaim p 0).cwClaim p 1).sec.engines ∧
      ((s.engineClaim p).port p).cw.engTx = (((s.cwClaim p 0).cwClaim p 1).port p).cw.engTx := by
  unfold State.engineClaim
  split
  · exact State.cwSession_engine (s.engineClaimed p) p
  · exact ⟨rfl, rfl⟩

theorem exec_cwEngineClaim_of_free {p : Fin 24} {e : Nat} (causeway : ((s.tick t).port p).cfg.causeway = true)
    (enc : ((s.tick t).port p).cw.enc = true) (bare : ((s.tick t).port p).cw.engTx = none)
    (found : (s.tick t).engineHigh ((s.tick t).keySlot (handleSlot (((s.tick t).port p).cw.handle 0))).engines = some e) :
    ∃ v : State, exec (.cwEngineClaim t p) s = .next (v.encJudge p) ∧ (v.port p).cw.engTx = some e ∧
      (v.engine e).lock = cwClient p 0 := by
  obtain ⟨engines, engTx⟩ := (s.tick t).engineClaim_engine p
  have taken := State.cwClaim_of_free causeway enc bare found
  have held : (((s.tick t).cwClaim p 0).engine e).lock = cwClient p 0 := by
    rw [taken]
    exact congrArg Engine.lock (State.engine_modEngine ..)
  refine ⟨_, exec_cwEngineClaim_of_encrypting causeway enc, ?_, ?_⟩
  · rw [engTx, State.cwClaim_engTx, taken, State.port_modPort]
  · rw [State.engine, engines]
    exact (State.cwClaim_lock (by rw [held]; unfold cwClient; omega)).trans held

/-- A broadcast leaves the chain map. -/
theorem State.tellAll_cw (s : State) (body : List Byte) : (s.tellAll body).cw = s.cw :=
  (State.tellAll_keeps (ar := Area.but [.cw]) (.of_all rfl) (.refl s)).same .cw (by decide)

theorem exec_topologySend_of_absent (absent : (s.tick t).cw.id = 0 ∨ (s.tick t).fwUp = false) :
    exec (.topologySend t) s = .next (s.tick t) :=
  congrArg Host.Outcome.next (if_pos (by rcases absent with h | h <;> simp [h, -State.tick_fields]))

theorem State.topologySend_topoAt (member : s.cw.id ≠ 0) (up : s.fwUp = true) : s.topologySend.cw.topoAt = s.now := by
  unfold State.topologySend
  extract_lets mac b
  rw [if_neg (by simp [member, up]), State.tellAll_cw]
  rfl

theorem exec_neighbourLost_of_due {p : Fin 24} (up : (s.tick t).fwUp = true) (heard : ((s.tick t).port p).cw.nbUp = true)
    (due : ((s.tick t).port p).cw.nbHeard + 30000000 ≤ (s.tick t).now) :
    exec (.neighbourLost t p) s = .next ((s.tick t).nbLost p) :=
  congrArg Host.Outcome.next (if_pos (by simp [up, heard, due, -State.tick_fields]))

theorem exec_neighbourLost_of_early {p : Fin 24} (early : (s.tick t).now < ((s.tick t).port p).cw.nbHeard + 30000000) :
    exec (.neighbourLost t p) s = .next (s.tick t) :=
  congrArg Host.Outcome.next (if_neg (by simp [early, -State.tick_fields]))

theorem exec_deviceUnheard_of_due {d : Fin 256} {x : Peer} (up : (s.tick t).fwUp = true)
    (found : (s.tick t).cw.peers.find d = some x) (due : x.heard + 300000000 ≤ (s.tick t).now) :
    exec (.deviceUnheard t d) s = .next (((s.tick t).modCw fun c => { c with peers := c.peers.erase d }).chainSettle
      (s.tick t).chain) := by
  rw [exec_deviceUnheard, execDeviceUnheard]
  simp only [found]
  rw [if_pos (by simp [up, due, -State.tick_fields])]

theorem exec_deviceUnheard_of_early {d : Fin 256} {x : Peer} (found : (s.tick t).cw.peers.find d = some x)
    (early : (s.tick t).now < x.heard + 300000000) : exec (.deviceUnheard t d) s = .next (s.tick t) := by
  rw [exec_deviceUnheard, execDeviceUnheard]
  simp only [found]
  rw [if_neg (by simp [early, -State.tick_fields])]

theorem exec_cwEventReceived_of_master {d : Nat} {body : List Byte} (up : (s.tick t).fwUp = true)
    (master : (s.tick t).isMaster = true) : exec (.cwEventReceived t d body) s = .next ((s.tick t).raise 116 0xFF noUnit
      (le body 0 1 + d % 256 * 256 + be body 6 2 * 65536)) :=
  congrArg Host.Outcome.next (if_pos (by simp [up, master]))

end

/-- Settles O55: greetings and topology messages end in the model's functions, a free engine is taken and stays taken through
the other direction's claim and the session, and a lost neighbour stays down while the chain settles. -/
theorem causewayKeepsItsChain : Obligations.CausewayKeepsItsChain := by
  unfold Obligations.CausewayKeepsItsChain
  intro s t
  refine ⟨fun p => ⟨fun causeway up => ?_, fun idle => ?_⟩, fun p body => ⟨fun greets linkUp => ?_, fun tells => ?_,
    fun no => ?_, fun no => ?_⟩, fun p other => ?_, fun p e => exec_cwEngineClaim_of_free, rfl,
    exec_topologySend_of_absent, fun member up => ⟨_, rfl, State.topologySend_topoAt member up⟩,
    fun p up heard => ⟨fun due => ⟨exec_neighbourLost_of_due up heard due, State.nbLost_nbUp heard⟩,
      exec_neighbourLost_of_early⟩,
    fun d x up found => ⟨exec_deviceUnheard_of_due up found, exec_deviceUnheard_of_early found⟩,
    fun d body => ⟨fun up master => ⟨_, exec_cwEventReceived_of_master up master, State.raise_tells _ _ _ _ _,
      State.raise_sets _ _ _ _ (by decide)⟩, fun other => ?_⟩⟩
  · exact congrArg Host.Outcome.next (if_neg (by simp [causeway, up]))
  · exact congrArg Host.Outcome.next (if_pos (by rcases idle with h | h <;> simp [h]))
  · exact congrArg Host.Outcome.next (if_pos (by simp [greets, linkUp]))
  · exact congrArg Host.Outcome.next (if_pos tells)
  · exact congrArg Host.Outcome.next (if_neg (by simp [no]))
  · exact congrArg Host.Outcome.next (if_neg (ne_true_of_eq_false no))
  · exact congrArg Host.Outcome.next (if_pos (by simp [other]))
  · exact congrArg Host.Outcome.next (if_neg (by simp [other]))

end Sys2Proof.Machine

namespace Sys2Proof.Machine

/-! ## Remote access and its locks (R516, R527 to R530) -/

section
variable {s : State} {t dev : Nat} {body : List Byte}

theorem exec_remoteRequestReceived_of_request (up : (s.tick t).fwUp = true) (kind : le body 0 1 = 0)
    (long : 13 ≤ body.length) : exec (.remoteRequestReceived t dev body) s = .next ((s.tick t).farServe dev body) :=
  congrArg Host.Outcome.next (if_pos (by simp [up, kind, long]))

theorem exec_lockRequestReceived_of_target (up : (s.tick t).fwUp = true) (kind : le body 0 1 = 2)
    (other : dev ≠ (s.tick t).cw.id) (fresh : (s.tick t).farStored dev (be body 7 4) = none)
    (target : (s.tick t).lockTarget (le body 1 1) (be body 2 4) = stOk) :
    exec (.lockRequestReceived t dev body) s = .next ((s.tick t).lockAsk (le body 1 1) (be body 2 4) dev (le body 6 1)
      (((s.tick t).hopsTo dev).getD 0) (be body 7 4)) := by
  rw [exec_lockRequestReceived, execLockRequestReceived]
  simp only [up, kind, other, fresh, target, ne_eq, not_false_eq_true, decide_true, Bool.and_self, if_true]

theorem exec_lockRequestReceived_of_no_target {st : Nat} (up : (s.tick t).fwUp = true) (kind : le body 0 1 = 2)
    (other : dev ≠ (s.tick t).cw.id) (fresh : (s.tick t).farStored dev (be body 7 4) = none)
    (target : (s.tick t).lockTarget (le body 1 1) (be body 2 4) = st) (bad : st ≠ stOk) :
    exec (.lockRequestReceived t dev body) s = .next ((s.tick t).farDone dev (be body 7 4)
      (lockContent (le body 1 1) (be body 2 4)) (doneBody (be body 7 4) st 0 [])) := by
  rw [exec_lockRequestReceived, execLockRequestReceived]
  simp only [up, kind, other, fresh, target, bad, ne_eq, not_false_eq_true, decide_true, Bool.and_self, if_true, if_false]

theorem exec_writeAndUnlockReceived_of_unlock (up : (s.tick t).fwUp = true) (kind : le body 0 1 = 4) :
    exec (.writeAndUnlockReceived t dev body) s = .next ((s.tick t).unlockServe dev body) :=
  congrArg Host.Outcome.next (if_pos (by simp [up, kind]))

theorem exec_lockGrantReceived_of_current {r : RemoteRun} (up : (s.tick t).fwUp = true) (kind : le body 0 1 = 3)
    (current : (s.tick t).lockRun dev (le body 6 1) = some r) :
    exec (.lockGrantReceived t dev body) s = .next ((s.tick t).grantTake r (be body 7 8)) := by
  rw [exec_lockGrantReceived, execLockGrantReceived]
  simp only [up, kind, current, decide_true, Bool.and_self, if_true]

theorem exec_lockGrantReceived_of_stale (up : (s.tick t).fwUp = true) (kind : le body 0 1 = 3)
    (stale : (s.tick t).lockRun dev (le body 6 1) = none) : exec (.lockGrantReceived t dev body) s =
      .next ((s.tick t).unlockSend dev 0 (le body 1 1) (be body 2 4) (le body 6 1) 2 0) := by
  rw [exec_lockGrantReceived, execLockGrantReceived]
  simp only [up, kind, stale, decide_true, Bool.and_self, if_true]

theorem exec_lockRetryReceived_of_current {r : RemoteRun} (up : (s.tick t).fwUp = true) (kind : le body 0 1 = 5)
    (current : (s.tick t).lockRun dev (le body 1 1) = some r) :
    exec (.lockRetryReceived t dev body) s = .next ((s.tick t).retryRun r.mbx) := by
  rw [exec_lockRetryReceived, execLockRetryReceived]
  simp only [up, kind, current, decide_true, Bool.and_self, if_true]

theorem exec_remoteCompletionReceived_of_run {r : RemoteRun} (up : (s.tick t).fwUp = true) (kind : le body 0 1 = 1)
    (waiting : ((s.tick t).cw.runs.find? fun r => r.dev == dev && r.reqId == be body 1 4 && decide (r.phase ≤ 1)) = some r) :
    exec (.remoteCompletionReceived t dev body) s =
      .next ((s.tick t).remoteAnswer r (le body 5 1) (be body 6 4) (body.drop 10)) := by
  rw [exec_remoteCompletionReceived, execRemoteCompletionReceived, if_neg (by simp [up])]
  simp only [kind, waiting, if_true]

/-- Firmware serves remote access: without it nothing of it moves. -/
theorem exec_remote_of_fwDown (down : (s.tick t).fwUp = false) :
    exec (.remoteRequestReceived t dev body) s = .next (s.tick t) ∧
      exec (.lockRequestReceived t dev body) s = .next (s.tick t) ∧
      exec (.writeAndUnlockReceived t dev body) s = .next (s.tick t) ∧
      exec (.lockGrantReceived t dev body) s = .next (s.tick t) ∧
      exec (.lockRetryReceived t dev body) s = .next (s.tick t) ∧
      exec (.remoteCompletionReceived t dev body) s = .next (s.tick t) ∧
      exec (.peerCommandReceived t body) s = .next (s.tick t) ∧ exec (.farLockExpiry t) s = .next (s.tick t) := by
  simp [execRemoteRequestReceived, execLockRequestReceived, execWriteAndUnlockReceived, execLockGrantReceived,
    execLockRetryReceived, execRemoteCompletionReceived, execPeerCommandReceived, execFarLockExpiry, down]

theorem exec_farLockExpiry_of_unlocked (free : (s.tick t).cw.locks = []) : exec (.farLockExpiry t) s = .next (s.tick t) := by
  rw [exec_farLockExpiry, execFarLockExpiry]
  simp only [free, List.filter_nil]
  exact congrArg Host.Outcome.next (ite_self _)

/-- The only lock, of another device, ends past its limit (R529). -/
theorem exec_farLockExpiry_of_due {l : FarLock} (up : (s.tick t).fwUp = true) (only : (s.tick t).cw.locks = [l])
    (other : l.owner ≠ (s.tick t).cw.id) (due : l.granted + hopLimitNs l.hops ≤ (s.tick t).now) :
    exec (.farLockExpiry t) s = .next (((s.tick t).count 14 0 ctrCwCwLockExpired).lockFree l.space l.addr) := by
  have listed : ((s.tick t).cw.locks.filter fun l =>
      l.owner != (s.tick t).cw.id && decide (l.granted + hopLimitNs l.hops ≤ (s.tick t).now)) = [l] := by
    simp [only, other, due, -State.tick_fields]
  rw [exec_farLockExpiry, execFarLockExpiry, if_neg (by simp [up])]
  simp only [listed]
  rfl

section
variable {m : Fin 8} {r : RemoteRun}

theorem exec_lockBackoffExpiry_of_due (up : (s.tick t).fwUp = true) (run : (s.tick t).remoteRun m = some r)
    (phase : r.phase = 2) (due : r.backoffUntil ≤ (s.tick t).now) :
    exec (.lockBackoffExpiry t m) s = .next ((s.tick t).lockBegin m) := by
  rw [exec_lockBackoffExpiry, execLockBackoffExpiry]
  simp only [run, up, phase, due, decide_true, Bool.and_self, if_true]

theorem exec_lockBackoffExpiry_of_early (run : (s.tick t).remoteRun m = some r) (early : (s.tick t).now < r.backoffUntil) :
    exec (.lockBackoffExpiry t m) s = .next (s.tick t) := by
  rw [exec_lockBackoffExpiry, execLockBackoffExpiry]
  simp only [run]
  rw [if_neg (by simp [early, -State.tick_fields])]

theorem exec_remoteTimeout_of_due (up : (s.tick t).fwUp = true) (run : (s.tick t).remoteRun m = some r) (phase : r.phase ≤ 1)
    (due : r.sentAt + hopLimitNs r.hops ≤ (s.tick t).now) : exec (.remoteTimeout t m) s =
      .next ((((s.tick t).remoteEnd m).1.count 14 0 ctrCwRemoteTimeout).complete m {
        status := stTimeout, rflags := flag ((s.tick t).remoteEnd m).2 3 }) := by
  rw [exec_remoteTimeout, execRemoteTimeout]
  simp only [run, up, phase, due, decide_true, Bool.and_self, if_true]

theorem exec_remoteTimeout_of_early (run : (s.tick t).remoteRun m = some r)
    (early : (s.tick t).now < r.sentAt + hopLimitNs r.hops) : exec (.remoteTimeout t m) s = .next (s.tick t) := by
  rw [exec_remoteTimeout, execRemoteTimeout]
  simp only [run]
  rw [if_neg (by simp [early, -State.tick_fields])]

theorem exec_remoteTimers_of_idle (idle : (s.tick t).remoteRun m = none) :
    exec (.lockBackoffExpiry t m) s = .next (s.tick t) ∧ exec (.remoteTimeout t m) s = .next (s.tick t) := by
  rw [exec_lockBackoffExpiry, execLockBackoffExpiry, exec_remoteTimeout, execRemoteTimeout]
  simp only [idle, and_self]

end

theorem exec_peerCommandReceived_of_peer (kind : le body 0 1 = 7) (peer : (s.tick t).isPeer = true)
    (up : (s.tick t).fwUp = true) (version : le body 1 1 = 0) (mailbox : le body 2 1 < 8) :
    exec (.peerCommandReceived t body) s =
      .next ((s.tick t).peerRun (le body 2 1) (field body 3 16) (body.drop 19)) :=
  congrArg Host.Outcome.next ((if_neg (by simp [kind, peer, up])).trans (if_pos (by simp [version, mailbox])))

end

/-- Settles O56: each message by its first byte and each timer by its instant, the only due lock being the whole list that
ends. -/
theorem remoteAccessIsServedAndEnds : Obligations.RemoteAccessIsServedAndEnds := by
  unfold Obligations.RemoteAccessIsServedAndEnds
  intro s t dev body
  exact ⟨fun up => ⟨exec_remoteRequestReceived_of_request up, fun kind other fresh =>
      ⟨exec_lockRequestReceived_of_target up kind other fresh,
        fun _ => exec_lockRequestReceived_of_no_target up kind other fresh⟩,
      exec_writeAndUnlockReceived_of_unlock up, fun _ => exec_lockGrantReceived_of_current up,
      exec_lockGrantReceived_of_stale up, fun _ => exec_lockRetryReceived_of_current up,
      fun _ => exec_remoteCompletionReceived_of_run up⟩,
    exec_remote_of_fwDown, rfl, exec_farLockExpiry_of_unlocked, fun _ => exec_farLockExpiry_of_due,
    fun _ _ up run => ⟨exec_lockBackoffExpiry_of_due up run, exec_lockBackoffExpiry_of_early run,
      exec_remoteTimeout_of_due up run, exec_remoteTimeout_of_early run⟩,
    fun _ => exec_remoteTimers_of_idle, exec_peerCommandReceived_of_peer⟩

end Sys2Proof.Machine

namespace Sys2Proof.Machine

/-! ## Agreement on sleep, sleep entry and wake (R542, R545, R548 to R557, R560) -/

section
variable {s : State} {t : Nat}

/-! The consent lap and the laps of the buses. -/

theorem exec_consentLapStart_of_due (up : (s.tick t).ringUp = true) (leads : (s.tick t).leads = true)
    (base : (s.tick t).consentBase = true) (idle : (s.tick t).slp.lapRunning = false) (due : (s.tick t).slp.lapSeq = 0 ∨
      (s.tick t).slp.lapAt + (s.tick t).slp.lapInterval * 100000000 ≤ (s.tick t).now) :
    exec (.consentLapStart t) s = .next (((s.tick t).count 15 0 ctrSlpLapsStarted).lapJoin
      (((s.tick t).slp.lapSeq + 1) % 65536) 0 true) :=
  congrArg Host.Outcome.next (if_pos (by simp [up, leads, base, idle, due, -State.tick_fields]))

theorem exec_consentLapStart_of_not (not : (s.tick t).leads = false ∨ (s.tick t).consentBase = false ∨
    (s.tick t).slp.lapRunning = true) : exec (.consentLapStart t) s = .next (s.tick t) :=
  congrArg Host.Outcome.next (if_neg (by rcases not with h | h | h <;> simp [h, -State.tick_fields]))

section
variable {b : Fin 32} {body : List Byte} {l : BusLap}

theorem exec_busLapMessageReceived_of_lap (lap : ((s.tick t).bus b).wk.lap = some l) (up : (s.tick t).fwUp = true)
    (live : (s.tick t).busLive b = true) :
    exec (.busLapMessageReceived t b body) s = .next ((s.tick t).busLapTake b body l) := by
  rw [exec_busLapMessageReceived, execBusLapMessageReceived]
  simp only [lap, up, live, Bool.and_self, if_true]

theorem exec_nodeSlotTimeout_of_due (lap : ((s.tick t).bus b).wk.lap = some l) (up : (s.tick t).fwUp = true)
    (opened : l.opened = true) (sends : (s.tick t).busSends b = true)
    (due : l.atNs + ((s.tick t).bus b).wk.nodeSlotMs * 1000000 ≤ (s.tick t).now) :
    exec (.nodeSlotTimeout t b) s = .next ((s.tick t).busLapSkip b l) := by
  rw [exec_nodeSlotTimeout, execNodeSlotTimeout]
  simp only [lap, up, opened, sends, due, decide_true, Bool.and_self, if_true]

theorem exec_nodeSlotTimeout_of_not (lap : ((s.tick t).bus b).wk.lap = some l)
    (not : l.opened = false ∨ (s.tick t).now < l.atNs + ((s.tick t).bus b).wk.nodeSlotMs * 1000000) :
    exec (.nodeSlotTimeout t b) s = .next (s.tick t) := by
  rw [exec_nodeSlotTimeout, execNodeSlotTimeout]
  simp only [lap]
  rw [if_neg (by rcases not with h | h <;> simp [h, -State.tick_fields])]

end

/-! Laps of the devices. -/

section
variable {dev : Nat} {body : List Byte}

theorem exec_deviceLapReceived_of_member (up : (s.tick t).ringUp = true) (member : (s.tick t).cw.id ≠ 0)
    (whole : body.length = 36) (kind : le body 0 1 = 5) (follows : (s.tick t).leads = false) :
    (le body 1 1 = 1 → exec (.deviceLapReceived t dev body) s =
      .next ((s.tick t).lapJoin (be body 2 2) (BitVec.ofNat 256 (le body 4 32)) false)) ∧
    (le body 1 1 = 2 → exec (.deviceLapReceived t dev body) s =
      .next ((s.tick t).lapPass 2 (be body 2 2) (BitVec.ofNat 256 (le body 4 32))).commitHere) := by
  rw [exec_deviceLapReceived, execDeviceLapReceived, if_neg (by simp [up, member, whole, kind, -State.tick_fields])]
  refine ⟨fun op => ?_, fun op => ?_⟩
  · rw [if_pos op, if_neg (ne_true_of_eq_false follows)]
  · rw [if_neg (by rw [op]; decide), if_pos op, if_neg (ne_true_of_eq_false follows)]

theorem exec_deviceLapReceived_of_return (up : (s.tick t).ringUp = true) (member : (s.tick t).cw.id ≠ 0)
    (whole : body.length = 36) (kind : le body 0 1 = 5) (leads : (s.tick t).leads = true) (op : le body 1 1 = 1)
    (runs : (s.tick t).slp.lapRunning = true) (free : (s.tick t).slp.lapHeld = false)
    (current : be body 2 2 = (s.tick t).slp.lapSeq) : exec (.deviceLapReceived t dev body) s =
      .next ((s.tick t).lapReturn (BitVec.ofNat 256 (le body 4 32))) := by
  rw [exec_deviceLapReceived, execDeviceLapReceived, if_neg (by simp [up, member, whole, kind, -State.tick_fields]),
    if_pos op, if_pos leads, if_pos (by simp [runs, free, current, -State.tick_fields])]

theorem exec_sleepCancelReceived_of_cancel (up : (s.tick t).fwUp = true) (whole : body.length = 36)
    (kind : le body 0 1 = 5) (op : le body 1 1 = 3) :
    ((s.tick t).leads = true → exec (.sleepCancelReceived t dev body) s = .next (s.tick t).cancelTake) ∧
    ((s.tick t).leads = false → exec (.sleepCancelReceived t dev body) s = .next (s.tick t)) :=
  ⟨fun leads => congrArg Host.Outcome.next (if_pos (by simp [up, leads, whole, kind, op])),
    fun follows => congrArg Host.Outcome.next (if_neg (by simp [follows]))⟩

end

/-- A consent lap that does not return ends here and on every bus (R551 step 3). -/
def State.lapLate (s : State) : State :=
  ((s.modSlp fun z => { z with lapRunning := false, joined := false, bitSet := false, lapHeld := false }).each
    s.ringBuses fun s b => s.modWk b fun w => { w with lap := none }).count 15 0 ctrSlpLapsTimeout

theorem exec_lapTimeout_of_due (up : (s.tick t).ringUp = true) (runs : (s.tick t).slp.lapRunning = true)
    (due : (s.tick t).slp.lapAt + (s.tick t).slp.lapTimeout * 10000000 ≤ (s.tick t).now) :
    exec (.lapTimeout t) s = .next ((s.tick t).lapLate.cancelled 2) :=
  congrArg Host.Outcome.next (if_pos (by simp [up, runs, due, -State.tick_fields]))

theorem State.lapLate_slp (s : State) :
    s.lapLate.slp = { s.slp with lapRunning := false, joined := false, bitSet := false, lapHeld := false } := by
  unfold State.lapLate
  rw [(State.count_tells _ _ _ _ _).slp]
  exact List.foldlRecOn (motive := fun u : State => u.slp = _) _ _ rfl fun _ same _ _ => same

theorem exec_lapTimeout_of_idle (idle : (s.tick t).slp.lapRunning = false) :
    exec (.lapTimeout t) s = .next (s.tick t) :=
  congrArg Host.Outcome.next (if_neg (by simp [idle, -State.tick_fields]))

/-! Sleep entry. -/

theorem exec_sleepSettle_of_due {c : Nat} (commit : (s.tick t).slp.commitAt = some c) (entry : (s.tick t).slp.ps = .entry)
    (unsettled : (s.tick t).slp.settled = false) (due : c + (s.tick t).slp.settleMs * 1000000 ≤ (s.tick t).now) :
    exec (.sleepSettle t) s = .next (s.tick t).settle := by
  rw [exec_sleepSettle, execSleepSettle]
  simp only [commit]
  rw [if_pos (by simp [entry, unsettled, due, -State.tick_fields])]

theorem exec_sleepSettle_of_idle (idle : (s.tick t).slp.commitAt = none) : exec (.sleepSettle t) s = .next (s.tick t) := by
  rw [exec_sleepSettle, execSleepSettle]
  simp only [idle]

theorem exec_sleepPowerOff_of_settled (entry : (s.tick t).slp.ps = .entry) (settled : (s.tick t).slp.settled = true) :
    exec (.sleepPowerOff t) s = .next (s.tick t).powerOff :=
  congrArg Host.Outcome.next (if_pos (by simp [entry, settled, -State.tick_fields]))

theorem exec_sleepPowerOff_of_not (not : (s.tick t).slp.ps ≠ .entry) : exec (.sleepPowerOff t) s = .next (s.tick t) :=
  congrArg Host.Outcome.next (if_neg (by simp [not, -State.tick_fields]))

/-- The islands other than the Always-On Island are off, and nothing wakes the device (R552 step 3). -/
def State.asleep (s : State) : State :=
  (((s.count 15 0 ctrSlpSleeps).coreReset s.boot.lpddr .off).modSlp fun z => { z with ps := .sleep, sleptAt := s.now }).modBoot
    fun b => { b with pins := { b.pins with pwrEn := false, pwrSince := s.now, coreOk := false } }

theorem State.powerOff_of_unlatched (quiet : s.slp.latchedWake = none) : s.powerOff = s.asleep := by
  rw [State.powerOff]
  simp only [quiet]
  rfl

/-- A device that sleeps is out of the host's reach, its windows closed and its core supply off. -/
theorem State.asleep_off (s : State) : s.asleep.hostReach = false ∧ s.asleep.slp.ps = .sleep ∧ s.asleep.windows = [] ∧
    s.asleep.boot.pins.pwrEn = false := by
  refine ⟨?_, rfl, rfl, rfl⟩
  show (_ && _ && false && _) = false
  rw [Bool.and_false, Bool.false_and]

/-! Wake. -/

theorem exec_wakeSource_of_asleep {l : List WakeStim} (asleep : (s.tick t).slp.ps = .sleep) :
    exec (.wakeSource t l) s = .next (((s.tick t).wakeStims l).1.wakeBy ((s.tick t).wakeStims l).2) :=
  congrArg Host.Outcome.next (if_pos (beq_iff_eq.mpr asleep))

theorem exec_wakeSource_of_not {l : List WakeStim} (not : (s.tick t).slp.ps ≠ .sleep) :
    exec (.wakeSource t l) s = .next (s.tick t) :=
  congrArg Host.Outcome.next (if_neg fun asleep => not (beq_iff_eq.mp asleep))

theorem exec_wakeRequest_of_cause {x : WakeStim} {c : WakeCause} (cause : ((s.tick t).wakeDetect x).2 = some c) :
    exec (.wakeRequest t x) s = .next (((s.tick t).wakeDetect x).1.wakeReq (causeRecord c)) := by
  rw [exec_wakeRequest, execWakeRequest]
  simp only [cause]

theorem exec_wakeRequest_of_none {x : WakeStim} (quiet : ((s.tick t).wakeDetect x).2 = none) :
    exec (.wakeRequest t x) s = .next ((s.tick t).wakeDetect x).1 := by
  rw [exec_wakeRequest, execWakeRequest]
  simp only [quiet]

/-- A member whose lap neither commits nor goes on counts itself woken with cause 11 (R556). -/
def State.ringless (s : State) : State :=
  (s.modSlp fun z => { z with
    joined := false, bitSet := false, cancelSent := false, pendWake := none, hostConsent := false
    record := { cause := 11, rtcS := s.rtcMs / 1000 % 2 ^ 32 }
    log := z.log.map fun e => { e with capped := false } }).count 15 (0x10000 + 11) ctrWakeWakes

theorem exec_ringLost_of_due (up : (s.tick t).ringUp = true) (follows : (s.tick t).leads = false)
    (joined : (s.tick t).slp.joined = true) (bitSet : (s.tick t).slp.bitSet = true)
    (quiet : (s.tick t).slp.cancelSent = false)
    (due : (s.tick t).slp.lapAt + 2 * (s.tick t).slp.lapTimeout * 10000000 ≤ (s.tick t).now) :
    exec (.ringLost t) s = .next (s.tick t).ringless.awake := by
  rw [exec_ringLost, execRingLost, if_pos (by simp [up, follows, joined, bitSet, due, -State.tick_fields])]
  simp only [quiet, Bool.false_eq_true, if_false]
  rfl

/-- Only the sleep state and a counter move then. -/
theorem State.ringless_stands (s : State) : s.ringless.slp.record.cause = 11 ∧ s.ringless.slp.hostConsent = false ∧
    s.ringless.slp.joined = false ∧ s.ringless.host = s.host ∧ s.ringless.windows = s.windows := by
  have keeps : Keeps (Area.but [.host]) s s.ringless := State.count_keeps (.of_all rfl) (State.modSlp_keeps (.of_all rfl) (.refl s))
  have tells : Tells _ s.ringless := State.count_tells _ 15 (0x10000 + 11) ctrWakeWakes 1
  exact ⟨congrArg (fun z => z.record.cause) tells.slp, congrArg (·.hostConsent) tells.slp, congrArg (·.joined) tells.slp,
    keeps.same .host (by decide), tells.windows⟩

theorem exec_ringLost_of_apart (apart : (s.tick t).slp.joined = false) : exec (.ringLost t) s = .next (s.tick t) :=
  congrArg Host.Outcome.next (if_neg (by simp [apart, -State.tick_fields]))

/-- The wake is judged and forgotten (R560). -/
def State.wakeJudged (s : State) : State := s.modSlp fun z => { z with wokeAt := none, valid := false }

theorem exec_falseWakeCheck_of_due {w : Nat} (woke : (s.tick t).slp.wokeAt = some w)
    (due : w + 200000000 ≤ (s.tick t).now) :
    ((s.tick t).slp.valid = true → exec (.falseWakeCheck t) s = .next (s.tick t).wakeJudged) ∧
    ((s.tick t).slp.valid = false → exec (.falseWakeCheck t) s =
      .next ((s.tick t).wakeJudged.falseWake (s.tick t).slp.record.cause).markFalse) := by
  rw [exec_falseWakeCheck, execFalseWakeCheck]
  simp only [woke]
  rw [if_pos due]
  exact ⟨fun valid => congrArg _ (if_pos valid), fun wrong => congrArg _ (if_neg (ne_true_of_eq_false wrong))⟩

theorem exec_falseWakeCheck_of_idle (idle : (s.tick t).slp.wokeAt = none) :
    exec (.falseWakeCheck t) s = .next (s.tick t) := by
  rw [exec_falseWakeCheck, execFalseWakeCheck]
  simp only [idle]

theorem exec_twinSleepCommitReceived_of_standby {body : List Byte} (standby : (s.tick t).standby = true)
    (service : (s.tick t).slp.ps = .service) (up : (s.tick t).unitUp ⟨0, 41⟩ = true) :
    exec (.twinSleepCommitReceived t body) s = .next ((s.tick t).sleepEnter false) :=
  congrArg Host.Outcome.next (if_pos (by simp [standby, service, up, -State.tick_fields]))

end

/-- Settles O57: each lap message, timer and wake by its guard; a lap that does not return leaves no bus in it, and a device
that powers off with no wake latched is out of reach. -/
theorem sleepIsAgreedAndEnds : Obligations.SleepIsAgreedAndEnds := by
  unfold Obligations.SleepIsAgreedAndEnds
  intro s t
  refine ⟨exec_consentLapStart_of_due, exec_consentLapStart_of_not,
    fun b body l lap up live => ⟨exec_busLapMessageReceived_of_lap lap up live, exec_nodeSlotTimeout_of_due lap up,
      fun closed => exec_nodeSlotTimeout_of_not lap (.inl closed), fun early => exec_nodeSlotTimeout_of_not lap (.inr early)⟩,
    fun _ _ => exec_deviceLapReceived_of_member, fun _ _ => exec_deviceLapReceived_of_return,
    fun _ _ => exec_sleepCancelReceived_of_cancel, fun up runs due => ⟨_, exec_lapTimeout_of_due up runs due, ?_⟩,
    exec_lapTimeout_of_idle, fun _ => exec_sleepSettle_of_due, exec_sleepSettle_of_idle,
    fun entry settled => ⟨exec_sleepPowerOff_of_settled entry settled, fun quiet => ?_⟩, exec_sleepPowerOff_of_not,
    fun _ => exec_wakeSource_of_asleep, fun _ => exec_wakeSource_of_not, fun _ _ => exec_wakeRequest_of_cause,
    fun _ => exec_wakeRequest_of_none,
    fun up follows joined bitSet quiet due => ⟨_, exec_ringLost_of_due up follows joined bitSet quiet due,
      State.ringless_stands _⟩,
    exec_ringLost_of_apart, fun _ => exec_falseWakeCheck_of_due, exec_falseWakeCheck_of_idle,
    fun _ => exec_twinSleepCommitReceived_of_standby⟩
  · have told : ((s.tick t).lapLate.cancelled 2).slp = _ := (State.raise_tells _ _ _ _ _).slp.trans (State.lapLate_slp _)
    exact ⟨congrArg (·.lapRunning) told, congrArg (·.bitSet) told, State.raise_sets _ _ _ _ (by decide)⟩
  · rw [State.powerOff_of_unlatched quiet]
    exact State.asleep_off _

end Sys2Proof.Machine

namespace Sys2Proof.Machine

/-! ## Tables with all their entries listed, and with some left out -/

theorem assocFind_map_of_mem {α : Type} (f : Nat → α) {l : List Nat} {k : Nat} (listed : k ∈ l) :
    assocFind k (l.map fun i => (i, f i)) = some (f k) := by
  induction l with
  | nil => cases listed
  | cons j l ih =>
    rw [List.map_cons, assocFind]
    split
    · rename_i same
      rw [same]
    · rename_i differs
      exact ih ((List.mem_cons.mp listed).resolve_left fun same => differs same.symm)

theorem assocFind_filter {α : Type} {p : Nat × α → Bool} {k : Nat} (passes : ∀ v, p (k, v) = true) (l : List (Nat × α)) :
    assocFind k (l.filter p) = assocFind k l := by
  induction l with
  | nil => rfl
  | cons c l ih =>
    obtain ⟨j, v⟩ := c
    by_cases same : j = k
    · subst same
      rw [List.filter_cons_of_pos (passes v)]
      simp only [assocFind, if_true]
    · by_cases kept : p (j, v) = true
      · rw [List.filter_cons_of_pos kept]
        simp only [assocFind, same, if_false, ih]
      · rw [List.filter_cons_of_neg kept]
        simp only [assocFind, same, if_false, ih]

/-- A filter leaves the entry of a key that passes it whatever its value. -/
theorem Tab.get_filter {α : Type} (d : α) (t : Tab α) {p : Nat → α → Bool} {k : Nat} (passes : ∀ v, p k v = true) :
    (t.filter p).get d k = t.get d k :=
  congrArg (·.getD d) (assocFind_filter (p := fun c => p c.1 c.2) passes t.cells)

theorem State.isl_islandsSet (s : State) (p : Power) {i : Nat} (island : i < 6) :
    (s.islandsSet p).isl i = (s.isl i).settled p :=
  congrArg (·.getD {}) (assocFind_map_of_mem (fun i => (s.isl i).settled p) (List.mem_range.mpr island))

/-! ## Supplies, reset and the start (R567 to R571, R578 to R582, R597, R601 to R604, R606, R616) -/

section
variable {s : State} {t : Nat}

/-! Supplies and reset. -/

/-- `VDD_AON` has just entered its range (R604). -/
def State.aonRisen (s : State) : State := s.aonLost.modPins fun _ =>
  { pwrEn := false, pwrSince := s.now, coreOk := false, firstStart := true, resetLow := true }

theorem exec_powerOn_of_off (off : (s.tick t).boot.pins.aonOn = false) :
    exec (.powerOn t) s = .next (s.tick t).aonRisen :=
  congrArg Host.Outcome.next (if_neg (ne_true_of_eq_false off))

theorem State.aonRisen_held (s : State) : s.aonRisen.boot.pins.aonOn = true ∧ s.aonRisen.boot.pins.pwrEn = false ∧
    s.aonRisen.boot.pins.resetLow = true ∧ s.aonRisen.faultNLow = true ∧ s.aonRisen.hostReach = false ∧
    s.aonRisen.windows = [] ∧ s.aonRisen.ctrs = {} :=
  ⟨rfl, rfl, rfl, rfl, rfl, rfl, rfl⟩

/-- `VDD_AON` is out of its range (R453, R466). -/
def State.aonFallen (s : State) : State := s.aonLost.modPins fun _ =>
  { pwrEn := false, pwrSince := s.now, coreOk := false, aonOn := false, resetLow := true }

theorem State.aonFallen_bare (s : State) : s.aonFallen.boot.pins.aonOn = false ∧ s.aonFallen.hostReach = false ∧
    s.aonFallen.windows = [] ∧ s.aonFallen.ctrs = {} ∧ s.aonFallen.sec.record = {} ∧ s.aonFallen.slp.record = {} :=
  ⟨rfl, rfl, rfl, rfl, rfl, rfl⟩

theorem exec_resetN_of_fall {straps : Nat} (on : (s.tick t).boot.pins.aonOn = true)
    (high : (s.tick t).boot.pins.resetLow = false) : exec (.resetN t false straps) s = .next (s.tick t).resetHeld := by
  rw [exec_resetN, execResetN, if_neg (by simp [on, -State.tick_fields]), if_neg Bool.false_ne_true,
    if_neg (ne_true_of_eq_false high)]

/-- A device held in reset is out of reach and starts from nothing but what it keeps (R606). -/
theorem State.resetHeld_bare (s : State) : s.resetHeld.windows = [] ∧ s.resetHeld.hostReach = false ∧
    s.resetHeld.faultNLow = true ∧ s.resetHeld.boot.pins.pwrEn = false ∧ s.resetHeld.twin = s.twin.fresh s.now ∧
    s.resetHeld.boot.fwRunning = false ∧ ∀ m, s.resetHeld.mb m = {} := by
  refine ⟨rfl, ?_, rfl, rfl, rfl, rfl, fun _ => rfl⟩
  show (_ && false && _ && _) = false
  rw [Bool.and_false, Bool.false_and, Bool.false_and]

theorem exec_resetN_of_rise {straps : Nat} (on : (s.tick t).boot.pins.aonOn = true)
    (low : (s.tick t).boot.pins.resetLow = true) (normal : bit straps 3 = false) : exec (.resetN t true straps) s =
      .next ((((s.tick t).modPins fun p => { p with
        resetLow := false, strap := strapRole straps, flashMode := bit straps 2, testEn := false }).modPins fun p => { p with
          pwrEn := true, pwrSince := (s.tick t).now, firstStart := false }).modBoot fun b => { b with phase := .core }) := by
  rw [exec_resetN, execResetN, if_neg (by simp [on, -State.tick_fields]), if_pos rfl, if_pos low, State.resetReleased,
    if_neg (ne_true_of_eq_false normal), State.strapsTake, normal]
  rfl

theorem exec_pwrEnRetry_of_due (on : (s.tick t).boot.pins.aonOn = true) (asked : (s.tick t).boot.pins.pwrEn = true)
    (out : (s.tick t).boot.pins.coreOk = false) (whole : (s.tick t).boot.pins.brown = false)
    (due : (s.tick t).boot.pins.pwrSince + 10000000 ≤ (s.tick t).now) : exec (.pwrEnRetry t) s =
      .next (((s.tick t).count 16 0 ctrBootPwrRetries).modPins fun p => { p with
        pwrSince := (s.tick t).now + 100000000 }) :=
  congrArg Host.Outcome.next (if_pos (by simp [on, asked, out, whole, due, -State.tick_fields]))

theorem exec_coreSupply_of_in_range (inRange : (s.tick t).boot.pins.coreOk = true) :
    exec (.pwrEnRetry t) s = .next (s.tick t) ∧ exec (.coreSupplyInRange t) s = .next (s.tick t) :=
  ⟨congrArg Host.Outcome.next (if_neg (by simp [inRange, -State.tick_fields])),
    congrArg Host.Outcome.next (if_neg (by simp [inRange, -State.tick_fields]))⟩

/-- The islands are powered and local time starts (R342, R604). -/
def State.corePowered (s : State) : State :=
  { (s.islandsSet .on).modPins fun p => { p with coreOk := true, brown := false } with time := s.time.settled s.now }

theorem exec_coreSupplyInRange_of_asked (on : (s.tick t).boot.pins.aonOn = true)
    (asked : (s.tick t).boot.pins.pwrEn = true) (now : (s.tick t).boot.pins.pwrSince ≤ (s.tick t).now)
    (out : (s.tick t).boot.pins.coreOk = false) (high : (s.tick t).boot.pins.resetLow = false) :
    exec (.coreSupplyInRange t) s = .next (s.tick t).corePowered :=
  congrArg Host.Outcome.next (if_pos (by simp [State.pwrEnHigh, on, asked, now, out, high, -State.tick_fields]))

/-- An island that nothing holds is on then. -/
theorem State.corePowered_isl (s : State) {i : Nat} (island : i < 6) (unlatched : (s.isl i).latchedBy = none)
    (unheld : (s.isl i).hold = false) : (s.corePowered.isl i).power = .on := by
  have set : s.corePowered.isl i = (s.isl i).settled .on := s.isl_islandsSet .on island
  rw [set, Island.settled]
  simp only [unlatched, unheld, Option.isSome_none, Bool.false_eq_true, if_false]

/-- What a brown-out leaves (R603). -/
def State.brownedOut (s : State) : State := (s.count 16 0 ctrBootBrownouts).coreReset false .off

/-- The straps are sampled again, and a start follows unless `TEST_EN` is high (R597, R601). -/
def State.brownStart (s : State) (straps : Nat) : State :=
  ((s.strapsTake straps).modPins fun p => { p with coreOk := false, brown := true }).modBoot fun b => { b with
    phase := if bit straps 3 then .off else .core }

theorem exec_brownOut_of_powered (on : (s.tick t).boot.pins.aonOn = true) (asked : (s.tick t).boot.pins.pwrEn = true)
    (ok : (s.tick t).boot.pins.coreOk = true) : exec (.brownOut t) s =
      .next (((s.tick t).brownedOut.drawBelow 16).2.brownStart ((s.tick t).brownedOut.drawBelow 16).1) :=
  congrArg Host.Outcome.next (if_pos (by simp [on, asked, ok, -State.tick_fields]))

/-- The counters of start-up outlast a brown-out (R594). -/
theorem State.brownedOut_ctr (s : State) :
    s.brownedOut.ctr 16 0 ctrBootBrownouts = (s.ctr 16 0 ctrBootBrownouts).add s.now 1 := by
  have kept := Tab.get_filter ({} : Ctr) (s.count 16 0 ctrBootBrownouts).ctrs (p := fun k _ => k / 2 ^ 48 == 16)
    (k := ctrKey 16 0 ctrBootBrownouts) fun _ => by decide
  exact kept.trans (Tab.get_modify_same ..)

theorem exec_supplyWarning_of_source {k n : Nat} (source : supplySource k = some n) (other : k ≠ 11) :
    exec (.supplyWarning t k) s = .next ((s.tick t).report n) := by
  rw [exec_supplyWarning, execSupplyWarning]
  simp only [source, other, if_false]

theorem exec_jtagInstruction_of_passive {i : JtagInstr} (on : (s.tick t).boot.pins.aonOn = true)
    (high : (s.tick t).boot.pins.resetLow = false) (passive : jtagIsolates i = false) :
    exec (.jtagInstruction t i) s = .next ((s.tick t).modPins fun p => { p with jtag := i }) := by
  rw [exec_jtagInstruction, execJtagInstruction, if_neg (by simp [on, high, -State.tick_fields])]
  exact congrArg Host.Outcome.next (if_neg (by simp [passive]))

theorem exec_jtagInstruction_of_isolating {i : JtagInstr} (on : (s.tick t).boot.pins.aonOn = true)
    (high : (s.tick t).boot.pins.resetLow = false) (isolates : jtagIsolates i = true)
    (free : (s.tick t).boot.pins.jtagHeld = false) : exec (.jtagInstruction t i) s =
      .next ((s.tick t).modPins fun p => { p with jtag := i }).jtagIsolate := by
  have stillFree : ((s.tick t).modPins fun p => { p with jtag := i }).boot.pins.jtagHeld = false := free
  rw [exec_jtagInstruction, execJtagInstruction, if_neg (by simp [on, high, -State.tick_fields])]
  exact congrArg Host.Outcome.next (if_pos (by simp only [isolates, stillFree, Bool.not_false, Bool.and_self]))

/-! The start. -/

theorem exec_pufRegeneration_of_core {ok : Bool} {sets : Nat} (core : (s.tick t).boot.phase = .core)
    (inRange : (s.tick t).boot.pins.coreOk = true) :
    exec (.pufRegeneration t ⟨ok, sets⟩) s = .next ((s.tick t).pufStart ok sets) :=
  congrArg Host.Outcome.next (if_pos (by simp [core, inRange, -State.tick_fields]))

theorem exec_pufRegeneration_of_bare {ok : Bool} {sets : Nat} (late : (s.tick t).boot.phase ≠ .core)
    (bare : (s.tick t).sec.enrolled = false) : exec (.pufRegeneration t ⟨ok, sets⟩) s = .next (s.tick t) :=
  congrArg Host.Outcome.next ((if_neg (by simp [late, -State.tick_fields])).trans
    (if_neg (by simp [bare, -State.tick_fields])))

theorem exec_swapPageStep_of_loader {w : Swap} (swap : (s.tick t).boot.swap = some w)
    (loader : (s.tick t).boot.phase = .loader) : exec (.swapPageStep t) s = .next ((s.tick t).swapStep w) := by
  rw [exec_swapPageStep, execSwapPageStep]
  simp only [swap, loader, beq_self_eq_true, if_true]

theorem exec_swapPageStep_of_none (still : (s.tick t).boot.swap = none) :
    exec (.swapPageStep t) s = .next (s.tick t) := by
  rw [exec_swapPageStep, execSwapPageStep]
  simp only [still]

theorem exec_loaderImageCheck_of_loader {r g : Bool} (loader : (s.tick t).boot.phase = .loader)
    (still : (s.tick t).boot.swap = none) : exec (.loaderImageCheck t r g) s = .next ((s.tick t).loaderCheck r g) :=
  congrArg Host.Outcome.next (if_pos (by simp [loader, still, -State.tick_fields]))

theorem exec_firmwareStart_of_alarm (ready : (s.tick t).boot.phase = .ready) (alarm : (s.tick t).sec.alarms ≠ 0) :
    exec (.firmwareStart t) s = .next ((s.tick t).sealDevice 1) := by
  rw [exec_firmwareStart, execFirmwareStart, if_neg (not_not_intro ready), if_pos alarm]

/-- Firmware runs, the keys of an enrolled device not yet back (R567 step 6). -/
def State.firmwareRuns (s : State) : State := s.modBoot fun b => { b with fwRunning := true, phase := .firmware }

theorem exec_firmwareStart_of_bare (ready : (s.tick t).boot.phase = .ready) (quiet : (s.tick t).sec.alarms = 0)
    (bare : (s.tick t).sec.enrolled = false) : exec (.firmwareStart t) s =
      .next ((s.tick t).firmwareRuns.settingsConvert.pendRaise.each (List.range 8) State.firmwareTakes) := by
  have stillBare : (s.tick t).firmwareRuns.sec.enrolled = false := bare
  rw [exec_firmwareStart, execFirmwareStart, if_neg (not_not_intro ready), if_neg (not_not_intro quiet)]
  exact congrArg (fun u : State => Host.Outcome.next (u.settingsConvert.pendRaise.each (List.range 8) State.firmwareTakes))
    (if_neg (ne_true_of_eq_false stillBare))

theorem exec_firmwareStart_of_not (not : (s.tick t).boot.phase ≠ .ready) :
    exec (.firmwareStart t) s = .next (s.tick t) :=
  congrArg Host.Outcome.next (if_pos not)

theorem exec_firmwareReady_of_regular (firmware : (s.tick t).boot.phase = .firmware) (up : (s.tick t).fwUp = true)
    (quiet : (s.tick t).sec.alarms = 0) (regular : (s.tick t).boot.d.imgState ≠ 3) : exec (.firmwareReady t) s =
      .next ((s.tick t).install.modBoot fun b => { b with phase := .done }).enterService := by
  rw [exec_firmwareReady, execFirmwareReady, if_neg (by simp [firmware, up, -State.tick_fields]),
    if_neg (not_not_intro quiet)]
  exact congrArg Host.Outcome.next (if_neg (by simp [regular, -State.tick_fields]))

theorem exec_firmwareReady_of_not (not : (s.tick t).boot.phase ≠ .firmware) :
    exec (.firmwareReady t) s = .next (s.tick t) :=
  congrArg Host.Outcome.next (if_pos (by simp [not, -State.tick_fields]))

end

/-- Settles O58: what each supply and reset row leaves reads off the state it builds; a brown-out keeps the counters of
start-up through the filter that drops the others. -/
theorem theDeviceStartsAndSeals : Obligations.TheDeviceStartsAndSeals := by
  unfold Obligations.TheDeviceStartsAndSeals
  intro s t
  refine ⟨fun off => ⟨_, exec_powerOn_of_off off, State.aonRisen_held _⟩, fun on => congrArg Host.Outcome.next (if_pos on),
    ⟨(s.tick t).aonFallen, rfl, State.aonFallen_bare _⟩,
    fun on high _ => ⟨_, exec_resetN_of_fall on high, State.resetHeld_bare _⟩,
    fun on low _ => exec_resetN_of_rise on low, exec_pwrEnRetry_of_due, exec_coreSupply_of_in_range,
    fun on asked now out high => ⟨_, exec_coreSupplyInRange_of_asked on asked now out high, rfl, rfl,
      fun _ => State.corePowered_isl _, rfl⟩,
    fun on asked ok => ⟨_, _, State.drawBelow_lt _ (by decide), exec_brownOut_of_powered on asked ok, asked, rfl, ?_, rfl, rfl,
      rfl, rfl, State.brownedOut_ctr _⟩,
    fun _ _ => exec_supplyWarning_of_source, fun _ => exec_jtagInstruction_of_passive,
    fun _ => exec_jtagInstruction_of_isolating, fun _ _ => exec_pufRegeneration_of_core,
    fun _ _ => exec_pufRegeneration_of_bare, fun _ => exec_swapPageStep_of_loader, exec_swapPageStep_of_none,
    fun _ _ => exec_loaderImageCheck_of_loader, exec_firmwareStart_of_alarm,
    fun ready quiet bare => ⟨_, exec_firmwareStart_of_bare ready quiet bare, rfl⟩, exec_firmwareStart_of_not,
    exec_firmwareReady_of_regular, exec_firmwareReady_of_not⟩
  show (_ && _ && false && _) = false
  rw [Bool.and_false, Bool.false_and]

end Sys2Proof.Machine

namespace Sys2Proof.Machine

/-! ## Activation and update of a cascade (R576, R577, R583, R584) -/

section
variable {s : State} {t : Nat} {body : List Byte}

theorem exec_activateReboot_of_due {r : Nat} (reboot : (s.tick t).boot.rebootAt = some r) (due : r ≤ (s.tick t).now) :
    exec (.activateReboot t) s = .next (s.tick t).selfReset := by
  rw [exec_activateReboot, execActivateReboot]
  simp only [reboot]
  exact congrArg Host.Outcome.next (if_pos due)

theorem exec_activateReboot_of_early {r : Nat} (reboot : (s.tick t).boot.rebootAt = some r) (early : (s.tick t).now < r) :
    exec (.activateReboot t) s = .next (s.tick t) := by
  rw [exec_activateReboot, execActivateReboot]
  simp only [reboot]
  exact congrArg Host.Outcome.next (if_neg (Nat.not_le.mpr early))

theorem exec_activateReboot_of_none (still : (s.tick t).boot.rebootAt = none) :
    exec (.activateReboot t) s = .next (s.tick t) := by
  rw [exec_activateReboot, execActivateReboot]
  simp only [still]

/-- A device that resets itself starts again at the core (R577). -/
theorem State.selfReset_bare (s : State) :
    s.selfReset.boot.phase = .core ∧ s.selfReset.windows = [] ∧ s.selfReset.boot.fwRunning = false :=
  ⟨rfl, rfl, rfl⟩

/-! Messages of the cascade. -/

theorem exec_updateChunkReceived_of_step (up : (s.tick t).fwUp = true) (kind : le body 0 1 = 4) (long : 6 ≤ body.length) :
    exec (.updateChunkReceived t body) s = .next (((s.tick t).targetStep (le body 1 1) (body.drop 6)).1.tell
      ((s.tick t).targetStep (le body 1 1) (body.drop 6)).1.cw.master 3
        (relayBody (be body 2 4) ((s.tick t).targetStep (le body 1 1) (body.drop 6)).2)) :=
  congrArg Host.Outcome.next (if_pos (by simp [up, kind, long]))

theorem exec_activationOrderReceived_of_order (up : (s.tick t).fwUp = true) (kind : le body 0 1 = 4) :
    exec (.activationOrderReceived t body) s = .next ((s.tick t).takeOrder (le body 1 1) (body.drop 2)) :=
  congrArg Host.Outcome.next (if_pos (by simp [up, kind]))

theorem exec_activationReportReceived_of_member {dev : Nat} (up : (s.tick t).fwUp = true) (kind : le body 0 1 = 4)
    (master : (s.tick t).updMaster = true) (op : le body 1 1 = 1) (current : be body 2 4 = (s.tick t).boot.d.actId)
    (member : (s.tick t).boot.d.members.contains dev = true) : exec (.activationReportReceived t dev body) s =
      .next ((s.tick t).masterReport dev (be body 6 4) (le body 10 1)) := by
  rw [exec_activationReportReceived, execActivationReportReceived]
  simp only [up, master, kind, op, current, member, beq_self_eq_true, decide_true, Bool.and_self, if_true]

/-- Without firmware no message of an update is taken. -/
theorem exec_update_of_fwDown (down : (s.tick t).fwUp = false) :
    exec (.updateChunkReceived t body) s = .next (s.tick t) ∧
      exec (.activationOrderReceived t body) s = .next (s.tick t) ∧
      ∀ dev, exec (.activationReportReceived t dev body) s = .next (s.tick t) := by
  simp [execUpdateChunkReceived, execActivationOrderReceived, execActivationReportReceived, down]

theorem exec_activationReportSend_of_idle (idle : (s.tick t).reportDue = false) :
    exec (.activationReportSend t) s = .next (s.tick t) :=
  congrArg Host.Outcome.next (if_pos (by simp [idle]))

/-- The report of this instant is on its way (R583). -/
def State.reporting (s : State) : State := s.modBoot fun b => { b with reportAt := some s.now }

theorem exec_activationReportSend_of_member (due : (s.tick t).reportDue = true)
    (member : (s.tick t).reporting.updMaster = false) : exec (.activationReportSend t) s =
      .next ((s.tick t).reporting.tell (s.tick t).cw.master 2 (updBody 1 (beBytes 4 (s.tick t).boot.d.actId ++
        beBytes 4 (s.tick t).boot.d.runVer ++ leBytes 1 (s.tick t).reporting.ownResult))) :=
  congrArg Host.Outcome.next ((if_neg (by simp [due])).trans (if_neg (ne_true_of_eq_false member)))

/-! The waits of a trial. -/

section
variable {w : Nat} (trial : (s.tick t).boot.trialAt = some w)
include trial

theorem exec_actWaitExpiry_of_due (up : (s.tick t).fwUp = true) (running : (s.tick t).boot.state = 5)
    (master : (s.tick t).updMaster = true) (due : w + (s.tick t).boot.actWait * 1000000000 ≤ (s.tick t).now) :
    exec (.actWaitExpiry t) s = .next (s.tick t).orderBack :=
  congrArg Host.Outcome.next (if_pos (by simp [State.actWaitOver, trial, up, running, master, due, -State.tick_fields]))

theorem exec_actWaitExpiry_of_early (early : (s.tick t).now < w + (s.tick t).boot.actWait * 1000000000) :
    exec (.actWaitExpiry t) s = .next (s.tick t) :=
  congrArg Host.Outcome.next (if_neg (by simp [State.actWaitOver, trial, early, -State.tick_fields]))

theorem exec_selfSwapbackTimeout_of_due (up : (s.tick t).fwUp = true) (running : (s.tick t).boot.state = 5)
    (due : w + 2 * (s.tick t).boot.actWait * 1000000000 ≤ (s.tick t).now) : exec (.selfSwapbackTimeout t) s =
      .next (((s.tick t).drawBelow 256).2.swapBackHere ((s.tick t).drawBelow 256).1 true) := by
  rw [exec_selfSwapbackTimeout, execSelfSwapbackTimeout]
  simp only [trial]
  exact congrArg Host.Outcome.next (if_pos (by simp [up, running, due, -State.tick_fields]))

end

theorem exec_trialWaits_of_none (still : (s.tick t).boot.trialAt = none) :
    exec (.actWaitExpiry t) s = .next (s.tick t) ∧ exec (.selfSwapbackTimeout t) s = .next (s.tick t) := by
  refine ⟨congrArg Host.Outcome.next (if_neg (by simp [State.actWaitOver, still, -State.tick_fields])), ?_⟩
  rw [exec_selfSwapbackTimeout, execSelfSwapbackTimeout]
  simp only [still]

end

/-- Settles O59: each message and timer by its guard; the device that resets itself starts at the core, and the cause of a
swap back is a free value that leaves start-up as it is. -/
theorem updateOrdersAreTaken : Obligations.UpdateOrdersAreTaken := by
  unfold Obligations.UpdateOrdersAreTaken
  intro s t body
  exact ⟨fun _ reboot => ⟨fun due => ⟨exec_activateReboot_of_due reboot due, State.selfReset_bare _⟩,
      exec_activateReboot_of_early reboot⟩,
    exec_activateReboot_of_none,
    fun up kind => ⟨exec_updateChunkReceived_of_step up kind, exec_activationOrderReceived_of_order up kind,
      fun _ => exec_activationReportReceived_of_member up kind⟩,
    exec_update_of_fwDown, exec_activationReportSend_of_idle, exec_activationReportSend_of_member,
    fun _ trial up running => ⟨exec_actWaitExpiry_of_due trial up running, exec_actWaitExpiry_of_early trial,
      fun due => ⟨_, _, exec_selfSwapbackTimeout_of_due trial up running due, State.drawBelow_lt _ (by decide), rfl⟩⟩,
    exec_trialWaits_of_none⟩

end Sys2Proof.Machine
